-- ==== Sys2Proof/Word.lean ====
section
/-! DEFINITION. The word types of the block: the byte, byte strings, the 64-bit native word of 00_scope, the
16-bit status code of R13, and the sparse table every indexed resource is held in. -/

namespace Sys2Proof

/-- One byte of a request, a record, a frame or DDR. -/
abbrev Byte := BitVec 8

/-- A byte string, lowest offset first. -/
abbrev Bytes := List Byte

/-- The native 64-bit word (00_scope, Numbers and units). -/
abbrev Word := BitVec 64

/-- A mailbox or descriptor status code (R13). -/
abbrev Status := BitVec 16

/-- A sparse table of like things by index, indices strictly rising; an unlisted index holds its reset record. -/
abbrev Table (α : Type) := List (Nat × α)

end Sys2Proof
end

