-- ==== Sys2Proof/Config.lean ====
section
/-! DEFINITION. What the fused part fixes (00_scope R1 to R4), the constants of the manual, and the values the
manual leaves open, each an opaque constant with no body. -/

namespace Sys2Proof

/-- The two ordering codes of R1: the GNZ5032 is the GNZ5120 die fused down. -/
inductive Part where
  | gnz5120
  | gnz5032
  deriving DecidableEq, Repr

namespace Part

/-- Ports (R1). -/
def ports : Part → Nat
  | gnz5120 => 128
  | gnz5032 => 32

/-- Line lanes (R1, R8): four to a port. -/
def lanes (p : Part) : Nat := 4 * p.ports

/-- Trunk lanes (R1). -/
def trunkLanes : Part → Nat
  | gnz5120 => 8
  | gnz5032 => 2

/-- Trunk slots (R1): 64 to a trunk lane. -/
def slots (p : Part) : Nat := 64 * p.trunkLanes

/-- DDR channels (R1). -/
def ddrChannels : Part → Nat
  | gnz5120 => 4
  | gnz5032 => 2

/-- Bytes of DDR the part supports, taken as installed (R1: up to 64 GiB or 32 GiB). -/
def ddrBytes : Part → Nat
  | gnz5120 => 64 * 2 ^ 30
  | gnz5032 => 32 * 2 ^ 30

/-- Frames in flight (R1, R268). -/
def framesInFlight : Part → Nat
  | gnz5120 => 131072
  | gnz5032 => 32768

/-- Transmit queues (R1, R266): 32 to a port. -/
def queues (p : Part) : Nat := 32 * p.ports

/-- Canceller pairs (R1, R191). -/
def cancellerPairs : Part → Nat
  | gnz5120 => 1024
  | gnz5032 => 256

/-- Cells of one port share of the link buffer (R1, R272). -/
def cellsPerPort : Part → Nat
  | gnz5120 => 3072
  | gnz5032 => 21504

/-- Bytes of the backing region in DDR (R1, R273). -/
def backingBytes : Part → Nat
  | gnz5120 => 1032 * 2 ^ 20
  | gnz5032 => 258 * 2 ^ 20

/-- Bytes of the tone-map region in DDR (R175): 18 records of 3,328 bytes for each of 16,384 endpoints. -/
def mapBytes : Part → Nat := fun _ => 16384 * 59904

/-- Whether chain c exists (R1, R89): lane taps by lane, sensor streams 512 to 551 on both parts. -/
def hasChain (p : Part) (c : Nat) : Bool := decide (c < p.lanes) || (decide (512 ≤ c) && decide (c < 552))

/-- Whether pace tile n exists (R1, R48). -/
def hasTile (p : Part) (n : Nat) : Bool :=
  match p with
  | gnz5120 => decide (n < 20)
  | gnz5032 => decide (n < 4) || (decide (16 ≤ n) && decide (n < 20))

/-- The mirror lanes of a redundant pair (R1). -/
def mirrorLanes : Part → List Nat
  | gnz5120 => [6, 7]
  | gnz5032 => [1]

/-- PART of SYS_DEVICE_ID (R4). -/
def code : Part → Nat
  | gnz5120 => 0x5120
  | gnz5032 => 0x5032

end Part

namespace Config

/-- Sample periods of 2 ns in one microsecond (R43, R417). -/
def usTicks : Nat := 500

/-- Sample periods of 2 ns in one millisecond. -/
def msTicks : Nat := 500000

/-- Sample periods of 2 ns in one second. -/
def secTicks : Nat := 500000000

/-- The firmware release this manual documents (R434, R445). -/
def fwVersion : Nat := 0x0104

/-! ### Values the manual leaves open: opaque, nothing can evaluate them (log 3, log 16) -/

/-- A fresh value the manual does not state, by the free counter of State. -/
opaque freeNat : Nat → Nat

/-- A fresh byte string of the given length the manual does not state (a random draw, an undefined buffer). -/
opaque freeBytes : Nat → Nat → Bytes

/-- AES-GCM encryption (SP 800-38D, cited by R295): key, nonce, additional data, plaintext; answers ciphertext. -/
opaque gcmCipher : Bytes → Bytes → Bytes → Bytes → Bytes

/-- AES-GCM tag of 16 bytes: key, nonce, additional data, ciphertext. -/
opaque gcmTag : Bytes → Bytes → Bytes → Bytes → Bytes

/-- AES-CCM ciphertext (SP 800-38C): key, nonce, additional data, plaintext. -/
opaque ccmCipher : Bytes → Bytes → Bytes → Bytes → Bytes

/-- AES-CCM tag: key, nonce, additional data, plaintext, tag length. -/
opaque ccmTag : Bytes → Bytes → Bytes → Bytes → Nat → Bytes

/-- AES-CTR key stream applied to a text (SP 800-38A): key, initial counter block, text. -/
opaque ctrCipher : Bytes → Bytes → Bytes → Bytes

/-- AES key wrap of SP 800-38F (KW or, with true, KWP): key, text. -/
opaque keyWrap : Bool → Bytes → Bytes → Bytes

/-- AES key unwrap of SP 800-38F (KW or, with true, KWP): key, wrapped text; none when the integrity check fails. -/
opaque keyUnwrap : Bool → Bytes → Bytes → Option Bytes

/-- SHA-384 (R487, R492, R499). -/
opaque sha384 : Bytes → Bytes

/-- ECDSA P-384 verification (R499): public key, digest, signature. -/
opaque ecdsaVerify : Bytes → Bytes → Bytes → Bool

/-- ECDSA P-384 signature by the identity key (R492): digest, fresh counter. -/
opaque ecdsaSign : Bytes → Nat → Bytes

/-- The public key of the ephemeral pair of a fresh counter (R492). -/
opaque ecdhPublic : Nat → Bytes

/-- The x-coordinate of the shared point (R492): peer public key, the counter of the ephemeral pair. -/
opaque ecdhShared : Bytes → Nat → Bytes

/-- The device serial of the fuses, 8 bytes, most significant first (R485). -/
opaque serial : Bytes

/-- The identity public key (R503). -/
opaque identityPub : Bytes

/-- The image public keys of the fuses (R485). -/
opaque imageKey : Nat → Bytes

/-- The 18-bit coefficient of a tap at a phase of the windowed-sinc interpolator, and the fractional bits the coefficients have
(R92): neither is given. -/
opaque sincCoef : Nat → Nat → BitVec 18
opaque sincBits : Nat

/-- The root-mean-square level of 0 dBFS (R122), in 16-bit codes and units of 2^-40: whether it is that of a full-scale sine or of
full scale itself is not stated. -/
opaque fullScaleRms : Int

/-- The excitation current of a temperature input at a setting in 0.1 mA, in nA, as measured at reset release (R387). -/
opaque excitationCal : Nat → Nat → Nat

/-- The delay fitted to the phase slope of E_va (R193). -/
opaque delayFit : Table (Int × Int) → Nat

/-- Whether a peer public key is a point on P-384 (R492). -/
opaque validPoint : Bytes → Bool

end Config

end Sys2Proof
end

