-- ==== Sys2Proof/Syntax.lean ====
section
/-! DEFINITION. The commands the block takes: one constructor per row of the opcode table, and the records their
operands are given in. What the outside supplies at a row's moment (a received message, a sample, a measured
voltage, the outcome of a waveform the state does not hold) is an operand. -/

namespace Sys2Proof

/-- A firmware image as the boot ROM or the firmware reads it from flash (R486): what its header declares and
whether its signature verifies. -/
structure ImageView where
  magicOk : Bool
  version : Nat
  stateFormat : Nat
  length : Nat
  secver : Nat
  keyIndex : Nat
  sigOk : Bool
  deriving DecidableEq, Repr

/-- What a command meets outside the device while it runs: whether the read of its request fails (R591), what a
read of a ring's consumer offset returns (none when it fails), the bytes it reads from host memory, the level of its
port's DRVFLT, the flash image it checks, and the tamper sources active (bit k for source k). -/
structure CmdIo where
  readFails : Bool
  consumer : Option Nat
  data : Option Bytes
  drvfltLow : Bool
  image : Option ImageView
  tamperActive : Nat
  deriving DecidableEq, Repr

/-- Who sent a mailbox command and where its answer goes (R438): pod, lane, user tag, response address and space,
the completion-event bit, and what it meets outside. gone: a reset has ended or silenced the command while an engine still
worked for it (R462, R533), so that no record of it is written; a command arrives with it false. -/
structure Caller where
  pod : Nat
  lane : Nat
  tag : Word
  respAddr : Word
  respMax : Nat
  raise : Bool
  gone : Bool
  io : CmdIo
  deriving DecidableEq, Repr

/-- The two sample synthesizers (R76). -/
inductive Synth where
  | a | b
  deriving DecidableEq, Repr

/-- The outcome of a calibration (R69, R86): which of the four lanes passed and their aperture offsets in ps. -/
structure CalResult where
  pass : Nat
  apertures : List Int
  deriving DecidableEq, Repr

/-- The three PCIe resets of R533. -/
inductive PcieReset where
  | perst | hot | linkDown
  deriving DecidableEq, Repr

/-- What start-up finds outside the state (R487, R488, R490): the two selector copies (sequence number and slot),
the two images, and whether the entropy source's start-up tests pass. -/
structure BootView where
  selA : Option (Nat × Nat)
  selB : Option (Nat × Nat)
  img0 : Option ImageView
  img1 : Option ImageView
  entropyPass : Bool
  badCeilings : List Nat
  badRecords : List Nat
  badLins : List Nat
  deriving DecidableEq, Repr

/-- The post-detection signal-to-noise ratio that a receiver reports for one stream of a frame (R127): as the stream would be
under a number of streams (R583), by carrier from 15 on, in 1/256 dB. -/
structure SnrObs where
  streams : Nat
  stream : Nat
  db : List Int
  deriving DecidableEq, Repr

/-- A frame body as the receiver delivers it (R127, R140, R209): its decoded octets, the units a poisoned word reaches (R341),
the syndrome flag of each codeword, the signal-to-noise ratios reported, and whether the read of the map it names failed (R165,
R175). -/
structure RxBody where
  data : Bytes
  poison : List Nat
  syndrome : List Bool
  snr : List SnrObs
  mapFail : Bool
  deriving DecidableEq, Repr

/-- A lane transmit FIFO that falls short (R57): its lane, and whether the shortfall is a poisoned word (R282). -/
structure TxShort where
  lane : Nat
  parity : Bool
  deriving DecidableEq, Repr

/-- A preamble detected (R66, R130): the sample count of the frame start, and the frame gain of each lane in 0.5 dB units. -/
structure PreambleSeen where
  start : Nat
  gains : List Int
  deriving DecidableEq, Repr

/-- What the reads for a transmission return (R165, R281, R282): the frames whose stored words fail, and whether the read of the
map fails. -/
structure TxReads where
  poison : List Nat
  mapFail : Bool
  deriving DecidableEq, Repr

/-- A bin that a receive FFT gives (R182): carrier, branch from 0, real and imaginary part, in units of 2^-40. -/
structure Bin where
  carrier : Nat
  branch : Nat
  re : Int
  im : Int
  deriving DecidableEq, Repr

/-- One symbol of the grid as the canceller sees it (R187, R193): the sample count of its grid point, the victim's receive bins,
the aggressor's, and whether a coefficient read of the pair fails parity (R191). -/
structure CancSymbol where
  at_ : Nat
  victim : List Bin
  aggressor : List Bin
  parity : Bool
  deriving DecidableEq, Repr

/-- One input sample of a chain (R64, R68, R88). A lane's: the sample after the tap front's decimation, in the 16-bit codes of R64;
the servo term aligned with it, in the same units at the lane input and a gain of 0 dB; the converter samples it stands for. A charge
or voltage input's: its code (R386, R388). A temperature input's: v_on, and the first of codes v_off where offset cancel measures one,
both in the LSB of R386 (R387). -/
structure TapSample where
  value : Int
  servo : Int := 0
  codes : List Int := []
  deriving DecidableEq, Repr

/-- A group of a chain that a bank swap may take effect at (R114): the chain, and the sample count of the group's first sample. -/
structure BankSwap where
  chain : Nat
  first : Nat
  deriving DecidableEq, Repr

/-- An I2C bus held low (R407): its port, and whether SDA is held, else SCL. -/
structure BusHeld where
  port : Nat
  sda : Bool
  deriving DecidableEq, Repr

/-- The rest of a chunk (R369): the status octet and the bytes of the slot's stream. -/
structure ChunkBody where
  sstat : Nat
  data : Bytes
  deriving DecidableEq, Repr

/-- The host-memory accesses of a cipher descriptor (R311, R319). -/
structure DescIo where
  descFails : Bool
  readFails : Bool
  data : Bytes
  deriving DecidableEq, Repr

/-- One excitation pulse of a scan frame (R384, R392): the input, and whether the source held its current. -/
structure ScanCode where
  input : Nat
  compliant : Bool
  deriving DecidableEq, Repr

/-- A pulse of a localisation source (R400). -/
structure PdPulse where
  pre : List Int
  window : List Int
  deriving DecidableEq, Repr

/-- One slot position of a received frame or chunk (R354): label, SSTAT and its words. -/
structure SlotRxIn where
  k : Nat
  label : Nat
  sstat : Nat
  data : Bytes
  deriving DecidableEq, Repr

/-- A received Skeluz frame (R353, R354, R358): row 0, the arrival t2 past the device time of the moment in 2^-32 s
(under one sample period), and the slots; a position not listed carries LABEL 0 and nothing. -/
structure TrunkRx where
  mfi : Nat
  lane : Nat
  time : Nat
  tq : Nat
  lstat : Nat
  node : Nat
  echoTime : Nat
  echoDelay : Nat
  fine : Nat
  slots : List SlotRxIn
  deriving DecidableEq, Repr

/-- A mirror record (R370), by its kind 1 to 7. The manual gives no byte layout for their content. -/
inductive MirrorRec where
  /-- 1: endpoint, state code (0 Free, 1 Joining, 2 Reachable, 3 Unreachable), port, pod, EUI-64, cipher slots -/
  | endpoint (ep state port pod eui : Nat) (txSlot rxSlot : Option Nat)
  /-- 2: a tone-map record (R175) of a port, endpoint, direction and map -/
  | toneMap (port ep dir mapId generation streams gi rate flags : Nat) (loading feedback : Bytes) (infoBits : Nat)
  /-- 3: the active tree version of a port: parents by endpoint -/
  | tree (port version : Nat) (parents : List (Nat × Nat))
  /-- 4: next transmit and next expected sequence number of an endpoint and class -/
  | seqs (port ep cls next expected : Nat)
  /-- 5: neighbour counter, degraded state and d_rt -/
  | neighbour (port ep counter : Nat) (degraded : Bool) (dRt : Option Nat)
  /-- 6: beacon_seq and nominal start of a port -/
  | beacon (port seq start : Nat)
  /-- 7: configuration applied by a mailbox command: its pod, code and request -/
  | config (pod code : Nat) (req : Bytes)
  deriving DecidableEq, Repr


/-- The commands: one constructor per row of the opcode table. -/
inductive Instr where
  /-- POWER_ON (R528): VDD_AON rises from below 1.60 V, which starts a device reset with cause 1. -/
  | powerOn (dur : Nat)
  /-- SYS_RESET_N_LOW (R528): SYS_RESET_N is held low for 1 µs, which qualifies a device reset with cause 2. -/
  | sysResetNLow (dur : Nat)
  /-- BROWN_OUT (R527): A monitored rail stays below its threshold for 1 µs, which starts a device reset with cause 3. -/
  | brownOut (rails : Nat) (dur : Nat)
  /-- PF0_FUNCTION_LEVEL_RESET (R463): A Function Level Reset of physical function 0 starts a device reset with cause 4. -/
  | pf0FunctionLevelReset
  /-- RESET_RELEASE (R531): 1,000 µs after the last reset cause ends, the device releases reset and runs start-up until READY. -/
  | resetRelease (refclk25 : Bool) (boot : BootView)
  /-- PCIE_INTERFACE_RESET (R533): PERST, a hot reset or a link-down resets pods 1–64 and pod 0's host-facing registers, and the line keeps running. -/
  | pcieInterfaceReset (kind : PcieReset)
  /-- PCIE_LINK_UP (R533): After PERST is released the link trains again, and PF0 answers within 20 ms. -/
  | pcieLinkUp
  /-- VF_FUNCTION_LEVEL_RESET (R463): A Function Level Reset of virtual function n resets pod n. -/
  | vfFunctionLevelReset (n : Nat)
  /-- VF_DISABLE (R463): Clearing VF Enable, or lowering NumVFs below n, resets pod n. -/
  | vfDisable (numVfs : Nat)
  /-- POD_RESET_COMPLETE (R472): At the end of a pod reset, the device clears RESETTING, sets RESET_SEEN, lifts the fence and completes pod.reset. -/
  | podResetComplete (pod : Nat)
  /-- STANDBY_ENTRY (R534): 1 ms after the pwr.standby completion record, the device powers down everything except the always-on domain and the Chive island. -/
  | standbyEntry
  /-- CHIVE_BEACON (R535): On a Chive port in standby, every chive_every-th beacon of the 40 ms schedule is sent as a Leek ×8 Chive beacon, and the others are omitted. -/
  | chiveBeacon (port : Nat)
  /-- WAKE_FRAME (R536): A qualifying Leek ×8 frame control on a Chive port with wake enabled starts the wake sequence. -/
  | wakeFrame (port : Nat) (fc : Nat)
  /-- WAKE_IN_N_LOW (R537): WAKE_IN_N held low for 10 µs starts the wake sequence. -/
  | wakeInNLow (dur : Nat)
  /-- WAKE_TIMER (R537): The holdover counter reaches wake_at and starts the wake sequence. -/
  | wakeTimer
  /-- STANDBY_SET_APPLY (R538): After READY on wake, the firmware applies the standby set and reopens the ports that were open. -/
  | standbySetApply (failed : List Nat)
  /-- PCIE_WAKE_RELEASE (R538): PCIE_WAKE_N is released at link up, or 1 s after the wake. -/
  | pcieWakeRelease
  /-- PACE_MONITOR_UPDATE (R48): Every 10 µs each pace monitor publishes PACE, SLACK and DEMAND, and sets SHORT on a negative slack. -/
  | paceMonitorUpdate (tile : Nat) (pace : Nat) (slack : Int) (demand : Nat) (fifoPeak : Nat)
  /-- AVS_LOOP_START (R52): When VALID is set in all present tiles, the loop reads the regulator and sends its first voltage request. -/
  | avsLoopStart (vMeas : Nat)
  /-- AVS_LOOP_PERIOD (R52): Every 100 µs the loop adjusts v_req_mv from the minimum slack and V_cap, and recomputes the derating of R34 and R56. -/
  | avsLoopPeriod (vMeas : Nat)
  /-- AVS_RESPONSE_TIMEOUT (R54): The regulator does not answer an AVSBus command within 50 µs, so the device sets AVS_FAULT and raises an event. -/
  | avsResponseTimeout
  /-- AVS_SETTLE_CHECK (R54): 200 µs after a request, the device sets AVS_FAULT if V_MEAS_MV differs from V_REQ_MV by more than 15 mV. -/
  | avsSettleCheck (vMeas : Nat)
  /-- TX_FIFO_LOW_WATER (R55): A lane transmit FIFO falls below 2,048 samples during a transmission, which triggers the emergency voltage request and derating. -/
  | txFifoLowWater (lane : Nat)
  /-- TX_FIFO_UNDERFLOW (R57): A lane transmit FIFO underflows: the output goes to mid-scale, the frame rewinds without counting, and a port event is raised. -/
  | txFifoUnderflow (short : TxShort)
  /-- RX_FIFO_OVERFLOW (R58): A lane receive FIFO overflows: it discards samples to half depth, symbols are erased, the block gap is flagged, and an event is raised. -/
  | rxFifoOverflow (lane : Nat) (lost : Nat)
  /-- CORE_UNDERVOLTAGE (R545): VDD_CORE stays below 0.58 V for 200 ns on an active paired device, which then sends role failing. -/
  | coreUndervoltage (dur : Nat)
  /-- DRVFLT_QUALIFY (R74): DRVFLT is low for 200 ns: TXEN goes low, the transmission ends, the frame rewinds, and a port event is raised. -/
  | drvfltQualify (port : Nat)
  /-- DRIVER_AUTO_REARM (R75): After DRVFLT has stayed high for 10 ms, the device re-arms the driver, up to three times per second. -/
  | driverAutoRearm (port : Nat)
  /-- TXEN_RISE (R73): TXEN rises one lead time before the scheduled first sample of a transmission. -/
  | txenRise (port : Nat)
  /-- TXEN_FALL (R73): TXEN falls one tail time after the last sample, unless the next rise would follow within 1 µs. -/
  | txenFall (port : Nat)
  /-- REFERENCE_LOST (R77): The reference shows no edge for 400 ns or drifts beyond ±200 ppm: the synthesizers hold, REF_HOLD and REF_LOST are set, and an event is raised. -/
  | referenceLost
  /-- REFERENCE_RETURN (R77): The reference returns, and the synthesizers lock again without a gap in samples. -/
  | referenceReturn
  /-- SYNTH_FAILURE (R78): A synthesizer is declared failed: its ports stop, their MACs suspend, frames rewind, and the survivor begins adoption, or all ports stop if both have failed. -/
  | synthFailure (synth : Synth)
  /-- SYNTH_ADOPTION_COMPLETE (R78): Within 2 ms the adopted ports resume listening, taps resume with a gap flag, and a system event is raised. -/
  | synthAdoptionComplete (lost : Nat)
  /-- CALIBRATION_START (R71): Once the medium is idle and no acknowledgement is due, the device closes the loopback and starts the calibration of a lane.calibrate. -/
  | calibrationStart (port : Nat)
  /-- CALIBRATION_COMPLETE (R87): The calibration ends: the corrections are applied or kept, the loopback opens, and lane.calibrate completes. -/
  | calibrationComplete (port : Nat) (result : CalResult)
  /-- AGC_FRAME_GAIN_RELEASE (R66): 2 µs after the end of a frame, automatic gain returns to the listen gain. -/
  | agcFrameGainRelease (port : Nat)
  /-- PREAMBLE_DETECT (R130): The PHY detects a normal or Leek preamble, applies the frame gain, and takes symbol timing and the frame-start timestamp. -/
  | preambleDetect (port : Nat) (leek : Bool) (seen : PreambleSeen)
  /-- FRAME_CONTROL_RECEIVED (R150): A frame control is decoded and checked, which gives an FC failure, a malformed frame, a missing map, or the start of body decoding. -/
  | frameControlReceived (port : Nat) (fc : Nat)
  /-- FRAME_BODY_DECODED (R140): The body is decoded within 30 µs of the frame end; the outcomes go to the MAC and the estimates are updated. -/
  | frameBodyDecoded (port : Nat) (body : RxBody)
  /-- ACK_TRANSMIT (R217): 60 µs after the end of a received frame with ack_req set, the device sends the acknowledgement with the count of accepted units. -/
  | ackTransmit (port : Nat)
  /-- ACK_RECEIVED (R219): A valid acknowledgement inside the window makes the exchange succeed, and the accepted frames are released. -/
  | ackReceived (port : Nat) (fc : Nat) (start : Nat)
  /-- ACK_WINDOW_CLOSE (R219): The window closes without a valid acknowledgement: the exchange fails, the queue rewinds, and the counters, retry limit and PC3 escalation apply. -/
  | ackWindowClose (port : Nat)
  /-- PRS_SLOT (R214): At each priority-resolution slot, stations signal or listen, and leave the contention period when they lose. -/
  | prsSlot (port : Nat) (heard : Bool) (heardFrame : Bool)
  /-- BACKOFF_SLOT_END (R215): At the end of a back-off slot, a station decrements BC when it detected no S1, or keeps BC after detecting a frame. -/
  | backoffSlotEnd (port : Nat) (heardS1 : Bool) (heardFrame : Bool)
  /-- IDLE_RESTART (R213): After 16 consecutive idle back-off slots, a new contention period starts. -/
  | idleRestart (port : Nat)
  /-- UNDECODABLE_HOLD_OFF_END (R213): 190 µs after the busy end of an undecodable frame, a contention period starts. -/
  | undecodableHoldOffEnd (port : Nat)
  /-- FRAME_TRANSMIT_START (R216): A station whose back-off has ended starts its frame in the transmit opportunity at the scheduled sample count, with grid alignment and aggregation. -/
  | frameTransmitStart (port : Nat) (units : Nat) (reads : TxReads)
  /-- FRAME_TRANSMIT_END (R121): The last sample of a frame leaves, which opens the wait for the acknowledgement window. -/
  | frameTransmitEnd (port : Nat)
  /-- BEACON_START (R226): At the nominal beacon start, the port sends its beacon or omits it, and beacon-boundary changes apply. -/
  | beaconStart (port : Nat)
  /-- ZERO_CROSSING (R158): A qualified mains zero crossing updates the tracker's fit and its state counts. -/
  | zeroCrossing (port : Nat) (edge : Nat)
  /-- MAINS_ACQUIRE_TIMEOUT (R158): No qualifying run of crossings within 200 ms moves the tracker to Cycle-free. -/
  | mainsAcquireTimeout (port : Nat)
  /-- PREDICTED_CROSSING_MISS (R158): Four consecutive predicted crossings without a qualified crossing move the tracker to Cycle-free. -/
  | predictedCrossingMiss (port : Nat)
  /-- SLOT_BOUNDARY_PREFETCH (R176): At each cycle-slot boundary, the engine loads the maps of the slot after next for cached neighbours. -/
  | slotBoundaryPrefetch (port : Nat) (ddrFail : Bool)
  /-- TM_MAP_RECEIVED (R164): The device as using side checks and installs a TM_MAP, or refuses it, and answers TM_MAP_ACK. -/
  | tmMapReceived (port : Nat) (ep : Nat) (msg : Bytes)
  /-- TM_MAP_ACK_RECEIVED (R171): The computing side decodes TM_MAP_ACK and decodes later frames with the new generation. -/
  | tmMapAckReceived (port : Nat) (ep : Nat) (msg : Bytes)
  /-- TM_REQUEST_RECEIVED (R171): A TM_REQUEST makes the device send the named maps and sounding frames within their bounds. -/
  | tmRequestReceived (port : Nat) (ep : Nat) (msg : Bytes)
  /-- TM_INVALIDATE_RECEIVED (R170): A decoded TM_INVALIDATE marks the named maps invalid. -/
  | tmInvalidateReceived (port : Nat) (ep : Nat) (msg : Bytes)
  /-- TONEMAP_PERIODIC_REFRESH (R172): Every refresh_period, the engine recomputes its maps and sends a new generation when the change warrants it. -/
  | tonemapPeriodicRefresh (port : Nat) (ep : Nat) (mapId : Nat) (tails : List Int) (feedback : Bytes)
  /-- ESTIMATE_STALE (R166): An SNR estimate without an observation for refresh_period becomes stale, and sounding is requested before use. -/
  | estimateStale (port : Nat) (ep : Nat) (slot : Nat)
  /-- CANCELLER_SURVEY_END (R192): After the 2 s survey, candidates are selected into pairs, which enter Training, and the port event is raised. -/
  | cancellerSurveyEnd (victim : Nat) (ties : List Nat)
  /-- CANCELLER_SYMBOL (R196): At a victim symbol boundary, the covered corrections are applied and the coefficients are updated. -/
  | cancellerSymbol (victim : Nat) (aggressor : Nat) (sym : CancSymbol)
  /-- CANCELLER_STATE_CHANGE (R195): Echo gain over 256 or 4,096 covered symbols moves a pair into or out of Engaged, with an event, and marks estimates stale. -/
  | cancellerStateChange (victim : Nat) (aggressor : Nat) (was : Nat) (goal : Nat)
  /-- CANCELLER_DISENGAGED_TIMEOUT (R195): After 10 s in Disengaged, a pair returns to Training. -/
  | cancellerDisengagedTimeout (victim : Nat) (aggressor : Nat)
  /-- CANCELLER_SUSPEND_LONG (R197): A suspension cause that lasts longer than 1 s zeroes the pair's E_va and R_va. -/
  | cancellerSuspendLong (victim : Nat) (aggressor : Nat)
  /-- TREE_COMPUTATION (R251): At each beacon the engine computes a candidate tree within 10 ms, and starts a new version when a parent differs. -/
  | treeComputation (port : Nat)
  /-- TP_ROUTE_ACK_RECEIVED (R253): A TP_ROUTE_ACK lets the next depth proceed, activates the version when every endpoint has answered, or abandons it on result 1. -/
  | tpRouteAckReceived (port : Nat) (ep : Nat) (msg : Bytes)
  /-- PENDING_VERSION_TIMEOUT (R255): A pending version not complete within 8 beacon periods is abandoned. -/
  | pendingVersionTimeout (port : Nat)
  /-- TP_LINK_REPORT_RECEIVED (R248): A link report updates the link-quality matrix. -/
  | tpLinkReportReceived (port : Nat) (ep : Nat) (msg : Bytes)
  /-- TP_JOIN_RECEIVED (R259): A TP_JOIN is passed to pod 0, whose registry service may admit the endpoint. -/
  | tpJoinReceived (port : Nat) (ep : Nat) (msg : Bytes)
  /-- UNREACHABLE_HOLD_EXPIRY (R241): After unreachable_hold beacon periods, frames to an Unreachable endpoint that are not PC3 retire with ST_NO_ROUTE. -/
  | unreachableHoldExpiry (ep : Nat)
  /-- HELD_SUBMISSION_ADMIT (R276): At a release or quota change, a held submission is checked again and admitted when all checks pass. -/
  | heldSubmissionAdmit (idx : Nat)
  /-- FRAME_SEAL (R304): A pipeline seals an admitted frame with GCM and a hardware nonce; the protection header is added and the unit is enqueued with its mark. -/
  | frameSeal (flight : Nat) (plaintext : Option Bytes)
  /-- STAGING (R275): The device stages marked frames from their backing slots into the port share, and writes other frames back when room is short. -/
  | staging (port : Nat) (ddrFail : Bool)
  /-- UPLINK_OPEN (R305): A pipeline opens an uplink unit in held mode, checks nonce, tag and replay window, then delivers or discards the plaintext. -/
  | uplinkOpen (flight : Nat) (poison : Bool)
  /-- RX_RING_WRITE (R293): When the pod's receive ring has room, the device writes a held unit into it, then the producer offset. -/
  | rxRingWrite (flight : Nat) (consumer : Option Nat)
  /-- CIPHER_DESCRIPTOR_TAKE (R311): The device takes the descriptor at CONS of an enabled cipher ring when the conditions hold, and starts its job. -/
  | cipherDescriptorTake (pod : Nat) (ring : Nat) (desc : Bytes) (io : DescIo)
  /-- CIPHER_JOB_COMPLETE (R318): A cipher job ends, its held output is released or zeroed, and its completion record is written. -/
  | cipherJobComplete (pod : Nat) (ring : Nat) (idx : Nat)
  /-- MASK_RESEED (R320): After 2^16 blocks, a pipeline's mask generator is reseeded from the entropy source. -/
  | maskReseed (pipe : Nat)
  /-- ENTROPY_HEALTH_FAIL (R321): A continuous health test fails: reseeding stops and an entropy event is raised. -/
  | entropyHealthFail
  /-- ENTROPY_RETEST (R321): Every second after a failure, the source repeats its start-up tests, and reseeding resumes at the first pass. -/
  | entropyRetest (pass : Bool)
  /-- CHK_DMA_COMPLETE (R342): A check-value DMA job finishes its region and updates VALUE, RESULT and DONE. -/
  | chkDmaComplete (ctx : Nat) (ddrFail : Bool)
  /-- CHAIN_OUTPUT (R95): A decimation group completes; the chain rounds it, evaluates the comparators and fills the current block. -/
  | chainOutput (chain : Nat) (pos : Nat) (last : Nat) (samples : List TapSample) (poisons : List Nat) (consumer : Option Nat)
  /-- BANK_SWAP_EFFECT (R114): At the first group at or after at_time, a chain makes its inactive bank active and closes its block. -/
  | bankSwapEffect (swap : BankSwap)
  /-- SCAN_FRAME_START (R384): A precision converter's scan frame starts, and its positions take their slots and conversions. -/
  | scanFrameStart (conv : Nat) (codes : List ScanCode)
  /-- CHARGE_RESET (R389): In switched-reset mode, a code at ±1,792 closes the reset switch for 400 ns and causes a chain gap. -/
  | chargeReset (input : Nat) (code : Int)
  /-- CLAMP_FLAG_CHANGE (R390): Clamp current crosses 100 µA, or its 10 µs tail ends, and the input's clamp flag changes with an event. -/
  | clampFlagChange (input : Nat) (present : Bool)
  /-- COMMON_MODE_FLAG_CHANGE (R391): cm_q consecutive checks outside or inside the window set or clear the common-mode flag with an event. -/
  | commonModeFlagChange (input : Nat) (cmMv : Int)
  /-- DIE_TEMP_UPDATE (R395): Every 1 ms TMP_DIE_STATUS is updated with the junction temperatures. -/
  | dieTempUpdate (sensing : Int) (max : Int) (min : Int)
  /-- PD_PULSE_WINDOW_END (R400): 32 outputs after a trigger, the source computes peak, charge and arrival, and passes the pulse to its group. -/
  | pdPulseWindowEnd (group : Nat) (source : Nat) (pulse : PdPulse)
  /-- PD_CLUSTER_CLOSE (R401): When time passes t_first + W + 100 µs, the cluster closes and is issued as a record or discarded. -/
  | pdClusterClose (group : Nat) (consumer : Option Nat)
  /-- I2C_TRANSFER_START (R405): Once the bus is free, the device starts a queued I²C transfer. -/
  | i2cTransferStart (port : Nat)
  /-- I2C_ARBITRATION_LOSS (R406): The device loses arbitration, releases the bus, and retries the transfer or ends it with result 3. -/
  | i2cArbitrationLoss (port : Nat)
  /-- I2C_SCL_TIMEOUT (R407): SCL stays low for more than 25 ms, so the transfer ends with result 4. -/
  | i2cSclTimeout (held : BusHeld)
  /-- I2C_BUS_NOT_FREE_TIMEOUT (R405): The bus is not free within bus_timeout_ms, so the transfer ends with result 5. -/
  | i2cBusNotFreeTimeout (port : Nat)
  /-- TRUNK_FRAME_TRANSMIT (R351): At each 125 µs multiple, the device starts a Skeluz frame on every Skeluz lane. -/
  | trunkFrameTransmit
  /-- TRUNK_FRAME_RECEIVE (R358): A received in-frame frame is stamped, its overhead updates time transfer and defect counts, and its slots are demapped. -/
  | trunkFrameReceive (lane : Nat) (frame : TrunkRx)
  /-- FAS_MISSING_OOF (R359): FAS is missing in 4 consecutive windows, so the receiver goes out of frame. -/
  | fasMissingOof (lane : Nat)
  /-- CODEWORD_LOCK_CHANGE (R349): 4 good or 8 uncorrectable consecutive codewords gain or lose codeword lock. -/
  | codewordLockChange (lane : Nat) (good : Bool)
  /-- LOS_ENTRY (R359): Signal detect is absent for 2 µs or codeword lock is lost, so LOS is entered with its consequent actions. -/
  | losEntry (lane : Nat) (signal : Bool)
  /-- LOS_EXIT (R359): Signal detect and lock are held for 125 µs, so LOS exits. -/
  | losExit (lane : Nat)
  /-- LOF_ENTRY (R359): OOF held for 3 ms enters LOF, and every slot of the lane fails. -/
  | lofEntry (lane : Nat)
  /-- LOF_EXIT (R359): In frame for 3 ms exits LOF. -/
  | lofExit (lane : Nat)
  /-- SD_EVALUATION (R359): Each 1 s window evaluates the corrected-symbol ratio for SD entry or exit. -/
  | sdEvaluation (lane : Nat) (corrected : Nat) (received : Nat)
  /-- SLOT_DEFECT_CHANGE (R359): Labels or RDI bits over 3 consecutive frames enter or exit lane RDI or slot AIS, UNEQ, PLM and RDI. -/
  | slotDefectChange (lane : Nat)
  /-- TRUNK_FIFO_SHORTFALL (R361): A trunk FIFO overflows or underflows, which fails the slots or sends AIS, and raises the FIFO event. -/
  | trunkFifoShortfall (lane : Nat) (transmit : Bool)
  /-- FEED_PACKET_RECEIVE (R364): A downlink feed packet is checked, sealed or enqueued, or discarded and counted. -/
  | feedPacketReceive (slot : Nat) (packet : Bytes)
  /-- TRUNK_UPLINK_PACKET (R363): An uplink unit enters a port uplink slot stream as a packet, and its reassembly is released. -/
  | trunkUplinkPacket (flight : Nat)
  /-- ETHERNET_CHUNK_SEND (R369): An Ethernet lane sends each slot's 1,000-word chunk in one frame. -/
  | ethernetChunkSend (lane : Nat) (slot : Nat)
  /-- ETHERNET_CHUNK_RECEIVE (R369): A received chunk frame feeds its slot stream, and a missing sequence or a bad FCS is treated as a gap. -/
  | ethernetChunkReceive (lane : Nat) (slot : Nat) (seq : Nat) (fcsOk : Bool) (label : Nat) (body : ChunkBody)
  /-- ETHERNET_CHUNK_TIMEOUT (R369): A slot without a chunk for 1 ms counts as slot AIS. -/
  | ethernetChunkTimeout (slot : Nat)
  /-- PAUSE_RECEIVED (R368): A received PAUSE frame is honoured when enabled. -/
  | pauseReceived (lane : Nat) (quanta : Nat)
  /-- TSI_COMMIT_BOUNDARY (R365): At frame boundary F, the standby TSI page becomes active. -/
  | tsiCommitBoundary
  /-- TSI_COPY_DONE (R365): The new active page is copied into the standby page and COMMIT_DONE is set. -/
  | tsiCopyDone
  /-- MIRROR_RECORD_RECEIVE (R370): The standby applies a mirror record from the active device. -/
  | mirrorRecordReceive (record : MirrorRec)
  /-- PEER_READY_SET (R370): The standby holds all mirrored state, sets PEER_READY, and raises the pair event. -/
  | peerReadySet
  /-- PEER_FAILING_DETECT (R371): Role failing in 2 consecutive mirror frames starts a takeover. -/
  | peerFailingDetect (role : Nat)
  /-- PAIR_TAKEOVER (R372): After 500 µs of LOS or LOF with peer loss confirmed, the standby takes over at the next frame boundary. -/
  | pairTakeover
  /-- TAKEOVER_BOUNDARY (R546): At boundary B, the new active device activates its page, jumps its sequence numbers, leaves shadow mode and drives TXEN. -/
  | takeoverBoundary
  /-- PLANNED_SWITCH_BOUNDARY (R373): At F + 2 of a planned switch, both devices swap pages and roles. -/
  | plannedSwitchBoundary
  /-- HEARTBEAT_LOSS (R544): PAIR_HB_IN not toggling for 100 µs confirms the peer's loss and raises the pair event. -/
  | heartbeatLoss
  /-- MIRROR_LINK_LOSS_TIMEOUT (R544): After 1 s of mirror-link loss with the heartbeat present, PEER_READY clears. -/
  | mirrorLinkLossTimeout
  /-- PPS_EDGE (R418): A PPS_IN edge qualifies the reference and measures the offset, or steps time at a pending step. -/
  | ppsEdge (edge : Nat)
  /-- PPS_EDGE_MISSING (R418): Two consecutive expected PPS edges do not come, so PPS is lost and the next reference is selected or holdover is entered. -/
  | ppsEdgeMissing
  /-- TIMEBASE_RENEWAL (R417): Every 1 ms the timebase renews its frequency correction and slew, and applies new settings. -/
  | timebaseRenewal
  /-- HOLDOVER_EXPIRY (R416): Holdover lasting beyond holdover_s degrades quality to 0b01. -/
  | holdoverExpiry
  /-- REVERTIVE_DISPLACE (R419): An earlier reference qualified for 10 s displaces the selected one when the revertive flag is set. -/
  | revertiveDisplace (reference : Nat)
  /-- TIME_STEP (R422): At the step instant, time becomes the whole second, the step log is written, and the step's effects of R423 apply. -/
  | timeStep
  /-- PPS_OUT_EDGE (R424): PPS_OUT rises at each whole second of device time and falls after pps_out_width_ms. -/
  | ppsOutEdge
  /-- MBX_DOORBELL (R436): A write to MBX_LANEl_PROD makes new descriptors visible to the device. -/
  | mbxDoorbell (pod : Nat) (lane : Nat) (prod : Nat)
  /-- MBX_DESCRIPTOR_TAKE (R441): The firmware takes the descriptor at CONS of a lane when credit and room allow, checks it, and starts the command. -/
  | mbxDescriptorTake (pod : Nat) (lane : Nat) (desc : Bytes) (request : Bytes) (descFails : Bool) (io : CmdIo)
  /-- MBX_LANE_ENABLE (R436): Setting or clearing ENABLE starts or stops the taking of descriptors, and faults on an invalid size. -/
  | mbxLaneEnable (pod : Nat) (lane : Nat) (on : Bool)
  /-- MBX_FAULT_CLEAR (R440): Clearing FAULT resumes the lane: the descriptor is read again and the kept records are written. -/
  | mbxFaultClear (pod : Nat) (lane : Nat)
  /-- MBX_CMPL_CONS_UPDATE (R441): The pod advances CMPL_CONS, which frees completion-ring room for waiting takes. -/
  | mbxCmplConsUpdate (pod : Nat) (lane : Nat) (cons : Nat)
  /-- COMMAND_WAIT_END (R592): A taken command that waited for a resource or an engine limit starts executing. -/
  | commandWaitEnd (caller : Caller)
  /-- SHEDDING_ENTRY (R444): High load in 4 consecutive 1 ms intervals, or too many waiting commands, enters saturation and sheds bulk commands. -/
  | sheddingEntry (loads : List Nat)
  /-- SHEDDING_EXIT (R444): Load below 0xB3 for 4 intervals, with fewer than 128 waiting, ends saturation. -/
  | sheddingExit (loads : List Nat)
  /-- NOTIFICATION_POST (R446): A device-originated record completes the oldest held listen, or is queued or discarded. -/
  | notificationPost (pod : Nat) (lane : Nat) (code : Nat) (body : Bytes)
  /-- WATCHDOG_EXPIRY (R447): The watchdog expires 50 ms after the last service and starts a firmware restart, or a halt under R449. -/
  | watchdogExpiry
  /-- PROCESSOR_FAULT (R447): A management processor fault starts a firmware restart, or a halt. -/
  | processorFault
  /-- FIRMWARE_RESTART_COMPLETE (R448): The restarted firmware sets READY and completes the interrupted commands from the journal or with ST_RESTARTED. -/
  | firmwareRestartComplete
  /-- METER_PERIOD (R458): Each schedule period, the meter service sends its query to the owned endpoints. -/
  | meterPeriod (schedule : Nat)
  /-- METER_COLLECTION_END (R458): At the end of the period, or after 60 s, the meter service delivers notification 0x9402. -/
  | meterCollectionEnd (schedule : Nat)
  /-- SERVICE_REPLY_RECEIVED (R457): A service reply unit of pod 0 is consumed by its service. -/
  | serviceReplyReceived (ep : Nat) (unit : Bytes)
  /-- LOAD_SHED_EXECUTE (R458): At execute_at, the load-control service submits PC3 requests to the owned endpoints. -/
  | loadShedExecute (idx : Nat)
  /-- LOAD_SHED_CONFIRM (R458): At execute_at + confirm_ms, notification 0x9403 reports the replies received. -/
  | loadShedConfirm (idx : Nat)
  /-- DISPATCH_REASSERT (R458): Every reassert_s, the dispatch service sends the setpoint again. -/
  | dispatchReassert (ep : Nat)
  /-- DISPATCH_LOSS (R458): loss_s without any reply triggers notification 0x9404. -/
  | dispatchLoss (ep : Nat)
  /-- APERTURE_ACCESS (R468): A host access through a pod's DDR aperture is checked under the current epoch, then permitted or denied. -/
  | apertureAccess (pod : Nat) (write : Bool) (offset : Nat) (len : Nat) (data : Bytes)
  /-- CHECKED_ACCESS_RETIRE (R467): A checked access retires; PENDING clears when no access of an earlier epoch remains. -/
  | checkedAccessRetire (id : Nat)
  /-- JOURNALED_WRITE_COMMIT (R493): A journaled MRAM write finishes its commit, which releases the waiting command or nonce jobs. -/
  | journaledWriteCommit
  /-- TAMPER_QUALIFY (R496): A tamper source qualifies: the key-wrapping key is erased, TAMPER is latched and logged, and the state-dependent response follows. -/
  | tamperQualify (source : Nat)
  /-- TAMPER_LOOP_PATTERN (R495): Every 10 µs, a loop-mode input drives a pattern and checks its return. -/
  | tamperLoopPattern (input : Nat) (returned : Nat)
  /-- OBSERVE_EXPIRY (R498): Observation access ends when its duration expires. -/
  | observeExpiry
  /-- SNAPSHOT_LATCH (R512): At time T, every counter and statistics count is latched into its shadow, and the snapshot completes. -/
  | snapshotLatch
  /-- TRACE_TIME_RECORD (R518): At each whole second, after a step, and at sink enable, a time record is emitted. -/
  | traceTimeRecord
  /-- TRACE_SYNC_WORD (R519): The trace-out port sends a sync word every 512 words and before a record that follows idle words. -/
  | traceSyncWord
  /-- EVENT_RECORD_ISSUE (R554): A source issues an event record to firmware and trace, and to the routed ring with an MSI-X message. -/
  | eventRecordIssue (source : Nat) (cause : Nat) (arg0 : Nat) (arg1 : Nat)
  /-- COALESCE_WINDOW_CLOSE (R555): A coalescing window closes and issues one accumulated record, or opens no new window. -/
  | coalesceWindowClose (source : Nat) (cause : Nat)
  /-- ADMIT_VECTOR_DEFERRED (R560): At the end of a 100 µs interval, a deferred vector 7 message is sent if BLOCKED is still set. -/
  | admitVectorDeferred (fn : Nat)
  /-- DELIVERY_VECTOR_DEFERRED (R560): At the end of a 50 µs interval, one vector 8 message covers the deferred producer advances. -/
  | deliveryVectorDeferred (fn : Nat)
  /-- EVT_SRC_CFG_WRITE (R556): Pod 0 writes a source routing register; an invalid write is rejected with system event 0 cause 3, and open windows close. -/
  | evtSrcCfgWrite (source : Nat) (value : Nat)
  /-- EVT_RING_ENABLE (R559): Setting ENABLE of an event ring starts it, or faults on an invalid size. -/
  | evtRingEnable (fn : Nat) (on : Bool)
  /-- EVT_RING_FAULT_CLEAR (R554): Clearing FAULT of an event ring lets records be written again. -/
  | evtRingFaultClear (fn : Nat)
  /-- CPH_RING_DOORBELL (R314): A write to CPH_RINGr_PROD makes new cipher descriptors visible. -/
  | cphRingDoorbell (pod : Nat) (ring : Nat) (prod : Nat)
  /-- CPH_RING_ENABLE (R316): Setting or clearing ENABLE of a cipher ring starts or stops taking, or faults on an invalid size. -/
  | cphRingEnable (pod : Nat) (ring : Nat) (on : Bool)
  /-- CPH_RING_FAULT_CLEAR (R319): Clearing FAULT of a cipher ring resumes taking at CONS. -/
  | cphRingFaultClear (pod : Nat) (ring : Nat)
  /-- CPH_CMPL_CONS_UPDATE (R311): The pod advances CMPL_CONS of a cipher ring, which frees room for waiting descriptors. -/
  | cphCmplConsUpdate (pod : Nat) (ring : Nat) (cons : Nat)
  /-- AVS_FAULT_CLEAR (R54): Clearing AVS_FAULT allows downward voltage steps again. -/
  | avsFaultClear
  /-- CHK_CONTEXT_WRITE (R335): A write to a context register applies only while the context is unbound and idle, and otherwise sets WRITE_REJECTED. -/
  | chkContextWrite (ctx : Nat) (reg : Nat) (value : Nat)
  /-- PMC_VALUE_WRITE (R508): A write to PMC_CTRn presets the count, and a concurrent increment is applied after it. -/
  | pmcValueWrite (n : Nat) (value : Nat) (increments : Nat)
  /-- PMC_CFG_WRITE (R508): A write to a counter's configuration applies to following events, except for a pod-assigned field. -/
  | pmcCfgWrite (n : Nat) (value : Nat)
  /-- SNAPSHOT_ARM (R513): A write of 1 to ARM requests a snapshot at TIME, unless one is pending. -/
  | snapshotArm
  /-- REGISTER_WRITE (R9): A write to a register without behaviour of its own acts by the field access codes. -/
  | registerWrite (fn : Nat) (offset : Nat) (size : Nat) (value : Nat)
  /-- READ_CLEAR (R9): A read of a register with an RC field returns the value and clears the field. -/
  | readClear (fn : Nat) (offset : Nat) (size : Nat)
  /-- PORT_OPEN (R86): Calibrates and opens a port in the requested coupling mode. -/
  | portOpen (c : Caller) (req : Bytes)
  /-- PORT_CLOSE (R87): Closes a port after any transmission, optionally discarding queued frames. -/
  | portClose (c : Caller) (req : Bytes)
  /-- LANE_CALIBRATE (R71): Schedules a recalibration of the port's lanes at the next beacon boundary. -/
  | laneCalibrate (c : Caller) (req : Bytes)
  /-- LANE_GAIN (R87): Sets a lane's gain mode, fixed gain and attenuation. -/
  | laneGain (c : Caller) (req : Bytes)
  /-- DRIVER_REARM (R87): Ends the transmit-disabled latch and clears the fault history. -/
  | driverRearm (c : Caller) (req : Bytes)
  /-- SYNTH_REBALANCE (R79): Returns adopted ports to their own synthesizer. -/
  | synthRebalance (c : Caller) (req : Bytes)
  /-- CHAIN_CONFIGURE (R113): Sets a chain's stages and destination and restarts it. -/
  | chainConfigure (c : Caller) (req : Bytes)
  /-- CHAIN_LOADBANK (R114): Loads the inactive coefficient bank and fixes its group delay. -/
  | chainLoadbank (c : Caller) (req : Bytes)
  /-- CHAIN_SWAP (R114): Schedules an atomic bank swap over a range of chains at at_time. -/
  | chainSwap (c : Caller) (req : Bytes)
  /-- CHAIN_THRESHOLD (R114): Sets a comparator's mode, level, hysteresis and qualification. -/
  | chainThreshold (c : Caller) (req : Bytes)
  /-- PHY_CONFIGURE (R155): Sets a port's transmit level, streams, guards, refresh and carrier mask from the next beacon period. -/
  | phyConfigure (c : Caller) (req : Bytes)
  /-- TONEMAP_CONFIGURE (R180): Sets the margin, refresh period, mains source and force_cycle_free of a port. -/
  | tonemapConfigure (c : Caller) (req : Bytes)
  /-- TONEMAP_REFRESH (R181): Requests recomputation of receive maps or new transmit maps for a neighbour. -/
  | tonemapRefresh (c : Caller) (req : Bytes)
  /-- TONEMAP_READ (R181): Returns one map of a neighbour and direction. -/
  | tonemapRead (c : Caller) (req : Bytes)
  /-- MAINS_STATUS (R181): Returns the state and fit of the port's mains tracker. -/
  | mainsStatus (c : Caller) (req : Bytes)
  /-- CANCELLER_CONFIGURE (R203): Replaces or removes a victim's canceller pairs, with or without a survey. -/
  | cancellerConfigure (c : Caller) (req : Bytes)
  /-- CANCELLER_SETGUARD (R204): Sets the device-wide canceller guard GI_x. -/
  | cancellerSetguard (c : Caller) (req : Bytes)
  /-- CANCELLER_STATUS (R204): Returns the state and gains of a victim's pairs. -/
  | cancellerStatus (c : Caller) (req : Bytes)
  /-- MAC_CONFIGURE (R238): Sets retry limits, beacon slot, Leek beacons, network id and escalation for a port. -/
  | macConfigure (c : Caller) (req : Bytes)
  /-- MAC_NEIGHBOUR (R239): Returns a neighbour's counters, optionally clearing its degraded state. -/
  | macNeighbour (c : Caller) (req : Bytes)
  /-- TOPOLOGY_CONFIGURE (R264): Sets the port's depth, report interval, hysteresis, broadcast copies and unreachable hold. -/
  | topologyConfigure (c : Caller) (req : Bytes)
  /-- ENDPOINT_ADMIT (R265): Admits an endpoint to a port and pod, or rebinds its pod. -/
  | endpointAdmit (c : Caller) (req : Bytes)
  /-- ENDPOINT_REMOVE (R260): Ends an endpoint's admission, retires its frames and sends TP_LEAVE. -/
  | endpointRemove (c : Caller) (req : Bytes)
  /-- TOPOLOGY_READ (R265): Returns an endpoint's state, depth, parent and path. -/
  | topologyRead (c : Caller) (req : Bytes)
  /-- BUFFER_CONFIGURE (R289): Sets a port's rx_reserve and queue_limit. -/
  | bufferConfigure (c : Caller) (req : Bytes)
  /-- BUFFER_QUOTA (R289): Sets a pod's transmit frame quota. -/
  | bufferQuota (c : Caller) (req : Bytes)
  /-- FRAME_SUBMIT (R292): Submits a downlink frame through the mailbox, held until admission, then sealed and enqueued. -/
  | frameSubmit (c : Caller) (req : Bytes)
  /-- RX_RING (R294): Enables, disables or places the caller's receive ring. -/
  | rxRing (c : Caller) (req : Bytes)
  /-- KEY_LOAD (R326): Unwraps a key into a working slot, optionally persisting it. -/
  | keyLoad (c : Caller) (req : Bytes)
  /-- KEY_CLEAR (R327): Zeroes a slot, squashes its jobs and erases its record. -/
  | keyClear (c : Caller) (req : Bytes)
  /-- CIPHER_BIND (R327): Binds an endpoint's transmit and receive slots. -/
  | cipherBind (c : Caller) (req : Bytes)
  /-- CIPHER_CONFIGURE (R327): Sets the device's nonce instance identifier. -/
  | cipherConfigure (c : Caller) (req : Bytes)
  /-- CHK_ASSIGN (R347): Resets a check-value context and assigns it to a pod window slot. -/
  | chkAssign (c : Caller) (req : Bytes)
  /-- CHK_BIND (R347): Binds or unbinds a protected stream to a context. -/
  | chkBind (c : Caller) (req : Bytes)
  /-- CHK_DMA (R347): Starts a check-value DMA job over a DDR region. -/
  | chkDma (c : Caller) (req : Bytes)
  /-- TRUNK_CONFIGURE (R379): Sets a trunk lane's mode and parameters, restarting it on a mode change. -/
  | trunkConfigure (c : Caller) (req : Bytes)
  /-- TSI_WRITE (R380): Writes connection entries to the standby TSI page after the checks of R366. -/
  | tsiWrite (c : Caller) (req : Bytes)
  /-- TSI_MODE (R380): Sets fixed mapping in the standby page. -/
  | tsiMode (c : Caller) (req : Bytes)
  /-- TSI_COMMIT (R365): Schedules the standby page to become active at the next frame boundary F. -/
  | tsiCommit (c : Caller) (req : Bytes)
  /-- TSI_READ (R380): Returns entries of the active or standby page. -/
  | tsiRead (c : Caller) (req : Bytes)
  /-- PAIR_CONFIGURE (R370): Sets the device's pair role and automatic switchover. -/
  | pairConfigure (c : Caller) (req : Bytes)
  /-- PAIR_SWITCH (R373): Starts a planned switch of the pair. -/
  | pairSwitch (c : Caller) (req : Bytes)
  /-- SENSE_CONFIGURE (R412): Sets a precision converter's scan, starting at the next frame boundary. -/
  | senseConfigure (c : Caller) (req : Bytes)
  /-- SENSE_CHARGE (R413): Sets a charge amplifier's capacitor, mode and common-mode check. -/
  | senseCharge (c : Caller) (req : Bytes)
  /-- SENSE_LINCOEF (R413): Persists and applies an input's linearisation coefficients and temperature source. -/
  | senseLincoef (c : Caller) (req : Bytes)
  /-- PD_CONFIGURE (R413): Replaces a localisation group's sources, parameters and ring. -/
  | pdConfigure (c : Caller) (req : Bytes)
  /-- I2C_CONFIGURE (R413): Sets an I²C port's speed mode. -/
  | i2cConfigure (c : Caller) (req : Bytes)
  /-- I2C_TRANSFER (R413): Queues an I²C transfer and completes when the transfer ends. -/
  | i2cTransfer (c : Caller) (req : Bytes)
  /-- SENSE_ASSIGN (R413): Resets a sensing resource and assigns it to a pod. -/
  | senseAssign (c : Caller) (req : Bytes)
  /-- TIMEBASE_CONFIGURE (R431): Sets the reference order, trunk lane, flags, holdover and pulse settings. -/
  | timebaseConfigure (c : Caller) (req : Bytes)
  /-- TIMEBASE_SETTIME_FULL (R432): Settime in mode 0 slews or schedules a step to the host time. -/
  | timebaseSettimeFull (c : Caller) (req : Bytes)
  /-- TIMEBASE_SETTIME_SECONDS (R432): Settime in mode 1 sets the seconds at the next PPS edge. -/
  | timebaseSettimeSeconds (c : Caller) (req : Bytes)
  /-- MBX_CREDITS (R452): Sets a pod's mailbox lane credits. -/
  | mbxCredits (c : Caller) (req : Bytes)
  /-- MBX_LISTEN (R453): Holds a listen until a notification completes it. -/
  | mbxListen (c : Caller) (req : Bytes)
  /-- PROFILE_SET (R455): Sets a port's operating profile from the next beacon period. -/
  | profileSet (c : Caller) (req : Bytes)
  /-- POWER_SETCAP (R456): Sets the device-wide core voltage cap V_cap. -/
  | powerSetcap (c : Caller) (req : Bytes)
  /-- FW_INFO (R461): Returns the running and stored firmware versions and slots. -/
  | fwInfo (c : Caller) (req : Bytes)
  /-- FW_UPDATE_BEGIN (R460): Erases the slot that is not running, to start an update. -/
  | fwUpdateBegin (c : Caller) (req : Bytes)
  /-- FW_UPDATE_WRITE (R460): Writes one image chunk into the update slot. -/
  | fwUpdateWrite (c : Caller) (req : Bytes)
  /-- FW_UPDATE_FINISH (R460): Checks the written image and marks it for the next boot. -/
  | fwUpdateFinish (c : Caller) (req : Bytes)
  /-- FW_ACTIVATE (R461): Checks the next-boot image again and restarts the firmware on it. -/
  | fwActivate (c : Caller) (req : Bytes)
  /-- POD_RESET (R480): Starts a reset of a tenant pod under R472. -/
  | podReset (c : Caller) (req : Bytes)
  /-- POD_ASSIGN (R480): Makes a pod the owner of a closed port. -/
  | podAssign (c : Caller) (req : Bytes)
  /-- POD_WINDOW (R470): Replaces a pod's DDR window as a new firewall epoch. -/
  | podWindow (c : Caller) (req : Bytes)
  /-- SEC_LIFECYCLE (R483): Advances the lifecycle state by one, with its key effects. -/
  | secLifecycle (c : Caller) (req : Bytes)
  /-- SEC_REVOKE (R503): Blows revocation and minimum security version fuses. -/
  | secRevoke (c : Caller) (req : Bytes)
  /-- KEK_INSTALL (R492): Installs a page key-encryption key wrapped under page 0's slot 0. -/
  | kekInstall (c : Caller) (req : Bytes)
  /-- KEK_AGREE (R492): Establishes the caller's key-encryption key by signed ECDH. -/
  | kekAgree (c : Caller) (req : Bytes)
  /-- KEK_CLEAR (R503): Zeroes slot 0 of the caller's page and erases its record. -/
  | kekClear (c : Caller) (req : Bytes)
  /-- SEC_IDENTITY (R503): Returns the device serial and identity public key. -/
  | secIdentity (c : Caller) (req : Bytes)
  /-- SEC_TAMPER_CONFIGURE (R503): Persists and loads the tamper input configuration. -/
  | secTamperConfigure (c : Caller) (req : Bytes)
  /-- SEC_TAMPER_CLEAR (R497): Clears the tamper latch with a new key-wrapping key and store generation. -/
  | secTamperClear (c : Caller) (req : Bytes)
  /-- SEC_OBSERVE_CHALLENGE (R499): Stage 0 returns a 60 s observation challenge. -/
  | secObserveChallenge (c : Caller) (req : Bytes)
  /-- SEC_OBSERVE_TOKEN (R499): Stage 1 verifies a signed token and enables observation access. -/
  | secObserveToken (c : Caller) (req : Bytes)
  /-- SEC_OBSERVE_END (R498): Stage 2 ends observation access. -/
  | secObserveEnd (c : Caller) (req : Bytes)
  /-- PMC_ASSIGN (R523): Maps or unmaps a counter into a pod's counter slot. -/
  | pmcAssign (c : Caller) (req : Bytes)
  /-- PMC_CONFIGURE (R523): Writes a programmable counter's event, filters and preset. -/
  | pmcConfigure (c : Caller) (req : Bytes)
  /-- TAG_CONFIGURE (R523): Sets random tagging kinds and probabilities on ports. -/
  | tagConfigure (c : Caller) (req : Bytes)
  /-- TRC_CONFIGURE (R523): Sets trace sources, DDR ring mode and size, and port rate. -/
  | trcConfigure (c : Caller) (req : Bytes)
  /-- TRC_READ (R523): Removes and returns the oldest whole trace records. -/
  | trcRead (c : Caller) (req : Bytes)
  /-- PWR_STANDBY (R534): Saves the standby set and prepares entry into standby. -/
  | pwrStandby (c : Caller) (req : Bytes)
  /-- CHIVE_CONFIGURE (R541): Designates or removes a Chive port and its wake enable. -/
  | chiveConfigure (c : Caller) (req : Bytes)
  /-- SYS_RESET (R541): Writes its record and starts a device reset 100 µs later, or after role failing in a pair. -/
  | sysReset (c : Caller) (req : Bytes)
  /-- EVT_ROUTE (R563): Routes one of the caller's event sources to its own ring and vector. -/
  | evtRoute (c : Caller) (req : Bytes)
  /-- SVC_REGISTRY_SET (R458): Persists or removes a registry entry for automatic admission. -/
  | svcRegistrySet (c : Caller) (req : Bytes)
  /-- SVC_METER_SCHEDULE (R458): Creates or deletes a periodic meter collection schedule. -/
  | svcMeterSchedule (c : Caller) (req : Bytes)
  /-- SVC_LOAD_SHED (R458): Schedules a PC3 load-shed operation over a range of endpoints. -/
  | svcLoadShed (c : Caller) (req : Bytes)
  /-- SVC_DISPATCH_SET (R458): Sets or clears an asset setpoint with periodic reassertion. -/
  | svcDispatchSet (c : Caller) (req : Bytes)
  /-- FAS_FOUND_IN_FRAME (R359): An out-of-frame Skeluz receiver finds FAS in 2 consecutive windows and goes in frame, which sets IN_FRAME and starts the 3 ms count toward LOF exit. -/
  | fasFoundInFrame (lane : Nat)
  /-- VF_ENABLE (R463): The host sets VF Enable, or raises NumVFs to n or more, and pod n comes into existence on the host interface with its page at reset values and VF_ENABLED set. -/
  | vfEnable (numVfs : Nat)
  /-- MSIX_VECTOR_UNMASK (R554): Software clears the mask bit of an MSI-X table entry whose pending bit is set, and the device sends the held message and clears the pending bit, as the PCIe specification requires. -/
  | msixVectorUnmask (fn : Nat) (vector : Nat)
  /-- I2C_TRANSFER_END (R405): An I²C transfer runs to its STOP, ending with result 0 (done), 1 (address NACK) or 2 (data NACK), and i2c.transfer completes. -/
  | i2cTransferEnd (port : Nat) (result : Nat) (ackedBytes : Nat) (data : Bytes)
  /-- PORT_OPEN_CALIBRATION_END (R86): The calibration started by port.open ends within 4 ms, and the port opens with its lanes, single-phase fallback or exclusions, or stays closed with ST_CAL_FAILED. -/
  | portOpenCalibrationEnd (port : Nat) (result : CalResult)
  deriving DecidableEq, Repr

end Sys2Proof
end

