-- ==== Sys2Proof/Machine/Bits.lean ====
section
/-! DEFINITION. Byte order, bit fields, sign extension and saturation: the small helpers every layout of the manual
is read and written with (R7, R9). -/

namespace Sys2Proof.Machine

/-- The value of bytes in little-endian order (R7). -/
def leNat : Bytes → Nat
  | [] => 0
  | b :: bs => b.toNat + 256 * leNat bs

/-- The value of bytes sent most significant first (R7: line and trunk). -/
def beNat (bs : Bytes) : Nat := leNat bs.reverse

/-- n bytes of v, little-endian. -/
def leBytes : Nat → Nat → Bytes
  | 0, _ => []
  | n + 1, v => BitVec.ofNat 8 v :: leBytes n (v / 256)

/-- n bytes of v, most significant first. -/
def beBytes (n v : Nat) : Bytes := (leBytes n v).reverse

/-- n zero bytes. -/
def zeros (n : Nat) : Bytes := List.replicate n 0

/-- n bytes from an offset. -/
def slice (b : Bytes) (off n : Nat) : Bytes := (b.drop off).take n

/-- The field of n bytes at an offset, little-endian (R7). -/
def rd (b : Bytes) (off n : Nat) : Nat := leNat (slice b off n)

/-- The field of n bytes at an offset, most significant first (R7). -/
def rdBe (b : Bytes) (off n : Nat) : Nat := beNat (slice b off n)

/-- The signed reading of a w-bit number. -/
def toSigned (w n : Nat) : Int := if n % 2 ^ w < 2 ^ (w - 1) then ((n % 2 ^ w : Nat) : Int) else (n % 2 ^ w : Nat) - (2 ^ w : Nat)

/-- The signed field of n bytes at an offset, little-endian. -/
def rdInt (b : Bytes) (off n : Nat) : Int := toSigned (8 * n) (rd b off n)

/-- The w-bit two's-complement code of an integer. -/
def ofInt (w : Nat) (i : Int) : Nat := (i % ((2 ^ w : Nat) : Int)).toNat

/-- Bits [lo + w - 1 : lo] of a number. -/
def bits (v lo w : Nat) : Nat := v / 2 ^ lo % 2 ^ w

/-- One bit of a number. -/
def bit (v i : Nat) : Bool := v / 2 ^ i % 2 == 1

/-- Fields of (width, value), least significant first, laid side by side. -/
def pack : List (Nat × Nat) → Nat
  | [] => 0
  | (w, v) :: fs => v % 2 ^ w + 2 ^ w * pack fs

/-- A register word of its fields, least significant first. -/
def packWord (fs : List (Nat × Nat)) : Word := BitVec.ofNat 64 (pack fs)

/-- An integer held to a signed range of w bits (saturation). -/
def clampSigned (w : Nat) (i : Int) : Int :=
  if i > 2 ^ (w - 1) - 1 then 2 ^ (w - 1) - 1 else if i < -(2 ^ (w - 1)) then -(2 ^ (w - 1)) else i

/-- Round half away from zero of num / den, den positive. -/
def roundDiv (num : Int) (den : Nat) : Int :=
  if num ≥ 0 then (2 * num + den) / (2 * den) else -((2 * (-num) + den) / (2 * den))

/-- n / d rounded up. -/
def ceilDiv (n d : Nat) : Nat := (n + d - 1) / d

/-- Serial-number order of R590: a is newer than b when their difference modulo 2^n lies from 1 to 2^(n-1) - 1. -/
def serialNewer (n a b : Nat) : Bool :=
  let d := (a + 2 ^ n - b % 2 ^ n) % 2 ^ n
  decide (1 ≤ d) && decide (d < 2 ^ (n - 1))

/-- A counter of w bits that counts up and saturates. -/
def satAdd {w : Nat} (x : BitVec w) (k : Nat) : BitVec w :=
  if x.toNat + k ≥ 2 ^ w then BitVec.allOnes w else BitVec.ofNat w (x.toNat + k)

/-- A natural count saturating at a bound. -/
def satTo (bound n : Nat) : Nat := min bound n

/-- A write-1-to-clear bit after a write (R9). -/
def w1c (old written : Bool) : Bool := old && !written

/-- The bits of n as a list of positions below a width, rising. -/
def bitPositions (w n : Nat) : List Nat := (List.range w).filter (bit n)

/-- A bitmap of the listed positions. -/
def bitmap (ps : List Nat) : Nat := ps.foldl (fun a p => a ||| 2 ^ p) 0

/-- The number of set bits below a width. -/
def popcount (w n : Nat) : Nat := (bitPositions w n).length

/-! ### Sparse tables -/

/-- The entry of a key, or the default. -/
def tget {α : Type} (d : α) : Table α → Nat → α
  | [], _ => d
  | (k, v) :: t, i => if k = i then v else tget d t i

/-- Whether a key is listed. -/
def thas {α : Type} : Table α → Nat → Bool
  | [], _ => false
  | (k, _) :: t, i => k == i || thas t i

/-- Put an entry at a key, keeping the keys rising. -/
def tset {α : Type} : Table α → Nat → α → Table α
  | [], i, x => [(i, x)]
  | (k, v) :: t, i, x => if i < k then (i, x) :: (k, v) :: t else if k = i then (i, x) :: t else (k, v) :: tset t i x

/-- Take the entry of a key away. -/
def tdel {α : Type} : Table α → Nat → Table α
  | [], _ => []
  | (k, v) :: t, i => if k = i then tdel t i else (k, v) :: tdel t i

/-- Change every listed entry. -/
def tmap {α : Type} (f : Nat → α → α) (t : Table α) : Table α := t.map (fun e => (e.1, f e.1 e.2))

/-- The least number below a bound that a list does not hold (it never exceeds the list's length). -/
def firstFree (used : List Nat) (bound : Nat) : Option Nat :=
  (List.range (used.length + 1)).find? (fun i => !used.contains i && decide (i < bound))

/-- Replace the elements of a list that a test picks. -/
def replaceWhere {α : Type} (p : α → Bool) (f : α → α) (l : List α) : List α := l.map (fun x => if p x then f x else x)

end Sys2Proof.Machine
end

