-- ==== Sys2Proof/Machine/Flags.lean ====
section
/-! DEFINITION. The check values of R329 and R330: every CRC of the manual is computed here. -/

namespace Sys2Proof.Machine

/-- The parameters of a check value (R329). -/
structure CrcAlg where
  w : Nat
  poly : Nat
  init : Nat
  refin : Bool
  refout : Bool
  xorout : Nat
  deriving DecidableEq, Repr

/-- The presets 1 to 4 of R330. -/
def crcPreset : Nat → Option CrcAlg
  | 1 => some ⟨32, 0x04C11DB7, 0xFFFFFFFF, true, true, 0xFFFFFFFF⟩
  | 2 => some ⟨32, 0x1EDC6F41, 0xFFFFFFFF, true, true, 0xFFFFFFFF⟩
  | 3 => some ⟨16, 0x1021, 0xFFFF, false, false, 0⟩
  | 4 => some ⟨64, 0x42F0E1EBA9EA3693, 0, false, false, 0⟩
  | _ => none

/-- The w low bits of a value in reverse order. -/
def reflect (w v : Nat) : Nat := (List.range w).foldl (fun a i => if bit v i then a + 2 ^ (w - 1 - i) else a) 0

/-- One input bit, most significant first (R329 step 2). -/
def crcBit (a : CrcAlg) (reg : Nat) (b : Bool) : Nat :=
  let sh := reg * 2 % 2 ^ a.w
  if bit reg (a.w - 1) != b then sh ^^^ a.poly else sh

/-- One input byte (R329 step 2). -/
def crcByte (a : CrcAlg) (reg : Nat) (x : Byte) : Nat :=
  let v := if a.refin then reflect 8 x.toNat else x.toNat
  [7, 6, 5, 4, 3, 2, 1, 0].foldl (fun r i => crcBit a r (bit v i)) reg

/-- The running register over bytes (R329 step 2). -/
def crcRun (a : CrcAlg) (reg : Nat) (bs : Bytes) : Nat := bs.foldl (crcByte a) reg

/-- Steps 3 and 4 of R329. -/
def crcFinal (a : CrcAlg) (reg : Nat) : Nat := (if a.refout then reflect a.w reg else reg) ^^^ a.xorout

/-- The check value of bytes (R329). -/
def crc (a : CrcAlg) (bs : Bytes) : Nat := crcFinal a (crcRun a a.init bs)

/-- CRC-32C, PRESET 2. -/
def crc32c (bs : Bytes) : Nat := crc ⟨32, 0x1EDC6F41, 0xFFFFFFFF, true, true, 0xFFFFFFFF⟩ bs

/-- CRC-16 CCITT, PRESET 3. -/
def crc16 (bs : Bytes) : Nat := crc ⟨16, 0x1021, 0xFFFF, false, false, 0⟩ bs

/-- CRC-32 of IEEE 802.3, PRESET 1. -/
def crc32 (bs : Bytes) : Nat := crc ⟨32, 0x04C11DB7, 0xFFFFFFFF, true, true, 0xFFFFFFFF⟩ bs

end Sys2Proof.Machine
end

