-- ==== Sys2Proof/Machine/Fixed.lean ====
section
/-! DEFINITION. Real and complex numbers in fixed point: the sines, square roots and decibels that the waveform (05) and the
canceller (07) are stated in. The manual states its formulas over the reals; a value here lies within a few units of 2^-40 of the
real one (DESIGN CHOICE, log 150). -/

namespace Sys2Proof.Machine

/-- A real number in units of 2^-40. -/
abbrev Fx := Int

/-- A complex number. -/
abbrev Cx := Fx × Fx

def fxOne : Fx := 2 ^ 40

/-- The product of two reals. -/
def fxMul (a b : Fx) : Fx := a * b / 2 ^ 40

/-! ### Complex arithmetic -/

def cxAdd (a b : Cx) : Cx := (a.1 + b.1, a.2 + b.2)
def cxSub (a b : Cx) : Cx := (a.1 - b.1, a.2 - b.2)
def cxMul (a b : Cx) : Cx := ((a.1 * b.1 - a.2 * b.2) / 2 ^ 40, (a.1 * b.2 + a.2 * b.1) / 2 ^ 40)
def cxConj (a : Cx) : Cx := (a.1, -a.2)

/-- A complex number times a real one. -/
def cxScale (r : Fx) (a : Cx) : Cx := (fxMul r a.1, fxMul r a.2)

def cxSum (l : List Cx) : Cx := l.foldl cxAdd (0, 0)

/-- The square of the magnitude, in units of 2^-80. -/
def cxPower (a : Cx) : Nat := (a.1 * a.1 + a.2 * a.2).toNat

/-! ### Sines and cosines -/

/-- pi in units of 2^-60. -/
def piQ60 : Int := 3622009729038561421

/-- The alternating series of an angle x, whose square is sq, both in units of 2^-60: the term and those after it, the next one
divided by (k + 1)(k + 2). -/
def seriesFrom (sq : Int) : Nat → Nat → Int → Int
  | 0, _, _ => 0
  | n + 1, k, term => term + seriesFrom sq n (k + 2) (-(term * sq / 2 ^ 60) / ((k + 1) * (k + 2)))

/-- The angle of k parts in n of a turn, between minus pi and pi, in units of 2^-60. -/
def turnAngle (k n : Nat) : Int :=
  let m : Int := (k % n : Nat)
  2 * piQ60 * (if 2 * m > n then m - n else m) / n

/-- The cosine and sine of k parts in n of a turn. -/
def turnCos (k n : Nat) : Fx :=
  let x := turnAngle k n
  seriesFrom (x * x / 2 ^ 60) 16 0 (2 ^ 60) / 2 ^ 20

def turnSin (k n : Nat) : Fx :=
  let x := turnAngle k n
  seriesFrom (x * x / 2 ^ 60) 16 1 x / 2 ^ 20

/-- exp(j 2 pi k / n). -/
def turn (k n : Nat) : Cx := (turnCos k n, turnSin k n)

/-! ### Square roots and decibels -/

/-- The integer square root, a bit at a time from bit b down. -/
def rootBits (n : Nat) : Nat → Nat → Nat
  | 0, r => if (r + 1) * (r + 1) ≤ n then r + 1 else r
  | b + 1, r => rootBits n b (if (r + 2 ^ (b + 1)) * (r + 2 ^ (b + 1)) ≤ n then r + 2 ^ (b + 1) else r)

/-- The square root of a natural number, and one over it. -/
def fxSqrt (n : Nat) : Fx := rootBits (n * 2 ^ 80) 60 0
def fxInvSqrt (n : Nat) : Fx := 2 ^ 80 / fxSqrt n

/-- An amplitude n half decibels below one: 10^(-n/40). -/
def halfDbBelow : Nat → Fx
  | 0 => fxOne
  | n + 1 => halfDbBelow n * 1088428085928025206 / 2 ^ 60

end Sys2Proof.Machine
end

