-- ==== Sys2Proof/Machine/Operands.lean ====
section
/-! DEFINITION. The operand forms of the mailbox requests: sizes, reserved ranges and fixed-length fields (R438, R440). -/

namespace Sys2Proof.Machine

/-- The reserved ranges (offset, length) of a request hold zeros (R438). -/
def reservedZero (req : Bytes) (rs : List (Nat × Nat)) : Bool := rs.all (fun r => (slice req r.1 r.2).all (· == 0))

/-- A request of a fixed size with its reserved ranges zero (R440). -/
def shaped (req : Bytes) (size : Nat) (rs : List (Nat × Nat)) : Bool := req.length == size && reservedZero req rs

/-- A byte string cut or padded with zeros to a field of n bytes. -/
def fit (n : Nat) (b : Bytes) : Bytes := b.take n ++ zeros (n - b.length)

end Sys2Proof.Machine
end

