-- ==== Sys2Proof/Machine/StateMgmt.lean ====
section
/-! DEFINITION. State of the management complex (16), the pods and the host interface (17), the event fabric (21) and
counters and trace (19). -/

namespace Sys2Proof.Machine

/-! ### Mailbox lanes (16) -/

/-- A resource two commands may both name (R443). -/
inductive Resource where
  | port (n : Nat) | lane (n : Nat) | chain (n : Nat) | context (n : Nat) | keySlot (n : Nat) | endpoint (n : Nat)
  | trunkLane (n : Nat) | tsiPage | converter (n : Nat) | group (n : Nat) | i2c (n : Nat) | image | pod (n : Nat)
  deriving DecidableEq, Repr

/-- One command as the firmware holds it: who sent it and what it asks (R438); of one that waits, the resources it names (R443). -/
structure Cmd where
  caller : Caller
  code : Nat
  req : Bytes
  names : List Resource := []
  deriving DecidableEq, Repr

/-- A command that executes over time: taken, started, its record not yet written (R435, R443). -/
structure Exec where
  cmd : Cmd
  committed : Bool
  resources : List Resource
  deriving DecidableEq, Repr

/-- A notification waiting for a listen (R446). -/
structure Notice where
  code : Nat
  body : Bytes
  deriving DecidableEq, Repr

/-- One mailbox lane: the registers of R436 and what the firmware keeps for it (R440, R446). -/
structure MbxLane where
  base : BitVec 52 := 0
  sizeLog2 : BitVec 5 := 0
  cmplBase : BitVec 58 := 0
  cmplLog2 : BitVec 5 := 0
  prod : BitVec 32 := 0
  cons : BitVec 32 := 0
  errStatus : BitVec 16 := 0
  shedSeen : Bool := false
  fault : Bool := false
  enable : Bool := false
  cmplCons : BitVec 32 := 0
  cmplProd : BitVec 32 := 0
  /-- records kept after a failed record write, oldest first, with their completion-event bit (R440) -/
  kept : List (Bytes × Bool) := []
  /-- held listens, oldest first (R446, R453) -/
  listens : List Caller := []
  /-- notifications queued with no listen held, oldest first (R446) -/
  queued : List Notice := []
  /-- notifications discarded since the last delivery (R446) -/
  lost : BitVec 16 := 0
  deriving DecidableEq, Repr

/-- MBX_CREDITS of a pod (R437). -/
structure Credits where
  urgent : BitVec 8 := 2
  normal : BitVec 8 := 8
  bulk : BitVec 8 := 16
  deriving DecidableEq, Repr

/-- STATE of MBX_FW_STATUS (R445). -/
inductive FwState where
  | booting | running | restarting | halted
  deriving DecidableEq, Repr

/-- A registry entry of svc.registry.set (R458), persisted in MRAM (StateSec.lean). -/
structure RegEntry where
  eui : Nat
  endpoint : Nat
  port : Nat
  pod : Nat
  owner : Nat
  deriving DecidableEq, Repr

/-- A meter schedule (R458), by 256 * pod + schedule. -/
structure MeterSchedule where
  owner : Nat
  lane : Nat
  periodS : Nat
  first : Nat
  count : Nat
  query : Bytes
  /-- the start of the next period -/
  nextAt : Nat
  /-- the request identifier of the period in progress, when one is collected -/
  collecting : Option Nat
  /-- the end of the collection in progress -/
  collectEnd : Nat
  /-- the endpoints asked in the period, and their replies -/
  asked : List Nat
  replies : Table Bytes
  deriving DecidableEq, Repr

/-- A load-shed operation (R458). -/
structure ShedOp where
  owner : Nat
  first : Nat
  count : Nat
  body : Bytes
  /-- execution time, 32.32 timebase -/
  executeAt : Nat
  confirmMs : Nat
  executed : Bool
  reqId : Nat
  replied : List Nat
  deriving DecidableEq, Repr

/-- A dispatch asset (R458), by its endpoint. -/
structure Asset where
  owner : Nat
  kind : Nat
  reassertS : Nat
  lossS : Nat
  body : Bytes
  nextAt : Nat
  lastReply : Nat
  /-- a change waits for its first reply -/
  awaitFirst : Bool
  /-- the latest request has no reply yet -/
  unanswered : Bool
  reqId : Nat
  deriving DecidableEq, Repr

/-- A boot-flash slot as the firmware knows it (R460, R461): the version when bootable. -/
structure FlashSlot where
  version : Option (BitVec 16) := none
  /-- an update of it has begun and not finished: unbootable until finish succeeds (R460) -/
  torn : Bool := false
  deriving DecidableEq, Repr

/-- The management complex (16). -/
structure Mgmt where
  /-- mailbox lanes, by 3 * pod + lane (R436) -/
  lanes : Table MbxLane := []
  /-- MBX_CREDITS by pod (R437) -/
  credits : Table Credits := []
  /-- commands taken and not started (R441, R444), in the order taken: each waits for a resource or an engine limit (R592), or behind
  one of its lane that does (R443) -/
  waiting : List Cmd := []
  /-- the pod whose lane was served last, by lane class (R441) -/
  served : Table Nat := []
  /-- commands executing over time (R443) -/
  executing : List Exec := []
  /-- completions due while the firmware restarts, written after it (R448, R474) -/
  owed : List (Caller × Status × Bytes) := []
  -- MBX_FW_STATUS (R445)
  fwVersion : BitVec 16 := 0
  restartCount : BitVec 16 := 0
  load : BitVec 8 := 0
  fwState : FwState := .booting
  shedding : Bool := false
  ready : Bool := false
  -- SYS_WDT_STATUS (R449)
  expiries : BitVec 16 := 0
  restartCause : BitVec 8 := 0
  restartSeen : Bool := false
  /-- begin times of counted restarts (R449) -/
  restartTimes : List Nat := []
  /-- the boot ROM has jumped to the firmware's entry (R447) -/
  jumped : Bool := false
  -- services (R458)
  schedules : Table MeterSchedule := []
  shedOps : List ShedOp := []
  assets : Table Asset := []
  reqId : BitVec 16 := 0
  -- firmware images (R460, R461)
  slot0 : FlashSlot := {}
  slot1 : FlashSlot := {}
  runningSlot : Nat := 0
  nextSlot : Nat := 0
  /-- the selector copy in force, 0 for A and 1 for B, and its sequence number (R486): none when neither is valid -/
  selector : Option (Nat × Nat) := none
  stateFormat : BitVec 16 := 0
  /-- an update in progress and the bytes written so far (R460) -/
  updating : Option Nat := none
  deriving DecidableEq, Repr

/-! ### Pods and the host interface (17) -/

/-- One DDR window of a pod (R468). -/
structure Window where
  base : Nat := 0
  size : Nat := 0
  read : Bool := false
  write : Bool := false
  deriving DecidableEq, Repr

/-- One pod: POD_STATUS (R476), its windows (R468) and its reset in progress (R472). -/
structure Pod where
  resetCount : BitVec 16 := 0
  lastResetUs : BitVec 12 := 0
  cause : BitVec 4 := 0
  denySeen : Bool := false
  resetSeen : Bool := false
  resetting : Bool := false
  /-- the time T0 of the reset in progress -/
  resetAt : Nat := 0
  /-- the pod.reset commands that complete with it (R474) -/
  resetCallers : List Caller := []
  windows : Table Window := []
  deriving DecidableEq, Repr

/-- Who owns what (R466): ports, precision converters, charge inputs, localisation groups, I2C ports; an unlisted
resource belongs to pod 0. -/
structure Owners where
  ports : Table Nat := []
  converters : Table Nat := []
  charges : Table Nat := []
  groups : Table Nat := []
  i2c : Table Nat := []
  deriving DecidableEq, Repr

/-- A checked access in flight (R467). -/
structure Checked where
  id : Nat
  pod : Nat
  epoch : BitVec 32
  /-- the DDR address and data a permitted write puts down when it retires -/
  write : Option (Nat × Bytes)
  /-- the DDR address and length a permitted read returns -/
  read : Option (Nat × Nat)
  deriving DecidableEq, Repr

/-- The firewall (R467 to R470, R477, R478). -/
structure Firewall where
  epoch : BitVec 32 := 0
  denyCount : BitVec 8 := 0
  denySeen : Bool := false
  logPod : BitVec 7 := 0
  logKind : BitVec 2 := 0
  logWindow : BitVec 3 := 0
  logOffset : BitVec 32 := 0
  inFlight : List Checked := []
  nextId : Nat := 0
  deriving DecidableEq, Repr

/-- An MSI-X table entry (PCIe, R560): reset masked. -/
structure MsixEntry where
  addr : Word := 0
  data : BitVec 32 := 0
  ctrl : BitVec 32 := 1
  deriving DecidableEq, Repr

/-- Vectors 7 and 8 of a function (R560): last message times and deferrals. -/
structure Deferral where
  admitAt : Option Nat := none
  admitDue : Bool := false
  deliverAt : Option Nat := none
  deliverDue : Bool := false
  deriving DecidableEq, Repr

/-- The PCIe side: link, functions, bus mastering, MSI-X (R463, R560, R591). -/
structure HostIf where
  linkUp : Bool := false
  vfEnable : Bool := false
  numVfs : Nat := 0
  /-- functions whose Bus Master Enable is clear (log 10) -/
  bmeOff : List Nat := []
  /-- MSI-X table entries, by 1,024 * function + vector -/
  msix : Table MsixEntry := []
  /-- set pending bits, by 1,024 * function + vector -/
  msixPending : List Nat := []
  deferral : Table Deferral := []
  deriving DecidableEq, Repr

/-! ### Events (21) -/

/-- An event record (R552). -/
structure EventRec where
  time : Word
  source : Nat
  cause : Nat
  flags : Nat
  count : Nat
  pod : Nat
  arg0 : Nat
  arg1 : Nat
  deriving DecidableEq, Repr

/-- EVT_SRCi_CFG (R557). -/
structure EvtCfg where
  enable : Bool := false
  pod : BitVec 7 := 0
  vector : BitVec 10 := 9
  coalesceUs : BitVec 16 := 0
  causeMask : BitVec 8 := 0xFF
  deriving DecidableEq, Repr

/-- The event ring of a function (R559, R554). -/
structure EvtRing where
  base : BitVec 52 := 0
  sizeLog2 : BitVec 5 := 0
  cons : BitVec 32 := 0
  prod : BitVec 32 := 0
  lost : BitVec 16 := 0
  lostSeen : Bool := false
  fault : Bool := false
  enable : Bool := false
  /-- records were dropped since the last one written: flags bit 2 of the next (R552) -/
  dropped : Bool := false
  deriving DecidableEq, Repr

/-- An open coalescing window (R555): what it has accumulated, the first occurrence's record and the count. -/
structure EvtWindow where
  source : Nat
  cause : Nat
  ends : Nat
  acc : Option (EventRec × Nat)
  deriving DecidableEq, Repr

/-- The event fabric (21). -/
structure Events where
  cfg : Table EvtCfg := []
  /-- EVT_PENDINGw (R558) -/
  pending : Table Word := []
  windows : List EvtWindow := []
  rings : Table EvtRing := []
  deriving DecidableEq, Repr

/-! ### Counters, tags and trace (19) -/

/-- A programmable counter (R508). -/
structure Pmc where
  value : Word := 0
  event : BitVec 16 := 0
  portEn : Bool := false
  port : BitVec 7 := 0
  podEn : Bool := false
  pod : BitVec 7 := 0
  cls : BitVec 4 := 0xF
  priv : BitVec 2 := 3
  addrEn : Bool := false
  enable : Bool := false
  assigned : BitVec 8 := 0
  invalid : Bool := false
  ovfIrq : Bool := false
  ovf : Bool := false
  limit4k : BitVec 24 := 0
  base4k : BitVec 24 := 0
  deriving DecidableEq, Repr

/-- A counter slot of a pod (R509, R510): programmable or fixed, and its number. -/
structure PmcSlot where
  fixed : Bool
  id : Nat
  deriving DecidableEq, Repr

/-- A tag in flight (R514, R515): its kind 1 to 4, its item, and the checkpoint times passed. -/
structure Tag where
  kind : Nat
  port : Nat
  ident : Nat
  pod : Nat
  t0 : Nat
  /-- checkpoint index and time, 32.32 -/
  checks : Table Nat
  stepped : Bool
  deriving DecidableEq, Repr

/-- Tagging of a port (R514, R523). -/
structure TagCfg where
  kinds : BitVec 4 := 0
  kf : Nat := 0
  ks : Nat := 0
  enable : Bool := false
  deriving DecidableEq, Repr

/-- A trace record: header and payload words (R518). -/
structure TraceRec where
  words : List Word
  deriving DecidableEq, Repr

/-- One trace sink (R517 to R520). -/
structure Sink where
  /-- sources fed: bit 0 tags, 1 events, 2 instruction trace, 3 firmware log -/
  sources : BitVec 4 := 0
  seq : BitVec 16 := 0
  /-- records dropped since the last accepted one, and the mask of their sources -/
  lossCount : Nat := 0
  lossMask : BitVec 4 := 0
  deriving DecidableEq, Repr

/-- Counters and trace (19). -/
structure Observe where
  fixed : Table Word := []
  fixOvfCount : BitVec 16 := 0
  fixOvfFirst : BitVec 12 := 0
  fixOvfSeen : Bool := false
  ctrs : Table Pmc := []
  userEn : List Nat := []
  /-- mapped slots, by 16 * pod + slot -/
  slots : Table PmcSlot := []
  -- shadows (R512)
  shadowFixed : Table Word := []
  shadowCtr : Table Word := []
  shadowLbfDevice : Word := 0
  shadowLbfPort : Table Word := []
  shadowLbfQueue : Table Word := []
  -- snapshots (R513)
  snapTime : Word := 0
  snapAt : Word := 0
  snapSeq : BitVec 16 := 0
  snapDone : Bool := false
  /-- the instant T of the snapshot waiting -/
  snapPending : Option Word := none
  -- tags
  tagCfg : Table TagCfg := []
  tags : List Tag := []
  -- trace
  ddrSink : Sink := {}
  portSink : Sink := {}
  ddrMode : BitVec 2 := 0
  ddrM : Nat := 0
  portRate : Nat := 0
  /-- DDR ring content, oldest first -/
  ring : List TraceRec := []
  /-- the port's words since the last sync word, and the time its last record ends (R519) -/
  portWords : Nat := 0
  portBusy : Nat := 0
  trcLost : BitVec 16 := 0
  trcFull : Bool := false
  trcLostSeen : Bool := false
  trcWrapped : Bool := false
  deriving DecidableEq, Repr

end Sys2Proof.Machine
end

