-- ==== Sys2Proof/Machine/StateLine.lean ====
section
/-! DEFINITION. State of power, pace and standby (02, 20), of the synthesizers and of a port's line side (03). -/

namespace Sys2Proof.Machine

/-- The phases of the device (R528 to R538). -/
inductive Phase where
  /-- a device reset is in progress (R529) -/
  | resetPhase
  /-- released and started up (R531): the boot has ended, in READY or in a halt (R488) -/
  | running
  | standby
  deriving DecidableEq, Repr

/-- PWR_PACE_TILEn (R48). -/
structure Pace where
  pace : BitVec 16 := 0
  slack : BitVec 16 := 0
  demand : BitVec 16 := 0
  fifoPeak : BitVec 8 := 0
  short : Bool := false
  valid : Bool := false
  deriving DecidableEq, Repr

/-- The adaptive-voltage loop and its register (R50 to R56). -/
structure Avs where
  vReq : BitVec 16 := 0
  vMeas : BitVec 16 := 0
  fPlc : BitVec 16 := 0x0400
  limitTile : BitVec 5 := 0
  tapsHalved : Bool := false
  emergency : Bool := false
  fault : Bool := false
  vCap : Nat := 900
  started : Bool := false
  /-- consecutive periods with a least slack above 82 (R52) -/
  calm : Nat := 0
  /-- time of the last loop period, and of the last AVSBus command: a read or a request -/
  periodAt : Nat := 0
  commandAt : Nat := 0
  /-- the times at which the requests sent are checked (R54), oldest first -/
  checks : List Nat := []
  deriving DecidableEq, Repr

/-- The order of pwr.standby in force (R534, R541). -/
structure StandbyOrder where
  /-- the lane it came on, the one lane still served -/
  lane : Nat
  flags : Nat
  wakeClass : Nat
  chiveEvery : Nat
  wakeAt : Nat
  /-- the time of the completion record, once it is written -/
  recordAt : Option Nat := none
  /-- a wake source that qualified before the entry (R539): its cause, port and endpoint -/
  wake : Option (Nat × Nat × Nat) := none
  deriving DecidableEq, Repr

/-- Power, reset and standby (20) and the die temperature (R395). -/
structure Power where
  phase : Phase := .resetPhase
  /-- the time at which the last reset cause ended (R529) -/
  causeEnd : Nat := 0
  -- SYS_RESET_STATUS (R532)
  resetCount : BitVec 16 := 0
  cause : BitVec 4 := 1
  brownoutRail : BitVec 4 := 0
  pcieResetSeen : Bool := false
  brownoutSeen : Bool := false
  resetSeen : Bool := false
  -- PWR_STANDBY_STATUS (R540)
  standbyCount : BitVec 16 := 0
  wakeCause : BitVec 4 := 0
  wakePort : BitVec 7 := 0
  wakeEp : BitVec 14 := 0
  setValid : Bool := false
  restored : Bool := false
  restoreFail : Bool := false
  wakeSeen : Bool := false
  order : Option StandbyOrder := none
  /-- this reset is that of a wake (R538) -/
  waking : Bool := false
  /-- V_cap in force at standby entry (R53) -/
  capAtEntry : Nat := 900
  /-- Chive ports and their wake enable (R541) -/
  chive : Table Bool := []
  /-- ports that the standby set reopens and that wait for a calibration, with their requests (R538) -/
  reopen : Table Bytes := []
  /-- the time PCIE_WAKE_N was driven low (R538) -/
  wakeN : Option Nat := none
  /-- the frame at which sys.reset of an active device resets (R545) -/
  sysResetFrame : Option Nat := none
  /-- times of uncorrectable DDR reads, by channel (R545) -/
  ddrErrors : Table (List Nat) := []
  -- pace
  tiles : Table Pace := []
  /-- the time from which some lane tile's SLACK has been negative and not yet counted (R506, code 0x0012) -/
  negSince : Option Nat := none
  avs : Avs := {}
  -- TMP_DIE_STATUS (R395)
  tjSensing : BitVec 16 := 0
  tjMax : BitVec 16 := 0
  tjMin : BitVec 16 := 0
  tjValid : Bool := false
  deriving DecidableEq, Repr

/-- Ports moved by an adoption or rebalance in progress (R78, R79). -/
structure Adoption where
  first : Nat
  last : Nat
  owner : Synth
  startAt : Nat
  /-- the synth.rebalance that asked for it -/
  caller : Option Caller
  deriving DecidableEq, Repr

/-- SYS_SYNTH_STATUS (R81) and the synthesizers behind it. -/
structure Synths where
  adoptCount : BitVec 8 := 0
  ref25m : Bool := false
  ownerHi : BitVec 2 := 2
  ownerLo : BitVec 2 := 1
  refHold : Bool := false
  refLost : Bool := false
  bFailed : Bool := false
  aFailed : Bool := false
  bLock : Bool := false
  aLock : Bool := false
  adoption : Option Adoption := none
  /-- times since which each synthesizer has been locked and within 1 % (R79): after a failure, a free value -/
  aGoodSince : Nat := 0
  bGoodSince : Nat := 0
  deriving DecidableEq, Repr

/-- The coupling modes of R59. -/
inductive Coupling where
  | closed | three | single
  deriving DecidableEq, Repr

/-- The states of PORT_nnn_TXEN (R72). -/
inductive Txen where
  | released | low | high
  deriving DecidableEq, Repr

/-- A calibration of a port (R69, R71, R86). -/
inductive Cal where
  | none
  /-- port.open's calibration runs; its request waits to be applied -/
  | opening (c : Caller) (req : Bytes)
  /-- the calibration of a port that the standby set reopens (R538) -/
  | reopening (req : Bytes)
  /-- lane.calibrate waits for the beacon boundary -/
  | waitBeacon (c : Caller)
  /-- lane.calibrate waits for an idle medium with no acknowledgement due -/
  | waitIdle (c : Caller)
  /-- lane.calibrate's calibration runs, the loopback closed -/
  | running (c : Caller)
  deriving DecidableEq, Repr

/-- The operating profiles of R32. -/
inductive Profile where
  | fullBand
  | longReach (x8 : Bool)
  | sense
  | powerCap (n : Nat)
  deriving DecidableEq, Repr

/-- The line side of a port (03, 01 R32). -/
structure PortLine where
  mode : Coupling := .closed
  /-- the mode of the latest opening (R197) -/
  lastMode : Coupling := .closed
  /-- lanes that carry PLC, bit k for lane k: those of the mode less the excluded ones (R59, R86) -/
  plcLanes : BitVec 4 := 0
  apertures : List Int := [0, 0, 0, 0]
  agcFixed : BitVec 4 := 0
  fixedGain : List Int := [0, 0, 0, 0]
  txAtten : List Nat := [0, 0, 0, 0]
  listenGain : List Int := [0, 0, 0, 0]
  /-- gains held for a frame, and the time they are released (R66) -/
  frameGain : Option (List Int) := none
  frameGainEnd : Option Nat := none
  /-- first and last sample count of each transmission, the latest first (R27) -/
  txSpans : List (Nat × Nat) := []
  /-- no transmission that is derated starts before this time (R34, R35) -/
  idleUntil : Nat := 0
  /-- the gain of a lane changed in its current tap block (R68) -/
  gainChanged : BitVec 4 := 0
  txen : Txen := .released
  leadNs : Nat := 2000
  tailNs : Nat := 500
  tapScale : BitVec 2 := 0
  /-- DRVFLT reads low, as last told (R74, R75) -/
  drvfltLow : Bool := false
  /-- a fault qualified while the port is stopped waits for it to resume (R80) -/
  lateFault : Bool := false
  /-- a qualified fault holds the driver off until a re-arm -/
  driverOff : Bool := false
  faultTimes : List Nat := []
  rearmTimes : List Nat := []
  latched : Bool := false
  cal : Cal := .none
  /-- the time at which the calibration loopback closed (R69) -/
  calAt : Nat := 0
  /-- the port.close that waits for the transmission and the exchange in progress (R87, R280) -/
  closing : Option Caller := none
  stopped : Bool := false
  profile : Profile := .fullBand
  nextProfile : Option Profile := none
  /-- the factor f in force on the port (R56) -/
  factor : BitVec 16 := 0x0400
  deriving DecidableEq, Repr

end Sys2Proof.Machine
end

