-- ==== Sys2Proof/Machine/StateCipher.lean ====
section
/-! DEFINITION. State of the cipher engine (11) and of the check-value units (12). -/

namespace Sys2Proof.Machine

/-- A key in a slot (R298): its bytes, 16 or 32, and its usage bits. -/
structure Key where
  bytes : Bytes
  usage : BitVec 8
  deriving DecidableEq, Repr

/-- The nonce counter of a page (R300, R302). -/
structure PageNonce where
  counter : Nat := 0
  /-- both persisted copies of the ceiling failed at start -/
  failed : Bool := false
  deriving DecidableEq, Repr

/-- A cipher ring (R312 to R316). -/
structure CphRing where
  base : BitVec 52 := 0
  sizeLog2 : BitVec 5 := 0
  cmplBase : BitVec 58 := 0
  cmplLog2 : BitVec 5 := 0
  prod : BitVec 32 := 0
  cons : BitVec 32 := 0
  errStatus : BitVec 16 := 0
  held : Bool := false
  fault : Bool := false
  enable : Bool := false
  cmplCons : BitVec 32 := 0
  cmplProd : BitVec 32 := 0
  /-- frame outcome records that jobs of the ring may still produce: room kept for them (R311) -/
  owed : Nat := 0
  /-- the descriptor at CONS has been found to need room for two records (R311) -/
  waitsTwo : Bool := false
  deriving DecidableEq, Repr

/-- How a job ended: its status, the bytes written to dst (or of the sealed unit), the nonce and the flight. -/
structure JobEnd where
  status : Status
  bytesOut : Nat
  nonce : Bytes
  flight : Nat
  deriving DecidableEq, Repr

/-- A descriptor taken whose record is not yet written (R299, R318). -/
structure Job where
  pod : Nat
  ring : Nat
  /-- its count in the ring -/
  idx : Nat
  desc : Bytes
  data : Bytes
  aad : Bytes
  /-- the flight of a frame seal -/
  flight : Option Nat
  /-- pipeline and key once started (R299), and the hardware nonce issued -/
  pipe : Nat := 0
  key : Option Key := none
  nonce : Bytes := []
  ended : Option JobEnd := none
  deriving DecidableEq, Repr

/-- CPH_ENTROPY_STATUS and the entropy source (R320, R321). -/
structure Entropy where
  failCount : BitVec 16 := 0
  failSeen : Bool := false
  healthy : Bool := false
  /-- the start-up tests have passed since reset -/
  passed : Bool := false
  /-- the time of the next repeat of the tests after a failure -/
  retestAt : Nat := 0
  deriving DecidableEq, Repr

/-- The cipher engine (11). -/
structure Cipher where
  /-- keys by 64 * page + slot; an unlisted slot is empty (R297) -/
  slots : Table Key := []
  pages : Table PageNonce := []
  instanceId : BitVec 16 := 0
  /-- instance identifiers that the part has been given (R302) -/
  usedIds : List Nat := []
  /-- the broadcast transmit slot of a pod (R327) -/
  bcast : Table Nat := []
  /-- rings by 4 * pod + r -/
  rings : Table CphRing := []
  /-- jobs in the order taken -/
  jobs : List Job := []
  /-- blocks since the last reseed, by pipeline (R320) -/
  blocks : Table Nat := []
  entropy : Entropy := {}
  deriving DecidableEq, Repr

/-- A check-value DMA job (R342). -/
structure ChkDma where
  caller : Caller
  req : Bytes
  deriving DecidableEq, Repr

/-- A check-value context (R331 to R334). -/
structure ChkCtx where
  poly : Word := 0x04C11DB7
  init : Word := 0xFFFFFFFF
  xorout : Word := 0xFFFFFFFF
  value : Word := 0
  result : Word := 0
  seq : Word := 0
  dataId : BitVec 16 := 0
  widthM1 : BitVec 6 := 31
  alive : BitVec 2 := 0
  foldId : Bool := false
  foldSeq : Bool := false
  refin : Bool := false
  refout : Bool := false
  preset : BitVec 4 := 1
  fails : BitVec 16 := 0
  lost : BitVec 16 := 0
  stale : BitVec 16 := 0
  poisonSeen : Bool := false
  writeRejected : Bool := false
  failSeen : Bool := false
  done : Bool := false
  /-- the pod it is assigned to, and the slot of that pod's window -/
  pod : Nat := 0
  window : Option Nat := none
  /-- the stream bound: endpoint, and whether it is a receive stream -/
  bound : Option (Nat × Bool) := none
  dma : Option ChkDma := none
  deriving DecidableEq, Repr

end Sys2Proof.Machine
end

