-- ==== Sys2Proof/Machine/StatePlc.lean ====
section
/-! DEFINITION. State of the power-line side: PHY settings (05), mains tracking and tone maps (06), the canceller
(07), medium access (08), topology (09) and the link buffers (10). -/

namespace Sys2Proof.Machine

/-- The settings of phy.configure (R153, R155). -/
structure PhyCfg where
  /-- transmit level in 0.5 dB units -/
  txLevel : Int := 0
  maxStreams : Nat := 3
  guardAllowed : BitVec 3 := 7
  refresh : Nat := 0
  /-- bit c - 15 set: carrier c masked (R153) -/
  mask : Nat := 0
  deriving DecidableEq, Repr

/-- The states of a mains tracker (R158). -/
inductive MainsState where
  | acquiring | locked | cycleFree
  deriving DecidableEq, Repr

/-- A port's mains tracker (R157 to R160). -/
structure Mains where
  state : MainsState := .acquiring
  /-- the state that takes effect at the next beacon period (R159) -/
  next : Option MainsState := none
  /-- none: the lane source; some j: voltage input j (R157) -/
  source : Option Nat := none
  nextSource : Option (Option Nat) := none
  force : Bool := false
  /-- consecutive qualified crossings that agree within 1 % and imply 40 to 70 Hz -/
  run : Nat := 0
  /-- the last qualified crossing, the one before it, and the last one within 200 us of its prediction -/
  lastCross : Option Nat := none
  prevCross : Option Nat := none
  goodCross : Option Nat := none
  lastGap : Nat := 0
  /-- the time of entering Acquiring -/
  since : Nat := 0
  /-- the fit: half period in 2 ns / 256, and a half-cycle start as a sample count -/
  half : Nat := 0
  phase : Nat := 0
  deriving DecidableEq, Repr

/-- The settings of mac.configure (R237, R238). -/
structure MacCfg where
  retry : List Nat := [7, 7, 7, 7]
  beaconSlot : Nat := 0
  leekEvery : Nat := 0
  networkId : Nat := 0
  alternate : Bool := true
  deriving DecidableEq, Repr

/-- Where a station stands in the contention cycle (R213 to R215). -/
inductive Contend where
  /-- no contention period runs -/
  | idle
  | prs0 | prs1 | backoff
  /-- the device has left the period, or takes no part in it -/
  | left
  deriving DecidableEq, Repr

/-- What determines the waveform of a transmission (R120 to R145): kept from its first sample to its last, so that later
settings change nothing on the line. -/
structure Wave where
  /-- the frame control, and the octets of the body -/
  fc : Nat
  body : Bytes
  /-- the loading and the precoding feedback of the map it uses (R169): empty in the robust and Leek forms -/
  loading : Bytes
  feedback : Bytes
  /-- the CE-form symbols of a sounding body (R142) -/
  sounding : Nat
  /-- the Chive link's 512-point form (R147) -/
  chive : Bool
  /-- the carrier mask, the transmit level in 0.5 dB units, the attenuation of each lane (R63, R118, R122) -/
  mask : Nat
  level : Int
  atten : List Nat
  /-- the lanes that carry it, bit k for lane k (R59, R86, R123) -/
  lanes : Nat
  deriving DecidableEq, Repr

/-- A frame on the line or in an exchange (R133, R207). -/
structure Tx where
  /-- kind of R207: 0 data, 1 management, 2 beacon, 3 acknowledgement, 4 sounding -/
  kind : Nat
  cls : Nat
  dest : Nat
  ackReq : Bool
  attempt : Nat
  firstSeq : Nat
  /-- tonemap_id of R133 -/
  mapId : Nat
  /-- repetition of Leek mode, when it is a Leek frame -/
  leek : Option Nat
  /-- the frames carried, the head of the queue first -/
  flights : List Nat
  queue : Nat
  body : Bytes
  startAt : Nat
  endAt : Nat
  /-- body symbols, the samples of one, and the first one's offset from the frame start (R149) -/
  symbols : Nat
  symLen : Nat
  bodyOff : Nat
  wave : Wave
  deriving DecidableEq, Repr

/-- A frame being received (R130, R150). -/
structure Rx where
  startAt : Nat
  leek : Bool
  time : Word
  quality : Nat
  /-- the frame control once decoded -/
  fc : Option Nat
  endAt : Nat
  /-- spans of sample counts whose symbols are erased (R58, R65) -/
  erased : List (Nat × Nat) := []
  deriving DecidableEq, Repr

/-- An acknowledgement the device owes (R217). -/
structure AckDue where
  due : Nat
  dest : Nat
  cls : Nat
  units : Nat
  attempt : Nat
  firstSeq : Nat
  leek : Option Nat
  deriving DecidableEq, Repr

/-- The settings of topology.configure (R264). -/
structure TopoCfg where
  maxDepth : Nat := 7
  reportInterval : Nat := 8
  hysteresis : Nat := 25
  copies : Nat := 2
  unreachHold : Nat := 16
  deriving DecidableEq, Repr

/-- A pending tree version (R253, R255). -/
structure PendingTree where
  version : BitVec 8
  /-- parents under the version, by endpoint -/
  parents : Table Nat
  /-- endpoints whose TP_ROUTE_ACK is awaited, and those already sent a TP_ROUTE -/
  owed : List Nat
  sent : List Nat
  /-- the endpoints admitted when it was computed and not removed since (R265) -/
  members : List Nat
  /-- beacon periods since it began -/
  age : Nat
  deriving DecidableEq, Repr

/-- One direction of a link as its receiver reported it (R248, R250). -/
structure LinkDir where
  src : Nat
  dst : Nat
  rate : Nat
  seq : Nat
  deriving DecidableEq, Repr

/-- The topology engine of a port (09). -/
structure Topo where
  cfg : TopoCfg := {}
  next : Option TopoCfg := none
  active : BitVec 8 := 0
  pending : Option PendingTree := none
  /-- the last version number given out (R255) -/
  lastVersion : BitVec 8 := 0
  links : List LinkDir := []
  /-- the matrix as it stood at the latest beacon's frame start (R251): the usable links and their costs -/
  snapshot : List ((Nat × Nat) × Nat) := []
  /-- links marked unusable (R252) -/
  unusable : List (Nat × Nat) := []
  /-- a version became active or was abandoned in this period, and the endpoints whose state changed (R262) -/
  changed : Bool := false
  affected : List Nat := []
  bcastId : BitVec 15 := 0
  /-- the beacon's tree computation is due -/
  computeDue : Bool := false
  deriving DecidableEq, Repr

/-- The MAC of a port (08). -/
structure PortMac where
  cfg : MacCfg := {}
  next : Option MacCfg := none
  beaconSeq : BitVec 16 := 0
  nextBeacon : Nat := 20000000
  /-- the nominal start of the present beacon period, and whether the schedule runs -/
  beaconAt : Nat := 0
  beaconing : Bool := false
  contend : Contend := .idle
  /-- the start of the slot in progress -/
  slotAt : Nat := 0
  bc : Option Nat := none
  idleSlots : Nat := 0
  /-- the end of the hold-off after an undecodable frame -/
  holdOff : Option Nat := none
  /-- the class it takes part with in this period (R214), the frame it contends with, by queue and flight number, or none for
  a sounding frame (R215) -/
  cls : Nat := 0
  head : Option (Nat × Nat) := none
  /-- it takes part again in the first period after the beacon (R216) -/
  waitBeacon : Bool := false
  /-- the frame end of an acknowledgement that was detected and not accepted (R213) -/
  ackEnd : Option Nat := none
  /-- next_beacon of the last beacon sent (R226, R230) -/
  lastNext : Nat := 20000000
  /-- the transmission on the line, and the exchange that awaits its acknowledgement -/
  tx : Option Tx := none
  awaiting : Option Tx := none
  rx : Option Rx := none
  /-- the latest frame whose frame control was read, for whichever station, and its end (R187, R193) -/
  heard : Option Rx := none
  ackDue : Option AckDue := none
  /-- classes and the last queue served of each (R267) -/
  served : Table Nat := []
  deriving DecidableEq, Repr

/-- A port (03, 05, 06, 08, 09, 10). -/
structure Port where
  line : PortLine := {}
  phy : PhyCfg := {}
  nextPhy : Option PhyCfg := none
  mains : Mains := {}
  /-- margin in 0.5 dB units, refresh period in s, tone-map frames sent in the beacon period (R168, R180) -/
  margin : Nat := 6
  refreshS : Nat := 30
  tmSent : Nat := 0
  mac : PortMac := {}
  topo : Topo := {}
  rxReserve : Nat := 128
  queueLimit : Nat := 1024
  /-- PEAK_TX and RX_OVERRUN of LBF_PORT_STATUSp (R285) -/
  peakTx : BitVec 11 := 0
  rxOverrun : Bool := false
  deriving DecidableEq, Repr

/-- A port as device reset leaves it: beacon_slot is the port number mod 8 (R238). -/
def Port.init (p : Nat) : Port := { mac := { cfg := { beaconSlot := p % 8 } } }

/-- Where a frame's outcome goes (R292, R318). -/
inductive Route where
  | none
  /-- notification 0x8801 on the lane of the frame.submit -/
  | notice (lane : Nat)
  /-- the frame outcome record of a cipher-ring descriptor: ring, user tag and its completion-event bit -/
  | ring (ring : Nat) (tag : Word) (raise : Bool)
  deriving DecidableEq, Repr

/-- What waits for a frame's seal (R292, R304). -/
inductive Sealer where
  | none
  /-- frame.submit -/
  | mailbox (c : Caller)
  /-- a frame-seal descriptor of a cipher ring -/
  | ring (ring : Nat) (tag : Word) (raise : Bool)
  /-- a trunk feed or a hosted service -/
  | engine
  deriving DecidableEq, Repr

/-- A transmit frame in flight (R266 to R283). -/
structure Flight where
  port : Nat
  pod : Nat
  cls : Nat
  final : Nat
  /-- payload bytes as they will be queued -/
  len : Nat
  /-- the queued payload: sealed unit and protection header, or the management message -/
  data : Bytes := []
  enqueued : Bool := false
  sealer : Sealer := .none
  inShare : Bool := false
  inBacking : Bool := false
  attempt : Nat := 0
  fails : Nat := 0
  /-- PC3 stage: 0 normal, 1 E1, 2 E2, 3 E3, and the transmissions in it (R234) -/
  stage : Nat := 0
  stageSent : Nat := 0
  /-- the entry of its stage has been raised -/
  entered : Bool := false
  inExchange : Bool := false
  detached : Bool := false
  /-- the status it retires with when its exchange fails (R280) -/
  retire : Option Status := none
  backPoison : Bool := false
  heldPoison : Bool := false
  route : Route := .none
  /-- an engine frame (R593), and a management message (R210) -/
  engine : Bool := false
  mgmt : Bool := false
  /-- broadcast: copies still to send in the period and the identifier (R258) -/
  copies : Nat := 0
  bcastId : Nat := 0
  /-- the seq of its unit, given at the first transmission (R209, R224) -/
  seq : Option Nat := none
  /-- the station that seq counts at -/
  seqTo : Nat := 0
  /-- its place in the order of admissions (R304) -/
  order : Nat := 0
  /-- the transmit slot in force at its admission (R327) -/
  txSlot : Nat := 0
  /-- bytes of its sealed unit, and the hardware nonce issued for it (R303, R318) -/
  unitLen : Nat := 0
  nonce : Bytes := []
  deriving DecidableEq, Repr

/-- A transmit queue (R266, R278, R286): its flight numbers, oldest first. -/
structure Queue where
  flights : List Nat := []
  rewinds : BitVec 12 := 0
  deriving DecidableEq, Repr

/-- A submission held by admission (R276). -/
structure Held where
  pod : Nat
  final : Nat
  cls : Nat
  len : Nat
  port : Nat
  cause : Nat
  sealer : Sealer
  route : Route
  engine : Bool
  mgmt : Bool
  /-- the request of a frame.submit, the descriptor of a ring, or the message or plaintext of an engine's frame -/
  data : Bytes
  /-- its descriptor stands at CONS of its mailbox lane (R292) -/
  atCons : Bool := false
  deriving DecidableEq, Repr

/-- A receive reassembly (R268, R270, R293). -/
structure Reasm where
  port : Nat
  ep : Nat
  cls : Nat
  seq : Nat
  data : Bytes
  /-- bytes of the unit with its protection header, by which its cells are counted (R271) -/
  size : Nat := 0
  time : Word
  quality : Nat
  /-- opened: the plaintext and the endpoint counter; or pass-through -/
  opened : Bool := false
  passThrough : Bool := false
  /-- a word of a unit that passes through was poisoned (R282) -/
  poisoned : Bool := false
  counter : Nat := 0
  pod : Nat := 0
  inShare : Bool := true
  /-- the station that sent the frame, the hop of R233 -/
  src : Nat := 0
  /-- its place in the order of acceptances (R224, R293) -/
  order : Nat := 0
  /-- a TP_JOIN for the registry service of pod 0, which waits while firmware does not run (R18) -/
  join : Bool := false
  /-- it waits for a destination: verified, and not a unit still to be opened -/
  ready : Bool := false
  deriving DecidableEq, Repr

/-- POD_ADMIT_STATUS (R277) and the receive ring (R293, R294) of a pod. -/
structure PodLbf where
  quota : Option Nat := none
  blockPort : BitVec 7 := 0
  blockQueue : BitVec 5 := 0
  blockCause : BitVec 4 := 0
  blockedSeen : Bool := false
  rxEnable : Bool := false
  rxBase : Nat := 0
  rxCtrl : Nat := 0
  rxLog2 : Nat := 16
  rxProd : Nat := 0
  rxCons : Nat := 0
  overruns : BitVec 32 := 0
  deriving DecidableEq, Repr

/-- The link buffers (10). -/
structure LinkBuf where
  flights : Table Flight := []
  queues : Table Queue := []
  held : List Held := []
  reasms : Table Reasm := []
  pods : Table PodLbf := []
  /-- admissions and acceptances so far: the order of each -/
  count : Nat := 0
  -- LBF_DEVICE_STATUS (R284)
  peakFrames : BitVec 18 := 0
  ddrFault : Bool := false
  paritySeen : Bool := false
  -- LBF_PARITY_LOG (R287)
  logCount : BitVec 16 := 0
  logArea : BitVec 3 := 0
  logUnit : BitVec 13 := 0
  logIndex : BitVec 32 := 0
  deriving DecidableEq, Repr

/-- A neighbour of a port (R218, R224, R231 to R239). -/
structure Neighbour where
  counter : BitVec 8 := 0
  degraded : Bool := false
  dRt : Option Nat := none
  longRun : Nat := 0
  unsuitable : Bool := false
  ok : Word := 0
  failed : Word := 0
  escalations : Word := 0
  rxSecurity : Word := 0
  /-- next expected and next transmit sequence numbers, by class -/
  expected : Table Nat := []
  nextSeq : Table Nat := []
  /-- its one exchange that is not PC3 in this beacon period is used (R232) -/
  used : Bool := false
  /-- consecutive frames beyond 32 samples of offset, and XT_TIMING sent in this period (R188) -/
  offsetRun : Nat := 0
  xtSent : Bool := false
  /-- the timing advance last sent to it (R188) -/
  advance : Int := 0
  deriving DecidableEq, Repr

/-- The states of an endpoint (R241). -/
inductive EpState where
  | free | joining | reachable | unreachable
  deriving DecidableEq, Repr

/-- An entry of the endpoint table (R241, R259, R305, R327). -/
structure Endpoint where
  state : EpState := .free
  port : Nat := 0
  pod : Nat := 0
  eui : Nat := 0
  parent : Nat := 0xFFFF
  depth : Nat := 0
  cost : Nat := 0
  capacity : Nat := 0
  joinParent : Option Nat := none
  /-- its latest TP_JOIN (R259): port, EUI-64, parent and repeater capacity -/
  join : Option (Nat × Nat × Nat × Nat) := none
  /-- beacon periods spent Unreachable -/
  unreachable : Nat := 0
  txSlot : Option Nat := none
  rxSlot : Option Nat := none
  /-- highest endpoint counter seen and the replay bitmap below it (R305) -/
  highest : Option Nat := none
  window : Word := 0
  deriving DecidableEq, Repr

/-- A tone map (R164 to R174). -/
structure ToneMap where
  valid : Bool := false
  generation : BitVec 8 := 0
  streams : Nat := 1
  gi : Nat := 0
  rate : Nat := 0
  flags : Nat := 0
  loading : Bytes := []
  feedback : Bytes := []
  infoBits : Nat := 0
  installedAt : Nat := 0
  /-- invalid by a mask change: a frame that names it is still read with it (R142, R156) -/
  masked : Bool := false
  /-- the number of the last generation sent, of an own map (R164) -/
  lastGen : BitVec 8 := 0
  /-- the time of the last periodic refresh of an own map (R172) -/
  refreshedAt : Nat := 0
  /-- extra margin in 0.5 dB units (R173), the last 32 syndrome flags, consecutive failures (R174) -/
  extra : Nat := 0
  window : List Bool := []
  failures : Nat := 0
  /-- the time of its latest generation (R172) -/
  sentAt : Option Nat := none
  deriving DecidableEq, Repr

/-- The tone-map exchange with a neighbour (R166, R171, R181). -/
structure MapLink where
  /-- the map ids and generations of the TM_MAP_ACKs whose acknowledgement is awaited, each with the map in use until then -/
  ackHold : List ((Nat × Nat) × ToneMap) := []
  /-- map ids that a tonemap.refresh of each direction still awaits, and the beacon periods since (R181) -/
  refreshRx : List Nat := []
  refreshTx : List Nat := []
  rxAge : Nat := 0
  txAge : Nat := 0
  /-- own maps to compute and send (R171, R172), and those exempt from the hold-off of R172 -/
  requested : List Nat := []
  exempt : List Nat := []
  /-- sounding owed to the neighbour: symbols and streams, by slot (R170) -/
  sound : Table (Nat × Nat) := []
  /-- the signal-to-noise estimates (R166) in 1/256 dB, by 16 * slot + 4 * number of streams + stream, carrier 15 first; slot 8
  is the slot-independent one of Cycle-free -/
  estimates : Table (List Int) := []
  /-- the last observation of each slot's estimate, and the slots marked stale -/
  observed : Table Nat := []
  stale : List Nat := []
  /-- the greatest rate at which the neighbour is heard in Leek mode alone (R249) -/
  leekRate : Nat := 0
  /-- new generations sent and not yet acknowledged, by map id (R171) -/
  sent : Table ToneMap := []
  deriving DecidableEq, Repr

/-- Tone maps of the device (06). -/
structure ToneMaps where
  /-- by 16 * (2 * (16,384 * port + endpoint) + direction) + map id; direction 0 receive, 1 transmit -/
  maps : Table ToneMap := []
  /-- by 16,384 * port + endpoint -/
  links : Table MapLink := []
  /-- active neighbours with a cache entry, most recently used first (R175, R176) -/
  cache : List Nat := []
  deriving DecidableEq, Repr

/-- The states of a canceller pair (R195). -/
inductive CancState where
  | surveying | training | engaged | suspended | disengaged
  deriving DecidableEq, Repr

/-- A complex coefficient of 16 + 16 bits (R190). -/
abbrev Cpx := Int × Int

/-- A canceller pair (R190 to R197). -/
structure CancPair where
  state : CancState := .training
  delay : Nat := 0
  echo : Table Cpx := []
  rx : Table Cpx := []
  pre : Table Cpx := []
  /-- gains of the three terms in 0.25 dB units (R195, R204), and the coupled power before and after each on the covered symbols
  counted since they were last found -/
  echoGain : Nat := 0
  rxGain : Nat := 0
  preGain : Nat := 0
  echoPower : Nat × Nat := (0, 0)
  rxPower : Nat × Nat := (0, 0)
  prePower : Nat × Nat := (0, 0)
  counted : Nat := 0
  /-- updates of E_va and E_vv so far, and observations of E_va (R193, R194) -/
  updates : Nat := 0
  echoObs : Nat := 0
  /-- the victim's body symbols of the last second, the latest first: sample count, and whether covered (R204) -/
  recent : List (Nat × Bool) := []
  since : Nat := 0
  /-- the causes of R197 that have begun, by 2 * cause + 1 for one of the aggressor, and the time each last began -/
  causes : Table Nat := []
  deriving DecidableEq, Repr

/-- A survey of a victim (R192, R203). -/
structure Survey where
  candidates : List Nat
  maxAggressors : Nat
  minCoupling : Int
  ends : Nat
  deriving DecidableEq, Repr

/-- The bins of a symbol, by carrier and then mode or branch, in units of 2^-40, with the sample count they belong to. -/
structure BinSet where
  at_ : Nat
  bins : List (Nat × List (Int × Int))
  deriving DecidableEq, Repr

/-- The canceller (07). -/
structure Canceller where
  /-- GI_x code: 0, 1 or 2 for 384, 768, 1536 (R184) -/
  guardX : Nat := 1
  /-- by 128 * victim + aggressor -/
  pairs : Table CancPair := []
  surveys : Table Survey := []
  /-- configurations awaiting their boundary, by victim: the aggressors and the survey -/
  next : Table (List Nat × Option Survey) := []
  selfEcho : Table (Table Cpx) := []
  /-- the grid point at which E_vv was last trained, by victim -/
  selfAt : Table Nat := []
  /-- victims whose pairs go at their next symbol boundary (R203) -/
  leaving : List Nat := []
  /-- by victim, the latest symbol as corrected so far (R182): its grid point and the transmit bins on its modes, and the start of
  its FFT window and the receive bins on its branches -/
  txBins : Table BinSet := []
  rxBins : Table BinSet := []
  deriving DecidableEq, Repr

end Sys2Proof.Machine
end

