-- ==== Sys2Proof/Machine/StateSense.lean ====
section
/-! DEFINITION. State of the measurement chains (04) and of the grid sensing front end (14). -/

namespace Sys2Proof.Machine

/-- Where a chain's blocks go (R111). -/
inductive Dest where
  | none | ring | trunk
  deriving DecidableEq, Repr

/-- The settings of chain.configure (R111, reset R115). -/
structure ChainCfg where
  /-- bit 0 fractional delay, bit 1 rank filter, bit 2 linearisation -/
  enables : BitVec 3 := 0
  rankTaps : Nat := 3
  rankSelect : Nat := 1
  k : Nat := 0
  average : Bool := false
  shift : Nat := 14
  blockLog2 : Nat := 12
  dest : Dest := .none
  trunkSlot : Nat := 0
  ringBase : Nat := 0
  ringCtrl : Nat := 0
  ringLog2 : Nat := 0
  /-- D of R92, by position -/
  delay : Table Nat := []
  deriving DecidableEq, Repr

/-- A coefficient bank (R94, R99): h[0] first, 22 fractional bits, and G3 in 1/1024 sample. -/
structure Bank where
  h : List Int := [0x400000]
  g3 : Nat := 0
  deriving DecidableEq, Repr

/-- A comparator of a position (R97, R108). -/
structure Comparator where
  /-- 0 off, 1 above, 2 below -/
  mode : Nat := 0
  level : Int := 0
  hyst : Nat := 0
  q : Nat := 1
  active : Bool := false
  /-- consecutive outputs of the qualifying run, and the run's first output with its corrected time and quality -/
  run : Nat := 0
  first : Int := 0
  firstAt : Word := 0
  firstQuality : Nat := 0
  /-- report the active state on the next output (R97) -/
  report : Bool := false
  deriving DecidableEq, Repr

/-- A block being filled (R104). -/
structure Block where
  at_ : Word
  flags : Nat
  delay : Nat
  k : Nat
  rate : Nat
  lost : Nat
  quality : Nat
  /-- outputs, newest first -/
  rev : List Int
  deriving DecidableEq, Repr

/-- A ring's offsets in its owner's host memory (R106). -/
structure RingOff where
  prod : Nat := 0
  cons : Nat := 0
  deriving DecidableEq, Repr

/-- One position of a chain (R89). DESIGN CHOICE (log 158): the first block of a position has the sequence number 0; the count goes on
over chain.configure and starts afresh at a pod reset. -/
structure Position where
  /-- inputs after entry, rank-window inputs and FIR inputs, newest first -/
  line : List Int := []
  window : List Int := []
  fir : List Int := []
  /-- input samples taken since the last gap or restart (R101), and the source sample count after the latest one -/
  since : Nat := 0
  next : Nat := 0
  /-- outputs a localisation source's window may hold: input samples since the tap rate last changed (R400) -/
  sinceRate : Nat := 0
  /-- the decimation accumulator of the group in progress (R95), and whether stage 1 saturated in it -/
  acc : Int := 0
  sat : Bool := false
  /-- source sample counts of the inputs that may still contribute and were over range, or first after a change of gain (R105),
  the latest first -/
  overs : List Nat := []
  gains : List Nat := []
  block : Option Block := none
  /-- closed blocks that wait for a read of the ring's consumer offset -/
  ready : List Block := []
  /-- flags owed to the next block: GAP, RESTART, RATE_CHANGED, SWAPPED, and the samples lost ahead of it -/
  owed : Nat := 64
  lost : Nat := 0
  sequence : BitVec 32 := 0
  dropped : BitVec 16 := 0
  cmp0 : Comparator := {}
  cmp1 : Comparator := {}
  /-- the latest output, its corrected time and its quality (R108) -/
  latest : Int := 0
  latestAt : Word := 0
  latestQuality : Nat := 0
  deriving DecidableEq, Repr

/-- A measurement chain (R88 to R116). -/
structure Chain where
  cfg : ChainCfg := {}
  bank0 : Bank := {}
  bank1 : Bank := {}
  active : Bool := false
  /-- the at_time of a pending swap (R114) -/
  swap : Option Nat := none
  positions : Table Position := []
  /-- the offsets of its one ring, which its positions share (R106) -/
  ring : RingOff := {}
  /-- the tap rate halves or restores at the next block boundary: the rate in force on the chain (R34, R100) -/
  halved : Bool := false
  deriving DecidableEq, Repr

/-! ### Sensing (14) -/

/-- One position of a precision converter's scan (R411). -/
structure ScanPos where
  settleUs : Nat := 1
  conv : Nat := 0
  /-- bit 0 offset cancel, bit 1 common-mode check -/
  flags : BitVec 2 := 0
  excitation : Nat := 0
  cmQ : Nat := 1
  cmLo : Int := 0
  cmHi : Int := 0
  deriving DecidableEq, Repr

/-- A scan (R411): enables, the frame period and the eight positions. -/
structure Scan where
  enables : BitVec 8 := 0
  periodUs : Nat := 10
  positions : Table ScanPos := []
  deriving DecidableEq, Repr

/-- A precision converter (R384, R412). -/
structure Converter where
  scan : Scan := {}
  /-- the scan that starts at a frame boundary, with its first frame number (R412) -/
  next : Option (Scan × Nat) := none
  /-- the number of the last frame started -/
  frame : Nat := 0
  deriving DecidableEq, Repr

/-- A charge input (R388, R389, reset R414). -/
structure Charge where
  cap : BitVec 2 := 1
  mode : BitVec 2 := 1
  cmCheck : Bool := false
  cmQ : Nat := 1
  cmLo : Int := 0
  cmHi : Int := 0
  /-- the reset switch is closed until this time -/
  switchUntil : Nat := 0
  deriving DecidableEq, Repr

/-- The linearisation of an input (R396 to R398): 24 binary32 coefficients a[i][j] at 4i + j, and the temperature
source. -/
structure LinCoef where
  coef : List (BitVec 32) := List.replicate 24 0
  source : Nat := 0
  sourceInput : Nat := 0
  /-- the persisted record passed its check, so that linearisation maps (R398) -/
  sound : Bool := true
  deriving DecidableEq, Repr

/-- A sensor input's fault flags and linearisation (R390 to R398). -/
structure Input where
  clamp : Bool := false
  commonMode : Bool := false
  compliance : Bool := false
  /-- consecutive common-mode checks against the present flag (R391) -/
  cmRun : Nat := 0
  lin : LinCoef := {}
  /-- a set that applies from the next block -/
  nextLin : Option LinCoef := none
  /-- the linearised outputs with their times, the newest first (R397) -/
  values : List (Int × Word) := []
  deriving DecidableEq, Repr

/-- A source of a localisation group (R399). -/
structure PdSource where
  chain : Nat
  /-- 0 positive, 1 negative, 2 either -/
  polarity : Nat
  level : Nat
  positionMm : Int
  delayPs : Int
  deriving DecidableEq, Repr

/-- A pulse not yet used by a cluster (R400). -/
structure Pulse where
  source : Nat
  arrival : Word
  peak : Nat
  charge : Int
  early : Bool
  txActive : Bool
  saturated : Bool
  quality : Nat
  deriving DecidableEq, Repr

/-- A localisation group (R399 to R403). -/
structure PdGroup where
  enable : Bool := false
  ignoreTx : Bool := false
  sources : List PdSource := []
  minSources : Nat := 1
  windowNs : Nat := 100
  velocity : Nat := 50000
  deadNs : Nat := 0
  ringBase : Nat := 0
  ringCtrl : Nat := 0
  ringLog2 : Nat := 16
  ring : RingOff := {}
  sequence : BitVec 32 := 0
  discarded : BitVec 16 := 0
  pulses : List Pulse := []
  /-- until when a source accepts no new trigger (R400), by source -/
  deadUntil : Table Word := []
  deriving DecidableEq, Repr

/-- An I2C transfer (R405, R413). -/
structure I2cJob where
  caller : Caller
  address : Nat
  written : Bytes
  retryLimit : Nat
  readLen : Nat
  timeoutMs : Nat
  queuedAt : Nat
  losses : Nat
  /-- the device has sent its clock pulses and STOP to a bus whose SDA is held low (R407) -/
  recovered : Bool := false
  deriving DecidableEq, Repr

/-- An I2C port (R404 to R407). -/
structure I2cPort where
  speed : BitVec 2 := 0
  /-- the transfer taken, and whether it has started; those behind it wait under R592 -/
  current : Option I2cJob := none
  started : Bool := false
  deriving DecidableEq, Repr

/-- The grid sensing front end (14). -/
structure Sensing where
  converters : Table Converter := []
  charges : Table Charge := []
  inputs : Table Input := []
  /-- TMP_SNS_GROUPg_SEEN (R394), CLAMP_SEEN and CM_SEEN by input; COMPLIANCE_SEEN by temperature input -/
  clampSeen : List Nat := []
  cmSeen : List Nat := []
  complianceSeen : List Nat := []
  groups : Table PdGroup := []
  i2c : Table I2cPort := []
  deriving DecidableEq, Repr

end Sys2Proof.Machine
end

