-- ==== Sys2Proof/Machine/StateTime.lean ====
section
/-! DEFINITION. State of the timebase (15). -/

namespace Sys2Proof.Machine

/-- The references of R418. -/
inductive Ref where
  | none | pps | trunk | host
  deriving DecidableEq, Repr

/-- The settings of timebase.configure (R431, R433). -/
structure TmbCfg where
  refOrder : BitVec 8 := 0x39
  trunkLane : BitVec 3 := 0
  /-- bit 0 falling edge, bit 1 squelch, bit 2 revertive -/
  flags : BitVec 3 := 0
  holdoverS : Nat := 300
  ppsDelayPs : Int := 0
  ppsWidthMs : Nat := 100
  deriving DecidableEq, Repr

/-- A step waiting for its instant (R422): its reference, the whole second it steps to, and the sample count of the
instant (none for PPS: the next edge). -/
structure StepWait where
  ref : Ref
  newTime : Word
  due : Option Nat
  deriving DecidableEq, Repr

/-- The timebase (R415 to R433). -/
structure Timebase where
  /-- the time function of R417: time t_u at sample count n_u, rate 1 + y_u / 2^40 -/
  tU : Word := 0
  nU : Nat := 0
  yU : Int := 0
  /-- time has been set since the always-on supply came up -/
  valid : Bool := false
  /-- time was loaded from the always-on counter and no reference has been selected since -/
  fromAon : Bool := false
  selected : Ref := .none
  offset : Int := 0
  freq : Int := 0
  /-- the slew remaining, signed, in 2^-32 s -/
  slewLeft : Int := 0
  /-- the sample count of the loss that began the present holdover -/
  holdoverFrom : Option Nat := none
  stepCount : BitVec 16 := 0
  hostSet : Bool := false
  hostSince : Nat := 0
  stepSeen : Bool := false
  lockSeen : Bool := false
  lossSeen : Bool := false
  switchSeen : Bool := false
  stepAmount : Word := 0
  stepTime : Word := 0
  cfg : TmbCfg := {}
  nextCfg : Option TmbCfg := none
  -- PPS (R418)
  ppsQual : Bool := false
  ppsRun : Nat := 0
  ppsLast : Option Nat := none
  -- trunk reference (R418)
  trunkQual : Bool := false
  trunkRun : Nat := 0
  trunkClear : Nat := 0
  trunkTq : Nat := 0
  /-- sample counts since which PPS and trunk have stayed qualified (R419) -/
  ppsSince : Nat := 0
  trunkSince : Nat := 0
  step : Option StepWait := none
  /-- the seconds of settime mode 1 waiting for the next PPS edge -/
  seconds : Option Nat := none
  /-- corrections of the last 64 locked seconds, newest first (R420) -/
  lockedHist : List Int := []
  -- PPS_OUT (R424)
  ppsOut : Bool := false
  ppsFall : Nat := 0
  /-- the moment from which the always-on domain alone keeps the time (R421) -/
  aonAt : Nat := 0
  deriving DecidableEq, Repr

/-- The time at a sample count under the function in force (R417), in 2^-32 s modulo 2^64. -/
def timeAt (t : Timebase) (n : Nat) : Word :=
  BitVec.ofInt 64 (t.tU.toNat + ((n : Int) - t.nU) * (2 ^ 40 + t.yU) * 2 ^ 32 / (500000000 * 2 ^ 40))

end Sys2Proof.Machine
end

