-- ==== Sys2Proof/Machine/StateTrunk.lean ====
section
/-! DEFINITION. State of the trunk, the slot interchange and the redundant pair (13, 20 R543 to R548). -/

namespace Sys2Proof.Machine

/-- The modes of a trunk lane (R348). -/
inductive TrunkMode where
  | off | skeluz | ethernet
  deriving DecidableEq, Repr

/-- The settings of trunk.configure (R379). -/
structure TrunkCfg where
  mode : TrunkMode := .off
  nodeId : BitVec 16 := 0
  sdExp : Nat := 4
  ethFlags : BitVec 3 := 0
  vlan : BitVec 16 := 0
  asymPs : Int := 0
  dstMac : Nat := 0
  srcMac : Nat := 0
  deriving DecidableEq, Repr

/-- What a receiver remembers of one slot: its last three labels and RDI bits, newest first, the defects present and,
in Ethernet mode, the last chunk (R359, R369). -/
structure SlotRx where
  labels : List Nat := []
  rdis : List Bool := []
  ais : Bool := false
  uneq : Bool := false
  plm : Bool := false
  rdi : Bool := false
  chunkSeq : BitVec 16 := 0
  chunkAt : Nat := 0
  deriving DecidableEq, Repr

/-- A trunk lane (R348 to R361, R374, R375). -/
structure TrunkLane where
  cfg : TrunkCfg := {}
  -- received overhead
  peerLane : BitVec 3 := 0
  peerRole : BitVec 2 := 0
  peerFixed : Bool := false
  peerNode : BitVec 16 := 0
  dlDiscards : BitVec 16 := 0
  mfi : BitVec 8 := 0
  -- defects and their W1C bits
  sd : Bool := false
  fifoSeen : Bool := false
  sdSeen : Bool := false
  rdiSeen : Bool := false
  lofSeen : Bool := false
  losSeen : Bool := false
  cwLock : Bool := false
  inFrame : Bool := false
  rdi : Bool := false
  lof : Bool := false
  los : Bool := false
  rdis : List Bool := []
  -- FEC (R375)
  corrected : BitVec 32 := 0
  uncorrectable : BitVec 32 := 0
  -- time transfer (R358)
  delayValid : Bool := false
  delay : BitVec 32 := 0
  /-- TIME of the newest frame received and its arrival t2 -/
  rxTime : Word := 0
  rxAt : Word := 0
  /-- times since which the receiver has been out of frame, in frame, and with signal and lock (R359) -/
  oofSince : Option Nat := none
  inFrameSince : Nat := 0
  goodSince : Option Nat := none
  slots : Table SlotRx := []
  /-- the lane restarts: every slot fails until UP (R379) -/
  restart : Bool := false
  /-- transmit: the next chunk number by slot; PAUSE holds sending until a time -/
  chunkTx : Table (BitVec 16) := []
  pauseUntil : Nat := 0
  /-- every slot of the lane fails for the frame in progress, and AIS is sent in the next frame (R361) -/
  rxShort : Bool := false
  txShort : Bool := false
  deriving DecidableEq, Repr

/-- A connection entry (R362). -/
structure TsiEntry where
  txType : Nat := 0
  txFlags : Nat := 0
  txArg : Nat := 0
  txPod : Nat := 0
  rxType : Nat := 0
  rxFlags : Nat := 0
  rxArg : Nat := 0
  deriving DecidableEq, Repr

/-- A page of the slot interchange (R362, R367). -/
structure TsiPage where
  entries : Table TsiEntry := []
  fixed : Bool := false
  deriving DecidableEq, Repr

/-- A packet or block waiting in a slot stream: its pod and its bytes. -/
structure StreamItem where
  pod : Nat
  isPacket : Bool
  data : Bytes
  deriving DecidableEq, Repr

/-- A slot stream toward the trunk: items waiting, and the bytes of the first already sent (R355, R356). -/
structure SlotStream where
  items : List StreamItem := []
  sent : Nat := 0
  deriving DecidableEq, Repr

/-- PAIR_ROLE (R376). -/
inductive PairRole where
  | unpaired | active | standby | failing
  deriving DecidableEq, Repr

/-- The redundant pair (R370 to R373, R543 to R548). -/
structure Pair where
  role : PairRole := .unpaired
  /-- the role and the automatic-switchover flag of pair.configure that apply at a boundary -/
  next : Option (PairRole × Bool × Nat) := none
  auto : Bool := false
  peerReady : Bool := false
  /-- consecutive mirror frames with role failing -/
  failingRun : Nat := 0
  /-- time since which every mirror lane is in LOS or LOF -/
  mirrorLost : Option Nat := none
  /-- PAIR_HB_IN has stopped: the peer's loss is confirmed (R544) -/
  hbLost : Bool := false
  /-- the frame from which role failing is sent (R373, R545); the standby's boundary lies two frames later -/
  failFrom : Option Nat := none
  /-- boundary of a takeover, and of a planned switch -/
  takeover : Option Nat := none
  planned : Option Nat := none
  /-- the MACs are silent: shadow mode (R546), or the boundary of a failing device has passed (R545) -/
  shadow : Bool := false
  deriving DecidableEq, Repr

/-- The trunk and the slot interchange. -/
structure Trunk where
  lanes : Table TrunkLane := []
  page0 : TsiPage := {}
  page1 : TsiPage := {}
  activePage : Bool := false
  commitCount : BitVec 16 := 0
  switchMfi : BitVec 8 := 0
  switched : Bool := false
  commitDone : Bool := false
  /-- the boundary F of a commit that waits, in 125 us frame numbers of the timebase -/
  commitAt : Option Nat := none
  /-- the copy of R365 is in progress -/
  copying : Bool := false
  streams : Table SlotStream := []
  /-- MFI of the next transmitted frame, and the last boundary at which frames started (R351, R353) -/
  txMfi : BitVec 8 := 0
  lastFrame : Option Nat := none
  /-- feed discards in the frame in progress, one event per frame (R377 e = 8), by lane -/
  discardRun : List Nat := []
  pair : Pair := {}
  deriving DecidableEq, Repr

end Sys2Proof.Machine
end

