-- ==== Sys2Proof/Machine/StateSec.lean ====
section
/-! DEFINITION. State of boot, keys and tamper (18), and what MRAM persists (R493). -/

namespace Sys2Proof.Machine

/-- A key record of the MRAM store (R491): the key it wraps, the number of the key-wrapping key it is wrapped under,
and its two generations. The record's bytes never leave the device, so the model keeps what they stand for (log 17). -/
structure KeyRec where
  key : Key
  kwk : Nat
  pageGen : Nat
  storeGen : Nat
  deriving DecidableEq, Repr

/-- The tamper configuration (R495, R503): mode (0 off, 1 high, 2 low, 3 loop) and filter by enclosure input. -/
structure TamperCfg where
  modes : BitVec 8 := 0
  filters : List Nat := [10, 10, 10, 10]
  deriving DecidableEq, Repr

/-- The standby set (R534): the ports that were open, the endpoint table, and the configuration that mailbox commands apply
(mirror record 7, R370), each part as State holds it. -/
structure StandbySet where
  openPorts : List Nat
  ports : Table Port
  eps : Table Endpoint
  owners : Owners
  windows : Table (Table Window)
  bcast : Table Nat
  instanceId : BitVec 16
  guardX : Nat
  pairs : List (Nat × Nat)
  contexts : Table ChkCtx
  page : TsiPage
  lanes : Table TrunkCfg
  vCap : Nat
  credits : Table Credits
  quotas : Table (Option Nat)
  tmb : TmbCfg
  chains : Table Chain
  sensing : Sensing
  routes : Table EvtCfg
  counters : Table Pmc
  slots : Table PmcSlot
  tags : Table TagCfg
  deriving DecidableEq, Repr

/-- What a journaled write puts down (R493). -/
inductive JTarget where
  | keyRecord (index : Nat) (r : Option KeyRec)
  | ceiling (page value : Nat)
  | lin (input : Nat) (c : LinCoef)
  | registry (entries : List RegEntry)
  | tamper (c : TamperCfg)
  /-- the page generation rises by one, and slot 0 is rewritten under it (R491) -/
  | pageGen (page : Nat)
  /-- the store generation rises by one (R483, R497) -/
  | storeGen
  /-- the standby set (R534) -/
  | standby (openPorts : List Nat)
  deriving DecidableEq, Repr

/-- What the commit of a write does besides (R493, R326): a slot that takes its key, and the record owed. -/
structure JWrite where
  target : JTarget
  /-- the key a slot takes when the command completes: index and key -/
  slot : Option (Nat × Key) := none
  /-- the command that completes, with its status and response; squashed by a tamper alarm: ST_TAMPER -/
  caller : Option Caller := none
  status : Status := 0
  resp : Bytes := []
  keyOp : Bool := false
  deriving DecidableEq, Repr

/-- MRAM (R493): it holds through every reset and every loss of power. -/
structure Mram where
  /-- by 64 * page + slot -/
  records : Table KeyRec := []
  storeGen : Nat := 0
  pageGens : Table Nat := []
  ceilings : Table Nat := []
  lins : Table LinCoef := []
  registry : List RegEntry := []
  tamper : TamperCfg := {}
  standby : Option StandbySet := none
  /-- journaled writes not yet committed, the front one in progress -/
  journal : List JWrite := []
  deriving DecidableEq, Repr

/-- The test access port (R484). -/
structure Tap where
  /-- held in Test-Logic-Reset, so that no instruction, IDCODE included, is executed -/
  held : Bool := false
  /-- the level on JTAG_TDO: none is high impedance -/
  tdo : Option Bool := none
  deriving DecidableEq, Repr

/-- The port in a lifecycle state: outside Manufacturing it is held and JTAG_TDO is high impedance, whatever JTAG_TCK, JTAG_TMS,
JTAG_TDI and JTAG_TRST_N do (R484). -/
def Tap.of (lifecycle : Nat) : Tap := { held := lifecycle != 0 }

/-- Boot, keys, tamper and observation (18). -/
structure Sec where
  -- fuses (R485; log 13)
  lifecycle : Nat := 0
  revoked : BitVec 4 := 0
  minSecver : Nat := 0
  /-- the test access port (R484) -/
  tap : Tap := {}
  -- SYS_SEC_STATUS (R500)
  bootSlot : Nat := 0
  runSecver : Nat := 0
  runKey : Nat := 0
  kwkLost : Bool := false
  keysRestored : Bool := false
  restoreFailSeen : Bool := false
  bootFallback : Bool := false
  bootOk : Bool := false
  -- always-on domain (R490, R495, R501)
  kwk : Option Nat := none
  tamper : Bool := false
  tamperSeen : Bool := false
  /-- active sources, bit k for source k -/
  active : BitVec 7 := 0
  cfg : TamperCfg := {}
  logSource : BitVec 4 := 0
  logState : BitVec 2 := 0
  logKeyOp : Bool := false
  alarms : BitVec 48 := 0
  tamperTime : Word := 0
  /-- an alarm qualified in reset or standby: its event is raised at the start that follows (R496) -/
  alarmDue : Bool := false
  /-- consecutive mismatches of a loop input (R495) -/
  loopRun : Table Nat := []
  -- observation (R498, R499)
  challenge : Option (Bytes × Nat) := none
  observeUntil : Option Nat := none
  deriving DecidableEq, Repr

end Sys2Proof.Machine
end

