-- ==== Sys2Proof/Machine/State.lean ====
section
/-! DEFINITION. The whole state of the block, its outputs, its two reasons to stop, and State.reset. -/

namespace Sys2Proof.Machine

/-- A slot position of a transmitted frame (R354, R356): its 8 overhead bytes and the stream's bytes. -/
structure SlotOut where
  k : Nat
  overhead : Bytes
  data : Bytes
  deriving DecidableEq, Repr

/-- What leaves the device (log 4), one constructor for each way out. -/
inductive Output where
  /-- a host-memory write through a function (R465): function, address, bytes -/
  | hostWrite (fn addr : Nat) (data : Bytes)
  /-- an MSI-X message (R560): function and vector -/
  | msix (fn vector : Nat)
  /-- the data of a register read (R12): function, BAR0 offset, value -/
  | regRead (fn offset value : Nat)
  /-- the data of an aperture read (R468) -/
  | apertureRead (pod : Nat) (data : Bytes)
  /-- a copy of an event record to the management processor and the trace (R553) -/
  | eventCopy (r : EventRec)
  /-- words on the trace-out port (R519) -/
  | tracePort (words : List Word)
  /-- a Skeluz frame on a trunk lane (R350 to R354): row 0 and the equipped slot positions, whose bytes `trunkBytes` gives, and how many
  fill bytes follow it -/
  | trunkFrame (lane : Nat) (row0 : Bytes) (slots : List SlotOut) (fill : Nat)
  /-- an Ethernet chunk frame on a trunk lane (R369): addresses, VLAN tag, chunk header and words -/
  | chunk (lane : Nat) (mac : Bytes) (header data : Bytes)
  /-- an I2C transfer starts (R405): port, speed mode, address, written bytes and bytes to read -/
  | i2c (port speed address : Nat) (written : Bytes) (readLen : Nat)
  /-- 9 clock pulses and a STOP on an I2C port (R407) -/
  | i2cRecover (port : Nat)
  /-- a frame on the line (R120, R128): port, sample count of its frame start, and its waveform, whose samples
  `laneSample` gives -/
  | line (port start : Nat) (wave : Wave)
  /-- the transmit bins of a port's body symbol after pre-compensation (R182), by carrier and mode in units of 2^-40: port, sample
  count of the symbol's start -/
  | compensated (port at_ : Nat) (bins : List (Nat × List (Int × Int)))
  /-- a lane's converter puts out mid-scale from one sample count to another (R57, R74) -/
  | midScale (lane from_ to_ : Nat)
  /-- a priority signal (R212): port, sample count of its start, Leek S1 or S1 -/
  | priority (port start : Nat) (leek : Bool)
  /-- PORT_nnn_TXEN changes (R72, R73) -/
  | txen (port : Nat) (level : Txen)
  /-- an AVSBus voltage request (R50, R54), in mV -/
  | avs (mv : Nat)
  /-- a notable pin driven or released: PCIE_WAKE_N, PPS_OUT, PAIR_HB_OUT, TAMPER_OUT pattern -/
  | pin (name : String) (value : Nat)
  /-- a write to boot flash by the update commands (R460): slot, offset, bytes -/
  | flash (slot offset : Nat) (data : Bytes)
  /-- a selector copy of the boot flash written (R486): 0 for A, 1 for B -/
  | selector (copy : Nat) (data : Bytes)
  /-- a mirror record on the mirror link (R370) -/
  | mirror (r : MirrorRec)
  deriving DecidableEq, Repr

/-- The whole state. -/
structure State where
  /-- the fused part (R1, R4) -/
  part : Part
  /-- commands waiting, first in first out: the model's own field -/
  pending : List Instr
  /-- 2 ns sample periods since VDD_AON came up (log 2) -/
  now : Nat
  /-- index of the next free value (log 3) -/
  free : Nat
  /-- what has left the device, newest last (log 4) -/
  out : List Output
  pwr : Power
  syn : Synths
  tmb : Timebase
  mgmt : Mgmt
  pods : Table Pod
  own : Owners
  fw : Firewall
  host : HostIf
  evt : Events
  obs : Observe
  /-- ports (03, 05 to 10), by number; an unlisted port is as device reset leaves it (Port.init) -/
  ports : Table Port
  lbf : LinkBuf
  /-- neighbours, by 32,768 * port + station -/
  nbrs : Table Neighbour
  /-- the endpoint table, by endpoint number -/
  eps : Table Endpoint
  tm : ToneMaps
  canc : Canceller
  cph : Cipher
  /-- check-value contexts, by number -/
  chk : Table ChkCtx
  trk : Trunk
  /-- measurement chains, by number -/
  chains : Table Chain
  sns : Sensing
  sec : Sec
  mram : Mram
  /-- DDR, by byte address; an unlisted byte reads 0x00 (log 11) -/
  ddr : List Host.Cell
  deriving DecidableEq, Repr

/-- Why the machine stops. -/
inductive Fault where
  /-- raised by a row that stands for something outside happening at a resource the part does not have (a pin, a
  lane, a converter that R1 and R2 say does not exist): the spec gives the happening no meaning. Safe: the model
  stops where the hardware has nothing. -/
  | absentResource
  deriving DecidableEq, Repr

/-- Why a command is refused. -/
inductive Refusal where
  /-- raised by exec for a command with no meaning yet; safe. -/
  | notModelled (mnemonic : String)
  deriving DecidableEq, Repr

/-- The outcome of a command. -/
abbrev Out := Host.Outcome State Fault Refusal

/-- The state right after the power-on reset begins: every field at the value the spec gives for reset, and where it
gives none, at the value the log names. -/
def State.reset : State where
  part := .gnz5120
  pending := []
  now := 0
  free := 0
  out := []
  pwr := {}
  syn := {}
  tmb := {}
  mgmt := {}
  pods := []
  own := {}
  fw := {}
  host := {}
  evt := {}
  obs := {}
  ports := []
  lbf := {}
  nbrs := []
  eps := []
  tm := {}
  canc := {}
  cph := {}
  chk := []
  trk := {}
  chains := []
  sns := {}
  sec := {}
  mram := {}
  ddr := []

end Sys2Proof.Machine
end

