-- ==== Sys2Proof/Machine/Ops.lean ====
section
/-! DEFINITION. The operations every command shares: time, free values, counters, host memory, trace, events and
MSI-X. -/

namespace Sys2Proof.Machine

/-! ### Time -/

/-- The device time at this moment (R417). -/
def tmbNow (s : State) : Word := timeAt s.tmb s.now

/-- A row that stands for a moment the device's own timers fix: the clock moves on to that moment (log 15). -/
def advanceTo (t : Nat) (s : State) : State := { s with now := max s.now t }

/-- Microseconds in sample periods. -/
def us (n : Nat) : Nat := n * Config.usTicks

/-- Milliseconds in sample periods. -/
def ms (n : Nat) : Nat := n * Config.msTicks

/-- Seconds in sample periods. -/
def secs (n : Nat) : Nat := n * Config.secTicks

/-- Seconds the timebase has been in holdover (R420, R428). -/
def holdoverSecs (s : State) : Nat :=
  match s.tmb.holdoverFrom with
  | some t => (s.now - t) / Config.secTicks
  | none => 0

/-- Holdover has lasted beyond holdover_s (R416). -/
def holdoverPast (s : State) : Bool :=
  match s.tmb.holdoverFrom with
  | some t => decide (s.now - t > secs s.tmb.cfg.holdoverS)
  | none => false

/-- The quality in force (R416): the lowest code that applies. 429 units of 2^-32 s are the 100 ns of Locked. -/
def quality (s : State) : Nat :=
  let t := s.tmb
  if !t.valid then 0
  else if s.syn.refHold || t.fromAon || t.selected == .host || (t.selected == .trunk && decide (t.trunkTq ≤ 1))
      || (t.selected == .none && holdoverPast s) then 1
  else if t.selected == .none || t.slewLeft != 0 || (t.selected == .trunk && t.trunkTq == 2)
      || decide (t.offset.natAbs > 429) then 2
  else 3

/-! ### Outputs and free values -/

/-- Something leaves the device. -/
def emit (o : Output) (s : State) : State := { s with out := s.out ++ [o] }

/-- The next free number (log 3), and the state that has used it. -/
def freshNat (s : State) : Nat × State := (Config.freeNat s.free, { s with free := s.free + 1 })

/-- A fresh byte string of n bytes the manual does not state. -/
def freshBytes (n : Nat) (s : State) : Bytes × State :=
  (((Config.freeBytes s.free n).take n) ++ zeros (n - ((Config.freeBytes s.free n).take n).length),
    { s with free := s.free + 1 })

/-! ### Records by index -/

def mbxLane (s : State) (pod l : Nat) : MbxLane := tget {} s.mgmt.lanes (3 * pod + l)

def setMbxLane (pod l : Nat) (x : MbxLane) (s : State) : State :=
  { s with mgmt.lanes := tset s.mgmt.lanes (3 * pod + l) x }

def updMbxLane (pod l : Nat) (f : MbxLane → MbxLane) (s : State) : State := setMbxLane pod l (f (mbxLane s pod l)) s

def pod (s : State) (n : Nat) : Pod := tget {} s.pods n

def updPod (n : Nat) (f : Pod → Pod) (s : State) : State := { s with pods := tset s.pods n (f (pod s n)) }

def portOwner (s : State) (p : Nat) : Nat := tget 0 s.own.ports p

/-- The owner of a sensor input (R382, R408). -/
def inputOwner (s : State) (n : Nat) : Nat :=
  if n < 32 then tget 0 s.own.converters (n / 4)
  else if n < 64 then tget 0 s.own.charges (n - 32)
  else tget 0 s.own.converters ((n - 64) / 4)

/-- The owner of a chain (R110, R408). -/
def chainOwner (s : State) (c : Nat) : Nat :=
  if c < 512 then portOwner s (c / 4)
  else if c < 544 then tget 0 s.own.charges (c - 512)
  else tget 0 s.own.converters (c - 544)

/-! ### Counters (19) -/

/-- A fixed counter counts (R504, R505): modulo 2^64, a wrap recorded in PMC_FIX_OVF. -/
def bump (id n : Nat) (s : State) : State :=
  let old := (tget 0 s.obs.fixed id).toNat
  let s := { s with obs.fixed := tset s.obs.fixed id (BitVec.ofNat 64 (old + n)) }
  if old + n ≥ 2 ^ 64 then
    { s with obs.fixOvfFirst := if s.obs.fixOvfCount = 0 then BitVec.ofNat 12 id else s.obs.fixOvfFirst,
             obs.fixOvfCount := satAdd s.obs.fixOvfCount 1, obs.fixOvfSeen := true }
  else s

/-- The attributes an event carries (R506, R507): port, class, initiator pod, DDR range, host privilege. -/
structure Attr where
  port : Option Nat := none
  cls : Option Nat := none
  pod : Option Nat := none
  addr : Option (Nat × Nat) := none
  host : Option Bool := none

/-- How many of n a counter counts of an event with these attributes (R507); bytes outside the address range do not
count. -/
def pmcShare (c : Pmc) (code : Nat) (a : Attr) (n : Nat) : Nat :=
  if !c.enable || c.invalid || c.event.toNat != code || code == 0 then 0
  else if c.portEn && a.port != some c.port.toNat then 0
  else if (c.podEn || c.assigned != 0) && a.pod != some (if c.assigned != 0 then c.assigned.toNat else c.pod.toNat) then 0
  else if (a.cls.map (fun k => !bit c.cls.toNat k)).getD false then 0
  else if (a.host.map (fun h => !bit c.priv.toNat (if h then 1 else 0))).getD false then 0
  else if c.addrEn then
    match a.addr with
    | none => 0
    | some (lo, len) =>
      let first := max lo (c.base4k.toNat * 4096)
      let last := min (lo + len) ((c.limit4k.toNat + 1) * 4096)
      if code == 0x000D then (if last > first then n else 0) else min n (last - first)
  else n

/-- A counter advanced by k modulo 2^64, and whether it raises the overflow event (R505, R508). -/
def pmcAdd (c : Pmc) (k : Nat) : Pmc × Bool :=
  if c.value.toNat + k ≥ 2 ^ 64 then ({ c with value := BitVec.ofNat 64 (c.value.toNat + k), ovf := true }, c.ovfIrq)
  else ({ c with value := BitVec.ofNat 64 (c.value.toNat + k) }, false)

/-- Every programmable counter sees an event; answers the counters whose wrap is to be raised (R505). -/
def pmcCount (code : Nat) (a : Attr) (n : Nat) (s : State) : State × List Nat :=
  let step := fun (e : Nat × Pmc) => (e.1, pmcAdd e.2 (pmcShare e.2 code a n))
  let cs := s.obs.ctrs.map step
  ({ s with obs.ctrs := cs.map (fun e => (e.1, e.2.1)) }, (cs.filter (fun e => e.2.2)).map (fun e => e.1))

/-! ### Host memory (R465, R591) -/

/-- Whether a function exists on the host interface (R463). -/
def fnExists (s : State) (fn : Nat) : Bool :=
  fn == 0 || (s.host.vfEnable && decide (fn ≤ s.host.numVfs) && decide (fn ≤ 64))

/-- Whether the device can issue a host-memory write through a function (R591). -/
def hostOk (s : State) (fn : Nat) : Bool := s.host.linkUp && fnExists s fn && !s.host.bmeOff.contains fn

/-- Whether a write to the register page of a function acts: the device runs and answers the host (R534), the function exists (R463)
and is not fenced by a pod reset (R472). -/
def pageOpen (s : State) (fn : Nat) : Bool :=
  s.pwr.phase == .running && (s.pwr.order.bind (·.recordAt)).isNone && fnExists s fn && !(pod s fn).resetting

/-- An MSI-X table entry. -/
def msixEntry (s : State) (fn v : Nat) : MsixEntry := tget {} s.host.msix (1024 * fn + v)

/-- The MSI-X message of a vector (R554): a masked vector sets its pending bit instead; a function that cannot write
sends nothing. -/
def sendMsix (fn v : Nat) (s : State) : State :=
  if !hostOk s fn then s
  else if bit (msixEntry s fn v).ctrl.toNat 0 then
    { s with host.msixPending := if s.host.msixPending.contains (1024 * fn + v) then s.host.msixPending
                                 else s.host.msixPending ++ [1024 * fn + v] }
  else emit (.msix fn v) s

/-! ### Trace (19) -/

/-- The bytes a trace record takes. -/
def traceBytes (r : TraceRec) : Nat := 8 * r.words.length

/-- The bytes in the DDR ring. -/
def ringBytes (rs : List TraceRec) : Nat := (rs.map traceBytes).sum

/-- The oldest whole records dropped until the ring holds no more than cap bytes. -/
def ringTrim (cap : Nat) : List TraceRec → List TraceRec
  | [] => []
  | r :: rs => if ringBytes (r :: rs) ≤ cap then r :: rs else ringTrim cap rs

/-- The header word of a trace record (R518): time bits [39:8], sequence, words, type. -/
def traceHeader (s : State) (seq words type : Nat) : Word :=
  packWord [(8, type), (8, words), (16, seq), (32, bits (tmbNow s).toNat 8 32)]

/-- The DDR sink takes a record, or drops it when stop mode is full (R520). -/
def ddrAccept (type : Nat) (payload : List Word) (s : State) : Option State :=
  let cap := 2 ^ s.obs.ddrM * 2 ^ 20
  let r : TraceRec := ⟨traceHeader s s.obs.ddrSink.seq.toNat payload.length type :: payload⟩
  let put := fun (ring : List TraceRec) (s : State) =>
    { s with obs.ring := ring, obs.ddrSink.seq := s.obs.ddrSink.seq + 1 }
  if s.obs.ddrMode = 1 then
    let ring := ringTrim cap (s.obs.ring ++ [r])
    some { put ring s with obs.trcWrapped := s.obs.trcWrapped || ring.length != s.obs.ring.length + 1 }
  else if s.obs.ddrMode = 2 then
    if s.obs.trcFull || decide (ringBytes (s.obs.ring ++ [r]) > cap) then none else some (put (s.obs.ring ++ [r]) s)
  else none

/-- Ticks one word takes on the trace-out port at a rate code (R519). -/
def portWordTicks (rate : Nat) : Nat := if rate = 1 then 40 else if rate = 2 then 20 else 10

/-- The sync word of R519. -/
def syncWord : Word := 0x5A5A5A5A000000FE

/-- The port sink sends a record: a sync word goes before it when idle words went before (R519). -/
def portAccept (type : Nat) (payload : List Word) (s : State) : State :=
  let h := traceHeader s s.obs.portSink.seq.toNat payload.length type
  let idle := decide (s.obs.portBusy < s.now) || s.obs.portBusy == 0
  let ws := (if idle then [syncWord] else []) ++ h :: payload
  emit (.tracePort ws)
    { s with obs.portSink.seq := s.obs.portSink.seq + 1,
             obs.portWords := (if idle then 0 else s.obs.portWords) + payload.length + 1,
             obs.portBusy := max s.now s.obs.portBusy + ws.length * portWordTicks s.obs.portRate }

/-- A record dropped from the DDR sink (R520, R521). -/
def ddrDrop (source : Nat) (s : State) : State :=
  bump 3082 1
    { s with obs.trcLost := satAdd s.obs.trcLost 1, obs.trcLostSeen := true,
             obs.trcFull := s.obs.trcFull || s.obs.ddrMode == 2,
             obs.ddrSink.lossCount := s.obs.ddrSink.lossCount + 1,
             obs.ddrSink.lossMask := s.obs.ddrSink.lossMask ||| BitVec.ofNat 4 (2 ^ source) }

/-- The DDR sink with the loss record due put ahead of the record (R520). -/
def ddrFeed (source type : Nat) (payload : List Word) (s : State) : State :=
  let loss := fun (s : State) =>
    if s.obs.ddrSink.lossCount = 0 then some s
    else (ddrAccept 5 [packWord [(32, s.obs.ddrSink.lossCount), (4, s.obs.ddrSink.lossMask.toNat)]] s).map
      (fun s => { s with obs.ddrSink.lossCount := 0, obs.ddrSink.lossMask := 0 })
  match (loss s).bind (ddrAccept type payload) with
  | some s' => s'
  | none => ddrDrop source s

/-- Words of the trace-out port still to be sent (R519). -/
def portBacklog (s : State) : Nat := (s.obs.portBusy - s.now) / portWordTicks s.obs.portRate

/-- The port sink with its 256 KiB staging buffer (R520): a record that finds no room is dropped, and a loss record goes ahead of the
next one accepted. -/
def portFeed (source type : Nat) (payload : List Word) (s : State) : State :=
  let lost := s.obs.portSink.lossCount
  if 8 * (portBacklog s + payload.length + 1 + if lost = 0 then 0 else 2) > 262144 then
    bump 3082 1 { s with obs.trcLost := satAdd s.obs.trcLost 1, obs.trcLostSeen := true, obs.portSink.lossCount := lost + 1,
                         obs.portSink.lossMask := s.obs.portSink.lossMask ||| BitVec.ofNat 4 (2 ^ source) }
  else if lost = 0 then portAccept type payload s
  else
    portAccept type payload
      (portAccept 5 [packWord [(32, lost), (4, s.obs.portSink.lossMask.toNat)]]
        { s with obs.portSink.lossCount := 0, obs.portSink.lossMask := 0 })

/-- A record of a trace source goes to each sink the source feeds (R517). Source 0 tags, 1 events, 2 instruction
trace, 3 firmware log; 4 stands for none, for time records. -/
def traceFeed (source type : Nat) (payload : List Word) (s : State) : State :=
  let s := if s.obs.ddrMode != 0 && bit s.obs.ddrSink.sources.toNat source then ddrFeed source type payload s else s
  if s.obs.portRate != 0 && bit s.obs.portSink.sources.toNat source then portFeed source type payload s else s

/-- Bytes to 64-bit words, little-endian, the last padded with zeros. -/
def wordsOf : Nat → Bytes → List Word
  | 0, _ => []
  | n + 1, b => if b.isEmpty then [] else BitVec.ofNat 64 (leNat (b.take 8)) :: wordsOf n (b.drop 8)

/-- A time record to the sinks that are on (R518). -/
def traceTime (s : State) : State :=
  let s := if s.obs.ddrMode != 0 then ddrFeed 4 6 [tmbNow s] s else s
  if s.obs.portRate != 0 then portFeed 4 6 [tmbNow s] s else s

/-! ### Events (21) -/

def evtCfg (s : State) (i : Nat) : EvtCfg := tget {} s.evt.cfg i

def evtRing (s : State) (fn : Nat) : EvtRing := tget {} s.evt.rings fn

def updEvtRing (fn : Nat) (f : EvtRing → EvtRing) (s : State) : State :=
  { s with evt.rings := tset s.evt.rings fn (f (evtRing s fn)) }

/-- The pod that owns a source (R556, R552): the port's owner, the sensing resource's owner, else pod 0. -/
def sourceOwner (s : State) (i : Nat) : Nat :=
  if i < 1024 then portOwner s (i / 8)
  else if i < 1152 then 0
  else if i < 1192 then chainOwner s (i - 1152 + 512)
  else if i < 1288 then inputOwner s (i - 1192)
  else if i < 1304 then tget 0 s.own.groups (i - 1288)
  else if i < 1306 then tget 0 s.own.i2c (i - 1304)
  else 0

/-- Whether the part has the source (R549): absent ports and trunk lanes never issue. -/
def sourceExists (s : State) (i : Nat) : Bool :=
  if i < 1024 then decide (i / 8 < s.part.ports)
  else if i < 1152 then decide ((i - 1024) / 16 < s.part.trunkLanes)
  else decide (i < 1536)

/-- The 32 bytes of an event record (R552). -/
def evtBytes (r : EventRec) (flags : Nat) : Bytes :=
  leBytes 8 r.time.toNat ++ leBytes 2 r.source ++ leBytes 1 r.cause ++ leBytes 1 flags ++ leBytes 2 (satTo 65535 r.count)
    ++ leBytes 1 r.pod ++ zeros 1 ++ leBytes 8 r.arg0 ++ leBytes 8 r.arg1

/-- A ring drops a record whole (R554 step 3). -/
def ringDrop (fn : Nat) (s : State) : State :=
  updEvtRing fn (fun r => { r with lost := satAdd r.lost 1, lostSeen := true, dropped := true }) s

/-- The record that a system source issues (R551). -/
def sysSource (e : Nat) : Nat := 1408 + e

/-- A new record of a source, taken now. -/
def newRec (source cause arg0 arg1 : Nat) (s : State) : EventRec :=
  { time := tmbNow s, source := source, cause := cause, flags := quality s, count := 1,
    pod := sourceOwner s source, arg0 := arg0, arg1 := arg1 }

/-- The record reaches the management processor and the trace, whatever the routing (R553), and its pending bit
sets (R558). -/
def noteRec (r : EventRec) (s : State) : State :=
  let w := r.source / 64
  let s := { s with evt.pending := tset s.evt.pending w (tget 0 s.evt.pending w ||| BitVec.ofNat 64 (2 ^ (r.source % 64))) }
  traceFeed 1 2 (wordsOf 4 (evtBytes r r.flags)) (emit (.eventCopy r) s)

/-- The routed copy of a record (R554): the state after it, whether the ring faulted, and the counters to raise. -/
def routeRec (r : EventRec) (s : State) : State × Bool × List Nat :=
  let c := evtCfg s r.source
  let fn := c.pod.toNat
  let g := evtRing s fn
  if !c.enable || !bit c.causeMask.toNat (r.cause - 1) then (s, false, [])
  else if !g.enable || g.fault || decide ((g.prod - g.cons).toNat ≥ 2 ^ g.sizeLog2.toNat) then (ringDrop fn s, false, [])
  else if !hostOk s fn then (ringDrop fn (updEvtRing fn (fun g => { g with fault := true }) s), true, [])
  else
    let addr := g.base.toNat * 4096 + 32 * (g.prod.toNat % 2 ^ g.sizeLog2.toNat)
    let s := emit (.hostWrite fn addr (evtBytes r (r.flags + if g.dropped then 4 else 0))) s
    let s := updEvtRing fn (fun g => { g with prod := g.prod + 1, dropped := false }) s
    let (s, ovf) := pmcCount 0x0011 { pod := some fn } 32 s
    (sendMsix fn c.vector.toNat s, false, ovf)

/-- Whether a coalescing window of a source and cause is open (R555). -/
def openWindow (s : State) (source cause : Nat) : Option EvtWindow :=
  s.evt.windows.find? (fun w => w.source == source && w.cause == cause)

/-- A further occurrence is accumulated in its open window (R555): the first one's record stays, the count rises. -/
def accumulate (r : EventRec) (s : State) : State :=
  let more := fun (w : EvtWindow) =>
    match w.acc with
    | none => { w with acc := some (r, 1) }
    | some (f, n) => { w with acc := some (f, n + 1) }
  { s with evt.windows := replaceWhere (fun w => w.source == r.source && w.cause == r.cause) more s.evt.windows }

/-- A window opens at an issue when the source coalesces (R555). -/
def startWindow (source cause : Nat) (s : State) : State :=
  let w := (evtCfg s source).coalesceUs.toNat
  if w = 0 then s
  else { s with evt.windows := s.evt.windows ++ [{ source := source, cause := cause, ends := s.now + us w, acc := none }] }

/-- Issue a record: note it, route it, and raise what the routing itself brings about: a ring fault (R554 step 4)
and a wrap of a counter of host bytes (R505). The bound on the depth is never met: each ring can newly fault once and
each of the 256 counters wrap once. -/
def issueF : Nat → EventRec → State → State
  | 0, r, s => noteRec r s
  | f + 1, r, s =>
    match routeRec r (noteRec r s) with
    | (s, faulted, ovf) =>
      let again := fun (src c a0 : Nat) (s : State) =>
        let r := newRec src c a0 0 s
        match openWindow s src c with
        | some _ => accumulate r s
        | none => startWindow src c (issueF f r s)
      let s := if faulted then again (sysSource 24) 1 (evtCfg s r.source).pod.toNat s else s
      ovf.foldl (fun s n => again (sysSource 21) 1 n s) s

/-- Issue a record (R553, R554). -/
def issueRec (r : EventRec) (s : State) : State := issueF 330 r s

/-- An occurrence of a source (R555): issued at once, or accumulated in an open window. A source the part does not
have issues nothing (R549). -/
def raiseRec (r : EventRec) (s : State) : State :=
  if !sourceExists s r.source then s
  else
    match openWindow s r.source r.cause with
    | some _ => accumulate r s
    | none => startWindow r.source r.cause (issueRec r s)

/-- An occurrence of a source, taken now, with its cause and arguments. -/
def raise (source cause arg0 arg1 : Nat) (s : State) : State := raiseRec (newRec source cause arg0 arg1 s) s

/-- An occurrence of system source e (R551). -/
def raiseSys (e cause arg0 arg1 : Nat) (s : State) : State := raise (sysSource e) cause arg0 arg1 s

/-- An occurrence of source e of port p (R549, R550). -/
def raisePort (p e cause arg0 arg1 : Nat) (s : State) : State := raise (8 * p + e) cause arg0 arg1 s

/-- An occurrence of source e of trunk lane n (R549, R377). -/
def raiseTrunk (n e cause arg0 arg1 : Nat) (s : State) : State := raise (1024 + 16 * n + e) cause arg0 arg1 s

/-- An occurrence of sensing source e (R549, R409). -/
def raiseSense (e cause arg0 arg1 : Nat) (s : State) : State := raise (1152 + e) cause arg0 arg1 s

/-- A programmable counter event, the overflows it brings raised (R505). -/
def count (code : Nat) (a : Attr) (n : Nat) (s : State) : State :=
  match pmcCount code a n s with
  | (s, ovf) => ovf.foldl (fun s k => raiseSys 21 1 k 0 s) s

/-- A host-memory write through a function that can write (R465), its bytes counted. -/
def hostWrite (fn addr : Nat) (data : Bytes) (s : State) : State :=
  count 0x0011 { pod := some fn } data.length (emit (.hostWrite fn addr data) s)

/-! ### Rings of blocks and records (R106, R293, R403) -/

/-- A producer offset of a pod's rings advanced: the vector 8 message at once, or deferred to the end of the 50 us
interval (R560). -/
def deliverVector (fn : Nat) (s : State) : State :=
  let d := tget {} s.host.deferral fn
  match d.deliverAt with
  | some t =>
    if s.now < t + us 50 then { s with host.deferral := tset s.host.deferral fn { d with deliverDue := true } }
    else sendMsix fn 8 { s with host.deferral := tset s.host.deferral fn { d with deliverAt := some s.now } }
  | none => sendMsix fn 8 { s with host.deferral := tset s.host.deferral fn { d with deliverAt := some s.now } }

/-! ### Ports -/

def port (s : State) (p : Nat) : Port := tget (Port.init p) s.ports p

def updPort (p : Nat) (f : Port → Port) (s : State) : State := { s with ports := tset s.ports p (f (port s p)) }

def updMac (p : Nat) (f : PortMac → PortMac) (s : State) : State := updPort p (fun x => { x with mac := f x.mac }) s

def updLine (p : Nat) (f : PortLine → PortLine) (s : State) : State := updPort p (fun x => { x with line := f x.line }) s

/-- Whether a port is in the Long-reach profile, and whether at repetition 8. -/
def longReach (x : Port) : Option Bool := match x.line.profile with | .longReach b => some b | _ => none

/-- Whether a port belongs to a canceller pair (R184). -/
def inPair (s : State) (p : Nat) : Bool := s.canc.pairs.any (fun e => e.1 / 128 == p || e.1 % 128 == p)

/-- The guard of robust-format frames and normal beacons (R141, R227). -/
def robustGuard (s : State) (p : Nat) : Nat := if inPair s p then s.canc.guardX else 1

/-- The gain in force on a lane (R66), in 0.5 dB units. -/
def gainOf (l : PortLine) (k : Nat) : Int :=
  match l.frameGain with
  | some g => g.getD k 0
  | none => if bit l.agcFixed.toNat k then l.fixedGain.getD k 0 else l.listenGain.getD k 0

/-- Symbols of a frame being received that overlap a span are erased (R58, R65). -/
def eraseRx (p from_ to_ : Nat) (s : State) : State :=
  updMac p (fun m => { m with rx := m.rx.map (fun r => { r with erased := r.erased ++ [(from_, to_)] }) }) s

/-! ### Parity (R281, R287) -/

/-- A parity failure, or with slot an uncorrectable backing-slot read, is logged, counted and raised (R281). The index of the word in
its area is a free value (log 170). -/
def parityFail (area unit_ : Nat) (slot : Bool) (s : State) : State :=
  let (v, s) := freshNat s
  let index := v % 2 ^ 32
  let l := s.lbf
  let first := l.logCount == 0
  let s := { s with lbf.logArea := if first then BitVec.ofNat 3 area else l.logArea,
                    lbf.logUnit := if first then BitVec.ofNat 13 unit_ else l.logUnit,
                    lbf.logIndex := if first then BitVec.ofNat 32 index else l.logIndex,
                    lbf.logCount := satAdd l.logCount 1, lbf.paritySeen := l.paritySeen || !slot,
                    lbf.ddrFault := l.ddrFault || slot }
  let s := if slot then s else bump 3079 1 s
  raiseSys 7 (if slot then 2 else 1) (area % 8 + unit_ % 8192 * 2 ^ 16) index s

/-! ### Rings -/

/-- A ring in a pod's host memory: its function, data area, control area and size. -/
structure RingAt where
  fn : Nat
  base : Nat
  ctrl : Nat
  log2 : Nat

/-- Bytes padded with zeros to a multiple of 64 (R106). -/
def pad64 (b : Bytes) : Bytes := b ++ zeros ((64 - b.length % 64) % 64)

/-- Bytes into the data area at an offset, wrapping at its end, then the new producer offset (R106). -/
def ringPut (r : RingAt) (prod : Nat) (data : Bytes) (s : State) : State :=
  let z := 2 ^ r.log2
  let at_ := prod % z
  let first := data.take (z - at_)
  let rest := data.drop (z - at_)
  let s := hostWrite r.fn (r.base + at_) first s
  let s := if rest.isEmpty then s else hostWrite r.fn r.base rest s
  deliverVector r.fn (hostWrite r.fn r.ctrl (leBytes 8 (prod + data.length)) s)

/-- Free bytes of a ring: its offsets are free-running 64-bit byte counts (R106). -/
def ringFree (r : RingAt) (o : Nat × Nat) : Nat := 2 ^ r.log2 - (BitVec.ofNat 64 o.1 - BitVec.ofNat 64 o.2).toNat

/-- Write a padded block to a ring (R106): producer and cached consumer offsets, what a read of the consumer offset
returns; answers the new offsets and whether it was written. The read is made when the cached value shows too little
space, and a failed read leaves the cached value. -/
def ringWrite (r : RingAt) (prod cons : Nat) (data : Bytes) (consumer : Option Nat) (s : State) :
    State × Nat × Nat × Bool :=
  let short := decide (ringFree r (prod, cons) < data.length)
  let s := if short then count 0x0010 { pod := some r.fn } 8 s else s
  let cons := if short then consumer.getD cons else cons
  if ringFree r (prod, cons) < data.length || !hostOk s r.fn then (s, prod, cons, false)
  else (ringPut r prod data s, (BitVec.ofNat 64 (prod + data.length)).toNat, cons, true)

/-- No device argument, where a record names none (R550). -/
def noArg : Nat := 0xFFFFFFFF

/-- Close every open window of a source, issuing what was accumulated (R555). -/
def flushWindows (source : Nat) (s : State) : State :=
  let ws := s.evt.windows.filter (fun w => w.source == source)
  let s := { s with evt.windows := s.evt.windows.filter (fun w => w.source != source) }
  ws.foldl (fun s w =>
    match w.acc with
    | none => s
    | some (r, n) => issueRec { r with count := n, flags := r.flags + 8 } s) s

/-- A source returns to its reset routing, its open windows discarded (R556, R564). -/
def resetSource (source : Nat) (s : State) : State :=
  { s with evt.cfg := tdel s.evt.cfg source, evt.windows := s.evt.windows.filter (fun w => w.source != source) }

/-- Several sources return to their reset routing. -/
def resetSources (l : List Nat) (s : State) : State := l.foldl (fun s i => resetSource i s) s

end Sys2Proof.Machine
end

