-- ==== Sys2Proof/Machine/Status.lean ====
section
/-! DEFINITION. The status codes of the manual (R13, R14 and the tables of each chapter). -/

namespace Sys2Proof.Machine.St

-- R14
def ok : Status := 0x0000
def pending : Status := 0x0001
def busy : Status := 0x0100
def abortedByReset : Status := 0x0101
def badParam : Status := 0x0200
def denied : Status := 0x0201
-- R83
def interrupted : Status := 0x0102
def portState : Status := 0x0103
def discarded : Status := 0x0104
def calFailed : Status := 0x0220
-- R109
def bankActive : Status := 0x0105
def gdUndefined : Status := 0x0230
def rateExceeded : Status := 0x0231
-- R152
def configPending : Status := 0x0106
def maskInvalid : Status := 0x0240
-- R177
def refreshActive : Status := 0x0107
def noNeighbour : Status := 0x0250
def sourceInvalid : Status := 0x0251
def noMap : Status := 0x0252
-- R202
def surveyActive : Status := 0x0108
def guardMismatch : Status := 0x0260
-- R236
def retryLimit : Status := 0x0109
def frameTooLong : Status := 0x0270
-- R263
def noRoute : Status := 0x010A
def registryFull : Status := 0x0280
def identityConflict : Status := 0x0281
def notAdmitted : Status := 0x0282
-- R288
def poisoned : Status := 0x010B
-- R324
def dmaFault : Status := 0x010C
def tamper : Status := 0x010D
def authFailed : Status := 0x0290
def keyEmpty : Status := 0x0291
def keyUsage : Status := 0x0292
def msgTooLong : Status := 0x0293
-- R346
def contextBusy : Status := 0x010E
def streamLimit : Status := 0x010F
def checkConfig : Status := 0x02A0
-- R378
def commitPending : Status := 0x0110
def slotConflict : Status := 0x02B0
def pairRole : Status := 0x02B1
-- R410
def scanInvalid : Status := 0x02C0
def sourceInUse : Status := 0x02C1
def pdSourceTaken : Status := 0x02C2
-- R430
def stepPending : Status := 0x0111
def timeLocked : Status := 0x02D0
def noPps : Status := 0x02D1
-- R451
def restarted : Status := 0x0112
def serviceFull : Status := 0x0113
def unknownCommand : Status := 0x02E0
def imageInvalid : Status := 0x02E1
def updateSequence : Status := 0x02E2
def notService : Status := 0x02E3
def stateFormat : Status := 0x02E4
-- R479
def epochPending : Status := 0x0114
def windowConflict : Status := 0x02F0
-- R502
def lifecycle : Status := 0x0300
def tamperLatched : Status := 0x0301
def tokenInvalid : Status := 0x0302
def tamperActive : Status := 0x0303
-- R522
def filterInvalid : Status := 0x0310
-- R541
def noWakeSource : Status := 0x0320

end Sys2Proof.Machine.St
end

