-- ==== Sys2Proof/Machine/Mailbox.lean ====
section
/-! DEFINITION. The mailbox mechanism every command row shares (16): records, faults, listens and notifications, and
the checks that come before a command's own meaning. -/

namespace Sys2Proof.Machine

/-- The 8-byte response of most commands: the status, then reserved zeros. -/
def statusResp (st : Status) : Bytes := leBytes 2 st.toNat ++ zeros 6

/-- A completion record (R439), its phase bit still clear. -/
def recordBytes (st : Status) (kind : Nat) (lost : Bool) (tag : Word) (resp : Bytes) : Bytes :=
  leBytes 2 st.toNat ++ leBytes 1 kind ++ leBytes 1 (if lost then 2 else 0) ++ leBytes 2 resp.length ++ zeros 2
    ++ leBytes 8 tag.toNat ++ resp.take 16 ++ zeros (16 - resp.length)

/-- The phase bit of the record that goes to the present place of a ring (R439). -/
def withPhase (x : MbxLane) (r : Bytes) : Bytes :=
  r.modify 3 (fun b => b ||| (if x.cmplProd.toNat / 2 ^ x.cmplLog2.toNat % 2 = 0 then 1 else 0))

/-- FAULT of a lane sets with ST_DMA_FAULT (R440). -/
def mbxFault (pod l : Nat) (s : State) : State :=
  updMbxLane pod l (fun x => { x with fault := true, errStatus := St.dmaFault }) s

/-- Write one record to a lane's completion ring, then its message (R439, R560); none when the write fails. -/
def writeRecord (pod l : Nat) (r : Bytes) (raiseIt : Bool) (s : State) : Option State :=
  if !hostOk s pod then none
  else
    let x := mbxLane s pod l
    let addr := x.cmplBase.toNat * 64 + 32 * (x.cmplProd.toNat % 2 ^ x.cmplLog2.toNat)
    let s := hostWrite pod addr (withPhase x r) s
    let s := updMbxLane pod l (fun x => { x with cmplProd := x.cmplProd + 1 }) s
    some (if raiseIt then sendMsix pod l s else s)

/-- A record is written, or kept behind a failed one (R440). -/
def postRecord (pod l : Nat) (r : Bytes) (raiseIt : Bool) (s : State) : State :=
  let keep := fun (s : State) => updMbxLane pod l (fun x => { x with kept := x.kept ++ [(r, raiseIt)] }) s
  if !(mbxLane s pod l).kept.isEmpty then keep s
  else
    match writeRecord pod l r raiseIt s with
    | some s' => s'
    | none => keep (mbxFault pod l s)

/-- The response goes to the caller's buffer (R439); a failed write loses it and faults the lane (R440). -/
def writeResponse (c : Caller) (resp : Bytes) (s : State) : State × Bool :=
  if c.respAddr = 0 || resp.isEmpty then (s, false)
  else if hostOk s c.pod then (hostWrite c.pod c.respAddr.toNat resp s, false)
  else (mbxFault c.pod c.lane s, true)

/-- Whether an entry is this caller's. -/
def sameCaller (c d : Caller) : Bool := c.pod == d.pod && c.lane == d.lane && c.tag == d.tag && c.gone == d.gone

/-- A command leaves the firmware's lists. -/
def forget (c : Caller) (s : State) : State :=
  { s with mgmt.waiting := s.mgmt.waiting.filter (fun k => !sameCaller c k.caller),
           mgmt.executing := s.mgmt.executing.filter (fun e => !sameCaller c e.cmd.caller) }

/-- Commands of a lane taken and not yet completed, listens excluded: IN_FW (R436). -/
def inFw (s : State) (pod l : Nat) : Nat :=
  let mine := fun (c : Caller) => !c.gone && c.pod == pod && c.lane == l
  (s.mgmt.waiting.filter (fun k => mine k.caller && k.code != 0x0E02)).length
    + (s.mgmt.executing.filter (fun e => mine e.cmd.caller)).length + (s.mgmt.owed.filter (fun o => mine o.1)).length

/-- The credit of a lane (R437). -/
def laneCredit (s : State) (pod_ lane : Nat) : Nat :=
  let c := tget {} s.mgmt.credits pod_
  match lane with
  | 0 => c.urgent.toNat
  | 1 => c.normal.toNat
  | _ => c.bulk.toNat

/-- Whether the completion ring has room for a record of every command taken, every held listen and one more (R441). -/
def laneRoom (s : State) (pod_ lane : Nat) : Bool :=
  let x := mbxLane s pod_ lane
  decide ((x.cmplProd - x.cmplCons).toNat + x.kept.length + inFw s pod_ lane + x.listens.length + 1 ≤ 2 ^ x.cmplLog2.toNat)

/-- The record of a command is written now, its credit returned (R436, R439). -/
def completeNow (c : Caller) (st : Status) (resp : Bytes) (s : State) : State :=
  let (s, lost) := writeResponse c resp s
  let s := forget c s
  let s := postRecord c.pod c.lane (recordBytes st 0 lost c.tag resp) c.raise s
  if st = St.busy then
    count 0x000A { cls := some c.lane, pod := some c.pod } 1
      (bump 3077 1 (updMbxLane c.pod c.lane (fun x => { x with shedSeen := true }) s))
  else s

/-- The commands whose configuration the active device of a pair mirrors (R370 record 7; log): those that set its line side. -/
def mirrored : List Nat :=
  [0x0101, 0x0102, 0x0104, 0x0201, 0x0202, 0x0203, 0x0204, 0x0301, 0x0401, 0x0501, 0x0502, 0x0601, 0x0701, 0x0801, 0x0802, 0x0A01,
    0x0A02, 0x0D01, 0x0E01, 0x0E03, 0x0E04, 0x0F02, 0x0F03]

/-- Mirror record 7: a command has applied its configuration (R370). -/
def mirrorConfig (k : Cmd) (st : Status) (s : State) : State :=
  if s.trk.pair.role = .active && (st = St.ok || st = St.pending) && mirrored.contains k.code then
    emit (.mirror (.config k.caller.pod k.code k.req)) s
  else s

/-- Mirror record 7 of a command that executed over time. -/
def mirrorHeld (c : Caller) (st : Status) (s : State) : State :=
  match s.mgmt.executing.find? (fun e => sameCaller c e.cmd.caller) with
  | some e => mirrorConfig e.cmd st s
  | none => s

/-- A command completes (R439): at once, or after the firmware restart in progress (R448); never while the firmware
is halted (R449); without a record once a reset has ended or silenced it (R462, R533). -/
def complete (c : Caller) (st : Status) (resp : Bytes) (s : State) : State :=
  let s := mirrorHeld c st s
  if c.gone then forget c s
  else match s.mgmt.fwState with
  | .running => completeNow c st resp s
  | .restarting => { forget c s with mgmt.owed := s.mgmt.owed ++ [(c, st, resp)] }
  | .booting => s
  | .halted => s

/-- A command completes with a status alone. -/
def completeStatus (c : Caller) (st : Status) (s : State) : State := complete c st (statusResp st) s

/-! ### Notifications (R446) -/

/-- A notification response (R446). -/
def noticeResp (n : Notice) (lost : Nat) : Bytes :=
  leBytes 2 St.ok.toNat ++ leBytes 2 n.code ++ leBytes 2 n.body.length ++ leBytes 2 lost ++ n.body

/-- A notification completes a held listen, with kind 1 (R446). -/
def deliverNotice (c : Caller) (n : Notice) (s : State) : State :=
  let lost := (mbxLane s c.pod c.lane).lost.toNat
  let resp := noticeResp n lost
  let (s, gone) := writeResponse c resp s
  let s := updMbxLane c.pod c.lane (fun x => { x with lost := 0 }) s
  postRecord c.pod c.lane (recordBytes St.ok 1 gone c.tag resp) c.raise s

/-- A device-originated record for a pod and lane (R446): the oldest held listen takes it; else it is queued, up to
64; else it is discarded and counted. While the firmware does not run it is lost (R448). -/
def notify (pod l code : Nat) (body : Bytes) (s : State) : State :=
  let x := mbxLane s pod l
  let lose := updMbxLane pod l (fun x => { x with lost := satAdd x.lost 1 }) s
  if s.mgmt.fwState != .running then lose
  else
    match x.listens with
    | c :: rest => deliverNotice c ⟨code, body⟩ (updMbxLane pod l (fun x => { x with listens := rest }) s)
    | [] => if x.queued.length < 64 then updMbxLane pod l (fun x => { x with queued := x.queued ++ [⟨code, body⟩] }) s
            else lose

/-! ### Running a command -/

/-- What a command's own meaning answers: a completion, held (it completes at a later row, past its commit point),
open (the same, its commit point not passed), a wait for an engine limit (R592), or untaken (its descriptor stays at
CONS, R292). -/
inductive Reply where
  | done (st : Status) (resp : Bytes)
  | held
  | open_
  | wait
  | untaken
  deriving DecidableEq, Repr

/-- What the firmware knows of a command before its meaning: its code, whether the request has the size and the zero
reserved bytes its definition gives (R438, R440), whether only pod 0 may send it, and the resources it names (R443). -/
structure Form where
  code : Nat
  wellFormed : Bool
  pod0 : Bool
  names : List Resource
  deriving DecidableEq, Repr

/-- Rejected or completed with a status alone. -/
def answer (st : Status) (s : State) : State × Reply := (s, .done st (statusResp st))

/-- A command executing over time (R443), with the resources it names. -/
def hold (fm : Form) (c : Caller) (req : Bytes) (committed : Bool) (s : State) : State :=
  { forget c s with mgmt.executing := (forget c s).mgmt.executing ++
                      [{ cmd := { caller := c, code := fm.code, req := req }, committed := committed, resources := fm.names }] }

/-- A command taken that waits (R592), in its place in the order taken. -/
def putWaiting (fm : Form) (c : Caller) (req : Bytes) (s : State) : State :=
  if s.mgmt.waiting.any (fun k => sameCaller c k.caller) then s
  else { s with mgmt.waiting := s.mgmt.waiting ++ [{ caller := c, code := fm.code, req := req, names := fm.names }] }

/-- Whether a command of the same lane taken before it still waits to start (R443). -/
def behindWaiting (s : State) (c : Caller) : Bool :=
  (s.mgmt.waiting.takeWhile (fun k => !sameCaller c k.caller)).any
    (fun k => !k.caller.gone && k.caller.pod == c.pod && k.caller.lane == c.lane)

/-- Whether a resource that a caller's command names is named by a command still executing, or by one taken before it that waits: those
apply in the order taken (R443). -/
def busyResource (s : State) (c : Caller) (r : Resource) : Bool :=
  s.mgmt.executing.any (fun e => e.resources.contains r)
    || (s.mgmt.waiting.takeWhile (fun k => !sameCaller c k.caller)).any (fun k => k.names.contains r)

/-- The pod a resource belongs to, where the resource is one a pod owns. -/
def resourcePod (s : State) : Resource → Option Nat
  | .pod n => some n
  | .port p => some (portOwner s p)
  | .lane l => some (portOwner s (l / 4))
  | .chain c => some (chainOwner s c)
  | .converter j => some (tget 0 s.own.converters j)
  | .group g => some (tget 0 s.own.groups g)
  | .i2c i => some (tget 0 s.own.i2c i)
  | _ => none

/-- Whether a pod 0 command names a pod in reset or a resource of it (R474). -/
def namesPodInReset (s : State) (c : Caller) (rs : List Resource) : Bool :=
  c.pod == 0 && rs.any (fun r => match resourcePod s r with
    | some n => n != 0 && (pod s n).resetting
    | none => false)

/-- Whether a submission held at admission stands on a lane: the descriptors behind it wait (R292). -/
def laneHeld (s : State) (pod l : Nat) : Bool :=
  s.lbf.held.any (fun h => match h.sealer with | .mailbox c => c.pod == pod && c.lane == l | _ => false)

/-- Once pwr.standby is taken no other lane is served, and once its record is written none (R534). -/
def standbyStops (s : State) (c : Caller) : Bool :=
  match s.pwr.order with
  | some o => o.recordAt.isSome || c.pod != 0 || c.lane != o.lane
  | none => false

/-- Run a command of the mailbox: nothing while the firmware takes no commands (R445), where the caller's function does not exist
(R463) or its pod is in reset (R472), or a submission held at admission stands before it on its lane (R292); shed on the bulk lane while saturated, a listen excepted (R444); a failed request read ends it with ST_DMA_FAULT and faults the
lane (R440); a bad form ends it with ST_BAD_PARAM (R440); a command only pod 0 may send ends with ST_DENIED from a
tenant; a named resource in use, or one of its lane that waits before it, makes it wait (R443, R592); else its own meaning runs. -/
def runCmd (fm : Form) (c : Caller) (req : Bytes) (body : State → State × Reply) (s : State) : State :=
  if !s.mgmt.ready || !fnExists s c.pod || c.lane > 2 || (pod s c.pod).resetting || (!c.gone && laneHeld s c.pod c.lane)
      || standbyStops s c then s
  else if s.mgmt.shedding && c.lane == 2 && fm.code != 0x0E02 then completeStatus c St.busy s
  else if c.io.readFails then mbxFault c.pod c.lane (complete c St.dmaFault [] s)
  else if !fm.wellFormed then complete c St.badParam [] s
  else if fm.pod0 && c.pod != 0 then completeStatus c St.denied s
  else if behindWaiting s c || fm.names.any (busyResource s c) || namesPodInReset s c fm.names then putWaiting fm c req s
  else
    match body s with
    | (s', .done st resp) => complete c st resp (mirrorConfig { caller := c, code := fm.code, req := req } st s')
    | (s', .held) => hold fm c req true s'
    | (s', .open_) => hold fm c req false s'
    | (s', .untaken) => forget c s'
    | (s', .wait) => putWaiting fm c req s'

end Sys2Proof.Machine
end

