-- ==== Sys2Proof/Machine/TimeOps.lean ====
section
/-! DEFINITION. The timebase (15): sample counts of times, references and their selection, offsets, slews and steps
scheduled. -/

namespace Sys2Proof.Machine

/-- The least sample count at which the time function in force reaches a time not before its origin (R417). -/
def sampleOf (t : Timebase) (target : Nat) : Nat :=
  let d := (BitVec.ofNat 64 target - t.tU).toNat
  if d ≥ 2 ^ 63 then t.nU else t.nU + ceilDiv (d * 500000000 * 2 ^ 40) (((2 ^ 40 + t.yU) * 2 ^ 32).toNat)

/-- Microseconds in units of 2^-32 s, rounded up. -/
def usTime (n : Nat) : Nat := ceilDiv (n * 2 ^ 32) 1000000

/-- The number of the 125 us frame a time lies in (R351). -/
def frameNo (time : Nat) : Nat := time * 8000 / 2 ^ 32

/-- The time of frame boundary f, the first value at or after f times 125 us. -/
def frameTime (f : Nat) : Nat := ceilDiv (f * 2 ^ 32) 8000

/-- The first frame boundary at or after a time. -/
def frameAfter (time : Nat) : Nat := if frameTime (frameNo time) ≥ time then frameNo time else frameNo time + 1

/-- The next frame to be transmitted. -/
def nextFrame (s : State) : Nat := frameAfter ((tmbNow s).toNat + 1)

/-- The boundary at least 20 us after now (R365, R373). -/
def boundaryAfter20us (s : State) : Nat := frameAfter ((tmbNow s).toNat + usTime 20)

/-- The clock moves on to frame boundary f. -/
def advanceToFrame (f : Nat) (s : State) : State := advanceTo (sampleOf s.tmb (frameTime f)) s

/-! ### References (R418, R419) -/

/-- The reference of a two-bit choice of ref_order. -/
def refOf : Nat → Ref
  | 1 => .pps | 2 => .trunk | 3 => .host | _ => .none

/-- ref_order as a list, first choice first, empty choices left out. -/
def refOrder (c : TmbCfg) : List Ref :=
  ([bits c.refOrder.toNat 0 2, bits c.refOrder.toNat 2 2, bits c.refOrder.toNat 4 2].map refOf).filter (· != .none)

/-- Whether a reference is qualified (R418). -/
def refQual (s : State) : Ref → Bool
  | .pps => s.tmb.ppsQual
  | .trunk => s.tmb.trunkQual
  | .host => s.tmb.hostSet
  | .none => false

/-- The first qualified reference in ref_order (R419). -/
def bestRef (s : State) : Ref := ((refOrder s.tmb.cfg).find? (refQual s)).getD .none

/-- The mean correction of the last 64 locked seconds (R420). -/
def meanCorrection (s : State) : Int :=
  let h := s.tmb.lockedHist
  if h.isEmpty then s.tmb.freq else h.sum / h.length

/-- A change of selection (R419): SWITCH_SEEN, the system event, and, when none is left, holdover (R420). -/
def selectRef (r : Ref) (s : State) : State :=
  if r = s.tmb.selected then s
  else
    let t := s.tmb
    let t := { t with selected := r, switchSeen := true,
                      fromAon := if r = .none then t.fromAon else false,
                      holdoverFrom := if r = .none then some s.now else none,
                      slewLeft := if r = .none then 0 else t.slewLeft,
                      freq := if r = .none then meanCorrection s else t.freq,
                      seconds := if r = .pps then t.seconds else none,
                      step := if (t.step.map (·.ref)).getD r = r then t.step else none }
    raiseSys 11 1 0 0 { s with tmb := t }

/-- A reference is lost (R418, R419): the next qualified one is selected at once, and a step pending on it is
cancelled (R422). -/
def loseRef (r : Ref) (s : State) : State :=
  let s := { s with tmb.step := if (s.tmb.step.map (·.ref)).getD .none = r then none else s.tmb.step }
  if s.tmb.selected = r then selectRef (bestRef s) { s with tmb.lossSeen := true } else s

/-- A reference has become qualified (R418): it is selected when none is (R419). -/
def gainRef (s : State) : State := if s.tmb.selected = .none then selectRef (bestRef s) s else s

/-! ### Offset (R422) -/

/-- The whole second at or below a time. -/
def wholeSecond (time : Nat) : Nat := time / 2 ^ 32 * 2 ^ 32

/-- Seconds and fraction of a signed offset bound: 1 ms in 2^-32 s. -/
def oneMs : Nat := 4294968

/-- A step of a reference to a whole second, at a sample count or at the next edge (R422). -/
def scheduleStep (r : Ref) (offset : Int) (s : State) : State :=
  let ref := BitVec.ofInt 64 ((tmbNow s).toNat - offset)
  let second : Nat := wholeSecond ref.toNat + 2 ^ 32
  let due := if r = .pps then none
             else some (sampleOf s.tmb (BitVec.ofInt 64 ((second : Int) + offset)).toNat)
  { s with tmb.step := some ⟨r, BitVec.ofNat 64 second, due⟩, tmb.slewLeft := 0 }

/-- A slew that takes the offset away, replacing any slew (R422); the discipline loop alone corrects the last
100 ns. -/
def scheduleSlew (offset : Int) (s : State) : State :=
  { s with tmb.slewLeft := if offset.natAbs > 429 then -offset else 0 }

/-- Whether the offset is corrected by a step (R422). -/
def mustStep (s : State) (offset : Int) : Bool := !s.tmb.valid || decide (offset.natAbs ≥ oneMs)

/-- Locked has been entered (R428). -/
def noteLock (before : Nat) (s : State) : State :=
  if quality s = 3 && before != 3 then { s with tmb.lockSeen := true } else s

/-- A new offset of a reference (R422): corrected when the reference is selected. -/
def measureOffset (r : Ref) (offset : Int) (s : State) : State :=
  if s.tmb.selected != r then s
  else
    let q := quality s
    let s := { s with tmb.offset := offset }
    noteLock q (if mustStep s offset then scheduleStep r offset s else scheduleSlew offset s)

/-! ### The trunk reference (R418) -/

/-- What an in-frame frame of the trunk reference lane does to its qualification: 16 consecutive frames with TQ bit 7
set and a valid delay qualify it, 3 consecutive frames with the bit clear lose it. -/
def trunkRefFrame (tqValid delayValid : Bool) (tq : Nat) (s : State) : State :=
  let run := if tqValid && delayValid then s.tmb.trunkRun + 1 else 0
  let clear := if tqValid then 0 else s.tmb.trunkClear + 1
  let s := { s with tmb.trunkRun := run, tmb.trunkClear := clear,
                    tmb.trunkTq := if tqValid then tq else s.tmb.trunkTq }
  if !s.tmb.trunkQual && decide (run ≥ 16) then
    gainRef { s with tmb.trunkQual := true, tmb.trunkSince := s.now }
  else if s.tmb.trunkQual && decide (clear ≥ 3) then loseRef .trunk { s with tmb.trunkQual := false }
  else s

/-- The trunk reference is lost at once: LOS or LOF on its lane, or the lane left Skeluz mode (R418). -/
def trunkRefLost (lane : Nat) (s : State) : State :=
  if lane != s.tmb.cfg.trunkLane.toNat then s
  else
    let had := s.tmb.trunkQual
    let s := { s with tmb.trunkRun := 0, tmb.trunkQual := false }
    if had then loseRef .trunk s else s

end Sys2Proof.Machine
end

