-- ==== Sys2Proof/Machine/Trunk.lean ====
section
/-! DEFINITION. The Skeluz trunk and the slot interchange (13): lanes, defects, slot streams, pages and their
commands. -/

namespace Sys2Proof.Machine

/-! ### Lanes and pages -/

def trunkLane (s : State) (n : Nat) : TrunkLane := tget {} s.trk.lanes n

def updTrunkLane (n : Nat) (f : TrunkLane → TrunkLane) (s : State) : State :=
  { s with trk.lanes := tset s.trk.lanes n (f (trunkLane s n)) }

/-- Whether the lane is in Skeluz mode. -/
def isSkeluz (s : State) (n : Nat) : Bool := (trunkLane s n).cfg.mode == .skeluz

/-- UP of R374. -/
def laneUp (l : TrunkLane) : Bool :=
  !l.los && !l.lof && l.cwLock && (l.cfg.mode == .ethernet || (l.cfg.mode == .skeluz && l.inFrame))

/-- The restart of a lane ends when it is up (R379). -/
def endRestart (n : Nat) (s : State) : State :=
  updTrunkLane n (fun l => if laneUp l then { l with restart := false } else l) s

/-- The device transmits RDI on the lane (R360). -/
def txRdi (l : TrunkLane) : Bool := l.los || l.lof

/-- Whether a slot lies on the mirror link (R370). -/
def onMirrorLink (s : State) (slot : Nat) : Bool := s.part.mirrorLanes.contains (slot / 64)

def isPaired (s : State) : Bool := s.trk.pair.role != .unpaired

def activePage (s : State) : TsiPage := if s.trk.activePage then s.trk.page1 else s.trk.page0

def standbyPage (s : State) : TsiPage := if s.trk.activePage then s.trk.page0 else s.trk.page1

def setStandbyPage (p : TsiPage) (s : State) : State :=
  if s.trk.activePage then { s with trk.page0 := p } else { s with trk.page1 := p }

/-- The pod number of a stream that carries every pod (R367). -/
def allPods : Nat := 255

/-- Whether entry n of a page is fixed by fixed mapping (R367). -/
def isFixed (p : TsiPage) (slot : Nat) : Bool := p.fixed && decide (slot < 128)

/-- The entry in force for a slot in a page (R362, R367): under fixed mapping, entry n carries port n sealed in both
directions, and a port the part lacks leaves its entry unequipped. -/
def tsiEntry (part : Part) (p : TsiPage) (slot : Nat) : TsiEntry :=
  if isFixed p slot then
    if slot < part.ports then
      { txType := 1, txFlags := 1, txArg := slot, txPod := allPods, rxType := 1, rxFlags := 3, rxArg := slot }
    else {}
  else tget {} p.entries slot

/-- The group size of a first slot's entry (R355, R362). -/
def groupSize (e : TsiEntry) : Nat := 2 ^ bits e.txFlags 1 2

/-- Whether a slot is a member of a group other than its first slot. -/
def isMember (e : TsiEntry) : Bool := e.txType == 5

/-- The first slot of the group a slot belongs to (R355). -/
def groupFirst (part : Part) (p : TsiPage) (slot : Nat) : Nat :=
  if !isMember (tsiEntry part p slot) then slot
  else
    let covers := fun (k0 : Nat) =>
      !isMember (tsiEntry part p k0) && decide (slot < k0 + groupSize (tsiEntry part p k0))
    if covers (slot / 2 * 2) then slot / 2 * 2 else slot / 4 * 4

/-- The label an entry's receive side expects (R357, R362): none with check label clear. -/
def expectedLabel (part : Part) (p : TsiPage) (slot : Nat) : Option Nat :=
  let e := tsiEntry part p slot
  if !bit e.rxFlags 1 then none
  else if isFixed p slot then (if slot < part.ports then some 0x07 else none)
  else if e.rxType = 1 then some (if bit e.rxFlags 0 then 0x04 else 0x03)
  else if e.rxType = 2 then some 0x06
  else none

/-- Whether received slot s counts as failed (R360, R361, R379): masked defects are not acted on (R359). -/
def slotFailed (s : State) (slot : Nat) : Bool :=
  let l := trunkLane s (slot / 64)
  let r := tget {} l.slots (slot % 64)
  l.cfg.mode == .off || l.los || l.lof || l.restart || l.rxShort || r.ais || r.uneq || r.plm

/-- SSTAT RDI of a transmitted slot (R360). -/
def slotTxRdi (s : State) (slot : Nat) : Bool :=
  let r := tget {} (trunkLane s (slot / 64)).slots (slot % 64)
  r.ais || r.uneq || r.plm

/-- The label a slot transmits (R357, R361, R362). -/
def txLabel (s : State) (slot : Nat) : Nat :=
  let p := activePage s
  let e := tsiEntry s.part p slot
  if (trunkLane s (slot / 64)).txShort then 0xFF
  else if isFixed p slot then (if slot < s.part.ports then 0x07 else 0x00)
  else if e.txType = 1 then (if bit e.txFlags 0 then 0x02 else 0x01)
  else if e.txType = 2 then 0x05
  else if e.txType = 3 then
    if slotFailed s e.txArg then 0xFF else ((tget {} (trunkLane s (e.txArg / 64)).slots (e.txArg % 64)).labels.head?).getD 0
  else if e.txType = 4 then 0x06
  else if e.txType = 5 then 0x08
  else 0x00

/-! ### Slot streams (R355, R356) -/

def stream (s : State) (slot : Nat) : SlotStream := tget {} s.trk.streams slot

def setStream (slot : Nat) (x : SlotStream) (s : State) : State := { s with trk.streams := tset s.trk.streams slot x }

/-- A packet or block joins the stream of a slot. -/
def slotSend (slot : Nat) (it : StreamItem) (s : State) : State :=
  setStream slot { (stream s slot) with items := (stream s slot).items ++ [it] } s

/-- A packet of R356: header, content, padding and trailer. -/
def packet (type flags ep cls pod : Nat) (content : Bytes) : Bytes :=
  let h := beBytes 2 content.length ++ beBytes 1 type ++ beBytes 1 flags ++ beBytes 2 ep ++ beBytes 1 cls ++ beBytes 1 pod
  let body := h ++ content ++ zeros ((8 - content.length % 8) % 8)
  body ++ beBytes 4 (crc32c body) ++ zeros 4

/-- What a window of room bytes takes from a stream (R354, R356): the bytes sent, the items left, how much of the first
of them has been sent, and the offset at which the first new item starts. -/
def takeStream : Nat → List StreamItem → Nat → Nat → Bytes × List StreamItem × Nat × Option Nat
  | _, [], _, _ => ([], [], 0, none)
  | room, it :: rest, sent, at_ =>
    let left := it.data.length - sent
    let start := if sent = 0 && decide (0 < room) then some at_ else none
    if room < left then ((it.data.drop sent).take room, it :: rest, sent + room, start)
    else
      match takeStream (room - left) rest 0 (at_ + left) with
      | (d, l, n, p) => (it.data.drop sent ++ d, l, n, match start with | some x => some x | none => p)

/-- The stream of a slot after a window of room bytes, the bytes sent and POINTER. -/
def drawStream (slot room : Nat) (s : State) : State × Bytes × Nat :=
  let x := stream s slot
  match takeStream room x.items x.sent 0 with
  | (d, l, n, p) => (setStream slot { items := l, sent := n } s, d, match p with | some b => b / 8 | none => 0xFFFF)

/-- Packets of a pod in the streams when it is reset (R381): one that has started finishes with POISON set, the others
are not sent. A started packet's header has left, so POISON is set in what remains only where the header does. -/
def dropPodItems (pod : Nat) (x : SlotStream) : SlotStream :=
  match x.items with
  | [] => x
  | it :: rest =>
    let keep := rest.filter (fun i => !(i.isPacket && i.pod == pod))
    if it.isPacket && it.pod == pod then
      if x.sent = 0 then { items := keep, sent := 0 } else { x with items := { it with data := it.data.modify 3 (· ||| 1) } :: keep }
    else { x with items := it :: keep }

/-! ### Defects (R359, R360) -/

/-- All slot positions of a lane. -/
def allPositions : Nat := 2 ^ 64 - 1

/-- A defect event of a lane (R377, R550): cause 1 at entry, 2 at exit, with the positions concerned. -/
def defectEvent (n e : Nat) (entry : Bool) (slots : Nat) (s : State) : State :=
  raiseTrunk n e (if entry then 1 else 2) slots 0 s

/-- The pair event (R377 e = 9), on the first lane of the mirror link. -/
def pairEvent (s : State) : State := raiseTrunk ((s.part.mirrorLanes.head?).getD 0) 9 1 0 0 s

/-- Whether the device puts nothing on the line: the standby of a pair in shadow mode, or a failing device past the boundary (R72,
R545, R546). -/
def silent (s : State) : Bool := s.trk.pair.shadow

/-- PAIR_HB_OUT starts or stops toggling (R544). -/
def heartbeat (on : Bool) (s : State) : State := emit (.pin "PAIR_HB_OUT" (if on then 1 else 0)) s

/-- The active device of a pair sends a mirror record (R370). -/
def mirrorSend (r : MirrorRec) (s : State) : State :=
  if s.trk.pair.role = .active then emit (.mirror r) s else s

/-- Whether every mirror lane is in LOS or LOF (R371). -/
def mirrorDown (s : State) : Bool := s.part.mirrorLanes.all (fun n => (trunkLane s n).los || (trunkLane s n).lof)

/-- Whether a device is paired and active or standby. -/
def pairUp (s : State) : Bool := s.trk.pair.role == .active || s.trk.pair.role == .standby

/-- The peer of the active device has failed (R548): PEER_READY clears. -/
def peerGone (s : State) : State :=
  if s.trk.pair.role = .active && s.trk.pair.hbLost && s.trk.pair.mirrorLost.isSome then { s with trk.pair.peerReady := false } else s

/-- The time since which the mirror link is lost follows the lanes (R371, R544); its loss raises the pair event. -/
def noteMirror (s : State) : State :=
  if !mirrorDown s then { s with trk.pair.mirrorLost := none }
  else if s.trk.pair.mirrorLost.isSome then s
  else
    let s := peerGone { s with trk.pair.mirrorLost := some s.now }
    if pairUp s then pairEvent s else s

/-- What a lane's LOS or LOF brings for the timebase and the pair (R418, R371). -/
def laneLost (n : Nat) (s : State) : State := noteMirror (trunkRefLost n s)

/-- LOS is entered (R359). -/
def enterLos (n : Nat) (s : State) : State :=
  laneLost n (defectEvent n 0 true allPositions
    (updTrunkLane n (fun l => { l with los := true, losSeen := true, cwLock := false, goodSince := none }) s))

/-- The positions at which a test holds, as a bitmap. -/
def positionsWhere (f : Nat → Bool) : Nat := bitmap ((List.range 64).filter f)

/-- A defect flag from its last three observations: entry when all three meet the entry test, exit when all three meet
the exit test. -/
def flagOf {α : Type} (now : Bool) (hist : List α) (entry exit : α → Bool) : Bool :=
  if hist.length < 3 then now
  else if !now && (hist.take 3).all entry then true
  else if now && (hist.take 3).all exit then false
  else now

/-- The slot defects of one position from its last three labels and RDI bits (R359); AIS masks the others. -/
def slotDefects (expect : Option Nat) (r : SlotRx) : SlotRx :=
  let ais := flagOf r.ais r.labels (· == 0xFF) (· != 0xFF)
  let r := { r with ais := ais }
  if ais then { r with uneq := false, plm := false, rdi := false }
  else
    let rdi := flagOf r.rdi r.rdis id (fun b => !b)
    match expect with
    | none => { r with uneq := false, plm := false, rdi := rdi }
    | some x =>
      { r with uneq := flagOf r.uneq r.labels (· == 0x00) (· != 0x00),
               plm := flagOf r.plm r.labels (fun b => b != 0x00 && b != 0xFF && b != x) (· == x), rdi := rdi }

/-- Events of a slot defect between two records of the positions. -/
def slotEvents (n e : Nat) (f : SlotRx → Bool) (old new : Table SlotRx) (s : State) : State :=
  let up := positionsWhere (fun k => f (tget {} new k) && !f (tget {} old k))
  let down := positionsWhere (fun k => !f (tget {} new k) && f (tget {} old k))
  let s := if up = 0 then s else defectEvent n e true up s
  if down = 0 then s else defectEvent n e false down s

/-- Lane RDI and the slot defects of a lane evaluated from its last three frames (R359): nothing while LOS or LOF masks
them; member slots report only lane defects. -/
def evaluateSlots (n : Nat) (s : State) : State :=
  let l := trunkLane s n
  if l.los || l.lof then s
  else
    let rdi := flagOf l.rdi l.rdis id (fun b => !b)
    let p := activePage s
    let new := tmap (fun k r =>
      if isMember (tsiEntry s.part p (64 * n + k)) then { r with ais := false, uneq := false, plm := false, rdi := false }
      else slotDefects (expectedLabel s.part p (64 * n + k)) r) l.slots
    let s := updTrunkLane n (fun l => { l with slots := new, rdi := rdi, rdiSeen := l.rdiSeen || (rdi && !l.rdi) }) s
    let s := if rdi != l.rdi then defectEvent n 2 rdi 0 s else s
    let s := slotEvents n 3 (·.ais) l.slots new s
    let s := slotEvents n 4 (fun r => r.uneq || r.plm) l.slots new s
    slotEvents n 5 (·.rdi) l.slots new s

/-! ### Rows -/

/-- The row does nothing where the lane's mode or state does not call for it; a lane the part lacks has no such
happening. -/
def onLane (n : Nat) (s : State) (f : State → State) : Out :=
  if n < s.part.trunkLanes then .next (f s) else .fault .absentResource

/-- FAS_FOUND_IN_FRAME (R359). -/
def execFasFoundInFrame (lane : Nat) (s : State) : Out := onLane lane s fun s =>
  if !isSkeluz s lane || (trunkLane s lane).inFrame || !(trunkLane s lane).cwLock then s
  else endRestart lane
    (updTrunkLane lane (fun l => { l with inFrame := true, oofSince := none, inFrameSince := s.now }) s)

/-- FAS_MISSING_OOF (R359). -/
def execFasMissingOof (lane : Nat) (s : State) : Out := onLane lane s fun s =>
  if !isSkeluz s lane || !(trunkLane s lane).inFrame then s
  else updTrunkLane lane (fun l => { l with inFrame := false, oofSince := some s.now }) s

/-- CODEWORD_LOCK_CHANGE (R349): lock is gained, or lost after 8 uncorrectable codewords; in Ethernet mode the link comes up or goes down (R369). -/
def execCodewordLockChange (lane : Nat) (good : Bool) (s : State) : Out := onLane lane s fun s =>
  if (trunkLane s lane).cfg.mode = .off || (trunkLane s lane).cwLock = good then s
  else endRestart lane
    (updTrunkLane lane (fun l =>
      { l with cwLock := good, goodSince := if good then some s.now else none,
               uncorrectable := if good then l.uncorrectable else satAdd l.uncorrectable 8 }) s)

/-- LOS_ENTRY (R359): signal detect absent for 2 us, or, with the signal present, codeword lock lost. -/
def execLosEntry (lane : Nat) (signal : Bool) (s : State) : Out := onLane lane s fun s =>
  let l := trunkLane s lane
  if l.cfg.mode = .off || l.los || (signal && l.cwLock) then s else enterLos lane s

/-- LOF is reported (R359): at its entry, or when the LOS that masked it ends. -/
def lofReported (n : Nat) (s : State) : State :=
  laneLost n (defectEvent n 1 true allPositions (updTrunkLane n (fun l => { l with lof := true, lofSeen := true }) s))

/-- LOS_EXIT (R359): signal detect and lock held for 125 us. -/
def execLosExit (lane : Nat) (s : State) : Out := onLane lane s fun s =>
  match (trunkLane s lane).goodSince with
  | none => s
  | some t =>
    if !(trunkLane s lane).los then s
    else
      let s := advanceTo (t + us 125) s
      let s := defectEvent lane 0 false allPositions (updTrunkLane lane (fun l => { l with los := false }) s)
      endRestart lane (noteMirror (if (trunkLane s lane).lof then lofReported lane s else s))

/-- LOF_ENTRY (R359): out of frame for 3 ms; LOS masks its report. -/
def execLofEntry (lane : Nat) (s : State) : Out := onLane lane s fun s =>
  match (trunkLane s lane).oofSince with
  | none => s
  | some t =>
    if !isSkeluz s lane || (trunkLane s lane).lof then s
    else
      let s := advanceTo (t + ms 3) s
      if (trunkLane s lane).los then updTrunkLane lane (fun l => { l with lof := true }) s
      else lofReported lane s

/-- LOF_EXIT (R359): in frame for 3 ms. -/
def execLofExit (lane : Nat) (s : State) : Out := onLane lane s fun s =>
  let l := trunkLane s lane
  if !l.lof || !l.inFrame then s
  else
    let s := updTrunkLane lane (fun l => { l with lof := false }) (advanceTo (l.inFrameSince + ms 3) s)
    endRestart lane (noteMirror (if l.los then s else defectEvent lane 1 false allPositions s))

/-- SD_EVALUATION (R359): the corrected-symbol ratio of a 1 s window against 10^-n and 10^-(n+1). -/
def execSdEvaluation (lane corrected received : Nat) (s : State) : Out := onLane lane s fun s =>
  let l := trunkLane s lane
  let s := updTrunkLane lane (fun l => { l with corrected := satAdd l.corrected corrected }) s
  if l.cfg.mode = .off || l.los || l.lof then s
  else if !l.sd && decide (corrected * 10 ^ l.cfg.sdExp > received) then
    defectEvent lane 6 true 0 (updTrunkLane lane (fun l => { l with sd := true, sdSeen := true }) s)
  else if l.sd && decide (corrected * 10 ^ (l.cfg.sdExp + 1) ≤ received) then
    defectEvent lane 6 false 0 (updTrunkLane lane (fun l => { l with sd := false }) s)
  else s

/-- SLOT_DEFECT_CHANGE (R359). -/
def execSlotDefectChange (lane : Nat) (s : State) : Out := onLane lane s fun s =>
  if (trunkLane s lane).cfg.mode = .off then s else evaluateSlots lane s

/-- TRUNK_FIFO_SHORTFALL (R361): with the core rail below 0.60 V. -/
def execTrunkFifoShortfall (lane : Nat) (transmit : Bool) (s : State) : Out := onLane lane s fun s =>
  if (trunkLane s lane).cfg.mode = .off then s
  else defectEvent lane 7 true allPositions
    (updTrunkLane lane (fun l => { l with fifoSeen := true, rxShort := l.rxShort || !transmit,
                                          txShort := l.txShort || transmit }) s)

/-- What the demapper keeps of a frame's slots: labels and RDI bits of the last three (R359). -/
def noteSlots (inputs : List SlotRxIn) (slots : Table SlotRx) : Table SlotRx :=
  (List.range 64).foldl (fun t k =>
    let x := (inputs.find? (fun i => i.k == k)).getD { k := k, label := 0, sstat := 0, data := [] }
    let r := tget {} t k
    tset t k { r with labels := (x.label :: r.labels).take 3, rdis := (bit x.sstat 0 :: r.rdis).take 3 }) slots

/-- The words of a group's members in the order of the group's stream (R355), one word of each member in turn. -/
def groupWords : Nat → List Bytes → Bytes
  | 0, _ => []
  | n + 1, ds =>
    if ds.all (·.isEmpty) then []
    else ds.flatMap (fun d => d.take 8 ++ zeros (8 - (d.take 8).length)) ++ groupWords n (ds.map (·.drop 8))

/-- What the g slots from position k received in a Skeluz frame (R355). -/
def frameWords (inputs : List SlotRxIn) (k g : Nat) : Bytes :=
  let received := fun (k : Nat) => ((inputs.find? (fun i => i.k == k)).map (·.data)).getD []
  if g = 1 then received k else groupWords 3000 ((List.range g).map (fun j => received (k + j)))

/-- Cross-connected slots pass on what the lane received (R362, R360), given by first position and group size. On an Ethernet lane a
group takes the chunks of its members as they arrive (DESIGN CHOICE, log 170). -/
def crossConnect (lane : Nat) (received : Nat → Nat → Bytes) (s : State) : State :=
  let p := activePage s
  (List.range s.part.slots).foldl (fun s slot =>
    let e := tsiEntry s.part p slot
    if e.txType = 3 && e.txArg / 64 = lane && !slotFailed s e.txArg then
      let data := received (e.txArg % 64) (groupSize e)
      if data.isEmpty then s else slotSend slot { pod := 0, isPacket := false, data := data } s
    else s) s

/-- The one-way delay of R358 in 2^-32 s: ((t4 - t1) - echo_delay) / 2 + asym / 2. -/
def oneWayDelay (t4 t1 : Word) (echoDelay : Nat) (asymPs : Int) : Int :=
  ((((t4 - t1).toNat : Int) - echoDelay) + roundDiv (asymPs * 2 ^ 32) 1000000000000) / 2

/-- TRUNK_FRAME_RECEIVE (R358): an in-frame frame of a Skeluz lane. -/
def execTrunkFrameReceive (lane : Nat) (frame : TrunkRx) (s : State) : Out := onLane lane s fun s =>
  let l := trunkLane s lane
  if l.cfg.mode != .skeluz || !l.inFrame || l.los then s
  else
    let t2 : Word := tmbNow s + BitVec.ofNat 64 (frame.fine % 9)
    let echoed := decide (frame.echoTime % 2 ^ 64 ≠ 0)
    let d := oneWayDelay t2 (BitVec.ofNat 64 frame.echoTime) frame.echoDelay l.cfg.asymPs
    let s := updTrunkLane lane (fun l =>
      { l with mfi := BitVec.ofNat 8 frame.mfi, peerLane := BitVec.ofNat 3 frame.lane,
               peerRole := BitVec.ofNat 2 (bits frame.lstat 1 2), peerFixed := bit frame.lstat 3,
               peerNode := BitVec.ofNat 16 frame.node, rxTime := BitVec.ofNat 64 frame.time, rxAt := t2,
               rdis := (bit frame.lstat 0 :: l.rdis).take 3, slots := noteSlots frame.slots l.slots,
               delayValid := l.delayValid || echoed,
               delay := if echoed then BitVec.ofInt 32 d else l.delay, rxShort := false }) s
    let s := crossConnect lane (frameWords frame.slots) s
    if lane != s.tmb.cfg.trunkLane.toNat || l.lof then s
    else
      let l := trunkLane s lane
      let valid := bit frame.tq 7
      let s := trunkRefFrame valid l.delayValid (bits frame.tq 0 2) s
      if valid && l.delayValid && s.tmb.trunkQual then
        measureOffset .trunk (toSigned 64 (t2 - (l.rxTime + BitVec.ofNat 64 l.delay.toNat)).toNat) s
      else s

/-- ETHERNET_CHUNK_SEND (R369): the next 1,000 words of a slot's stream in one frame. -/
def execEthernetChunkSend (lane slot : Nat) (s : State) : Out := onLane lane s fun s =>
  let l := trunkLane s lane
  if l.cfg.mode != .ethernet || decide (slot ≥ 64) || decide (s.now < l.pauseUntil) then s
  else
    let n := 64 * lane + slot
    let seq := tget 0 l.chunkTx slot
    match drawStream (groupFirst s.part (activePage s) n) 8000 s with
    | (s, data, ptr) =>
      let mac := beBytes 6 l.cfg.dstMac ++ beBytes 6 l.cfg.srcMac
        ++ (if bit l.cfg.ethFlags.toNat 0 then beBytes 2 0x8100 ++ beBytes 2 l.cfg.vlan.toNat else []) ++ beBytes 2 0x88B5
      let h := beBytes 1 1 ++ beBytes 1 slot ++ beBytes 2 seq.toNat ++ beBytes 1 (txLabel s n)
        ++ beBytes 1 (if slotTxRdi s n then 1 else 0) ++ beBytes 2 ptr
      emit (.chunk lane mac h data) (updTrunkLane lane (fun l => { l with chunkTx := tset l.chunkTx slot (seq + 1) }) s)

/-- ETHERNET_CHUNK_RECEIVE (R369): a chunk that fails its FCS or leaves a number out is a gap in the slot's stream,
which R356 answers by discarding what it cuts: such a packet never arrives as a feed or mirror row. -/
def execEthernetChunkReceive (lane slot seq : Nat) (fcsOk : Bool) (label : Nat) (body : ChunkBody) (s : State) : Out :=
  onLane lane s fun s =>
    let l := trunkLane s lane
    if l.cfg.mode != .ethernet || l.los || decide (slot ≥ 64) || !fcsOk then s
    else
      let s := updTrunkLane lane (fun l =>
        let r := tget {} l.slots slot
        let r := { r with labels := (label :: r.labels).take 3, rdis := (bit body.sstat 0 :: r.rdis).take 3,
                          chunkSeq := BitVec.ofNat 16 seq, chunkAt := s.now }
        { l with slots := tset l.slots slot r }) s
      crossConnect lane (fun k g => if k ≤ slot && decide (slot < k + g) then body.data else []) s

/-- ETHERNET_CHUNK_TIMEOUT (R369): a slot without a chunk for 1 ms counts as slot AIS. -/
def execEthernetChunkTimeout (slot : Nat) (s : State) : Out := onLane (slot / 64) s fun s =>
  let n := slot / 64
  let l := trunkLane s n
  let r := tget {} l.slots (slot % 64)
  if l.cfg.mode != .ethernet || l.los || r.ais then s
  else
    let s := advanceTo (r.chunkAt + ms 1) s
    let r := { r with ais := true, uneq := false, plm := false, rdi := false, labels := [0xFF, 0xFF, 0xFF] }
    let s := updTrunkLane n (fun l => { l with slots := tset l.slots (slot % 64) r }) s
    defectEvent n 3 true (2 ^ (slot % 64)) s

/-- PAUSE_RECEIVED (R368): honoured when enabled; one quantum is 512 bit times, 5.12 ns at 100 Gbit/s. -/
def execPauseReceived (lane quanta : Nat) (s : State) : Out := onLane lane s fun s =>
  let l := trunkLane s lane
  if l.cfg.mode != .ethernet || !bit l.cfg.ethFlags.toNat 1 then s
  else updTrunkLane lane (fun l => { l with pauseUntil := s.now + ceilDiv (quanta % 65536 * 512) 200 }) s

/-- A page switch at boundary F (R365): the other page acts, and the copy begins. -/
def switchPage (s : State) : State :=
  let s := { s with trk.activePage := !s.trk.activePage, trk.commitCount := s.trk.commitCount + 1,
                    trk.switchMfi := s.trk.txMfi, trk.commitAt := none, trk.copying := true }
  (List.range s.part.trunkLanes).foldl (fun s n => if isSkeluz s n then raiseTrunk n 10 1 0 0 s else s) s

/-- TSI_COMMIT_BOUNDARY (R365). -/
def execTsiCommitBoundary (s : State) : Out :=
  .next (match s.trk.commitAt with
    | none => s
    | some f => switchPage (advanceToFrame f s))

/-- TSI_COPY_DONE (R365): within 125 us after F. -/
def execTsiCopyDone (s : State) : Out :=
  .next (if !s.trk.copying then s
    else { setStandbyPage (activePage s) s with trk.copying := false, trk.commitDone := true })

/-! ### Commands -/

/-- A commit awaits its boundary or its copy (R376 PENDING). -/
def commitPending (s : State) : Bool := s.trk.commitAt.isSome || s.trk.copying

/-- The request of trunk.configure (R379). -/
def parseTrunkCfg (req : Bytes) : TrunkCfg where
  mode := match rd req 1 1 with | 1 => .skeluz | 2 => .ethernet | _ => .off
  nodeId := BitVec.ofNat 16 (rd req 2 2)
  sdExp := rd req 4 1
  ethFlags := BitVec.ofNat 3 (rd req 5 1)
  vlan := BitVec.ofNat 16 (rd req 6 2)
  asymPs := rdInt req 8 4
  dstMac := rd req 16 6
  srcMac := rd req 24 6

/-- A lane that restarts (R359, R379): its receiver starts out of frame with LOF and the slot defects cleared. -/
def restartLane (n : Nat) (c : TrunkCfg) (s : State) : State :=
  let l := trunkLane s n
  let fresh : TrunkLane :=
    { cfg := c, dlDiscards := l.dlDiscards, fifoSeen := l.fifoSeen, sdSeen := l.sdSeen, rdiSeen := l.rdiSeen,
      lofSeen := l.lofSeen, losSeen := l.losSeen, corrected := l.corrected, uncorrectable := l.uncorrectable,
      oofSince := if c.mode = .skeluz then some s.now else none, restart := c.mode != .off }
  laneLost n (updTrunkLane n (fun _ => fresh) s)

/-- trunk.configure (R379). -/
def trunkConfigureBody (req : Bytes) (s : State) : State × Reply :=
  let n := rd req 0 1
  let c := parseTrunkCfg req
  let old := (trunkLane s n).cfg
  if n ≥ s.part.trunkLanes || rd req 1 1 > 2 || c.sdExp < 4 || c.sdExp > 9 || rd req 5 1 > 7
      || c.asymPs.natAbs > 1000000 then answer St.badParam s
  else if isPaired s && s.part.mirrorLanes.contains n && c.mode != old.mode then answer St.pairRole s
  else if c.mode != old.mode || c.ethFlags != old.ethFlags || c.vlan != old.vlan || c.dstMac != old.dstMac
      || c.srcMac != old.srcMac then answer St.pending (restartLane n c s)
  else answer St.ok (updTrunkLane n (fun l => { l with cfg := c }) s)

def execTrunkConfigure (c : Caller) (req : Bytes) (s : State) : Out :=
  .next (runCmd ⟨0x0B01, shaped req 32 [(12, 4), (22, 2), (30, 2)], true, [.trunkLane (rd req 0 1)]⟩ c req
    (trunkConfigureBody req) s)

/-- A 16-byte connection entry (R362). -/
def parseEntry (b : Bytes) : TsiEntry where
  txType := rd b 0 1
  txFlags := rd b 1 1
  txArg := rd b 2 2
  txPod := rd b 4 1
  rxType := rd b 5 1
  rxFlags := rd b 6 1
  rxArg := rd b 8 2

/-- The 16 bytes of a connection entry (R362). -/
def entryBytes (e : TsiEntry) : Bytes :=
  leBytes 1 e.txType ++ leBytes 1 e.txFlags ++ leBytes 2 e.txArg ++ leBytes 1 (if e.txPod = allPods then 0 else e.txPod) ++ leBytes 1 e.rxType
    ++ leBytes 1 e.rxFlags ++ zeros 1 ++ leBytes 2 e.rxArg ++ zeros 6

/-- Whether an entry's fields lie in range and name a port and slot the part has (R362, R380). -/
def entryInRange (part : Part) (e : TsiEntry) : Bool :=
  decide (e.txType ≤ 5) && decide (e.txFlags < 8) && decide (bits e.txFlags 1 2 ≤ 2) && decide (e.rxType ≤ 3)
    && decide (e.rxFlags < 4) && decide (e.txPod ≤ 64)
    && (if e.txType = 1 then decide (e.txArg < part.ports)
        else if e.txType = 3 then decide (e.txArg < part.slots) else e.txArg == 0)
    && (e.txType == 1 || e.txType == 2 || e.txPod == 0)
    && (if e.rxType = 1 then decide (e.rxArg < part.ports) else e.rxArg == 0)

/-- Whether the groups of a page agree at a slot (R366): a first slot is aligned and its members carry types 5 and 3;
a member stands only under a first slot. -/
def groupsAgree (part : Part) (p : TsiPage) (slot : Nat) : Bool :=
  let e := tsiEntry part p slot
  let g := groupSize e
  let member := fun (n : Nat) => (tsiEntry part p n).txType == 5 && (tsiEntry part p n).rxType == 3
  if e.txType = 5 || e.rxType = 3 then
    member slot && bits e.txFlags 1 2 == 0
      && ((slot % 2 == 1 && groupSize (tsiEntry part p (slot - 1)) == 2 && !isMember (tsiEntry part p (slot - 1)))
          || (slot % 4 != 0 && groupSize (tsiEntry part p (slot / 4 * 4)) == 4 && !isMember (tsiEntry part p (slot / 4 * 4))))
  else slot % g == 0 && (List.range (g - 1)).all (fun i => member (slot + i + 1))

/-- The rules of R366 for the entries written at first to first + count - 1 of page p. -/
def entriesAllowed (s : State) (old p : TsiPage) (first count : Nat) : Bool :=
  let slots := (List.range count).map (· + first)
  slots.all (fun n => !isFixed old n && !(isPaired s && onMirrorLink s n))
    && ((List.range (count + 6)).map (fun i => first + i - 3)).all (fun n => decide (n ≥ s.part.slots) || groupsAgree s.part p n)
    && slots.all (fun n =>
      let e := tsiEntry s.part p n
      e.txType != 3 || (e.txArg != n && !isMember (tsiEntry s.part p e.txArg) && !(isPaired s && onMirrorLink s e.txArg)))

/-- tsi.write (R366, R380). -/
def tsiWriteBody (req : Bytes) (s : State) : State × Reply :=
  let first := rd req 0 2
  let count := rd req 2 2
  let es := (List.range count).map (fun i => parseEntry (slice req (8 + 16 * i) 16))
  if count < 1 || count > 32 || first + count > s.part.slots || !es.all (entryInRange s.part) then answer St.badParam s
  else if commitPending s then answer St.commitPending s
  else
    let old := standbyPage s
    let p := { old with entries := (List.range count).foldl (fun t i => tset t (first + i) (es.getD i {})) old.entries }
    if entriesAllowed s old p first count then answer St.ok (setStandbyPage p s) else answer St.slotConflict s

/-- The size and reserved bytes of tsi.write, by its own count. -/
def tsiWriteShape (req : Bytes) : Bool :=
  shaped req (8 + 16 * rd req 2 2)
    ((4, 4) :: (List.range (rd req 2 2)).flatMap (fun i => [(8 + 16 * i + 7, 1), (8 + 16 * i + 10, 6)]))

def execTsiWrite (c : Caller) (req : Bytes) (s : State) : Out :=
  .next (runCmd ⟨0x0B02, tsiWriteShape req, true, [.tsiPage]⟩ c req (tsiWriteBody req) s)

/-- tsi.mode (R367, R380). -/
def tsiModeBody (req : Bytes) (s : State) : State × Reply :=
  if rd req 0 1 > 1 then answer St.badParam s
  else if commitPending s then answer St.commitPending s
  else answer St.ok (setStandbyPage { standbyPage s with fixed := bit (rd req 0 1) 0 } s)

def execTsiMode (c : Caller) (req : Bytes) (s : State) : Out :=
  .next (runCmd ⟨0x0B03, shaped req 8 [(1, 7)], true, [.tsiPage]⟩ c req (tsiModeBody req) s)

/-- tsi.commit (R365, R380): the response names the time of F. -/
def tsiCommitBody (s : State) : State × Reply :=
  if commitPending s then answer St.commitPending s
  else if s.trk.pair.role = .standby then answer St.pairRole s
  else
    let f := boundaryAfter20us s
    ({ s with trk.commitAt := some f, trk.commitDone := false },
      .done St.pending (statusResp St.pending ++ leBytes 8 (frameTime f)))

def execTsiCommit (c : Caller) (req : Bytes) (s : State) : Out :=
  .next (runCmd ⟨0x0B04, shaped req 8 [(0, 8)], true, [.tsiPage]⟩ c req tsiCommitBody s)

/-- tsi.read (R380): entries of one page state. -/
def tsiReadBody (req : Bytes) (s : State) : State × Reply :=
  let first := rd req 2 2
  let count := rd req 4 2
  if rd req 0 1 > 1 || count < 1 || count > 32 || first + count > s.part.slots then answer St.badParam s
  else
    let p := if rd req 0 1 = 0 then activePage s else standbyPage s
    (s, .done St.ok (statusResp St.ok ++ (List.range count).flatMap (fun i => entryBytes (tsiEntry s.part p (first + i)))))

def execTsiRead (c : Caller) (req : Bytes) (s : State) : Out :=
  .next (runCmd ⟨0x0B05, shaped req 8 [(1, 1), (6, 2)], true, [.tsiPage]⟩ c req (tsiReadBody req) s)

/-- pair.configure (R370, R380): the role applies at the next boundary. -/
def pairConfigureBody (req : Bytes) (s : State) : State × Reply :=
  if rd req 0 1 > 2 || rd req 1 1 > 1 then answer St.badParam s
  else if !s.part.mirrorLanes.all (isSkeluz s) then answer St.pairRole s
  else
    let role := match rd req 0 1 with | 1 => PairRole.active | 2 => .standby | _ => .unpaired
    answer St.pending
      { s with trk.pair.next := some (role, bit (rd req 1 1) 0, frameAfter ((tmbNow s).toNat + 1)) }

def execPairConfigure (c : Caller) (req : Bytes) (s : State) : Out :=
  .next (runCmd ⟨0x0B06, shaped req 8 [(2, 6)], true,
    .tsiPage :: s.part.mirrorLanes.map Resource.trunkLane⟩ c req (pairConfigureBody req) s)

/-- pair.switch (R373, R380): role failing from F, the pages at F + 2. -/
def pairSwitchBody (s : State) : State × Reply :=
  if !isPaired s || !s.trk.pair.peerReady then answer St.pairRole s
  else
    let f := boundaryAfter20us s
    answer St.pending { s with trk.pair.failFrom := if s.trk.pair.role = .active then some f else none,
                               trk.pair.planned := some (f + 2) }

def execPairSwitch (c : Caller) (req : Bytes) (s : State) : Out :=
  .next (runCmd ⟨0x0B07, shaped req 8 [(0, 8)], true, [.tsiPage]⟩ c req pairSwitchBody s)

end Sys2Proof.Machine
end

