-- ==== Sys2Proof/Machine/Chains.lean ====
section
/-! DEFINITION. Measurement chains (04): stages, comparators, blocks, delivery and the chain commands; linearisation
of sensor chains (14, R396 to R398). -/

namespace Sys2Proof.Machine

def chain (s : State) (c : Nat) : Chain := tget {} s.chains c

def updChain (c : Nat) (f : Chain → Chain) (s : State) : State := { s with chains := tset s.chains c (f (chain s c)) }

def position (ch : Chain) (p : Nat) : Position := tget {} ch.positions p

def updPosition (c p : Nat) (f : Position → Position) (s : State) : State :=
  updChain c (fun ch => { ch with positions := tset ch.positions p (f (position ch p)) }) s

/-- The active coefficient bank (R94). -/
def activeBank (ch : Chain) : Bank := if ch.active then ch.bank1 else ch.bank0

def isLaneChain (c : Nat) : Bool := decide (c < 512)
def isChargeChain (c : Nat) : Bool := decide (512 ≤ c) && decide (c < 544)
def isPrecision (c : Nat) : Bool := decide (544 ≤ c)

/-- The sensor input of a position of a sensor chain (R382). -/
def inputOf (c p : Nat) : Nat :=
  if c < 544 then 32 + (c - 512) else if p < 4 then 4 * (c - 544) + p else 64 + 4 * (c - 544) + (p - 4)

/-- The chain and position of a sensor input (R382). -/
def chainOfInput (n : Nat) : Nat × Nat :=
  if n < 32 then (544 + n / 4, n % 4) else if n < 64 then (512 + (n - 32), 0) else (544 + (n - 64) / 4, 4 + (n - 64) % 4)

def input (s : State) (n : Nat) : Input := tget {} s.sns.inputs n

def updInput (n : Nat) (f : Input → Input) (s : State) : State :=
  { s with sns.inputs := tset s.sns.inputs n (f (input s n)) }

def converter (s : State) (j : Nat) : Converter := tget {} s.sns.converters j

def updConverter (j : Nat) (f : Converter → Converter) (s : State) : State :=
  { s with sns.converters := tset s.sns.converters j (f (converter s j)) }

/-! ### Stages (R91 to R96) -/

/-- Insertion into a rising list. -/
def insSorted (x : Int) : List Int → List Int
  | [] => [x]
  | y :: ys => if x ≤ y then x :: y :: ys else y :: insSorted x ys

/-- Rank r of a window, rank 1 the least (R93). -/
def rankOf (r : Nat) (w : List Int) : Int := ((w.foldl (fun a x => insSorted x a) []).getD (r - 1)) 0

/-- The FIR of R94: coefficients h[0] first against samples, newest first. -/
def fir (h line : List Int) : Int := ((h.zip line).map (fun p => p.1 * p.2)).sum

/-- Convergent rounding of x / 2^s: to the nearest, ties to even (R96). -/
def roundEven (x : Int) (s : Nat) : Int :=
  let d : Int := 2 ^ s
  let q := x / d
  let r := x % d
  if 2 * r < d then q else if 2 * r > d then q + 1 else if q % 2 = 0 then q else q + 1

/-- The tap sample of a lane (R68): the decimated converter sample divided by the gain in force, plus the servo term, at the tap
scale in force; saturated to 16 bits. It is rounded to the nearest code, ties to even (DESIGN CHOICE, log 159). -/
def tapSample (l : PortLine) (lane : Nat) (x : TapSample) : Int :=
  let g := gainOf l lane
  let gain := if g ≥ 0 then halfDbBelow g.toNat else 2 ^ 80 / halfDbBelow (-g).toNat
  roundEven ((x.value * gain + x.servo * fxOne) * 4 ^ l.tapScale.toNat) 42

/-- The converter samples of a tap sample at an end of their range (R65). -/
def overCodes (x : TapSample) : Nat := (x.codes.filter (fun v => decide (v ≥ 32764) || decide (v ≤ -32768))).length

/-- The resistance sample of a temperature position in 2^-8 ohm (R387): r = (v_on - v_off) / i_cal, the voltages in 2 V / 2^23 and the
current in nA; v_off is zero without offset cancel. It is rounded to the nearest LSB (DESIGN CHOICE, log 159). -/
def resistance (vOn vOff : Int) (iCal : Nat) : Int := roundDiv ((vOn - vOff) * 1000000000) (16384 * iCal)

/-- The sample of a precision position (R386, R387, R392): an excitation that cannot hold its current gives the largest one. -/
def precisionSample (s : State) (c p : Nat) (x : TapSample) : Int :=
  if p ≥ 4 then x.value
  else if (input s (inputOf c p)).compliance then 2 ^ 23 - 1
  else
    let sp := tget {} (converter s (c - 544)).scan.positions p
    resistance x.value (if bit sp.flags.toNat 0 then (x.codes.head?).getD 0 else 0)
      (Config.excitationCal (inputOf c p) sp.excitation)

/-- A sample's input word (R88) and whether it is over range (R65, R68, R105, R386, R392): a converter sample at an end of its 14-bit
range, a saturated tap sample, a charge code or a precision sample at an end of its range. -/
def inputWord (s : State) (c p : Nat) (x : TapSample) : Int × Bool :=
  if isLaneChain c then
    let v := tapSample (port s (c / 4)).line (c % 4) x
    (clampSigned 16 v, decide (clampSigned 16 v ≠ v) || decide (overCodes x > 0))
  else if isChargeChain c then (clampSigned 16 x.value, decide (x.value ≥ 32752) || decide (x.value ≤ -32768))
  else
    let v := precisionSample s c p x
    (clampSigned 24 v, decide (v ≥ 2 ^ 23 - 1) || decide (v ≤ -(2 ^ 23)))

/-- The fractional delay (R92): a delay line of D/64 whole samples, then eight taps of the phase D mod 64. -/
def fracDelay (d : Nat) (line : List Int) : Int :=
  let taps := (List.range 8).map (fun j => (Config.sincCoef (d % 64) j).toInt * line.getD (d / 64 + j) 0)
  roundEven taps.sum Config.sincBits

/-- One input sample through entry, fractional delay, rank filter and FIR (R91): the position after it, the FIR output
and whether stage 1 saturated. -/
def chainSample (c : Nat) (ch : Chain) (pos : Nat) (ps : Position) (raw : Int) : Position × Int × Bool :=
  let x := if isPrecision c then raw else raw * 256
  let line := (x :: ps.line).take 71
  let a := if bit ch.cfg.enables.toNat 0 then fracDelay (tget 0 ch.cfg.delay pos) line else x
  let a' := clampSigned 24 a
  let win := (a' :: ps.window).take 9
  let b := if bit ch.cfg.enables.toNat 1 then rankOf ch.cfg.rankSelect (win.take ch.cfg.rankTaps) else a'
  let f := (b :: ps.fir).take 128
  ({ ps with line := line, window := win, fir := f, since := ps.since + 1, sinceRate := ps.sinceRate + 1 }, fir (activeBank ch).h f, a != a')

/-- Input samples an output depends on beyond the outputs of its group (R101): FIR span, rank window, delay. -/
def contrib (ch : Chain) (pos : Nat) : Nat :=
  ((activeBank ch).h.length - 1) + (if bit ch.cfg.enables.toNat 1 then ch.cfg.rankTaps - 1 else 0)
    + (if bit ch.cfg.enables.toNat 0 then tget 0 ch.cfg.delay pos / 64 + 7 else 0)

/-- Samples of its group that an output depends on (R95): all of them, or the last. -/
def groupSpan (ch : Chain) : Nat := if ch.cfg.average then 2 ^ ch.cfg.k else 1

/-- Whether every contributing sample of the group follows the last gap or restart (R101). -/
def primed (ch : Chain) (pos : Nat) (ps : Position) : Bool := decide (ps.since ≥ contrib ch pos + groupSpan ch)

/-- Whether a source sample count lies among the input samples that contribute to the output of the group that ends at last
(R101, R105). -/
def contributes (ch : Chain) (pos last n : Nat) : Bool :=
  let ahead := if bit ch.cfg.enables.toNat 0 then tget 0 ch.cfg.delay pos / 64 else 0
  decide (last < n + contrib ch pos + groupSpan ch) && decide (n + ahead ≤ last)

/-- G in 1/1024 input sample (R98): G1 = 4 + D/64, G2 = (N - 1)/2, G3 of the bank, G4 = (2^k - 1)/2 in average mode. -/
def groupDelay (ch : Chain) (pos : Nat) : Nat :=
  (if bit ch.cfg.enables.toNat 0 then 4096 + 16 * tget 0 ch.cfg.delay pos else 0)
    + (if bit ch.cfg.enables.toNat 1 then 512 * (ch.cfg.rankTaps - 1) else 0)
    + (activeBank ch).g3 + (if ch.cfg.average then 512 * (2 ^ ch.cfg.k - 1) else 0)

/-- The 2 ns periods of one input sample of a lane or charge chain (R88). -/
def sampleTicks (c : Nat) (halved : Bool) : Nat := if isLaneChain c then (if halved then 8 else 4) else 10

/-- The front delay in ns (R90). -/
def frontDelayNs (c : Nat) (halved : Bool) : Nat :=
  if isLaneChain c then (if halved then 220 else 92) else if isChargeChain c then 60 else 0

/-- Whether the taps of a chain run at half rate: under step 1 of R34, never in Sense-priority (R35). -/
def tapHalved (s : State) (c : Nat) : Bool :=
  isLaneChain c && s.pwr.avs.tapsHalved && (tget (Port.init (c / 4)) s.ports (c / 4)).line.profile != .sense

/-- The aperture offset of a lane in ps (R69). -/
def apertureOf (s : State) (c : Nat) : Int :=
  if isLaneChain c then (((tget (Port.init (c / 4)) s.ports (c / 4)).line.apertures).getD (c % 4)) 0 else 0

/-- The microseconds of a conversion of R385. -/
def convUs (code : Nat) : Nat := [2, 8, 32, 128, 512, 2048].getD code 2

/-- The length of a position's slot in us (R384). -/
def slotUs (p : Nat) (x : ScanPos) : Nat :=
  (if p < 4 && bit x.flags.toNat 0 then 1 + convUs x.conv else 0) + x.settleUs + convUs x.conv

/-- The conversion instant of a position after its frame's start, in half microseconds (R384). -/
def instantHalfUs (sc : Scan) (p : Nat) : Nat :=
  let before := ((List.range p).filter (bit sc.enables.toNat)).map (fun q => slotUs q (tget {} sc.positions q))
  let x := tget {} sc.positions p
  2 * (before.sum + (if p < 4 && bit x.flags.toNat 0 then 1 + convUs x.conv else 0) + x.settleUs) + convUs x.conv

/-- The corrected time t_out of R98, rounded to the timebase LSB; a tie goes away from zero (DESIGN CHOICE, log 160). -/
def correctedTime (s : State) (c pos : Nat) (last : Nat) : Word :=
  let ch := chain s c
  let g := groupDelay ch pos
  if isPrecision c then
    let sc := (converter s (c - 544)).scan
    let num : Int := (2048 * last * sc.periodUs + 1024 * instantHalfUs sc pos : Nat) - (2 * g * sc.periodUs : Nat)
    BitVec.ofInt 64 (roundDiv (num * 2 ^ 32) (2048 * 1000000))
  else
    let n := last * sampleTicks c ch.halved
    let period : Int := 2000 * sampleTicks c ch.halved
    let corr : Int := apertureOf s c * 1024 - frontDelayNs c ch.halved * 1000 * 1024 - g * period
    let da : Nat := 500000000 * 2 ^ 40
    let db : Nat := 1024 * 1000000000000
    let num := ((n : Int) - s.tmb.nU) * (2 ^ 40 + s.tmb.yU) * 2 ^ 32 * db + corr * 2 ^ 32 * da
    BitVec.ofInt 64 (s.tmb.tU.toNat + roundDiv num (da * db))

/-- rate code of a block (R104). -/
def rateCode (c : Nat) (halved : Bool) : Nat :=
  if isLaneChain c then (if halved then 1 else 0) else if isChargeChain c then 2 else 3

/-! ### Linearisation (R396 to R398) -/

/-- Rounding of an integer to 53 significant bits, ties to even (binary64 precision; the range never limits). -/
def round53 (x : Int) : Int :=
  let l := x.natAbs.log2 + 1
  if x.natAbs = 0 || l ≤ 53 then x else roundEven x (l - 53) * 2 ^ (l - 53)

/-- One binary64 fused multiply-add u * v + w, on numbers held as integers in units of 2^-1000. -/
def fma (u v w : Int) : Int := round53 (u * v + w * 2 ^ 1000) / 2 ^ 1000

/-- A finite binary32 in units of 2^-1000. -/
def ofBinary32 (b : BitVec 32) : Int :=
  let e := bits b.toNat 23 8
  let m := bits b.toNat 0 23
  let v : Int := if e = 0 then (m * 2 ^ 851 : Nat) else ((2 ^ 23 + m) * 2 ^ (850 + e) : Nat)
  if bit b.toNat 31 then -v else v

/-- Linearisation of a stage-5 output with temperature variable t, in units of 2^-1000 (R396). -/
def linearise (a : List (BitVec 32)) (t : Int) (s : Int) : Int :=
  let x := s * 2 ^ 969
  let co := fun (i j : Nat) => ofBinary32 (a.getD (4 * i + j) 0)
  let ci := fun (i : Nat) => fma (fma (fma (co i 3) t (co i 2)) t (co i 1)) t (co i 0)
  roundEven ([4, 3, 2, 1, 0].foldl (fun y i => fma y x (ci i)) (ci 5)) 1000

/-- Whether an input carries a flag of R393. -/
def inputFault (i : Input) : Bool := i.clamp || i.commonMode || i.compliance

/-- The temperature variable of an input at a time, and whether it is at fault (R397). -/
def linTemp (s : State) (c : LinCoef) (at_ : Word) : Int × Bool :=
  if c.source = 1 then (toSigned 16 s.pwr.tjSensing.toNat * 2 ^ 996, false)
  else if c.source = 2 then
    let src := input s c.sourceInput
    let age := 4 * usTime (converter s ((chainOfInput c.sourceInput).1 - 544)).scan.periodUs
    match src.values.find? (fun e => !serialNewer 64 e.2.toNat at_.toNat) with
    | none => (0, true)
    | some (v, t) => if inputFault src || decide ((at_ - t).toNat > age) then (0, true) else (v * 2 ^ 969, false)
  else (0, false)

/-- Linearisation of an output where it is enabled (R396, R398): the output, whether it saturated, whether the block
carries INPUT_FAULT, and the state that remembers the input's latest output. -/
def linStage (s : State) (c pos : Nat) (y : Int) (at_ : Word) : State × Int × Bool × Bool :=
  if isLaneChain c || !bit (chain s c).cfg.enables.toNat 2 then (s, y, false, false)
  else
    let n := inputOf c pos
    let lc := (input s n).lin
    if !lc.sound then (updInput n (fun i => { i with values := (y, at_) :: i.values }) s, y, false, true)
    else
      match linTemp s lc at_ with
      | (t, bad) =>
        let v := linearise lc.coef t y
        let v' := clampSigned 32 v
        (updInput n (fun i => { i with values := (v', at_) :: i.values }) s, v', v != v', bad)

/-! ### Comparators (R97, R108) -/

def comparator (ps : Position) (i : Nat) : Comparator := if i = 0 then ps.cmp0 else ps.cmp1

def setComparator (c p i : Nat) (x : Comparator) (s : State) : State :=
  updPosition c p (fun ps => if i = 0 then { ps with cmp0 := x } else { ps with cmp1 := x }) s

/-- The event record of a comparator (R108, R550): its time and quality are those of the recorded output. -/
def comparatorEvent (c p i : Nat) (enter : Bool) (cause : Nat) (value : Int) (at_ : Word) (q : Nat) (s : State) : State :=
  let source := if isLaneChain c then 8 * (c / 4) else 1152 + (c - 512)
  raiseRec { time := at_, source := source, cause := 1, flags := q, count := 1, pod := sourceOwner s source,
             arg0 := pack [(16, c), (8, p), (1, i), (1, if enter then 1 else 0), (2, cause)],
             arg1 := ofInt 32 value } s

/-- Whether an output meets a comparator's condition in its present state (R97), with saturated bounds. -/
def meets (x : Comparator) (y : Int) : Bool :=
  let lo := clampSigned 32 (x.level - x.hyst)
  let hi := clampSigned 32 (x.level + x.hyst)
  if x.mode = 1 then (if x.active then decide (y < lo) else decide (y > x.level))
  else if x.mode = 2 then (if x.active then decide (y > hi) else decide (y < x.level))
  else false

/-- A comparator evaluates an output (R97). -/
def evaluate (c p i : Nat) (y : Int) (at_ : Word) (q : Nat) (s : State) : State :=
  let x := comparator (position (chain s c) p) i
  if x.mode = 0 then s
  else
    let s := if x.active && x.report then comparatorEvent c p i true 0 y at_ q s else s
    let x := { x with report := false }
    if !meets x y then setComparator c p i { x with run := 0 } s
    else
      let x := if x.run = 0 then { x with first := y, firstAt := at_, firstQuality := q } else x
      if x.run + 1 ≥ x.q then
        comparatorEvent c p i (!x.active) 0 x.first x.firstAt x.firstQuality
          (setComparator c p i { x with run := 0, active := !x.active } s)
      else setComparator c p i { x with run := x.run + 1 } s

/-! ### Blocks (R103 to R107) -/

/-- The bytes of a block (R104). -/
def blockBytes (c p : Nat) (b : Block) (seq : Nat) (dropped : Nat) : Bytes :=
  leBytes 8 b.at_.toNat ++ leBytes 2 c ++ leBytes 1 p ++ leBytes 1 b.k ++ leBytes 2 b.rev.length ++ leBytes 2 b.flags
    ++ leBytes 4 b.delay ++ leBytes 4 (satTo 0xFFFFFFFF b.lost) ++ leBytes 4 seq ++ leBytes 2 dropped
    ++ leBytes 1 b.rate ++ leBytes 1 b.quality ++ (b.rev.reverse.map (fun y => leBytes 4 (ofInt 32 y))).flatten

/-- A block that is not delivered (R104, R106): counted. -/
def blockDropped (c p : Nat) (s : State) : State :=
  let s := updPosition c p (fun ps => { ps with sequence := ps.sequence + 1, dropped := satAdd ps.dropped 1 }) s
  if (chain s c).cfg.dest = .ring then
    count 0x000F { port := if isLaneChain c then some (c / 4) else none, pod := some (chainOwner s c) } 1 s
  else s

/-- A block delivered: the sequence advances and the drops are told. -/
def blockDelivered (c p : Nat) (s : State) : State :=
  updPosition c p (fun ps => { ps with sequence := ps.sequence + 1, dropped := 0 }) s

/-- The ring of a chain in its owner's host memory (R106). -/
def chainRing (s : State) (c : Nat) : RingAt :=
  let g := (chain s c).cfg
  { fn := chainOwner s c, base := g.ringBase, ctrl := g.ringCtrl, log2 := g.ringLog2 }

/-- Deliver a block to its destination, or drop it (R106, R107, R363). -/
def deliverBlock (c p : Nat) (b : Block) (consumer : Option Nat) (s : State) : State :=
  let ps := position (chain s c) p
  let bytes := blockBytes c p b ps.sequence.toNat ps.dropped.toNat
  match (chain s c).cfg.dest with
  | .none => blockDropped c p s
  | .ring =>
    match ringWrite (chainRing s c) (chain s c).ring.prod (chain s c).ring.cons (pad64 bytes) consumer s with
    | (s, prod, cons, ok) =>
      let s := updChain c (fun ch => { ch with ring := ⟨prod, cons⟩ }) s
      if ok then blockDelivered c p s else blockDropped c p s
  | .trunk =>
    let slot := (chain s c).cfg.trunkSlot
    let e := tsiEntry s.part (activePage s) slot
    if e.txType = 2 && e.txPod = chainOwner s c then
      slotSend slot { pod := chainOwner s c, isPacket := false, data := bytes } (blockDelivered c p s)
    else blockDropped c p s

/-- The closed blocks of a position are delivered, oldest first. -/
def deliverReady (c p : Nat) (consumer : Option Nat) (s : State) : State :=
  let ready := (position (chain s c) p).ready
  ready.foldl (fun s b => deliverBlock c p b consumer s) (updPosition c p (fun ps => { ps with ready := [] }) s)

/-- The current block of a position closes with its actual count (R103); it is delivered with the next read of its
ring's consumer offset, or at once where it goes to no ring. -/
def closeBlock (c p : Nat) (s : State) : State :=
  match (position (chain s c) p).block with
  | none => s
  | some b =>
    let s := updPosition c p (fun ps => { ps with block := none, ready := ps.ready ++ [b] }) s
    if (chain s c).cfg.dest = .ring then s else deliverReady c p none s

/-- The positions of a chain that hold anything. -/
def positionsOf (s : State) (c : Nat) : List Nat := (chain s c).positions.map (·.1)

/-- Close the blocks of every position of a chain. -/
def closeBlocks (c : Nat) (s : State) : State := (positionsOf s c).foldl (fun s p => closeBlock c p s) s

/-- The positions a chain has (R89). -/
def positionCount (c : Nat) : Nat := if isPrecision c then 8 else 1

/-- A position whose lines are emptied (R101): comparators keep their state, their runs restart. -/
def emptied (flag lost : Nat) (ps : Position) : Position :=
  { ps with line := [], window := [], fir := [], since := 0, acc := 0, sat := false, overs := [], gains := [],
            owed := ps.owed ||| flag, lost := ps.lost + lost, cmp0 := { ps.cmp0 with run := 0 }, cmp1 := { ps.cmp1 with run := 0 } }

/-- A gap of lost input samples (R101): the block closes, the lines empty, the next block carries GAP. -/
def chainGap (c lost : Nat) (s : State) : State :=
  let s := closeBlocks c s
  let s := (List.range (positionCount c)).foldl (fun s p => updPosition c p (emptied 2 lost) s) s
  if isLaneChain c then bump (1024 + 4 * c + 2) lost s else s

/-- Exit events of a restart (R102): every active comparator leaves with cause 1. -/
def restartComparators (c p : Nat) (s : State) : State :=
  [0, 1].foldl (fun s i =>
    let ps := position (chain s c) p
    let x := comparator ps i
    if x.active then
      comparatorEvent c p i false 1 ps.latest ps.latestAt ps.latestQuality
        (setComparator c p i { x with active := false, run := 0 } s)
    else setComparator c p i { x with run := 0 } s) s

/-- A chain restarts (R102, R114): lines, windows, partial groups, the unfinished block and a pending swap are discarded. -/
def restartChain (c : Nat) (s : State) : State :=
  (List.range (positionCount c)).foldl (fun s p =>
    updPosition c p (fun ps => { emptied 64 0 ps with block := none }) (restartComparators c p s))
    (updChain c (fun ch => { ch with swap := none }) s)

/-- TX_ACTIVE of a lane chain's samples between two sample counts (R27). -/
def txDuring (s : State) (c from_ to_ : Nat) : Bool :=
  if !isLaneChain c then false
  else
    let pt := tget (Port.init (c / 4)) s.ports (c / 4)
    (pt.mac.tx.map (fun x => decide (x.startAt ≤ to_) && decide (from_ ≤ x.endAt))).getD false
      || pt.line.txSpans.any (fun x => decide (x.1 ≤ to_) && decide (from_ ≤ x.2))

/-- Whether the gain of a lane chain's lane changed since the last sample (R68), and the state with that noted. -/
def takeGainChange (c : Nat) (s : State) : State × Bool :=
  if !isLaneChain c then (s, false)
  else
    let pt := tget (Port.init (c / 4)) s.ports (c / 4)
    if bit pt.line.gainChanged.toNat (c % 4) then
      ({ s with ports := tset s.ports (c / 4)
                          { pt with line.gainChanged := pt.line.gainChanged &&& ~~~(BitVec.ofNat 4 (2 ^ (c % 4))) } }, true)
    else (s, false)

/-- The block a position fills, opened at an output where none is (R103, R104): it takes the flags and lost samples
owed, and a linearisation set that waits for a block start (R398). -/
def openBlock (c p : Nat) (at_ : Word) (s : State) : State :=
  let ps := position (chain s c) p
  match ps.block with
  | some _ => s
  | none =>
    let ch := chain s c
    let b : Block := { at_ := at_, flags := ps.owed + (if ch.active then 32 else 0), delay := groupDelay ch p,
                       k := ch.cfg.k, rate := rateCode c ch.halved, lost := ps.lost, quality := quality s, rev := [] }
    let s := updPosition c p (fun ps => { ps with block := some b, owed := 0, lost := 0 }) s
    if isLaneChain c then s
    else updInput (inputOf c p) (fun i => match i.nextLin with
      | some l => { i with lin := l, nextLin := none }
      | none => i) s

/-- The lane chain takes the tap rate in force from this group on (R100). -/
def takeRate (c p : Nat) (s : State) : State :=
  if isLaneChain c && (chain s c).halved != tapHalved s c then
    updPosition c p (fun ps => { ps with owed := ps.owed ||| 128, sinceRate := 0 })
      (updChain c (fun ch => { ch with halved := tapHalved s c }) (closeBlock c p s))
  else s

/-- An output joins its block; a full block is delivered (R104, R106). -/
def appendOutput (c p : Nat) (y : Int) (flags : Nat) (consumer : Option Nat) (s : State) : State :=
  match (position (chain s c) p).block with
  | none => s
  | some b =>
    let b := { b with rev := y :: b.rev, flags := b.flags ||| flags }
    if b.rev.length ≥ 2 ^ (chain s c).cfg.blockLog2 then
      deliverBlock c p b consumer (updPosition c p (fun ps => { ps with block := none }) s)
    else updPosition c p (fun ps => { ps with block := some b }) s

/-- One output of a position: rounding, linearisation, comparators, block (R96, R97, R104). -/
def chainEmit (c p last : Nat) (x : Int) (sat1 beyond tx gain : Bool) (consumer : Option Nat) (s : State) : State :=
  let y := roundEven x (chain s c).cfg.shift
  let y5 := clampSigned 32 y
  let at_ := correctedTime s c p last
  let s := openBlock c p at_ s
  match linStage s c p y5 at_ with
  | (s, v, sat6, linBad) =>
    let q := quality s
    let fault := !isLaneChain c && (linBad || inputFault (input s (inputOf c p)))
    let flags := (if tx then 1 else 0) + (if beyond then 4 else 0) + (if gain then 8 else 0)
      + (if sat1 || sat6 || y != y5 then 16 else 0) + (if fault then 512 else 0)
    let s := updPosition c p (fun ps => { ps with latest := v, latestAt := at_, latestQuality := q }) s
    let s := evaluate c p 1 v at_ q (evaluate c p 0 v at_ q s)
    appendOutput c p v flags consumer s

/-- Whether the sensing converters have lost their clock, synthesizer A's (R383): its ports are being moved, or no synthesizer
is left. -/
def sensingStopped (s : State) : Bool :=
  (match s.syn.adoption with | some a => a.first == 0 | none => false) || s.syn.ownerLo == 0

/-- Whether the converter of a chain delivers samples: not in standby or reset, not on a lane that is stopped (R78) or whose
calibration loopback is closed (R69). -/
def converterRuns (s : State) (c : Nat) : Bool :=
  s.pwr.phase == .running
    && (if isLaneChain c then
          let l := (tget (Port.init (c / 4)) s.ports (c / 4)).line
          !l.stopped && (match l.cal with | .running _ => false | .opening _ _ => false | .reopening _ => false | _ => true)
        else !sensingStopped s)

/-- Whether the chain's position takes samples: a precision position only while it is enabled (R384). -/
def positionRuns (s : State) (c p : Nat) : Bool :=
  converterRuns s c && decide (p < positionCount c) && (!isPrecision c || bit (converter s (c - 544)).scan.enables.toNat p)

/-- A sample enters a position (R91, R95): its stages, and the accumulator of its group. -/
def enterSample (c p n : Nat) (v : Int) (beyond gain : Bool) (s : State) : State :=
  let ch := chain s c
  match chainSample c ch p (position ch p) v with
  | (ps, y, sat) =>
    let note := fun (b : Bool) (l : List Nat) =>
      (if b then [n] else []) ++ l.filter (fun m => decide (n < m + contrib ch p + 2 ^ ch.cfg.k))
    updPosition c p (fun _ =>
      { ps with next := n + 1, acc := if n % 2 ^ ch.cfg.k = 0 then y else if ch.cfg.average then ps.acc + y else y,
                sat := ps.sat || sat, overs := note beyond ps.overs, gains := note gain ps.gains }) s

/-- The group of a position that ends at a source sample count (R95, R100, R101): it gives an output where all that contributes follows
the last gap and it lies wholly at one rate. -/
def endGroup (c p n : Nat) (consumer : Option Nat) (s : State) : State :=
  let ch := chain s c
  let ps := position ch p
  if (n + 1) % 2 ^ ch.cfg.k != 0 || !primed ch p ps || ch.halved != (isLaneChain c && tapHalved s c) then s
  else
    let ticks := sampleTicks c ch.halved
    let tx := txDuring s c ((n + 1 - (contrib ch p + groupSpan ch)) * ticks) (n * ticks)
    chainEmit c p n ps.acc ps.sat (ps.overs.any (contributes ch p n)) tx (ps.gains.any (contributes ch p n)) consumer
      (updPosition c p (fun ps => { ps with sat := false }) s)

/-- One input sample of a position, by its source sample count, and how many of its converter samples poisoned words reach: a lane's is
counted (R504), and the symbols that overlap an over-range one are erased (R65); one in a poisoned word of the lane receive FIFO is
lost to the chain, a gap (R281, R282). -/
def takeSample (c p : Nat) (consumer : Option Nat) (s : State) (e : Nat × TapSample × Nat) : State :=
  let (x, poisoned) := e.2
  let high := overCodes x + poisoned
  let s := if e.1 % 2 ^ (chain s c).cfg.k = 0 then takeRate c p s else s
  let ticks := sampleTicks c (tapHalved s c)
  let s := if isLaneChain c then
      let s := bump (1024 + 4 * c + 1) high (bump (1024 + 4 * c) 1 s)
      if high > 0 then eraseRx (c / 4) (e.1 * ticks) ((e.1 + 1) * ticks - 1) s else s
    else s
  if isLaneChain c && decide (poisoned > 0) then chainGap c 1 (parityFail 1 c false s)
  else
    match inputWord s c p x with
    | (v, beyond) =>
      match takeGainChange c s with
      | (s, gain) => endGroup c p e.1 consumer (enterSample c p e.1 v beyond gain s)

/-- CHAIN_OUTPUT (R95): input samples of position p, the last of source sample count last; every group that ends among them gives its
output. The samples of a group that a gap, a restart or a swap cuts come in part before it and in part after. poisons tells how many
converter samples of each a poisoned word reaches, none where it ends (R281). -/
def execChainOutput (chain_ pos last : Nat) (samples : List TapSample) (poisons : List Nat) (consumer : Option Nat) (s : State) : Out :=
  let c := chain_
  if !s.part.hasChain c then .fault .absentResource
  else if !positionRuns s c pos then .next s
  else
    let s := if isPrecision c then s else advanceTo (last * sampleTicks c (tapHalved s c)) s
    let first := last + 1 - samples.length
    let feed := ((List.range samples.length).zip samples).map (fun e => (first + e.1, e.2, poisons.getD e.1 0))
    .next (feed.foldl (takeSample c pos consumer) (deliverReady c pos consumer s))

/-- The timebase time of a source sample count (R42, R384): of a precision chain, the instant of its first enabled position in that
frame. -/
def sampleTime (s : State) (c n : Nat) : Word :=
  if isPrecision c then
    let sc := (converter s (c - 544)).scan
    let p := ((List.range 8).find? (bit sc.enables.toNat)).getD 0
    BitVec.ofNat 64 ((2 * n * sc.periodUs + instantHalfUs sc p) * 2 ^ 32 / 2000000)
  else timeAt s.tmb (n * sampleTicks c (chain s c).halved)

/-- The first sample of the first decimation group of a chain at or after a timebase time (R95, R114). -/
def groupFrom (s : State) (c at_ : Nat) : Nat :=
  let g := 2 ^ (chain s c).cfg.k
  if isPrecision c then
    let sc := (converter s (c - 544)).scan
    let p := ((List.range 8).find? (bit sc.enables.toNat)).getD 0
    ceilDiv (ceilDiv (at_ * 2000000) (2 ^ 32) - instantHalfUs sc p) (2 * max 1 sc.periodUs * g) * g
  else ceilDiv (sampleOf s.tmb at_) (sampleTicks c (chain s c).halved * g) * g

/-- Whether the group that starts at a sample count is one a pending swap may take effect at (R114): it meets the time due, no position
has taken a sample of it, and, where a gap is still to be flagged, all that contributes to it follows the gap. -/
def swapReady (s : State) (c due first : Nat) : Bool :=
  let ch := chain s c
  first % 2 ^ ch.cfg.k == 0 && !serialNewer 64 due (sampleTime s c first).toNat
    && ch.positions.all (fun e => decide (e.2.next ≤ first)
      && (!bit e.2.owed 1 || primed ch e.1 { e.2 with since := e.2.since + 2 ^ ch.cfg.k }))

/-- BANK_SWAP_EFFECT (R114): at the first sample of a group the inactive bank becomes active and the block closes. -/
def execBankSwapEffect (swap : BankSwap) (s : State) : Out :=
  let chain_ := swap.chain
  let first := swap.first
  if !s.part.hasChain chain_ then .fault .absentResource
  else
    match (chain s chain_).swap with
    | none => .next s
    | some due =>
      if !swapReady s chain_ due first then .next s
      else
        let s := if isPrecision chain_ then s else advanceTo (first * sampleTicks chain_ (chain s chain_).halved) s
        let s := closeBlocks chain_ s
        let s := updChain chain_ (fun ch => { ch with active := !ch.active, swap := none }) s
        .next ((List.range (positionCount chain_)).foldl
          (fun s p => updPosition chain_ p (fun ps => { ps with owed := ps.owed ||| 256 }) s) s)

/-! ### Commands (R110 to R114) -/

/-- Whether a caller may name a chain (R110). -/
def mayChain (s : State) (c : Caller) (n : Nat) : Bool := c.pod == 0 || chainOwner s n == c.pod

/-- The settings of chain.configure (R111). -/
def parseChainCfg (req : Bytes) : ChainCfg where
  enables := BitVec.ofNat 3 (rd req 2 1)
  rankTaps := rd req 3 1
  rankSelect := rd req 4 1
  k := rd req 5 1
  average := rd req 6 1 == 1
  shift := rd req 7 1
  blockLog2 := rd req 8 1
  dest := match rd req 9 1 with | 1 => .ring | 2 => .trunk | _ => .none
  trunkSlot := rd req 10 2
  ringBase := rd req 16 8
  ringCtrl := rd req 24 8
  ringLog2 := rd req 32 1
  delay := ((List.range 8).map (fun p => (p, rd req (48 + 2 * p) 2))).filter (fun e => e.2 != 0)

/-- Whether the fields of chain.configure lie in range for a chain (R111, R113). The fields that R111 marks "used when" are checked
only in that use. -/
def chainCfgOk (part : Part) (c : Nat) (req : Bytes) : Bool :=
  let g := parseChainCfg req
  part.hasChain c && decide (rd req 2 1 < 8) && (!isLaneChain c || !bit (rd req 2 1) 2)
    && [3, 5, 7, 9].contains g.rankTaps && decide (1 ≤ g.rankSelect) && decide (g.rankSelect ≤ g.rankTaps)
    && decide (g.k ≤ 20) && decide (rd req 6 1 ≤ 1) && decide (g.shift ≤ 48) && decide (4 ≤ g.blockLog2)
    && decide (g.blockLog2 ≤ 12) && decide (rd req 9 1 ≤ 2)
    && (g.dest != .trunk || decide (g.trunkSlot < part.slots))
    && (g.dest != .ring || (g.ringBase % 4096 == 0 && g.ringCtrl % 64 == 0 && decide (16 ≤ g.ringLog2) && decide (g.ringLog2 ≤ 26)))
    && (List.range 8).all (fun p => decide (rd req (48 + 2 * p) 2 ≤ 4095))
    && (isPrecision c || (List.range 7).all (fun p => rd req (50 + 2 * p) 2 == 0))

/-- Input rate of a position in samples per second, as a fraction (numerator, denominator). DESIGN CHOICE (log 161): R107 does not say
which f_in its sum takes while the taps are halved; it is the rate in force at the command. -/
def inputRate (s : State) (c : Nat) : Nat × Nat :=
  if isLaneChain c then (if tapHalved s c then 62500000 else 125000000, 1)
  else if isChargeChain c then (50000000, 1)
  else (1000000, (converter s (c - 544)).scan.periodUs)

/-- The rate one position needs of a slot (R107), in bit/s scaled by 2^32 and rounded up:
8 (32 + 4 n) f_out / n, n = 2^block_log2, f_out = f_in / 2^k. -/
def slotRate (s : State) (c : Nat) (g : ChainCfg) : Nat :=
  let n := 2 ^ g.blockLog2
  ceilDiv (8 * (32 + 4 * n) * (inputRate s c).1 * 2 ^ 32) (n * 2 ^ g.k * (inputRate s c).2)

/-- The positions of a chain that send blocks. -/
def sendingPositions (s : State) (c : Nat) : Nat :=
  if isPrecision c then popcount 8 (converter s (c - 544)).scan.enables.toNat else 1

/-- Whether a slot can carry a chain's blocks beside those of the other chains mapped to it (R107). -/
def slotCarries (s : State) (c : Nat) (g : ChainCfg) : Bool :=
  let others := s.chains.filter (fun e => e.1 != c && e.2.cfg.dest == .trunk && e.2.cfg.trunkSlot == g.trunkSlot)
  let rate := sendingPositions s c * slotRate s c g + (others.map (fun e => sendingPositions s e.1 * slotRate s e.1 e.2.cfg)).sum
  let n := sendingPositions s c + (others.map (fun e => sendingPositions s e.1)).sum
  decide (rate ≤ 1536000000 * 2 ^ 32) && decide (n ≤ 16)

/-- chain.configure (R111 to R113). -/
def chainConfigureBody (c : Caller) (req : Bytes) (s : State) : State × Reply :=
  let n := rd req 0 2
  let g := parseChainCfg req
  if !s.part.hasChain n then answer St.badParam s
  else if !mayChain s c n then answer St.denied s
  else if !chainCfgOk s.part n req then answer St.badParam s
  else if g.dest = .trunk && !slotCarries s n g then answer St.rateExceeded s
  else if g.dest = .ring && (c.io.consumer.isNone || !hostOk s (chainOwner s n)) then answer St.dmaFault s
  else
    let cancelled := (chain s n).swap.isSome
    let start := c.io.consumer.getD 0
    let s := (positionsOf s n).foldl (fun s p => deliverReady n p none s) s
    let s := if g.dest = .ring then
        hostWrite (chainOwner s n) g.ringCtrl (leBytes 8 start) (count 0x0010 { pod := some (chainOwner s n) } 8 s)
      else s
    let s := restartChain n s
    let s := updChain n (fun ch => { ch with cfg := g, ring := if g.dest = .ring then ⟨start, start⟩ else ch.ring }) s
    (s, .done St.ok (leBytes 2 St.ok.toNat ++ zeros 2 ++ leBytes 4 (groupDelay (chain s n) 0)
      ++ leBytes 1 (if cancelled then 1 else 0) ++ zeros 7))

def execChainConfigure (c : Caller) (req : Bytes) (s : State) : Out :=
  .next (runCmd ⟨0x0201, shaped req 64 [(12, 4), (33, 15)], false, [.chain (rd req 0 2)]⟩ c req
    (chainConfigureBody c req) s)

/-- The centroid of a bank in 1/1024 sample, or none (R99). DESIGN CHOICE (log 162): that it lies outside 0 to T - 1 is tested on the
quotient before its rounding. -/
def centroid (h : List Int) : Option Nat :=
  let sum := h.sum
  let mag := (h.map Int.natAbs).sum
  let mom := ((List.range h.length).map (fun (n : Nat) => (n : Int) * h.getD n 0)).sum
  if sum.natAbs * 256 < mag || sum = 0 then none
  else
    let num := if sum > 0 then mom else -mom
    let g := roundDiv (num * 1024) sum.natAbs
    if num < 0 || num > ((h.length - 1 : Nat) : Int) * sum.natAbs then none else some g.toNat

/-- chain.loadbank (R99, R114). -/
def chainLoadbankBody (c : Caller) (req : Bytes) (s : State) : State × Reply :=
  let n := rd req 0 2
  let bank := rd req 2 1
  let t := rd req 3 1
  let raw := (List.range t).map (fun i => rd req (16 + 4 * i) 4)
  let h := raw.map (toSigned 24)
  if !s.part.hasChain n then answer St.badParam s
  else if !mayChain s c n then answer St.denied s
  else if bank > 1 || t < 1 || t > 128 || rd req 4 1 > 1 || !raw.all (fun v => bits v 24 8 == (if bit v 23 then 255 else 0))
      || rd req 8 4 > (t - 1) * 1024 then answer St.badParam s
  else if (chain s n).active = (bank == 1) || (chain s n).swap.isSome then answer St.bankActive s
  else
    match (if rd req 4 1 = 1 then some (rd req 8 4) else centroid h) with
    | none => answer St.gdUndefined s
    | some g =>
      let b : Bank := { h := h, g3 := g }
      (updChain n (fun ch => if bank = 1 then { ch with bank1 := b } else { ch with bank0 := b }) s,
        .done St.ok (leBytes 2 St.ok.toNat ++ zeros 2 ++ leBytes 4 g))

def execChainLoadbank (c : Caller) (req : Bytes) (s : State) : Out :=
  .next (runCmd ⟨0x0202, shaped req (16 + 4 * rd req 3 1) [(5, 3), (12, 4)], false, [.chain (rd req 0 2)]⟩ c req
    (chainLoadbankBody c req) s)

/-- The time from which a swap is due: at_time, or the present for 0 or a time that is not ahead. -/
def swapTime (s : State) (at_ : Nat) : Nat :=
  if at_ != 0 && serialNewer 64 at_ (tmbNow s).toNat then at_ else (tmbNow s).toNat

/-- The latest effective time of a swap on a chain: that of the first sample of the first group at or after a time. -/
def swapBoundary (s : State) (c at_ : Nat) : Nat := (sampleTime s c (groupFrom s c at_)).toNat

/-- chain.swap (R114): atomic over the range. -/
def chainSwapBody (c : Caller) (req : Bytes) (s : State) : State × Reply :=
  let first := rd req 0 2
  let n := rd req 2 2
  let at_ := rd req 8 8
  let cs := (List.range n).map (· + first)
  if n < 1 || n > 552 || !cs.all s.part.hasChain then answer St.badParam s
  else if !cs.all (mayChain s c) then answer St.denied s
  else if at_ != 0 && serialNewer 64 at_ ((tmbNow s).toNat + 10 * 2 ^ 32) then answer St.badParam s
  else if cs.any (fun i => (chain s i).swap.isSome) then answer St.bankActive s
  else
    let t := swapTime s at_
    let last := (cs.map (fun i => swapBoundary s i t)).foldl max 0
    (cs.foldl (fun s i => updChain i (fun ch => { ch with swap := some t }) s) s,
      .done St.pending (statusResp St.pending ++ leBytes 8 last))

def execChainSwap (c : Caller) (req : Bytes) (s : State) : Out :=
  .next (runCmd ⟨0x0203, shaped req 16 [(4, 4)], false,
    (List.range (min 552 (rd req 2 2))).map (fun i => Resource.chain (rd req 0 2 + i))⟩ c req (chainSwapBody c req) s)

/-- chain.threshold (R97, R114): the comparator keeps its state; a change of its settings restarts a run and is
reported on the next output. -/
def chainThresholdBody (c : Caller) (req : Bytes) (s : State) : State × Reply :=
  let n := rd req 0 2
  let p := rd req 2 1
  let i := rd req 3 1
  let mode := rd req 4 1
  if !s.part.hasChain n then answer St.badParam s
  else if !mayChain s c n then answer St.denied s
  else if p ≥ positionCount n || i > 1 || mode > 2 || rd req 5 1 < 1 || rd req 12 4 ≥ 2 ^ 31 then answer St.badParam s
  else
    let ps := position (chain s n) p
    let x := comparator ps i
    let y := { x with mode := mode, q := rd req 5 1, level := rdInt req 8 4, hyst := rd req 12 4, run := 0,
                        report := x.report || x.q != rd req 5 1 || x.level != rdInt req 8 4 || x.hyst != rd req 12 4 }
    if mode = 0 && x.active then
      answer St.ok (comparatorEvent n p i false 2 ps.latest ps.latestAt ps.latestQuality
        (setComparator n p i { y with active := false } s))
    else answer St.ok (setComparator n p i y s)

def execChainThreshold (c : Caller) (req : Bytes) (s : State) : Out :=
  .next (runCmd ⟨0x0204, shaped req 16 [(6, 2)], false, [.chain (rd req 0 2)]⟩ c req (chainThresholdBody c req) s)

end Sys2Proof.Machine
end

