-- ==== Sys2Proof/Machine/Sensing.lean ====
section
/-! DEFINITION. The grid sensing front end (14): scans, charge inputs, sensor faults, partial-discharge localisation
and the I2C ports. -/

namespace Sys2Proof.Machine

def charge (s : State) (i : Nat) : Charge := tget {} s.sns.charges i

def pdGroup (s : State) (g : Nat) : PdGroup := tget {} s.sns.groups g

def setPdGroup (g : Nat) (x : PdGroup) (s : State) : State := { s with sns.groups := tset s.sns.groups g x }

def i2cPort (s : State) (i : Nat) : I2cPort := tget {} s.sns.i2c i

def setI2cPort (i : Nat) (x : I2cPort) (s : State) : State := { s with sns.i2c := tset s.sns.i2c i x }

/-- A journaled write joins those not yet committed (R493, R494): a nonce ceiling raise goes ahead of every write that
has not begun, the front one having begun. -/
def journalWrite (w : JWrite) (s : State) : State :=
  let isRaise := fun (w : JWrite) => match w.target with | .ceiling _ _ => true | _ => false
  let place := fun (l : List JWrite) =>
    if isRaise w then l.takeWhile isRaise ++ w :: l.dropWhile isRaise else l ++ [w]
  { s with mram.journal := match s.mram.journal with | [] => [w] | f :: rest => f :: place rest }

/-! ### Scanning (R384, R412) -/

/-- The time of frame m of a period in us (R384). -/
def scanTime (periodUs m : Nat) : Nat := ceilDiv (m * periodUs * 2 ^ 32) 1000000

/-- The first frame of a period that starts at or after a time. -/
def scanFrameAfter (periodUs time : Nat) : Nat := ceilDiv (time * 1000000) (periodUs * 2 ^ 32)

/-- The block in progress of an input's position carries INPUT_FAULT (R105): a flag was set during it. -/
def markFault (n : Nat) (s : State) : State :=
  updPosition (chainOfInput n).1 (chainOfInput n).2
    (fun ps => { ps with block := ps.block.map (fun b => { b with flags := b.flags ||| 512 }) }) s

/-- A flag event of a sensor input (R393, R550): kind 1 clamp, 2 common mode, 3 compliance. -/
def flagEvent (n kind : Nat) (entry : Bool) (s : State) : State :=
  raiseSense (40 + n) (if entry then kind else kind + 3) n 0 (if entry then markFault n s else s)

/-- The compliance flag of a temperature input after a pulse (R392). -/
def noteCompliance (n : Nat) (compliant : Bool) (s : State) : State :=
  let had := (input s n).compliance
  let s := updInput n (fun i => { i with compliance := !compliant }) s
  let s := if compliant || s.sns.complianceSeen.contains n then s
           else { s with sns.complianceSeen := s.sns.complianceSeen ++ [n] }
  if had = !compliant then s else flagEvent n 3 (!compliant) s

/-- SCAN_FRAME_START (R384): the next frame of a converter starts, under the scan that waits for it when there is one
(R412); each pulse of an enabled temperature position settles its compliance flag (R392). -/
def execScanFrameStart (conv : Nat) (codes : List ScanCode) (s : State) : Out :=
  if conv ≥ 8 then .fault .absentResource
  else if !converterRuns s (544 + conv) then .next s
  else
    let cv := converter s conv
    match cv.next with
    | some (sc, m) =>
      let s := advanceTo (sampleOf s.tmb (scanTime sc.periodUs m)) s
      let s := restartChain (544 + conv) s
      let s := updConverter conv (fun x => { x with scan := sc, next := none, frame := m }) s
      .next (scanCodes sc s)
    | none =>
      if cv.scan.enables = 0 then .next s
      else
        let m := max (cv.frame + 1) (scanFrameAfter cv.scan.periodUs (tmbNow s).toNat)
        let s := advanceTo (sampleOf s.tmb (scanTime cv.scan.periodUs m)) s
        .next (scanCodes cv.scan (updConverter conv (fun x => { x with frame := m }) s))
where
  /-- the compliance outcomes of a frame's pulses -/
  scanCodes (sc : Scan) (s : State) : State :=
    codes.foldl (fun s k =>
      if k.input < 32 && k.input / 4 = conv && bit sc.enables.toNat (k.input % 4) then noteCompliance k.input k.compliant s
      else s) s

/-- CHARGE_RESET (R389): in switched-reset mode the switch closes for 400 ns, and the 30 samples of 600 ns are a gap. -/
def execChargeReset (input : Nat) (code : Int) (s : State) : Out :=
  if input ≥ 32 then .fault .absentResource
  else
    let x := charge s input
    if x.mode != 3 || code.natAbs < 1792 || !converterRuns s (512 + input) then .next s
    else
      .next (chainGap (512 + input) 30
        { s with sns.charges := tset s.sns.charges input { x with switchUntil := s.now + 200 } })

/-- CLAMP_FLAG_CHANGE (R390, R393). -/
def execClampFlagChange (input_ : Nat) (present : Bool) (s : State) : Out :=
  if input_ ≥ 96 then .fault .absentResource
  else if s.pwr.phase != .running || (input s input_).clamp == present then .next s
  else
    let s := updInput input_ (fun i => { i with clamp := present }) s
    let s := if present && !s.sns.clampSeen.contains input_ then { s with sns.clampSeen := s.sns.clampSeen ++ [input_] } else s
    .next (flagEvent input_ 1 present s)

/-- The common-mode window of an input, when its check is enabled (R391): cm_q, cm_lo, cm_hi. -/
def cmWindow (s : State) (n : Nat) : Option (Nat × Int × Int) :=
  if 32 ≤ n && n < 64 then
    let x := charge s (n - 32)
    if x.cmCheck then some (x.cmQ, x.cmLo, x.cmHi) else none
  else
    let cp := chainOfInput n
    let sc := (converter s (cp.1 - 544)).scan
    let x := tget {} sc.positions cp.2
    if bit sc.enables.toNat cp.2 && bit x.flags.toNat 1 then some (x.cmQ, x.cmLo, x.cmHi) else none

/-- COMMON_MODE_FLAG_CHANGE (R391): one check; the flag changes after cm_q consecutive checks against it. -/
def execCommonModeFlagChange (input_ : Nat) (cmMv : Int) (s : State) : Out :=
  if input_ ≥ 96 then .fault .absentResource
  else if s.pwr.phase != .running then .next s
  else
    match cmWindow s input_ with
    | none => .next s
    | some (q, lo, hi) =>
      let outside := decide (cmMv < lo) || decide (cmMv > hi)
      let i := input s input_
      if outside = i.commonMode then .next (updInput input_ (fun i => { i with cmRun := 0 }) s)
      else if i.cmRun + 1 < q then .next (updInput input_ (fun i => { i with cmRun := i.cmRun + 1 }) s)
      else
        let s := updInput input_ (fun i => { i with commonMode := outside, cmRun := 0 }) s
        let s := if outside && !s.sns.cmSeen.contains input_ then { s with sns.cmSeen := s.sns.cmSeen ++ [input_] } else s
        .next (flagEvent input_ 2 outside s)

/-- DIE_TEMP_UPDATE (R395), in 1/16 degree. -/
def execDieTempUpdate (sensing max min : Int) (s : State) : Out :=
  .next (if s.pwr.phase != .running then s
    else { s with pwr.tjSensing := BitVec.ofInt 16 sensing, pwr.tjMax := BitVec.ofInt 16 max, pwr.tjMin := BitVec.ofInt 16 min,
                  pwr.tjValid := true })

/-! ### Partial discharge (R399 to R403) -/

/-- The spacing of a source chain's outputs in ps. -/
def outputPs (s : State) (c : Nat) : Nat := 2000 * sampleTicks c (chain s c).halved * 2 ^ (chain s c).cfg.k

/-- Picoseconds in 2^-32 s, rounded to the LSB. -/
def psTime (ps : Int) : Int := roundDiv (ps * 2 ^ 32) 1000000000000

/-- The last index at or before i whose adjusted value lies below P / 2 (R400). -/
def lastBelow (a : List Int) (p : Int) : Nat → Option Nat
  | 0 => if 2 * a.getD 0 0 < p then some 0 else none
  | i + 1 => if 2 * a.getD (i + 1) 0 < p then some (i + 1) else lastBelow a p i

/-- The index of the first largest value of a list. -/
def argMax (a : List Int) : Nat := a.findIdx (fun x => a.all (fun y => decide (y ≤ x)))

/-- A pulse of a source from its window and the 8 outputs before it (R400): last is the corrected time of the window's
last output. -/
def pdPulseOf (src : PdSource) (index : Nat) (psPer : Nat) (last : Word) (q : Nat) (tx : Bool) (pulse : PdPulse) : Pulse :=
  let neg := src.polarity = 1 || (src.polarity = 2 && decide ((pulse.window.head?).getD 0 < 0))
  let adj := fun (l : List Int) => if neg then l.map (fun y => -y) else l
  let w := adj pulse.window
  let all := adj pulse.pre ++ w
  let peakAt := pulse.pre.length + argMax w
  let p := all.getD peakAt 0
  let timePs := fun (i : Nat) => -(((all.length - 1 - i : Nat) : Int) * psPer)
  let hit := lastBelow all p peakAt
  let rel : Int := match hit with
    | none => psTime (timePs 0 - src.delayPs)
    | some i =>
      let a := all.getD i 0
      let b := all.getD (i + 1) 0
      roundDiv (((timePs i - src.delayPs) * (2 * (b - a)) + (p - 2 * a) * psPer) * 2 ^ 32)
        ((2 * (b - a)).toNat * 1000000000000)
  { source := index, arrival := BitVec.ofInt 64 (last.toNat + rel), peak := p.toNat, charge := w.sum,
    early := hit.isNone, txActive := tx, saturated := pulse.window.any (fun y => decide (y ≥ 2 ^ 31 - 1) || decide (y ≤ -(2 ^ 31))),
    quality := q }

/-- PD_PULSE_WINDOW_END (R400): 32 outputs after a trigger, the pulse goes to its group. -/
def execPdPulseWindowEnd (group source : Nat) (pulse : PdPulse) (s : State) : Out :=
  if group ≥ 16 then .fault .absentResource
  else
    let g := pdGroup s group
    match g.sources[source]? with
    | none => .next s
    | some src =>
      let c := src.chain
      let ps := position (chain s c) 0
      let per := outputPs s c
      let y0 := (pulse.window.head?).getD 0
      let trig := if src.polarity = 0 then y0 else if src.polarity = 1 then -y0 else (y0.natAbs : Int)
      let start : Word := ps.latestAt - BitVec.ofInt 64 (psTime (31 * per))
      let span := 32 * 2 ^ (chain s c).cfg.k
      let whole := decide (ps.since ≥ contrib (chain s c) 0 + span) && decide (ps.sinceRate ≥ span)
      let tx := txDuring s c (s.now - 32 * per / 2000) s.now
      let dead := match g.deadUntil.find? (fun e => e.1 == source) with
        | some e => serialNewer 64 e.2.toNat start.toNat
        | none => false
      if !g.enable || pulse.window.length != 32 || decide (trig < src.level) || dead then .next s
      else
        let g := { g with deadUntil := tset g.deadUntil source (ps.latestAt + BitVec.ofInt 64 (psTime (g.deadNs * 1000))) }
        if !whole || (tx && g.ignoreTx) then .next (setPdGroup group g s)
        else .next (setPdGroup group { g with pulses := g.pulses ++ [pdPulseOf src source per ps.latestAt (quality s) tx pulse] } s)

/-- A pulse list in rising order of arrival. -/
def insPulse (x : Pulse) : List Pulse → List Pulse
  | [] => [x]
  | y :: ys => if serialNewer 64 y.arrival.toNat x.arrival.toNat then x :: y :: ys else y :: insPulse x ys

def sortPulses (l : List Pulse) : List Pulse := l.foldl (fun a x => insPulse x a) []

/-- The earliest pulse of each source of a rising list, and whether a source has more (R401). -/
def firstOfEach (l : List Pulse) : List Pulse × Bool :=
  let es := l.foldl (fun (a : List Pulse) p => if a.any (fun q => q.source == p.source) then a else a ++ [p]) []
  (es, decide (es.length < l.length))

/-- The cluster at the front of a group's pulses (R401): the pulses within W of the earliest, and the rest. -/
def splitCluster (g : PdGroup) : List Pulse × List Pulse :=
  match sortPulses g.pulses with
  | [] => ([], [])
  | x :: xs =>
    let w := (psTime (g.windowNs * 1000)).toNat
    (x :: xs.filter (fun y => decide ((y.arrival - x.arrival).toNat ≤ w)),
     xs.filter (fun y => !decide ((y.arrival - x.arrival).toNat ≤ w)))

/-- The location of a record (R402): valid, outside, and x in mm. -/
def locate (g : PdGroup) (es : List Pulse) : Bool × Bool × Int :=
  let posOf := fun (p : Pulse) => (g.sources[p.source]?.map (·.positionMm)).getD 0
  let a := es.foldl (fun (b : Option Pulse) p => match b with
    | none => some p | some q => if posOf p < posOf q then some p else b) none
  let b := es.foldl (fun (b : Option Pulse) p => match b with
    | none => some p | some q => if posOf p > posOf q then some p else b) none
  match a, b with
  | some a, some b =>
    if posOf a = posOf b then (false, false, 0)
    else
      let dt := toSigned 64 (b.arrival - a.arrival).toNat
      let x := roundDiv ((posOf a + posOf b) * 2 ^ 32 - g.velocity * dt * 1000000) (2 ^ 33)
      if x < posOf a then (true, true, posOf a) else if x > posOf b then (true, true, posOf b) else (true, false, x)
  | _, _ => (false, false, 0)

/-- The bytes of a record (R403). -/
def pdRecord (group : Nat) (g : PdGroup) (es : List Pulse) (extra : Bool) : Bytes :=
  let first := (es.head?).map (fun p => (p.arrival.toNat, p.source)) |>.getD (0, 0)
  match locate g es with
  | (valid, outside, x) =>
    leBytes 8 first.1 ++ leBytes 1 group ++ leBytes 1 es.length ++ leBytes 1 first.2
      ++ leBytes 1 ((if valid then 1 else 0) + (if outside then 2 else 0) + (if extra then 4 else 0))
      ++ leBytes 4 (ofInt 32 x) ++ leBytes 4 g.sequence.toNat ++ leBytes 2 g.discarded.toNat
      ++ leBytes 1 ((es.map (·.quality)).foldl min 3) ++ zeros 9
      ++ (es.map (fun p => leBytes 1 p.source
            ++ leBytes 1 ((if p.early then 1 else 0) + (if p.txActive then 2 else 0) + (if p.saturated then 4 else 0))
            ++ zeros 2 ++ leBytes 4 p.peak ++ leBytes 8 p.arrival.toNat ++ leBytes 8 (ofInt 64 p.charge))).flatten

/-- PD_CLUSTER_CLOSE (R401): at t_first + W + 100 us the cluster is issued as a record or discarded. -/
def execPdClusterClose (group : Nat) (consumer : Option Nat) (s : State) : Out :=
  if group ≥ 16 then .fault .absentResource
  else
    let g := pdGroup s group
    match splitCluster g with
    | ([], _) => .next s
    | (x :: xs, rest) =>
      let due := x.arrival.toNat + (psTime (g.windowNs * 1000)).toNat + usTime 100
      let s := advanceTo (sampleOf s.tmb due) s
      match firstOfEach (x :: xs) with
      | (es, extra) =>
        if es.length < g.minSources then
          .next (setPdGroup group { g with pulses := rest, discarded := satAdd g.discarded 1 } s)
        else
          let fn := tget 0 s.own.groups group
          match ringWrite { fn := fn, base := g.ringBase, ctrl := g.ringCtrl, log2 := g.ringLog2 } g.ring.prod g.ring.cons
              (pad64 (pdRecord group g es extra)) consumer s with
          | (s, prod, cons, ok) =>
            let s := setPdGroup group { g with pulses := rest, discarded := 0, sequence := g.sequence + 1, ring := ⟨prod, cons⟩ } s
            let s := if ok then s else count 0x000F { pod := some fn } 1 s
            .next (raiseSense (136 + group) 1 g.sequence.toNat x.arrival.toNat s)

/-- The clusters open among a group's pulses, for a group whose pulses are discarded (R423). -/
def openClusters : Nat → PdGroup → Nat
  | 0, _ => 0
  | n + 1, g => match splitCluster g with
    | ([], _) => 0
    | (_ :: _, rest) => 1 + openClusters n { g with pulses := rest }

/-! ### I2C (R404 to R407) -/

/-- The response of i2c.transfer (R413). -/
def i2cResp (st : Status) (result losses acked : Nat) (data : Bytes) : Bytes :=
  leBytes 2 st.toNat ++ leBytes 1 result ++ leBytes 1 losses ++ leBytes 2 acked ++ zeros 2 ++ data

/-- A transfer ends: results 3 to 5 raise the port's event (R409), and i2c.transfer completes with ST_OK. -/
def endI2c (i result acked : Nat) (data : Bytes) (s : State) : State :=
  match (i2cPort s i).current with
  | none => s
  | some j =>
    let s := setI2cPort i { i2cPort s i with current := none, started := false } s
    let s := if result ≥ 3 then raiseSense (152 + i) result 0 0 s else s
    complete j.caller St.ok (i2cResp St.ok result j.losses acked (data.take j.readLen)) s

/-- I2C_TRANSFER_START (R405): the bus is free. -/
def execI2cTransferStart (port : Nat) (s : State) : Out :=
  if port ≥ 2 then .fault .absentResource
  else
    let p := i2cPort s port
    match p.current with
    | none => .next s
    | some j => if p.started then .next s
                else .next (emit (.i2c port p.speed.toNat j.address j.written j.readLen) (setI2cPort port { p with started := true } s))

/-- I2C_ARBITRATION_LOSS (R406). -/
def execI2cArbitrationLoss (port : Nat) (s : State) : Out :=
  if port ≥ 2 then .fault .absentResource
  else
    let p := i2cPort s port
    match p.current with
    | none => .next s
    | some j =>
      if !p.started then .next s
      else
        let s := setI2cPort port { p with current := some { j with losses := j.losses + 1, queuedAt := s.now }, started := false } s
        .next (if j.losses + 1 > j.retryLimit then endI2c port 3 0 [] s else s)

/-- I2C_SCL_TIMEOUT (R407): SCL has stayed low for 25 ms in the transfer; or SDA is held low while the bus should be free,
which the device answers once with 9 clock pulses and a STOP, and the second time by ending the transfer. -/
def execI2cSclTimeout (held : BusHeld) (s : State) : Out :=
  let port := held.port
  if port ≥ 2 then .fault .absentResource
  else
    let p := i2cPort s port
    match p.current with
    | none => .next s
    | some j =>
      if p.started = held.sda then .next s
      else if held.sda && !j.recovered then
        .next (emit (.i2cRecover port) (setI2cPort port { p with current := some { j with recovered := true } } s))
      else .next (endI2c port 4 0 [] s)

/-- I2C_BUS_NOT_FREE_TIMEOUT (R405). -/
def execI2cBusNotFreeTimeout (port : Nat) (s : State) : Out :=
  if port ≥ 2 then .fault .absentResource
  else
    match (i2cPort s port).current with
    | none => .next s
    | some j => if (i2cPort s port).started then .next s
                else .next (endI2c port 5 0 [] (advanceTo (j.queuedAt + ms j.timeoutMs) s))

/-- I2C_TRANSFER_END (R405): the transfer ran to its STOP with result 0, 1 or 2. -/
def execI2cTransferEnd (port result ackedBytes : Nat) (data : Bytes) (s : State) : Out :=
  if port ≥ 2 then .fault .absentResource
  else .next (if (i2cPort s port).started && decide (result ≤ 2) then
      endI2c port result ackedBytes (if result = 0 then data else []) s else s)

/-! ### Commands (R410 to R413) -/

/-- Whether a caller may name a resource of an owner (R408). -/
def mayName (c : Caller) (owner : Nat) : Bool := c.pod == 0 || owner == c.pod

/-- A scan request (R411). -/
def parseScan (req : Bytes) : Scan where
  enables := BitVec.ofNat 8 (rd req 1 1)
  periodUs := rd req 4 4
  positions := (List.range 8).map (fun p => (p,
    { settleUs := rd req (8 + 16 * p) 2, conv := rd req (10 + 16 * p) 1, flags := BitVec.ofNat 2 (rd req (11 + 16 * p) 1),
      excitation := rd req (12 + 16 * p) 1, cmQ := rd req (13 + 16 * p) 1, cmLo := rdInt req (14 + 16 * p) 2,
      cmHi := rdInt req (16 + 16 * p) 2 }))

/-- The enabled positions of a scan. -/
def enabledPositions (sc : Scan) : List Nat := bitPositions 8 sc.enables.toNat

/-- Whether the enabled positions' fields lie in range (R411); those of a disabled position are not looked at (DESIGN CHOICE, log 171). -/
def scanInRange (req : Bytes) (sc : Scan) : Bool :=
  decide (10 ≤ sc.periodUs) && decide (sc.periodUs ≤ 1000000)
    && (enabledPositions sc).all (fun p =>
      let x := tget {} sc.positions p
      decide (1 ≤ x.settleUs) && decide (x.settleUs ≤ 10000) && decide (x.conv ≤ 5) && decide (rd req (11 + 16 * p) 1 < 4)
        && (p < 4 || !bit x.flags.toNat 0) && (decide (p ≥ 4) || (decide (1 ≤ x.excitation) && decide (x.excitation ≤ 50)))
        && decide (1 ≤ x.cmQ) && decide (-2000 ≤ x.cmLo) && decide (x.cmLo ≤ x.cmHi) && decide (x.cmHi ≤ 2000))

/-- ST_SCAN_INVALID of R410. -/
def scanInvalid (sc : Scan) : Bool :=
  let slots := ((enabledPositions sc).map (fun p => slotUs p (tget {} sc.positions p))).sum
  decide (slots > sc.periodUs)
    || (enabledPositions sc).any (fun p =>
      let x := tget {} sc.positions p
      let pulse := x.settleUs + convUs x.conv
      if p < 4 then decide (pulse < 5) || decide (pulse > 10000) else x.excitation != 0)

/-- Whether a voltage input is the mains source of a port, in force or awaiting its boundary (R157). -/
def isMainsSource (s : State) (j : Nat) : Bool :=
  s.ports.any (fun e => e.2.mains.source == some j || e.2.mains.nextSource == some (some j))

/-- Whether a scan would stop a mains source of a converter, or scan it below 4 kS/s (R410). -/
def scanBreaksMains (s : State) (conv : Nat) (sc : Scan) : Bool :=
  (List.range 4).any (fun v => isMainsSource s (4 * conv + v)
    && (!bit sc.enables.toNat (4 + v) || decide (sc.periodUs > 250)))

/-- sense.configure (R410 to R412). -/
def senseConfigureBody (c : Caller) (req : Bytes) (s : State) : State × Reply :=
  let j := rd req 0 1
  let sc := parseScan req
  if j > 7 then answer St.badParam s
  else if !mayName c (tget 0 s.own.converters j) then answer St.denied s
  else if !scanInRange req sc then answer St.badParam s
  else if scanBreaksMains s j sc then answer St.sourceInUse s
  else if scanInvalid sc then answer St.scanInvalid s
  else
    let m := scanFrameAfter sc.periodUs ((tmbNow s).toNat + usTime 20)
    answer St.ok (updConverter j (fun x => { x with next := some (sc, m) }) s)

def execSenseConfigure (c : Caller) (req : Bytes) (s : State) : Out :=
  .next (runCmd ⟨0x0C01, shaped req 136 ((2, 2) :: (List.range 8).map (fun p => (18 + 16 * p, 6))), false,
    [.converter (rd req 0 1), .chain (544 + rd req 0 1)]⟩ c req (senseConfigureBody c req) s)

/-- sense.charge (R388, R413). -/
def senseChargeBody (c : Caller) (req : Bytes) (s : State) : State × Reply :=
  let i := rd req 0 1
  let lo := rdInt req 6 2
  let hi := rdInt req 8 2
  if i > 31 then answer St.badParam s
  else if !mayName c (tget 0 s.own.charges i) then answer St.denied s
  else if rd req 1 1 > 3 || rd req 2 1 > 3 || rd req 3 1 > 1
      || (rd req 3 1 == 1 && (rd req 4 1 < 1 || lo < -2000 || hi > 2000 || hi < lo)) then answer St.badParam s
  else
    let x : Charge := { cap := BitVec.ofNat 2 (rd req 1 1), mode := BitVec.ofNat 2 (rd req 2 1), cmCheck := bit (rd req 3 1) 0,
                        cmQ := rd req 4 1, cmLo := lo, cmHi := hi, switchUntil := (charge s i).switchUntil }
    answer St.ok (restartChain (512 + i) { s with sns.charges := tset s.sns.charges i x })

def execSenseCharge (c : Caller) (req : Bytes) (s : State) : Out :=
  .next (runCmd ⟨0x0C02, shaped req 16 [(5, 1), (10, 6)], false, [.chain (512 + rd req 0 1)]⟩ c req (senseChargeBody c req) s)

/-- Whether a temperature source of an input is one R397 allows. -/
def linSourceOk (s : State) (n src srcInput : Nat) : Bool :=
  decide (src ≤ 2) && (src != 2 ||
    ((decide (srcInput < 32) || (decide (64 ≤ srcInput) && decide (srcInput < 96)))
      && bit (chain s (chainOfInput srcInput).1).cfg.enables.toNat 2
      && (input s srcInput).lin.source != 2 && inputOwner s srcInput == inputOwner s n))

/-- sense.lincoef (R396 to R398, R413): completes when its journaled write has committed. -/
def senseLincoefBody (c : Caller) (req : Bytes) (s : State) : State × Reply :=
  let n := rd req 0 1
  let coef := (List.range 24).map (fun i => BitVec.ofNat 32 (rd req (8 + 4 * i) 4))
  if n > 95 then answer St.badParam s
  else if !mayName c (inputOwner s n) then answer St.denied s
  else if coef.any (fun b => bits b.toNat 23 8 == 255) || !linSourceOk s n (rd req 1 1) (rd req 2 1) then answer St.badParam s
  else
    let l : LinCoef := { coef := coef, source := rd req 1 1, sourceInput := rd req 2 1, sound := true }
    (journalWrite { target := .lin n l, caller := some c, status := St.ok, resp := statusResp St.ok } s, .held)

def execSenseLincoef (c : Caller) (req : Bytes) (s : State) : Out :=
  .next (runCmd ⟨0x0C03, shaped req 104 [(3, 5)], false, [.chain (chainOfInput (rd req 0 1)).1]⟩ c req
    (senseLincoefBody c req) s)

/-- The group a pd.configure request describes (R413). -/
def parsePd (req : Bytes) : PdGroup where
  enable := bit (rd req 1 1) 0
  ignoreTx := bit (rd req 1 1) 1
  minSources := rd req 3 1
  windowNs := rd req 4 4
  velocity := rd req 8 4
  deadNs := rd req 12 4
  ringBase := rd req 16 8
  ringCtrl := rd req 24 8
  ringLog2 := rd req 32 1
  sources := (List.range (rd req 2 1)).map (fun i =>
    { chain := rd req (48 + 16 * i) 2, polarity := rd req (50 + 16 * i) 1, level := rd req (52 + 16 * i) 4,
      positionMm := rdInt req (56 + 16 * i) 4, delayPs := rdInt req (60 + 16 * i) 4 })

/-- Whether the fields of an enabling pd.configure lie in range (R399, R401, R402, R413). -/
def pdInRange (part : Part) (g : PdGroup) : Bool :=
  decide (1 ≤ g.sources.length) && decide (g.sources.length ≤ 16) && decide (1 ≤ g.minSources)
    && decide (g.minSources ≤ g.sources.length) && decide (100 ≤ g.windowNs) && decide (g.windowNs ≤ 100000)
    && decide (50000 ≤ g.velocity) && decide (g.velocity ≤ 300000) && decide (g.deadNs ≤ 1000000)
    && g.ringBase % 4096 == 0 && g.ringCtrl % 64 == 0 && decide (16 ≤ g.ringLog2) && decide (g.ringLog2 ≤ 26)
    && g.sources.all (fun x => decide (x.chain < 544) && part.hasChain x.chain && decide (x.polarity ≤ 2)
      && decide (1 ≤ x.level) && decide (x.level < 2 ^ 31))

/-- pd.configure (R413). The fields of a request that disables the group are not looked at (DESIGN CHOICE, log 171). -/
def pdConfigureBody (c : Caller) (req : Bytes) (s : State) : State × Reply :=
  let n := rd req 0 1
  let g := parsePd req
  if n > 15 || rd req 1 1 > 3 then answer St.badParam s
  else if !mayName c (tget 0 s.own.groups n) then answer St.denied s
  else if !g.enable then answer St.ok (setPdGroup n {} s)
  else if !pdInRange s.part g then answer St.badParam s
  else if g.sources.any (fun x => chainOwner s x.chain != tget 0 s.own.groups n) then answer St.denied s
  else if s.sns.groups.any (fun e => e.1 != n && e.2.enable && e.2.sources.any (fun x => g.sources.any (fun y => y.chain == x.chain))) then
    answer St.pdSourceTaken s
  else if c.io.consumer.isNone || !hostOk s (tget 0 s.own.groups n) then answer St.dmaFault s
  else
    let start := c.io.consumer.getD 0
    let fn := tget 0 s.own.groups n
    let s := hostWrite fn g.ringCtrl (leBytes 8 start) (count 0x0010 { pod := some fn } 8 s)
    answer St.ok (setPdGroup n { g with ring := ⟨start, start⟩ } s)

def execPdConfigure (c : Caller) (req : Bytes) (s : State) : Out :=
  .next (runCmd ⟨0x0C04, shaped req 304 ((33, 15) :: (List.range 16).map (fun i => (51 + 16 * i, 1))), false,
    [.group (rd req 0 1)]⟩ c req (pdConfigureBody c req) s)

/-- i2c.configure (R413). -/
def i2cConfigureBody (c : Caller) (req : Bytes) (s : State) : State × Reply :=
  let i := rd req 0 1
  if i > 1 then answer St.badParam s
  else if !mayName c (tget 0 s.own.i2c i) then answer St.denied s
  else if rd req 1 1 > 2 then answer St.badParam s
  else answer St.ok (setI2cPort i { i2cPort s i with speed := BitVec.ofNat 2 (rd req 1 1) } s)

def execI2cConfigure (c : Caller) (req : Bytes) (s : State) : Out :=
  .next (runCmd ⟨0x0C05, shaped req 8 [(2, 6)], false, [.i2c (rd req 0 1)]⟩ c req (i2cConfigureBody c req) s)

/-- i2c.transfer (R405, R413): held until the transfer ends. -/
def i2cTransferBody (c : Caller) (req : Bytes) (s : State) : State × Reply :=
  let i := rd req 0 1
  let wl := rd req 2 1
  if i > 1 then answer St.badParam s
  else if !mayName c (tget 0 s.own.i2c i) then answer St.denied s
  else if rd req 1 1 > 127 || wl > 64 || rd req 3 1 > 15 || rd req 4 2 > 256 || rd req 6 2 < 1 || rd req 6 2 > 1000
      || (wl = 0 && rd req 4 2 = 0) then answer St.badParam s
  else if (i2cPort s i).current.isSome then (s, .wait)
  else
    let j : I2cJob := { caller := c, address := rd req 1 1, written := slice req 8 wl, retryLimit := rd req 3 1,
                        readLen := rd req 4 2, timeoutMs := rd req 6 2, queuedAt := s.now, losses := 0 }
    (setI2cPort i { i2cPort s i with current := some j, started := false } s, .held)

def execI2cTransfer (c : Caller) (req : Bytes) (s : State) : Out :=
  .next (runCmd ⟨0x0C06, shaped req 72 [], false, [.i2c (rd req 0 1)]⟩ c req (i2cTransferBody c req) s)

/-- A chain in the configuration of R115, at the tap rate in force. -/
def resetChain (c : Nat) (s : State) : State := updChain c (fun _ => { halved := tapHalved s c }) s

/-- The event sources of a sensing resource (R409). -/
def senseSources (kind i : Nat) : List Nat :=
  if kind = 0 then (1152 + 32 + i) :: ((List.range 4).map (fun k => 1192 + 4 * i + k) ++ (List.range 4).map (fun k => 1192 + 64 + 4 * i + k))
  else if kind = 1 then [1152 + i, 1192 + 32 + i]
  else if kind = 2 then [1288 + i]
  else [1304 + i]

/-- A sensing resource returns to its device-reset configuration, except for coefficients (R413, R414). -/
def resetSense (kind i : Nat) (s : State) : State :=
  if kind = 0 then resetChain (544 + i) { s with sns.converters := tset s.sns.converters i {} }
  else if kind = 1 then resetChain (512 + i) { s with sns.charges := tset s.sns.charges i {} }
  else if kind = 2 then setPdGroup i {} s
  else setI2cPort i {} s

/-- sense.assign (R413). -/
def senseAssignBody (req : Bytes) (s : State) : State × Reply :=
  let kind := rd req 0 1
  let i := rd req 1 1
  let p := rd req 2 1
  if kind > 3 || i ≥ [8, 32, 16, 2].getD kind 0 || p > 64 then answer St.badParam s
  else if kind = 0 && (List.range 4).any (fun v => isMainsSource s (4 * i + v)) then answer St.sourceInUse s
  else
    let s := resetSources (senseSources kind i) (resetSense kind i s)
    answer St.ok (if kind = 0 then { s with own.converters := tset s.own.converters i p }
      else if kind = 1 then { s with own.charges := tset s.own.charges i p }
      else if kind = 2 then { s with own.groups := tset s.own.groups i p }
      else { s with own.i2c := tset s.own.i2c i p })

/-- The resource sense.assign names (R443). -/
def senseNames (kind i : Nat) : List Resource :=
  if kind = 0 then [.converter i, .chain (544 + i)] else if kind = 1 then [.chain (512 + i)]
  else if kind = 2 then [.group i] else [.i2c i]

def execSenseAssign (c : Caller) (req : Bytes) (s : State) : Out :=
  .next (runCmd ⟨0x0C07, shaped req 8 [(3, 5)], true, senseNames (rd req 0 1) (rd req 1 1) ++ [.pod (rd req 2 1)]⟩ c req
    (senseAssignBody req) s)

end Sys2Proof.Machine
end

