-- ==== Sys2Proof/Machine/LinkBuffers.lean ====
section
/-! DEFINITION. Frames in flight (10): flight numbers, admission, placement, staging, release, parity; the frame tags
of 19 and the completion records of a cipher ring (11 R318) that release posts. -/

namespace Sys2Proof.Machine

/-- Whether a port is open: its calibration has ended (R59, R86). -/
def isOpen (s : State) (p : Nat) : Bool := (port s p).line.mode != .closed

def endpoint (s : State) (e : Nat) : Endpoint := tget {} s.eps e

/-- State codes of R262. -/
def epCode : EpState → Nat
  | .free => 0 | .joining => 1 | .reachable => 2 | .unreachable => 3

/-- Mirror record 1 of an endpoint (R370). -/
def mirrorEp (e : Nat) (s : State) : State :=
  let x := endpoint s e
  mirrorSend (.endpoint e (epCode x.state) x.port x.pod x.eui x.txSlot x.rxSlot) s

def podLbf (s : State) (n : Nat) : PodLbf := tget {} s.lbf.pods n

def updPodLbf (n : Nat) (f : PodLbf → PodLbf) (s : State) : State :=
  { s with lbf.pods := tset s.lbf.pods n (f (podLbf s n)) }

/-! ### Tags (R514 to R516) -/

def tagCfg (s : State) (p : Nat) : TagCfg := tget {} s.obs.tagCfg p

/-- Whether a tag is that of an item. -/
def isTag (kind p ident : Nat) (t : Tag) : Bool := t.kind == kind && t.port == p && t.ident == ident

/-- A draw with probability 2^-k: a free value decides (R514). -/
def drawTag (k : Nat) (s : State) : Bool × State :=
  match freshNat s with
  | (v, s) => (v % 2 ^ k == 0, s)

/-- An eligible item passes checkpoint 0 (R514): tagged when drawn and no tag of its kind is in flight on its port. -/
def tagStart (kind p ident pod_ : Nat) (s : State) : State :=
  let c := tagCfg s p
  if !c.enable || !bit c.kinds.toNat (kind - 1) then s
  else
    match drawTag (if kind ≤ 2 then c.kf else c.ks) s with
    | (false, s) => s
    | (true, s) =>
      if s.obs.tags.any (fun t => t.kind == kind && t.port == p) then
        count 0x0013 { port := some p } 1 (bump 3081 1 s)
      else
        bump 3080 1 { s with obs.tags := s.obs.tags ++
          [{ kind := kind, port := p, ident := ident, pod := pod_, t0 := (tmbNow s).toNat, checks := [(0, (tmbNow s).toNat)],
             stepped := false }] }

/-- A tagged item passes a checkpoint; a later pass of the same one replaces it (R515). -/
def tagCheck (kind p ident idx : Nat) (s : State) : State :=
  let mark := fun (t : Tag) => { t with checks := tset t.checks idx (tmbNow s).toNat }
  { s with obs.tags := replaceWhere (isTag kind p ident) mark s.obs.tags }

/-- One delta of a tag record (R516). -/
def tagDelta (t : Tag) (i : Nat) : Nat :=
  if i != 0 && !thas t.checks i then 0xFFFFFFFF
  else min 0xFFFFFFFE ((tget t.t0 t.checks i + 2 ^ 64 - t.t0) % 2 ^ 64)

/-- The 64 bytes of a tag record (R516). -/
def tagRecord (t : Tag) (retired escalated : Bool) (attempts : Nat) : Bytes :=
  let ds := (List.range 12).map (tagDelta t)
  leBytes 8 t.t0 ++ leBytes 1 t.kind
    ++ leBytes 1 ((if t.stepped then 1 else 0) + (if ds.contains 0xFFFFFFFE then 2 else 0) + (if retired then 4 else 0)
        + (if escalated then 8 else 0) + 16 * min 15 attempts)
    ++ leBytes 2 t.port ++ leBytes 4 t.ident ++ (ds.map (leBytes 4)).flatten

/-- The tag of an item ends with its record (R516). -/
def tagEnd (kind p ident : Nat) (retired escalated : Bool) (attempts : Nat) (s : State) : State :=
  match s.obs.tags.find? (isTag kind p ident) with
  | none => s
  | some t =>
    traceFeed 0 1 (wordsOf 9 (tagRecord t retired escalated attempts))
      { s with obs.tags := s.obs.tags.filter (fun t => !isTag kind p ident t) }

/-! ### Cipher ring records (R318) -/

def cphRing (s : State) (p r : Nat) : CphRing := tget {} s.cph.rings (4 * p + r)

def updCphRing (p r : Nat) (f : CphRing → CphRing) (s : State) : State :=
  { s with cph.rings := tset s.cph.rings (4 * p + r) (f (cphRing s p r)) }

/-- A ring stops with a status (R316, R319). -/
def cphFault (p r : Nat) (st : Status) (s : State) : State :=
  updCphRing p r (fun x => { x with fault := true, errStatus := st }) s

/-- The bytes of a completion record of a cipher ring (R318), with its phase. -/
def cphRecordBytes (x : CphRing) (kind : Nat) (e : JobEnd) (tag : Nat) : Bytes :=
  leBytes 2 e.status.toNat ++ leBytes 1 kind
    ++ leBytes 1 (if x.cmplProd.toNat / 2 ^ x.cmplLog2.toNat % 2 = 0 then 1 else 0)
    ++ leBytes 4 e.bytesOut ++ leBytes 8 tag ++ (e.nonce ++ zeros (12 - e.nonce.length)) ++ leBytes 4 e.flight

/-- A record is written before CMPL_PROD advances, with the ring's message when the descriptor asks for it (R318,
R560); a write that fails faults the ring (R319). -/
def cphRecord (p r kind : Nat) (e : JobEnd) (tag : Nat) (raiseIt : Bool) (s : State) : State :=
  let x := cphRing s p r
  if !hostOk s p then cphFault p r St.dmaFault s
  else
    let addr := x.cmplBase.toNat * 64 + 32 * (x.cmplProd.toNat % 2 ^ x.cmplLog2.toNat)
    let s := hostWrite p addr (cphRecordBytes x kind e tag) s
    let s := updCphRing p r (fun x => { x with cmplProd := x.cmplProd + 1 }) s
    if raiseIt then sendMsix p (3 + r) s else s

/-! ### Counts and space (R266 to R274) -/

/-- The queue j of a frame (R266), and its number. -/
def queueJ (cls final : Nat) : Nat := 8 * cls + final % 8
def queueOf (f : Flight) : Nat := 32 * f.port + queueJ f.cls f.final

def flight (s : State) (n : Nat) : Flight :=
  tget { port := 0, pod := 0, cls := 0, final := 0, len := 0 } s.lbf.flights n

def setFlight (n : Nat) (f : Flight) (s : State) : State := { s with lbf.flights := tset s.lbf.flights n f }

def updFlight (n : Nat) (g : Flight → Flight) (s : State) : State :=
  if thas s.lbf.flights n then setFlight n (g (flight s n)) s else s

def queue (s : State) (q : Nat) : Queue := tget {} s.lbf.queues q

def updQueue (q : Nat) (f : Queue → Queue) (s : State) : State :=
  { s with lbf.queues := tset s.lbf.queues q (f (queue s q)) }

/-- Transmit frames of a port, of a pod, of a queue (admitted, whether sealed yet or not). -/
def portTx (s : State) (p : Nat) : Nat := (s.lbf.flights.filter (fun e => e.2.port == p)).length
def podTx (s : State) (n : Nat) : Nat :=
  (s.lbf.flights.filter (fun e => e.2.pod == n && !e.2.engine && !e.2.detached)).length
def queueTx (s : State) (q : Nat) : Nat := (s.lbf.flights.filter (fun e => queueOf e.2 == q)).length

/-- Receive reassemblies of a port. -/
def portRx (s : State) (p : Nat) : Nat := (s.lbf.reasms.filter (fun e => e.2.port == p)).length

/-- A free flight number of a port (R268). -/
def freeFlight (s : State) (p : Nat) : Option Nat :=
  let used := (s.lbf.flights.map (·.1) ++ s.lbf.reasms.map (·.1)).filter (fun n => n / 1024 == p)
  (firstFree (used.map (· % 1024)) 1024).map (· + 1024 * p)

/-- The first byte of the DDR that the firmware reserves at start-up (R175, R273): the tone-map region, then the backing region to
the end. Where in DDR it reserves them the spec does not say (log 11). -/
def reservedFrom (p : Part) : Nat := p.ddrBytes - p.backingBytes - p.mapBytes

/-- The backing slot of a flight number (R273): its place in DDR, and what it holds while the frame is there. -/
def slotAddr (p : Part) (n : Nat) : Nat := p.ddrBytes - p.backingBytes + 8256 * n
def slotBytes (s : State) (n : Nat) : Option Bytes :=
  if thas s.lbf.flights n && (flight s n).inBacking then some (flight s n).data
  else (s.lbf.reasms.find? (fun e => e.1 == n && !e.2.inShare)).map (·.2.data)

/-- Cells of a payload of L bytes (R271). -/
def cellsOf (len : Nat) : Nat := 1 + ceilDiv len 64

/-- Cells of a port share in use by PC3 frames, and by everything else (R272). -/
def sharePc3 (s : State) (p : Nat) : Nat :=
  ((s.lbf.flights.filter (fun e => e.2.port == p && e.2.inShare && e.2.cls == 3)).map (fun e => cellsOf e.2.len)).sum
def shareOther (s : State) (p : Nat) : Nat :=
  ((s.lbf.flights.filter (fun e => e.2.port == p && e.2.inShare && e.2.cls != 3)).map (fun e => cellsOf e.2.len)).sum
    + ((s.lbf.reasms.filter (fun e => e.2.port == p && e.2.inShare)).map (fun e => cellsOf e.2.size)).sum

/-- Whether a port share has room for cells of a PC3 frame, or of anything else outside the PC3 reserve (R272, R274). -/
def shareRoom (s : State) (p : Nat) (pc3 : Bool) (cells : Nat) : Bool :=
  let a := sharePc3 s p + if pc3 then cells else 0
  let b := shareOther s p + if pc3 then 0 else cells
  decide (b + (a - 68) ≤ s.part.cellsPerPort - 68) && decide (a + b ≤ s.part.cellsPerPort)

/-- PEAK_FRAMES and PEAK_TX follow the counts (R284, R285). -/
def notePeaks (p : Nat) (s : State) : State :=
  let n := s.lbf.flights.length + s.lbf.reasms.length
  let s := { s with lbf.peakFrames := BitVec.ofNat 18 (max s.lbf.peakFrames.toNat n) }
  updPort p (fun x => { x with peakTx := BitVec.ofNat 11 (max x.peakTx.toNat (portTx s p)) }) s

/-- The active device of a pair sends role failing from its next frame (R545). -/
def roleFailing (s : State) : State :=
  if s.trk.pair.role = .active then
    let f := match s.trk.pair.failFrom with | some f => min f (nextFrame s) | none => nextFrame s
    pairEvent (heartbeat false { s with trk.pair.role := .failing, trk.pair.failFrom := some f })
  else s

/-- An uncorrectable DDR read: more than 16 on one channel within 1 s is a failing condition (R545). Which channel holds
an address is not given: a free value. -/
def ddrError (s : State) : State :=
  match freshNat s with
  | (v, s) =>
    let ch := v % s.part.ddrChannels
    let ts := (tget [] s.pwr.ddrErrors ch).filter (fun t => decide (s.now < t + secs 1)) ++ [s.now]
    let s := { s with pwr.ddrErrors := tset s.pwr.ddrErrors ch ts }
    if ts.length > 16 then roleFailing s else s

/-! ### Release (R279) -/

/-- The attributes of a frame's events (R506, R507). -/
def frameAttr (f : Flight) : Attr :=
  { port := some f.port, cls := some f.cls, pod := some (if f.engine then 0 else f.pod), host := some (!f.engine) }

/-- A frame's outcome reaches its submitter (R292, R318), unless it is detached. The record of a ring carries the sealed unit's length and
nonce (DEDUCED, log 169). -/
def postOutcome (n : Nat) (f : Flight) (st : Status) (s : State) : State :=
  if f.detached || !f.enqueued then s
  else
    match f.route with
    | .none => s
    | .notice lane => notify f.pod lane 0x8801 (leBytes 4 n ++ leBytes 2 st.toNat ++ zeros 2) s
    | .ring ring tag raiseIt =>
      cphRecord f.pod ring 1 { status := st, bytesOut := f.unitLen, nonce := f.nonce, flight := n } tag.toNat raiseIt
        (updCphRing f.pod ring (fun x => { x with owed := x.owed - 1 }) s)

/-- Release of a frame (R279): its cells, slot, flight number and mark are free, and its outcome is posted; ST_OK when
delivered, its retirement status otherwise. -/
def releaseFlight (n : Nat) (st : Status) (s : State) : State :=
  if !thas s.lbf.flights n then s
  else
    let f := flight s n
    let s := { s with lbf.flights := tdel s.lbf.flights n }
    let s := updQueue (queueOf f) (fun q => { q with flights := q.flights.filter (· != n) }) s
    let s := if st = St.ok then s else count 0x0003 (frameAttr f) 1 s
    let s := tagCheck 1 f.port n 9 s
    let s := tagEnd 1 f.port n (st != St.ok) (f.stage > 0) f.attempt s
    postOutcome n f st s

/-- A frame retires (R279, R280): at once, or, in an exchange, when the exchange fails. -/
def retireFlight (n : Nat) (st : Status) (s : State) : State :=
  if (flight s n).inExchange then updFlight n (fun f => { f with retire := some st }) s else releaseFlight n st s

/-! ### Admission (R276, R277, R593) -/

/-- The cause that holds a submission behind others for which room is kept, none when every check passes. -/
def admitBehind (s : State) (h : Held) (ahead : List Held) : Option Nat :=
  let port_ := ahead.filter (fun g => g.port == h.port)
  let used := ((s.lbf.flights.map (·.1) ++ s.lbf.reasms.map (·.1)).filter (fun n => n / 1024 == h.port)).length
  if queueTx s (32 * h.port + queueJ h.cls h.final) + (port_.filter (fun g => queueJ g.cls g.final == queueJ h.cls h.final)).length
      ≥ (port s h.port).queueLimit then some 1
  else if portTx s h.port + port_.length ≥ 1024 - (port s h.port).rxReserve || decide (used + port_.length ≥ 1024) then some 2
  else if !h.engine && decide (podTx s h.pod + (ahead.filter (fun g => g.pod == h.pod && !g.engine)).length
      ≥ (podLbf s h.pod).quota.getD s.part.framesInFlight) then some 3
  else none

/-- The cause that holds a submission, none when every check passes. -/
def admitCause (s : State) (h : Held) : Option Nat := admitBehind s h []

/-- Whether two submissions are downlink frames of one pod to one endpoint in one class, which keep the order of submission (R36). -/
def sameFlow (h g : Held) : Bool := h.pod == g.pod && h.final == g.final && h.cls == g.cls && h.port == g.port && h.mgmt == g.mgmt

/-- Room for the records of one more descriptor (R311). -/
def ringRoom (x : CphRing) (need : Nat) : Bool :=
  decide ((x.cmplProd - x.cmplCons).toNat + x.owed + need ≤ 2 ^ x.cmplLog2.toNat)

/-- Whether the device may take the descriptor that a held submission stands for (R292, R311, R441): its ring or lane takes
descriptors, with room for their records. -/
def mayTakeHeld (s : State) (h : Held) : Bool :=
  match h.sealer with
  | .ring r _ _ => let x := cphRing s h.pod r; x.enable && !x.fault && ringRoom x 2
  | .mailbox c =>
    let x := mbxLane s c.pod c.lane
    !h.atCons || (s.mgmt.ready && x.enable && !x.fault && decide (inFw s c.pod c.lane < laneCredit s c.pod c.lane)
      && laneRoom s c.pod c.lane)
  | _ => true

/-- The held submissions for which a release has made room (R276, R280): they go ahead of any that arrives after it. -/
def roomMade (s : State) : List Held := s.lbf.held.filter (fun g => (admitCause s g).isNone && mayTakeHeld s g)

/-- The cause that holds a new submission (R36, R276, R280): that of an older one held ahead of it in its order, else its own behind
those that a release has made room for. -/
def stopCause (s : State) (h : Held) : Option Nat :=
  ((s.lbf.held.find? (sameFlow h)).map (·.cause)).orElse (fun _ => admitBehind s h (roomMade s))

/-- Whether a submission of the pod is held at present (BLOCKED of R277). -/
def podBlocked (s : State) (n : Nat) : Bool := s.lbf.held.any (fun h => h.pod == n && !h.engine)

/-- The vector 7 message of a rise of BLOCKED, or its deferral (R560). -/
def admitVector (fn : Nat) (s : State) : State :=
  let d := tget {} s.host.deferral fn
  let late := match d.admitAt with | some t => decide (s.now < t + us 100) | none => false
  if late then { s with host.deferral := tset s.host.deferral fn { d with admitDue := true } }
  else sendMsix fn 7 { s with host.deferral := tset s.host.deferral fn { d with admitAt := some s.now } }

/-- A submission is held (R276, R277): an engine's shows in no register (R593). -/
def holdSubmission (h : Held) (cause : Nat) (s : State) : State :=
  let rises := !podBlocked s h.pod
  let s := { s with lbf.held := s.lbf.held ++ [{ h with cause := cause }] }
  let s := count 0x0002 { port := some h.port, cls := some h.cls, pod := some h.pod, host := some (!h.engine) } 1 s
  if h.engine then s
  else
    let s := updPodLbf h.pod (fun x =>
      { x with blockPort := BitVec.ofNat 7 h.port, blockQueue := BitVec.ofNat 5 (queueJ h.cls h.final),
               blockCause := BitVec.ofNat 4 cause, blockedSeen := true }) s
    if rises then admitVector h.pod s else s

/-- The neighbour of an endpoint whose maps a frame to it uses: its first hop (R176, R247). -/
def firstHopF (s : State) : Nat → Nat → Nat
  | 0, e => e
  | n + 1, e => if (endpoint s e).parent = 0x4000 || (endpoint s e).parent = 0xFFFF then e else firstHopF s n (endpoint s e).parent

def firstHop (s : State) (e : Nat) : Nat := firstHopF s 8 e

/-- A neighbour becomes active in the transmit-map cache (R176): the least recently used one with no frame queued is
evicted; when every entry has queued frames it takes the miss path. -/
def cacheTouch (e : Nat) (s : State) : State :=
  if s.tm.cache.contains e then { s with tm.cache := e :: s.tm.cache.filter (· != e) }
  else if s.tm.cache.length < 4096 then { s with tm.cache := e :: s.tm.cache }
  else
    let idle := fun (x : Nat) => !s.lbf.flights.any (fun f => firstHop s f.2.final == x)
    match s.tm.cache.reverse.find? idle with
    | none => s
    | some v => { s with tm.cache := e :: s.tm.cache.filter (· != v) }

/-- The transmit slot of a submission: the endpoint's binding, or the pod's broadcast binding (R304); 0 with none. -/
def txSlotOf (s : State) (p final : Nat) : Nat :=
  if final = 0x7FFF then tget 0 s.cph.bcast p else ((endpoint s final).txSlot).getD 0

/-- A frame is admitted (R276): it takes a flight number and waits for its seal. -/
def admitFlight (n : Nat) (h : Held) (s : State) : State :=
  let f : Flight := { port := h.port, pod := h.pod, cls := h.cls, final := h.final, len := h.len, data := h.data,
                      sealer := h.sealer, route := h.route, engine := h.engine, mgmt := h.mgmt, order := s.lbf.count,
                      txSlot := txSlotOf s h.pod h.final }
  let s := notePeaks h.port (setFlight n f { s with lbf.count := s.lbf.count + 1 })
  let s := count 0x0001 (frameAttr f) 1 s
  let s := if h.mgmt then s else tagCheck 1 h.port n 1 (tagStart 1 h.port n h.pod s)
  if h.final < 0x4000 then cacheTouch (firstHop s h.final) s else s

/-- Whether a frame will be among the four oldest of its queue (R274, R278). -/
def willBeMarked (s : State) (q : Nat) : Bool := decide ((queue s q).flights.length < 4)

/-- A frame joins its queue and is placed in its share, its slot or both (R274, R278). -/
def enqueueFlight (n : Nat) (data : Bytes) (s : State) : State :=
  let f := { flight s n with data := data, len := data.length, enqueued := true, sealer := Sealer.none }
  let room := shareRoom s f.port (f.cls == 3) (cellsOf f.len)
  let share := room && (f.cls == 3 || willBeMarked s (queueOf f))
  let f := { f with inShare := share, inBacking := f.cls == 3 || !share }
  let s := updQueue (queueOf f) (fun q => { q with flights := q.flights ++ [n] }) (setFlight n f s)
  let s := tagCheck 1 f.port n 3 s
  if share then tagCheck 1 f.port n 4 s else s

/-- A management message the device's engines send (R210, R266, R593): class 2, admitted by checks 1 to 3 and enqueued
unsealed; held where they fail. -/
def engineSend (p final : Nat) (msg : Bytes) (s : State) : State :=
  if silent s then s else
  let h : Held := { pod := 0, final := final, cls := 2, len := msg.length, port := p, cause := 0, sealer := .none,
                    route := .none, engine := true, mgmt := true, data := msg }
  match stopCause s h, freeFlight s p with
  | none, some n => enqueueFlight n msg (admitFlight n h s)
  | c, _ => holdSubmission h (c.getD 2) s

/-! ### Receive reassemblies (R268 to R270, R274) -/

def setReasm (n : Nat) (r : Reasm) (s : State) : State := { s with lbf.reasms := tset s.lbf.reasms n r }

def reasm (s : State) (n : Nat) : Option Reasm := (s.lbf.reasms.find? (fun e => e.1 == n)).map (·.2)

def releaseReasm (n : Nat) (s : State) : State := { s with lbf.reasms := tdel s.lbf.reasms n }

/-- A reassembly ends undelivered: released, and its tag retires (R516). -/
def dropReasm (n : Nat) (s : State) : State :=
  match reasm s n with
  | some r => tagEnd 2 r.port n true false 0 (releaseReasm n s)
  | none => s

/-- A stored word of a reassembly fails as it is read (R281): its parity in the port share, or uncorrectably in its backing slot. -/
def reasmPoison (n : Nat) (r : Reasm) (s : State) : State :=
  if r.inShare then parityFail 0 r.port false s else ddrError (parityFail 3 (n / 16) true s)

/-- An accepted unit takes a receive flight number (R270): none free is a receive overrun, counted for the pod of the
endpoint (R293). -/
def takeReasm (r : Reasm) (s : State) : State × Option Nat :=
  let free := if portRx s r.port < (port s r.port).rxReserve then freeFlight s r.port else none
  match free with
  | some n =>
    let r := { r with inShare := shareRoom s r.port false (cellsOf r.size), order := s.lbf.count }
    (notePeaks r.port (setReasm n r { s with lbf.count := s.lbf.count + 1 }), some n)
  | none =>
    let s := updPort r.port (fun x => { x with rxOverrun := true }) s
    let s := updPodLbf r.pod (fun x => { x with overruns := satAdd x.overruns 1 }) s
    (raisePort r.port 6 1 r.ep 0 s, none)

/-! ### Staging (R275, R281 to R283) -/

/-- The marked frames of a queue: its four oldest (R278). -/
def marked (s : State) (q : Nat) : List Nat := (queue s q).flights.take 4

/-- The queues of a class of a port in service order, from the one after the last served (R267). -/
def serviceOrder (s : State) (p cls : Nat) : List Nat :=
  let last := tget 31 (port s p).mac.served cls
  (List.range 8).map (fun i => 32 * p + 8 * cls + (last % 8 + 1 + i) % 8)

/-- The security count of the hop that sent a unit rises (R233). -/
def countSecurity (p src : Nat) (s : State) : State :=
  let k := 32768 * p + src
  { s with nbrs := tset s.nbrs k { (tget {} s.nbrs k) with rxSecurity := (tget {} s.nbrs k).rxSecurity + 1 } }

/-! ### Commands (R288 to R290, R294) -/

/-- buffer.configure (R289). -/
def bufferConfigureBody (req : Bytes) (s : State) : State × Reply :=
  let p := rd req 0 2
  if p ≥ s.part.ports || rd req 2 2 < 16 || rd req 2 2 > 512 || rd req 4 2 < 1 || rd req 4 2 > 1024 then answer St.badParam s
  else answer St.ok (updPort p (fun x => { x with rxReserve := rd req 2 2, queueLimit := rd req 4 2 }) s)

def execBufferConfigure (c : Caller) (req : Bytes) (s : State) : Out :=
  .next (runCmd ⟨0x0801, shaped req 8 [(6, 2)], true, [.port (rd req 0 2)]⟩ c req (bufferConfigureBody req) s)

/-- buffer.quota (R289). -/
def bufferQuotaBody (req : Bytes) (s : State) : State × Reply :=
  if rd req 0 1 < 1 || rd req 0 1 > 64 || rd req 4 4 > s.part.framesInFlight then answer St.badParam s
  else answer St.ok (updPodLbf (rd req 0 1) (fun x => { x with quota := some (rd req 4 4) }) s)

def execBufferQuota (c : Caller) (req : Bytes) (s : State) : Out :=
  .next (runCmd ⟨0x0802, shaped req 8 [(1, 3)], true, [.pod (rd req 0 1)]⟩ c req (bufferQuotaBody req) s)

/-- rx.ring (R294): fields other than the flags are checked only with enable set. -/
def rxRingBody (c : Caller) (req : Bytes) (s : State) : State × Reply :=
  let x := podLbf s c.pod
  let base := rd req 8 8
  let ctrl := rd req 16 8
  let z := rd req 24 1
  if rd req 0 1 > 1 then answer St.badParam s
  else if rd req 0 1 = 0 then answer St.ok (updPodLbf c.pod (fun x => { x with rxEnable := false }) s)
  else if x.rxEnable || base % 4096 != 0 || ctrl % 64 != 0 || z < 16 || z > 26 then answer St.badParam s
  else
    match c.io.consumer with
    | none => answer St.dmaFault s
    | some start =>
      answer St.ok (updPodLbf c.pod (fun x => { x with rxEnable := true, rxBase := base, rxCtrl := ctrl, rxLog2 := z,
                                                       rxProd := start, rxCons := start })
        (count 0x0010 { pod := some c.pod } 8 s))

def execRxRing (c : Caller) (req : Bytes) (s : State) : Out :=
  .next (runCmd ⟨0x0804, shaped req 32 [(1, 7), (25, 7)], false, []⟩ c req (rxRingBody c req) s)

end Sys2Proof.Machine
end

