-- ==== Sys2Proof/Machine/Memory.lean ====
section
/-! DEFINITION. DDR as the pods and the check-value units see it, and the firewall before it (17 R467 to R470). -/

namespace Sys2Proof.Machine

/-! ### Bytes of DDR -/

/-- What an address that nothing has written reads as (log 11). -/
def memDefault : Byte := 0

/-- The byte at an address. -/
def memGet : List Host.Cell → Nat → Byte
  | [], _ => memDefault
  | c :: m, a => if c.1 = a then c.2 else memGet m a

/-- A byte put at an address: the list stays in rising order and holds no default byte. -/
def memSet : List Host.Cell → Nat → Byte → List Host.Cell
  | [], a, b => if b = memDefault then [] else [(a, b)]
  | c :: m, a, b =>
    if a < c.1 then (if b = memDefault then c :: m else (a, b) :: c :: m)
    else if c.1 = a then (if b = memDefault then m else (a, b) :: m)
    else c :: memSet m a b

/-- The canonical form: addresses strictly rising, no default byte listed. -/
def Memory.wf : List Host.Cell → Bool
  | [] => true
  | c :: m => c.2 != memDefault && m.all (fun d => decide (c.1 < d.1)) && Memory.wf m

/-- n bytes from an address. -/
def ddrRead (s : State) (a n : Nat) : Bytes := (List.range n).map (fun i => memGet s.ddr (a + i))

/-- Bytes put down from an address on. -/
def memPut : List Host.Cell → Nat → Bytes → List Host.Cell
  | m, _, [] => m
  | m, a, b :: bs => memPut (memSet m a b) (a + 1) bs

def ddrWrite (a : Nat) (bs : Bytes) (s : State) : State := { s with ddr := memPut s.ddr a bs }

/-! ### The firewall (R467 to R470) -/

def window (s : State) (p w : Nat) : Window := tget {} (pod s p).windows w

/-- A window is open when it grants anything (R480: flags 0 closes). -/
def Window.isOpen (w : Window) : Bool := w.read || w.write

/-- Whether a DDR range lies wholly inside one open window of the pod that grants the direction (R468). -/
def rangePermitted (s : State) (p addr len : Nat) (write : Bool) : Bool :=
  (List.range 8).any (fun i =>
    let w := window s p i
    (if write then w.write else w.read) && decide (w.base ≤ addr) && decide (addr + len ≤ w.base + w.size))

/-- A denial is counted, seen, logged when it is the first since DENY_COUNT read zero, and raised (R469, R478). -/
def deny (p kind w offset : Nat) (addr : Option Nat) (s : State) : State :=
  let first := s.fw.denyCount == 0
  let s := { s with fw.logPod := if first then BitVec.ofNat 7 p else s.fw.logPod,
                    fw.logKind := if first then BitVec.ofNat 2 kind else s.fw.logKind,
                    fw.logWindow := if first then BitVec.ofNat 3 w else s.fw.logWindow,
                    fw.logOffset := if first then BitVec.ofNat 32 offset else s.fw.logOffset,
                    fw.denyCount := satAdd s.fw.denyCount 1, fw.denySeen := true }
  let s := updPod p (fun x => { x with denySeen := true }) s
  let s := bump 3078 1 s
  let s := count 0x000D { pod := some p, addr := addr.map (fun a => (a, 1)) } 1 s
  raiseSys 19 1 0 0 s

end Sys2Proof.Machine
end

