-- ==== Sys2Proof/Machine/Check.lean ====
section
/-! DEFINITION. The check-value units (12): contexts, protection headers in snoop mode, DMA jobs. -/

namespace Sys2Proof.Machine

def chkCtx (s : State) (c : Nat) : ChkCtx := tget {} s.chk c

def updChk (c : Nat) (f : ChkCtx → ChkCtx) (s : State) : State := { s with chk := tset s.chk c (f (chkCtx s c)) }

/-- The computation a context's settings define (R329, R330, R333). -/
def ctxAlg (x : ChkCtx) : CrcAlg :=
  (crcPreset x.preset.toNat).getD
    ⟨x.widthM1.toNat + 1, x.poly.toNat % 2 ^ (x.widthM1.toNat + 1), x.init.toNat % 2 ^ (x.widthM1.toNat + 1), x.refin,
     x.refout, x.xorout.toNat % 2 ^ (x.widthM1.toNat + 1)⟩

/-- Whether the settings of a context fail the check of R335. WIDTH_M1 below 7 is out of its range of R333 and fails it
too. -/
def ctxBad (x : ChkCtx) (snoop : Bool) : Bool :=
  decide (x.preset.toNat > 4) || x.alive == 3
    || (x.preset == 0 && (decide (x.widthM1.toNat < 7) || decide (x.poly.toNat ≥ 2 ^ (x.widthM1.toNat + 1))
          || decide (x.init.toNat ≥ 2 ^ (x.widthM1.toNat + 1)) || decide (x.xorout.toNat ≥ 2 ^ (x.widthM1.toNat + 1))))
    || (snoop && x.foldSeq && x.alive == 0)

/-! ### Protection headers (R336 to R341) -/

/-- The length H of a context's protection header (R336). -/
def headerLen (x : ChkCtx) : Nat := 4 + 4 * ceilDiv (ctxAlg x).w 32

/-- The bits n of the alive counter. -/
def aliveBits (x : ChkCtx) : Nat := 4 * x.alive.toNat

/-- The first four bytes of a header for a sequence number (R336). -/
def headerFront (x : ChkCtx) (seq : Nat) : Bytes :=
  [BitVec.ofNat 8 (seq % 2 ^ aliveBits x),
   BitVec.ofNat 8 (x.alive.toNat + (if x.foldId then 4 else 0) + (if x.foldSeq then 8 else 0)), 0, 0]

/-- The bytes a header's check value covers (R337). -/
def checkedBytes (x : ChkCtx) (seq : Nat) (front unit_ : Bytes) : Bytes :=
  (if x.foldId then beBytes 2 x.dataId.toNat else []) ++ (if x.foldSeq then beBytes 8 seq else []) ++ front ++ unit_

/-- The check value of a header (R337). -/
def headerCheck (x : ChkCtx) (seq : Nat) (front unit_ : Bytes) : Nat := crc (ctxAlg x) (checkedBytes x seq front unit_)

/-- VALUE and RESULT after the computation of a frame (R332). -/
def noteCheck (bs : Bytes) (x : ChkCtx) : ChkCtx :=
  { x with value := BitVec.ofNat 64 (crcRun (ctxAlg x) (ctxAlg x).init bs), result := BitVec.ofNat 64 (crc (ctxAlg x) bs) }

/-- The context of a stream: endpoint and direction (R338); each pod has broadcasts of its own (R327). -/
def streamCtx (s : State) (pod_ ep : Nat) (rx : Bool) : Option Nat :=
  (s.chk.find? (fun e => e.2.bound == some (ep, rx) && (ep != 0x7FFF || e.2.pod == pod_))).map (·.1)

/-- A sealed unit of a transmit stream with its protection header, SEQ advanced (R338); any other unit as it is. -/
def protect (pod_ ep : Nat) (unit_ : Bytes) (s : State) : Bytes × State :=
  match streamCtx s pod_ ep false with
  | none => (unit_, s)
  | some c =>
    let x := chkCtx s c
    let front := headerFront x x.seq.toNat
    (unit_ ++ front ++ beBytes (headerLen x - 4) (headerCheck x x.seq.toNat front unit_),
     updChk c (fun x => noteCheck (checkedBytes x x.seq.toNat front unit_) { x with seq := x.seq + 1 }) s)

/-- The header bytes a frame to an endpoint will carry (R211, R303). -/
def txHeaderLen (s : State) (pod_ ep : Nat) : Nat :=
  match streamCtx s pod_ ep false with
  | none => 0
  | some c => headerLen (chkCtx s c)

/-- What a receive stream makes of a unit (R339 to R341). -/
inductive Verified where
  /-- no receive stream: the unit goes on whole -/
  | whole
  /-- it passes: the sealed unit without the header -/
  | pass (unit_ : Bytes)
  | stale
  | fail
  deriving DecidableEq, Repr

/-- The alive rule (R340): the sequence number and the units lost, none when stale. -/
def aliveRule (x : ChkCtx) (a : Nat) : Option (Nat × Nat) :=
  if x.alive = 0 then some (x.seq.toNat, 0)
  else
    let n := 2 ^ aliveBits x
    let delta := (a % n + n - x.seq.toNat % n) % n
    if delta < n / 2 then some ((x.seq.toNat + delta) % 2 ^ 64, delta) else none

/-- A receive stream verifies a unit before it is opened (R339): a poisoned word ends the verification as a failure
(R341). A unit too short for its header fails before its alive field is read. -/
def verifyUnit (ep : Nat) (data : Bytes) (poisoned : Bool) (s : State) : Verified × State :=
  match streamCtx s 0 ep true with
  | none => (.whole, s)
  | some c =>
    let x := chkCtx s c
    let failed := updChk c (fun x => { x with fails := satAdd x.fails 1, failSeen := true }) s
    if poisoned then (.fail, updChk c (fun x => { x with poisonSeen := true }) failed)
    else
      let h := headerLen x
      if data.length < h + 28 then (.fail, failed)
      else
        let unit_ := data.take (data.length - h)
        let head := data.drop (data.length - h)
        let front := head.take 4
        match aliveRule x (rd front 0 1) with
        | none => (.stale, updChk c (fun x => { x with stale := satAdd x.stale 1 }) s)
        | some (seq, lost) =>
          let note := updChk c (noteCheck (checkedBytes x seq front unit_))
          if front.getD 1 0 != (headerFront x seq).getD 1 0
              || beNat (head.drop 4) != headerCheck x seq front unit_ then (.fail, note failed)
          else
            (.pass unit_, updChk c (fun x =>
              { x with lost := satAdd x.lost lost,
                       seq := if x.alive = 0 then x.seq else BitVec.ofNat 64 (seq + 1) }) (note s))

/-! ### Registers (R335) -/

/-- The register of a context at word offset reg: 0 CFG, 1 POLY, 2 INIT, 3 XOROUT, 4 VALUE, 5 SEQ, 6 RESULT, 7 STATUS
(R561). -/
def writeCtx (c reg value : Nat) (s : State) : State :=
  let x := chkCtx s c
  let v := BitVec.ofNat 64 value
  if reg = 7 then
    updChk c (fun x => { x with poisonSeen := w1c x.poisonSeen (bit value 4), writeRejected := w1c x.writeRejected (bit value 3),
                                failSeen := w1c x.failSeen (bit value 2), done := w1c x.done (bit value 0) }) s
  else if reg ≥ 6 then s
  else if x.bound.isSome || x.dma.isSome then updChk c (fun x => { x with writeRejected := true }) s
  else
    updChk c (fun x =>
      match reg with
      | 0 => { x with dataId := BitVec.ofNat 16 (bits value 48 16), widthM1 := BitVec.ofNat 6 (bits value 42 6),
                      alive := BitVec.ofNat 2 (bits value 40 2), foldId := bit value 39, foldSeq := bit value 38,
                      refin := bit value 37, refout := bit value 36, preset := BitVec.ofNat 4 (bits value 32 4) }
      | 1 => { x with poly := v }
      | 2 => { x with init := v }
      | 3 => { x with xorout := v }
      | 4 => { x with value := v }
      | _ => { x with seq := v }) s

/-- CHK_CONTEXT_WRITE (R335). -/
def execChkContextWrite (ctx reg value : Nat) (s : State) : Out :=
  if ctx ≥ 1024 then .fault .absentResource else .next (if pageOpen s 0 then writeCtx ctx reg value s else s)

/-! ### Commands (R347) -/

/-- A context back at its reset values, keeping its assignment (R344). -/
def resetCtx (c : Nat) (s : State) : State :=
  updChk c (fun x => { ({} : ChkCtx) with pod := x.pod, window := x.window }) s

/-- chk.assign: pod 0's window slots are not a register window, so an occupied slot is one of the same pod. -/
def chkAssignBody (req : Bytes) (s : State) : State × Reply :=
  let c := rd req 0 2
  let p := rd req 2 1
  let w := rd req 3 1
  let taken := s.chk.any (fun e => e.1 != c && e.2.pod == p && e.2.window == some w)
  if c ≥ 1024 || p > 64 || w > 15 then answer St.badParam s
  else if (chkCtx s c).bound.isSome || (chkCtx s c).dma.isSome then answer St.contextBusy s
  else if taken then answer St.badParam s
  else answer St.ok (updChk c (fun _ => { pod := p, window := some w }) s)

def execChkAssign (c : Caller) (req : Bytes) (s : State) : Out :=
  .next (runCmd ⟨0x0A01, shaped req 8 [(4, 4)], true, [.context (rd req 0 2)]⟩ c req (chkAssignBody req) s)

/-- Unbind whatever context serves a stream. -/
def unbindStream (pod_ ep : Nat) (rx : Bool) (s : State) : State :=
  match streamCtx s pod_ ep rx with
  | none => s
  | some c => updChk c (fun x => { x with bound := none }) s

/-- Streams bound across the device (R338). -/
def boundStreams (s : State) : Nat := (s.chk.filter (fun e => e.2.bound.isSome)).length

/-- chk.bind (R338, R347): both the context's and the endpoint's pod may bind; 0x7FFF is the caller's broadcasts. -/
def chkBindBody (c : Caller) (req : Bytes) (s : State) : State × Reply :=
  let n := rd req 0 2
  let ep := rd req 2 2
  let rx := rd req 4 1 == 1
  let unbind := rd req 5 1 == 1
  let x := chkCtx s n
  let e := endpoint s ep
  if n ≥ 1024 || (ep ≥ 16384 && ep != 0x7FFF) || rd req 4 1 > 1 || rd req 5 1 > 1 || (rx && ep == 0x7FFF) then
    answer St.badParam s
  else if c.pod != 0 && (x.pod != c.pod || (ep < 16384 && e.state != .free && e.pod != c.pod)) then answer St.denied s
  else if unbind then
    answer St.ok (if x.bound = some (ep, rx) then updChk n (fun x => { x with bound := none }) s else s)
  else if ep < 16384 && e.state == .free then answer St.notAdmitted s
  else if ep < 16384 && e.pod != x.pod then answer St.denied s
  else if x.dma.isSome || (x.bound.isSome && x.bound != some (ep, rx)) then answer St.contextBusy s
  else if ctxBad x true then answer St.checkConfig s
  else
    let s' := unbindStream x.pod ep rx s
    if boundStreams s' ≥ 256 then answer St.streamLimit s
    else answer St.ok (updChk n (fun x => { x with bound := some (ep, rx) }) s')

def execChkBind (c : Caller) (req : Bytes) (s : State) : Out :=
  .next (runCmd ⟨0x0A02, shaped req 8 [(6, 2)], false, [.context (rd req 0 2), .endpoint (rd req 2 2)]⟩ c req
    (chkBindBody c req) s)

/-- The response of chk.dma (R347). -/
def dmaResp (st : Status) (result : Word) : Bytes := leBytes 2 st.toNat ++ zeros 6 ++ leBytes 8 result.toNat

/-- DMA jobs running on the device (R343). -/
def dmaJobs (s : State) : Nat := (s.chk.filter (fun e => e.2.dma.isSome)).length

/-- The first access of a job that the firewall denies: kind and address (R468). -/
def dmaDenied (s : State) (p : Nat) (req : Bytes) : Option (Nat × Nat) :=
  if !rangePermitted s p (rd req 8 8) (rd req 16 8) false then some (2, rd req 8 8)
  else if bit (rd req 2 1) 2 && !rangePermitted s p (rd req 24 8) 8 true then some (3, rd req 24 8)
  else none

/-- chk.dma (R342, R343, R347): the job is one of the pod its context belongs to. -/
def chkDmaBody (c : Caller) (req : Bytes) (s : State) : State × Reply :=
  let n := rd req 0 2
  let addr := rd req 8 8
  let len := rd req 16 8
  let x := chkCtx s n
  if s.part == .gnz5032 || n ≥ 1024 || rd req 2 1 > 7 || addr % 8 != 0 || len % 8 != 0 || len < 8 || len > 2 ^ 32
      || rd req 24 8 % 8 != 0 then answer St.badParam s
  else if c.pod != 0 && x.pod != c.pod then answer St.denied s
  else if x.bound.isSome || x.dma.isSome then answer St.contextBusy s
  else if ctxBad x false then answer St.checkConfig s
  else if dmaJobs s ≥ 4 then (s, .wait)
  else
    match dmaDenied s x.pod req with
    | some (kind, a) => answer St.denied (deny x.pod kind 0 (bits a 4 32) (some a) s)
    | none => (updChk n (fun x => { x with dma := some { caller := c, req := req } }) s, .held)

def execChkDma (c : Caller) (req : Bytes) (s : State) : Out :=
  .next (runCmd ⟨0x0A03, shaped req 32 [(3, 5)], false, [.context (rd req 0 2)]⟩ c req (chkDmaBody c req) s)

/-- A job ends: its context is idle, its command completes. -/
def endDma (n : Nat) (job : ChkDma) (st : Status) (s : State) : State :=
  let s := updChk n (fun x => { x with dma := none, done := true }) s
  complete job.caller st (dmaResp st (chkCtx s n).result) s

/-- VALUE and RESULT are not defined (R343, R469): free values. -/
def looseCtx (n : Nat) (s : State) : State :=
  match freshNat s with
  | (a, s) => match freshNat s with
    | (b, s) => updChk n (fun x => { x with value := BitVec.ofNat 64 a, result := BitVec.ofNat 64 b }) s

/-- CHK_DMA_COMPLETE (R342, R343): a burst the rules now in force deny ends the job with ST_DENIED (R469), an
uncorrectable read with ST_POISONED; else VALUE is left and, with finalise, RESULT. -/
def execChkDmaComplete (ctx : Nat) (ddrFail : Bool) (s : State) : Out :=
  let x := chkCtx s ctx
  match x.dma with
  | none => .next s
  | some job =>
    let req := job.req
    let addr := rd req 8 8
    let len := rd req 16 8
    match dmaDenied s x.pod req with
    | some (kind, a) => .next (endDma ctx job St.denied (looseCtx ctx (deny x.pod kind 0 (bits a 4 32) (some a) s)))
    | none =>
      let attr : Attr := { pod := some x.pod, addr := some (addr, len), host := some true }
      let s := count 0x000E attr len (count 0x000B attr len s)
      if ddrFail then
        .next (endDma ctx job St.poisoned (looseCtx ctx (ddrError (updChk ctx (fun x => { x with poisonSeen := true }) s))))
      else
        let alg := ctxAlg x
        let fold := if bit (rd req 2 1) 0 then []
                    else (if x.foldId then beBytes 2 x.dataId.toNat else []) ++ (if x.foldSeq then beBytes 8 addr else [])
        let start := if bit (rd req 2 1) 0 then x.value.toNat % 2 ^ alg.w else alg.init
        let v := crcRun alg start (fold ++ ddrRead s addr len)
        let r := crcFinal alg v
        let s := updChk ctx (fun x => { x with value := BitVec.ofNat 64 v,
                                               result := if bit (rd req 2 1) 1 then BitVec.ofNat 64 r else x.result }) s
        let s := if bit (rd req 2 1) 2 then
                   count 0x000C { pod := some x.pod, addr := some (rd req 24 8, 8), host := some true } 8
                     (ddrWrite (rd req 24 8) (leBytes 8 (chkCtx s ctx).result.toNat) s)
                 else s
        .next (endDma ctx job St.ok s)

end Sys2Proof.Machine
end

