-- ==== Sys2Proof/Machine/Phy.lean ====
section
/-! DEFINITION. The power-line physical layer (05) in bits: sequences, frame control, body coding, constellation levels, the
loading of a map, frame durations. Wave.lean forms the carriers and the samples from them. -/

namespace Sys2Proof.Machine

/-! ### Sequences (R129) -/

/-- n bits of the recurrence x_n = x_(n-14) xor x_(n-15) from a 15-bit state whose bit i is x_(n-1-i). -/
def lfsr : Nat → Nat → List Bool
  | 0, _ => []
  | n + 1, st =>
    let b := bit st 13 != bit st 14
    b :: lfsr n (st * 2 % 2 ^ 15 + if b then 1 else 0)

/-- Whether carrier c is masked: bit c - 15 of the mask (R118, R153). -/
def masked (mask c : Nat) : Bool := bit mask (c - 15)

/-- A bit as the sign 1 - 2x. -/
def signOf (b : Bool) : Int := if b then -1 else 1

/-- The values of S1 (normal or Leek) on its carriers 8m: carrier, and the two signs over the square root of 2; a masked carrier
carries zero (R118). -/
def s1Carriers (mask : Nat) (leek : Bool) : List (Nat × Int × Int) :=
  let last := if leek then 30 else 204
  let x := lfsr (2 * (last - 1)) (if leek then 0x5E21 else 0x1D4C)
  ((List.range (last - 1)).map (fun i => (8 * (i + 2), signOf (x.getD (2 * i) false), signOf (x.getD (2 * i + 1) false)))).filter
    (fun e => !masked mask e.1)

/-- The CE sequence P(c) on the unmasked carriers of 15 to 1,638. -/
def ceSequence (mask : Nat) : List (Nat × Int) :=
  ((List.range 1624).zip ((lfsr 1624 0x6B3A).map signOf)).filterMap (fun e =>
    if masked mask (e.1 + 15) then none else some (e.1 + 15, e.2))

/-- The sign matrix W of R131, by stream and symbol from 0. -/
def ceSign (s n : Nat) : Int := if n % 4 = s + 1 then -1 else 1

/-- The scrambler sequence of R129, restarted at each body. -/
def scrambler (n : Nat) : List Bool := lfsr n 0x7FFF

/-! ### Carriers, guards and lengths -/

/-- The unmasked carriers from 15 to a bound. -/
def carriers (mask last : Nat) : List Nat := ((List.range (last - 14)).map (· + 15)).filter (fun c => !masked mask c)

/-- U and U_L (R118). -/
def unmaskedCount (mask : Nat) : Nat := (carriers mask 1638).length
def unmaskedLeek (mask : Nat) : Nat := (carriers mask 245).length

/-- Samples of a guard code (R119, R133). -/
def guardSamples (g : Nat) : Nat := if g = 0 then 384 else if g = 1 then 768 else 1536

/-- Channel-estimation symbols for S streams (R128). -/
def ceCount (streams : Nat) : Nat := if streams ≤ 1 then 1 else if streams = 2 then 2 else 4

/-- Data symbols between refresh sets (R132). -/
def refreshEvery (r : Nat) : Nat := if r = 1 then 32 else if r = 2 then 64 else 128

/-- Information columns of a rate (R139). -/
def infoCols (rate : Nat) : Nat := [18, 24, 30, 32].getD rate 18

/-- Lifting size of a codeword length code. -/
def lift (cw : Nat) : Nat := if cw = 0 then 120 else 480

/-- K and N of a code (R139). -/
def infoLen (rate cw : Nat) : Nat := infoCols rate * lift cw
def codeLen (cw : Nat) : Nat := 36 * lift cw

/-- The codeword length the device sends (R137). -/
def cwFor (octets rate : Nat) : Nat := if 8 * octets ≥ infoLen rate 1 then 1 else 0

/-- Transmitted coded bits of a body (R137). -/
def codedBits (octets rate cw : Nat) : Nat :=
  let n := ceilDiv (8 * octets) (infoLen rate cw)
  n * codeLen cw - (n * infoLen rate cw - 8 * octets)

/-- Body symbols, refresh symbols included (R142); reps is the repetition of a Leek body, 1 otherwise. DESIGN CHOICE: a body under a
map that loads no bit, where R142's quotient has no value, counts as no symbol (log 168). -/
def bodySymbols (octets rate cw bsym streams refresh reps : Nat) : Nat :=
  if octets = 0 || bsym = 0 then 0
  else
    let n := ceilDiv (reps * codedBits octets rate cw) bsym
    n + if refresh = 0 then 0 else (n - 1) / refreshEvery refresh * ceCount streams

/-- Samples of a frame (R149). -/
def frameSamples (leek : Bool) (fcType streams guard symbols : Nat) : Nat :=
  if leek then 9216 + 9 * 4864 + symbols * 4864 + 128
  else 5120 + 5632 * (1 + if fcType = 0 then ceCount streams else 0) + symbols * (4096 + guardSamples guard) + 128

/-! ### Frame control (R133, R207) -/

/-- The frame control. -/
structure Fc where
  version : Nat := 0
  fcType : Nat := 0
  mode : Nat := 0
  streams : Nat := 1
  guard : Nat := 1
  rate : Nat := 0
  cw : Nat := 0
  mapId : Nat := 15
  refresh : Nat := 0
  symbols : Nat := 0
  octets : Nat := 0
  kind : Nat := 0
  cls : Nat := 0
  tx : Nat := 0
  rx : Nat := 0
  ackReq : Bool := false
  units : Nat := 0
  attempt : Nat := 0
  firstSeq : Nat := 0
  rest : Nat := 0
  deriving DecidableEq, Repr

/-- Fields of (width, value), first sent most significant. -/
def packMsb (fs : List (Nat × Nat)) : Nat := fs.foldl (fun a f => a * 2 ^ f.1 + f.2 % 2 ^ f.1) 0

/-- The 128 bits of a frame control, f_0 most significant, with its CRC (R133). -/
def packFc (f : Fc) : Nat :=
  let v := packMsb [(2, f.version), (2, f.fcType), (2, f.mode), (2, f.streams), (2, f.guard), (2, f.rate), (1, f.cw),
    (4, f.mapId), (2, f.refresh), (13, f.symbols), (16, f.octets), (3, f.kind), (2, f.cls), (15, f.tx), (15, f.rx),
    (1, if f.ackReq then 1 else 0), (3, f.units), (4, f.attempt), (12, f.firstSeq), (9, f.rest)]
  v * 2 ^ 16 + crc16 (beBytes 14 v)

/-- The field of w bits at position pos of a frame control. -/
def fcField (fc pos w : Nat) : Nat := bits fc (128 - pos - w) w

/-- The fields of a frame control. -/
def parseFc (fc : Nat) : Fc where
  version := fcField fc 0 2
  fcType := fcField fc 2 2
  mode := fcField fc 4 2
  streams := fcField fc 6 2
  guard := fcField fc 8 2
  rate := fcField fc 10 2
  cw := fcField fc 12 1
  mapId := fcField fc 13 4
  refresh := fcField fc 17 2
  symbols := fcField fc 19 13
  octets := fcField fc 32 16
  kind := fcField fc 48 3
  cls := fcField fc 51 2
  tx := fcField fc 53 15
  rx := fcField fc 68 15
  ackReq := bit (fcField fc 83 1) 0
  units := fcField fc 84 3
  attempt := fcField fc 87 4
  firstSeq := fcField fc 91 12
  rest := fcField fc 103 9

/-- Whether the check of a frame control passes. -/
def fcValid (fc : Nat) : Bool := crc16 (beBytes 14 (bits fc 16 112)) == fc % 2 ^ 16

/-- The repetition of a Leek mode code. -/
def leekReps (mode : Nat) : Nat := if mode = 1 then 4 else 8

/-- Whether a frame control carries a reserved value (R133, R206, R207). -/
def fcReserved (f : Fc) : Bool :=
  f.version != 0 || f.fcType == 3 || f.mode == 3 || f.streams == 0 || f.guard == 3
    || (decide (9 ≤ f.mapId) && decide (f.mapId ≤ 14)) || decide (f.kind > 4) || f.rest != 0
    || decide (f.tx > 0x4000) || (decide (f.rx > 0x4000) && f.rx != 0x7FFF) || decide (f.units > 4)

/-- The combinations of R134. -/
def fcCombines (f : Fc) : Bool :=
  (if f.mode != 0 then f.streams == 1 && f.guard == 1 && f.rate == 0 && f.cw == 0 && f.mapId == 15 && f.refresh == 0
   else if f.fcType != 2 && f.mapId == 15 then f.streams == 1 && f.rate == 0 && f.cw == 0 else true)
    && (f.fcType != 1 || (f.symbols == 0 && f.octets == 0))

/-- The frame-control values of a kind (R208). -/
def kindOk (f : Fc) : Bool :=
  match f.kind with
  | 0 | 1 => f.fcType == 0 && f.ackReq == (f.rx != 0x7FFF) && decide (1 ≤ f.units)
      && (f.kind == 0 || (f.cls == 2 && f.units == 1))
  | 2 => f.fcType == 0 && !f.ackReq && f.tx == 0x4000 && f.rx == 0x7FFF && f.cls == 3 && f.mapId == 15 && f.units == 0
  | 3 => f.fcType == 1 && !f.ackReq && decide (1 ≤ f.units)
  | _ => f.fcType == 2 && !f.ackReq && f.units == 0

/-! ### Frame-control coding (R135) -/

/-- Bits of a number, most significant first. -/
def msbBits (w v : Nat) : List Bool := (List.range w).map (fun i => bit v (w - 1 - i))

/-- Parity of the bits of a number picked by a mask of 7 bits. -/
def parity7 (v m : Nat) : Bool := popcount 7 (v &&& m) % 2 == 1

/-- The convolutional encoder: the state holds the last six bits, the newest most significant. -/
def convBits : Nat → List Bool → List Bool
  | _, [] => []
  | st, b :: bs =>
    let v := (if b then 64 else 0) + st
    parity7 v 0o133 :: parity7 v 0o171 :: convBits (v / 2) bs

/-- The tail-biting state: f_122 to f_127, the last one newest. -/
def tailState (fc : Nat) : Nat := reflect 6 (fc % 64)

/-- The 256 interleaved frame-control bits: coded bit i goes to (i mod 16) * 16 + i / 16. -/
def fcCoded (fc : Nat) : List Bool :=
  let c := convBits (tailState fc) (msbBits 128 fc)
  (List.range 256).map (fun o => c.getD (o % 16 * 16 + o / 16) false)

/-! ### Body coding (R136 to R139) -/

/-- Octets as bits, each most significant first. -/
def octetBits (b : Bytes) : List Bool := b.flatMap (fun x => msbBits 8 x.toNat)

/-- Bitwise exclusive or of two blocks. -/
def xorBits (a b : List Bool) : List Bool := a.zipWith (· != ·) b

/-- (P^p u)[r] = u[(r + p) mod Z]. -/
def rotate (p : Nat) (u : List Bool) : List Bool := u.drop p ++ u.take p

/-- lambda of row i (R139). -/
def lambdaRow (m z : Nat) (blocks : List (List Bool)) (i : Nat) : List Bool :=
  let entries := (List.range blocks.length).flatMap (fun j => [0, 1, 2].map (fun t => (j, t)))
  (entries.filter (fun e => (e.1 + e.2) % m == i)).foldl (fun a e =>
    let p := ((2 * e.2 + 1) * (e.1 * (e.1 + 1) / 2) + 17 * e.2) % z
    xorBits a (rotate p (blocks.getD e.1 []))) (List.replicate z false)

/-- The parity blocks that follow p[i] (R139). -/
def parityTail (m : Nat) (lam : List (List Bool)) (p0 : List Bool) : Nat → Nat → List Bool → List (List Bool)
  | 0, _, _ => []
  | n + 1, i, p =>
    let q := xorBits (lam.getD i []) p
    let q := if i = m / 2 then xorBits q p0 else q
    q :: parityTail m lam p0 n (i + 1) q

/-- Blocks of z bits. -/
def blocksOf (z : Nat) : Nat → List Bool → List (List Bool)
  | 0, _ => []
  | n + 1, u => u.take z :: blocksOf z n (u.drop z)

/-- The parity bits of K information bits (R139). -/
def ldpcParity (rate cw : Nat) (info : List Bool) : List Bool :=
  let z := lift cw
  let m := 36 - infoCols rate
  let blocks := blocksOf z (infoCols rate) info
  let lam := (List.range m).map (lambdaRow m z blocks)
  let p0 := lam.foldl xorBits (List.replicate z false)
  let p1 := xorBits (lam.getD 0 []) (rotate 1 p0)
  (p0 :: p1 :: parityTail m lam p0 (m - 2) 1 p1).flatten

/-- One codeword of n information bits, interleaved with the shortened bits taken out (R137, R138). -/
def codeword (rate cw : Nat) (info : List Bool) : List Bool :=
  let k := infoLen rate cw
  let full := info ++ List.replicate (k - info.length) false
  let v := (full ++ ldpcParity rate cw full).toArray
  let r := if cw = 0 then 60 else 120
  let c := if cw = 0 then 72 else 144
  ((List.range (codeLen cw)).map (fun o => o % r * c + o / r)).filterMap (fun i =>
    if info.length ≤ i && i < k then none else some (v.getD i false))

/-- The codewords of scrambled bits. -/
def codewords (rate cw reps : Nat) : Nat → List Bool → List Bool
  | 0, _ => []
  | n + 1, u =>
    let w := codeword rate cw (u.take (infoLen rate cw))
    (List.replicate reps w).flatten ++ codewords rate cw reps n (u.drop (infoLen rate cw))

/-- The coded bits of a body, then its pad bits up to a whole number of symbols (R136, R142, R145). -/
def codedBody (body : Bytes) (rate cw bsym reps : Nat) : List Bool :=
  let n := 8 * body.length
  let u := xorBits (octetBits body) (scrambler n)
  let coded := codewords rate cw reps (ceilDiv n (infoLen rate cw)) u
  let pad := (bsym - coded.length % bsym) % bsym
  coded ++ (scrambler (n + pad)).drop n

/-- The level an axis takes from its bits (R143). -/
def axisLevel (g : List Bool) : Int :=
  let b := g.foldl (fun (a : List Bool) x => a ++ [(a.getLast?.getD false) != x]) []
  let i : Nat := b.foldl (fun a x => 2 * a + if x then 1 else 0) 0
  if g.isEmpty then 0 else 2 * (i : Int) - (2 ^ g.length - 1)

/-- The constellation levels of bits under loads of b bits each, in carrier and stream order (R141, R143). -/
def points : List Nat → List Bool → List (Int × Int)
  | [], _ => []
  | b :: bs, u =>
    let g := u.take b
    (axisLevel (g.take ((b + 1) / 2)), axisLevel (g.drop ((b + 1) / 2))) :: points bs (u.drop b)

/-- E of R143: the mean power of the levels of b bits. -/
def levelPower (b : Nat) : Nat := ((2 ^ (2 * ((b + 1) / 2)) - 1) + (2 ^ (2 * (b / 2)) - 1)) / 3

/-! ### The loading of a map (R141, R169) -/

/-- The load of a carrier on a stream, from 0 (R169). -/
def carrierLoad (loading : Bytes) (stream c : Nat) : Nat :=
  let b := rd loading (812 * stream + (c - 15) / 2) 1
  if (c - 15) % 2 = 0 then b / 16 else b % 16

/-- The loads in carrier and stream order, masked carriers at 0 bits (R141, R156). -/
def loadsOf (mask streams : Nat) (loading : Bytes) : List Nat :=
  (carriers mask 1638).flatMap (fun c => (List.range streams).map (fun st => carrierLoad loading st c))

/-- The loads of a frame: a loading, the robust format, or the Leek carriers (R141, R142, R145). -/
def loadsIn (mask : Nat) (leek robust : Bool) (streams : Nat) (loading : Bytes) : List Nat :=
  if leek then List.replicate (unmaskedLeek mask) 1
  else if robust then List.replicate (unmaskedCount mask) 2
  else loadsOf mask streams loading

end Sys2Proof.Machine
end

