-- ==== Sys2Proof/Machine/Cipher.lean ====
section
/-! DEFINITION. The cipher engine (11): keys, hardware nonces, frame seals and opens, cipher rings, masking and
entropy; the receive ring (10 R293) and frame submission (10 R291, R292). -/

namespace Sys2Proof.Machine

/-! ### Keys and nonces (R297 to R302) -/

def slotKey (s : State) (page slot : Nat) : Option Key := (s.cph.slots.find? (fun e => e.1 == 64 * page + slot)).map (·.2)

def setSlot (page slot : Nat) (k : Option Key) (s : State) : State :=
  match k with
  | some k => { s with cph.slots := tset s.cph.slots (64 * page + slot) k }
  | none => { s with cph.slots := tdel s.cph.slots (64 * page + slot) }

/-- What a job that needs a hardware nonce gets (R302). -/
inductive Nonce where
  | issued (n : Nat)
  | wait
  | never
  deriving DecidableEq, Repr

def ceilingOf (s : State) (page : Nat) : Nat := tget 0 s.mram.ceilings page

/-- Whether a raise of the ceiling is allowed (R302). -/
def canRaise (c : Nat) : Bool := decide (c + 2 ^ 24 ≤ 2 ^ 64 - 2 ^ 24)

/-- The journaled write that raises a page's ceiling (R302), unless one is under way. -/
def raiseCeiling (page : Nat) (s : State) : State :=
  let mine := fun (w : JWrite) => match w.target with | .ceiling p _ => p == page | _ => false
  if s.mram.journal.any mine then s
  else journalWrite { target := .ceiling page (ceilingOf s page + 2 ^ 24) } s

/-- A nonce of a page is issued once (R300), below the persisted ceiling (R302). -/
def takeNonce (page : Nat) (s : State) : Nonce × State :=
  let x := tget {} s.cph.pages page
  let c := ceilingOf s page
  if x.failed then (.never, s)
  else if x.counter < c then
    let s := { s with cph.pages := tset s.cph.pages page { x with counter := x.counter + 1 } }
    (.issued x.counter, if x.counter + 1 + 2 ^ 22 ≥ c && canRaise c then raiseCeiling page s else s)
  else if canRaise c then (.wait, raiseCeiling page s)
  else (.never, s)

/-- The 12 bytes of a device-issued nonce (R301). -/
def nonceBytes (s : State) (page slot ctr : Nat) : Bytes :=
  beBytes 1 page ++ beBytes 1 slot ++ beBytes 2 s.cph.instanceId.toNat ++ beBytes 8 ctr

/-- Work of a pipeline (R320, R504, R506). -/
def pipeUse (pipe bytes p : Nat) (host : Bool) (s : State) : State :=
  let s := count 0x0007 { pod := some p, host := some host } bytes (bump (3072 + pipe) bytes s)
  { s with cph.blocks := tset s.cph.blocks pipe (tget 0 s.cph.blocks pipe + ceilDiv bytes 16) }

/-! ### Job records in descriptor order (R318) -/

/-- The oldest job of a ring. -/
def firstJob (s : State) (p r : Nat) : Option Job := s.cph.jobs.find? (fun j => j.pod == p && j.ring == r)

/-- Whether a job is the one of a ring's descriptor. -/
def isJob (p r idx : Nat) (j : Job) : Bool := j.pod == p && j.ring == r && j.idx == idx

/-- The records of a ring's jobs that have ended are written, oldest first, up to the first still running. -/
def flushRing (p r : Nat) : Nat → State → State
  | 0, s => s
  | n + 1, s =>
    match firstJob s p r with
    | none => s
    | some j =>
      match j.ended with
      | none => s
      | some e =>
        let s := { s with cph.jobs := s.cph.jobs.filter (fun x => !isJob p r j.idx x) }
        let s := updCphRing p r (fun x => { x with owed := x.owed - 1 }) s
        flushRing p r n (cphRecord p r 0 e (rd j.desc 56 8) (bit (rd j.desc 0 1) 6) s)

/-- A job ends; its record follows in its turn. -/
def endJob (p r idx : Nat) (e : JobEnd) (s : State) : State :=
  let s := { s with cph.jobs := replaceWhere (isJob p r idx) (fun j => { j with ended := some e }) s.cph.jobs }
  flushRing p r s.cph.jobs.length s

/-- A job that ends with a status alone. -/
def noOutput (st : Status) (flight : Nat) : JobEnd := { status := st, bytesOut := 0, nonce := [], flight := flight }

/-! ### Frame seals (R303, R304) -/

/-- The additional authenticated data of a frame (R303). -/
def frameAad (origin final cls : Nat) : Bytes := beBytes 2 origin ++ beBytes 2 final ++ beBytes 1 cls ++ zeros 3

/-- The response of frame.submit (R291). -/
def submitResp (st : Status) (n : Nat) (nonce : Bytes) : Bytes := leBytes 2 st.toNat ++ zeros 2 ++ leBytes 4 n ++ nonce

/-- Whoever submitted a frame learns how its seal ended (R292, R318). -/
def sealEnds (n : Nat) (f : Flight) (st : Status) (nonce : Bytes) (bytes : Nat) (s : State) : State :=
  match f.sealer with
  | .none => s
  | .engine => s
  | .mailbox c =>
    let s := complete c st (if st = St.ok then submitResp st n nonce else statusResp st) s
    if st = St.dmaFault then mbxFault c.pod c.lane s else s
  | .ring r _ _ =>
    match s.cph.jobs.find? (fun j => j.pod == f.pod && j.ring == r && j.flight == some n) with
    | none => s
    | some j =>
      let s := if st = St.ok then s else updCphRing f.pod r (fun x => { x with owed := x.owed - 1 }) s
      let s := endJob f.pod r j.idx { status := st, bytesOut := bytes, nonce := nonce, flight := n } s
      if st = St.dmaFault then cphFault f.pod r st s else s

/-- A seal that fails (R280, R292): the frame is released with the job's status, without an outcome. -/
def failSeal (n : Nat) (st : Status) (s : State) : State :=
  if !thas s.lbf.flights n then s
  else
    let f := flight s n
    sealEnds n f st [] 0 (releaseFlight n st s)

/-- Where a frame came from, for the order of its seals: its lane, its ring, or an engine. -/
def sameSource (f g : Flight) : Bool :=
  match f.sealer, g.sealer with
  | .mailbox c, .mailbox d => c.pod == d.pod && c.lane == d.lane
  | .ring r _ _, .ring q _ _ => f.pod == g.pod && r == q
  | _, _ => false

/-- Whether a frame's seal is the next one: seals of one port, of one lane and of one ring run in admission order
(R292, R304, R318). -/
def sealTurn (s : State) (f : Flight) : Bool :=
  !s.lbf.flights.any (fun e => !e.2.enqueued && decide (e.2.order < f.order) && (e.2.port == f.port || sameSource f e.2))

/-- FRAME_SEAL (R304): the plaintext that a read of it gives, none when the read fails (R292, R319); an engine's frame
holds its own. -/
def execFrameSeal (flight_ : Nat) (plaintext : Option Bytes) (s : State) : Out :=
  let f := flight s flight_
  if !thas s.lbf.flights flight_ || f.enqueued || !s.cph.entropy.passed || !sealTurn s f then .next s
  else
    let text := match f.sealer with | .engine => some f.data | _ => plaintext
    let page := f.pod
    match text with
    | none => .next (failSeal flight_ St.dmaFault s)
    | some pt =>
      let host := match f.sealer with | .engine => false | _ => true
      let read := fun (s : State) => if host then count 0x0010 { pod := some page } pt.length s else s
      match slotKey s page f.txSlot with
      | none => .next (failSeal flight_ St.keyEmpty (read s))
      | some k =>
        if !bit k.usage.toNat 0 then .next (failSeal flight_ St.keyUsage (read s))
        else
          match takeNonce page s with
          | (.wait, s) => .next s
          | (.never, s) => .next (failSeal flight_ St.keyUsage (read s))
          | (.issued ctr, s) =>
            let s := read s
            let nonce := nonceBytes s page f.txSlot ctr
            let aad := frameAad 0x4000 f.final f.cls
            let ct := Config.gcmCipher k.bytes nonce aad pt
            let unit_ := nonce ++ ct ++ Config.gcmTag k.bytes nonce aad ct
            let s := tagCheck 1 f.port flight_ 2 (pipeUse (f.port % 4) pt.length page host s)
            match protect page f.final unit_ s with
            | (payload, s) =>
              let s := updFlight flight_ (fun f => { f with unitLen := unit_.length, nonce := nonce }) s
              .next (sealEnds flight_ f St.ok nonce unit_.length (enqueueFlight flight_ payload s))

/-! ### Submission (R291, R292, R304) -/

/-- The largest payload a port takes of a class (R211), under the profile accepted for it (R455). -/
def payloadLimit (s : State) (p cls : Nat) : Nat :=
  let byClass := if cls = 3 then 1024 else 8192
  match (port s p).line.nextProfile.getD (port s p).line.profile with
  | .longReach x8 => min byClass (if x8 then 1024 else 2048)
  | _ => byClass

/-- Whether a unit of a payload length can be sent within the air time of R211 as a frame of its own, in the robust format or, in the
Long-reach profile, in Leek mode: the formats that need no map (DESIGN CHOICE, log 166). -/
def airTimeOk (s : State) (p len : Nat) : Bool :=
  let x := port s p
  let octets := (16 + len + 3) / 4 * 4
  match x.line.nextProfile.getD x.line.profile with
  | .longReach x8 =>
    decide (frameSamples true 0 1 1 (bodySymbols octets 0 0 (unmaskedLeek x.phy.mask) 1 0 (if x8 then 8 else 4)) ≤ 3000000)
  | _ => decide (frameSamples false 0 1 (robustGuard s p) (bodySymbols octets 0 0 (2 * unmaskedCount x.phy.mask) 1 0 1) ≤ 2000000)

/-- Whether a payload breaks R211 on a port. -/
def tooLong (s : State) (p cls len : Nat) : Bool := decide (len > payloadLimit s p cls) || !airTimeOk s p len

/-- Whether a broadcast of a pod may be queued on a port (R292). -/
def mayBroadcast (s : State) (pod_ p : Nat) : Bool :=
  isOpen s p && s.eps.any (fun e => e.2.state != .free && e.2.port == p && e.2.pod == pod_)

/-- What stops a data frame before admission (R211, R241, R292, R466), none when nothing does. -/
def submitStop (s : State) (pod_ ep cls p len : Nat) (free : Status) : Option Status :=
  let port_ := if ep = 0x7FFF then p else (endpoint s ep).port
  if ep = 0x7FFF && p ≥ s.part.ports then some St.badParam
  else if ep != 0x7FFF && (endpoint s ep).state == .free then some free
  else if ep != 0x7FFF && (endpoint s ep).pod != pod_ then some St.denied
  else if tooLong s port_ cls (len + 28 + txHeaderLen s pod_ ep) then some St.frameTooLong
  else if ep = 0x7FFF && !mayBroadcast s pod_ p then some St.portState
  else if txSlotOf s pod_ ep = 0 then some St.keyEmpty
  else none

/-- A data frame's submission as admission sees it. -/
def submission (s : State) (pod_ ep cls p len : Nat) (sealer : Sealer) (route : Route) (data : Bytes) : Held where
  pod := pod_
  final := ep
  cls := cls
  len := len + 28 + txHeaderLen s pod_ ep
  port := if ep = 0x7FFF then p else (endpoint s ep).port
  cause := 0
  sealer := sealer
  route := route
  engine := false
  mgmt := false
  data := data

/-- frame.submit (R292): held at submission while admission fails, and then admitted to wait for its seal. -/
def frameSubmitBody (c : Caller) (req : Bytes) (s : State) : State × Reply :=
  let ep := rd req 0 2
  let cls := rd req 2 1
  let len := rd req 4 2
  let p := rd req 6 2
  if (ep ≥ 16384 && ep != 0x7FFF) || cls > 3 || rd req 3 1 > 1 || len = 0 || (ep != 0x7FFF && p != 0)
      || rd req 8 8 % 8 != 0 then answer St.badParam s
  else
    match submitStop s c.pod ep cls p len St.badParam with
    | some st => answer st s
    | none =>
      let route := if rd req 3 1 = 1 then Route.notice c.lane else Route.none
      let h := submission s c.pod ep cls p len (.mailbox c) route req
      match stopCause s h, freeFlight s h.port with
      | none, some n => (admitFlight n h s, .open_)
      | cause, _ => (holdSubmission h (cause.getD 2) s, .untaken)

def execFrameSubmit (c : Caller) (req : Bytes) (s : State) : Out :=
  .next (runCmd ⟨0x0803, req.length == 16, false, []⟩ c req (frameSubmitBody c req) s)

/-- A frame-seal descriptor of a ring is taken with its frame's admission (R311). -/
def takeSeal (p r n : Nat) (desc : Bytes) (s : State) : State :=
  let x := cphRing s p r
  let j : Job := { pod := p, ring := r, idx := x.cons.toNat, desc := desc, data := [], aad := [], flight := some n }
  updCphRing p r (fun x => { x with cons := x.cons + 1, held := false, owed := x.owed + 2, waitsTwo := false })
    { s with cph.jobs := s.cph.jobs ++ [j] }

/-- What an admitted submission's own mechanism does (R292, R311, R593). -/
def admitted (n : Nat) (h : Held) (s : State) : State :=
  match h.sealer with
  | .none => enqueueFlight n h.data s
  | .engine => s
  | .ring r _ _ => takeSeal h.pod r n h.data s
  | .mailbox c =>
    let cmd : Cmd := { caller := c, code := 0x0803, req := h.data }
    let s := { s with mgmt.executing := s.mgmt.executing ++ [{ cmd := cmd, committed := false, resources := [] }] }
    if h.atCons then
      count 0x0009 { cls := some c.lane, pod := some c.pod } 1
        (bump 3076 1 (updMbxLane c.pod c.lane (fun x => { x with cons := x.cons + 1 }) s))
    else s

/-- Whether two submissions come from one lane, one ring or one engine queue. -/
def sameHeld (h g : Held) : Bool :=
  match h.sealer, g.sealer with
  | .mailbox c, .mailbox d => c.pod == d.pod && c.lane == d.lane
  | .ring r _ _, .ring q _ _ => h.pod == g.pod && r == q
  | .none, .none => h.port == g.port && h.cls == g.cls && h.final == g.final
  | .engine, .engine => h.port == g.port && h.cls == g.cls && h.final == g.final
  | _, _ => false

/-- HELD_SUBMISSION_ADMIT (R36, R276): the held submission idx is admitted when it is the first of its source and of its pod, endpoint
and class, its descriptor may be taken and every check passes. -/
def execHeldSubmissionAdmit (idx : Nat) (s : State) : Out :=
  match s.lbf.held[idx]? with
  | none => .next s
  | some h =>
    if (s.lbf.held.take idx).any (fun g => sameHeld h g || sameFlow h g) || !mayTakeHeld s h then .next s
    else
      match admitCause s h, freeFlight s h.port with
      | none, some n => .next (admitted n h (admitFlight n h { s with lbf.held := s.lbf.held.eraseIdx idx }))
      | _, _ => .next s

/-! ### Uplink (R305, R594, R293) -/

/-- The active slot that carries a port's uplink units of a pod, and whether sealed (R363, R367). -/
def uplinkSlot (s : State) (p pod_ : Nat) : Option (Nat × Bool) :=
  let entry := fun (k : Nat) => tsiEntry s.part (activePage s) k
  ((List.range s.part.slots).find? (fun k =>
    (entry k).txType == 1 && (entry k).txArg == p && ((entry k).txPod == pod_ || (entry k).txPod == allPods))).map
      (fun k => (k, bit (entry k).txFlags 0))

/-- The replay window of an endpoint (R305): none when the counter is rejected, else the window after it. -/
def replayAccept (e : Endpoint) (ctr : Nat) : Option Endpoint :=
  match e.highest with
  | none => some { e with highest := some ctr, window := 1 }
  | some h =>
    if ctr > h then
      some { e with highest := some ctr,
                    window := if ctr - h ≥ 64 then 1 else (e.window <<< (ctr - h)) ||| 1 }
    else if h - ctr ≥ 64 || bit e.window.toNat (h - ctr) then none
    else some { e with window := e.window ||| BitVec.ofNat 64 (2 ^ (h - ctr)) }

def updEndpoint (e : Nat) (f : Endpoint → Endpoint) (s : State) : State :=
  { s with eps := tset s.eps e (f (endpoint s e)) }

/-- A unit whose tag or nonce context fails (R25): released, raised, and counted against the hop that sent it. -/
def authFails (n : Nat) (r : Reasm) (s : State) : State :=
  let s := count 0x0008 { port := some r.port, pod := some r.pod } 1 (dropReasm n s)
  raisePort r.port 2 1 r.ep n (countSecurity r.port r.src s)

/-- A unit that a poisoned word makes fail its tag (R282): counted as one that failed, but not against the hop that sent it. -/
def poisonFails (n : Nat) (r : Reasm) (s : State) : State :=
  let s := count 0x0008 { port := some r.port, pod := some r.pod } 1 (dropReasm n (reasmPoison n r s))
  raisePort r.port 1 4 noArg n s

/-- UPLINK_OPEN (R305, R310, R594); a poisoned word makes the unit fail without counting, and goes with a unit that passes through to
the trunk (R282). -/
def execUplinkOpen (flight_ : Nat) (poison : Bool) (s : State) : Out :=
  match reasm s flight_ with
  | none => .next s
  | some r =>
    let e := endpoint s r.ep
    let r := { r with pod := e.pod }
    if r.ready || !s.cph.entropy.passed then .next s
    else if e.state == .free || (pod s e.pod).resetting then .next (dropReasm flight_ s)
    else if ((uplinkSlot s r.port e.pod).map (·.2)).getD false then
      .next (setReasm flight_ { r with ready := true, passThrough := true, poisoned := poison }
        (if poison then reasmPoison flight_ r s else s))
    else if poison && e.rxSlot == some 0xFF then
      .next (poisonFails flight_ r s)
    else if e.rxSlot == some 0xFF then .next (setReasm flight_ { r with ready := true, passThrough := true } s)
    else
      match e.rxSlot with
      | none => .next (dropReasm flight_ s)
      | some slot =>
        let usable := (slotKey s e.pod slot).filter (fun k => bit k.usage.toNat 0)
        match usable with
        | none =>
          let s := dropReasm flight_ s
          .next (if s.sec.tamper then s else raisePort r.port 2 4 r.ep flight_ s)
        | some k =>
          if poison then
            .next (poisonFails flight_ r s)
          else
            let s := pipeUse (r.port % 4) r.data.length e.pod true s
            let nonce := r.data.take 12
            let ct := (r.data.drop 12).take (r.data.length - 28)
            let tag := r.data.drop (r.data.length - 16)
            let aad := frameAad r.ep 0x4000 r.cls
            let ctr := beNat (nonce.drop 4)
            let context := rd nonce 0 1 == 0x80 && rd nonce 1 1 == slot && rdBe nonce 2 2 == r.ep
            if r.data.length < 28 || !context || Config.gcmTag k.bytes nonce aad ct != tag then .next (authFails flight_ r s)
            else
              match replayAccept e ctr with
              | none =>
                let s := count 0x0008 { port := some r.port, pod := some r.pod } 1 (dropReasm flight_ s)
                .next (raisePort r.port 2 2 r.ep flight_ s)
              | some e' =>
                let text := Config.gcmCipher k.bytes nonce aad ct
                let s := tagCheck 2 r.port flight_ 6 (updEndpoint r.ep (fun _ => e') s)
                .next (setReasm flight_ { r with ready := true, opened := true, counter := ctr, data := text } s)

/-- The entry of a receive ring (R293). -/
def rxEntry (r : Reasm) (overruns : Nat) : Bytes :=
  pad64 (leBytes 8 r.time.toNat ++ leBytes 2 r.ep ++ leBytes 2 r.port ++ leBytes 1 r.cls
    ++ leBytes 1 ((if r.opened then 1 else 0) + (if r.passThrough then 2 else 0)) ++ leBytes 2 r.data.length
    ++ leBytes 2 r.seq ++ leBytes 1 r.quality ++ zeros 1 ++ leBytes 4 overruns
    ++ (if r.opened then leBytes 8 r.counter else zeros 8) ++ r.data)

/-- Whether an older unit of the same endpoint and class still waits (R293, R363). -/
def olderUnit (s : State) (r : Reasm) : Bool :=
  s.lbf.reasms.any (fun e => e.2.ep == r.ep && e.2.cls == r.cls && decide (e.2.order < r.order))

/-- A unit has reached its destination (R270): released, counted, its tag ended. -/
def delivered (n : Nat) (r : Reasm) (s : State) : State :=
  let s := count 0x0006 { port := some r.port, cls := some r.cls, pod := some r.pod } 1 (releaseReasm n s)
  tagEnd 2 r.port n false false 0 (tagCheck 2 r.port n 7 s)

/-- RX_RING_WRITE (R293): a write that fails disables the ring; units of pod 0 wait while the firmware does not run. -/
def execRxRingWrite (flight_ : Nat) (consumer : Option Nat) (s : State) : Out :=
  match reasm s flight_ with
  | none => .next s
  | some r =>
    let x := podLbf s r.pod
    if !r.ready || !x.rxEnable || olderUnit s r || (uplinkSlot s r.port r.pod).isSome
        || (r.pod == 0 && s.mgmt.fwState != .running) then .next s
    else
      let ring : RingAt := { fn := r.pod, base := x.rxBase, ctrl := x.rxCtrl, log2 := x.rxLog2 }
      if !hostOk s r.pod then .next (updPodLbf r.pod (fun x => { x with rxEnable := false }) s)
      else
        match ringWrite ring x.rxProd x.rxCons (rxEntry r x.overruns.toNat) consumer s with
        | (s, prod, cons, wrote) =>
          let s := updPodLbf r.pod (fun x =>
            { x with rxProd := prod, rxCons := cons, overruns := if wrote then 0 else x.overruns }) s
          .next (if wrote then delivered flight_ r s else s)

/-! ### Descriptors (R295, R296, R311, R317) -/

/-- The fields of a descriptor. -/
structure Desc where
  mode : Nat
  dec : Bool
  frame : Bool
  supplied : Bool
  slot : Nat
  tagLen : Nat
  nonceLen : Nat
  len : Nat
  aadLen : Nat
  ep : Nat
  cls : Nat
  port : Nat
  dst : Nat
  nonce : Bytes

def parseDesc (d : Bytes) : Desc where
  mode := bits (rd d 0 1) 0 3
  dec := bit (rd d 0 1) 3
  frame := bit (rd d 0 1) 4
  supplied := bit (rd d 0 1) 5
  slot := rd d 1 1
  tagLen := rd d 2 1
  nonceLen := rd d 3 1
  len := rd d 4 4
  aadLen := rd d 8 2
  ep := rd d 10 2
  cls := rd d 12 1
  port := rd d 14 2
  dst := rd d 24 8
  nonce := slice d 40 (rd d 3 1)

/-- Whether a mode's own fields are in range (R295, R296, R317). -/
def modeOk (x : Desc) : Bool :=
  match x.mode with
  | 0 => x.nonceLen == 12 && [12, 16].contains x.tagLen && (x.supplied || !x.dec)
  | 1 => decide (7 ≤ x.nonceLen) && decide (x.nonceLen ≤ 13) && (x.supplied || (!x.dec && x.nonceLen == 12))
      && [4, 6, 8, 10, 12, 14, 16].contains x.tagLen && decide (x.len ≤ 2 ^ (8 * (15 - x.nonceLen)) - 1)
  | 2 => x.supplied && x.nonceLen == 16 && x.tagLen == 0 && x.aadLen == 0
      && decide (beNat (x.nonce.drop 8) + ceilDiv x.len 16 ≤ 2 ^ 64)
  | 3 => !x.supplied && x.nonceLen == 0 && x.tagLen == 0 && x.aadLen == 0 && decide (16 ≤ x.len) && decide (x.len ≤ 4096)
      && x.len % 8 == 0
  | 4 => !x.supplied && x.nonceLen == 0 && x.tagLen == 0 && x.aadLen == 0 && decide (1 ≤ x.len) && decide (x.len ≤ 4096)
  | _ => false

/-- Whether a descriptor has every field in range and every reserved byte zero (R317, R319). -/
def descOk (d : Bytes) : Bool :=
  let x := parseDesc d
  d.length == 64 && !bit (rd d 0 1) 7 && rd d 13 1 == 0 && decide (1 ≤ x.slot) && decide (x.slot ≤ 63) && modeOk x
    && (if x.frame then
          x.mode == 0 && !x.dec && !x.supplied && x.tagLen == 16 && x.aadLen == 0 && x.dst == 0 && decide (x.cls ≤ 3)
            && (decide (x.ep < 16384) || x.ep == 0x7FFF) && (x.ep == 0x7FFF || x.port == 0)
        else x.ep == 0 && x.cls == 0 && x.port == 0)

/-- Whether a memory job is held until its tag or integrity value is verified (R296, R310). -/
def heldJob (x : Desc) : Bool := x.dec && x.mode != 2

/-- The usage bit a memory job needs (R298). -/
def usageBit (x : Desc) : Nat := if x.mode ≤ 2 then x.mode + 1 else if x.dec then 5 else 4

/-- Bytes of the held buffer that memory jobs of a pipeline take (R309). -/
def heldUse (s : State) (pipe : Nat) : Nat :=
  ((s.cph.jobs.filter (fun j => j.key.isSome && j.ended.isNone && j.pipe == pipe && heldJob (parseDesc j.desc))).map
    (fun j => (parseDesc j.desc).len)).sum

/-- The lowest pipeline that can start a memory job of a pod (R306, R309): a held job needs room for its output, and a
pod runs one on a pipeline at a time. -/
def pipeFor (s : State) (p : Nat) (x : Desc) : Option Nat :=
  if !heldJob x then some 0
  else (List.range 4).find? (fun q =>
    decide (heldUse s q + x.len ≤ 1536 * 1024)
      && !s.cph.jobs.any (fun j => j.pod == p && j.key.isSome && j.ended.isNone && j.pipe == q && heldJob (parseDesc j.desc)))

/-- A memory job starts (R299, R300): it takes its key and, when it needs one, its nonce; it ends at once when it may not
have them, and stays as it is while it must wait. -/
def startJob (j : Job) (s : State) : State :=
  let x := parseDesc j.desc
  let fail := fun (st : Status) (s : State) => endJob j.pod j.ring j.idx (noOutput st 0xFFFFFFFF) s
  if j.key.isSome || j.ended.isSome || j.flight.isSome || !s.cph.entropy.passed then s
  else
    match slotKey s j.pod x.slot, pipeFor s j.pod x with
    | none, _ => fail St.keyEmpty s
    | some _, none => s
    | some k, some q =>
      if !bit k.usage.toNat (usageBit x) then fail St.keyUsage s
      else
        let start := fun (nonce : Bytes) (s : State) =>
          let s := { s with cph.jobs := replaceWhere (isJob j.pod j.ring j.idx)
                              (fun j => { j with key := some k, pipe := q, nonce := nonce }) s.cph.jobs }
          pipeUse q x.len j.pod true s
        if x.supplied || x.mode ≥ 3 then start [] s
        else
          match takeNonce j.pod s with
          | (.wait, s) => s
          | (.never, s) => fail St.keyUsage s
          | (.issued ctr, s) => start (nonceBytes s j.pod x.slot ctr) s

/-- What a started memory job puts out (R295, R296): none when its tag or integrity value fails. -/
def jobOutput (j : Job) (k : Key) : Option Bytes :=
  let x := parseDesc j.desc
  let nonce := if x.supplied then x.nonce else j.nonce
  let text := j.data.take x.len
  let tag := (j.data.drop x.len).take x.tagLen
  match x.mode with
  | 0 =>
    if x.dec then
      if (Config.gcmTag k.bytes nonce j.aad text).take x.tagLen = tag then some (Config.gcmCipher k.bytes nonce j.aad text)
      else none
    else
      let ct := Config.gcmCipher k.bytes nonce j.aad text
      some (ct ++ (Config.gcmTag k.bytes nonce j.aad ct).take x.tagLen)
  | 1 =>
    let other := Config.ccmCipher k.bytes nonce j.aad text
    if x.dec then if Config.ccmTag k.bytes nonce j.aad other x.tagLen = tag then some other else none
    else some (other ++ Config.ccmTag k.bytes nonce j.aad text x.tagLen)
  | 2 => some (Config.ctrCipher k.bytes nonce text)
  | _ => if x.dec then Config.keyUnwrap (x.mode == 4) k.bytes text else some (Config.keyWrap (x.mode == 4) k.bytes text)

/-- A memory descriptor, or a frame seal that completes without admission, is taken. -/
def takeJob (p r : Nat) (j : Job) (s : State) : State :=
  updCphRing p r (fun x => { x with cons := x.cons + 1, owed := x.owed + 1, waitsTwo := false }) { s with cph.jobs := s.cph.jobs ++ [j] }

/-- CIPHER_DESCRIPTOR_TAKE (R311): a failed read of the descriptor itself takes nothing and faults the ring (R319). The
data of io are the input, then the additional authenticated data. -/
def execCipherDescriptorTake (pod_ ring : Nat) (desc : Bytes) (io : DescIo) (s : State) : Out :=
  if pod_ > 64 || ring > 3 then .fault .absentResource
  else
    let x := cphRing s pod_ ring
    let d := parseDesc desc
    let need := if d.frame && descOk desc then 2 else 1
    if !x.enable || x.fault || x.prod == x.cons || x.held || !s.cph.entropy.passed || (pod s pod_).resetting then .next s
    else if !ringRoom x need then .next (updCphRing pod_ ring (fun x => { x with waitsTwo := need == 2 }) s)
    else if io.descFails then .next (cphFault pod_ ring St.dmaFault s)
    else
      let s := count 0x0010 { pod := some pod_ } 64 s
      let inLen := d.len + if d.dec then d.tagLen else 0
      let j : Job := { pod := pod_, ring := ring, idx := x.cons.toNat, desc := desc, data := io.data.take inLen,
                       aad := (io.data.drop inLen).take d.aadLen, flight := none }
      let stop := fun (st : Status) (s : State) =>
        endJob pod_ ring j.idx (noOutput st 0xFFFFFFFF) (takeJob pod_ ring j s)
      if !descOk desc then .next (stop St.badParam s)
      else if d.frame then
        match submitStop s pod_ d.ep d.cls d.port d.len St.denied with
        | some st => .next (stop st s)
        | none =>
          let tag := BitVec.ofNat 64 (rd desc 56 8)
          let raiseIt := bit (rd desc 0 1) 6
          let h := submission s pod_ d.ep d.cls d.port d.len (.ring ring tag raiseIt) (.ring ring tag raiseIt) desc
          match stopCause s h, freeFlight s h.port with
          | none, some n => .next (takeSeal pod_ ring n desc (admitFlight n h s))
          | cause, _ => .next (holdSubmission h (cause.getD 2) (updCphRing pod_ ring (fun x => { x with held := true }) s))
      else if heldJob d && d.mode ≤ 1 && d.len > 262144 then .next (stop St.msgTooLong s)
      else if io.readFails then .next (cphFault pod_ ring St.dmaFault (stop St.dmaFault s))
      else .next (startJob j (takeJob pod_ ring j (count 0x0010 { pod := some pod_ } io.data.length s)))

/-- CIPHER_JOB_COMPLETE (R310, R318, R319): a memory job that waited starts; one that runs to its end writes its output,
when its tag or integrity value passes, and its record. -/
def execCipherJobComplete (pod_ ring idx : Nat) (s : State) : Out :=
  match s.cph.jobs.find? (isJob pod_ ring idx) with
  | none => .next s
  | some j =>
    let s := startJob j s
    match s.cph.jobs.find? (isJob pod_ ring idx) with
    | none => .next s
    | some j =>
      match j.key, j.ended with
      | some k, none =>
        let ends := fun (st : Status) (n : Nat) (s : State) =>
          endJob pod_ ring idx { status := st, bytesOut := n, nonce := j.nonce, flight := 0xFFFFFFFF } s
        match jobOutput j k with
        | none => .next (ends St.authFailed 0 s)
        | some out =>
          if !hostOk s pod_ then .next (cphFault pod_ ring St.dmaFault (ends St.dmaFault 0 s))
          else .next (ends St.ok out.length (hostWrite pod_ (parseDesc j.desc).dst out s))
      | _, _ => .next s

/-! ### Ring registers (R314 to R316, R319) -/

def validRing (p r : Nat) : Bool := decide (p ≤ 64) && decide (r ≤ 3)

/-- A write to a ring's registers: of a ring there is, while the page takes writes. -/
def onRingRegs (pod_ ring : Nat) (s : State) (f : State → State) : Out :=
  if validRing pod_ ring then .next (if pageOpen s pod_ then f s else s) else .fault .absentResource

/-- CPH_RING_DOORBELL (R314). -/
def execCphRingDoorbell (pod_ ring prod : Nat) (s : State) : Out :=
  onRingRegs pod_ ring s (updCphRing pod_ ring (fun x => { x with prod := BitVec.ofNat 32 prod }))

/-- ENABLE of a ring set or cleared (R316). -/
def cphEnable (on : Bool) (x : CphRing) : CphRing :=
  let bad := fun (n : Nat) => decide (n < 6) || decide (n > 16)
  if !on then { x with enable := false }
  else if bad x.sizeLog2.toNat || bad x.cmplLog2.toNat then { x with enable := false, fault := true, errStatus := St.badParam }
  else { x with enable := true }

/-- CPH_RING_ENABLE (R316). -/
def execCphRingEnable (pod_ ring : Nat) (on : Bool) (s : State) : Out :=
  onRingRegs pod_ ring s (updCphRing pod_ ring (cphEnable on))

/-- CPH_RING_FAULT_CLEAR (R319): the ring resumes at CONS. -/
def execCphRingFaultClear (pod_ ring : Nat) (s : State) : Out :=
  onRingRegs pod_ ring s (updCphRing pod_ ring (fun x => { x with fault := false }))

/-- CPH_CMPL_CONS_UPDATE (R311, R316). -/
def execCphCmplConsUpdate (pod_ ring cons : Nat) (s : State) : Out :=
  onRingRegs pod_ ring s (updCphRing pod_ ring (fun x => { x with cmplCons := BitVec.ofNat 32 cons }))

/-! ### Masking and entropy (R320, R321) -/

/-- MASK_RESEED (R320): the source reseeds a pipeline after 2^16 blocks while it is healthy. -/
def execMaskReseed (pipe : Nat) (s : State) : Out :=
  if pipe > 3 then .fault .absentResource
  else if s.cph.entropy.healthy && decide (tget 0 s.cph.blocks pipe ≥ 2 ^ 16) then
    .next { s with cph.blocks := tset s.cph.blocks pipe (tget 0 s.cph.blocks pipe % 2 ^ 16) }
  else .next s

/-- A health test fails (R321). -/
def entropyFails (s : State) : State :=
  raiseSys 10 1 0 0
    { s with cph.entropy.failCount := satAdd s.cph.entropy.failCount 1, cph.entropy.failSeen := true,
             cph.entropy.healthy := false, cph.entropy.retestAt := s.now + secs 1 }

/-- ENTROPY_HEALTH_FAIL (R321). -/
def execEntropyHealthFail (s : State) : Out := .next (if s.pwr.phase != .running then s else entropyFails s)

/-- ENTROPY_RETEST (R321): one second after a failure, and every second until a pass; the start-up tests that pass for the
first time since reset let the engine take jobs (R320). -/
def execEntropyRetest (pass : Bool) (s : State) : Out :=
  if s.pwr.phase != .running || s.cph.entropy.healthy then .next s
  else
    let s := advanceTo s.cph.entropy.retestAt s
    if pass then .next { s with cph.entropy.healthy := true, cph.entropy.passed := true }
    else .next { s with cph.entropy.retestAt := s.cph.entropy.retestAt + secs 1 }

/-! ### Key and binding commands (R325 to R327) -/

/-- The record of a page and slot, when the store holds one. -/
def keyRecord (s : State) (page slot : Nat) : Option KeyRec :=
  (s.mram.records.find? (fun e => e.1 == 64 * page + slot)).map (·.2)

/-- The record a key is persisted as now (R491). -/
def recordOf (s : State) (page : Nat) (k : Key) : KeyRec :=
  { key := k, kwk := s.sec.kwk.getD 0, pageGen := tget 0 s.mram.pageGens page, storeGen := s.mram.storeGen }

/-- Why the lifecycle state refuses a key command (R482): every one in Manufacturing and Decommissioned, those of tenant pods in
Provisioning. -/
def keyStop (s : State) (c : Caller) : Option Status :=
  if s.sec.lifecycle = 0 || s.sec.lifecycle = 3 then some St.lifecycle
  else if s.sec.lifecycle = 1 && c.pod != 0 then some St.denied
  else none

/-- A key command runs only where the lifecycle state allows it. -/
def keyCommand (c : Caller) (s : State) (body : State × Reply) : State × Reply :=
  match keyStop s c with
  | some st => answer st s
  | none => body

/-- key.load (R325, R326, R497): a persisted key, or one that replaces a persisted record, takes its slot when its
journaled write commits. -/
def keyLoadBody (c : Caller) (req : Bytes) (s : State) : State × Reply :=
  let slot := rd req 0 1
  let size := rd req 1 1
  let usage := rd req 2 1
  let n := rd req 4 2
  if slot < 1 || slot > 63 || size > 1 || usage = 0 || usage ≥ 64 || rd req 3 1 > 1 || (n != 24 && n != 40)
      || (slice req (8 + n) (40 - n)).any (· != 0) then answer St.badParam s
  else if s.sec.tamper then answer St.tamperLatched s
  else
    match slotKey s c.pod 0 with
    | none => answer St.keyEmpty s
    | some kek =>
      match Config.keyUnwrap true kek.bytes (slice req 8 n) with
      | none => answer St.authFailed s
      | some bytes =>
        if bytes.length != 16 * (size + 1) || n != 8 + 16 * (size + 1) then answer St.authFailed s
        else
          let k : Key := { bytes := bytes, usage := BitVec.ofNat 8 usage }
          let index := 64 * c.pod + slot
          let write := fun (r : Option KeyRec) =>
            (journalWrite { target := .keyRecord index r, slot := some (index, k), caller := some c, status := St.ok,
                            resp := statusResp St.ok, keyOp := true } s, Reply.held)
          if rd req 3 1 = 1 then write (some (recordOf s c.pod k))
          else if (keyRecord s c.pod slot).isSome then write none
          else answer St.ok (setSlot c.pod slot (some k) s)

def execKeyLoad (c : Caller) (req : Bytes) (s : State) : Out :=
  .next (runCmd ⟨0x0901, shaped req 48 [(6, 2)], false, [.keySlot (64 * c.pod + rd req 0 1)]⟩ c req
    (fun s => keyCommand c s (keyLoadBody c req s)) s)

/-- Every job and unsealed frame that names a slot ends with ST_KEY_EMPTY (R299). -/
def squashSlot (page slot : Nat) (s : State) : State :=
  let js := s.cph.jobs.filter (fun j => j.pod == page && j.flight.isNone && j.ended.isNone && (parseDesc j.desc).slot == slot)
  let s := js.foldl (fun s j =>
    endJob j.pod j.ring j.idx { status := St.keyEmpty, bytesOut := 0, nonce := j.nonce, flight := 0xFFFFFFFF } s) s
  let fs := s.lbf.flights.filter (fun e => e.2.pod == page && !e.2.enqueued && e.2.txSlot == slot)
  fs.foldl (fun s e => failSeal e.1 St.keyEmpty s) s

/-- key.clear (R299, R327): the record is erased by a journaled write. -/
def keyClearBody (c : Caller) (req : Bytes) (s : State) : State × Reply :=
  let slot := rd req 0 1
  if slot < 1 || slot > 63 then answer St.badParam s
  else
    let s := squashSlot c.pod slot (setSlot c.pod slot none s)
    if (keyRecord s c.pod slot).isSome then
      (journalWrite { target := .keyRecord (64 * c.pod + slot) none, caller := some c, status := St.ok,
                      resp := statusResp St.ok, keyOp := true } s, .held)
    else answer St.ok s

def execKeyClear (c : Caller) (req : Bytes) (s : State) : Out :=
  .next (runCmd ⟨0x0902, shaped req 8 [(1, 7)], false, [.keySlot (64 * c.pod + rd req 0 1)]⟩ c req
    (fun s => keyCommand c s (keyClearBody c req s)) s)

/-- cipher.bind (R327). -/
def cipherBindBody (c : Caller) (req : Bytes) (s : State) : State × Reply :=
  let ep := rd req 0 2
  let tx := rd req 2 1
  let rx := rd req 3 1
  if (ep ≥ 16384 && ep != 0x7FFF) || tx < 1 || tx > 63 || rx = 0 || (rx > 63 && rx != 0xFF) || (ep = 0x7FFF && rx != 0xFF) then
    answer St.badParam s
  else if ep = 0x7FFF then answer St.ok { s with cph.bcast := tset s.cph.bcast c.pod tx }
  else
    let e := endpoint s ep
    if e.state == .free then answer St.notAdmitted s
    else if e.pod != c.pod then answer St.denied s
    else
      let reset := e.rxSlot != some rx
      answer St.ok (mirrorEp ep (updEndpoint ep (fun e =>
        { e with txSlot := some tx, rxSlot := some rx, highest := if reset then none else e.highest,
                 window := if reset then 0 else e.window }) s))

def execCipherBind (c : Caller) (req : Bytes) (s : State) : Out :=
  .next (runCmd ⟨0x0903, shaped req 8 [(4, 4)], false, [.endpoint (rd req 0 2)]⟩ c req (cipherBindBody c req) s)

/-- cipher.configure (R302, R327): an identifier never used before lets pages whose ceilings were lost resume. -/
def cipherConfigureBody (req : Bytes) (s : State) : State × Reply :=
  let v := rd req 0 2
  let fresh := v != 0 && !s.cph.usedIds.contains v
  let failed := (s.cph.pages.filter (fun e => e.2.failed)).map (·.1)
  let s := { s with cph.instanceId := BitVec.ofNat 16 v, cph.usedIds := if fresh then s.cph.usedIds ++ [v] else s.cph.usedIds }
  let resume := fun (s : State) (page : Nat) =>
    raiseCeiling page { s with cph.pages := tset s.cph.pages page {}, mram.ceilings := tset s.mram.ceilings page 0 }
  answer St.ok (if fresh then failed.foldl resume s else s)

def execCipherConfigure (c : Caller) (req : Bytes) (s : State) : Out :=
  .next (runCmd ⟨0x0904, shaped req 8 [(2, 6)], true, []⟩ c req (cipherConfigureBody req) s)

end Sys2Proof.Machine
end

