-- ==== Sys2Proof/Machine/Wave.lean ====
section
/-! DEFINITION. The waveform of a transmission (05 R117 to R147; 03 R63, R64): carrier values, streams, modes, lanes, the
inverse FFT, windows and converter words. -/

namespace Sys2Proof.Machine

/-- Values by carrier: of each stream, of each mode, or of one lane. -/
abbrev Carried := List (Nat × List Cx)

/-! ### What a wave is -/

def waveFc (w : Wave) : Fc := parseFc w.fc

/-- Whether a wave is a Leek frame, and whether its body is single-stream on cycled modes (R125). -/
def waveLeek (w : Wave) : Bool := (waveFc w).mode != 0
def waveCycled (w : Wave) : Bool := waveLeek w || ((waveFc w).mapId == 15 && (waveFc w).fcType != 2)

/-- The repetition of a body (R145). -/
def waveReps (w : Wave) : Nat := if waveLeek w then leekReps (waveFc w).mode else 1

/-- The loads of a wave's body symbols. -/
def waveLoads (w : Wave) : List Nat := loadsIn w.mask (waveLeek w) ((waveFc w).mapId == 15) (waveFc w).streams w.loading

/-- The guard of a body symbol, and its period. -/
def waveGuard (w : Wave) : Nat := if waveLeek w then 768 else guardSamples (waveFc w).guard
def wavePeriod (w : Wave) : Nat := 4096 + waveGuard w

/-- Channel-estimation symbols ahead of the body (R128, R144). -/
def waveCe (w : Wave) : Nat := if waveLeek w || (waveFc w).fcType != 0 then 0 else ceCount (waveFc w).streams

/-- Where the body begins, from the frame start (R128, R144). -/
def waveBody (w : Wave) : Nat := if waveLeek w then 9216 + 9 * 4864 else 5120 + 5632 * (1 + waveCe w)

/-- Body symbols of a wave, refresh symbols included (R142). -/
def waveSymbols (w : Wave) : Nat := if (waveFc w).fcType = 2 then w.sounding else (waveFc w).symbols

/-! ### Modes, streams and lanes (R123 to R126) -/

/-- The signal of a mode on the lanes A, B, C and N (R123). -/
def modeLanes (lanes : Nat) : List (List Fx) :=
  let h := fxOne / 2
  match bitPositions 4 lanes with
  | [_, _, _, _] => [[h, h, -h, -h], [h, -h, h, -h], [h, -h, -h, h]]
  | [a, b, c] =>
    let at_ := fun (x y z : Fx) => (List.range 4).map (fun k => if k = a then x else if k = b then y else if k = c then z else 0)
    [at_ (fxInvSqrt 2) (-fxInvSqrt 2) 0, at_ (fxInvSqrt 6) (fxInvSqrt 6) (-2 * fxInvSqrt 6)]
  | _ => [[fxInvSqrt 2, 0, 0, -fxInvSqrt 2]]

def waveModes (w : Wave) : Nat := (modeLanes w.lanes).length

/-- The angles of R126 in order, each as its column, its row (none for phi) and its width in bits. -/
def angleOrder (modes streams : Nat) : List (Nat × Nat × Option Nat × Nat) :=
  let phi := fun (i r : Nat) => (i, r, none, 6)
  let psi := fun (i r : Nat) => (i, r, some r, 4)
  if modes = 3 then
    [phi 0 0, phi 0 1, psi 0 1, psi 0 2] ++ (if streams = 1 then [] else [phi 1 1, psi 1 2])
  else if modes = 2 then [phi 0 0, psi 0 1] else []

/-- The angles of one group as the feedback packs them, each k of k pi / 32 + pi / 64 = (2 k + 1) / 128 of a turn. -/
def groupAngles (feedback : Bytes) (modes streams g : Nat) : List (Nat × Nat × Option Nat × Nat) :=
  let order := angleOrder modes streams
  let width := (order.map (·.2.2.2)).sum
  let field := fun (off w : Nat) => rdBe feedback (off / 8) 2 / 2 ^ (16 - off % 8 - w) % 2 ^ w
  (order.foldl (fun (a : Nat × List (Nat × Nat × Option Nat × Nat)) x =>
    (a.1 + x.2.2.2, a.2 ++ [(x.1, x.2.1, x.2.2.1, 2 * field a.1 x.2.2.2 + 1)])) (g * width, [])).2

/-- D_i of the Givens form on a mode vector: the phases of column i. -/
def applyPhases (angles : List (Nat × Nat × Option Nat × Nat)) (i : Nat) (v : List Cx) : List Cx :=
  (angles.filter (fun a => a.1 == i && a.2.2.1.isNone)).foldl (fun v a =>
    v.set a.2.1 (cxMul (turn a.2.2.2 128) (v.getD a.2.1 (0, 0)))) v

/-- The transposed Givens rotations of column i on a mode vector, the last row first. -/
def applyRotations (angles : List (Nat × Nat × Option Nat × Nat)) (i : Nat) (v : List Cx) : List Cx :=
  ((angles.filter (fun a => a.1 == i && a.2.2.1.isSome)).reverse).foldl (fun v a =>
    let c := turnCos a.2.2.2 128
    let s := turnSin a.2.2.2 128
    let x := v.getD i (0, 0)
    let y := v.getD a.2.1 (0, 0)
    (v.set i (cxSub (cxScale c x) (cxScale s y))).set a.2.1 (cxAdd (cxScale s x) (cxScale c y))) v

/-- Column s of Q(g) (R124, R126): of the identity with no feedback. -/
def precodeColumn (feedback : Bytes) (modes streams g s : Nat) : List Cx :=
  let unit := (List.range modes).map (fun m => if m = s then (fxOne, 0) else (0, 0))
  if feedback.isEmpty || modes ≤ 1 then unit
  else
    let angles := groupAngles feedback modes streams g
    [1, 0].foldl (fun v i => applyPhases angles i (applyRotations angles i v)) unit

/-- z(c) = Q(g) s(c) / sqrt(S) (R124). -/
def precode (feedback : Bytes) (modes streams c : Nat) (v : List Cx) : List Cx :=
  let cols := (List.range streams).map (fun s => (precodeColumn feedback modes streams ((c - 15) / 8) s, v.getD s (0, 0)))
  (List.range modes).map (fun m =>
    cxScale (fxInvSqrt streams) (cxSum (cols.map (fun e => cxMul (e.1.getD m (0, 0)) e.2))))

/-- A single value on mode (c mod M) + 1 (R125). -/
def cycleMode (modes c : Nat) (v : Cx) : List Cx := (List.range modes).map (fun m => if m = c % modes then v else (0, 0))

/-- Stream values on the modes. -/
def onModes (w : Wave) (cycled : Bool) (feedback : Bytes) (v : Carried) : Carried :=
  let m := waveModes w
  v.map (fun e =>
    (e.1, if cycled then cycleMode m e.1 (e.2.getD 0 (0, 0)) else precode feedback m (waveFc w).streams e.1 e.2))

/-! ### The carriers of each part (R128 to R145) -/

/-- S1 or Leek S1 on the modes (R125, R129). -/
def preambleModes (w : Wave) : Carried :=
  let r := fxInvSqrt 2
  (s1Carriers w.mask (waveLeek w)).map (fun e => (e.1, cycleMode (waveModes w) e.1 (r * e.2.1, r * e.2.2)))

/-- Frame-control symbol n (R135): position p carries interleaved bit p mod 256, in BPSK. -/
def fcModes (w : Wave) (n : Nat) : Carried :=
  let cs := carriers w.mask (if waveLeek w then 245 else 1638)
  let bits := fcCoded w.fc
  ((List.range cs.length).zip cs).map (fun e =>
    (e.2, cycleMode (waveModes w) e.2 (fxOne * axisLevel [bits.getD ((n * cs.length + e.1) % 256) false], 0)))

/-- The CE-form symbol n from 0 on the streams: P(c) W[s][n] (R131). -/
def ceStreams (w : Wave) (n : Nat) : Carried :=
  (ceSequence w.mask).map (fun e => (e.1, (List.range (waveFc w).streams).map (fun s => (fxOne * (e.2 * ceSign s n), 0))))

/-- A CE symbol on the modes, mapped as the data (R131). -/
def ceModes (w : Wave) (n : Nat) : Carried := onModes w (waveCycled w) w.feedback (ceStreams w n)

/-- Constellation points over the root of their mean power (R143). -/
def unitPoint (b : Nat) (p : Int × Int) : Cx :=
  if b = 0 then (0, 0) else let r := fxInvSqrt (levelPower b); (r * p.1, r * p.2)

/-- A list cut into rows of n. -/
def rowsOf {α : Type} (n : Nat) : Nat → List α → List (List α)
  | 0, _ => []
  | k + 1, l => l.take n :: rowsOf n k (l.drop n)

/-- Data symbol d of a body on the streams (R136 to R143). -/
def dataStreams (w : Wave) (d : Nat) : Carried :=
  let loads := waveLoads w
  let f := waveFc w
  let coded := codedBody w.body f.rate f.cw loads.sum (waveReps w)
  let ps := (loads.zip (points loads ((coded.drop (d * loads.sum)).take loads.sum))).map (fun e => unitPoint e.1 e.2)
  let cs := carriers w.mask (if waveLeek w then 245 else 1638)
  cs.zip (rowsOf f.streams cs.length ps)

/-- Body symbol i on the modes: data, refresh (R132) or sounding (R142: Q the identity). -/
def bodyModes (w : Wave) (i : Nat) : Carried :=
  let f := waveFc w
  let n := ceCount f.streams
  if f.fcType = 2 then onModes w false [] (ceStreams w (i % n))
  else
    let r := refreshEvery f.refresh
    if f.refresh = 0 then onModes w (waveCycled w) w.feedback (dataStreams w i)
    else if i % (r + n) < r then onModes w (waveCycled w) w.feedback (dataStreams w (i / (r + n) * r + i % (r + n)))
    else ceModes w (i % (r + n) - r)

/-! ### Samples (R119 to R122, R147) -/

/-- Points of the FFT and how many samples of 2 ns one of its samples spans (R147). -/
def fftSize (chive : Bool) : Nat := if chive then 512 else 4096
def fftStep (chive : Bool) : Nat := if chive then 8 else 1

/-- x[n], the real part of the inverse FFT (R120). -/
def waveform (size n : Nat) (x : List (Nat × Cx)) : Fx :=
  (x.map (fun e => (e.2.1 * turnCos (e.1 * n) size - e.2.2 * turnSin (e.1 * n) size) / 2 ^ 40)).sum

/-- The window of R120 over len samples, its edges of r samples: the value at n. -/
def edgeWindow (r len n : Nat) : Fx :=
  let rise := fun (k : Nat) => (fxOne - turnCos (2 * k + 1) (4 * r)) / 2
  if n < r then rise n else if n + r ≥ len then rise (len - 1 - n) else fxOne

/-- One symbol at n samples past its start: cyclic prefix of g, cyclic postfix of an edge, windowed. -/
def symbolSample (size g edge n : Nat) (x : List (Nat × Cx)) : Fx :=
  if n < size + g + edge then fxMul (waveform size ((n + size - g) % size) x) (edgeWindow edge (size + g + edge) n) else 0

/-- The preamble at n samples past the frame start (R128, R144): reps periods of an eighth of the FFT, two of the negative, and
the postfix of an edge. -/
def preambleSample (size reps edge n : Nat) (x : List (Nat × Cx)) : Fx :=
  let s := size / 8
  if n < (reps + 2) * s + edge then
    fxMul ((if n < reps * s then 1 else -1) * waveform size (n % s) x) (edgeWindow edge ((reps + 2) * s + edge) n)
  else 0

/-- The values of a lane's carriers (R123). -/
def laneCarriers (w : Wave) (lane : Nat) (v : Carried) : List (Nat × Cx) :=
  let ms := modeLanes w.lanes
  v.map (fun e => (e.1, cxSum ((ms.zip e.2).map (fun p => cxScale (p.1.getD lane 0) p.2))))

/-- The symbols after the preamble: where each starts, its guard, and its modes; fix corrects the body symbols (R182). -/
def waveParts (w : Wave) (fix : Nat → Carried → Carried) : List (Nat × Nat × Carried) :=
  let head := if waveLeek w then (List.range 9).map (fun n => (9216 + 4864 * n, 768, fcModes w n))
    else (5120, 1536, fcModes w 0) :: (List.range (waveCe w)).map (fun n => (5120 + 5632 * (n + 1), 1536, ceModes w n))
  head ++ (List.range (waveSymbols w)).map (fun i => (waveBody w + wavePeriod w * i, waveGuard w, fix i (bodyModes w i)))

/-- A lane's signal at n samples of the lane's clock past the frame start, in bins of unit power: the parts overlap and add. -/
def laneSignal (w : Wave) (fix : Nat → Carried → Carried) (lane n : Nat) : Fx :=
  let size := fftSize w.chive
  let step := fftStep w.chive
  let edge := 128 / step
  preambleSample size (if waveLeek w then 16 else 8) edge n (laneCarriers w lane (preambleModes w))
    + ((waveParts w fix).map (fun p =>
        if n * step < p.1 then 0
        else symbolSample size (p.2.1 / step) edge (n - p.1 / step) (laneCarriers w lane p.2.2))).sum

/-- The gain from bins to converter codes of 16 bits (R63, R122): all carriers at unit power reach -14 dBFS at level 0, the
lane's attenuation after it. -/
def laneGain (w : Wave) (lane : Nat) : Fx :=
  let db := 28 + (-w.level).toNat + w.atten.getD lane 0
  Config.fullScaleRms * halfDbBelow db / fxSqrt 812

/-- A value in 16-bit codes as the word of R64: saturated, rounded convergently to 14 bits, bits [1:0] zero. -/
def converterWord (x : Fx) : Int :=
  let v := max (-32768 * fxOne) (min (32764 * fxOne) x)
  4 * roundEven v 42

/-- The converter word of a lane at n samples past the frame start. -/
def laneSample (w : Wave) (fix : Nat → Carried → Carried) (lane n : Nat) : Int :=
  if bit w.lanes lane then converterWord (fxMul (laneGain w lane) (laneSignal w fix lane n)) else 0

end Sys2Proof.Machine
end

