-- ==== Sys2Proof/Machine/Maps.lean ====
section
/-! DEFINITION. Mains tracking and tone maps (06): the tracker, the map set and its exchange, the commands. -/

namespace Sys2Proof.Machine

/-! ### The map set (R164, R165) -/

/-- The key of a map: port, endpoint, direction (0 receive, 1 transmit) and map id. -/
def mapKey (p e dir m : Nat) : Nat := 16 * (2 * (16384 * p + e) + dir) + m

def getMap (s : State) (p e dir m : Nat) : ToneMap := tget {} s.tm.maps (mapKey p e dir m)

def updMap (p e dir m : Nat) (f : ToneMap → ToneMap) (s : State) : State :=
  { s with tm.maps := tset s.tm.maps (mapKey p e dir m) (f (getMap s p e dir m)) }

def mapLink (s : State) (p e : Nat) : MapLink := tget {} s.tm.links (16384 * p + e)

def updLink (p e : Nat) (f : MapLink → MapLink) (s : State) : State :=
  { s with tm.links := tset s.tm.links (16384 * p + e) (f (mapLink s p e)) }

/-- Maps of a neighbour and direction become invalid (R165). -/
def invalidate (p e dir : Nat) (ids : List Nat) (s : State) : State :=
  ids.foldl (fun s m => if (getMap s p e dir m).valid then updMap p e dir m (fun x => { x with valid := false }) s else s) s

/-- Every map of a port in a direction that a test picks becomes invalid. -/
def invalidateWhere (p dir : Nat) (f : Nat → ToneMap → Bool) (s : State) : State :=
  let mine := fun (k : Nat) => k / 16 / 2 / 16384 == p && k / 16 % 2 == dir
  { s with tm.maps := s.tm.maps.map (fun x =>
      if mine x.1 && f (x.1 % 16) x.2 then (x.1, { x.2 with valid := false }) else x) }

/-- When a port returns to Locked, its slot maps older than 60 s become invalid (R165). -/
def oldSlotMaps (p : Nat) (s : State) : State :=
  let old := fun (id : Nat) (x : ToneMap) => decide (id ≤ 7) && decide (x.installedAt + secs 60 < s.now)
  invalidateWhere p 1 old (invalidateWhere p 0 old s)

/-! ### The mains tracker (R157 to R161) -/

def updMains (p : Nat) (f : Mains → Mains) (s : State) : State := updPort p (fun x => { x with mains := f x.mains }) s

/-- A half period of 40 to 70 Hz, in samples (R158). -/
def halfInRange (samples : Nat) : Bool := decide (3571429 ≤ samples) && decide (samples ≤ 6250000)

/-- Whether a tracker reports slots (R158). -/
def mainsLocked (m : Mains) : Bool := m.state == .locked

/-- The cycle slot of a sample count (R161): any half-cycle start gives the same. -/
def slotOf (m : Mains) (t : Nat) : Nat :=
  if m.half = 0 then 0 else ((((t : Int) - (m.phase : Int)) * 2048 / (m.half : Int)) % 8).toNat

/-- State codes of R179. -/
def mainsCode : MainsState → Nat
  | .acquiring => 0 | .locked => 1 | .cycleFree => 2

/-- The port event of a mains state change (R159, R550). -/
def mainsEvent (p : Nat) (st : MainsState) (s : State) : State := raisePort p 4 1 (mainsCode st) 0 s

/-- A value within d of a centre, which the manual bounds and does not state. -/
def near (centre : Int) (d : Nat) (s : State) : Int × State :=
  match freshNat s with
  | (v, s) => (centre - d + (v % (2 * d + 1) : Nat), s)

/-- Half-cycles between two crossings, at the half period known. -/
def halvesBetween (a b half : Nat) : Nat := (roundDiv ((b : Int) - a) (max 1 half)).toNat

/-- The fit after a qualified crossing (R158, R160): the half period from the crossings of like direction, and the half-cycle start
as the mean of the fits to the two directions. The manual bounds what a fit may miss by, 10 us with a lane source and 40 us with a
sensor source, and states no more: half of that bound is a free deviation of each. -/
def fitMains (edge : Nat) (m : Mains) (s : State) : Mains × State :=
  let known := if m.half = 0 then edge - m.lastCross.getD edge else m.half / 256
  let last := m.lastCross.getD edge
  let k := halvesBetween last edge known
  let half := match m.prevCross with
    | some prev => (edge - prev) * 256 / max 1 (halvesBetween prev edge known)
    | none => (edge - last) * 256 / max 1 k
  let d := us (if m.source.isNone then 10 else 40) / 2
  match near half (256 * d) s with
  | (h, s) =>
    match near (((edge : Int) * 256 + last * 256 + k * half) / 512) d s with
    | (phase, s) => ({ m with half := h.toNat, phase := phase.toNat }, s)

/-- Whether a crossing lies within 200 us of a predicted one (R158). -/
def nearPrediction (m : Mains) (edge : Nat) : Bool :=
  let d := ((edge : Int) - m.phase) * 256
  let r := d - roundDiv d (max 1 m.half) * m.half
  decide (r.natAbs ≤ us 200 * 256)

/-- ZERO_CROSSING (R158): a qualified crossing at sample count edge. A tracker that is Locked fits the crossings near their
predictions; the others leave it to its flywheel. -/
def execZeroCrossing (port_ edge : Nat) (s : State) : Out :=
  if port_ ≥ s.part.ports then .fault .absentResource
  else
    let m := (port s port_).mains
    let gap := edge - m.lastCross.getD edge
    let fits := m.lastCross.isSome && halfInRange gap
    let agrees := fits && (m.lastGap == 0 || decide (100 * (max gap m.lastGap - min gap m.lastGap) ≤ m.lastGap))
    let run := if agrees then m.run + 1 else if fits then 2 else 1
    let next := fun (m : Mains) => { m with prevCross := m.lastCross, lastCross := some edge, lastGap := if fits then gap else 0,
                                            run := run }
    if m.force || !isOpen s port_ then .next (updMains port_ next s)
    else
      match m.state with
      | .acquiring =>
        if run ≥ 8 then
          match fitMains edge { m with half := 0 } s with
          | (m, s) =>
            .next (oldSlotMaps port_ (updMains port_ (fun _ => { next m with state := .locked, goodCross := some edge }) s))
        else .next (updMains port_ next s)
      | .locked =>
        if m.lastCross.isNone || !nearPrediction m edge then .next s
        else
          match fitMains edge m s with
          | (m, s) =>
            let out := !halfInRange (m.half / 256)
            .next (updMains port_ (fun _ =>
              { next m with next := if out then some .cycleFree else m.next, goodCross := some edge }) s)
      | .cycleFree =>
        if run ≥ 16 then
          match fitMains edge { m with half := 0 } s with
          | (m, s) => .next (updMains port_ (fun _ => { next m with next := some .locked, goodCross := some edge }) s)
        else .next (updMains port_ next s)

/-- MAINS_ACQUIRE_TIMEOUT (R158): 200 ms after Acquiring began. -/
def execMainsAcquireTimeout (port_ : Nat) (s : State) : Out :=
  if port_ ≥ s.part.ports then .fault .absentResource
  else
    let m := (port s port_).mains
    if m.state != .acquiring || !isOpen s port_ then .next s
    else
      .next (mainsEvent port_ .cycleFree
        (updMains port_ (fun m => { m with state := .cycleFree }) (advanceTo (m.since + ms 200) s)))

/-- PREDICTED_CROSSING_MISS (R158, R159): four predicted crossings in a row have come and gone. -/
def execPredictedCrossingMiss (port_ : Nat) (s : State) : Out :=
  if port_ ≥ s.part.ports then .fault .absentResource
  else
    let m := (port s port_).mains
    if m.state != .locked then .next s
    else
      let due := m.goodCross.getD m.phase + 4 * m.half / 256 + us 200
      .next (updMains port_ (fun m => { m with next := some .cycleFree, run := 0 }) (advanceTo due s))

/-- The latest predicted half-cycle start at or before now, as a time (R179). -/
def lastHalfStart (s : State) (m : Mains) : Word :=
  if m.half = 0 || m.state != .locked then 0
  else
    let n := ((s.now : Int) - m.phase) * 256 / m.half
    timeAt s.tmb ((m.phase : Int) + n * m.half / 256).toNat

/-- The response of tonemap.configure and mains.status (R179). -/
def mainsResp (s : State) (p : Nat) : Bytes :=
  let m := (port s p).mains
  let lk := mainsLocked m && m.half != 0
  leBytes 2 St.ok.toNat ++ leBytes 1 (mainsCode m.state) ++ leBytes 1 (if lk then slotOf m s.now else 0xFF)
    ++ leBytes 4 (if lk then 64000000000000 / m.half else 0) ++ leBytes 8 (lastHalfStart s m).toNat

/-! ### What a port allows (R32, R123, R141, R165) -/

/-- Modes of a port (R123). -/
def modeCount (x : Port) : Nat :=
  match x.line.mode with
  | .closed => 0
  | .single => 1
  | .three => popcount 4 x.line.plcLanes.toNat - 1

/-- The stream limit in force on a port (R32, R59, R153). -/
def streamLimit (x : Port) : Nat :=
  let profile := match x.line.profile with | .sense => 2 | .longReach _ => 1 | _ => 3
  min (modeCount x) (min x.phy.maxStreams profile)

/-- The loads of a map in carrier and stream order, newly masked carriers at 0 bits (R141, R156). -/
def mapLoads (mask : Nat) (m : ToneMap) : List Nat := loadsOf mask m.streams m.loading

/-- The transmit map in use under an id (R171): until its TM_MAP_ACK has been acknowledged, the one before. -/
def mapInUse (s : State) (p e id : Nat) : ToneMap :=
  match (mapLink s p e).ackHold.find? (fun k => k.1.1 == id) with
  | some k => k.2
  | none => getMap s p e 1 id

/-- The map the device uses for a transmission to a neighbour (R23, R165): 15 is the robust format. -/
def pickMap (s : State) (p e : Nat) (t : Nat) : Nat :=
  let m := (port s p).mains
  let slot := slotOf m t
  if mainsLocked m && (mapInUse s p e slot).valid then slot
  else if (mapInUse s p e 8).valid then 8
  else 15

/-! ### Messages (R168 to R171) -/

/-- The ids of a bitmap of 9. -/
def mapIds (n : Nat) : List Nat := bitPositions 9 n

/-- TM_REQUEST (R170). -/
def tmRequest (p e : Nat) (maps : List Nat) (sound : Bool) (slots : Nat) (s : State) : State :=
  let x := port s p
  let n := if sound then 4 else 0
  engineSend p e ([0x10, BitVec.ofNat 8 ((if maps.isEmpty then 0 else 1) + if sound then 2 else 0)]
    ++ beBytes 2 (bitmap maps) ++ leBytes 1 n ++ leBytes 1 (max 1 (streamLimit x)) ++ leBytes 1 slots ++ zeros 1) s

/-- TM_INVALIDATE (R170). -/
def tmInvalidate (p e : Nat) (maps : List Nat) (reason : Nat) (s : State) : State :=
  engineSend p e ([0x13] ++ beBytes 2 (bitmap maps) ++ leBytes 1 reason) s

/-- The TM_MAP layout of a map (R169). -/
def tmMapBytes (id : Nat) (m : ToneMap) : Bytes :=
  leBytes 1 0x11 ++ leBytes 1 id ++ leBytes 1 m.generation.toNat ++ leBytes 1 m.streams ++ leBytes 1 m.gi ++ leBytes 1 m.rate
    ++ leBytes 1 m.flags ++ zeros 1 ++ m.loading ++ m.feedback

/-- Bits of precoding feedback per group (R126). -/
def feedbackBits (modes streams : Nat) : Nat := if modes = 3 then (if streams = 1 then 20 else 30) else 10

/-- Whether a TM_MAP is well formed on a port (R169): malformed gives result 1. -/
def tmMapOk (x : Port) (msg : Bytes) : Bool :=
  let st := rd msg 3 1
  let fb := if rd msg 6 1 = 1 then ceilDiv (203 * feedbackBits (modeCount x) st) 8 else 0
  decide (rd msg 1 1 ≤ 8) && decide (1 ≤ st) && decide (st ≤ 3) && decide (rd msg 4 1 ≤ 2) && decide (rd msg 5 1 ≤ 3)
    && decide (rd msg 6 1 ≤ 1) && rd msg 7 1 == 0 && msg.length == 8 + 812 * st + fb
    && ((rd msg 6 1 == 1) == decide (2 ≤ modeCount x))
    && (slice msg 8 (812 * st)).all (fun b => decide (b.toNat / 16 ≤ 12) && decide (b.toNat % 16 ≤ 12))

/-- Whether a map is permitted on a port (R170): otherwise result 2. -/
def mapPermitted (x : Port) (m : ToneMap) : Bool :=
  decide (m.streams ≤ streamLimit x) && bit x.phy.guardAllowed.toNat m.gi
    && !((List.range 1624).any (fun i => masked x.phy.mask (i + 15)
          && (List.range m.streams).any (fun st => carrierLoad m.loading st (i + 15) != 0)))

/-- Information bits per symbol of a map, with the rate's fraction. -/
def mapInfoBits (mask : Nat) (m : ToneMap) : Nat := (mapLoads mask m).sum * infoCols m.rate / 36

/-- Mirror record 2 of a map installed (R370). -/
def mirrorMap (p e dir id : Nat) (s : State) : State :=
  let m := getMap s p e dir id
  mirrorSend (.toneMap p e dir id m.generation.toNat m.streams m.gi m.rate m.flags m.loading m.feedback m.infoBits) s

/-- The port event that marks a map's installation (R181, R550): arg1 holds the map id and, above it, the generation. -/
def mapEvent (p e id gen : Nat) (s : State) : State := raisePort p 4 2 e (id + 256 * gen) s

/-- Whether an endpoint is a neighbour on a port: admitted on it. -/
def isNeighbour (s : State) (p e : Nat) : Bool := (endpoint s e).state != .free && (endpoint s e).port == p

/-- A message row: its port must exist. -/
def onPort (p : Nat) (s : State) (f : State → State) : Out :=
  if p ≥ s.part.ports then .fault .absentResource else if !isOpen s p then .next s else .next (f s)

/-- A received message's row: its origin must be admitted on the port, else the message is discarded (R242). -/
def fromEndpoint (p e : Nat) (s : State) (f : State → State) : Out :=
  onPort p s (fun s => if isNeighbour s p e then f s else s)

/-- TM_MAP_RECEIVED (R164, R170, R171). -/
def execTmMapReceived (port_ ep : Nat) (msg : Bytes) (s : State) : Out := fromEndpoint port_ ep s fun s =>
  let x := port s port_
  let id := rd msg 1 1
  let gen := rd msg 2 1
  let st := rd msg 3 1
  let new : ToneMap := { valid := true, generation := BitVec.ofNat 8 gen, streams := st, gi := rd msg 4 1, rate := rd msg 5 1,
                         flags := rd msg 6 1, loading := slice msg 8 (812 * st), feedback := msg.drop (8 + 812 * st),
                         installedAt := s.now }
  let new := { new with infoBits := mapInfoBits x.phy.mask new }
  let old := getMap s port_ ep 1 id
  let result := if !tmMapOk x msg then 1 else if !mapPermitted x new then 2
    else if old.valid && !serialNewer 8 gen old.generation.toNat then 3 else 0
  let s := if result != 0 then s
    else
      let s := updMap port_ ep 1 id (fun _ => new) s
      let before := ((mapLink s port_ ep).ackHold.find? (fun k => k.1.1 == id)).map (·.2)
      let s := updLink port_ ep (fun l =>
        { l with ackHold := l.ackHold ++ [((id, gen), before.getD old)], refreshTx := l.refreshTx.filter (· != id) }) s
      mapEvent port_ ep id gen (mirrorMap port_ ep 1 id s)
  engineSend port_ ep ([0x12] ++ leBytes 1 id ++ leBytes 1 gen ++ leBytes 1 result) s

/-- TM_MAP_ACK_RECEIVED (R171): with result 0 the generation sent is the one decoded with from now on. -/
def execTmMapAckReceived (port_ ep : Nat) (msg : Bytes) (s : State) : Out := fromEndpoint port_ ep s fun s =>
  let id := rd msg 1 1
  let gen := rd msg 2 1
  match (mapLink s port_ ep).sent.find? (fun e => e.1 == id) with
  | none => s
  | some (_, m) =>
    if m.generation.toNat != gen then s
    else
      let s := updLink port_ ep (fun l => { l with sent := tdel l.sent id, refreshRx := l.refreshRx.filter (· != id) }) s
      if rd msg 3 1 != 0 then s
      else
        let s := updMap port_ ep 0 id (fun x =>
          { m with valid := true, installedAt := s.now, extra := x.extra, window := x.window, failures := x.failures,
                   lastGen := x.lastGen, refreshedAt := x.refreshedAt, sentAt := x.sentAt }) s
        mapEvent port_ ep id gen (mirrorMap port_ ep 0 id s)

/-- The maps a neighbour is owed, exempt from the hold-off or not (R171, R172). -/
def requestMaps (p e : Nat) (ids : List Nat) (exempt : Bool) (s : State) : State :=
  updLink p e (fun l =>
    { l with requested := (l.requested.filter (fun m => !ids.contains m)) ++ ids,
             exempt := if exempt then (l.exempt.filter (fun m => !ids.contains m)) ++ ids else l.exempt }) s

/-- TM_REQUEST_RECEIVED (R170, R171): the named maps and the sounding frames are owed, beside those of slots still owed; a port
sends no more streams than it has modes (R124). -/
def execTmRequestReceived (port_ ep : Nat) (msg : Bytes) (s : State) : Out := fromEndpoint port_ ep s fun s =>
  let s := if bit (rd msg 1 1) 0 then requestMaps port_ ep (mapIds (rdBe msg 2 2)) false s else s
  let n := rd msg 4 1
  let st := rd msg 5 1
  if bit (rd msg 1 1) 1 && decide (4 ≤ n) && decide (n ≤ 64) && decide (1 ≤ st) && decide (st ≤ 3) && n % ceCount st == 0 then
    let st := min st (modeCount (port s port_))
    updLink port_ ep (fun l => { l with sound := (bitPositions 8 (rd msg 6 1)).foldl (fun t k => tset t k (n, st)) l.sound }) s
  else s

/-- TM_INVALIDATE_RECEIVED (R170, R171): reason 0 comes from the computing side of the device's transmit maps, reason 1
from the using side of its receive maps; reason 2 does not tell, and concerns both. The computing side sends a fresh map
after the hold-off (R171), at once after a mask or profile change (R172). -/
def execTmInvalidateReceived (port_ ep : Nat) (msg : Bytes) (s : State) : Out := fromEndpoint port_ ep s fun s =>
  let ids := mapIds (rdBe msg 1 2)
  let reason := rd msg 3 1
  if reason > 2 then s
  else
    let s := if reason != 1 then invalidate port_ ep 1 ids s else s
    if reason = 0 then s else requestMaps port_ ep ids (reason == 2) (invalidate port_ ep 0 ids s)

/-! ### Estimates and loading (R166, R167) -/

/-- Where an estimate is listed: slot 0 to 7, or 8 for the slot-independent one, number of streams, stream from 0. -/
def estimateKey (slot streams stream : Nat) : Nat := 16 * slot + 4 * streams + stream

/-- An observation enters an estimate with weight 1/8, the first one as it is (R166). DESIGN CHOICE (log 153): the running value is
in decibels, in units of 1/256. -/
def observeEstimate (old new : List Int) : List Int :=
  if old.isEmpty then new else (old.zip new).map (fun e => e.1 + (e.2 - e.1) / 8)

/-- The slots that an observation of a frame started at a time updates (R166): its own, or the slot-independent one. -/
def observedSlots (m : Mains) (at_ : Nat) : List Nat := if mainsLocked m then [slotOf m at_] else [8]

/-- The estimates of a neighbour take an observation (R166). -/
def noteEstimates (p e at_ : Nat) (snr : List SnrObs) (s : State) : State :=
  if snr.isEmpty then s
  else
    let slots := observedSlots (port s p).mains at_
    updLink p e (fun l =>
      { l with estimates := snr.foldl (fun t o => slots.foldl (fun t k =>
                 let i := estimateKey k o.streams o.stream
                 tset t i (observeEstimate (tget [] t i) o.db)) t) l.estimates,
               observed := slots.foldl (fun t k => tset t k s.now) l.observed,
               stale := l.stale.filter (fun k => !slots.contains k) }) s

/-- The effective signal-to-noise ratio in 1/256 dB from which a carrier bears b bits at a rate (R167):
10 log10(2^(b r) - 1) + 1.5 dB, rounded up, for b = 1 to 12. -/
def loadThresholds (rate : Nat) : List Int :=
  match rate with
  | 0 => [-595, 384, 1055, 1606, 2095, 2548, 2979, 3395, 3802, 4202, 4598, 4991]
  | 1 => [-207, 850, 1606, 2249, 2837, 3395, 3936, 4467, 4991, 5511, 6029, 6545]
  | 2 => [111, 1248, 2095, 2837, 3532, 4202, 4860, 5511, 6158, 6803, 7447, 8090]
  | _ => [206, 1371, 2249, 3026, 3757, 4467, 5165, 5857, 6545, 7232, 7918, 8604]

/-- b(c, s) of R167 at an effective ratio. -/
def bitsAt (rate : Nat) (eff : Int) : Nat := ((loadThresholds rate).filter (fun t => decide (t ≤ eff))).length

/-- The estimates a map rests on (R166, R167): its slot's, in Cycle-free the slot-independent ones, and for the default map of a
Locked port the 8 slots'. -/
def estimateSlots (m : Mains) (id : Nat) : List Nat :=
  if !mainsLocked m then [8] else if id = 8 then List.range 8 else [id]

/-- The ratio by carrier of a stream under a number of streams: the least over the slots; none where a slot has no estimate. -/
def mapEstimate (l : MapLink) (slots : List Nat) (streams stream : Nat) : Option (List Int) :=
  let es := slots.map (fun k => tget [] l.estimates (estimateKey k streams stream))
  if es.any (·.isEmpty) then none
  else some (es.tail.foldl (List.zipWith min) (es.headD []))

/-- The loads of a map at a rate and a number of streams, by stream and carrier (R167): masked carriers bear none. -/
def loadsAt (mask rate : Nat) (margin : Int) (snr : List (List Int)) : List (List Nat) :=
  snr.map (fun st => ((List.range 1624).zip st).map (fun e =>
    if masked mask (e.1 + 15) then 0 else bitsAt rate (e.2 - margin)))

/-- A candidate of R167: rate, streams and loads; its information bits are infoCols / 36 of the sum. -/
structure Loading where
  rate : Nat
  streams : Nat
  loads : List (List Nat)

def Loading.bits (c : Loading) : Nat := infoCols c.rate * (c.loads.map (·.sum)).sum

/-- The better of two candidates (R167): the most information bits; on a tie the higher rate, then the lower number of streams. -/
def betterLoading (a b : Loading) : Loading :=
  if b.bits > a.bits || (b.bits == a.bits && (b.rate > a.rate || (b.rate == a.rate && decide (b.streams < a.streams)))) then b else a

/-- The loading of R167, over the rates and the numbers of streams that have estimates. -/
def bestLoading (mask : Nat) (margin : Int) (l : MapLink) (slots : List Nat) (limit : Nat) : Option Loading :=
  let counts := ((List.range limit).map (· + 1)).filterMap (fun st =>
    let es := (List.range st).map (mapEstimate l slots st)
    if es.all (·.isSome) then some (st, es.filterMap id) else none)
  let cands := counts.flatMap (fun e => [0, 1, 2, 3].map (fun r => ({ rate := r, streams := e.1, loads := loadsAt mask r margin e.2 } : Loading)))
  match cands with
  | [] => none
  | c :: cs => some (cs.foldl betterLoading c)

/-- The nibbles of R169 for the loads of a map. -/
def packLoads (loads : List (List Nat)) : Bytes :=
  loads.flatMap (fun st => (List.range 812).map (fun i => BitVec.ofNat 8 (16 * st.getD (2 * i) 0 + st.getD (2 * i + 1) 0)))

/-- The guard of a map (R167): the shortest allowed one beyond which less than -25 dB of the energy lies; where none does, the
longest allowed (DESIGN CHOICE, log 154). -/
def mapGuard (allowed : Nat) (tails : List Int) : Nat :=
  let ok := [0, 1, 2].filter (bit allowed)
  (ok.find? (fun g => decide (tails.getD g 0 < -6400))).getD ((ok.getLast?).getD 1)

/-- Feedback of the size that R169 gives: absent on a single-phase port; padded with zeros. -/
def fitFeedback (modes streams : Nat) (f : Bytes) : Bytes :=
  if modes ≤ 1 then []
  else
    let n := 203 * feedbackBits modes streams
    let b := (f ++ zeros (ceilDiv n 8)).take (ceilDiv n 8)
    let r := n % 8
    if r = 0 then b else b.dropLast ++ (b.getLast?.map (fun x => BitVec.ofNat 8 (x.toNat / 2 ^ (8 - r) * 2 ^ (8 - r)))).toList

/-- Information bits per symbol of a loading, rounded down. -/
def Loading.infoBits (c : Loading) : Nat := c.bits / 36

/-- The map of a loading (R167, R169), with the guard that the impulse response needs and the precoding angles measured (R126). -/
def mapOf (x : Port) (c : Loading) (tails : List Int) (feedback : Bytes) : ToneMap where
  streams := c.streams
  gi := mapGuard x.phy.guardAllowed.toNat tails
  rate := c.rate
  flags := if modeCount x ≥ 2 then 1 else 0
  loading := packLoads c.loads
  feedback := fitFeedback (modeCount x) c.streams feedback
  infoBits := c.infoBits

/-- A new generation of an own map is sent (R164, R171, R172): numbered one past the last one sent. DESIGN CHOICE (log 155): the
spec gives the first generation of a map id no number; it is 1, after port.close again. -/
def sendMap (p e id : Nat) (m : ToneMap) (s : State) : State :=
  let gen := (getMap s p e 0 id).lastGen + 1
  let m := { m with generation := gen, sentAt := some s.now }
  let s := updMap p e 0 id (fun x => { x with sentAt := some s.now, lastGen := gen, window := [] }) s
  let s := updLink p e (fun l => { l with sent := tset l.sent id m, requested := l.requested.filter (· != id),
                                          exempt := l.exempt.filter (· != id) }) s
  engineSend p e (tmMapBytes id m) s

/-- Whether an estimate that a map rests on is stale or has never been made (R166, R167). -/
def estimateOld (s : State) (p e id : Nat) : Bool :=
  let l := mapLink s p e
  (estimateSlots (port s p).mains id).any (fun k => l.stale.contains k || !l.estimates.any (fun x => x.1 / 16 == k))

/-- The margin of a map in 1/256 dB: the port's and the map's extra margin (R167, R173). -/
def mapMargin (x : Port) (m : ToneMap) : Int := 128 * ((x.margin + m.extra : Nat) : Int)

/-- Whether the estimate of a carrier that a map loads has fallen below its threshold (R172). -/
def belowThreshold (x : Port) (l : MapLink) (slots : List Nat) (m : ToneMap) : Bool :=
  (List.range m.streams).any (fun st =>
    match mapEstimate l slots m.streams st with
    | none => false
    | some e => ((List.range 1624).zip e).any (fun c =>
        let b := carrierLoad m.loading st (c.1 + 15)
        b != 0 && decide (bitsAt m.rate (c.2 - mapMargin x m) < b)))

/-- TONEMAP_PERIODIC_REFRESH (R166, R167, R172, R173): a map that is owed on request is computed at once, any other when its
refresh period has passed. tails is the energy of the neighbour's impulse response beyond the guard free of roll-off, below the whole
and in 1/256 dB, for each of the three guards; feedback the precoding angles measured (R126). -/
def execTonemapPeriodicRefresh (port_ ep mapId : Nat) (tails : List Int) (feedback : Bytes) (s : State) : Out :=
  onPort port_ s fun s =>
    if mapId > 8 || !isNeighbour s port_ ep || silent s then s
    else
      let asked := (mapLink s port_ ep).requested.contains mapId
      let s := if asked then s
        else advanceTo ((getMap s port_ ep 0 mapId).refreshedAt + secs (port s port_).refreshS) s
      let l := mapLink s port_ ep
      let x := port s port_
      let calm := fun (m : ToneMap) => decide ((m.window.filter (· == true)).length < 2)
      let s := if asked then s
        else updMap port_ ep 0 mapId (fun m => { m with refreshedAt := s.now, extra := if calm m then m.extra - 1 else m.extra }) s
      let old := getMap s port_ ep 0 mapId
      let slots := estimateSlots x.mains mapId
      let early := match old.sentAt with
        | some t => decide (s.now < t + ms 200) && !l.exempt.contains mapId
        | none => false
      if !mainsLocked x.mains && mapId != 8 then s
      else if estimateOld s port_ ep mapId then
        let old := slots.filter (fun k => l.stale.contains k || !l.estimates.any (fun x => x.1 / 16 == k))
        tmRequest port_ ep [] true (bitmap (old.map (· % 8))) s
      else
        match bestLoading x.phy.mask (mapMargin x old) l slots (streamLimit x) with
        | none => s
        | some c =>
          let diff := max c.infoBits old.infoBits - min c.infoBits old.infoBits
          let worth := asked || !old.valid || belowThreshold x l slots old || decide (20 * diff ≥ old.infoBits)
          if early || !worth || c.bits < 36 * unmaskedCount x.phy.mask then s
          else sendMap port_ ep mapId (mapOf x c tails feedback) s

/-- ESTIMATE_STALE (R166). -/
def execEstimateStale (port_ ep slot : Nat) (s : State) : Out := onPort port_ s fun s =>
  let l := mapLink s port_ ep
  if slot > 8 || l.stale.contains slot then s
  else
    let s := advanceTo (tget 0 l.observed slot + secs (port s port_).refreshS) s
    updLink port_ ep (fun l => { l with stale := l.stale ++ [slot] }) s

/-- The map record's place in DDR (R175): 3,328 bytes each, 18 a neighbour, from the start of their region. -/
def mapRecord (p : Part) (e dir id : Nat) : Nat := reservedFrom p + 59904 * e + 3328 * (9 * dir + id)

/-- SLOT_BOUNDARY_PREFETCH (R176, R165): an uncorrectable read of a map leaves it invalid and raises a system event; which
of the maps read it is, is not given. -/
def execSlotBoundaryPrefetch (port_ : Nat) (ddrFail : Bool) (s : State) : Out := onPort port_ s fun s =>
  let m := (port s port_).mains
  let slot := (slotOf m s.now + 2) % 8
  let read := s.tm.cache.filter (fun e => isNeighbour s port_ e && (getMap s port_ e 1 slot).valid)
  if !ddrFail || !mainsLocked m || read.isEmpty then s
  else
    match freshNat s with
    | (v, s) =>
      let e := read.getD (v % read.length) 0
      raiseSys 8 1 0 0 (ddrError (invalidate port_ e 1 [slot] s))

/-! ### Commands (R178 to R181) -/

/-- Whether a sensor source may be chosen: a voltage input scanned at 4 kS/s or faster (R157, R177). -/
def sourceOk (s : State) (j : Nat) : Bool :=
  let sc := (converter s (j / 4)).scan
  decide (j < 32) && bit sc.enables.toNat (4 + j % 4) && decide (sc.periodUs ≤ 250)

/-- Whether the caller may name a port: its owner or pod 0. -/
def mayPort (s : State) (c : Caller) (p : Nat) : Bool := c.pod == 0 || portOwner s p == c.pod

/-- tonemap.configure (R178 to R180). -/
def tonemapConfigureBody (c : Caller) (req : Bytes) (s : State) : State × Reply :=
  let p := rd req 0 2
  let fl := rd req 3 1
  let src := rd req 6 2
  if p ≥ s.part.ports || rd req 2 1 > 24 || fl > 3 || rd req 4 2 < 1 || rd req 4 2 > 3600 then answer St.badParam s
  else if !mayPort s c p then answer St.denied s
  else if (c.pod != 0 && fl != 0) || (bit fl 1 && src != 0xFFFF && !sourceOk s src) then answer St.sourceInvalid s
  else
    let m := (port s p).mains
    let force := if c.pod = 0 then bit fl 0 else m.force
    let pending := isOpen s p && m.state == .locked && force
    let now_ := isOpen s p && m.state == .acquiring && force
    let m := { m with force := force, next := if pending then some .cycleFree else if force then none else m.next,
                      state := if now_ then .cycleFree else m.state, run := if force then 0 else m.run,
                      nextSource := if bit fl 1 then some (if src = 0xFFFF then none else some src) else m.nextSource }
    let m := if !isOpen s p && m.nextSource.isSome then
               { m with source := m.nextSource.getD none, nextSource := none } else m
    let s := updPort p (fun x => { x with mains := m, margin := rd req 2 1, refreshS := rd req 4 2 }) s
    let s := if now_ then mainsEvent p .cycleFree s else s
    (s, .done St.ok (mainsResp s p))

def execTonemapConfigure (c : Caller) (req : Bytes) (s : State) : Out :=
  .next (runCmd ⟨0x0401, shaped req 16 [(8, 8)], false, [.port (rd req 0 2)]⟩ c req (tonemapConfigureBody c req) s)

/-- tonemap.refresh (R181). -/
def tonemapRefreshBody (c : Caller) (req : Bytes) (s : State) : State × Reply :=
  let p := rd req 0 2
  let e := rd req 2 2
  let d := rd req 4 1
  let l := mapLink s p e
  if p ≥ s.part.ports || e ≥ 16384 || d = 0 || d > 3 then answer St.badParam s
  else if !mayPort s c p then answer St.denied s
  else if !isNeighbour s p e then answer St.noNeighbour s
  else if (bit d 0 && !l.refreshRx.isEmpty) || (bit d 1 && !l.refreshTx.isEmpty) then answer St.refreshActive s
  else
    let all := List.range 9
    let s := updLink p e (fun l => { l with refreshRx := if bit d 0 then all else l.refreshRx,
                                            refreshTx := if bit d 1 then all else l.refreshTx,
                                            rxAge := if bit d 0 then 0 else l.rxAge, txAge := if bit d 1 then 0 else l.txAge }) s
    let s := if bit d 0 then requestMaps p e all true s else s
    answer St.pending (if bit d 1 then tmRequest p e all false 0 s else s)

def execTonemapRefresh (c : Caller) (req : Bytes) (s : State) : Out :=
  .next (runCmd ⟨0x0402, shaped req 8 [(5, 3)], false, [.port (rd req 0 2), .endpoint (rd req 2 2)]⟩ c req
    (tonemapRefreshBody c req) s)

/-- tonemap.read (R181). -/
def tonemapReadBody (c : Caller) (req : Bytes) (s : State) : State × Reply :=
  let p := rd req 0 2
  let e := rd req 2 2
  let m := getMap s p e (rd req 4 1) (rd req 5 1)
  if p ≥ s.part.ports || e ≥ 16384 || rd req 4 1 > 1 || rd req 5 1 > 8 then answer St.badParam s
  else if !mayPort s c p then answer St.denied s
  else if !isNeighbour s p e then answer St.noNeighbour s
  else if !m.valid then answer St.noMap s
  else (s, .done St.ok (leBytes 2 St.ok.toNat ++ zeros 2 ++ leBytes 4 ((s.now - m.installedAt) / Config.msTicks)
    ++ tmMapBytes (rd req 5 1) m))

def execTonemapRead (c : Caller) (req : Bytes) (s : State) : Out :=
  .next (runCmd ⟨0x0403, shaped req 8 [(6, 2)], false, [.port (rd req 0 2), .endpoint (rd req 2 2)]⟩ c req
    (tonemapReadBody c req) s)

/-- mains.status (R181). -/
def mainsStatusBody (c : Caller) (req : Bytes) (s : State) : State × Reply :=
  let p := rd req 0 2
  if p ≥ s.part.ports then answer St.badParam s
  else if !mayPort s c p then answer St.denied s
  else (s, .done St.ok (mainsResp s p))

def execMainsStatus (c : Caller) (req : Bytes) (s : State) : Out :=
  .next (runCmd ⟨0x0404, shaped req 8 [(2, 6)], false, [.port (rd req 0 2)]⟩ c req (mainsStatusBody c req) s)

end Sys2Proof.Machine
end

