-- ==== Sys2Proof/Machine/Links.lean ====
section
/-! DEFINITION. The records the medium access and the topology engine share: neighbours (R231), the link-quality matrix
(R250), the path of a frame (R244, R247, R261). -/

namespace Sys2Proof.Machine

/-- The stations that are no endpoint (R206). -/
def devAddr : Nat := 0x4000
def allAddr : Nat := 0x7FFF

/-- Where a neighbour of a port is listed. -/
def nbrKey (p st : Nat) : Nat := 32768 * p + st

def nbr (s : State) (p st : Nat) : Neighbour := tget {} s.nbrs (nbrKey p st)

def updNbr (p st : Nat) (f : Neighbour → Neighbour) (s : State) : State :=
  { s with nbrs := tset s.nbrs (nbrKey p st) (f (nbr s p st)) }

def updTopo (p : Nat) (f : Topo → Topo) (s : State) : State := updPort p (fun x => { x with topo := f x.topo }) s

/-! ### Links (R250, R251) -/

/-- The rate of one direction of a link, when it was reported within the last 4 report intervals and lies at 1,480 kbit/s
or above (R250). -/
def dirRate (s : State) (p src dst : Nat) : Option Nat :=
  let t := (port s p).topo
  match t.links.find? (fun l => l.src == src && l.dst == dst) with
  | none => none
  | some l =>
    let age := ((port s p).mac.beaconSeq.toNat + 65536 - l.seq) % 65536
    if age ≤ 4 * t.cfg.reportInterval && decide (1480 ≤ l.rate) then some l.rate else none

/-- Whether a link is marked unusable (R218, R252). -/
def linkMarked (s : State) (p a b : Nat) : Bool :=
  let marks := (port s p).topo.unusable
  marks.contains (a, b) || marks.contains (b, a) || (a == devAddr && (nbr s p b).unsuitable)
    || (b == devAddr && (nbr s p a).unsuitable)

/-- The cost of a usable link, a device link to a degraded neighbour at four times its cost (R250, R251). -/
def linkCost (s : State) (p a b : Nat) : Option Nat :=
  if linkMarked s p a b then none
  else
    match dirRate s p a b, dirRate s p b a with
    | some x, some y =>
      let c := 200 + ceilDiv 12000000 (min x y)
      some (if (a == devAddr && (nbr s p b).degraded) || (b == devAddr && (nbr s p a).degraded) then 4 * c else c)
    | _, _ => none

/-- A direction of a link is reported (R250): up to 64 stations are kept for each reporting station, the newest. -/
def reportDir (p src dst rate : Nat) (s : State) : State :=
  let seq := (port s p).mac.beaconSeq.toNat
  updTopo p (fun t =>
    let rest := t.links.filter (fun l => !(l.src == src && l.dst == dst))
    let full := decide ((rest.filter (fun l => l.dst == dst)).length ≥ 64) && dst != devAddr
    let rest := if full then rest.eraseP (fun l => l.dst == dst) else rest
    { t with links := rest ++ [{ src := src, dst := dst, rate := rate, seq := seq }] }) s

/-- The usable links of a port, each direction with its cost (R250). -/
def usableLinks (s : State) (p : Nat) : List ((Nat × Nat) × Nat) :=
  (port s p).topo.links.filterMap (fun l => (linkCost s p l.src l.dst).map (fun c => ((l.src, l.dst), c)))

/-- Reports of a port too old to count as fresh for any interval leave the matrix (R250). -/
def purgeReports (p : Nat) (s : State) : State :=
  let seq := (port s p).mac.beaconSeq.toNat
  updTopo p (fun t => { t with links := t.links.filter (fun l => decide ((seq + 65536 - l.seq) % 65536 ≤ 256)) }) s

/-! ### Paths (R244 to R247, R253, R261) -/

/-- The pending version a TP_ROUTE of it is routed under (R253 step 1). -/
def treeOf (s : State) (f : Flight) : Option PendingTree :=
  match (port s f.port).topo.pending with
  | none => none
  | some t => if f.mgmt && rd f.data 0 1 == 0x42 && rd f.data 1 1 == t.version.toNat then some t else none

/-- Whether frames to a destination can be routed now: Reachable, broadcast, a management message to an endpoint that is not
Unreachable, or the TP_ROUTE of a pending version, which is routed under it (R241, R247, R253). -/
def routable (s : State) (f : Flight) : Bool :=
  f.final == 0x7FFF || (f.mgmt && (endpoint s f.final).state != .unreachable) || (treeOf s f).isSome
    || (endpoint s f.final).state == .reachable

/-- The parent of an endpoint under a version: 0xFFFF off the tree. -/
def parentUnder (s : State) (t : Option PendingTree) (e : Nat) : Nat :=
  match t with
  | some t => tget 0xFFFF t.parents e
  | none => (endpoint s e).parent

/-- The path to an endpoint under a version, the first hop first; none without a path. -/
def pathUnder (s : State) (t : Option PendingTree) : Nat → Nat → List Nat → Option (List Nat)
  | 0, _, _ => none
  | n + 1, e, acc =>
    let q := parentUnder s t e
    if q = devAddr then some (e :: acc) else if q > devAddr then none else pathUnder s t n q (e :: acc)

/-- The path of at most 8 hops to an endpoint under the active version. -/
def pathTo (s : State) (e : Nat) : Option (List Nat) := pathUnder s none 8 e []

/-- The first hop of a frame on its own path (R247). -/
def directHop (s : State) (f : Flight) : Option Nat :=
  if f.final = allAddr then some allAddr else (pathUnder s (treeOf s f) 8 f.final []).bind (·.head?)

/-- The least of two candidates by cost, then by number. -/
def better (a b : Option (Nat × Nat)) : Option (Nat × Nat) :=
  match a, b with
  | none, b => b
  | a, none => a
  | some x, some y => if y.1 < x.1 || (y.1 == x.1 && decide (y.2 < x.2)) then some y else some x

/-- The repeater of R261 for a frame past a degraded hop n: the lowest cost, then the lowest number. -/
def alternate (s : State) (f : Flight) (n : Nat) : Option Nat :=
  let p := f.port
  let deep := match pathTo s f.final with | some l => decide (l.length > 7) | none => true
  if !(port s p).mac.cfg.alternate || deep then none
  else
    let cand := fun (e : Nat × Endpoint) =>
      if e.2.port != p || e.2.state == .free || e.2.capacity = 0 || e.1 == n || (nbr s p e.1).degraded then none
      else match linkCost s p devAddr e.1, linkCost s p e.1 n with
        | some a, some b => some (a + b, e.1)
        | _, _ => none
    (s.eps.foldl (fun a e => better a (cand e)) none).map (·.2)

/-- The station a frame is sent to now: its first hop, or in stage E3 the alternate repeater (R234). -/
def hopOf (s : State) (f : Flight) : Option Nat :=
  match directHop s f with
  | none => none
  | some h => if f.stage = 3 then alternate s f h else some h

/-- The route header of a frame the device sends (R244, R258, R261). -/
def routeBytes (s : State) (f : Flight) : Bytes :=
  let bc := f.final == allAddr
  let detour := f.stage == 3
  let via := if bc then f.bcastId else if detour then (directHop s f).getD 0 else 0
  let version := match treeOf s f with | some t => t.version | none => (port s f.port).topo.active
  beBytes 8 (packMsb [(15, devAddr), (15, f.final), (15, via), (8, version.toNat), (3, 0), (1, 0),
    (1, if bc then 1 else 0), (1, if detour then 1 else 0), (5, 0)])

/-- A unit of R209. -/
def unitBytes (seq : Nat) (route payload : Bytes) : Bytes :=
  let front := beBytes 2 payload.length ++ beBytes 2 seq ++ route ++ payload
  front ++ leBytes 4 (crc32 front) ++ zeros ((4 - (front.length + 4) % 4) % 4)

/-! ### Neighbour counters (R231 to R233) -/

/-- Mirror record 5 of a neighbour (R370). -/
def mirrorNbr (p e : Nat) (s : State) : State :=
  let x := nbr s p e
  mirrorSend (.neighbour p e x.counter.toNat x.degraded (x.dRt.map (· / 256))) s

/-- Mirror record 4 of a neighbour and class (R370). -/
def mirrorSeq (p e cls : Nat) (s : State) : State :=
  let x := nbr s p e
  mirrorSend (.seqs p e cls (tget 0 x.nextSeq cls) (tget 0 x.expected cls)) s

/-- A failed exchange adds 8 (R231). -/
def nbrFails (p e flight_ : Nat) (s : State) : State :=
  let x := nbr s p e
  let c := satAdd x.counter 8
  let enters := c.toNat == 255 && !x.degraded
  let s := updNbr p e (fun x => { x with counter := c, degraded := x.degraded || enters, failed := x.failed + 1 }) s
  mirrorNbr p e (if enters then raisePort p 3 1 e flight_ s else s)

/-- A successful exchange subtracts 1, or 64 while the neighbour is degraded (R231). -/
def nbrWorks (p e flight_ : Nat) (s : State) : State :=
  let x := nbr s p e
  let c := x.counter.toNat - if x.degraded then 64 else 1
  let leaves := x.degraded && decide (c ≤ 127)
  let s := updNbr p e (fun x => { x with counter := BitVec.ofNat 8 c, degraded := x.degraded && !leaves, ok := x.ok + 1 }) s
  mirrorNbr p e (if leaves then raisePort p 3 2 e flight_ s else s)

/-- The round-trip delay in samples, at its limit of 10 us while unknown (R218). -/
def dRtSamples (s : State) (p e : Nat) : Nat :=
  match (nbr s p e).dRt with
  | some d => d / 512
  | none => us 10

/-- A measurement of d_rt in ns (R218): the first one as it is, then with weight 1/8, clamped to 10 us, in 1/256 ns. Eight
in a row beyond 10 us report the neighbour as unsuitable; one within clears that. -/
def measureDelay (p e : Nat) (ns : Int) (s : State) : State :=
  let m : Int := 256 * max 0 (min 10000 ns)
  updNbr p e (fun x =>
    let d := match x.dRt with
      | none => m
      | some d => (d : Int) + (m - d) / 8
    let run := if ns > 10000 then x.longRun + 1 else 0
    { x with dRt := some d.toNat, longRun := run, unsuitable := if ns > 10000 then x.unsuitable || decide (run ≥ 8) else false }) s

end Sys2Proof.Machine
end

