-- ==== Sys2Proof/Machine/Mac.lean ====
section
/-! DEFINITION. Medium access (08): contention, the frames the device sends, exchanges and their outcomes, escalation, the
MAC commands. -/

namespace Sys2Proof.Machine

/-! ### Times of R212, in samples -/

def slotLen : Nat := us 30
def opportunity : Nat := us 12
def ackLen (leek : Bool) : Nat := if leek then 53120 else 10880
def protectLead : Nat := us 100

/-- The nominal start of a port's next beacon (R226). -/
def nextStart (s : State) (p : Nat) : Nat := (port s p).mac.beaconAt + (port s p).mac.nextBeacon

/-! ### Whether a port may send -/

/-- Whether a port can put anything on the line (R72 to R75, R78). -/
def mayTransmit (s : State) (p : Nat) : Bool :=
  let l := (port s p).line
  isOpen s p && l.closing.isNone && !l.stopped && !l.driverOff && !l.latched && !silent s && s.pwr.phase == .running
    && (match l.cal with | .running _ => false | _ => true)

/-- Whether a port may start exchanges: not while a calibration waits for its idle medium (R71). -/
def mayExchange (s : State) (p : Nat) : Bool :=
  mayTransmit s p && (match (port s p).line.cal with | .waitIdle _ => false | _ => true)

/-- The share of full throughput a frame of a class runs at, in 1/8,192: the factor of R34, not for PC3 and Long-reach (R35),
and the fraction of the Power-cap profile (R32). -/
def rateShare (x : Port) (cls : Nat) : Nat :=
  (if cls = 3 || (longReach x).isSome then 1024 else x.line.factor.toNat)
    * (match x.line.profile with | .powerCap n => n | _ => 8)

/-- Whether derating lets a frame of a class start now. -/
def rateOk (s : State) (p cls : Nat) : Bool :=
  let r := rateShare (port s p) cls
  decide (r ≥ 8192) || (decide (r > 0) && decide ((port s p).line.idleUntil ≤ s.now))

/-! ### Frames on the line -/

/-- Whether a frame is a tone-map message (R168). -/
def isTm (f : Flight) : Bool := f.mgmt && decide (0x10 ≤ rd f.data 0 1) && decide (rd f.data 0 1 ≤ 0x13)

/-- Whether a frame always takes the robust format (R168, R188); broadcasts have no map. -/
def isRobust (f : Flight) : Bool := isTm f || (f.mgmt && rd f.data 0 1 == 0x20) || f.final == allAddr

/-- How a frame is sent: its bits per symbol, and the loading and feedback of its map, empty in the robust and Leek forms. -/
structure Fmt where
  leek : Option Nat
  mapId : Nat
  streams : Nat
  guard : Nat
  rate : Nat
  refresh : Nat
  bsym : Nat
  loading : Bytes
  feedback : Bytes

/-- The Leek form at a repetition (R134). -/
def leekFmt (x : Port) (reps : Nat) : Fmt :=
  { leek := some reps, mapId := 15, streams := 1, guard := 1, rate := 0, refresh := 0, bsym := unmaskedLeek x.phy.mask,
    loading := [], feedback := [] }

/-- The robust form of a port in its profile: Leek in Long-reach, else R141. -/
def robustFmt (s : State) (p : Nat) (refresh : Nat) : Fmt :=
  let x := port s p
  match longReach x with
  | some x8 => leekFmt x (if x8 then 8 else 4)
  | none => { leek := none, mapId := 15, streams := 1, guard := robustGuard s p, rate := 0, refresh := refresh,
              bsym := 2 * unmaskedCount x.phy.mask, loading := [], feedback := [] }

/-- The form of a frame to a hop whose preamble starts at a time (R23, R165, R234). -/
def fmtOf (s : State) (f : Flight) (h t : Nat) : Fmt :=
  let x := port s f.port
  if f.stage = 1 then leekFmt x 4 else if f.stage = 2 then leekFmt x 8
  else
    let id := if isRobust f || (longReach x).isSome then 15 else pickMap s f.port h t
    if id = 15 then robustFmt s f.port x.phy.refresh
    else
      let m := mapInUse s f.port h id
      { leek := none, mapId := id, streams := m.streams, guard := m.gi, rate := m.rate, refresh := x.phy.refresh,
        bsym := (loadsOf x.phy.mask m.streams m.loading).sum, loading := m.loading, feedback := m.feedback }

/-- The codeword length, body symbols, offset of the body, symbol period and duration of a frame (R137, R142, R149). -/
def cwOf (fm : Fmt) (octets : Nat) : Nat := if fm.mapId = 15 then 0 else cwFor octets fm.rate
def symbolsOf (fm : Fmt) (octets : Nat) : Nat :=
  bodySymbols octets fm.rate (cwOf fm octets) fm.bsym fm.streams fm.refresh (fm.leek.getD 1)
def bodyOffOf (fm : Fmt) : Nat := if fm.leek.isSome then 9216 + 9 * 4864 else 5120 + 5632 * (1 + ceCount fm.streams)
def symLenOf (fm : Fmt) : Nat := if fm.leek.isSome then 4864 else 4096 + guardSamples fm.guard
def samplesOf (fm : Fmt) (octets : Nat) : Nat :=
  frameSamples fm.leek.isSome 0 fm.streams fm.guard (symbolsOf fm octets)

/-- The period P_x of the symbol grid (R185). -/
def gridPeriod (s : State) : Nat := 4096 + guardSamples s.canc.guardX

/-- The alignment delay of a frame whose body begins off samples past its start, on a port in a pair (R186). -/
def gridDelay (s : State) (p off t : Nat) : Nat :=
  let px := gridPeriod s
  if inPair s p then (px - (t + off) % px) % px else 0

/-- The start of a frame ready to start at t, and its form (R23, R186): the form is that of the slot in which the preamble starts,
and the start is the least that puts that form's body on the grid. -/
def alignedStart (s : State) (p t : Nat) (form : Nat → Fmt) : Nat × Fmt :=
  let px := gridPeriod s
  let ds := [1, 2, 3].map (fun st => gridDelay s p (5120 + 5632 * (1 + ceCount st)) t)
    ++ [gridDelay s p (bodyOffOf (leekFmt (port s p) 4)) t]
  let fits := fun (d : Nat) => gridDelay s p (bodyOffOf (form (t + d))) (t + d) == 0
  let best := fun (l : List Nat) => (l.filter fits).foldl (fun (b : Option Nat) d => some (min d (b.getD d))) none
  let d := (best ds).getD ((best (ds.map (· + px))).getD 0)
  (t + d, form (t + d))

/-- The waveform of a frame under the settings of its port at its start (R19, R63, R118, R122). -/
def waveOf (x : Port) (fm : Fmt) (fc : Fc) (body : Bytes) (sounding : Nat) : Wave where
  fc := packFc fc
  body := body
  loading := fm.loading
  feedback := fm.feedback
  sounding := sounding
  chive := false
  mask := x.phy.mask
  level := x.phy.txLevel
  atten := x.line.txAtten
  lanes := x.line.plcLanes.toNat

/-- A mode code of R133. -/
def modeCode (leek : Option Nat) : Nat := match leek with | none => 0 | some r => if r = 4 then 1 else 2

/-- The physical fields of a frame control with a body (R133). -/
def fcBody (fm : Fmt) (octets : Nat) : Fc :=
  { fcType := 0, mode := modeCode fm.leek, streams := fm.streams, guard := fm.guard, rate := fm.rate, cw := cwOf fm octets,
    mapId := fm.mapId, refresh := fm.refresh, symbols := symbolsOf fm octets, octets := octets }

/-- Symbol tags of a frame (R514): each of n symbols is drawn in turn; one tag of a kind is in flight on a port. -/
def tagSymbols (kind p first len : Nat) : Nat → State → State
  | 0, s => s
  | n + 1, s => tagSymbols kind p (first + len) len n (tagStart kind p (first % 2 ^ 32) 0 s)

/-- The tags of a kind on a port end with their last checkpoint. -/
def endSymbolTags (kind p last : Nat) (s : State) : State :=
  (s.obs.tags.filter (fun t => t.kind == kind && t.port == p)).foldl (fun s t =>
    tagEnd kind p t.ident false false 0 (tagCheck kind p t.ident last s)) s

/-- PORT_nnn_TXEN takes a level (R72). -/
def setTxen (p : Nat) (level : Txen) (s : State) : State :=
  if (port s p).line.txen = level then s else emit (.txen p level) (updLine p (fun l => { l with txen := level }) s)

/-- The level of TXEN while a port is open and sends nothing (R72): released on the standby device of a pair. -/
def txenIdle (s : State) : Txen := if silent s then .released else .low

/-- A transmission goes on the line (R73, R514): TXEN is high by its first sample, whether TXEN_RISE told its rise or not; its
output; its span for the transmit-active flag (R27). -/
def startTx (p : Nat) (tx : Tx) (s : State) : State :=
  let s := setTxen p .high s
  let s := emit (.line p tx.startAt tx.wave) (updLine p (fun l => { l with txSpans := (tx.startAt, tx.endAt) :: l.txSpans })
             (updMac p (fun m => { m with tx := some tx, contend := .idle }) s))
  tagSymbols 3 p (tx.startAt + tx.bodyOff) tx.symLen tx.symbols s

/-- What a transmission of a port has put on the line up to a time is counted (R504). -/
def countTx (p : Nat) (tx : Tx) (stop : Nat) (s : State) : State :=
  let n := min tx.endAt stop - tx.startAt
  let syms := if tx.symLen = 0 then 0 else min tx.symbols ((n - tx.bodyOff) / tx.symLen)
  let s := bump (8 * p + 7) n (bump (8 * p + 5) syms s)
  let lanes := bitPositions 4 (port s p).line.plcLanes.toNat
  endSymbolTags 3 p 4 (lanes.foldl (fun s k => bump (1024 + 4 * (4 * p + k) + 3) n s) s)

/-! ### Readiness (R214) -/

/-- Whether a frame is the TM_MAP_ACK of a map id and generation (R170). -/
def isMapAck (f : Flight) (k : Nat × Nat) : Bool :=
  f.mgmt && f.data.take 3 == [0x12, BitVec.ofNat 8 k.1, BitVec.ofNat 8 k.2]

/-- Whether an exchange of map acknowledgements holds a frame (R171): the TM_MAP_ACK itself is exempt, and so is a frame that
stands ahead of it in its queue (R36), which still uses the map in use before. -/
def linkHolds (s : State) (n h : Nat) : Bool :=
  let f := flight s n
  let held := (mapLink s f.port h).ackHold
  let behind := ((queue s (queueOf f)).flights.dropWhile (· != n)).drop 1
  decide (h < 16384) && !held.isEmpty && !held.any (fun k => isMapAck f k.1)
    && !behind.any (fun m => held.any (fun k => isMapAck (flight s m) k.1))

/-- Whether a frame can go out once it is staged: with a hop, and not held by R171, R232, R168 or derating. -/
def frameFree (s : State) (n : Nat) : Bool :=
  let f := flight s n
  match (hopOf s f).orElse (fun _ => directHop s f) with
  | none => false
  | some h =>
    let x := nbr s f.port h
    f.enqueued && !linkHolds s n h && (f.cls == 3 || !(x.degraded && x.used))
      && (!isTm f || decide ((port s f.port).tmSent < 16)) && rateOk s f.port f.cls

/-- Whether a queue is ready but for staging (R214, R275): its head can be routed, and nothing holds it. -/
def queueEligible (s : State) (q : Nat) : Bool :=
  match (queue s q).flights.head? with
  | none => false
  | some n => let f := flight s n; !f.heldPoison && !f.inExchange && routable s f && frameFree s n

/-- Whether a queue is ready (R214): eligible, its head staged. -/
def queueReady (s : State) (q : Nat) : Bool :=
  queueEligible s q && (match (queue s q).flights.head? with | some n => (flight s n).inShare | none => false)

/-- A sounding frame owed on a port now (R170): its neighbour, symbols, streams and slot. A degraded neighbour whose exchange of
the beacon period is used waits for the next (R232). -/
def soundDue (s : State) (p : Nat) : Option (Nat × Nat × Nat × Nat) :=
  let m := (port s p).mains
  s.tm.links.findSome? (fun e =>
    let x := nbr s p (e.1 % 16384)
    if e.1 / 16384 != p || !e.2.ackHold.isEmpty || (longReach (port s p)).isSome || (x.degraded && x.used) then none
    else
      let slot := if mainsLocked m then slotOf m s.now else ((e.2.sound.head?).map (·.1)).getD 0
      (e.2.sound.find? (fun x => x.1 == slot)).map (fun x => (e.1 % 16384, x.2.1, x.2.2, slot)))

/-- The class a port takes part with (R214): its highest ready one; sounding frames go in class 2. -/
def readyClass (s : State) (p : Nat) : Option Nat :=
  let ready := fun (c : Nat) => (serviceOrder s p c).any (queueReady s) || (c == 2 && (soundDue s p).isSome && rateOk s p 2)
  if mayExchange s p && !(port s p).mac.waitBeacon then [3, 2, 1, 0].find? ready else none

/-! ### The contention cycle (R212 to R215) -/

/-- The head that a port contends with in a class (R215, R267): a sounding frame before any in class 2. -/
def contendingHead (s : State) (p cls : Nat) : Option (Nat × Nat) :=
  if cls = 2 && (soundDue s p).isSome then none
  else ((serviceOrder s p cls).find? (queueReady s)).bind (fun q => ((queue s q).flights.head?).map (fun n => (q, n)))

/-- The device finds at a period's start with which class and frame it takes part (R214, R215); with none it leaves. -/
def enterPeriod (p : Nat) (s : State) : State :=
  match readyClass s p with
  | some c => updMac p (fun m => { m with cls := c, head := contendingHead s p c }) s
  | none => updMac p (fun m => { m with contend := .left, slotAt := m.slotAt + 2 * slotLen }) s

/-- A contention period starts at a time (R213): 4 stands for a class not yet found, when the start lies ahead. -/
def startContention (p start : Nat) (s : State) : State :=
  let s := updMac p (fun m => { m with contend := .prs0, slotAt := start, idleSlots := 0, holdOff := none, cls := 4 }) s
  if start ≤ s.now then enterPeriod p s else s

/-- The contention window (R215). -/
def contentionWindow (cls fails : Nat) : Nat :=
  if cls ≤ 1 then 8 * 2 ^ min 3 fails else min 16 (4 * 2 ^ min 3 fails)

/-- Back-off is entered (R215): a count is drawn when none is held. -/
def enterBackoff (p : Nat) (s : State) : State :=
  let m := (port s p).mac
  match m.bc with
  | some _ => updMac p (fun m => { m with contend := .backoff }) s
  | none =>
    let fails := match m.head with | some (_, n) => (flight s n).fails | none => 0
    match freshNat s with
    | (v, s) => updMac p (fun m => { m with contend := .backoff, bc := some (v % contentionWindow m.cls fails) }) s

/-- PRS_SLOT (R214): the slot in progress runs to its end; heard tells of a priority signal, heardFrame of a frame. -/
def execPrsSlot (port_ : Nat) (heard heardFrame : Bool) (s : State) : Out :=
  if port_ ≥ s.part.ports then .fault .absentResource
  else
    let m := (port s port_).mac
    if m.contend != .prs0 && m.contend != .prs1 then .next s
    else
      let s := advanceTo m.slotAt s
      let s := if m.cls = 4 then enterPeriod port_ s else s
      let m := (port s port_).mac
      if m.contend = .left then .next s
      else
        let first := m.contend == .prs0
        let sends := if first then decide (m.cls ≥ 2) else m.cls % 2 == 1
        let at_ := m.slotAt
        let s := advanceTo (at_ + slotLen) s
        let next := fun (s : State) =>
          let s := updMac port_ (fun m => { m with slotAt := at_ + slotLen }) s
          if first then updMac port_ (fun m => { m with contend := .prs1 }) s else enterBackoff port_ s
        if sends && mayExchange s port_ then
          let s := updLine port_ (fun l => { l with txSpans := (at_ + us 8, at_ + us 8 + 4224) :: l.txSpans }) (setTxen port_ .high s)
          .next (next (bump (8 * port_ + 7) 4224 (emit (.priority port_ (at_ + us 8) (longReach (port s port_)).isSome) s)))
        else if heardFrame then .next (updMac port_ (fun m => { m with contend := .idle }) s)
        else if heard || sends then
          .next (updMac port_ (fun m => { m with contend := .left, slotAt := at_ + (if first then 2 else 1) * slotLen }) s)
        else .next (next s)

/-- BACKOFF_SLOT_END (R215). -/
def execBackoffSlotEnd (port_ : Nat) (heardS1 heardFrame : Bool) (s : State) : Out :=
  if port_ ≥ s.part.ports then .fault .absentResource
  else
    let m := (port s port_).mac
    if m.contend != .backoff && m.contend != .left then .next s
    else
      let s := advanceTo (m.slotAt + slotLen) s
      if heardFrame then .next (updMac port_ (fun m => { m with contend := .idle }) s)
      else
        let runs := m.contend == .backoff && m.bc != some 0
        .next (updMac port_ (fun m =>
          { m with slotAt := m.slotAt + slotLen, idleSlots := if heardS1 then 0 else m.idleSlots + 1,
                   bc := if runs && !heardS1 then m.bc.map (· - 1) else m.bc,
                   contend := if runs then .backoff else .left }) s)

/-- IDLE_RESTART (R213): after the 16th idle slot in a row. -/
def execIdleRestart (port_ : Nat) (s : State) : Out :=
  if port_ ≥ s.part.ports then .fault .absentResource
  else
    let m := (port s port_).mac
    if (m.contend == .backoff || m.contend == .left) && decide (m.idleSlots ≥ 16) then
      .next (startContention port_ m.slotAt (advanceTo m.slotAt s))
    else .next s

/-- UNDECODABLE_HOLD_OFF_END (R213). -/
def execUndecodableHoldOffEnd (port_ : Nat) (s : State) : Out :=
  if port_ ≥ s.part.ports then .fault .absentResource
  else
    let m := (port s port_).mac
    match m.holdOff with
    | none => .next s
    | some t =>
      let s := advanceTo t s
      .next (if m.rx.isSome || m.tx.isSome then updMac port_ (fun m => { m with holdOff := none }) s else startContention port_ t s)

/-! ### Starting a frame (R186, R209, R216, R220, R234) -/

/-- The retransmission limit of a class on a port. -/
def retryOf (s : State) (p cls : Nat) : Nat := (port s p).mac.cfg.retry.getD cls 7

/-- A PC3 frame's stage as it is scheduled (R234): E1 from Normal when its neighbour is degraded or the stage is used up; from
E3 back to E1 when no alternate path is left; entries are raised once. -/
def scheduleStage (n : Nat) (s : State) : State :=
  let f := flight s n
  let p := f.port
  match f.cls == 3, directHop s f with
  | true, some h =>
    if h ≥ 16384 then s
    else
      let toE1 := f.stage == 0 && ((nbr s p h).degraded || decide (f.stageSent > retryOf s p 3))
      let lost := f.stage == 3 && (alternate s f h).isNone
      let s := if lost then raisePort p 3 6 f.final n (raisePort p 3 5 f.final n s) else s
      let s := if toE1 || lost then updFlight n (fun f => { f with stage := 1, stageSent := 0, entered := false }) s else s
      let f := flight s n
      if f.entered || (f.stage != 1 && f.stage != 3) then s
      else
        let s := updFlight n (fun f => { f with entered := true }) s
        let s := if f.stage = 1 then updNbr p h (fun x => { x with escalations := x.escalations + 1 }) s else s
        raisePort p 3 (if f.stage = 1 then 3 else 4) f.final n s
  | _, _ => s

/-- The frames a transmission may carry (R220): the head of a queue and those behind it with the same hop, marked and staged; a
management, escalating or broadcast frame goes alone. -/
def aggregate (s : State) (q n h : Nat) : List Nat :=
  let f := flight s n
  if f.mgmt || f.stage > 0 || f.final = allAddr then [n]
  else
    (marked s q).takeWhile (fun k =>
      let g := flight s k
      g.enqueued && g.inShare && !g.mgmt && g.stage == 0 && !g.heldPoison && routable s g && hopOf s g == some h
        && g.final != allAddr)

/-- Octets of the body that carries frames (R209). -/
def octetsOf (s : State) (ns : List Nat) : Nat := (ns.map (fun n => ((flight s n).len + 16 + 3) / 4 * 4)).sum

/-- Copies of a frame still to send in the beacon period, the one to be sent among them (R258): one, but for a broadcast. -/
def copiesLeft (s : State) (n : Nat) : Nat :=
  let f := flight s n
  if f.final != allAddr then 1 else if f.copies > 0 then f.copies else max 1 (port s f.port).topo.cfg.copies

/-- Whether a frame meets R211 and its exchange ends before the next beacon's protection (R216) and, from the first failing frame of
a pair's active device on, by the standby's boundary (R545, R547). -/
def exchangeFits (s : State) (p h start : Nat) (fm : Fmt) (octets copies : Nat) : Bool :=
  let len := samplesOf fm octets
  let stop := start + copies * len + if h = allAddr then 0 else us 62 + dRtSamples s p h + ackLen fm.leek.isSome
  decide (len ≤ if fm.leek.isSome then 3000000 else 2000000)
    && (!(port s p).mac.beaconing || decide (stop + protectLead ≤ nextStart s p))
    && (match s.trk.pair.failFrom with
        | some f => decide (start < sampleOf s.tmb (frameTime f)) || decide (stop ≤ sampleOf s.tmb (frameTime (f + 2)))
        | none => true)

/-- A frame's sequence number at a station (R209, R224): given at its first transmission there. -/
def takeSeq (n h : Nat) (s : State) : State :=
  let f := flight s n
  if f.seq.isSome && f.seqTo == h then s
  else
    let q := tget 0 (nbr s f.port h).nextSeq f.cls
    let s := updFlight n (fun f => { f with seq := some q, seqTo := h }) s
    mirrorSeq f.port h f.cls (updNbr f.port h (fun x => { x with nextSeq := tset x.nextSeq f.cls ((q + 1) % 4096) }) s)

/-- A broadcast unit takes its identifier and its copies when first sent (R258). -/
def takeBcast (n : Nat) (s : State) : State :=
  let f := flight s n
  if f.final != allAddr || f.copies > 0 then s
  else
    let t := (port s f.port).topo
    updFlight n (fun f => { f with copies := t.cfg.copies, bcastId := t.bcastId.toNat + 1 })
      (updTopo f.port (fun t => { t with bcastId := t.bcastId + 1 }) s)

/-- The transmission of frames to a hop. -/
def sendFrames (p q h start : Nat) (fm : Fmt) (ns : List Nat) (s : State) : State :=
  let s := ns.foldl (fun s n => takeSeq n h (takeBcast n s)) s
  let head := flight s (ns.headD 0)
  let unit_ := fun (n : Nat) => let f := flight s n; unitBytes (f.seq.getD 0) (routeBytes s f) f.data
  let body := ns.flatMap unit_
  let octets := body.length
  let ack := h != allAddr
  let fc := { fcBody fm octets with kind := if head.mgmt then 1 else 0, cls := head.cls, tx := devAddr, rx := h, ackReq := ack,
                                    units := ns.length, attempt := min 15 head.attempt, firstSeq := head.seq.getD 0 }
  let tx : Tx := { kind := fc.kind, cls := fc.cls, dest := h, ackReq := ack, attempt := fc.attempt, firstSeq := fc.firstSeq,
                   mapId := fm.mapId, leek := fm.leek, flights := ns, queue := q, body := body, startAt := start,
                   endAt := start + samplesOf fm octets, symbols := symbolsOf fm octets, symLen := symLenOf fm,
                   bodyOff := bodyOffOf fm, wave := waveOf (port s p) fm fc body 0 }
  let s := ns.foldl (fun s n =>
    let s := updFlight n (fun f => { f with attempt := f.attempt + 1, stageSent := f.stageSent + 1, inExchange := true }) s
    tagCheck 1 p n 5 s) s
  let s := advanceTo start s
  let s := ns.foldl (fun s n => tagCheck 1 p n 6 s) s
  let s := if head.cls != 3 && (nbr s p h).degraded then updNbr p h (fun x => { x with used := true }) s else s
  let s := if isTm head then updPort p (fun x => { x with tmSent := x.tmSent + 1 }) s else s
  let s := updMac p (fun m => { m with served := tset m.served head.cls (q % 8) }) s
  startTx p tx s

/-- A port transmits nothing in its opportunity and keeps its count (R216). -/
def leavePeriod (p : Nat) (s : State) : State := updMac p (fun m => { m with contend := .left }) s

/-- The same for an exchange that does not fit ahead of the beacon (R216): the port takes part again after it. -/
def leaveUntilBeacon (p : Nat) (s : State) : State := updMac p (fun m => { m with contend := .left, waitBeacon := m.beaconing }) s

/-- A TM_MAP_ACK is no longer awaited (R171). -/
def mapAckEnds (f : Flight) (h : Nat) (s : State) : State :=
  updLink f.port h (fun l => { l with ackHold := l.ackHold.filter (fun k => !isMapAck f k.1) }) s

/-- A TM_MAP_ACK that is given up, at its limit or by a retirement (R171): the map is given up. -/
def mapAckLost (f : Flight) (h : Nat) (s : State) : State :=
  match (mapLink s f.port h).ackHold.find? (fun k => isMapAck f k.1) with
  | none => s
  | some k =>
    if h < 16384 then tmInvalidate f.port h [k.1.1] 1 (invalidate f.port h 1 [k.1.1] (mapAckEnds f h s)) else s

/-- A frame to a hop retires (R279, R282): with it goes the map that a TM_MAP_ACK stands for. -/
def retireFrame (n : Nat) (st : Status) (s : State) : State :=
  let f := flight s n
  let h := directHop s f
  let s := retireFlight n st s
  if thas s.lbf.flights n then s else match h with | some h => mapAckLost f h s | none => s

/-- A frame whose words in the share are found poisoned as it is sent (R282, R283): retired, or, in PC3, read from its backing
slot, and held poisoned when that is poisoned too. -/
def sharePoisoned (p : Nat) (s : State) (n : Nat) : State :=
  let f := flight s n
  let s := parityFail 0 p false s
  if f.cls != 3 then retireFrame n St.poisoned s
  else if f.backPoison || !f.inBacking then
    if f.heldPoison then s
    else raisePort p 1 4 noArg n (updFlight n (fun f => { f with heldPoison := true }) s)
  else s

/-- A sounding frame (R142, R170): CE-form symbols at the guard of the robust format, with no body octets. DESIGN CHOICE (log 151):
the spec states no tonemap_id, fec_rate, cw_len or refresh for it; they are 15, 0, 0 and 0. -/
def sendSounding (p h syms streams slot start : Nat) (s : State) : State :=
  let g := robustGuard s p
  let fm : Fmt := { leek := none, mapId := 15, streams := streams, guard := g, rate := 0, refresh := 0, bsym := 0, loading := [],
                    feedback := [] }
  let fc : Fc := { fcType := 2, streams := streams, guard := g, symbols := syms, kind := 4, cls := 2, tx := devAddr, rx := h }
  let tx : Tx := { kind := 4, cls := 2, dest := h, ackReq := false, attempt := 0, firstSeq := 0, mapId := 15, leek := none,
                   flights := [], queue := 0, body := [], startAt := start, endAt := start + frameSamples false 2 streams g syms,
                   symbols := syms, symLen := 4096 + guardSamples g, bodyOff := 5120 + 5632,
                   wave := waveOf (port s p) fm fc [] syms }
  let s := updLink p h (fun l => { l with sound := tdel l.sound slot }) s
  let s := if (nbr s p h).degraded then updNbr p h (fun x => { x with used := true }) s else s
  startTx p tx (advanceTo start s)

/-- The read of the map a frame would use fails uncorrectably (R165, R176: a cache entry's fill, or the miss path): the map becomes
invalid and a system event is raised. -/
def mapReadFails (p h id dir : Nat) (s : State) : State :=
  if id > 8 || h ≥ 16384 || !(getMap s p h dir id).valid then s
  else raiseSys 8 1 0 0 (ddrError (invalidate p h dir [id] s))

/-- The frame a port won its opportunity with (R216, R220): a start in the first 12 us of the slot, as many units as fit. -/
def transmitHead (p q n units : Nat) (poison : List Nat) (mapFail : Bool) (s : State) : State :=
  let slot := (port s p).mac.slotAt
  let s := scheduleStage n s
  match hopOf s (flight s n) with
  | none => leavePeriod p s
  | some h =>
    let f := flight s n
    let ns := (aggregate s q n h).take (max 1 (min 4 units))
    let bad := ns.filter poison.contains
    let s := bad.foldl (sharePoisoned p) s
    if bad.any (fun k => !thas s.lbf.flights k || (flight s k).heldPoison) then leavePeriod p s
    else
      let s := if mapFail then mapReadFails p h (fmtOf s f h s.now).mapId 1 s else s
      let (start, fm) := alignedStart s p s.now (fmtOf s f h)
      if start > slot + opportunity then leavePeriod p s
      else
        let fits := fun (k : Nat) => exchangeFits s p h start fm (octetsOf s (ns.take (k + 1))) (copiesLeft s n)
        match ((List.range ns.length).reverse).find? fits with
        | none => leaveUntilBeacon p s
        | some k => sendFrames p q h start fm (ns.take (k + 1)) s

/-- The sounding frame a port won its opportunity with. -/
def transmitSounding (p : Nat) (s : State) : State :=
  match soundDue s p with
  | none => leavePeriod p s
  | some (h, n, st, slot) =>
    let start := s.now + gridDelay s p (5120 + 5632) s.now
    let stop := start + frameSamples false 2 st (robustGuard s p) n
    if start > (port s p).mac.slotAt + opportunity then leavePeriod p s
    else if !(port s p).mac.beaconing || stop + protectLead ≤ nextStart s p then sendSounding p h n st slot start s
    else leaveUntilBeacon p s

/-- FRAME_TRANSMIT_START (R216, R220): units bounds how many frames it carries; reads tells which reads for it fail. The port sends
what it contended with (R215). -/
def execFrameTransmitStart (port_ units : Nat) (reads : TxReads) (s : State) : Out :=
  if port_ ≥ s.part.ports then .fault .absentResource
  else
    let m := (port s port_).mac
    if m.contend != .backoff || m.bc != some 0 || m.tx.isSome || m.rx.isSome || !mayExchange s port_ then .next s
    else
      let s := advanceTo m.slotAt s
      match m.head with
      | none => .next (if m.cls = 2 then transmitSounding port_ s else leavePeriod port_ s)
      | some (q, n) =>
        .next (if queueReady s q && (queue s q).flights.head? == some n then transmitHead port_ q n units reads.poison reads.mapFail s
               else leavePeriod port_ s)

/-! ### Staging (R275) -/

/-- The eligible queues of a port, highest class first, each class in service order. -/
def eligibleQueues (s : State) (p : Nat) : List Nat :=
  ([3, 2, 1, 0].flatMap (serviceOrder s p)).filter (queueEligible s)

/-- The frames of a port that may be written back for a queue of class cls (R275), in the order they are chosen: lowest
class first, within a class the queues that are not ready before the ready ones, within a queue the tail first. -/
def writeBackOrder (s : State) (p cls : Nat) : List Nat :=
  let ofQueue := fun (q : Nat) => (queue s q).flights.reverse.filter (fun n =>
    let f := flight s n; f.inShare && !f.inExchange && f.cls != 3)
  [0, 1, 2].flatMap (fun k =>
    let qs := (List.range 8).map (fun j => 32 * p + 8 * k + j)
    qs.flatMap (fun q => if queueEligible s q then [] else ofQueue q)
      ++ (if k < cls then qs.flatMap (fun q => if queueEligible s q then ofQueue q else []) else []))

/-- Write frames back until a share has room for the cells (R275). -/
def makeRoom (p : Nat) (pc3 : Bool) (cells : Nat) : List Nat → State → State
  | [], s => s
  | n :: rest, s =>
    if shareRoom s p pc3 cells then s
    else makeRoom p pc3 cells rest (updFlight n (fun f => { f with inShare := false, inBacking := true }) s)

/-- The backing slot of a frame cannot be read (R281 to R283): a PC3 frame becomes held poisoned, with the port's
parity event once; any other retires with ST_POISONED. -/
def backingFails (n : Nat) (s : State) : State :=
  let f := flight s n
  let s := ddrError (parityFail 3 (n / 16) true s)
  if f.cls = 3 then
    if f.heldPoison then s
    else raisePort f.port 1 4 noArg n (updFlight n (fun f => { f with heldPoison := true, backPoison := true }) s)
  else retireFrame n St.poisoned s

/-- Stage one marked frame (R275). -/
def stageFlight (n : Nat) (ddrFail : Bool) (s : State) : State :=
  let f := flight s n
  if f.inShare || !thas s.lbf.flights n then s
  else if ddrFail || f.backPoison then backingFails n s
  else
    let cells := cellsOf f.len
    let s := makeRoom f.port (f.cls == 3) cells (writeBackOrder s f.port f.cls) s
    if shareRoom s f.port (f.cls == 3) cells then
      tagCheck 1 f.port n 4 (updFlight n (fun f => { f with inShare := true, inBacking := f.cls == 3 }) s)
    else s

/-- STAGING (R275): the first eligible queue with a marked frame outside the share is staged. -/
def execStaging (port_ : Nat) (ddrFail : Bool) (s : State) : Out :=
  if port_ ≥ s.part.ports then .fault .absentResource
  else
    let wants := fun (q : Nat) => (marked s q).any (fun n => !(flight s n).inShare && !(flight s n).heldPoison)
    match (eligibleQueues s port_).find? wants with
    | none => .next s
    | some q => .next ((marked s q).foldl (fun s n => stageFlight n ddrFail s) s)

/-! ### Outcomes (R219 to R225, R231, R234) -/

/-- A rewind of a queue (R221): counted, the frames' exchange over. -/
def rewindQueue (p : Nat) (tx : Tx) (s : State) : State :=
  match tx.flights with
  | [] => s
  | n :: _ =>
    let f := flight s n
    let s := updQueue tx.queue (fun q => { q with rewinds := satAdd q.rewinds 1 }) s
    count 0x0005 { port := some p, cls := some tx.cls, pod := some (if f.engine then 0 else f.pod) } 1 s

/-- A frame leaves an exchange without delivery (R225, R280): a detached one and one with a retirement pending are released. -/
def leaveExchange (n : Nat) (s : State) : State :=
  if !thas s.lbf.flights n then s
  else
    let s := updFlight n (fun f => { f with inExchange := false }) s
    let f := flight s n
    if f.detached then releaseFlight n St.abortedByReset s
    else match f.retire with
      | some st => retireFrame n st s
      | none => s

/-- A PC3 frame's stage after a failed exchange (R234): the next stage once the present one is used up; a cycle that ends
without delivery is raised, and the skipping of E3. -/
def nextStage (n : Nat) (s : State) : State :=
  let f := flight s n
  let go := fun (k : Nat) (s : State) => updFlight n (fun f => { f with stage := k, stageSent := 0, entered := false }) s
  let beyond := fun (s : State) => raisePort f.port 3 6 f.final n s
  if f.stage = 1 && f.stageSent ≥ 4 then go 2 s
  else if f.stage = 2 && f.stageSent ≥ 4 then
    match (directHop s f).bind (alternate s f) with
    | some _ => go 3 s
    | none => go 1 (beyond (raisePort f.port 3 5 f.final n s))
  else if f.stage = 3 && f.stageSent > retryOf s f.port 3 then go 1 (beyond s)
  else s

/-- A frame has failed once (R221, R222, R235). -/
def flightFails (h n : Nat) (s : State) : State :=
  let s := leaveExchange n (updFlight n (fun f => { f with fails := f.fails + 1 }) s)
  if !thas s.lbf.flights n then s
  else
    let f := flight s n
    if f.cls = 3 then nextStage n s
    else if f.fails > retryOf s f.port f.cls then mapAckLost f h (releaseFlight n St.retryLimit s)
    else s

/-- Failures under a map (R174). -/
def mapFails (p : Nat) (tx : Tx) (s : State) : State :=
  if tx.mapId > 8 || tx.dest ≥ 16384 then s
  else
    let s := updMap p tx.dest 1 tx.mapId (fun m => { m with failures := m.failures + 1 }) s
    if (getMap s p tx.dest 1 tx.mapId).failures < 3 then s
    else
      let s := updMap p tx.dest 1 tx.mapId (fun m => { m with failures := 0 }) s
      if tx.mapId = 8 then tmRequest p tx.dest (List.range 9) true 255 (invalidate p tx.dest 1 (List.range 9) s)
      else tmRequest p tx.dest [tx.mapId] false 0 (invalidate p tx.dest 1 [tx.mapId] s)

/-- A failed exchange (R221). -/
def exchangeFails (p : Nat) (tx : Tx) (s : State) : State :=
  let n := tx.flights.headD 0
  let s := updMac p (fun m => { m with awaiting := none, bc := none, ackEnd := none }) s
  let s := bump (8 * p + 2) 1 s
  let s := tx.flights.foldl (fun s n =>
    count 0x0004 { port := some p, cls := some tx.cls, pod := some (let f := flight s n; if f.engine then 0 else f.pod) } 1 s) s
  let s := tx.flights.foldl (fun s n => tagCheck 1 p n 8 s) s
  let s := mapFails p tx (rewindQueue p tx (nbrFails p tx.dest n s))
  tx.flights.foldl (fun s n => flightFails tx.dest n s) s

/-- A frame has been delivered to its hop (R221): a TM_MAP_ACK acknowledged lets the link go on (R171). -/
def flightWorks (h n : Nat) (s : State) : State :=
  let f := flight s n
  releaseFlight n St.ok (if f.mgmt && decide (h < 16384) then mapAckEnds f h s else s)

/-- A successful exchange with k units accepted (R221). -/
def exchangeWorks (p : Nat) (tx : Tx) (k : Nat) (s : State) : State :=
  let s := updMac p (fun m => { m with awaiting := none, bc := none, ackEnd := none }) s
  let s := tx.flights.foldl (fun s n => tagCheck 1 p n 8 s) s
  let done := tx.flights.take k
  let s := bump (8 * p) done.length (bump (8 * p + 3) ((done.map (fun n => (flight s n).len)).sum) s)
  let s := nbrWorks p tx.dest (tx.flights.headD 0) s
  let s := if tx.mapId ≤ 8 && tx.dest < 16384 then updMap p tx.dest 1 tx.mapId (fun m => { m with failures := 0 }) s else s
  let rest := tx.flights.drop k
  let s := if rest.isEmpty then s else rewindQueue p { tx with flights := rest } s
  let s := done.foldl (fun s n => flightWorks tx.dest n s) s
  match rest with
  | [] => s
  | n :: more => more.foldl (fun s n => leaveExchange n s) (flightFails tx.dest n s)

/-- The latest span of the transmit-active flag ends now, the transmission being cut off (R27). -/
def cutSpan (p : Nat) (s : State) : State :=
  updLine p (fun l => { l with txSpans := match l.txSpans with
    | x :: xs => (x.1, min x.2 s.now) :: xs
    | [] => [] }) s

/-- A transmission, or an exchange that awaits its acknowledgement, is given up without counting (R37, R57, R74, R223). DEDUCED
(log 152): an attempt that contended is an exchange the device started, so R215's draw follows it: no back-off count is held on. -/
def abandonTx (p : Nat) (s : State) : State :=
  let m := (port s p).mac
  let s := match m.tx with | some tx => cutSpan p (countTx p tx s.now s) | none => s
  let started := fun (o : Option Tx) => match o with | some tx => decide (tx.kind ≤ 1) || tx.kind == 4 | none => false
  let s := updMac p (fun m => { m with tx := none, awaiting := none, ackEnd := none,
                                       bc := if started m.tx || started m.awaiting then none else m.bc }) s
  let back := fun (o : Option Tx) (s : State) =>
    match o with
    | none => s
    | some tx =>
      if tx.flights.isEmpty then s
      else tx.flights.foldl (fun s n =>
        leaveExchange n (updFlight n (fun f => { f with stageSent := f.stageSent - 1 }) s)) (rewindQueue p tx s)
  back m.awaiting (back m.tx s)

/-- The last sample of a frame leaves (R121, R213): the acknowledgement is awaited, or a contention period starts; a broadcast is done with
its last copy (R258). -/
def endTransmit (port_ : Nat) (s : State) : Out :=
  if port_ ≥ s.part.ports then .fault .absentResource
  else
    match (port s port_).mac.tx with
    | none => .next s
    | some tx =>
      let s := countTx port_ tx tx.endAt (advanceTo tx.endAt s)
      let s := updMac port_ (fun m => { m with tx := none }) s
      let s := tx.flights.foldl (fun s n => tagCheck 1 port_ n 7 s) s
      let r := rateShare (port s port_) tx.cls
      let s := if tx.kind ≤ 1 && r < 8192 then
                 updLine port_ (fun l => { l with idleUntil := tx.endAt + (tx.endAt - tx.startAt) * (8192 - r) / max 1 r }) s
               else s
      if tx.ackReq then .next (updMac port_ (fun m => { m with awaiting := some tx }) s)
      else
        let done := fun (s : State) (n : Nat) =>
          let s := updFlight n (fun f => { f with copies := f.copies - 1, inExchange := false }) s
          if (flight s n).copies = 0 || (flight s n).detached || (flight s n).retire.isSome then
            releaseFlight n (((flight s n).retire).getD St.ok) s
          else s
        let s := tx.flights.foldl done s
        let s := if tx.kind ≤ 1 || tx.kind = 4 then updMac port_ (fun m => { m with bc := none }) s else s
        .next (startContention port_ tx.endAt s)

/-- Whether an acknowledgement answers an exchange (R219). -/
def ackMatches (tx : Tx) (f : Fc) : Bool :=
  f.kind == 3 && f.tx == tx.dest && f.rx == devAddr && f.cls == tx.cls && f.attempt == tx.attempt
    && f.firstSeq == tx.firstSeq && decide (1 ≤ f.units) && decide (f.units ≤ tx.flights.length)

/-- The acknowledgement window of an exchange (R212, R218): from the first to the last sample count of a frame start. -/
def ackWindow (s : State) (p : Nat) (tx : Tx) : Nat × Nat :=
  match (nbr s p tx.dest).dRt with
  | some d => (tx.endAt + us 58 + d / 512, tx.endAt + us 62 + d / 512)
  | none => (tx.endAt + us 58, tx.endAt + us 72)

/-- An acknowledgement arrives (R218, R219): fc is the frame control, start its frame start. -/
def ackReceived (port_ fc start : Nat) (s : State) : Out :=
  if port_ ≥ s.part.ports then .fault .absentResource
  else
    match (port s port_).mac.awaiting with
    | none => .next s
    | some tx =>
      let f := parseFc fc
      let stop := start + ackLen (f.mode != 0)
      if !fcValid fc || fcReserved f || !fcCombines f || !kindOk f || f.kind != 3 || f.mode != modeCode tx.leek || f.tx != tx.dest
          || f.rx != devAddr || decide (start < tx.endAt) then .next s
      else
        let w := ackWindow s port_ tx
        let s := measureDelay port_ tx.dest (2 * ((start : Int) - (tx.endAt + us 60))) (advanceTo stop s)
        if w.1 ≤ start && start ≤ w.2 && ackMatches tx f then
          .next (startContention port_ stop (exchangeWorks port_ tx f.units s))
        else .next (updMac port_ (fun m => { m with ackEnd := some stop }) s)

/-- The acknowledgement window closes (R213, R219): the window has passed with no valid acknowledgement. The contention period
starts at its end, or at the frame end of an acknowledgement that was detected and does not meet R219. -/
def ackWindowClose (port_ : Nat) (s : State) : Out :=
  if port_ ≥ s.part.ports then .fault .absentResource
  else
    match (port s port_).mac.awaiting with
    | none => .next s
    | some tx =>
      let stop := (ackWindow s port_ tx).2
      let resume := ((port s port_).mac.ackEnd).getD stop
      let s := exchangeFails port_ tx (advanceTo stop s)
      let m := (port s port_).mac
      .next (if m.rx.isSome || m.holdOff.isSome then s else startContention port_ resume s)

/-! ### Commands (R236 to R239) -/

/-- mac.configure (R237, R238). -/
def macConfigureBody (req : Bytes) (s : State) : State × Reply :=
  let p := rd req 0 2
  let retry := [rd req 2 1, rd req 3 1, rd req 4 1, rd req 5 1]
  let cfg : MacCfg := { retry := retry, beaconSlot := rd req 6 1, leekEvery := rd req 7 1, networkId := rd req 8 4,
                        alternate := bit (rd req 12 1) 0 }
  if p ≥ s.part.ports || retry.any (fun l => decide (l < 1) || decide (l > 15)) || rd req 6 1 > 7 || rd req 7 1 > 16
      || rd req 12 1 > 1 then answer St.badParam s
  else if !isOpen s p then answer St.ok (updMac p (fun m => { m with cfg := cfg }) s)
  else if (port s p).mac.next.isSome then answer St.configPending s
  else answer St.pending (updMac p (fun m => { m with next := some cfg }) s)

def execMacConfigure (c : Caller) (req : Bytes) (s : State) : Out :=
  .next (runCmd ⟨0x0601, shaped req 16 [(13, 3)], true, [.port (rd req 0 2)]⟩ c req (macConfigureBody req) s)

/-- mac.neighbour (R239). -/
def macNeighbourBody (c : Caller) (req : Bytes) (s : State) : State × Reply :=
  let p := rd req 0 2
  let e := rd req 2 2
  if p ≥ s.part.ports || e ≥ 16384 || rd req 4 1 > 1 then answer St.badParam s
  else if !mayPort s c p then answer St.denied s
  else if !isNeighbour s p e then answer St.noNeighbour s
  else
    let clear := rd req 4 1 == 1 && c.pod == 0 && (nbr s p e).degraded
    let s := if clear then
               mirrorNbr p e (raisePort p 3 2 e noArg (updNbr p e (fun x => { x with degraded := false, counter := 127 }) s))
             else s
    let x := nbr s p e
    let esc := (s.lbf.flights.filter (fun f => f.2.port == p && decide (f.2.stage > 0) && directHop s f.2 == some e)).length
    let d := match x.dRt with | some d => d / 256 | none => 0xFFFF
    (s, .done St.ok (leBytes 2 St.ok.toNat ++ leBytes 1 (if x.degraded then 1 else 0) ++ leBytes 1 x.counter.toNat
      ++ leBytes 2 d ++ leBytes 2 esc ++ leBytes 8 x.ok.toNat ++ leBytes 8 x.failed.toNat ++ leBytes 8 x.escalations.toNat
      ++ leBytes 8 x.rxSecurity.toNat))

def execMacNeighbour (c : Caller) (req : Bytes) (s : State) : Out :=
  .next (runCmd ⟨0x0602, shaped req 8 [(5, 3)], false, [.port (rd req 0 2), .endpoint (rd req 2 2)]⟩ c req
    (macNeighbourBody c req) s)

end Sys2Proof.Machine
end

