-- ==== Sys2Proof/Machine/Receive.lean ====
section
/-! DEFINITION. What a port receives (05 R130, R140, R150; 08 R217, R224; 03 R66): preambles, frame controls, bodies and the
acknowledgements the device sends. -/

namespace Sys2Proof.Machine

/-- The frame start's timestamp (R42, R130), corrected for lane A's aperture offset (R70). -/
def frameTimestamp (s : State) (p : Nat) : Word :=
  BitVec.ofInt 64 ((tmbNow s).toNat + roundDiv ((port s p).line.apertures.getD 0 0 * 2 ^ 32) 1000000000000)

/-- A port's gain settings change: the lanes whose gain in force changes are noted (R68). -/
def regain (f : PortLine → PortLine) (l : PortLine) : PortLine :=
  let new := f l
  { new with gainChanged := l.gainChanged ||| BitVec.ofNat 4 (bitmap ((List.range 4).filter (fun k => gainOf new k != gainOf l k))) }

/-- Whether a port hears a frame that starts now (R71, R78, R150). -/
def hears (s : State) (p : Nat) : Bool :=
  let x := port s p
  isOpen s p && !x.line.stopped && x.mac.tx.isNone && s.pwr.phase == .running
    && (match x.line.cal with | .running _ => false | _ => true)

/-- A gain held to the range of R62, in 0.5 dB units. -/
def clampGain (g : Int) : Int := max (-24) (min 72 g)

/-- PREAMBLE_DETECT (R66, R67, R130): lanes in automatic mode take the frame gains seen, within the range of R62. -/
def execPreambleDetect (port_ : Nat) (leek : Bool) (seen : PreambleSeen) (s : State) : Out :=
  if port_ ≥ s.part.ports then .fault .absentResource
  else if !hears s port_ then .next s
  else
    let s := advanceTo seen.start s
    let l := (port s port_).line
    let held := (List.range 4).map (fun k => if bit l.agcFixed.toNat k then gainOf l k else clampGain (seen.gains.getD k (gainOf l k)))
    let rx : Rx := { startAt := s.now, leek := leek, time := frameTimestamp s port_, quality := quality s, fc := none, endAt := 0 }
    .next (updLine port_ (regain (fun l => { l with frameGain := some held, frameGainEnd := none }))
      (updMac port_ (fun m => { m with rx := some rx, contend := .idle }) s))

/-- AGC_FRAME_GAIN_RELEASE (R66): 2 us after the end of a frame the listen gain returns. -/
def execAgcFrameGainRelease (port_ : Nat) (s : State) : Out :=
  if port_ ≥ s.part.ports then .fault .absentResource
  else
    match (port s port_).line.frameGainEnd with
    | none => .next s
    | some t => .next (updLine port_ (regain (fun l => { l with frameGain := none, frameGainEnd := none })) (advanceTo t s))

/-! ### Frame controls (R150) -/

/-- The frame end that a frame control implies (R149, R150): by its mode, with the busy time of an FC failure where mode, guard
or streams are reserved. DESIGN CHOICE (log 156): a frame of the reserved fc_type 3 implies no CE symbols; the spec is silent. -/
def impliedLen (leek : Bool) (f : Fc) : Nat :=
  if f.mode = 3 || f.guard = 3 || f.streams = 0 then ackLen leek
  else frameSamples (f.mode != 0) (if f.fcType = 0 then 0 else 1) f.streams f.guard f.symbols

/-- The map a frame from a station names: none in the robust and Leek forms (R24, R133). -/
def rxMap (s : State) (p : Nat) (f : Fc) : Option ToneMap :=
  if f.mapId ≤ 8 && f.mode = 0 && f.tx < 16384 then some (getMap s p f.tx 0 f.mapId) else none

/-- Whether body_symbols is the count R142 gives. -/
def symbolsOk (s : State) (p : Nat) (f : Fc) : Bool :=
  let mask := (port s p).phy.mask
  let bsym := if f.mode != 0 then unmaskedLeek mask
    else match rxMap s p f with | some m => (mapLoads mask m).sum | none => 2 * unmaskedCount mask
  let reps := if f.mode = 0 then 1 else leekReps f.mode
  if f.fcType = 0 then f.symbols == bodySymbols f.octets f.rate f.cw bsym f.streams f.refresh reps
  else if f.fcType = 2 then f.symbols % ceCount f.streams == 0
  else true

/-- Whether a frame names a map the device does not hold for its source (R150); one that only a mask change made invalid is still
read with (R142, R156). -/
def noMap (s : State) (p : Nat) (f : Fc) : Bool :=
  f.mode == 0 && decide (f.mapId ≤ 8) && (match rxMap s p f with | some m => !(m.valid || m.masked) | none => true)

/-- Whether a frame with a body carries the streams, guard and rate of the map it names (R134). -/
def mapAgrees (s : State) (p : Nat) (f : Fc) : Bool :=
  match rxMap s p f with
  | some m => f.fcType != 0 || (f.streams == m.streams && f.guard == m.gi && f.rate == m.rate)
  | none => true

/-- Whether a frame is malformed (R134, R142, R150, R208). -/
def malformed (s : State) (p : Nat) (f : Fc) : Bool :=
  fcReserved f || !fcCombines f || !kindOk f || decide (f.streams > modeCount (port s p))
    || (!noMap s p f && !(mapAgrees s p f && symbolsOk s p f))

/-- The medium is busy until a time: counted (R504), the frame gain released 2 us after (R66). -/
def busyUntil (p : Nat) (rx : Rx) (stop : Nat) (s : State) : State :=
  bump (8 * p + 7) (stop - rx.startAt) (updLine p (fun l => { l with frameGainEnd := some (stop + us 2) }) s)

/-- A frame that cannot be read holds contention off for 190 us past its busy end (R213). -/
def holdOffAfter (p stop : Nat) (s : State) : State :=
  updMac p (fun m => { m with rx := none, contend := .idle, holdOff := some (stop + us 190) }) s

/-- The rate in kbit/s at which the device could receive a station (R249): R167's procedure on its estimates of one stream, at a
margin of 3 dB and guard 768, rounded down; a station heard in Leek mode alone at 2,970 or 1,480. -/
def ownRate (s : State) (p e : Nat) : Option Nat :=
  let l := mapLink s p e
  let slots := estimateSlots (port s p).mains 8
  let held := slots.filter (fun k => l.estimates.any (fun x => x.1 == estimateKey k 1 0))
  match bestLoading (port s p).phy.mask 768 l held 1 with
  | some c => if held.isEmpty then none else some (c.bits * 500000 / (36 * 4864))
  | none => none

/-- A received frame's observation (R166), and the device's own measure of the link (R249). -/
def observe (p e at_ : Nat) (leek : Option Nat) (snr : List SnrObs) (s : State) : State :=
  if !isNeighbour s p e then s
  else
    let s := noteEstimates p e at_ snr s
    let s := match leek with
      | some r => updLink p e (fun l => { l with leekRate := max l.leekRate (if r = 4 then 2970 else 1480) }) s
      | none => s
    match ownRate s p e with
    | some r => reportDir p e devAddr r s
    | none => if (mapLink s p e).leekRate = 0 then s else reportDir p e devAddr (mapLink s p e).leekRate s

/-- FRAME_CONTROL_RECEIVED (R150, R213). -/
def execFrameControlReceived (port_ fc : Nat) (s : State) : Out :=
  if port_ ≥ s.part.ports then .fault .absentResource
  else
    match (port s port_).mac.rx with
    | none => .next s
    | some rx =>
      if rx.fc.isSome then .next s
      else
        let f := parseFc fc
        let s := advanceTo (rx.startAt + if rx.leek then 9216 + 9 * 4864 else 5120 + 5632) s
        if !fcValid fc then
          let stop := rx.startAt + ackLen rx.leek
          .next (holdOffAfter port_ stop (busyUntil port_ rx stop s))
        else
          let stop := rx.startAt + impliedLen rx.leek f
          let s := updMac port_ (fun m => { m with heard := some { rx with fc := some fc, endAt := stop } }) (busyUntil port_ rx stop s)
          if malformed s port_ f || noMap s port_ f then .next (holdOffAfter port_ stop s)
          else
            let resume := if f.ackReq then stop + us 62 else stop
            let s := startContention port_ resume s
            let mine := (f.kind ≤ 1 || f.kind == 4) && (f.rx == devAddr || f.rx == allAddr)
            if mine then .next (updMac port_ (fun m => { m with rx := some { rx with fc := some fc, endAt := stop } }) s)
            else
              let s := updMac port_ (fun m => { m with rx := none }) s
              .next (if f.tx < 16384 then observe port_ f.tx rx.startAt (if f.mode = 0 then none else some (leekReps f.mode)) [] s
                     else s)

/-! ### Bodies (R140, R209, R217, R224, R242) -/

/-- The payload length of a unit, and whether its fcs passes (R209). -/
def unitLen (u : Bytes) : Nat := rdBe u 0 2
def unitOk (u : Bytes) : Bool :=
  let l := unitLen u
  decide (l ≤ 8192) && decide (u.length ≥ (16 + l + 3) / 4 * 4) && rd u (12 + l) 4 == crc32 (u.take (12 + l))

/-- Whether a sequence number is accepted (R224): none expected yet accepts the first. -/
def seqAccepts (expected : Option Nat) (seq : Nat) : Bool :=
  match expected with
  | none => true
  | some e => decide ((seq + 4096 - e) % 4096 < 2048)

/-- The syndrome flag of a codeword under a map (R173): 2 or more of the last 32 add 1.5 dB, to at most 6 dB, and ask for a new
generation; the window then starts afresh. -/
def noteSyndrome (p e id : Nat) (s : State) (flag : Bool) : State :=
  let m := getMap s p e 0 id
  let w := (m.window ++ [flag]).drop (m.window.length - 31)
  if (w.filter (· == true)).length ≥ 2 then
    requestMaps p e [id] false (updMap p e 0 id (fun m => { m with window := [], extra := min 12 (m.extra + 3) }) s)
  else updMap p e 0 id (fun m => { m with window := w }) s

/-- The syndrome flags of a body, codeword by codeword. -/
def noteSyndromes (p e id : Nat) (flags : List Bool) (s : State) : State :=
  let s := bump (8 * p + 6) (flags.filter (· == true)).length s
  if id > 8 || e ≥ 16384 then s else flags.foldl (noteSyndrome p e id) s

/-- The arrival offset of a body whose frame started at a time (R188): from the nearest grid point to its first symbol. -/
def arrivalOffset (s : State) (start off : Nat) : Int :=
  let px := gridPeriod s
  let d := (start + off) % px
  if 2 * d > px then (d : Int) - px else d

/-- An arrival offset (R188): beyond 32 samples in 4 frames in a row, XT_TIMING goes to the endpoint, once in a beacon period.
The new advance is the last one sent plus the offset. -/
def noteOffset (p e : Nat) (offset : Int) (s : State) : State :=
  if !inPair s p || e ≥ 16384 then s
  else
    let x := nbr s p e
    let run := if offset.natAbs > 32 then x.offsetRun + 1 else 0
    let s := updNbr p e (fun x => { x with offsetRun := run }) s
    if run < 4 || x.xtSent then s
    else
      let a := max (-8192) (min 8191 (x.advance + offset))
      engineSend p e ([0x20, 0] ++ beBytes 2 (ofInt 16 a))
        (updNbr p e (fun x => { x with offsetRun := 0, xtSent := true, advance := a }) s)

/-- A data unit from an admitted endpoint (R24, R242, R270, R339): it takes a reassembly, then its protection header is
verified. -/
def acceptData (p origin cls seq src : Nat) (payload : Bytes) (poisoned : Bool) (rx : Rx) (s : State) : State :=
  let e := endpoint s origin
  let r : Reasm := { port := p, ep := origin, cls := cls, seq := seq, data := payload, size := payload.length, time := rx.time, quality := rx.quality,
                     pod := e.pod, src := src }
  match takeReasm r s with
  | (s, none) => s
  | (s, some n) =>
    let s := tagStart 2 p n e.pod s
    let t0 := fun (t : Tag) => { t with t0 := rx.time.toNat, checks := tset t.checks 0 rx.time.toNat }
    let s := { s with obs.tags := replaceWhere (isTag 2 p n) t0 s.obs.tags }
    let s := tagCheck 2 p n 4 (tagCheck 2 p n 2 (tagCheck 2 p n 1 s))
    match verifyUnit origin payload poisoned s with
    | (.whole, s) => s
    | (.pass u, s) =>
      tagCheck 2 p n 5 (setReasm n { ((reasm s n).getD r) with data := u } s)
    | (.stale, s) => dropReasm n s
    | (.fail, s) =>
      if poisoned then raisePort p 1 4 noArg n (dropReasm n (reasmPoison n ((reasm s n).getD r) s))
      else
        raisePort p 2 3 origin n (countSecurity p src (count 0x0008 { port := some p, pod := some e.pod } 1 (dropReasm n s)))

/-- One unit that passed its fcs (R224, R242): accepted in order, a duplicate discarded. Management messages act through rows of
their own; units for another station, or from an origin not admitted on the port, go no further. -/
def acceptUnit (p : Nat) (f : Fc) (rx : Rx) (u : Bytes) (poisoned : Bool) (s : State) : State :=
  let seq := rdBe u 2 2 % 4096
  let l := unitLen u
  let expected := ((nbr s p f.tx).expected.find? (fun e => e.1 == f.cls)).map (·.2)
  if !seqAccepts expected seq then s
  else
    let s := updNbr p f.tx (fun x => { x with expected := tset x.expected f.cls ((seq + 1) % 4096) }) s
    let s := mirrorSeq p f.tx f.cls (bump (8 * p + 1) 1 (bump (8 * p + 4) l s))
    let origin := rdBe u 4 8 / 2 ^ 49
    let final := rdBe u 4 8 / 2 ^ 34 % 2 ^ 15
    if f.kind != 0 || final != devAddr || !isNeighbour s p origin || l = 0 then s
    else acceptData p origin f.cls seq f.tx (slice u 12 l) poisoned rx s

/-- The units before the first that fails its fcs, with their positions (R217). -/
def leadingUnits : Nat → List Bytes → List (Nat × Bytes)
  | _, [] => []
  | i, u :: us => if unitOk u then (i, u) :: leadingUnits (i + 1) us else []

/-- The units of a body, by their lengths at multiples of 4 bytes (R209): at most n, and none past the body's end. -/
def splitUnits : Nat → Bytes → List Bytes
  | 0, _ => []
  | n + 1, b =>
    let len := (16 + unitLen b + 3) / 4 * 4
    if b.length < 16 then [] else b.take len :: splitUnits n (b.drop len)

/-- Whether every one of n body symbols, the first at a sample count and each len samples long, overlaps an erased span: such a body
carries no information (R127). -/
def allErased (rx : Rx) (first len n : Nat) : Bool :=
  decide (n > 0) && (List.range n).all (fun i =>
    rx.erased.any (fun e => decide (e.1 < first + len * (i + 1)) && decide (first + len * i ≤ e.2)))

/-- FRAME_BODY_DECODED (R140, R165, R209, R217, R224). -/
def execFrameBodyDecoded (port_ : Nat) (body : RxBody) (s : State) : Out :=
  if port_ ≥ s.part.ports then .fault .absentResource
  else
    match (port s port_).mac.rx with
    | none => .next s
    | some rx =>
      match rx.fc with
      | none => .next s
      | some fc =>
        let f := parseFc fc
        let s := updMac port_ (fun m => { m with rx := none }) (advanceTo rx.endAt s)
        let off := if f.mode != 0 then 9216 + 9 * 4864 else 5120 + 5632 * (1 + if f.fcType = 0 then ceCount f.streams else 0)
        let len := if f.mode = 0 then 4096 + guardSamples f.guard else 4864
        let s := endSymbolTags 4 port_ 4 (tagSymbols 4 port_ (rx.startAt + off) len f.symbols s)
        if body.mapFail && f.mode = 0 && decide (f.mapId ≤ 8) then .next (mapReadFails port_ f.tx f.mapId 0 s)
        else
          let lost := allErased rx (rx.startAt + off) len f.symbols
          let s := noteSyndromes port_ f.tx f.mapId body.syndrome s
          let leek := if f.mode = 0 then none else some (leekReps f.mode)
          let s := if f.tx < 16384 then
              noteOffset port_ f.tx (arrivalOffset s rx.startAt off) (observe port_ f.tx rx.startAt leek (if lost then [] else body.snr) s)
            else s
          let us_ := leadingUnits 0 (splitUnits f.units (if lost then [] else body.data.take f.octets))
          let ack : AckDue := { due := rx.endAt + us 60, dest := f.tx, cls := f.cls, units := us_.length, attempt := f.attempt,
                                firstSeq := f.firstSeq, leek := leek }
          let s := if f.ackReq && f.rx == devAddr && !us_.isEmpty then updMac port_ (fun m => { m with ackDue := some ack }) s else s
          .next (us_.foldl (fun s u => acceptUnit port_ f rx u.2 (body.poison.contains u.1) s) s)

/-- ACK_TRANSMIT (R217): 60 us after the frame end as received, whatever contention says. -/
def execAckTransmit (port_ : Nat) (s : State) : Out :=
  if port_ ≥ s.part.ports then .fault .absentResource
  else
    match (port s port_).mac.ackDue with
    | none => .next s
    | some a =>
      let s := updMac port_ (fun m => { m with ackDue := none }) (advanceTo a.due s)
      if !mayTransmit s port_ || (port s port_).mac.tx.isSome then .next s
      else
        let fm := match a.leek with
          | some r => leekFmt (port s port_) r
          | none => { robustFmt s port_ 0 with leek := none, guard := robustGuard s port_ }
        let fc : Fc := { fcBody fm 0 with fcType := 1, cw := 0, symbols := 0, kind := 3, cls := a.cls, tx := devAddr, rx := a.dest,
                                          units := a.units, attempt := a.attempt, firstSeq := a.firstSeq }
        let tx : Tx := { kind := 3, cls := a.cls, dest := a.dest, ackReq := false, attempt := a.attempt, firstSeq := a.firstSeq,
                         mapId := 15, leek := a.leek, flights := [], queue := 0, body := [], startAt := a.due,
                         endAt := a.due + ackLen a.leek.isSome, symbols := 0, symLen := 0, bodyOff := 0,
                         wave := waveOf (port s port_) fm fc [] 0 }
        let late := fun (t : Tag) =>
          if t.kind = 2 && t.port = port_ && !thas t.checks 3 then { t with checks := tset t.checks 3 (tmbNow s).toNat } else t
        .next (startTx port_ tx { s with obs.tags := s.obs.tags.map late })

end Sys2Proof.Machine
end

