-- ==== Sys2Proof/Machine/Canceller.lean ====
section
/-! DEFINITION. The cross-port canceller (07): pairs, surveys, training, suspension, the commands. -/

namespace Sys2Proof.Machine

/-! ### Pairs (R184, R190 to R195) -/

def pairKey (v a : Nat) : Nat := 128 * v + a

def cancPair (s : State) (v a : Nat) : Option CancPair := (s.canc.pairs.find? (fun e => e.1 == pairKey v a)).map (·.2)

def updPair (v a : Nat) (f : CancPair → CancPair) (s : State) : State :=
  match cancPair s v a with
  | some x => { s with canc.pairs := tset s.canc.pairs (pairKey v a) (f x) }
  | none => s

/-- The pairs of a victim. -/
def victimPairs (s : State) (v : Nat) : Table CancPair := s.canc.pairs.filter (fun e => e.1 / 128 == v)

/-- State codes of R204. -/
def cancCode : CancState → Nat
  | .surveying => 0 | .training => 1 | .engaged => 2 | .suspended => 3 | .disengaged => 4

/-- Whether a port meets R184: open, with exactly the canceller guard allowed. -/
def cancPort (s : State) (p : Nat) : Bool :=
  decide (p < s.part.ports) && isOpen s p && (port s p).phy.guardAllowed.toNat == 2 ^ s.canc.guardX

/-- A change into or out of Engaged (R195): the event, and the victim's receive estimates marked stale (R166). -/
def cancChange (v a : Nat) (st : CancState) (s : State) : State :=
  let s := raisePort v 4 3 a (cancCode st) s
  { s with tm.links := tmap (fun k l => if k / 16384 = v then { l with stale := List.range 8 } else l) s.tm.links }

/-- A pair takes a state (R195): its gains are measured afresh in it. -/
def setCanc (v a : Nat) (st : CancState) (s : State) : State :=
  match cancPair s v a with
  | none => s
  | some x =>
    let s := updPair v a (fun x => { x with state := st, since := s.now, counted := 0, echoPower := (0, 0), rxPower := (0, 0),
                                            prePower := (0, 0) }) s
    if (x.state == .engaged) != (st == .engaged) then cancChange v a st s else s

/-- The causes of R197 in the order of its table, and whether one holds for a port. -/
def cancCause (s : State) (p cause : Nat) : Bool :=
  let x := port s p
  match cause with
  | 0 => x.line.stopped
  | 1 => match x.line.cal with | .running _ => true | _ => false
  | 2 => (longReach x).isSome
  | 3 => !isOpen s p
  | _ => s.pwr.phase == .standby

/-- The causes that hold for a pair, by 2 * cause, plus 1 for one of the aggressor. -/
def pairCauses (s : State) (v a : Nat) : List Nat :=
  (List.range 10).filter (fun k => cancCause s (if k % 2 = 0 then v else a) (k / 2))

/-- A cause of R197 begins for a port: its pairs are suspended. -/
def cancSuspend (p cause : Nat) (s : State) : State :=
  let hit := s.canc.pairs.filter (fun e => e.1 / 128 == p || e.1 % 128 == p)
  hit.foldl (fun s e =>
    let v := e.1 / 128
    let a := e.1 % 128
    let s := updPair v a (fun x => { x with causes := tset x.causes (2 * cause + if v = p then 0 else 1) s.now }) s
    if e.2.state = .suspended then updPair v a (fun x => { x with counted := 0, echoPower := (0, 0) }) s
    else setCanc v a .suspended s) s

/-- Pairs go (R197, R203): their records are freed, and one that was engaged leaves that state. -/
def dropPairs (f : Nat → Bool) (s : State) : State :=
  let hit := s.canc.pairs.filter (fun e => f e.1 && e.2.state == .engaged)
  let s := { s with canc.pairs := s.canc.pairs.filter (fun e => !f e.1) }
  hit.foldl (fun s e => cancChange (e.1 / 128) (e.1 % 128) e.2.state s) s

/-- The pairs of a port are removed (R197), each with the event of R195. -/
def cancRemove (p : Nat) (s : State) : State :=
  let hit := s.canc.pairs.filter (fun e => e.1 / 128 == p || e.1 % 128 == p)
  let s := { s with canc.pairs := s.canc.pairs.filter (fun e => !(e.1 / 128 == p || e.1 % 128 == p)),
                    canc.surveys := tdel s.canc.surveys p }
  hit.foldl (fun s e => cancChange (e.1 / 128) (e.1 % 128) e.2.state s) s

/-- A pair as it is formed: in a state, or Suspended where a cause of R197 already holds. -/
def newPair (s : State) (v a : Nat) (st : CancState) : CancPair :=
  let cs := pairCauses s v a
  { state := if cs.isEmpty then st else .suspended, since := s.now, causes := cs.map (fun k => (k, s.now)) }

/-- A victim's pairs are replaced by new ones (R203), in Training, or in Surveying with a survey. -/
def replacePairs (v : Nat) (as : List Nat) (st : CancState) (s : State) : State :=
  let s := dropPairs (fun k => k / 128 == v) s
  as.foldl (fun s a => { s with canc.pairs := tset s.canc.pairs (pairKey v a) (newPair s v a st) }) s

/-- A symbol boundary of a victim (R196, R203): pairs whose removal was asked for go. -/
def symbolBoundary (v : Nat) (s : State) : State :=
  if s.canc.leaving.contains v then
    let s := dropPairs (fun k => k / 128 == v) s
    { s with canc.leaving := s.canc.leaving.filter (· != v), canc.surveys := tdel s.canc.surveys v }
  else s

/-- What a victim's beacon boundary does (R203): the configuration that waited, for the ports that still meet R184. -/
def cancBoundary (v : Nat) (s : State) : State :=
  let s := symbolBoundary v s
  match (s.canc.next.find? (fun e => e.1 == v)).map (·.2) with
  | none => s
  | some (as, survey) =>
    let s := { s with canc.next := tdel s.canc.next v }
    let as := if cancPort s v then as.filter (cancPort s) else []
    match survey with
    | none => replacePairs v as .training s
    | some sv =>
      let s := replacePairs v as .surveying s
      { s with canc.surveys := tset s.canc.surveys v { sv with ends := s.now + secs 2 } }

/-- An adoption during a survey extends it by the length of the stop (R203). -/
def extendSurveys (len : Nat) (s : State) : State :=
  { s with canc.surveys := tmap (fun _ sv => { sv with ends := sv.ends + len }) s.canc.surveys }

/-! ### Coefficients (R182, R190) -/

/-- A coefficient in units of 2^-40. -/
def ofCpx (c : Cpx) : Cx := (c.1 * 2 ^ 28, c.2 * 2 ^ 28)

/-- Twice the carrier at the centre of a canceller group (R190): group 50 holds carriers 1,615 to 1,638. -/
def groupCentre (q : Nat) : Nat := if q = 50 then 3253 else 61 + 64 * q

/-- The group of a carrier. -/
def groupOf (c : Nat) : Nat := (c - 15) / 32

/-- interp(c) of R190 on the 51 values of one entry, which stand from an index on. -/
def interpAt (t : Table Cpx) (base c : Nat) : Cx :=
  let v := fun (q : Nat) => ofCpx (tget (0, 0) t (base + q))
  if 2 * c ≤ 61 then v 0
  else if 2 * c ≥ 3253 then v 50
  else
    let q := (2 * c - 61) / 64
    let d : Int := ((groupCentre (q + 1) - groupCentre q : Nat) : Int)
    let w : Int := ((2 * c - groupCentre q : Nat) : Int)
    let x := v q
    let y := v (q + 1)
    ((x.1 * (d - w) + y.1 * w) / d, (x.2 * (d - w) + y.2 * w) / d)

/-- The phase ramp of a delay of 1/16 sample units at a carrier (R190). -/
def delayPhase (delay c : Nat) : Cx := cxConj (turn (c * delay) 65536)

/-- A term times a vector at a carrier (R182, R190): entry (row, column) stands at index 51 (cols row + column) plus the group. -/
def applyTerm (t : Table Cpx) (rows cols delay c : Nat) (x : List Cx) : List Cx :=
  let ph := delayPhase delay c
  (List.range rows).map (fun r =>
    cxSum ((List.range cols).map (fun m => cxMul (cxMul ph (interpAt t (51 * (cols * r + m)) c)) (x.getD m (0, 0)))))

def vecSub (x y : List Cx) : List Cx := (List.range (max x.length y.length)).map (fun i => cxSub (x.getD i (0, 0)) (y.getD i (0, 0)))
def vecPower (x : List Cx) : Nat := (x.map cxPower).sum

/-- The value of a carrier. -/
def valueAt (v : Carried) (c : Nat) : List Cx := ((v.find? (fun e => e.1 == c)).map (·.2)).getD []

/-- Receive bins by carrier, the branches in order. -/
def binsOf (l : List Bin) : Carried :=
  ((l.map (·.carrier)).eraseDups).map (fun c =>
    (c, (List.range 4).map (fun b => ((l.find? (fun x => x.carrier == c && x.branch == b)).map (fun x => (x.re, x.im))).getD (0, 0))))

/-! ### The grid and coverage (R185 to R189) -/

/-- The grid point nearest to a sample count, and whether the count lies within a distance of it. -/
def gridPoint (s : State) (t : Nat) : Nat := (t + gridPeriod s / 2) / gridPeriod s * gridPeriod s
def nearGrid (s : State) (t d : Nat) : Bool := decide (t ≤ gridPoint s t + d) && decide (gridPoint s t ≤ t + d)

/-- Whether a port's profile and the device let its symbols be covered (R187). -/
def coverable (s : State) (p : Nat) : Bool := (longReach (port s p)).isNone && s.pwr.phase != .standby

/-- The body symbol that a port transmits from a sample count on: the wave and the symbol's number. -/
def txSymbol (s : State) (p t : Nat) : Option (Wave × Nat) :=
  match (port s p).mac.tx with
  | none => none
  | some tx =>
    let w := tx.wave
    let first := tx.startAt + waveBody w
    if t < first || (t - first) % wavePeriod w != 0 || (t - first) / wavePeriod w ≥ waveSymbols w then none
    else some (w, (t - first) / wavePeriod w)

/-- The transmit bins of a port's covered symbol at a grid point, before pre-compensation (R183, R187). -/
def coveredTx (s : State) (p g : Nat) : Option Carried :=
  match txSymbol s p g with
  | some (w, i) => if waveLeek w || !coverable s p || g % gridPeriod s != 0 then none else some (bodyModes w i)
  | none => none

/-- The starts of the body symbols of the frame a port hears, and whether they are of a normal-mode frame. -/
def heardSymbols (s : State) (p : Nat) : List Nat × Bool :=
  match (port s p).mac.heard with
  | none => ([], false)
  | some rx =>
    let f := parseFc (rx.fc.getD 0)
    let off := if f.mode != 0 then 9216 + 9 * 4864 else 5120 + 5632 * (1 + if f.fcType = 0 then ceCount f.streams else 0)
    let len := if f.mode = 0 then 4096 + guardSamples f.guard else 4864
    (if f.fcType = 1 then [] else (List.range f.symbols).map (fun i => rx.startAt + off + len * i), f.mode == 0)

/-- Whether a port receives a covered symbol at a grid point: its start lies within 64 samples (R187). -/
def coveredRx (s : State) (p g : Nat) : Bool :=
  let h := heardSymbols s p
  h.2 && coverable s p && h.1.any (fun t => gridPoint s t == g && nearGrid s t 64)

/-- Whether a port receives a frame at a sample count. -/
def receiving (s : State) (p t : Nat) : Bool :=
  (match (port s p).mac.rx with | some rx => decide (rx.startAt ≤ t) && rx.fc.isNone | none => false)
    || (match (port s p).mac.heard with | some rx => decide (rx.startAt ≤ t) && decide (t < rx.endAt) | none => false)

/-- The start of the FFT window of a covered received symbol (R189). -/
def fftStart (s : State) (g : Nat) : Nat := g + guardSamples s.canc.guardX - 64

/-- Whether a port is a body symbol's sender or receiver from a sample count on (R204), covered or not. -/
def bodySymbolAt (s : State) (p t : Nat) : Bool := (txSymbol s p t).isSome || (heardSymbols s p).1.contains t

/-! ### Training (R193, R194) -/

/-- A coefficient after an LMS update of step 2^-8 (R190, R193), held to its range. -/
def lmsStep (c : Cpx) (grad : Cx) : Cpx :=
  (clampSigned 16 (c.1 + roundDiv grad.1 (2 ^ 36)), clampSigned 16 (c.2 + roundDiv grad.2 (2 ^ 36)))

/-- One observation of a term (R193): in each group that has bins, every entry moves along the mean over the group's carriers of the
error times the conjugate of the source behind the delay's phase (DESIGN CHOICE, log 163). -/
def lmsTerm (rows cols delay : Nat) (err src : Carried) (t : Table Cpx) : Table Cpx :=
  (List.range 51).foldl (fun t q =>
    let cs := (err.map (·.1)).filter (fun c => groupOf c == q)
    if cs.isEmpty then t
    else (List.range (rows * cols)).foldl (fun t j =>
      let g := cxSum (cs.map (fun c =>
        cxMul ((valueAt err c).getD (j / cols) (0, 0)) (cxConj (cxMul (delayPhase delay c) ((valueAt src c).getD (j % cols) (0, 0))))))
      let n : Int := cs.length
      tset t (51 * j + q) (lmsStep (tget (0, 0) t (51 * j + q)) (g.1 / n, g.2 / n))) t) t

/-- A term's prediction at each carrier of an error, and what is left of it. -/
def leftOver (t : Table Cpx) (rows cols delay : Nat) (y src : Carried) : Carried :=
  y.map (fun e => (e.1, vecSub e.2 (applyTerm t rows cols delay e.1 (valueAt src e.1))))

def carriedPower (v : Carried) : Nat := (v.map (fun e => vecPower e.2)).sum

/-! ### Pre-compensation (R194) -/

/-- A Gaussian integer matrix by rows. -/
abbrev GMat := List (List (Int × Int))

def gMul (a b : GMat) : GMat :=
  a.map (fun r => (List.range ((b.headD []).length)).map (fun j =>
    ((r.zip b).map (fun e =>
      let x := e.1
      let y := e.2.getD j (0, 0)
      (x.1 * y.1 - x.2 * y.2, x.1 * y.2 + x.2 * y.1))).foldl (fun s z => (s.1 + z.1, s.2 + z.2)) (0, 0)))

/-- The conjugate transpose of a matrix of n columns. -/
def gAdj (n : Nat) (a : GMat) : GMat := (List.range n).map (fun j => a.map (fun r => ((r.getD j (0, 0)).1, -(r.getD j (0, 0)).2)))

def gTrace (a : GMat) : Int := ((List.range a.length).map (fun i => ((a.getD i []).getD i (0, 0)).1)).sum

def gAddDiag (a : GMat) (v : Int) : GMat :=
  (List.range a.length).map (fun i => ((a.getD i []).set i ((((a.getD i []).getD i (0, 0)).1 + v), ((a.getD i []).getD i (0, 0)).2)))

/-- The pseudo-inverse of a matrix of n columns as a matrix over a divisor, by the characteristic polynomial of A^H A: with
M(1) = I, c(i) = -tr(A^H A M(i)) / i and M(i + 1) = A^H A M(i) + c(i) I, it is -M(k) A^H / c(k) for the last k at which c(k) is not
zero, and zero where there is none. -/
def gPinv (n : Nat) (a : GMat) : GMat × Int :=
  let h := gAdj n a
  let b := gMul h a
  let unit : GMat := (List.range n).map (fun i => (List.range n).map (fun j => if i = j then (1, 0) else (0, 0)))
  let step := fun (st : GMat × (GMat × Int)) (i : Nat) =>
    let m := gMul b st.1
    let c : Int := -(gTrace m) / ((i + 1 : Nat) : Int)
    (gAddDiag m c, if c = 0 then st.2 else (st.1, -c))
  let r := ((List.range n).foldl step (unit, ([], 1))).2
  (gMul r.1 h, r.2)

/-- The matrix of a term at a group. -/
def termAt (t : Table Cpx) (rows cols q : Nat) : GMat :=
  (List.range rows).map (fun r => (List.range cols).map (fun m => tget (0, 0) t (51 * (cols * r + m) + q)))

/-- P_va (R194): at each group the pseudo-inverse of E_vv times E_va, rounded to a coefficient. -/
def preOf (self echo : Table Cpx) : Table Cpx :=
  (List.range 51).foldl (fun t q =>
    let inv := gPinv 3 (termAt self 4 3 q)
    let p := gMul inv.1 (termAt echo 4 3 q)
    (List.range 9).foldl (fun t j =>
      let x := (p.getD (j / 3) []).getD (j % 3) (0, 0)
      let d := inv.2.natAbs
      let e : Int := if inv.2 < 0 then -1 else 1
      tset t (51 * j + q) (clampSigned 16 (roundDiv (4096 * e * x.1) d), clampSigned 16 (roundDiv (4096 * e * x.2) d))) t) []

/-- P_va is found again after every 256 updates of E_va or E_vv, d_va after every 4,096 observations of E_va (R193, R194). -/
def recompute (v a : Nat) (pre delay : Bool) (s : State) : State :=
  let self := tget [] s.canc.selfEcho v
  let s := if pre then updPair v a (fun x => { x with pre := preOf self x.echo }) s else s
  if delay then updPair v a (fun x => { x with delay := Config.delayFit x.echo % 2048 }) s else s

/-- An update of E_va, or of the victim's E_vv, counts towards the next P_va. -/
def countUpdate (v a : Nat) (s : State) : State :=
  match cancPair s v a with
  | none => s
  | some x => recompute v a ((x.updates + 1) % 256 == 0) false (updPair v a (fun x => { x with updates := x.updates + 1 }) s)

/-- What a symbol shows of a pair: the victim's receive bins, its own covered transmit bins as compensated, the aggressor's
transmit bins and its receive bins where it receives a covered symbol, and whether the victim receives no frame. -/
structure Sight where
  y : Carried
  own : Option Carried
  tx : Option Carried
  rx : Option Carried
  free : Bool

/-- The victim's receive bins less what its own transmission leaves in them (R194). -/
def lessOwn (self : Table Cpx) (o : Sight) : Carried :=
  match o.own with
  | some x => leftOver self 4 3 0 o.y x
  | none => o.y

/-- E_va is observed while the aggressor transmits a covered symbol and the victim receives no frame (R193): the coupled power
before and after the term is added up, and with train the term is updated. -/
def observeEcho (v a : Nat) (o : Sight) (train : Bool) (s : State) : State :=
  match o.tx, cancPair s v a with
  | some x, some pr =>
    if !o.free then s
    else
      let y := lessOwn (tget [] s.canc.selfEcho v) o
      let err := leftOver pr.echo 4 3 pr.delay y x
      let s := updPair v a (fun p => { p with counted := p.counted + 1,
                                              echoPower := (p.echoPower.1 + carriedPower y, p.echoPower.2 + carriedPower err) }) s
      if !train then s
      else
        let s := updPair v a (fun p => { p with echo := lmsTerm 4 3 p.delay err x p.echo, echoObs := p.echoObs + 1 }) s
        recompute v a false ((pr.echoObs + 1) % 4096 == 0) (countUpdate v a s)
  | _, _ => s

/-- R_va is observed on covered symbols that the aggressor receives while the victim receives no frame (R193). -/
def observeRx (v a : Nat) (o : Sight) (train : Bool) (s : State) : State :=
  match o.rx, cancPair s v a with
  | some x, some pr =>
    if !o.free then s
    else
      let y := lessOwn (tget [] s.canc.selfEcho v) o
      let err := leftOver pr.rx 4 4 pr.delay y x
      updPair v a (fun p => { p with rxPower := (p.rxPower.1 + carriedPower y, p.rxPower.2 + carriedPower err),
                                     rx := if train then lmsTerm 4 4 p.delay err x p.rx else p.rx }) s
  | _, _ => s

/-- E_vv is observed on the victim's own covered transmissions while none of its aggressors transmits (R193), once at a grid
point. -/
def observeSelf (v g : Nat) (o : Sight) (s : State) : State :=
  match o.own with
  | none => s
  | some x =>
    let as := (victimPairs s v).map (fun e => e.1 % 128)
    if as.any (fun a => (port s a).mac.tx.isSome) || tget 0 s.canc.selfAt v == g then s
    else
      let self := tget [] s.canc.selfEcho v
      let s := { s with canc.selfEcho := tset s.canc.selfEcho v (lmsTerm 4 3 0 (leftOver self 4 3 0 o.y x) x self),
                        canc.selfAt := tset s.canc.selfAt v g }
      as.foldl (fun s a => countUpdate v a s) s

/-- What pre-compensation leaves at the victim's lanes while both ports transmit (R194, R195). -/
def observePre (v a : Nat) (o : Sight) (s : State) : State :=
  match o.own, o.tx, cancPair s v a with
  | some _, some x, some pr =>
    let before := (o.y.map (fun e => vecPower (applyTerm pr.echo 4 3 pr.delay e.1 (valueAt x e.1)))).sum
    let after := carriedPower (lessOwn (tget [] s.canc.selfEcho v) o)
    updPair v a (fun p => { p with prePower := (p.prePower.1 + before, p.prePower.2 + after) }) s
  | _, _, _ => s

/-! ### Correction (R182, R183, R187) -/

/-- The bins held of a victim's symbol, where they are those of a sample count. -/
def heldBins (t : Table BinSet) (v at_ : Nat) : Option Carried :=
  match t.find? (fun e => e.1 == v) with
  | some (_, x) => if x.at_ = at_ then some x.bins else none
  | none => none

/-- The victim's covered transmit symbol at a grid point less the terms of all its engaged pairs whose aggressor transmits a covered
symbol there: each from the aggressor's bins before its own pre-compensation (R182, R183, R187). -/
def compensate (s : State) (v g : Nat) (x : Carried) : Carried :=
  ((victimPairs s v).filter (fun e => e.2.state == .engaged)).foldl (fun y e =>
    match coveredTx s (e.1 % 128) g with
    | some z => leftOver e.2.pre 3 3 e.2.delay y z
    | none => y) x

/-- A victim's covered transmit symbol is pre-compensated, once, with the coefficients in force at its boundary (R196). -/
def correctTx (v g : Nat) (s : State) : State :=
  match coveredTx s v g, heldBins s.canc.txBins v g with
  | some x, none =>
    let out := compensate s v g x
    emit (.compensated v g out) { s with canc.txBins := tset s.canc.txBins v ⟨g, out⟩ }
  | _, _ => s

/-- A pair's echo and receive-coupling terms leave the victim's covered receive symbol (R182, R187, R196): both with one coefficient
set, from the aggressor's bins before any correction of its own (R183). Without engaged pairs the symbol passes as it is. -/
def correctRx (v a g : Nat) (engaged : Bool) (o : Sight) (s : State) : State :=
  match cancPair s v a with
  | none => s
  | some pr =>
    if !coveredRx s v g then s
    else
      let minus := fun (t : Table Cpx) (cols : Nat) (src : Option Carried) (y : Carried) =>
        match (if engaged then src else none) with
        | none => y
        | some z => leftOver t 4 cols pr.delay y z
      let held := (heldBins s.canc.rxBins v (fftStart s g)).getD o.y
      { s with canc.rxBins := tset s.canc.rxBins v ⟨fftStart s g, minus pr.rx 4 o.rx (minus pr.echo 3 o.tx held)⟩ }

/-- The converter word of a lane at n samples past the start of a transmission that has left the device (R20, R64): the body symbols
as pre-compensated. -/
def sentSample (out : List Output) (p start : Nat) (w : Wave) (lane n : Nat) : Int :=
  laneSample w (fun i v =>
    (out.findSome? (fun o => match o with
      | .compensated q at_ bins => if q = p && at_ = start + waveBody w + wavePeriod w * i then some bins else none
      | _ => none)).getD v) lane n

/-! ### Rows -/

/-- The mean power of E_va over all groups, and of E_vv, by the same factor (R192). -/
def termPower (t : Table Cpx) : Nat := (t.map (fun e => (e.2.1 * e.2.1 + e.2.2 * e.2.2).toNat)).sum

/-- Insert by power, the strongest first; candidates of equal power stand in the order of ties. -/
def insertRatio (ties : List Nat) (x : Nat × Nat) : List (Nat × Nat) → List (Nat × Nat)
  | [] => [x]
  | y :: ys => if x.2 > y.2 || (x.2 == y.2 && decide (ties.idxOf x.1 < ties.idxOf y.1)) then x :: y :: ys
               else y :: insertRatio ties x ys

/-- CANCELLER_SURVEY_END (R192): at most max_aggressors candidates whose E_va lies no more than min_coupling, in 0.5 dB units, below
E_vv enter Training in descending order of the ratio; the others are dropped. A candidate of which no coupling was measured has no
ratio (DESIGN CHOICE, log 164: it is dropped). R192 leaves candidates of equal ratio without an order; ties gives one (log 175). -/
def execCancellerSurveyEnd (victim : Nat) (ties : List Nat) (s : State) : Out :=
  if victim ≥ s.part.ports then .fault .absentResource
  else
    match (s.canc.surveys.find? (fun e => e.1 == victim)).map (·.2) with
    | none => .next s
    | some sv =>
      let s := advanceTo sv.ends s
      let own := termPower (tget [] s.canc.selfEcho victim)
      let ratios := (victimPairs s victim).map (fun e => (e.1 % 128, termPower e.2.echo))
      let ok := ratios.filter (fun r => decide (r.2 > 0) && cancPort s r.1
        && decide (r.2 ^ 20 * 10 ^ sv.minCoupling.toNat ≥ own ^ 20))
      let best := ((ok.foldl (fun l r => insertRatio ties r l) []).map (·.1)).take sv.maxAggressors
      let s := { s with canc.surveys := tdel s.canc.surveys victim }
      let s := dropPairs (fun k => k / 128 == victim && !best.contains (k % 128)) s
      let s := best.foldl (fun s a =>
        match cancPair s victim a with
        | some x => if x.state = .suspended then s else setCanc victim a .training s
        | none => s) s
      .next (raisePort victim 4 3 (best.headD 0) (cancCode .training) s)

/-- A coefficient read that fails parity (R191): the failure is logged (R281), the pair returns to Training with all coefficients
zero, and the system event is raised. -/
def coefParity (v a : Nat) (s : State) : State :=
  let s := parityFail 4 v false s
  let s := updPair v a (fun x => { x with echo := [], rx := [], pre := [] }) s
  let s := if (cancPair s v a).any (fun x => x.state == .suspended) then s else setCanc v a .training s
  raiseSys 9 1 noArg noArg s

/-- The victim's body symbols of the last second, with whether each was covered (R204). -/
def noteShare (v a at_ : Nat) (covered : Bool) (s : State) : State :=
  if !bodySymbolAt s v at_ then s
  else updPair v a (fun x =>
    { x with recent := (at_, covered) :: x.recent.filter (fun e => decide (at_ < e.1 + secs 1)) }) s

/-- CANCELLER_SYMBOL (R187, R193, R196): a symbol boundary of the victim. A covered symbol is corrected where the pair is engaged; the
terms are trained in every state but Suspended, in which a pair whose cause has gone is measured. -/
def execCancellerSymbol (victim aggressor : Nat) (sym : CancSymbol) (s : State) : Out :=
  if victim ≥ s.part.ports || aggressor ≥ s.part.ports then .fault .absentResource
  else
    let s := symbolBoundary victim s
    match cancPair s victim aggressor with
    | none => .next s
    | some x =>
      let g := gridPoint s sym.at_
      let own := coveredTx s victim g
      let s := noteShare victim aggressor sym.at_ (nearGrid s sym.at_ 64 && (own.isSome || coveredRx s victim g)) s
      if sym.parity then .next (coefParity victim aggressor s)
      else if !nearGrid s sym.at_ 64 then .next s
      else
        let s := correctTx victim g s
        let o : Sight := { y := binsOf sym.victim, own := own.bind (fun _ => heldBins s.canc.txBins victim g), tx := coveredTx s aggressor g,
                           rx := if coveredRx s aggressor g then some (binsOf sym.aggressor) else none,
                           free := !receiving s victim g }
        let s := correctRx victim aggressor g (x.state == .engaged) o s
        let train := x.state != .suspended
        if !train && !(pairCauses s victim aggressor).isEmpty then .next s
        else
          let s := observePre victim aggressor o (observeRx victim aggressor o train (observeEcho victim aggressor o train s))
          .next (if train then observeSelf victim g o s else s)

/-- The gain of a term in 0.25 dB units, at most 255: the greatest g for which the power before is 10^(g/40) times that after, or
more (R195, R204). -/
def gainQ (p : Nat × Nat) : Nat :=
  if p.1 = 0 then 0
  else ((List.range 256).filter (fun g => decide (p.2 ^ 40 * 10 ^ g ≤ p.1 ^ 40))).foldl max 0

/-- The gains of a pair as they stand: those of the symbols counted since they were last found, or the last ones found. -/
def pairGains (x : CancPair) : Nat × Nat × Nat :=
  (if x.echoPower.1 = 0 then x.echoGain else gainQ x.echoPower, if x.rxPower.1 = 0 then x.rxGain else gainQ x.rxPower,
   if x.prePower.1 = 0 then x.preGain else gainQ x.prePower)

/-- The gains are found, and measured afresh from here. -/
def takeGains (v a : Nat) (s : State) : State :=
  updPair v a (fun x =>
    let g := pairGains x
    { x with echoGain := g.1, rxGain := g.2.1, preGain := g.2.2, counted := 0, echoPower := (0, 0), rxPower := (0, 0),
             prePower := (0, 0) }) s

/-- The state that R195 gives a pair at the gain measured: Training turns to Engaged at an echo gain of 6 dB over 256 covered symbols,
Engaged to Disengaged below 1 dB over 4,096; a Suspended pair whose causes have gone takes up its survey, or is judged by its first
256. None while the symbols counted do not suffice. -/
def cancNext (s : State) (v a : Nat) (x : CancPair) : Option CancState :=
  let gain := (pairGains x).1
  let good := decide (gain ≥ 24) && !silent s
  match x.state with
  | .training => if x.counted < 256 then none else some (if good then .engaged else .training)
  | .engaged => if x.counted < 4096 then none else some (if gain < 4 then .disengaged else .engaged)
  | .suspended =>
    if !(pairCauses s v a).isEmpty then none
    else if thas s.canc.surveys v then some .surveying
    else if x.counted < 256 then none
    else some (if good then .engaged else .training)
  | .surveying => none
  | .disengaged => none

/-- CANCELLER_STATE_CHANGE (R195): the change from a state to the one that the gain gives it, both by their codes of R204; a pair that
keeps its state is measured afresh. A change that R195 does not give now is none (DESIGN CHOICE, log 176). -/
def execCancellerStateChange (victim aggressor was goal : Nat) (s : State) : Out :=
  if victim ≥ s.part.ports || aggressor ≥ s.part.ports then .fault .absentResource
  else
    match cancPair s victim aggressor with
    | none => .next s
    | some x =>
      match cancNext s victim aggressor x with
      | none => .next s
      | some n =>
        .next (if cancCode x.state != was || cancCode n != goal then s
          else
            let s := if n = .surveying then s else takeGains victim aggressor s
            if n = x.state then s else setCanc victim aggressor n s)

/-- CANCELLER_DISENGAGED_TIMEOUT (R195). -/
def execCancellerDisengagedTimeout (victim aggressor : Nat) (s : State) : Out :=
  if victim ≥ s.part.ports || aggressor ≥ s.part.ports then .fault .absentResource
  else
    match cancPair s victim aggressor with
    | none => .next s
    | some x =>
      if x.state != .disengaged then .next s
      else .next (setCanc victim aggressor .training (advanceTo (x.since + secs 10) s))

/-- CANCELLER_SUSPEND_LONG (R197): a cause that still holds 1 s after it began zeroes E_va and R_va. -/
def execCancellerSuspendLong (victim aggressor : Nat) (s : State) : Out :=
  if victim ≥ s.part.ports || aggressor ≥ s.part.ports then .fault .absentResource
  else
    match cancPair s victim aggressor with
    | none => .next s
    | some x =>
      let holding := x.causes.filter (fun e => (pairCauses s victim aggressor).contains e.1)
      match (holding.map (·.2)).foldl (fun (b : Option Nat) t => some (min t (b.getD t))) none with
      | none => .next s
      | some t => .next (updPair victim aggressor (fun x => { x with echo := [], rx := [] }) (advanceTo (t + secs 1) s))

/-! ### Commands (R200 to R204) -/

/-- The response of canceller.configure (R202). -/
def cancResp (st : Status) (as : List (Option Nat)) : Bytes :=
  leBytes 2 st.toNat ++ leBytes 1 (as.filter (·.isSome)).length ++ zeros 1
    ++ ((List.range 8).flatMap (fun i => leBytes 2 ((as.getD i none).getD 0xFFFF)))

/-- canceller.configure (R192, R201 to R203): without a survey the first 8 candidates that meet R184 become pairs. With at most 8
candidates each pair stands in its candidate's entry, an excluded one reading 0xFFFF; with more, the pairs stand in candidate order
(DEDUCED, log 165). -/
def cancellerConfigureBody (req : Bytes) (s : State) : State × Reply :=
  let v := rd req 0 2
  let fl := rd req 2 1
  let n := rd req 3 1
  let all := (List.range 16).map (fun i => rd req (8 + 2 * i) 2)
  let cands := all.take n
  let ok := fun (i : Nat) => let a := all.getD i 0xFFFF; a != v && cancPort s a && !(all.take i).contains a
  if v ≥ s.part.ports || fl > 3 || n > 16 || (!bit fl 0 && n != 0) || rd req 4 1 < 1 || rd req 4 1 > 8 || rd req 5 1 < 20
      || rd req 5 1 > 160 || (all.drop n).any (· != 0xFFFF) || cands.any (fun a => decide (a ≥ s.part.ports)) then
    answer St.badParam s
  else if thas s.canc.surveys v then answer St.surveyActive s
  else if isOpen s v && !cancPort s v then answer St.guardMismatch s
  else if !isOpen s v then answer St.portState s
  else if !bit fl 0 then
    ({ s with canc.leaving := s.canc.leaving ++ [v], canc.next := tdel s.canc.next v }, .done St.ok (cancResp St.ok []))
  else
    let good := ((List.range n).filter ok).map (fun i => all.getD i 0)
    if bit fl 1 then
      let sv : Survey := { candidates := good, maxAggressors := rd req 4 1, minCoupling := rd req 5 1, ends := 0 }
      ({ s with canc.next := tset s.canc.next v (good, some sv) }, .done St.pending (cancResp St.pending []))
    else
      let entries := if n ≤ 8 then (List.range n).map (fun i => if ok i then some (all.getD i 0) else none)
        else (good.take 8).map some
      ({ s with canc.next := tset s.canc.next v (entries.filterMap id, none) }, .done St.ok (cancResp St.ok entries))

def execCancellerConfigure (c : Caller) (req : Bytes) (s : State) : Out :=
  .next (runCmd ⟨0x0501, shaped req 40 [(6, 2)], true, [.port (rd req 0 2)]⟩ c req (cancellerConfigureBody req) s)

/-- canceller.setguard (R204). -/
def cancellerSetguardBody (req : Bytes) (s : State) : State × Reply :=
  if rd req 0 1 > 2 then answer St.badParam s
  else if !s.canc.pairs.isEmpty then answer St.portState s
  else answer St.ok { s with canc.guardX := rd req 0 1 }

def execCancellerSetguard (c : Caller) (req : Bytes) (s : State) : Out :=
  .next (runCmd ⟨0x0502, shaped req 8 [(1, 7)], true, []⟩ c req (cancellerSetguardBody req) s)

/-- One entry of canceller.status (R204), at a time: the covered share is that of the victim's body symbols over the last second. -/
def cancEntry (now : Nat) (e : Option (Nat × CancPair)) : Bytes :=
  match e with
  | none => leBytes 2 0xFFFF ++ zeros 6
  | some (k, x) =>
    let g := pairGains x
    let last := x.recent.filter (fun r => decide (now < r.1 + secs 1))
    let share := (last.filter (·.2)).length * 255 / max 1 last.length
    leBytes 2 (k % 128) ++ leBytes 1 (cancCode x.state) ++ leBytes 1 g.1 ++ leBytes 1 g.2.1 ++ leBytes 1 g.2.2 ++ leBytes 1 share
      ++ leBytes 1 (x.delay / 16)

/-- canceller.status (R204). -/
def cancellerStatusBody (c : Caller) (req : Bytes) (s : State) : State × Reply :=
  let v := rd req 0 2
  if v ≥ s.part.ports then answer St.badParam s
  else if !mayPort s c v then answer St.denied s
  else
    let ps := victimPairs s v
    (s, .done St.ok (leBytes 2 St.ok.toNat ++ zeros 6 ++ (List.range 8).flatMap (fun i => cancEntry s.now (ps[i]?))))

def execCancellerStatus (c : Caller) (req : Bytes) (s : State) : Out :=
  .next (runCmd ⟨0x0503, shaped req 8 [(2, 6)], false, [.port (rd req 0 2)]⟩ c req (cancellerStatusBody c req) s)

end Sys2Proof.Machine
end

