-- ==== Sys2Proof/Machine/Closing.lean ====
section
/-! DEFINITION. How a port closes (03 R72, R87; 10 R280), once its transmission and its exchange have ended. -/

namespace Sys2Proof.Machine

/-- The synthesizer that clocks a port (R81): 0 none, 1 A, 2 B. -/
def clockOf (s : State) (p : Nat) : Nat := if p < 64 then s.syn.ownerLo.toNat else s.syn.ownerHi.toNat

/-- Settings that wait for a beacon boundary apply as the port closes, there being no boundary left, so that settings made while
it is closed come after them (R33, R155, R180, R238, R264; DESIGN CHOICE, log 157). -/
def settleSettings (p : Nat) (s : State) : State :=
  updPort p (fun x =>
    { x with phy := x.nextPhy.getD x.phy, nextPhy := none,
             mac := { x.mac with cfg := x.mac.next.getD x.mac.cfg, next := none },
             topo := { x.topo with cfg := x.topo.next.getD x.topo.cfg, next := none },
             line := { x.line with profile := x.line.nextProfile.getD x.line.profile, nextProfile := none },
             mains := { x.mains with source := x.mains.nextSource.getD x.mains.source, nextSource := none } }) s

/-- A port closes (R72, R87, R165, R197, R231 to R233). -/
def shutPort (p : Nat) (s : State) : State :=
  let s := setTxen p .released s
  let s := updLine p (fun l => { l with mode := .closed, plcLanes := 0, closing := none, frameGain := none, frameGainEnd := none }) s
  let s := updMac p (fun m => { m with beaconing := false, contend := .idle, bc := none, holdOff := none, rx := none,
                                       ackDue := none, tx := none, awaiting := none, ackEnd := none, heard := none, waitBeacon := false }) s
  let s := settleSettings p s
  let s := cancSuspend p 3 s
  let s := { s with nbrs := s.nbrs.filter (fun e => e.1 / 32768 != p),
                    tm.maps := s.tm.maps.filter (fun e => e.1 / 32 / 16384 != p),
                    tm.links := s.tm.links.filter (fun e => e.1 / 16384 != p) }
  raisePort p 7 3 (clockOf s p) 0 s

/-- The last part of port.close. -/
def finishClose (p : Nat) (s : State) : State :=
  match (port s p).line.closing with
  | none => s
  | some c => completeStatus c St.ok (shutPort p s)

/-- A port that is closing closes once no transmission and no exchange of it is in progress. -/
def closeWhenIdle (p : Nat) (s : State) : State :=
  let m := (port s p).mac
  if m.tx.isNone && m.awaiting.isNone then finishClose p s else s

def closing (p : Nat) : Out → Out
  | .next s => .next (closeWhenIdle p s)
  | o => o

end Sys2Proof.Machine
end

