-- ==== Sys2Proof/Machine/Beacon.lean ====
section
/-! DEFINITION. Beacons and what applies at a port's beacon boundary (08 R226 to R230, 05 R155, 06 R159, R165, 01 R33), and
phy.configure (05 R153). -/

namespace Sys2Proof.Machine

/-! ### What applies at the boundary -/

/-- Valid maps of a port and direction that a test picks: neighbour and map id. -/
def badMaps (s : State) (p dir : Nat) (bad : ToneMap → Bool) : List (Nat × Nat) :=
  s.tm.maps.filterMap (fun x =>
    let k := x.1
    if k / 16 / 2 / 16384 == p && k / 16 % 2 == dir && x.2.valid && bad x.2 then some (k / 16 / 2 % 16384, k % 16) else none)

/-- Maps that no longer suit their port become invalid (R165): the engine recomputes its own, the first map after an
invalidation being exempt from the hold-off (R172); with mask, it requests the others, and frames that name the own ones are still
read with the masked carriers at 0 bits (R142, R156). -/
def dropMaps (p : Nat) (bad : ToneMap → Bool) (mask : Bool) (s : State) : State :=
  let own := badMaps s p 0 bad
  let theirs := badMaps s p 1 bad
  let s := own.foldl (fun s m => requestMaps p m.1 [m.2] true
    (updMap p m.1 0 m.2 (fun x => { x with masked := mask }) (invalidate p m.1 0 [m.2] s))) s
  let s := theirs.foldl (fun s m => invalidate p m.1 1 [m.2] s) s
  let asked := (theirs.map (·.1)).eraseDups
  if mask then asked.foldl (fun s e => tmRequest p e ((theirs.filter (fun m => m.1 == e)).map (·.2)) false 0 s) s else s

/-- Whether a map loads a carrier that a mask has newly masked (R156). -/
def loadsMasked (old new : Nat) (m : ToneMap) : Bool :=
  (List.range 1624).any (fun i => masked new (i + 15) && !masked old (i + 15)
    && (List.range m.streams).any (fun st => carrierLoad m.loading st (i + 15) != 0))

/-- Whether a map fits a port's stream limit and guards (R165). -/
def unfit (x : Port) (m : ToneMap) : Bool := decide (m.streams > streamLimit x) || !bit x.phy.guardAllowed.toNat m.gi

/-- The PHY settings that waited (R155, R156, R165, R197). -/
def phyBoundary (p : Nat) (s : State) : State :=
  match (port s p).nextPhy with
  | none => s
  | some cfg =>
    let old := (port s p).phy
    let s := updPort p (fun x => { x with phy := cfg, nextPhy := none }) s
    let s := if cfg.mask = old.mask then s else dropMaps p (loadsMasked old.mask cfg.mask) true s
    if cfg.guardAllowed.toNat = 2 ^ s.canc.guardX then s else cancRemove p s

/-- The mains source and state that waited (R159, R165, R180): a new source takes the tracker back to Acquiring, or to Cycle-free
when it is forced. -/
def mainsBoundary (p : Nat) (s : State) : State :=
  let m := (port s p).mains
  match m.nextSource with
  | some src =>
    let st := if m.force then MainsState.cycleFree else .acquiring
    let s := updMains p (fun m => { m with source := src, nextSource := none, state := st, next := none, run := 0, lastCross := none,
                                           prevCross := none, since := s.now }) s
    if m.force && m.state != .cycleFree then mainsEvent p .cycleFree s else s
  | none =>
    match m.next with
    | none => s
    | some st =>
      let s := updMains p (fun m => { m with state := st, next := none, run := 0 }) s
      mainsEvent p st (if st = .locked then oldSlotMaps p s else s)

/-- The profile and the factor that waited (R33, R56, R197). -/
def profileBoundary (p : Nat) (s : State) : State :=
  let was := (longReach (port s p)).isSome
  let s := updLine p (fun l => { l with profile := l.nextProfile.getD l.profile, nextProfile := none,
                                        factor := s.pwr.avs.fPlc }) s
  if (longReach (port s p)).isSome && !was then cancSuspend p 2 s else s

/-- The listen gains of lanes in automatic mode (R66): what the noise floor asks is not in the state, a free value in the range
of R62. -/
def listenBoundary (p : Nat) (s : State) : State :=
  [0, 1, 2, 3].foldl (fun s k =>
    if bit (port s p).line.agcFixed.toNat k then s
    else
      match freshNat s with
      | (v, s) =>
        let g : Int := (v % 97 : Nat) - 24
        updLine p (regain (fun l => { l with listenGain := l.listenGain.set k g })) s) s

/-- What a neighbour and a link may do once per beacon period begins afresh (R168, R181, R188, R232). -/
def periodBoundary (p : Nat) (s : State) : State :=
  let s := updPort p (fun x => { x with tmSent := 0 }) s
  let s := { s with nbrs := tmap (fun k x => if k / 32768 = p then { x with used := false, xtSent := false } else x) s.nbrs }
  let age := fun (k : Nat) (l : MapLink) =>
    if k / 16384 != p then l
    else
      let rx := !l.refreshRx.isEmpty && decide (l.rxAge < 8)
      let tx := !l.refreshTx.isEmpty && decide (l.txAge < 8)
      { l with refreshRx := if rx then l.refreshRx else [], rxAge := if rx then l.rxAge + 1 else 0,
               refreshTx := if tx then l.refreshTx else [], txAge := if tx then l.txAge + 1 else 0 }
  -- the copies of a broadcast that the period did not see out are sent anew, all within one period (R258; log 167)
  let again := fun (f : Flight) => f.port == p && f.final == allAddr && decide (f.copies > 0) && !f.inExchange
  { s with tm.links := tmap age s.tm.links,
           lbf.flights := tmap (fun _ f => if again f then { f with copies := (port s p).topo.cfg.copies } else f) s.lbf.flights }

/-! ### Topology at the boundary (R241, R255, R256, R262, R264) -/

/-- One topology.notify of a pod (R262). -/
def topoNotify (p seq pod_ : Nat) (affected : List Nat) (s : State) : State :=
  let mine := affected.filter (fun e => (endpoint s e).pod == pod_)
  let entry := fun (e : Nat) => let x := endpoint s e
    leBytes 2 e ++ leBytes 1 (epCode x.state) ++ leBytes 1 x.depth ++ leBytes 2 x.parent ++ zeros 2
  notify pod_ 1 0x8701 (leBytes 2 p ++ leBytes 2 seq ++ leBytes 1 (min 64 mine.length)
    ++ leBytes 1 (if mine.length > 64 then 1 else 0) ++ zeros 2 ++ (mine.take 64).flatMap entry) s

/-- The changes of the period that ends are reported (R262). -/
def topoReport (p : Nat) (s : State) : State :=
  let t := (port s p).topo
  if !t.changed && t.affected.isEmpty then s
  else
    let seq := (port s p).mac.beaconSeq.toNat
    let s := updTopo p (fun t => { t with changed := false, affected := [] }) s
    let s := raisePort p 5 1 t.active.toNat seq s
    let known := t.affected.filter (fun e => (endpoint s e).state != .free)
    ((known.map (fun e => (endpoint s e).pod)).eraseDups).foldl (fun s pod_ => topoNotify p seq pod_ known s) s

/-- A beacon period of the topology engine begins (R241, R251, R255, R264). -/
def topoBoundary (p : Nat) (s : State) : State :=
  let s := topoReport p s
  let s := updTopo p (fun t =>
    { t with cfg := t.next.getD t.cfg, next := none, computeDue := true,
             pending := t.pending.map (fun w => { w with age := w.age + 1 }) }) s
  let s := updTopo p (fun t => { t with snapshot := usableLinks s p }) (purgeReports p s)
  { s with eps := tmap (fun _ e => if e.port = p && e.state = .unreachable then { e with unreachable := e.unreachable + 1 } else e) s.eps }

/-! ### The beacon (R226 to R230) -/

/-- next_beacon (R226): the start of cycle slot beacon_slot nearest to 4 half periods ahead; 40 ms when not Locked. -/
def nextBeaconOf (x : Port) (start : Nat) : Nat :=
  let m := x.mains
  if m.state != .locked || m.half = 0 then 20000000
  else
    let b := x.mac.cfg.beaconSlot
    let k := roundDiv (((start : Int) - m.phase) * 2048 + 32 * m.half - b * m.half) (8 * m.half)
    ((m.phase : Int) + (k * 8 * m.half + b * m.half) / 2048 - start).toNat

/-- The mains reference of a beacon whose frame starts at a time (R162). -/
def mainsReference (m : Mains) (start : Nat) : Bytes :=
  if m.state != .locked || m.half = 0 then zeros 7 ++ [1]
  else
    let n := -((-(((start : Int) - m.phase) * 256)) / (m.half : Int))
    let zc := ((m.phase : Int) + n * m.half / 256 - start).toNat
    beBytes 4 m.half ++ beBytes 3 zc ++ [if m.source.isSome then 2 else 0]

/-- A beacon entry (R228). -/
def beaconEntry (ty : Nat) (v : Bytes) : Bytes := leBytes 1 ty ++ beBytes 2 v.length ++ v

/-- The topology entry (R256): the pending version reads 0 with none. -/
def topologyEntry (t : Topo) : Bytes :=
  leBytes 1 t.active.toNat ++ leBytes 1 ((t.pending.map (·.version.toNat)).getD 0) ++ leBytes 1 t.cfg.reportInterval
    ++ leBytes 1 ((if t.pending.isSome then 1 else 0) + 2 * t.cfg.maxDepth)

/-- The grid field (R188). -/
def gridField (s : State) (start : Nat) : Bytes :=
  let px := 4096 + guardSamples s.canc.guardX
  beBytes 4 (packMsb [(2, s.canc.guardX), (13, (px - start % px) % px), (17, 0)])

/-- The body of a beacon whose frame starts at a time (R227 to R229). -/
def beaconBody (s : State) (p start next : Nat) (leek : Bool) : Bytes :=
  let x := port s p
  let m := x.mac
  let entries := [beaconEntry 1 (mainsReference x.mains start)]
    ++ (if leek then [] else
          (if inPair s p then [beaconEntry 2 (gridField s start)] else []) ++ [beaconEntry 3 (leBytes 204 x.phy.mask)])
    ++ (if leek then [beaconEntry 4 (leBytes 29 (x.phy.mask % 2 ^ 231))] else [])
    ++ [beaconEntry 0x10 (topologyEntry x.topo)]
  let lr := longReach x
  let flags := (if x.mains.state = .locked then 0 else 1) + (if lr.isSome then 2 else 0) + (if lr = some true then 4 else 0)
    + (if leek then 8 else 0)
  let front := leBytes 1 1 ++ leBytes 1 p ++ beBytes 2 m.beaconSeq.toNat ++ beBytes 4 m.cfg.networkId ++ beBytes 4 next
    ++ leBytes 1 flags ++ leBytes 1 (streamLimit x) ++ leBytes 1 x.phy.guardAllowed.toNat ++ leBytes 1 entries.length
    ++ entries.flatten
  front ++ leBytes 4 (crc32 front)

/-- The form of a port's beacon (R227, R229). -/
def beaconFmt (s : State) (p : Nat) : Fmt :=
  let x := port s p
  match longReach x with
  | some x8 => leekFmt x (if x8 then 8 else 4)
  | none =>
    let n := x.mac.cfg.leekEvery
    if n != 0 && x.mac.beaconSeq.toNat % n == 0 then leekFmt x 8 else robustFmt s p 0

/-- Whether the beacon is omitted at its nominal start (R230). -/
def beaconOmitted (s : State) (p : Nat) : Bool := !mayExchange s p

/-- The beacon goes on the line. -/
def sendBeacon (p start next : Nat) (s : State) : State :=
  let fm := beaconFmt s p
  let start := start + gridDelay s p (bodyOffOf fm) start
  let body := beaconBody s p start next fm.leek.isSome
  let fc : Fc := { fcBody fm body.length with kind := 2, cls := 3, tx := devAddr, rx := allAddr }
  let tx : Tx := { kind := 2, cls := 3, dest := allAddr, ackReq := false, attempt := 0, firstSeq := 0, mapId := 15, leek := fm.leek,
                   flights := [], queue := 0, body := body, startAt := start, endAt := start + samplesOf fm body.length,
                   symbols := symbolsOf fm body.length, symLen := symLenOf fm, bodyOff := bodyOffOf fm,
                   wave := waveOf (port s p) fm fc body 0 }
  bump 3083 1 (startTx p tx (advanceTo start s))

/-- A reception in progress is dropped, the device sending: the frame gain is released as after a frame that ends now (R66). -/
def dropRx (p : Nat) (s : State) : State :=
  if (port s p).mac.rx.isNone then s
  else
    updLine p (fun l => { l with frameGainEnd := some (l.frameGainEnd.getD (s.now + us 2)) })
      (updMac p (fun m => { m with rx := none }) s)

/-- What applies at a port's beacon boundary at a time (R33, R155, R159, R226): the settings that waited, and the period's counts. -/
def boundary (p at_ : Nat) (s : State) : State :=
  let s := topoBoundary p s
  let s := updMac p (fun m => { m with cfg := m.next.getD m.cfg, next := none, beaconSeq := m.beaconSeq + 1, beaconAt := at_,
                                       waitBeacon := false }) s
  let s := profileBoundary p (mainsBoundary p (phyBoundary p s))
  let s := dropMaps p (unfit (port s p)) false s
  let s := listenBoundary p (periodBoundary p (cancBoundary p s))
  updLine p (fun l => { l with cal := match l.cal with | .waitBeacon c => .waitIdle c | x => x }) s

/-- BEACON_START (R226, R230): a transmission an endpoint has made late is cut off (R223), and with it ends a port.close that
waited for it (R87); the boundary's changes apply; the beacon is sent, or omitted with the schedule kept. -/
def execBeaconStart (port_ : Nat) (s : State) : Out :=
  if port_ ≥ s.part.ports then .fault .absentResource
  else if !isOpen s port_ || !(port s port_).mac.beaconing || s.pwr.phase != .running then .next s
  else
    let at_ := nextStart s port_
    let s := advanceTo at_ s
    let s := if (port s port_).mac.tx.isSome then closeWhenIdle port_ (abandonTx port_ s) else s
    if !isOpen s port_ then .next s
    else
      let s := boundary port_ at_ s
      let skipped := beaconOmitted s port_
      let next := if skipped then (port s port_).mac.lastNext else nextBeaconOf (port s port_) at_
      let s := updMac port_ (fun m => { m with nextBeacon := next, lastNext := next }) s
      let s := mirrorSend (.beacon port_ (port s port_).mac.beaconSeq.toNat (timeAt s.tmb at_).toNat) s
      .next (if skipped then s
             else sendBeacon port_ at_ next (updMac port_ (fun m => { m with holdOff := none }) (dropRx port_ s)))

/-! ### phy.configure (R152 to R155) -/

/-- phy.configure. -/
def phyConfigureBody (req : Bytes) (s : State) : State × Reply :=
  let p := rd req 0 2
  let mask := rd req 8 204
  let cfg : PhyCfg := { txLevel := rdInt req 2 1, maxStreams := rd req 3 1, guardAllowed := BitVec.ofNat 3 (rd req 4 1),
                        refresh := rd req 5 1, mask := mask }
  if p ≥ s.part.ports || cfg.txLevel > 0 || cfg.txLevel < -80 || rd req 3 1 < 1 || rd req 3 1 > 3 || rd req 4 1 = 0 || rd req 4 1 > 7
      || rd req 5 1 > 3 || mask ≥ 2 ^ 1624 then answer St.badParam s
  else if unmaskedLeek mask < 64 then answer St.maskInvalid s
  else
    let resp := fun (st : Status) => leBytes 2 st.toNat ++ leBytes 2 (unmaskedCount mask) ++ leBytes 2 (unmaskedLeek mask) ++ zeros 2
    if !isOpen s p then (updPort p (fun x => { x with phy := cfg }) s, .done St.ok (resp St.ok))
    else if (port s p).nextPhy.isSome then answer St.configPending s
    else (updPort p (fun x => { x with nextPhy := some cfg }) s, .done St.pending (resp St.pending))

def execPhyConfigure (c : Caller) (req : Bytes) (s : State) : Out :=
  .next (runCmd ⟨0x0301, shaped req 216 [(6, 2), (212, 4)], true, [.port (rd req 0 2)]⟩ c req (phyConfigureBody req) s)

end Sys2Proof.Machine
end

