-- ==== Sys2Proof/Machine/Topology.lean ====
section
/-! DEFINITION. The repeater and topology engine (09): the candidate tree, versions and their distribution, joining and
leaving, the commands. -/

namespace Sys2Proof.Machine

/-- The endpoints admitted on a port. -/
def members (s : State) (p : Nat) : List Nat := (s.eps.filter (fun e => e.2.port == p && e.2.state != .free)).map (·.1)

/-! ### The candidate tree (R251, R259) -/

/-- A placement: parents, depths, path costs and descendant counts. -/
structure Placed where
  parents : Table Nat := []
  depths : Table Nat := [(0x4000, 0)]
  costs : Table Nat := [(0x4000, 0)]
  below : Table Nat := []

/-- The usable links of a port by 32,768 * from + to, as they stood at the beacon's frame start (R250, R251). -/
def linkCosts (s : State) (p : Nat) : Table Nat :=
  (port s p).topo.snapshot.foldl (fun t l =>
    tset (tset t (32768 * l.1.1 + l.1.2) l.2) (32768 * l.1.2 + l.1.1) l.2) []

/-- The first pass: best cost, hops and the station it was found through, by station. -/
abbrev Best := Table (Nat × Nat × Nat)

/-- One link of one round of the first pass. -/
def relax (s : State) (mem : List Nat) (limit : Nat) (b : Best) (e : Nat × Nat) : Best :=
  let i := e.1 / 32768
  let j := e.1 % 32768
  match (b.find? (fun x => x.1 == i)).map (·.2) with
  | none => b
  | some (ci, hi, _) =>
    if !mem.contains j || hi + 1 > limit || !(i == devAddr || (mem.contains i && decide ((endpoint s i).capacity > 0))) then b
    else
      match (b.find? (fun x => x.1 == j)).map (·.2) with
      | some (cj, _, _) => if ci + e.2 < cj then tset b j (ci + e.2, hi + 1, i) else b
      | none => tset b j (ci + e.2, hi + 1, i)

/-- The first pass of R251. -/
def firstPass (s : State) (mem : List Nat) (limit : Nat) (costs : Table Nat) : Best :=
  (List.range limit).foldl (fun b _ => costs.foldl (relax s mem limit) b) [(devAddr, 0, 0, devAddr)]

/-- The stations from a placed one up to below the device. -/
def upFrom (parents : Table Nat) : Nat → Nat → List Nat
  | 0, _ => []
  | n + 1, q => if q = devAddr then [] else q :: upFrom parents n (tget devAddr parents q)

/-- Put an endpoint under a placed station (R251, R259): within the depth and every ancestor's repeater capacity. -/
def place (s : State) (limit e q c : Nat) (t : Placed) : Option Placed :=
  let chain_ := upFrom t.parents 9 q
  if !thas t.depths q || tget 0 t.depths q + 1 > limit
      || chain_.any (fun a => decide (tget 0 t.below a + 1 > (endpoint s a).capacity)) then none
  else
    some { parents := tset t.parents e q, depths := tset t.depths e (tget 0 t.depths q + 1),
           costs := tset t.costs e (tget 0 t.costs q + c),
           below := chain_.foldl (fun b a => tset b a (tget 0 b a + 1)) t.below }

/-- The first of some candidates that has room. -/
def placeFirst (s : State) (limit e : Nat) (costs : Table Nat) (t : Placed) : List Nat → Placed
  | [] => t
  | q :: qs =>
    match place s limit e q (tget 0 costs (32768 * q + e)) t with
    | some t' => t'
    | none => placeFirst s limit e costs t qs

/-- Placed stations with a link to an endpoint, the cheapest path first. -/
def cheapest (best : Best) (costs : Table Nat) (t : Placed) (e : Nat) : List Nat :=
  let opts := t.depths.filter (fun d => thas costs (32768 * d.1 + e))
  let keyed := opts.foldl (fun (k : Table Nat) d =>
    tset k (32768 * ((tget (0, 0, 0) best d.1).1 + tget 0 costs (32768 * d.1 + e)) + d.1) d.1) []
  keyed.map (·.2)

/-- The second pass for one endpoint (R251). -/
def secondPass (s : State) (p limit : Nat) (costs : Table Nat) (best : Best) (t : Placed) (e : Nat) : Placed :=
  let (be, _, via) := tget (0, 0, 0) best e
  let q := (endpoint s e).parent
  let keep := thas t.depths q && thas costs (32768 * q + e)
    && decide (100 * ((tget (0, 0, 0) best q).1 + tget 0 costs (32768 * q + e)) ≤ be * (100 + (port s p).topo.cfg.hysteresis))
  placeFirst s limit e costs t
    ((if keep then [q] else []) ++ (if thas t.depths via then [via] else []) ++ cheapest best costs t e)

/-- The candidate tree of a port (R251): an endpoint that has reported nothing yet goes under the parent its TP_JOIN named
(R259). -/
def candidate (s : State) (p : Nat) : Placed :=
  let mem := members s p
  let limit := (port s p).topo.cfg.maxDepth + 1
  let costs := linkCosts s p
  let best := firstPass s mem limit costs
  let order := (best.filter (fun b => b.1 != devAddr)).foldl (fun (k : Table Nat) b => tset k (32768 * b.2.1 + b.1) b.1) []
  let t := order.foldl (fun t b => secondPass s p limit costs best t b.2) ({} : Placed)
  let silent_ := mem.filter (fun e => !thas t.parents e && !(port s p).topo.links.any (fun l => l.dst == e))
  silent_.foldl (fun t e => match (endpoint s e).joinParent with
    | some q => (place s limit e q 0 t).getD t
    | none => t) t

/-! ### Versions (R253 to R255) -/

/-- The forwarding table of a station under parents: each descendant and its next hop (R254). -/
def forwardTable (parents : Table Nat) (e : Nat) : List (Nat × Nat) :=
  parents.filterMap (fun d =>
    let up := upFrom parents 9 d.1
    if d.1 != e && up.contains e then (up.takeWhile (· != e)).getLast?.map (fun h => (d.1, h)) else none)

/-- The active tree of a port as parents (R253). -/
def activeParents (s : State) (p : Nat) : Table Nat :=
  (s.eps.filter (fun e => e.2.port == p && e.2.parent != 0xFFFF)).map (fun e => (e.1, e.2.parent))

/-- The TP_ROUTE messages of an endpoint (R254): at most 254 entries a segment. -/
def routeSegments (version parent : Nat) : Nat → Nat → List (Nat × Nat) → List Bytes
  | 0, _, _ => []
  | n + 1, k, es =>
    let now_ := es.take 254
    let rest := es.drop 254
    let msg := leBytes 1 0x42 ++ leBytes 1 version ++ leBytes 1 k ++ leBytes 1 (if rest.isEmpty then 1 else 0) ++ beBytes 2 parent
      ++ beBytes 2 now_.length ++ now_.flatMap (fun x => beBytes 2 x.1 ++ beBytes 2 x.2)
    if rest.isEmpty then [msg] else msg :: routeSegments version parent n (k + 1) rest

/-- Management messages that no version routes any more leave their queues (R254, R255): TP_ROUTEs of a version that is not
pending, and messages to an endpoint that is gone and off the active tree. -/
def purgeMessages (p : Nat) (s : State) : State :=
  let t := (port s p).topo
  let old := fun (f : Flight) => rd f.data 0 1 == 0x42 && (match t.pending with
    | some w => rd f.data 1 1 != w.version.toNat
    | none => true)
  let gone := fun (f : Flight) => (endpoint s f.final).state == .free && (pathTo s f.final).isNone
  let hit := s.lbf.flights.filter (fun e => e.2.port == p && e.2.mgmt && e.2.final != allAddr && (old e.2 || gone e.2))
  hit.foldl (fun s e => retireFlight e.1 St.noRoute s) s

/-- A pending version is given up (R255). -/
def abandonVersion (p : Nat) (s : State) : State :=
  purgeMessages p (updTopo p (fun t => { t with pending := none, changed := true }) s)

/-- The state of an endpoint under a version: one that has been removed or admitted since the version was computed keeps its state
(R265); one that could not be placed is Unreachable (R251). -/
def stateUnder (w : PendingTree) (e : Nat) (x : Endpoint) : EpState :=
  if x.state = .free || !w.members.contains e then x.state else if thas w.parents e then .reachable else .unreachable

/-- An endpoint's entry under a version, with its depth and the cost of its path there. -/
def entryUnder (w : PendingTree) (depth cost e : Nat) (x : Endpoint) : Endpoint :=
  let placed := thas w.parents e
  { x with state := stateUnder w e x, parent := tget 0xFFFF w.parents e, depth := if placed then depth else 0,
           cost := if placed then cost else 0,
           unreachable := if x.state = .unreachable && stateUnder w e x = .unreachable then x.unreachable else 0 }

/-- Depth of an endpoint under parents. -/
def depthUnder (parents : Table Nat) (e : Nat) : Nat := (upFrom parents 9 e).length

/-- The cost of the path of an endpoint under parents, from the matrix of the moment. -/
def costUnder (s : State) (p : Nat) (parents : Table Nat) (e : Nat) : Nat :=
  ((upFrom parents 9 e).map (fun d => (linkCost s p (tget devAddr parents d) d).getD 0)).sum

/-- A version becomes active (R253 step 2, R259, R262). -/
def activateVersion (p : Nat) (w : PendingTree) (s : State) : State :=
  let mine := s.eps.filter (fun e => e.2.port == p)
  let new := fun (e : Nat) (x : Endpoint) => entryUnder w (depthUnder w.parents e) (costUnder s p w.parents e) e x
  let moved := mine.filter (fun e => let n := new e.1 e.2
    e.2.state != .free && (n.state != e.2.state || n.parent != e.2.parent || n.depth != e.2.depth))
  let joined := mine.filter (fun e => e.2.state == .joining && stateUnder w e.1 e.2 == .reachable)
  let s := { s with eps := tmap (fun k x => if x.port = p then new k x else x) s.eps }
  let s := updTopo p (fun t =>
    { t with active := w.version, pending := none, changed := true,
             affected := t.affected ++ (moved.map (·.1)).filter (fun e => !t.affected.contains e) }) s
  let s := moved.foldl (fun s e => mirrorEp e.1 s) (mirrorSend (.tree p w.version.toNat w.parents) s)
  let s := joined.foldl (fun s e => engineSend p e.1 [0x45, 0, w.version, 0] s) s
  purgeMessages p s

/-- The next TP_ROUTEs of a pending version go out (R253 step 1), by depth, once every ancestor that owed one has answered;
the version is active when none is owed. -/
def advanceVersion (p : Nat) (s : State) : State :=
  match (port s p).topo.pending with
  | none => s
  | some w =>
    if w.owed.isEmpty then activateVersion p w s
    else
      let can := w.owed.filter (fun e => !w.sent.contains e
        && !((upFrom w.parents 9 (tget devAddr w.parents e)).any (fun a => w.owed.contains a)))
      let order := can.foldl (fun (k : Table Nat) e => tset k (32768 * depthUnder w.parents e + e) e) []
      let s := updTopo p (fun t => { t with pending := some { w with sent := w.sent ++ order.map (·.2) } }) s
      order.foldl (fun s e =>
        (routeSegments w.version.toNat (tget 0 w.parents e.2) 5 0 (forwardTable w.parents e.2)).foldl (fun s m =>
          engineSend p e.2 m s) s) s

/-- Endpoints of a port that have not been placed become Unreachable (R251). -/
def unplaced (p : Nat) (parents : Table Nat) (s : State) : State :=
  { s with eps := tmap (fun e x => if x.port = p && x.state == .joining && !thas parents e then { x with state := .unreachable } else x)
                       s.eps }

/-- TREE_COMPUTATION (R251): once per beacon; while a version is pending nothing new is issued (R253). -/
def execTreeComputation (port_ : Nat) (s : State) : Out :=
  if port_ ≥ s.part.ports then .fault .absentResource
  else
    let t := (port s port_).topo
    if !t.computeDue || silent s then .next s
    else
      let s := updTopo port_ (fun t => { t with computeDue := false }) s
      let c := candidate s port_
      let active := activeParents s port_
      if t.pending.isSome then .next s
      else if c.parents == active then .next (unplaced port_ c.parents s)
      else
        let owed := (c.parents.map (·.1)).filter (fun e =>
          tget 0xFFFF c.parents e != tget 0xFFFF active e || forwardTable c.parents e != forwardTable active e)
        let w : PendingTree :=
          { version := t.lastVersion + 1, parents := c.parents, owed := owed, sent := [], members := members s port_,
            age := 0 }
        .next (advanceVersion port_ (updTopo port_ (fun t => { t with pending := some w, lastVersion := t.lastVersion + 1 }) s))

/-- TP_ROUTE_ACK_RECEIVED (R253 to R255): result 1 lowers the capacity to the present table and marks the links to the children
the version would have brought (R252). -/
def execTpRouteAckReceived (port_ ep : Nat) (msg : Bytes) (s : State) : Out := fromEndpoint port_ ep s fun s =>
  match (port s port_).topo.pending with
  | none => s
  | some w =>
    if rd msg 1 1 != w.version.toNat || !w.sent.contains ep || !w.owed.contains ep then s
    else if rd msg 2 1 = 0 then
      advanceVersion port_ (updTopo port_ (fun t => { t with pending := some { w with owed := w.owed.filter (· != ep) } }) s)
    else if rd msg 2 1 = 1 then
      let active := activeParents s port_
      let gained := (w.parents.filter (fun d => d.2 == ep && tget 0xFFFF active d.1 != ep)).map (fun d => (ep, d.1))
      let s := updEndpoint ep (fun e => { e with capacity := (forwardTable active ep).length }) s
      abandonVersion port_ (updTopo port_ (fun t => { t with unusable := t.unusable ++ gained }) s)
    else s

/-- PENDING_VERSION_TIMEOUT (R255). -/
def execPendingVersionTimeout (port_ : Nat) (s : State) : Out :=
  if port_ ≥ s.part.ports then .fault .absentResource
  else
    match (port s port_).topo.pending with
    | none => .next s
    | some w => .next (if w.age ≥ 8 then abandonVersion port_ s else s)

/-! ### Reports, joining, leaving (R248, R259, R260) -/

/-- TP_LINK_REPORT_RECEIVED (R248). -/
def execTpLinkReportReceived (port_ ep : Nat) (msg : Bytes) (s : State) : Out := fromEndpoint port_ ep s fun s =>
  let n := rd msg 1 1
  if n < 1 || n > 64 || msg.length < 4 + 8 * n then s
  else
    (List.range n).foldl (fun s i =>
      let st := rdBe msg (4 + 8 * i) 2
      if st = ep || st > devAddr then s else reportDir port_ st ep (rdBe msg (8 + 8 * i) 4) s) s

/-- Admission of an endpoint (R265): answers the status; capacity and parent come from its TP_JOIN when that matches (R259). -/
def admitEndpoint (ep p pod_ eui : Nat) (s : State) : State × Status :=
  let e := endpoint s ep
  if e.state != .free then
    if e.eui != eui then (s, St.identityConflict)
    else if e.port != p || !isOpen s p then (s, St.portState)
    else (mirrorEp ep (updEndpoint ep (fun e => { e with pod := pod_ }) s), St.ok)
  else if !isOpen s p then (s, St.portState)
  else if (s.eps.filter (fun e => e.2.state != .free)).length ≥ 16384 || (members s p).length ≥ 1024 then (s, St.registryFull)
  else
    let join := e.join.filter (fun j => j.1 == p && j.2.1 == eui)
    let new : Endpoint := { state := .joining, port := p, pod := pod_, eui := eui, joinParent := join.map (·.2.2.1),
                            capacity := (join.map (·.2.2.2)).getD 0, join := e.join }
    (mirrorEp ep (updEndpoint ep (fun _ => new) s), St.pending)

/-- The registry service takes a TP_JOIN (R458): it admits an endpoint whose EUI-64 matches an entry and reports any other with
notification 0x9401. -/
def serveJoin (p : Nat) (msg : Bytes) (s : State) : State :=
  let eui := rdBe msg 4 8
  match s.mram.registry.find? (fun r => r.eui == eui) with
  | some r => (admitEndpoint r.endpoint r.port r.pod r.eui s).1
  | none => notify 0 1 0x9401 (leBytes 8 eui ++ leBytes 2 p ++ leBytes 2 (rdBe msg 12 2)) s

/-- The TP_JOINs that waited for firmware are served in the order of their reception (R18, R448). -/
def resumeJoins (s : State) : State :=
  let waiting := (s.lbf.reasms.filter (fun e => e.2.join)).foldl (fun (t : Table (Nat × Reasm)) e => tset t e.2.order e) []
  waiting.foldl (fun s e => serveJoin e.2.2.port e.2.2.data (releaseReasm e.2.1 s)) s

/-- TP_JOIN_RECEIVED (R18, R242, R259, R458): it goes to the registry service of pod 0; while firmware does not run it waits in a
receive reassembly. -/
def execTpJoinReceived (port_ ep : Nat) (msg : Bytes) (s : State) : Out := onPort port_ s fun s =>
  let cap := min 1023 (rdBe msg 2 2)
  let eui := rdBe msg 4 8
  let parent := rdBe msg 12 2
  if ep ≥ 16384 || msg.length < 14 then s
  else
    let e := endpoint s ep
    let same := e.state != .free && e.port == port_ && e.eui == eui
    let s := updEndpoint ep (fun e =>
      { e with join := some (port_, eui, parent, cap), capacity := if same then cap else e.capacity,
               joinParent := if same then some parent else e.joinParent }) s
    if s.mgmt.fwState = .running then serveJoin port_ msg s
    else
      (takeReasm { port := port_, ep := ep, cls := 2, seq := 0, data := msg, size := msg.length, time := tmbNow s, quality := quality s,
                   join := true } s).1

/-- UNREACHABLE_HOLD_EXPIRY (R241). -/
def execUnreachableHoldExpiry (ep : Nat) (s : State) : Out :=
  let e := endpoint s ep
  if e.state != .unreachable || e.unreachable < (port s e.port).topo.cfg.unreachHold then .next s
  else
    let hit := s.lbf.flights.filter (fun f => f.2.final == ep && f.2.cls != 3 && f.2.enqueued && (treeOf s f.2).isNone)
    .next (hit.foldl (fun s f => retireFlight f.1 St.noRoute s) s)

/-! ### Commands (R263 to R265) -/

/-- topology.configure (R264): a second request before the boundary replaces the first. -/
def topologyConfigureBody (req : Bytes) (s : State) : State × Reply :=
  let p := rd req 0 2
  let cfg : TopoCfg := { maxDepth := rd req 2 1, reportInterval := rd req 3 1, hysteresis := rd req 4 1, copies := rd req 5 1,
                         unreachHold := rd req 6 2 }
  if p ≥ s.part.ports || cfg.maxDepth > 7 || cfg.reportInterval < 1 || cfg.reportInterval > 64 || cfg.hysteresis > 100
      || cfg.copies < 1 || cfg.copies > 3 || cfg.unreachHold < 1 || cfg.unreachHold > 1024 then answer St.badParam s
  else answer St.pending (updTopo p (fun t => { t with next := some cfg }) s)

def execTopologyConfigure (c : Caller) (req : Bytes) (s : State) : Out :=
  .next (runCmd ⟨0x0701, req.length == 8, true, [.port (rd req 0 2)]⟩ c req (topologyConfigureBody req) s)

/-- endpoint.admit (R265). -/
def endpointAdmitBody (req : Bytes) (s : State) : State × Reply :=
  let ep := rd req 0 2
  if ep ≥ 16384 || rd req 2 2 ≥ s.part.ports || rd req 4 1 > 64 then answer St.badParam s
  else
    match admitEndpoint ep (rd req 2 2) (rd req 4 1) (rd req 8 8) s with
    | (s, st) => answer st s

def execEndpointAdmit (c : Caller) (req : Bytes) (s : State) : Out :=
  .next (runCmd ⟨0x0702, shaped req 16 [(5, 3)], true, [.endpoint (rd req 0 2)]⟩ c req (endpointAdmitBody req) s)

/-- The submissions held for an endpoint end (R260): a descriptor that stands at its ring's or lane's take is read again, and finds
the endpoint Free. -/
def dropHeld (ep : Nat) (s : State) : State :=
  let hit := s.lbf.held.filter (fun h => h.final == ep)
  hit.foldl (fun s h => match h.sealer with
    | .ring r _ _ => updCphRing h.pod r (fun x => { x with held := false }) s
    | .mailbox c => if h.atCons then s else completeStatus c St.noRoute s
    | _ => s) { s with lbf.held := s.lbf.held.filter (fun h => h.final != ep) }

/-- An endpoint's admission ends (R252, R260, R265, R327): its frames retire, its links go, TP_LEAVE follows under the active tree. A
pending version still routes its descendants through it; the next one drops it. -/
def removeEndpoint (ep : Nat) (s : State) : State :=
  let e := endpoint s ep
  let p := e.port
  let hit := s.lbf.flights.filter (fun f => f.2.final == ep)
  let s := hit.foldl (fun s f => if f.2.enqueued then retireFlight f.1 St.noRoute s else failSeal f.1 St.noRoute s) (dropHeld ep s)
  let other := fun (a b : Nat) => a != ep && b != ep
  let s := updTopo p (fun t =>
    { t with links := t.links.filter (fun l => other l.src l.dst), unusable := t.unusable.filter (fun l => other l.1 l.2),
             affected := t.affected.filter (· != ep),
             pending := t.pending.map (fun w => { w with members := w.members.filter (· != ep) }) }) s
  let s := mirrorEp ep (updEndpoint ep (fun e => { port := e.port, parent := e.parent, depth := e.depth, cost := e.cost }) s)
  let s := updNbr p ep (fun x => { x with unsuitable := false, longRun := 0 }) s
  if (pathTo s ep).isSome then engineSend p ep [0x46, 0, 0, 0] s else s

/-- endpoint.remove (R260, R265). -/
def endpointRemoveBody (req : Bytes) (s : State) : State × Reply :=
  let ep := rd req 0 2
  if ep ≥ 16384 then answer St.badParam s
  else if (endpoint s ep).state == .free then answer St.notAdmitted s
  else if s.lbf.flights.any (fun f => f.2.final == ep && f.2.cls == 3) then answer St.portState s
  else answer St.ok (removeEndpoint ep s)

def execEndpointRemove (c : Caller) (req : Bytes) (s : State) : Out :=
  .next (runCmd ⟨0x0703, shaped req 8 [(2, 6)], true, [.endpoint (rd req 0 2)]⟩ c req (endpointRemoveBody req) s)

/-- topology.read (R265). -/
def topologyReadBody (c : Caller) (req : Bytes) (s : State) : State × Reply :=
  let ep := rd req 0 2
  let e := endpoint s ep
  if ep ≥ 16384 then answer St.badParam s
  else if e.state == .free then answer St.notAdmitted s
  else if c.pod != 0 && c.pod != e.pod then answer St.denied s
  else
    let path := (pathTo s ep).getD []
    (s, .done St.ok (leBytes 2 St.ok.toNat ++ leBytes 1 (epCode e.state) ++ leBytes 1 e.depth ++ leBytes 2 e.port ++ leBytes 1 e.pod
      ++ zeros 1 ++ leBytes 2 e.parent ++ leBytes 1 (port s e.port).topo.active.toNat ++ zeros 1 ++ leBytes 4 e.cost
      ++ (List.range 8).flatMap (fun i => leBytes 2 (path.getD i 0xFFFF))))

def execTopologyRead (c : Caller) (req : Bytes) (s : State) : Out :=
  .next (runCmd ⟨0x0704, shaped req 8 [(2, 6)], false, [.endpoint (rd req 0 2)]⟩ c req (topologyReadBody c req) s)

end Sys2Proof.Machine
end

