-- ==== Sys2Proof/Machine/Line.lean ====
section
/-! DEFINITION. The line side (03): opening, closing and calibrating ports, gains, the line-driver enable and its faults, the
sample synthesizers, and the shortfalls of the lane FIFOs (02 R57, R58). -/

namespace Sys2Proof.Machine

/-! ### Shared -/

/-- Both synthesizers have failed (R80). -/
def allStopped (s : State) : Bool := s.syn.aFailed && s.syn.bFailed

/-- Nanoseconds in sample periods. -/
def nsTicks (n : Nat) : Nat := n / 2

/-- The input samples a chain loses between two times (R101). -/
def lostSamples (s : State) (c from_ to_ : Nat) : Nat :=
  if isPrecision c then
    let sc := (converter s (c - 544)).scan
    if sc.enables = 0 then 0 else (to_ - from_) / us (max 1 sc.periodUs)
  else (to_ - from_) / sampleTicks c (chain s c).halved

/-- The taps of a port stop (R69, R78): the blocks close. -/
def tapsStop (p : Nat) (s : State) : State := [0, 1, 2, 3].foldl (fun s k => closeBlocks (4 * p + k) s) s

/-- The taps of a port resume after a gap that began at a time (R69, R78, R101). -/
def tapsResume (p from_ : Nat) (s : State) : State :=
  [0, 1, 2, 3].foldl (fun s k => chainGap (4 * p + k) (lostSamples s (4 * p + k) from_ s.now) s) s

/-- When contention starts after a transmission that broke off (R213): stations reckon with its scheduled end. -/
def resumeAfter (s : State) (p : Nat) (tx : Tx) : Nat := if tx.ackReq then (ackWindow s p tx).2 else tx.endAt

/-- A lane's converter puts out mid-scale from now to a sample count (R57, R74). -/
def midScale (lane to_ : Nat) (s : State) : State := if to_ ≤ s.now then s else emit (.midScale lane s.now to_) s

/-- A transmission in progress ends without counting (R57, R74): its converters go to mid-scale. -/
def breakTx (p : Nat) (lanes : List Nat) (s : State) : State :=
  match (port s p).mac.tx with
  | none => s
  | some tx => startContention p (resumeAfter s p tx) (abandonTx p (lanes.foldl (fun s k => midScale k tx.endAt s) s))

/-- The PLC lanes of a port by lane number. -/
def lanesOf (s : State) (p : Nat) : List Nat := (bitPositions 4 (port s p).line.plcLanes.toNat).map (· + 4 * p)

/-! ### The line driver (R72 to R75) -/

/-- The flight number a line event names: the first frame of the transmission (R550). -/
def txFlight (s : State) (p : Nat) : Nat := ((port s p).mac.tx.bind (·.flights.head?)).getD noArg

/-- A qualified fault (R74, R75): the driver goes off, the transmission ends uncounted, the fourth within 1 s latches. -/
def driverFault (p : Nat) (s : State) : State :=
  let n := txFlight s p
  let s := closeWhenIdle p (breakTx p (lanesOf s p) (setTxen p (txenIdle s) s))
  let l := (port s p).line
  let times := l.faultTimes.filter (fun t => decide (s.now < t + secs 1)) ++ [s.now]
  let latch := !l.latched && decide (times.length ≥ 4)
  let s := updLine p (fun l => { l with driverOff := true, faultTimes := times, latched := l.latched || latch }) s
  let s := raisePort p 1 1 noArg n s
  if latch then raisePort p 1 2 noArg noArg s else s

/-- DRVFLT_QUALIFY (R74, R75, R80). -/
def execDrvfltQualify (port_ : Nat) (s : State) : Out :=
  if port_ ≥ s.part.ports then .fault .absentResource
  else
    let s := updLine port_ (fun l => { l with drvfltLow := true }) s
    if !isOpen s port_ || s.pwr.phase != .running then .next s
    else if (port s port_).line.stopped then .next (updLine port_ (fun l => { l with lateFault := true }) s)
    else .next (driverFault port_ s)

/-- DRIVER_AUTO_REARM (R75): DRVFLT has been high for 10 ms. -/
def execDriverAutoRearm (port_ : Nat) (s : State) : Out :=
  if port_ ≥ s.part.ports then .fault .absentResource
  else
    let l := (port s port_).line
    let times := l.rearmTimes.filter (fun t => decide (s.now < t + secs 1))
    let go := l.driverOff && !l.latched && decide (times.length < 3)
    .next (updLine port_ (fun l =>
      { l with drvfltLow := false, driverOff := l.driverOff && !go, rearmTimes := if go then times ++ [s.now] else times }) s)

/-- The earliest transmission a port has scheduled from now on (R73): an acknowledgement, a beacon, a priority signal, or the frame
of a back-off that has ended. -/
def nextTxStart (s : State) (p : Nat) : Option Nat :=
  let m := (port s p).mac
  let prs := fun (k : Nat) => if mayExchange s p && m.cls < 4 then [m.slotAt + k * slotLen + us 8] else []
  let plans := (m.ackDue.map (·.due)).toList
    ++ (if m.beaconing && mayExchange s p then [nextStart s p] else [])
    ++ (match m.contend with
        | .prs0 => if m.cls ≥ 2 then prs 0 else if m.cls = 1 then prs 1 else []
        | .prs1 => if m.cls % 2 = 1 then prs 0 else []
        | .backoff => if m.bc = some 0 then [m.slotAt] else []
        | _ => [])
  (plans.filter (fun t => decide (s.now ≤ t))).foldl (fun (b : Option Nat) t => some (min t (b.getD t))) none

/-- TXEN_RISE (R73): the lead time ahead of the transmission that starts next. -/
def execTxenRise (port_ : Nat) (s : State) : Out :=
  if port_ ≥ s.part.ports then .fault .absentResource
  else
    let next := match (port s port_).mac.tx with
      | some tx => some tx.startAt
      | none => nextTxStart s port_
    match next with
    | none => .next s
    | some t =>
      if !mayTransmit s port_ then .next s
      else .next (setTxen port_ .high (advanceTo (t - nsTicks (port s port_).line.leadNs) s))

/-- TXEN_FALL (R73): not when the next transmission would raise it again within 1 us, nor during one. -/
def execTxenFall (port_ : Nat) (s : State) : Out :=
  if port_ ≥ s.part.ports then .fault .absentResource
  else
    let x := port s port_
    match x.line.txSpans with
    | [] => .next s
    | (_, stop) :: _ =>
      let fall := stop + nsTicks x.line.tailNs
      let next := (nextTxStart s port_).map (fun t => t - nsTicks x.line.leadNs)
      if x.line.txen != .high || x.mac.tx.isSome || (next.map (fun r => decide (r < fall + us 1))).getD false then .next s
      else .next (setTxen port_ .low (advanceTo fall s))

/-! ### Closing (R87, R280) -/

/-- FRAME_TRANSMIT_END (R121). -/
def execFrameTransmitEnd (port_ : Nat) (s : State) : Out := closing port_ (endTransmit port_ s)

/-- ACK_RECEIVED (R219). -/
def execAckReceived (port_ fc start : Nat) (s : State) : Out := closing port_ (ackReceived port_ fc start s)

/-- ACK_WINDOW_CLOSE (R219). -/
def execAckWindowClose (port_ : Nat) (s : State) : Out := closing port_ (ackWindowClose port_ s)

/-- The frames of a port retire with a status (R279, R280): those not yet sealed end their seal with it; reassemblies are
released. -/
def discardPort (p : Nat) (st : Status) (s : State) : State :=
  let mine := s.lbf.flights.filter (fun e => e.2.port == p)
  let s := mine.foldl (fun s e => if e.2.enqueued then retireFlight e.1 st s else failSeal e.1 st s) s
  { s with lbf.reasms := s.lbf.reasms.filter (fun e => e.2.port != p) }

/-- port.close: it completes when the transmission and the exchange in progress have ended. -/
def portCloseBody (c : Caller) (req : Bytes) (s : State) : State × Reply :=
  let p := rd req 0 2
  let discard := bit (rd req 2 1) 0
  if p ≥ s.part.ports || rd req 2 1 > 1 then answer St.badParam s
  else if !mayPort s c p then answer St.denied s
  else if !isOpen s p || (!discard && decide (portTx s p > 0)) then answer St.portState s
  else
    let s := if discard then discardPort p St.discarded s else s
    (updLine p (fun l => { l with closing := some c }) s, .held)

def execPortClose (c : Caller) (req : Bytes) (s : State) : Out :=
  .next (closeWhenIdle (rd req 0 2)
    (runCmd ⟨0x0102, shaped req 8 [(3, 5)], false, [.port (rd req 0 2)]⟩ c req (portCloseBody c req) s))

/-! ### Opening and calibrating (R69, R71, R84 to R87) -/

/-- port.open and lane.calibrate commands that run (R86). -/
def calibrations (s : State) : Nat :=
  (s.ports.filter (fun e => match e.2.line.cal with | .none => false | _ => true)).length

/-- The loopback of a port closes (R69). -/
def loopback (p : Nat) (cal : Cal) (s : State) : State :=
  tapsStop p (updLine p (fun l => { l with cal := cal, calAt := s.now }) s)

/-- The loopback of a port opens. -/
def loopbackEnds (p : Nat) (s : State) : State :=
  let from_ := (port s p).line.calAt
  tapsResume p from_ (updLine p (fun l => { l with cal := .none }) s)

/-- One byte as a signed number of a request. -/
def gainsAt (req : Bytes) (off : Nat) : List Int := (List.range 4).map (fun k => rdInt req (off + k) 1)

/-- Whether the fields of a port.open lie in range (R84). -/
def openOk (req : Bytes) : Bool :=
  let fixed := rd req 3 1
  decide (rd req 2 1 ≤ 1) && decide (fixed < 16) && decide (rd req 16 1 ≤ 2)
    && (List.range 4).all (fun k => decide (rd req (8 + k) 1 ≤ 63)
         && (!bit fixed k || (decide (rdInt req (4 + k) 1 ≥ -24) && decide (rdInt req (4 + k) 1 ≤ 72))))
    && decide (500 ≤ rd req 12 2) && decide (rd req 12 2 ≤ 8000) && rd req 12 2 % 2 == 0
    && decide (rd req 14 2 ≤ 4000) && rd req 14 2 % 2 == 0
    && (rd req 2 1 == 0 || (slice req 5 2 ++ slice req 9 2).all (· == 0))

/-- port.open (R69, R80, R86): the calibration starts; while an adoption moves the port, the command waits. -/
def portOpenBody (c : Caller) (req : Bytes) (s : State) : State × Reply :=
  let p := rd req 0 2
  if p ≥ s.part.ports || !openOk req then answer St.badParam s
  else if !mayPort s c p then answer St.denied s
  else if isOpen s p || allStopped s then answer St.portState s
  else if calibrations s ≥ 32 || (port s p).line.stopped then (s, .wait)
  else (loopback p (.opening c req) s, .held)

def execPortOpen (c : Caller) (req : Bytes) (s : State) : Out :=
  .next (runCmd ⟨0x0101, shaped req 24 [(17, 7)], false, [.port (rd req 0 2)]⟩ c req (portOpenBody c req) s)

/-- Whether lane k passed: its check (R571), and an aperture offset in the range of R85. -/
def lanePassed (r : CalResult) (k : Nat) : Bool :=
  bit r.pass k && decide ((r.apertures.getD k 0).natAbs ≤ 2000)

/-- cal_pass of a result. -/
def calPassOf (r : CalResult) : Nat := bitmap ((List.range 4).filter (lanePassed r))

/-- The aperture offsets of a result, lane by lane. -/
def aperturesOf (r : CalResult) : List Int := (List.range 4).map (fun k => r.apertures.getD k 0)

/-- The response of port.open (R85). -/
def openResp (st : Status) (r : CalResult) : Bytes :=
  leBytes 2 st.toNat ++ leBytes 1 (calPassOf r) ++ zeros 5 ++ (aperturesOf r).flatMap (fun a => leBytes 2 (ofInt 16 a))

/-- The mode a port opens in and its PLC lanes (R59, R86): lane B or C that fails is excluded, both make it single-phase. -/
def openMode (single : Bool) (pass : Nat) : Coupling × Nat :=
  if single || (!bit pass 1 && !bit pass 2) then (.single, 9) else (.three, 9 + pass % 8 / 2 * 2)

/-- The port goes on line (R66, R68, R72, R73, R75, R86, R158, R197, R226). -/
def openPort (p : Nat) (req : Bytes) (r : CalResult) (s : State) : State :=
  let m := openMode (rd req 2 1 == 1) (calPassOf r)
  let old := (port s p).line
  let s := updLine p (fun l =>
    { l with mode := m.1, lastMode := m.1, plcLanes := BitVec.ofNat 4 m.2,
             apertures := aperturesOf r, agcFixed := BitVec.ofNat 4 (rd req 3 1), fixedGain := gainsAt req 4,
             txAtten := (List.range 4).map (fun k => rd req (8 + k) 1), frameGain := none, frameGainEnd := none,
             idleUntil := 0, leadNs := rd req 12 2, tailNs := rd req 14 2,
             tapScale := BitVec.ofNat 2 (rd req 16 1), driverOff := false, faultTimes := [], rearmTimes := [], latched := false,
             lateFault := false, closing := none, profile := l.nextProfile.getD l.profile, nextProfile := none,
             factor := s.pwr.avs.fPlc }) s
  let s := updMac p (fun x =>
    { x with cfg := x.next.getD x.cfg, next := none, beaconing := true, beaconAt := s.now, nextBeacon := 0, contend := .idle,
             bc := none, holdOff := none, tx := none, awaiting := none, rx := none, ackDue := none }) s
  let s := updMains p (fun x =>
    { x with state := if x.force then .cycleFree else .acquiring, next := none, run := 0, lastCross := none, prevCross := none,
             since := s.now }) s
  let s := if (port s p).mains.force then mainsEvent p .cycleFree s else s
  let s := listenBoundary p (setTxen p (txenIdle s) s)
  if m.1 != old.lastMode || (port s p).phy.guardAllowed.toNat != 2 ^ s.canc.guardX then cancRemove p s else s

/-- Ports that the standby set reopens start their calibrations, at most 32 at once with those of commands (R538, R86). -/
def startReopens (s : State) : State :=
  let now_ := s.pwr.reopen.take (32 - calibrations s)
  let s := { s with pwr.reopen := s.pwr.reopen.drop (32 - calibrations s) }
  now_.foldl (fun s e => loopback e.1 (.reopening e.2) s) s

/-- The reopening of a port ends: the port goes on line, or the failure is told (R538). -/
def reopenEnds (p : Nat) (req : Bytes) (r : CalResult) (s : State) : State :=
  let s := loopbackEnds p s
  let s := if lanePassed r 0 && lanePassed r 3 then
             let s := openPort p req r s
             if (port s p).line.drvfltLow then driverFault p s else s
           else raiseSys 23 1 0 0 { s with pwr.restoreFail := true }
  startReopens s

/-- PORT_OPEN_CALIBRATION_END (R69, R86): once the firmware runs; a DRVFLT that is low counts as a qualified fault (R75). -/
def execPortOpenCalibrationEnd (port_ : Nat) (result : CalResult) (s : State) : Out :=
  if port_ ≥ s.part.ports then .fault .absentResource
  else
    match (port s port_).line.cal with
    | .opening c req =>
      if s.mgmt.fwState != .running then .next s
      else
        let s := loopbackEnds port_ s
        if !lanePassed result 0 || !lanePassed result 3 then .next (complete c St.calFailed (openResp St.calFailed result) s)
        else
          let s := updLine port_ (fun l => { l with drvfltLow := c.io.drvfltLow }) (openPort port_ req result s)
          let s := if c.io.drvfltLow then driverFault port_ s else s
          .next (complete c St.ok (openResp St.ok result) s)
    | .reopening req => .next (if s.mgmt.fwState != .running then s else reopenEnds port_ req result s)
    | _ => .next s

/-- lane.calibrate (R71, R80, R87): it waits for the beacon boundary. -/
def laneCalibrateBody (c : Caller) (req : Bytes) (s : State) : State × Reply :=
  let p := rd req 0 2
  if p ≥ s.part.ports then answer St.badParam s
  else if !mayPort s c p then answer St.denied s
  else if !isOpen s p || allStopped s then answer St.portState s
  else if calibrations s ≥ 32 then (s, .wait)
  else (updLine p (fun l => { l with cal := .waitBeacon c }) s, .held)

def execLaneCalibrate (c : Caller) (req : Bytes) (s : State) : Out :=
  .next (runCmd ⟨0x0103, shaped req 8 [(2, 6)], false, [.port (rd req 0 2)]⟩ c req (laneCalibrateBody c req) s)

/-- CALIBRATION_START (R71): the medium is idle and no acknowledgement is due. -/
def execCalibrationStart (port_ : Nat) (s : State) : Out :=
  if port_ ≥ s.part.ports then .fault .absentResource
  else
    let m := (port s port_).mac
    match (port s port_).line.cal with
    | .waitIdle c =>
      if m.tx.isSome || m.awaiting.isSome || m.rx.isSome || m.ackDue.isSome then .next s
      else .next (raisePort port_ 7 4 (clockOf s port_) 0 (cancSuspend port_ 1
             (updMac port_ (fun m => { m with contend := .idle, holdOff := none }) (loopback port_ (.running c) s))))
    | _ => .next s

/-- CALIBRATION_COMPLETE (R71, R87): the new corrections apply when every lane that carries PLC passes. -/
def execCalibrationComplete (port_ : Nat) (result : CalResult) (s : State) : Out :=
  if port_ ≥ s.part.ports then .fault .absentResource
  else
    match (port s port_).line.cal with
    | .running c =>
      let s := loopbackEnds port_ s
      let good := (bitPositions 4 (port s port_).line.plcLanes.toNat).all (lanePassed result)
      let st := if good then St.ok else St.calFailed
      let s := if good then updLine port_ (fun l => { l with apertures := aperturesOf result }) s else s
      .next (complete c st (leBytes 2 st.toNat ++ leBytes 1 (calPassOf result) ++ zeros 5) (startContention port_ s.now s))
    | _ => .next s

/-- lane.gain (R87): a receive setting applies when the frame being received has ended. -/
def laneGainBody (c : Caller) (req : Bytes) (s : State) : State × Reply :=
  let p := rd req 0 2
  let k := rd req 2 1
  let fixed := rd req 3 1
  let g := rdInt req 4 1
  if p ≥ s.part.ports || k > 3 || fixed > 1 || rd req 5 1 > 63 || (fixed == 1 && (g < -24 || g > 72)) then answer St.badParam s
  else if !mayPort s c p then answer St.denied s
  else if !isOpen s p then answer St.portState s
  else if (port s p).line.mode = .single && (k = 1 || k = 2) then answer St.badParam s
  else
    let put := fun (l : PortLine) =>
      { l with agcFixed := if fixed = 1 then l.agcFixed ||| BitVec.ofNat 4 (2 ^ k) else l.agcFixed &&& ~~~(BitVec.ofNat 4 (2 ^ k)),
               fixedGain := l.fixedGain.set k g, txAtten := l.txAtten.set k (rd req 5 1) }
    answer St.ok (updLine p (regain put) s)

def execLaneGain (c : Caller) (req : Bytes) (s : State) : Out :=
  .next (runCmd ⟨0x0104, shaped req 8 [(6, 2)], false, [.port (rd req 0 2)]⟩ c req (laneGainBody c req) s)

/-- driver.rearm (R75, R87). -/
def driverRearmBody (c : Caller) (req : Bytes) (s : State) : State × Reply :=
  let p := rd req 0 2
  if p ≥ s.part.ports then answer St.badParam s
  else if !mayPort s c p then answer St.denied s
  else if c.io.drvfltLow || !(port s p).line.latched then answer St.portState s
  else answer St.ok (updLine p (fun l =>
    { l with latched := false, driverOff := false, faultTimes := [], rearmTimes := [], drvfltLow := false }) s)

def execDriverRearm (c : Caller) (req : Bytes) (s : State) : Out :=
  .next (runCmd ⟨0x0105, shaped req 8 [(2, 6)], false, [.port (rd req 0 2)]⟩ c req (driverRearmBody c req) s)

/-! ### Lane FIFOs (R57, R58) -/

/-- TX_FIFO_UNDERFLOW (R57, R282): the lane's converter puts out mid-scale to the end of the scheduled duration; with parity the
shortfall is a poisoned word. -/
def execTxFifoUnderflow (short : TxShort) (s : State) : Out :=
  let lane := short.lane
  if lane ≥ s.part.lanes then .fault .absentResource
  else
    let p := lane / 4
    if (port s p).mac.tx.isNone then .next s
    else
      let n := txFlight s p
      let s := breakTx p [lane] s
      let s := if short.parity then raisePort p 1 4 lane n (parityFail 2 lane false s) else raisePort p 1 3 lane n s
      .next (closeWhenIdle p s)

/-- RX_FIFO_OVERFLOW (R41, R58, R101): of a lane's receive FIFO, or of a charge or precision converter's, by the chain it feeds; lost
counts the lost tap samples. Symbols that overlap the gap are erased. -/
def execRxFifoOverflow (lane lost : Nat) (s : State) : Out :=
  if !s.part.hasChain lane then .fault .absentResource
  else .next (if s.pwr.phase != .running then s
  else
    let gap := if isPrecision lane then 0 else lost * sampleTicks lane (chain s lane).halved
    let s := if isLaneChain lane then eraseRx (lane / 4) (s.now - gap) s.now s else s
    raiseSys 6 1 lane 0 (chainGap lane lost s))

/-! ### Synthesizers (R76 to R82) -/

/-- REFERENCE_LOST (R77). -/
def execReferenceLost (s : State) : Out :=
  if s.pwr.phase != .running || s.syn.refHold then .next s
  else .next (raiseSys 4 1 0 0 { s with syn.refHold := true, syn.refLost := true })

/-- REFERENCE_RETURN (R77): both synthesizers lock again now, and the second that R79 asks for counts from here. -/
def execReferenceReturn (s : State) : Out :=
  if s.pwr.phase != .running || !s.syn.refHold then .next s
  else .next (raiseSys 4 2 0 0 { s with syn.refHold := false, syn.aGoodSince := max s.syn.aGoodSince s.now,
                                        syn.bGoodSince := max s.syn.bGoodSince s.now })

/-- The code of a synthesizer (R81). -/
def synthCode : Synth → Nat
  | .a => 1 | .b => 2

/-- The ports a synthesizer clocks: first and last (R76, R81). -/
def synthPorts (s : State) (y : Synth) : Option (Nat × Nat) :=
  let k := synthCode y
  let hi := decide (s.part.ports > 64) && s.syn.ownerHi.toNat == k
  let lo := s.syn.ownerLo.toNat == k
  let last := if hi then 127 else min 64 s.part.ports - 1
  if lo then some (0, last) else if hi then some (64, 127) else none

/-- The range of ports of an event (R551). -/
def rangeArg (r : Option (Nat × Nat)) : Nat := match r with | some (a, b) => a + b * 2 ^ 16 | none => 0

/-- A port stops (R37, R78, R80): a port.open or lane.calibrate on it ends. -/
def stopPort (p : Nat) (st : Status) (s : State) : State :=
  let s := match (port s p).line.cal with
    | .none => s
    | .opening c _ => completeStatus c st s
    | .reopening _ => raiseSys 23 1 0 0 { s with pwr.restoreFail := true }
    | .waitBeacon c => completeStatus c st s
    | .waitIdle c => completeStatus c st s
    | .running c => completeStatus c st s
  let s := abandonTx p (if isOpen s p then setTxen p (txenIdle s) s else s)
  let s := updMac p (fun m => { m with rx := none, ackDue := none, contend := .idle, holdOff := none }) s
  let s := tapsStop p (updLine p (fun l =>
    { l with stopped := true, cal := .none, frameGain := none, frameGainEnd := none }) s)
  raisePort p 7 1 0 0 (closeWhenIdle p (cancSuspend p 0 s))

/-- The ports from first to last. -/
def portRange (first last : Nat) : List Nat := (List.range (last + 1)).filter (fun p => decide (first ≤ p))

/-- The sensing branch stops with synthesizer A's ports (R383). -/
def sensingStops (s : State) : State := (List.range 40).foldl (fun s i => closeBlocks (512 + i) s) s

/-- The sequence of R78 begins for a range of ports: they stop and their clock is switched to a synthesizer. -/
def startMove (first last : Nat) (to_ : Synth) (caller : Option Caller) (s : State) : State :=
  let s := (portRange first last).foldl (fun s p => stopPort p St.interrupted s) s
  let s := if first = 0 then sensingStops s else s
  let k := BitVec.ofNat 2 (synthCode to_)
  { s with syn.adoption := some ⟨first, last, to_, s.now, caller⟩,
           syn.ownerLo := if first = 0 then k else s.syn.ownerLo,
           syn.ownerHi := if last ≥ 64 then k else s.syn.ownerHi }

/-- Both synthesizers have failed (R80): every port stops until a device reset; the active device of a pair fails (R545). -/
def stopAll (s : State) : State :=
  let running := (List.range s.part.ports).filter (fun p => !(port s p).line.stopped)
  let s := running.foldl (fun s p => stopPort p St.portState s) s
  let s := match s.syn.adoption.bind (·.caller) with
    | some c => completeStatus c St.portState s
    | none => s
  let s := { sensingStops s with syn.adoption := none, syn.ownerLo := 0, syn.ownerHi := 0, syn.aFailed := true,
                                 syn.bFailed := true, syn.aLock := false, syn.bLock := false }
  roleFailing (raiseSys 5 4 0 0 s)

/-- A synthesizer is marked failed: when it will be locked and within 1 % again is a free value. -/
def markFailed (y : Synth) (s : State) : State :=
  match freshNat s with
  | (v, s) =>
    match y with
    | .a => { s with syn.aFailed := true, syn.aLock := false, syn.aGoodSince := s.now + v }
    | .b => { s with syn.bFailed := true, syn.bLock := false, syn.bGoodSince := s.now + v }

/-- SYNTH_FAILURE (R78, R80, R82): in standby the other takes the same role, and with both failed the Chive ports stop. -/
def execSynthFailure (synth : Synth) (s : State) : Out :=
  let was := match synth with | .a => s.syn.aFailed | .b => s.syn.bFailed
  let other : Synth := match synth with | .a => .b | .b => .a
  if was then .next s
  else if s.pwr.phase = .standby then
    let s := markFailed synth s
    .next (if allStopped s then
             (s.pwr.chive.map (·.1)).foldl (fun s p => updLine p (fun l => { l with stopped := true }) s)
               { s with syn.ownerLo := 0, syn.ownerHi := 0 }
           else s)
  else if s.pwr.phase != .running then .next s
  else
    let s := markFailed synth s
    let mine := synthPorts s synth
    let s := raiseSys 5 1 (synthCode synth) (rangeArg mine) s
    if allStopped s || s.syn.adoption.isSome then .next (stopAll s)
    else
      match mine with
      | none => .next s
      | some (a, b) => .next (startMove a b other none s)

/-- The aperture offsets of a port are measured again (R78): what the measurement finds is not in the state, a free value within
the range of R85. -/
def remeasure (p : Nat) (s : State) : State :=
  [0, 1, 2, 3].foldl (fun s k =>
    match freshNat s with
    | (v, s) => updLine p (fun l => { l with apertures := l.apertures.set k ((v % 4001 : Nat) - 2000) }) s) s

/-- A port resumes (R78, R80). -/
def resumePort (p lost : Nat) (s : State) : State :=
  let late := (port s p).line.lateFault
  let s := updLine p (fun l => { l with stopped := false, lateFault := false }) (remeasure p s)
  let s := [0, 1, 2, 3].foldl (fun s k => chainGap (4 * p + k) lost s) s
  let s := raisePort p 7 2 (clockOf s p) 0 s
  if late && isOpen s p then driverFault p s else s

/-- SYNTH_ADOPTION_COMPLETE (R78, R79, R81, R383): lost counts the tap samples each moved lane lost. -/
def execSynthAdoptionComplete (lost : Nat) (s : State) : Out :=
  match s.syn.adoption with
  | none => .next s
  | some a =>
    let s := extendSurveys (s.now - a.startAt) { s with syn.adoption := none, syn.adoptCount := satAdd s.syn.adoptCount 1 }
    let s := (portRange a.first a.last).foldl (fun s p => resumePort p lost s) s
    let s := if a.first = 0 then
               (List.range 40).foldl (fun s i => chainGap (512 + i) (lostSamples s (512 + i) a.startAt s.now) s) s
             else s
    let arg := rangeArg (some (a.first, a.last))
    match a.caller with
    | none => .next (raiseSys 5 2 (synthCode a.owner) arg s)
    | some c =>
      let s := match a.owner with
        | .a => { s with syn.aFailed := false, syn.aLock := true }
        | .b => { s with syn.bFailed := false, syn.bLock := true }
      .next (completeStatus c St.ok (raiseSys 5 3 (synthCode a.owner) arg s))

/-- The ports away from their own synthesizer (R76, R79): first, last and their own synthesizer. -/
def adopted (s : State) : Option (Nat × Nat × Synth) :=
  if s.syn.ownerLo = 2 then some (0, min 64 s.part.ports - 1, .a)
  else if s.part.ports > 64 && s.syn.ownerHi = 1 then some (64, 127, .b)
  else none

/-- synth.rebalance (R79, R80, R87). -/
def synthRebalanceBody (c : Caller) (s : State) : State × Reply :=
  match adopted s with
  | none => answer St.portState s
  | some (a, b, home) =>
    let since := match home with | .a => s.syn.aGoodSince | .b => s.syn.bGoodSince
    if allStopped s || s.syn.adoption.isSome || s.syn.refHold || decide (s.now < since + secs 1) then answer St.portState s
    else (startMove a b home (some c) s, .held)

def execSynthRebalance (c : Caller) (req : Bytes) (s : State) : Out :=
  .next (runCmd ⟨0x0106, shaped req 8 [(0, 8)], true, []⟩ c req (synthRebalanceBody c) s)

end Sys2Proof.Machine
end

