-- ==== Sys2Proof/Machine/Pods.lean ====
section
/-! DEFINITION. Pods and the host interface (17): pod reset, port ownership, DDR windows and aperture accesses, virtual functions
and the PCIe link (20 R533), MSI-X (21 R554, R560). -/

namespace Sys2Proof.Machine

/-! ### Commands that a reset ends (R462, R475, R533) -/

/-- A caller whose record no longer comes: that of a pod in reset. -/
def quit (n : Nat) (c : Caller) : Caller := if c.pod = n then { c with gone := true } else c

def quitSealer (n : Nat) : Sealer → Sealer
  | .mailbox c => .mailbox (quit n c)
  | x => x

def quitCal (n : Nat) : Cal → Cal
  | .none => .none
  | .opening c req => .opening (quit n c) req
  | .reopening req => .reopening req
  | .waitBeacon c => .waitBeacon (quit n c)
  | .waitIdle c => .waitIdle (quit n c)
  | .running c => .running (quit n c)

/-- What the line side of a port still does for commands of a pod: a calibration not yet begun is called off, since no further
batch is issued (R462). -/
def quitLine (n : Nat) (l : PortLine) : PortLine :=
  let mine := fun (c : Caller) => c.pod == n
  let cal := match l.cal with
    | .waitBeacon c => if mine c then .none else l.cal
    | .waitIdle c => if mine c then .none else l.cal
    | x => quitCal n x
  { l with cal := cal, closing := l.closing.map (quit n) }

/-- The engines that still work for commands of a pod go on without a record; with cut, a calibration not yet begun is called off
and a key does not reach its slot (R475). -/
def quitEngines (n : Nat) (cut : Bool) (s : State) : State :=
  let line := fun (l : PortLine) => if cut then quitLine n l else { l with cal := quitCal n l.cal, closing := l.closing.map (quit n) }
  let jw := fun (w : JWrite) =>
    { w with slot := if cut && w.caller.any (fun c => c.pod == n) then none else w.slot, caller := w.caller.map (quit n) }
  let job := fun (j : I2cJob) => { j with caller := quit n j.caller }
  { s with ports := tmap (fun _ x => { x with line := line x.line }) s.ports,
           lbf.flights := tmap (fun _ f => { f with sealer := quitSealer n f.sealer }) s.lbf.flights,
           mram.journal := s.mram.journal.map jw,
           sns.i2c := tmap (fun _ x => { x with current := x.current.map job }) s.sns.i2c,
           chk := tmap (fun _ x => { x with dma := x.dma.map (fun d => { d with caller := quit n d.caller }) }) s.chk,
           syn.adoption := s.syn.adoption.map (fun a => { a with caller := a.caller.map (quit n) }),
           pods := tmap (fun _ p => { p with resetCallers := p.resetCallers.map (quit n) }) s.pods }

/-- The mailbox part of a pod reset (R462): every command taken completes, held listens complete, notifications are discarded. -/
def quitMailbox (n : Nat) (s : State) : State :=
  let m := s.mgmt
  let mine := (m.executing.map (·.cmd) ++ m.waiting).filter (fun k => k.caller.pod == n)
  let s := mine.foldl (fun s k => completeStatus k.caller St.abortedByReset s) s
  let lane := fun (s : State) (l : Nat) =>
    let ls := (mbxLane s n l).listens
    let s := updMbxLane n l (fun x => { x with listens := [], queued := [], lost := 0 }) s
    ls.foldl (fun s c => completeStatus c St.abortedByReset s) s
  quitEngines n true ([0, 1, 2].foldl lane s)

/-! ### Pod reset (R472) -/

/-- The cipher part (R322): jobs, held units, keys and bindings; the key store drops slots 1 to 63 of the page (R491). -/
def quitCipher (n : Nat) (s : State) : State :=
  let seals := s.lbf.flights.filter (fun e => e.2.pod == n && !e.2.enqueued && !e.2.engine)
  let s := seals.foldl (fun s e => failSeal e.1 St.abortedByReset s) s
  let jobs := s.cph.jobs.filter (fun j => j.pod == n && j.ended.isNone)
  let s := jobs.foldl (fun s j => endJob n j.ring j.idx (noOutput St.abortedByReset 0xFFFFFFFF) s) s
  let units := s.lbf.reasms.filter (fun e => e.2.pod == n)
  let s := units.foldl (fun s e => dropReasm e.1 s) s
  let s := { s with cph.slots := s.cph.slots.filter (fun e => e.1 / 64 != n || e.1 % 64 == 0),
                    cph.bcast := tdel s.cph.bcast n,
                    eps := tmap (fun _ e => if e.pod = n then { e with txSlot := none, rxSlot := none } else e) s.eps }
  let s := ((s.eps.filter (fun e => e.2.pod == n && e.2.state != .free)).map (·.1)).foldl (fun s e => mirrorEp e s) s
  journalWrite { target := .pageGen n } s

/-- The frames of a pod (R279, R473): one in an exchange is detached, every other retires; no notification is posted. -/
def quitFrames (n : Nat) (s : State) : State :=
  let s := { s with lbf.held := s.lbf.held.filter (fun h => h.pod != n || h.engine) }
  let mine := s.lbf.flights.filter (fun e => e.2.pod == n && !e.2.engine)
  mine.foldl (fun s e =>
    let s := updFlight e.1 (fun f => { f with route := match f.route with | .notice _ => .none | r => r }) s
    if e.2.inExchange then updFlight e.1 (fun f => { f with detached := true }) s
    else releaseFlight e.1 St.abortedByReset s) s

/-- The check-value part (R344). -/
def quitChecks (n : Nat) (s : State) : State :=
  let jobs := s.chk.filter (fun e => e.2.pod == n)
  let s := jobs.foldl (fun s e => match e.2.dma with
    | some job => endDma e.1 job St.abortedByReset s
    | none => s) s
  let eps := s.eps.filter (fun e => e.2.pod == n)
  let s := eps.foldl (fun s e => unbindStream n e.1 true (unbindStream n e.1 false s)) s
  jobs.foldl (fun s e => resetCtx e.1 s) s

/-- The chains of a pod (R110, R116). -/
def quitChains (n : Nat) (s : State) : State :=
  let mine := (List.range 552).filter (fun c => s.part.hasChain c && chainOwner s c == n)
  mine.foldl (fun s c => resetChain c s) s

/-- The sensing part (R414): a transfer in progress on a port of the pod ends with result 4, one of the pod not yet started goes. -/
def quitSensing (n : Nat) (s : State) : State :=
  let s := ((List.range 8).filter (fun j => tget 0 s.own.converters j == n)).foldl (fun s j => resetSense 0 j s) s
  let s := ((List.range 32).filter (fun j => tget 0 s.own.charges j == n)).foldl (fun s j => resetSense 1 j s) s
  let s := ((List.range 16).filter (fun j => tget 0 s.own.groups j == n)).foldl (fun s j => resetSense 2 j s) s
  [0, 1].foldl (fun s i =>
    let x := i2cPort s i
    match x.current with
    | none => s
    | some j =>
      if x.started then (if tget 0 s.own.i2c i = n || j.caller.pod = n then endI2c i 4 0 [] s else s)
      else if j.caller.pod = n then setI2cPort i { x with current := none } s else s) s

/-- The counter part (19): assigned counters take EVENT 0 and VALUE 0; user access ends. -/
def quitCounters (n : Nat) (s : State) : State :=
  { s with obs.ctrs := tmap (fun _ c => if c.assigned.toNat = n && n != 0 then { c with event := 0, value := 0, invalid := false } else c) s.obs.ctrs,
           obs.userEn := s.obs.userEn.filter (· != n) }

/-- The event part (R564): sources routed to the pod return to their reset values. -/
def quitEvents (n : Nat) (s : State) : State := resetSources ((s.evt.cfg.filter (fun e => e.2.pod.toNat == n)).map (·.1)) s

/-- The service objects of a pod (R459). -/
def quitServices (n : Nat) (s : State) : State :=
  { s with mgmt.schedules := s.mgmt.schedules.filter (fun e => e.2.owner != n),
           mgmt.shedOps := s.mgmt.shedOps.filter (fun o => o.owner != n),
           mgmt.assets := s.mgmt.assets.filter (fun e => e.2.owner != n) }

/-- A pod reset is taken (R472 to R475, R479): every part of it but its end. A further trigger joins the reset in progress. -/
def startPodReset (n cause : Nat) (caller : Option Caller) (s : State) : State :=
  if (pod s n).resetting then updPod n (fun p => { p with resetCallers := p.resetCallers ++ caller.toList }) s
  else
    let s := updPod n (fun p =>
      { p with resetting := true, resetAt := s.now, cause := BitVec.ofNat 4 cause, resetCallers := caller.toList }) s
    let s := raiseSys 20 1 n 0 s
    let s := quitFrames n (quitCipher n s)
    let s := quitCounters n (quitEvents n (quitChecks n (quitChains n s)))
    let s := quitSensing n (quitMailbox n s)
    let s := quitServices n s
    { s with trk.streams := tmap (fun _ x => dropPodItems n x) s.trk.streams }

/-- The mailbox lanes of a pod at their reset values (R462). -/
def resetLanes (n : Nat) (s : State) : State := [0, 1, 2].foldl (fun s l => setMbxLane n l {} s) s

/-- The ring registers of a pod at their reset values (R322, R564, R294). -/
def resetRings (n : Nat) (s : State) : State :=
  { s with cph.rings := s.cph.rings.filter (fun e => e.1 / 4 != n), cph.jobs := s.cph.jobs.filter (fun j => j.pod != n),
           evt.rings := tdel s.evt.rings n,
           lbf.pods := tset s.lbf.pods n { ({} : PodLbf) with quota := (podLbf s n).quota } }

/-- The MSI-X state of a function at reset (R533; of a function that is reset, by PCI Express). -/
def resetMsix (fn : Nat) (s : State) : State :=
  { s with host.msix := s.host.msix.filter (fun e => e.1 / 1024 != fn),
           host.msixPending := s.host.msixPending.filter (fun k => k / 1024 != fn),
           host.deferral := tdel s.host.deferral fn }

/-- A checked access reaches its end (R467, R468): a permitted write is in DDR, a read's data is returned. -/
def retireAccess (a : Checked) (s : State) : State :=
  let s := { s with fw.inFlight := s.fw.inFlight.filter (fun b => b.id != a.id) }
  let s := match a.write with
    | some (addr, data) => count 0x000C { pod := some a.pod, addr := some (addr, data.length), host := some true } data.length (ddrWrite addr data s)
    | none => s
  match a.read with
  | some (addr, n) =>
    emit (.apertureRead a.pod (ddrRead s addr n)) (count 0x000B { pod := some a.pod, addr := some (addr, n), host := some true } n s)
  | none => s

/-- POD_RESET_COMPLETE (R472, R474): once the firmware runs, or never will: the registers return to reset and the fence lifts. -/
def execPodResetComplete (pod_ : Nat) (s : State) : Out :=
  if pod_ = 0 || pod_ > 64 then .fault .absentResource
  else if !(pod s pod_).resetting || s.mgmt.fwState = .restarting then .next s
  else
    let s := (s.fw.inFlight.filter (fun a => a.pod == pod_)).foldl (fun s a => retireAccess a s) s
    let callers := (pod s pod_).resetCallers
    let dur := (s.now - (pod s pod_).resetAt) / us 1
    let s := resetRings pod_ (resetLanes pod_ s)
    let s := updPod pod_ (fun p =>
      { p with resetting := false, resetSeen := true, resetCount := p.resetCount + 1, lastResetUs := BitVec.ofNat 12 (min 0xFFF dur),
               resetCallers := [] }) s
    let s := raiseSys 20 2 pod_ 0 s
    .next (callers.foldl (fun s c => complete c St.ok (leBytes 2 St.ok.toNat ++ zeros 2 ++ leBytes 4 dur) s) s)

/-! ### Virtual functions and the link (R463, R533) -/

/-- The functions that exist at a setting of NumVFs: none where the lifecycle holds it at 0 (R482). -/
def vfLimit (s : State) (n : Nat) : Nat := if s.sec.lifecycle = 2 then min n 64 else 0

/-- The pods whose functions stop existing when NumVFs falls to k. -/
def vfLost (s : State) (k : Nat) : List Nat :=
  (List.range 65).filter (fun n => decide (n ≥ 1) && fnExists s n && decide (n > k))

/-- VF_ENABLE (R463, R482): pods that come into existence have their page at reset values. -/
def execVfEnable (numVfs : Nat) (s : State) : Out :=
  if s.pwr.phase != .running then .next s
  else
    let k := vfLimit s numVfs
    let lost := vfLost s k
    let s := { s with host.vfEnable := decide (k > 0), host.numVfs := k }
    .next (lost.foldl (fun s n => resetMsix n (startPodReset n 3 none s)) s)

/-- VF_DISABLE (R463): VF Enable is cleared when numVfs is 0, else NumVFs is lowered to it. -/
def execVfDisable (numVfs : Nat) (s : State) : Out :=
  if s.pwr.phase != .running || numVfs ≥ s.host.numVfs || !s.host.vfEnable then .next s
  else
    let lost := vfLost s numVfs
    let s := { s with host.vfEnable := decide (numVfs > 0), host.numVfs := numVfs }
    .next (lost.foldl (fun s n => resetMsix n (startPodReset n 3 none s)) s)

/-- VF_FUNCTION_LEVEL_RESET (R463). -/
def execVfFunctionLevelReset (n : Nat) (s : State) : Out :=
  if n = 0 || n > 64 then .fault .absentResource
  else if s.pwr.phase != .running || !fnExists s n then .next s
  else .next (resetMsix n (startPodReset n 2 none s))

/-- PCIE_INTERFACE_RESET (R533): the pods are reset, pod 0's host-facing registers too; its commands run on without records. The
configuration space is reset with the link, so that no virtual function exists. -/
def execPcieInterfaceReset (_kind : PcieReset) (s : State) : Out :=
  if s.pwr.phase != .running then .next s
  else
    let s := ((List.range 65).filter (fun n => decide (n ≥ 1))).foldl (fun s n => startPodReset n 3 none s) s
    let silence := fun (k : Cmd) => { k with caller := quit 0 k.caller }
    let keep := fun (x : MbxLane) => { ({} : MbxLane) with queued := x.queued, lost := x.lost }
    let s := quitEngines 0 false
      { s with mgmt.waiting := s.mgmt.waiting.map silence,
               mgmt.executing := s.mgmt.executing.map (fun e => { e with cmd := silence e.cmd }),
               mgmt.owed := s.mgmt.owed.filter (fun o => o.1.pod != 0) }
    let s := [0, 1, 2].foldl (fun s l => updMbxLane 0 l keep s) s
    let s := { s with cph.rings := s.cph.rings.filter (fun e => e.1 / 4 != 0), cph.jobs := s.cph.jobs.filter (fun j => j.pod != 0) }
    let s := { s with host.linkUp := false, host.vfEnable := false, host.numVfs := 0, host.msix := [], host.msixPending := [],
                      host.deferral := [] }
    .next { s with pwr.pcieResetSeen := true }

/-- PCIE_LINK_UP (R531, R533): the link has trained and physical function 0 answers. -/
def execPcieLinkUp (s : State) : Out :=
  if s.pwr.phase = .running then .next { s with host.linkUp := true } else .next s

/-! ### MSI-X (R554, R560) -/

/-- MSIX_VECTOR_UNMASK (R554): the mask bit clears; a message that was held is sent. -/
def execMsixVectorUnmask (fn vector : Nat) (s : State) : Out :=
  if fn > 64 || vector ≥ (if fn = 0 then 1024 else 16) then .fault .absentResource
  else if !pageOpen s fn then .next s
  else
    let k := 1024 * fn + vector
    let e := msixEntry s fn vector
    let held := s.host.msixPending.contains k
    let s := { s with host.msix := tset s.host.msix k { e with ctrl := e.ctrl &&& 0xFFFFFFFE },
                      host.msixPending := s.host.msixPending.filter (· != k) }
    .next (if held then sendMsix fn vector s else s)

/-- ADMIT_VECTOR_DEFERRED (R560). -/
def execAdmitVectorDeferred (fn : Nat) (s : State) : Out :=
  let d := tget {} s.host.deferral fn
  match d.admitAt with
  | none => .next s
  | some t =>
    if !d.admitDue then .next s
    else
      let s := advanceTo (t + us 100) s
      let go := podBlocked s fn
      let s := { s with host.deferral := tset s.host.deferral fn
                          { d with admitDue := false, admitAt := if go then some s.now else d.admitAt } }
      .next (if go then sendMsix fn 7 s else s)

/-- DELIVERY_VECTOR_DEFERRED (R560). -/
def execDeliveryVectorDeferred (fn : Nat) (s : State) : Out :=
  let d := tget {} s.host.deferral fn
  match d.deliverAt with
  | none => .next s
  | some t =>
    if !d.deliverDue then .next s
    else
      let s := advanceTo (t + us 50) s
      .next (sendMsix fn 8 { s with host.deferral := tset s.host.deferral fn { d with deliverDue := false, deliverAt := some s.now } })

/-! ### Aperture accesses (R467 to R469) -/

/-- APERTURE_ACCESS (R468, R469): checked under the epoch in force; a denied read returns zeros, a denied write goes nowhere. -/
def execApertureAccess (pod_ : Nat) (write : Bool) (offset len : Nat) (data : Bytes) (s : State) : Out :=
  if pod_ = 0 || pod_ > 64 || offset + len > 2 ^ 32 then .fault .absentResource
  else if !fnExists s pod_ || s.pwr.phase != .running then .next s
  else if (pod s pod_).resetting then .next (if write then s else emit (.apertureRead pod_ (zeros len)) s)
  else
    let w := offset / 2 ^ 29
    let o := offset % 2 ^ 29
    let x := window s pod_ w
    if (if write then x.write else x.read) && decide (o + len ≤ x.size) then
      let a : Checked := { id := s.fw.nextId, pod := pod_, epoch := s.fw.epoch,
                           write := if write then some (x.base + o, data.take len) else none,
                           read := if write then none else some (x.base + o, len) }
      .next { s with fw.inFlight := s.fw.inFlight ++ [a], fw.nextId := s.fw.nextId + 1 }
    else
      let s := deny pod_ (if write then 1 else 0) w o (if x.isOpen then some (x.base + o) else none) s
      .next (if write then s else emit (.apertureRead pod_ (zeros len)) s)

/-- CHECKED_ACCESS_RETIRE (R467, R470). -/
def execCheckedAccessRetire (id : Nat) (s : State) : Out :=
  match s.fw.inFlight.find? (fun a => a.id == id) with
  | none => .next s
  | some a => .next (retireAccess a s)

/-- Checked accesses in flight under an earlier epoch (R470, R477). -/
def oldAccesses (s : State) : Nat := (s.fw.inFlight.filter (fun a => a.epoch != s.fw.epoch)).length

/-! ### Commands (R479, R480) -/

/-- pod.reset. -/
def podResetBody (c : Caller) (req : Bytes) (s : State) : State × Reply :=
  let n := rd req 0 1
  if n = 0 || n > 64 then answer St.badParam s else (startPodReset n 1 (some c) s, .held)

/-- pod.reset (R474, R480): a second one joins the reset in progress, so that the pod is no resource it waits for. -/
def execPodReset (c : Caller) (req : Bytes) (s : State) : Out :=
  .next (runCmd ⟨0x0F01, shaped req 8 [(1, 7)], true, []⟩ c req (podResetBody c req) s)

/-- The port a fixed counter belongs to, none for a device counter (R509). -/
def fixedPort (id : Nat) : Option Nat :=
  if id < 1024 then some (id / 8) else if id < 3072 then some ((id - 1024) / 16) else none

/-- The slots that map a counter of a port are unmapped (R509). -/
def unmapPort (p : Nat) (s : State) : State :=
  { s with obs.slots := s.obs.slots.filter (fun e => !(e.2.fixed && fixedPort e.2.id == some p)) }

/-- pod.assign (R110, R466, R480, R509, R556): the port's chains return to R115, its sources to their reset routing, and when its owner
changes its counters leave the slots. -/
def podAssignBody (req : Bytes) (s : State) : State × Reply :=
  let p := rd req 0 2
  let n := rd req 2 1
  if p ≥ s.part.ports || n > 64 then answer St.badParam s
  else if isOpen s p then answer St.portState s
  else
    let s := if portOwner s p = n then s else unmapPort p s
    let s := { s with own.ports := tset s.own.ports p n }
    let s := [0, 1, 2, 3].foldl (fun s k => resetChain (4 * p + k) s) s
    answer St.ok (resetSources ((List.range 8).map (fun e => 8 * p + e)) s)

def execPodAssign (c : Caller) (req : Bytes) (s : State) : Out :=
  .next (runCmd ⟨0x0F02, shaped req 8 [(3, 5)], true, [.port (rd req 0 2), .pod (rd req 2 1)]⟩ c req (podAssignBody req) s)

/-- Whether a DDR range meets an open window of another pod (R468, R480). -/
def windowConflict (s : State) (n base size : Nat) : Bool :=
  s.pods.any (fun e => e.1 != n && e.2.windows.any (fun w =>
    w.2.isOpen && decide (base < w.2.base + w.2.size) && decide (w.2.base < base + size)))

/-- pod.window (R470, R479, R480). -/
def podWindowBody (req : Bytes) (s : State) : State × Reply :=
  let n := rd req 0 1
  let w := rd req 1 1
  let fl := rd req 2 1
  let base := rd req 8 8
  let size := rd req 16 8
  let mib2 := 2 ^ 21
  if n = 0 || n > 64 || w > 7 || fl > 3 || base % mib2 != 0 || size % mib2 != 0 || size > 2 ^ 29 || (fl != 0 && size = 0)
      || (fl != 0 && base + size > s.part.ddrBytes) then answer St.badParam s
  else if oldAccesses s > 0 then answer St.epochPending s
  else if fl != 0 && (windowConflict s n base size || decide (base + size > reservedFrom s.part)) then answer St.windowConflict s
  else
    let win : Window := if fl = 0 then {} else { base := base, size := size, read := bit fl 0, write := bit fl 1 }
    let s := updPod n (fun p => { p with windows := tset p.windows w win }) s
    let e := s.fw.epoch + 1
    ({ s with fw.epoch := e }, .done St.pending (leBytes 2 St.pending.toNat ++ zeros 2 ++ leBytes 4 e.toNat))

def execPodWindow (c : Caller) (req : Bytes) (s : State) : Out :=
  .next (runCmd ⟨0x0F03, shaped req 24 [(3, 5)], true, [.pod (rd req 0 1)]⟩ c req (podWindowBody req) s)

end Sys2Proof.Machine
end

