-- ==== Sys2Proof/Machine/Standby.lean ====
section
/-! DEFINITION. The standby set (20 R534, R538): what pwr.standby saves, and how a wake applies it. -/

namespace Sys2Proof.Machine

/-! ### Configuration without what was in progress -/

/-- A comparator's settings. -/
def keepComparator (x : Comparator) : Comparator := { mode := x.mode, level := x.level, hyst := x.hyst, q := x.q }

/-- A chain's settings. -/
def keepChain (c : Chain) : Chain where
  cfg := c.cfg
  bank0 := c.bank0
  bank1 := c.bank1
  active := c.active
  positions := c.positions.map (fun e => (e.1, { cmp0 := keepComparator e.2.cmp0, cmp1 := keepComparator e.2.cmp1 }))

/-- The line settings of a port: gains, attenuation, TXEN times, tap scale and profile. -/
def keepLine (l : PortLine) : PortLine where
  lastMode := l.lastMode
  agcFixed := l.agcFixed
  fixedGain := l.fixedGain
  txAtten := l.txAtten
  leadNs := l.leadNs
  tailNs := l.tailNs
  tapScale := l.tapScale
  profile := l.nextProfile.getD l.profile

/-- The settings of a port, its beacon count and its active tree version. -/
def keepPort (x : Port) : Port where
  line := keepLine x.line
  phy := x.nextPhy.getD x.phy
  mains := { source := x.mains.nextSource.getD x.mains.source, force := x.mains.force }
  margin := x.margin
  refreshS := x.refreshS
  mac := { cfg := x.mac.next.getD x.mac.cfg, beaconSeq := x.mac.beaconSeq }
  topo := { cfg := x.topo.next.getD x.topo.cfg, active := x.topo.active, lastVersion := x.topo.lastVersion, bcastId := x.topo.bcastId }
  rxReserve := x.rxReserve
  queueLimit := x.queueLimit

/-- A check-value context's settings and assignment; a transfer in progress is not kept. -/
def keepContext (x : ChkCtx) : ChkCtx := { x with dma := none, done := false, fails := 0, lost := 0, stale := 0, poisonSeen := false,
                                                   writeRejected := false, failSeen := false, value := x.init, result := 0, seq := 0 }

/-- The settings of the sensing front end. -/
def keepSensing (x : Sensing) : Sensing where
  converters := x.converters.map (fun e => (e.1, { next := some ((e.2.next.map (·.1)).getD e.2.scan, 0) }))
  charges := x.charges.map (fun e => (e.1, { e.2 with switchUntil := 0 }))
  groups := x.groups.map (fun e =>
    (e.1, { e.2 with ring := {}, sequence := 0, discarded := 0, pulses := [], deadUntil := [] }))
  i2c := x.i2c.map (fun e => (e.1, { speed := e.2.speed }))

/-- What the standby set saves now, with the ports that were open when pwr.standby was taken (R534). -/
def capture (openPorts : List Nat) (s : State) : StandbySet where
  openPorts := openPorts
  ports := s.ports.map (fun e => (e.1, keepPort e.2))
  eps := s.eps
  owners := s.own
  windows := s.pods.map (fun e => (e.1, e.2.windows))
  bcast := s.cph.bcast
  instanceId := s.cph.instanceId
  guardX := s.canc.guardX
  pairs := s.canc.pairs.map (fun e => (e.1 / 128, e.1 % 128))
  contexts := s.chk.map (fun e => (e.1, keepContext e.2))
  page := activePage s
  lanes := s.trk.lanes.map (fun e => (e.1, e.2.cfg))
  vCap := s.pwr.avs.vCap
  credits := s.mgmt.credits
  quotas := s.lbf.pods.map (fun e => (e.1, e.2.quota))
  tmb := s.tmb.nextCfg.getD s.tmb.cfg
  chains := s.chains.map (fun e => (e.1, keepChain e.2))
  sensing := keepSensing s.sns
  routes := s.evt.cfg
  counters := s.obs.ctrs.map (fun e => (e.1, { e.2 with value := 0, ovf := false }))
  slots := s.obs.slots
  tags := s.obs.tagCfg

/-! ### Applying it (R538) -/

/-- The request of the port.open that reopens a port as it was (R84). -/
def reopenReq (p : Nat) (l : PortLine) : Bytes :=
  leBytes 2 p ++ leBytes 1 (if l.lastMode = .single then 1 else 0) ++ leBytes 1 l.agcFixed.toNat
    ++ l.fixedGain.flatMap (fun g => leBytes 1 (ofInt 8 g)) ++ l.txAtten.flatMap (fun a => leBytes 1 a)
    ++ leBytes 2 l.leadNs ++ leBytes 2 l.tailNs ++ leBytes 1 l.tapScale.toNat ++ zeros 7

/-- A converter resumes its scan at the next frame boundary. -/
def resumeScan (s : State) (c : Converter) : Converter :=
  match c.next with
  | some (sc, _) => if sc.enables = 0 then {} else { next := some (sc, scanFrameAfter sc.periodUs (tmbNow s).toNat) }
  | none => {}

/-- A sensor chain keeps the GAP that it owes since the wake (R383) when its settings come from the set. -/
def keepGap (old : State) (c : Nat) (s : State) : State :=
  (List.range (positionCount c)).foldl (fun s p =>
    let o := position (chain old c) p
    if bit o.owed 1 then updPosition c p (fun ps => { ps with owed := ps.owed ||| 2, lost := ps.lost + o.lost }) s else s) s

/-- One setting of the set, by its number 0 to 18. -/
def applyPart (x : StandbySet) (n : Nat) (s : State) : State :=
  match n with
  | 0 => { s with own := x.owners }
  | 1 => { s with ports := x.ports }
  | 2 => { s with eps := x.eps }
  | 3 => { s with pods := x.windows.map (fun e => (e.1, { pod s e.1 with windows := e.2 })) }
  | 4 => { s with cph.bcast := x.bcast, cph.instanceId := x.instanceId }
  | 5 => { s with canc.guardX := x.guardX }
  | 6 => { s with canc.pairs := x.pairs.map (fun p => (128 * p.1 + p.2, {})) }
  | 7 => { s with chk := x.contexts }
  | 8 => { s with trk.page0 := x.page, trk.page1 := x.page }
  | 9 => { s with trk.lanes := x.lanes.map (fun e =>
             (e.1, { cfg := e.2, oofSince := if e.2.mode = .skeluz then some s.now else none, restart := e.2.mode != .off })) }
  | 10 => { s with pwr.avs.vCap := x.vCap }
  | 11 => { s with mgmt.credits := x.credits }
  | 12 => { s with lbf.pods := x.quotas.map (fun e => (e.1, { quota := e.2 })) }
  | 13 => { s with tmb.nextCfg := some x.tmb }
  | 14 => (List.range 40).foldl (fun t i => keepGap s (512 + i) t) { s with chains := x.chains }
  | 15 => { s with sns := { x.sensing with converters := tmap (fun _ c => resumeScan s c) x.sensing.converters,
                                           inputs := s.sns.inputs } }
  | 16 => { s with evt.cfg := x.routes }
  | 17 => { s with obs.ctrs := x.counters, obs.slots := x.slots }
  | _ => { s with obs.tagCfg := x.tags }

/-- STANDBY_SET_APPLY (R538): after READY on a wake; failed names the settings that do not apply (numbers of applyPart, and 32 + p
for the opening of port p). -/
def execStandbySetApply (failed : List Nat) (s : State) : Out :=
  .next (match s.mram.standby with
    | none => s
    | some x =>
      if !s.pwr.waking || !s.mgmt.ready || !s.pwr.setValid then s
      else
        let s := (List.range 19).foldl (fun s n => if failed.contains n then s else applyPart x n s) s
        let open_ := x.openPorts.filter (fun p => !failed.contains (32 + p))
        let s := { s with pwr.setValid := false, pwr.restored := true, pwr.waking := false, mram.standby := none,
                          pwr.reopen := open_.map (fun p => (p, reopenReq p (port s p).line)) }
        let s := if failed.isEmpty then s else raiseSys 23 1 0 0 { s with pwr.restoreFail := true }
        startReopens s)

end Sys2Proof.Machine
end

