-- ==== Sys2Proof/Machine/Security.lean ====
section
/-! DEFINITION. Keys, boot, tamper, journaled writes and observation (18). -/

namespace Sys2Proof.Machine

/-! ### The key store (R490, R491) -/

/-- A new key-wrapping key from the entropy source (R490): its number is one never used before. -/
def newKwk (s : State) : State := { s with sec.kwk := some (s.free + 1), free := s.free + 1 }

/-- The states in which a key-wrapping key is created (R490). -/
def kwkState (s : State) : Bool := s.sec.lifecycle == 1 || s.sec.lifecycle == 2

/-! ### Journaled writes (R493, R494) -/

/-- The target of a write takes its value. -/
def applyTarget (t : JTarget) (s : State) : State :=
  match t with
  | .keyRecord i (some r) => { s with mram.records := tset s.mram.records i r }
  | .keyRecord i none => { s with mram.records := tdel s.mram.records i }
  | .ceiling page v => { s with mram.ceilings := tset s.mram.ceilings page v }
  | .lin n c => { updInput n (fun i => { i with nextLin := some c }) s with mram.lins := tset s.mram.lins n c }
  | .registry es => { s with mram.registry := es }
  | .tamper c => { s with mram.tamper := c, sec.cfg := c, sec.loopRun := [] }
  | .pageGen page =>
    let g := tget 0 s.mram.pageGens page + 1
    let move := fun (k : Nat) (r : KeyRec) => if k = 64 * page then { r with pageGen := g } else r
    { s with mram.pageGens := tset s.mram.pageGens page g, mram.records := tmap move s.mram.records }
  | .storeGen => { s with mram.storeGen := s.mram.storeGen + 1 }
  | .standby open_ => { s with mram.standby := some (capture open_ s), pwr.setValid := true }

/-- Jobs of a page that wait for its nonce ceiling start (R302). -/
def startWaiting (page : Nat) (s : State) : State :=
  (s.cph.jobs.filter (fun j => j.pod == page)).foldl (fun s j => startJob j s) s

/-- Whether the standby set can be written (R534): the ports that close have closed, and the commands taken have completed. -/
def standbyReady (s : State) : Bool :=
  s.ports.all (fun e => e.2.line.closing.isNone) && s.mgmt.waiting.isEmpty
    && s.mgmt.executing.all (fun e => e.cmd.code == 0x1201)

/-- The write that commits next, and those left (R494): the standby set waits for its turn. -/
def nextWrite (s : State) : Option (JWrite × List JWrite) :=
  match s.mram.journal with
  | [] => none
  | w :: rest =>
    match w.target with
    | .standby _ => if standbyReady s then some (w, rest) else rest.head?.map (fun v => (v, w :: rest.tail))
    | _ => some (w, rest)

/-- The record of pwr.standby is written: the entry follows 1 ms later (R534). -/
def standbyRecorded (t : JTarget) (s : State) : State :=
  match t with
  | .standby _ => { s with pwr.order := s.pwr.order.map (fun o => { o with recordAt := some s.now }) }
  | _ => s

/-- JOURNALED_WRITE_COMMIT (R326, R493): the front write is in force; the slot it was for takes its key, its command completes,
and jobs that waited for a nonce start. -/
def execJournaledWriteCommit (s : State) : Out :=
  match nextWrite s with
  | none => .next s
  | some (w, rest) =>
    if s.pwr.phase != .running then .next s
    else
      let s := applyTarget w.target { s with mram.journal := rest }
      let s := match w.slot with | some (i, k) => setSlot (i / 64) (i % 64) (some k) s | none => s
      let s := match w.target with | .ceiling page _ => startWaiting page s | _ => s
      .next (standbyRecorded w.target (match w.caller with | some c => complete c w.status w.resp s | none => s))

/-! ### Tamper (R495, R496, R323) -/

/-- The engine's part of a tamper alarm (R323, R496): every job and seal in progress ends, every slot is empty, a key operation is
squashed though its write runs on. -/
def tamperEngine (s : State) : State :=
  let seals := s.lbf.flights.filter (fun e => !e.2.enqueued)
  let s := seals.foldl (fun s e => failSeal e.1 St.tamper s) s
  let s := (s.cph.jobs.filter (fun j => j.ended.isNone)).foldl
    (fun s j => endJob j.pod j.ring j.idx (noOutput St.tamper 0xFFFFFFFF) s) s
  let squash := fun (w : JWrite) =>
    if w.keyOp then { w with slot := none, status := St.tamper, resp := statusResp St.tamper } else w
  { s with cph.slots := [], mram.journal := s.mram.journal.map squash }

/-- Whether a key operation is in progress (R496). -/
def keyOpRuns (s : State) : Bool := s.mram.journal.any (fun w => w.keyOp && w.caller.isSome)

/-- The state an alarm finds the device in (R501). -/
def alarmState (s : State) : Nat :=
  if s.sec.lifecycle = 3 then 3 else if s.pwr.phase = .standby then 2 else if s.pwr.phase = .running then 1 else 0

/-- The always-on domain's part (R496, R501). -/
def noteAlarm (source : Nat) (s : State) : State :=
  let first := !s.sec.tamperSeen
  let s := { s with sec.alarms := satAdd s.sec.alarms 1,
                    sec.active := s.sec.active ||| BitVec.ofNat 7 (2 ^ source) }
  if first then
    { s with sec.logSource := BitVec.ofNat 4 source, sec.logState := BitVec.ofNat 2 (alarmState s), sec.logKeyOp := keyOpRuns s,
             sec.tamperTime := tmbNow s }
  else s

/-- Whether a source can qualify: an enclosure input only while it is not off (R495). -/
def sourceOn (s : State) (source : Nat) : Bool :=
  decide (source < 7) && (decide (source ≥ 4) || bits s.sec.cfg.modes.toNat (2 * source) 2 != 0)

/-- A source qualifies (R496). -/
def tamperAlarm (source : Nat) (s : State) : State :=
  if !sourceOn s source then s
  else if s.sec.lifecycle = 3 then
    let s := noteAlarm source s
    { s with sec.tamper := true, sec.tamperSeen := true, sec.kwk := none }
  else
    let s := noteAlarm source s
    let s := { s with sec.tamper := true, sec.tamperSeen := true, sec.kwk := none }
    if s.pwr.phase = .running then raiseSys 17 1 0 0 (tamperEngine s) else { s with sec.alarmDue := true }

/-- TAMPER_QUALIFY (R496). -/
def execTamperQualify (source : Nat) (s : State) : Out :=
  if source ≥ 7 then .fault .absentResource else .next (tamperAlarm source s)

/-- TAMPER_LOOP_PATTERN (R495): the pattern is a free value; mismatches that last the filter time qualify. -/
def execTamperLoopPattern (input_ returned : Nat) (s : State) : Out :=
  if input_ ≥ 4 then .fault .absentResource
  else if bits s.sec.cfg.modes.toNat (2 * input_) 2 != 3 then .next s
  else
    match freshNat s with
    | (v, s) =>
      let pattern := v % 65536
      let s := emit (.pin (["TAMPER_OUT0", "TAMPER_OUT1", "TAMPER_OUT2", "TAMPER_OUT3"].getD input_ "") pattern) s
      if returned = pattern then
        .next { s with sec.loopRun := tset s.sec.loopRun input_ 0,
                       sec.active := s.sec.active &&& ~~~(BitVec.ofNat 7 (2 ^ input_)) }
      else
        let run := tget 0 s.sec.loopRun input_ + 1
        let s := { s with sec.loopRun := tset s.sec.loopRun input_ run }
        .next (if 10 * run = (ceilDiv (s.sec.cfg.filters.getD input_ 10) 10) * 10 then tamperAlarm input_ s else s)

/-! ### Commands (R483, R492, R497 to R503) -/

/-- What a command that persists holds until its write commits. -/
def persist (t : JTarget) (c : Caller) (resp : Bytes) (s : State) : State × Reply :=
  (journalWrite { target := t, caller := some c, status := St.ok, resp := resp } s, .held)

/-- sec.lifecycle (R482, R483). -/
def secLifecycleBody (c : Caller) (req : Bytes) (s : State) : State × Reply :=
  let t := rd req 0 1
  if t != s.sec.lifecycle + 1 || t > 3 then answer St.badParam s
  else
    let s := { s with sec.lifecycle := t, sec.tap := Tap.of t }
    if t = 1 then answer St.ok (newKwk s)
    else if t = 2 then answer St.ok s
    else
      let lost := vfLost s 0
      let s := lost.foldl (fun s n => resetMsix n (startPodReset n 3 none s)) s
      let s := tamperEngine { s with host.vfEnable := false, host.numVfs := 0, sec.kwk := none }
      persist .storeGen c (statusResp St.ok) s

def execSecLifecycle (c : Caller) (req : Bytes) (s : State) : Out :=
  .next (runCmd ⟨0x1001, shaped req 8 [(1, 7)], true, []⟩ c req (secLifecycleBody c req) s)

/-- sec.revoke (R485, R503). -/
def secRevokeBody (req : Bytes) (s : State) : State × Reply :=
  let mask := rd req 0 1
  let low := rd req 1 1
  let after := s.sec.revoked ||| BitVec.ofNat 4 mask
  if mask > 15 || low > 63 || after == 15 || bit mask s.sec.runKey || low < s.sec.minSecver || low > s.sec.runSecver then
    answer St.badParam s
  else answer St.ok { s with sec.revoked := after, sec.minSecver := low }

def execSecRevoke (c : Caller) (req : Bytes) (s : State) : Out :=
  .next (runCmd ⟨0x1002, shaped req 8 [(2, 6)], true, []⟩ c req (secRevokeBody req) s)

/-- A page's slot 0 and its record take a key (R492): the slot when the write commits. -/
def installKek (page : Nat) (bytes : Bytes) (c : Caller) (resp : Bytes) (s : State) : State × Reply :=
  let k : Key := { bytes := bytes, usage := 0 }
  (journalWrite { target := .keyRecord (64 * page) (some (recordOf s page k)), slot := some (64 * page, k), caller := some c,
                  status := St.ok, resp := resp, keyOp := true } s, .held)

/-- kek.install (R492, R497). -/
def kekInstallBody (c : Caller) (req : Bytes) (s : State) : State × Reply :=
  let page := rd req 0 1
  if page < 1 || page > 64 then answer St.badParam s
  else if s.sec.tamper then answer St.tamperLatched s
  else
    match slotKey s 0 0 with
    | none => answer St.keyEmpty s
    | some kek =>
      match Config.keyUnwrap true kek.bytes (slice req 8 40) with
      | none => answer St.authFailed s
      | some bytes => if bytes.length != 32 then answer St.authFailed s else installKek page bytes c (statusResp St.ok) s

def execKekInstall (c : Caller) (req : Bytes) (s : State) : Out :=
  .next (runCmd ⟨0x1003, shaped req 48 [(1, 7)], true, [.keySlot (64 * rd req 0 1)]⟩ c req
    (fun s => keyCommand c s (kekInstallBody c req s)) s)

/-- The key-encryption key that kek.agree derives (R492): the peer's public key, and the counter of the ephemeral pair. -/
def agreedKey (page : Nat) (qt : Bytes) (pair : Nat) : Bytes :=
  fit 32 (Config.sha384 ([0, 0, 0, 1] ++ fit 48 (Config.ecdhShared qt pair) ++ [0x47, 0x4E, 0x5A, 0x2D, 0x4B, 0x45, 0x4B]
    ++ beBytes 1 page ++ fit 8 Config.serial))

/-- kek.agree (R492, R497): status, Q_e and the signature. -/
def kekAgreeBody (c : Caller) (req : Bytes) (s : State) : State × Reply :=
  if !Config.validPoint req then answer St.badParam s
  else if s.sec.tamper then answer St.tamperLatched s
  else
    let pair := s.free
    let s := { s with free := s.free + 1 }
    let qe := fit 96 (Config.ecdhPublic pair)
    let sig := fit 96 (Config.ecdsaSign (Config.sha384 (req ++ qe ++ beBytes 1 c.pod ++ fit 8 Config.serial)) pair)
    installKek c.pod (agreedKey c.pod req pair) c (statusResp St.ok ++ qe ++ sig) s

def execKekAgree (c : Caller) (req : Bytes) (s : State) : Out :=
  .next (runCmd ⟨0x1004, req.length == 96, false, [.keySlot (64 * c.pod)]⟩ c req
    (fun s => keyCommand c s (kekAgreeBody c req s)) s)

/-- kek.clear (R503). -/
def kekClearBody (c : Caller) (s : State) : State × Reply :=
  let s := setSlot c.pod 0 none s
  if (keyRecord s c.pod 0).isSome then
    (journalWrite { target := .keyRecord (64 * c.pod) none, caller := some c, status := St.ok, resp := statusResp St.ok } s, .held)
  else answer St.ok s

def execKekClear (c : Caller) (req : Bytes) (s : State) : Out :=
  .next (runCmd ⟨0x1005, shaped req 8 [(0, 8)], false, [.keySlot (64 * c.pod)]⟩ c req
    (fun s => keyCommand c s (kekClearBody c s)) s)

/-- sec.identity (R503). -/
def execSecIdentity (c : Caller) (req : Bytes) (s : State) : Out :=
  .next (runCmd ⟨0x1006, shaped req 8 [(0, 8)], false, []⟩ c req
    (fun s => (s, .done St.ok (statusResp St.ok ++ fit 8 Config.serial ++ fit 96 Config.identityPub))) s)

/-- sec.tamper.configure (R495, R503): loaded into the always-on domain when it is persisted. -/
def secTamperConfigureBody (c : Caller) (req : Bytes) (s : State) : State × Reply :=
  let fs := (List.range 4).map (fun k => rd req (2 + k) 1)
  if fs.any (fun f => decide (f < 1) || decide (f > 100)) then answer St.badParam s
  else persist (.tamper { modes := BitVec.ofNat 8 (rd req 0 1), filters := fs }) c (statusResp St.ok) s

def execSecTamperConfigure (c : Caller) (req : Bytes) (s : State) : Out :=
  .next (runCmd ⟨0x1007, shaped req 8 [(1, 1), (6, 2)], true, []⟩ c req (secTamperConfigureBody c req) s)

/-- sec.tamper.clear (R497): a new key-wrapping key where the lifecycle state has one (R490). -/
def secTamperClearBody (c : Caller) (s : State) : State × Reply :=
  let s := { s with sec.active := BitVec.ofNat 7 c.io.tamperActive }
  if s.sec.active != 0 then answer St.tamperActive s
  else
    let s := if kwkState s then newKwk s else s
    persist .storeGen c (statusResp St.ok) { s with sec.tamper := false }

def execSecTamperClear (c : Caller) (req : Bytes) (s : State) : Out :=
  .next (runCmd ⟨0x1008, shaped req 8 [(0, 8)], true, []⟩ c req (secTamperClearBody c) s)

/-! ### Observation (R498, R499) -/

/-- OBSERVE of SYS_SEC_STATUS. -/
def observing (s : State) : Bool := s.sec.observeUntil.isSome

/-- sec.observe stage 0: a challenge valid for 60 s. -/
def observeChallengeBody (s : State) : State × Reply :=
  if s.sec.lifecycle = 0 then answer St.lifecycle s
  else
    match freshBytes 16 s with
    | (ch, s) => ({ s with sec.challenge := some (ch, s.now + secs 60) }, .done St.ok (statusResp St.ok ++ ch))

def execSecObserveChallenge (c : Caller) (req : Bytes) (s : State) : Out :=
  .next (runCmd ⟨0x1009, shaped req 8 [(1, 3)] && rd req 0 1 == 0, true, []⟩ c req observeChallengeBody s)

/-- Whether a token verifies against the challenge in force under an unrevoked image key (R499). -/
def tokenOk (req : Bytes) (s : State) : Bool :=
  match s.sec.challenge with
  | none => false
  | some (ch, until_) =>
    let digest := Config.sha384 (ch ++ fit 8 Config.serial ++ beBytes 4 (rd req 4 4))
    decide (s.now < until_)
      && (List.range 4).any (fun k => !bit s.sec.revoked.toNat k && Config.ecdsaVerify (Config.imageKey k) digest (slice req 8 96))

/-- sec.observe stage 1: a challenge serves one attempt; outside Operational no token is asked for (R482). -/
def observeTokenBody (req : Bytes) (s : State) : State × Reply :=
  let d := rd req 4 4
  if s.sec.lifecycle = 0 then answer St.lifecycle s
  else if d < 1 || d > 86400 then answer St.badParam s
  else if s.sec.lifecycle = 2 && !tokenOk req s then answer St.tokenInvalid { s with sec.challenge := none }
  else answer St.ok (raiseSys 18 1 0 0 { s with sec.challenge := none, sec.observeUntil := some (s.now + secs d) })

def execSecObserveToken (c : Caller) (req : Bytes) (s : State) : Out :=
  .next (runCmd ⟨0x1009, shaped req 104 [(1, 3)] && rd req 0 1 == 1, true, []⟩ c req (observeTokenBody req) s)

/-- sec.observe stage 2: observation ends. -/
def observeEndBody (s : State) : State × Reply :=
  if s.sec.lifecycle = 0 then answer St.lifecycle s else answer St.ok { s with sec.observeUntil := none }

def execSecObserveEnd (c : Caller) (req : Bytes) (s : State) : Out :=
  .next (runCmd ⟨0x1009, shaped req 8 [(1, 3)] && rd req 0 1 == 2, true, []⟩ c req observeEndBody s)

/-- OBSERVE_EXPIRY (R498). -/
def execObserveExpiry (s : State) : Out :=
  match s.sec.observeUntil with
  | none => .next s
  | some t => .next { advanceTo t s with sec.observeUntil := none }

end Sys2Proof.Machine
end

