-- ==== Sys2Proof/Machine/Timebase.lean ====
section
/-! DEFINITION. The rows and commands of the timebase (15): PPS, holdover, renewal, steps, PPS_OUT. -/

namespace Sys2Proof.Machine

/-! ### Small quantities -/

/-- Units of 2^-32 s of a count of picoseconds, to the nearest. -/
def psUnits (ps : Int) : Int := roundDiv (ps * 2 ^ 32) 1000000000000

/-- Units of the local scale from one sample count to a later one, under the rate in force (R417). -/
def localSpan (t : Timebase) (a b : Nat) : Int := ((b : Int) - a) * (2 ^ 40 + t.yU) * 2 ^ 32 / (500000000 * 2 ^ 40)

/-- ±110 ppm in units of 2^-40 (R417). -/
def maxRate : Int := 120946279

/-- A rate held within ±110 ppm (R417). -/
def clampRate (y : Int) : Int := if y > maxRate then maxRate else if y < -maxRate then -maxRate else y

/-- The offset of a time to the nearest whole second, in the range -0.5 to +0.5 s (R422). -/
def secondOffset (t : Word) : Int := toSigned 32 (t.toNat % 2 ^ 32)

/-- The whole second nearest to a time. -/
def nearestSecond (t : Word) : Word := t - BitVec.ofInt 64 (secondOffset t)

/-- The reference time of the trunk now (R418): the peer's TIME at t2 plus the delay, and the time since. -/
def trunkTime (s : State) : Word :=
  let l := trunkLane s s.tmb.cfg.trunkLane.toNat
  l.rxTime + BitVec.ofInt 64 (toSigned 32 l.delay.toNat) + (tmbNow s - l.rxAt)

/-! ### A step (R422, R423) -/

/-- Sample periods from the start of a frame to the end of 446 fill bytes after it (R351, R423): 1,568,446 of the
1,568,604 bytes of 125 us, rounded up. -/
def frameAndFill : Nat := ceilDiv (62500 * 1568446) 1568604

/-- The number given to the last frame under the new scale, so that the next frame starts at the first boundary that
leaves 446 fill bytes after the frame in progress (R423). -/
def lastFrameAfterStep (old new : Timebase) (now : Nat) : Option Nat → Option Nat
  | none => none
  | some f => some (frameAfter (timeAt new (max now (sampleOf old (frameTime f) + frameAndFill))).toNat - 1)

/-- The converters that scan end their frame; each resumes at the next frame boundary of the new scale, its chain
restarting there (R423). -/
def rescan (s : State) : State :=
  (List.range 8).foldl (fun s j =>
    let c := converter s j
    let sc := (c.next.map (·.1)).getD c.scan
    if c.next.isNone && c.scan.enables = 0 then s
    else updConverter j (fun c => { c with next := some (sc, scanFrameAfter sc.periodUs (tmbNow s).toNat) }) s) s

/-- Open clusters are discarded and counted, and a dead time keeps its length (R423, R400). -/
def stepGroups (amount : Word) (s : State) : State :=
  { s with sns.groups := tmap (fun _ g => { g with discarded := satAdd g.discarded (openClusters g.pulses.length g), pulses := [],
                                                   deadUntil := tmap (fun _ t => t + amount) g.deadUntil }) s.sns.groups }

/-- The trunk at a step (R423): delays are measured again, an arrival keeps its age. -/
def stepTrunk (amount : Word) (old : Timebase) (s : State) : State :=
  { s with trk.lanes := tmap (fun _ l => { l with delayValid := false, rxAt := l.rxAt + amount }) s.trk.lanes,
           trk.lastFrame := lastFrameAfterStep old s.tmb s.now s.trk.lastFrame }

/-- A step to a new time, now (R422, R423): the log, the event, and the effects on the functions of the device. -/
def doStep (new : Word) (s : State) : State :=
  let q := quality s
  let amount := new - tmbNow s
  let old := s.tmb
  let s := (s.chains.map (·.1)).foldl (fun s c => closeBlocks c s) s
  let s := { s with tmb := { s.tmb with tU := new, nU := s.now, valid := true, fromAon := false, step := none,
                                        slewLeft := 0, offset := 0, stepAmount := amount, stepTime := new,
                                        stepCount := s.tmb.stepCount + 1, stepSeen := true } }
  let s := stepTrunk amount old (stepGroups amount (rescan s))
  let s := { s with obs.tags := s.obs.tags.map (fun t => { t with stepped := true }) }
  noteLock q (traceTime (raiseSys 12 1 0 0 s))

/-! ### PPS (R418) -/

/-- What an accepted edge of the selected PPS does to the time (R418, R419, R422): a pending step takes effect, a
settime in mode 1 steps the seconds, the trunk's seconds prevail over the own count; else the offset is measured. -/
def ppsSelected (s : State) : State :=
  let d := psUnits s.tmb.cfg.ppsDelayPs
  let t := tmbNow s - BitVec.ofInt 64 d
  let second := if s.tmb.trunkQual then nearestSecond (trunkTime s - BitVec.ofInt 64 d) else nearestSecond t
  match s.tmb.seconds with
  | some given =>
    doStep (tmbNow s + (BitVec.ofNat 64 (given * 2 ^ 32) - nearestSecond t)) { s with tmb.seconds := none }
  | none =>
    if (s.tmb.step.map (·.ref)) = some .pps then doStep (second + BitVec.ofInt 64 d) s
    else if second != nearestSecond t then doStep (tmbNow s + (second - nearestSecond t)) s
    else measureOffset .pps (secondOffset t) s

/-- PPS_EDGE (R418): 4 consecutive edges whose intervals lie within 1 s ± 2 us qualify PPS; from then an edge within
±100 us of the last accepted one plus 1 s, or plus 2 s after one miss, is accepted. PPS_IN is ignored outside running
(R421). -/
def execPpsEdge (edge : Nat) (s : State) : Out :=
  let s := advanceTo edge s
  .next (if s.pwr.phase != .running then s
  else
    let span : Int := match s.tmb.ppsLast with
      | some p => localSpan s.tmb p s.now
      | none => 0
    if !s.tmb.ppsQual then
      let good := s.tmb.ppsLast.isSome && decide ((span - 2 ^ 32).natAbs * 1000000 ≤ 2 * 2 ^ 32)
      let run := if good then s.tmb.ppsRun + 1 else 1
      let s := { s with tmb.ppsRun := run, tmb.ppsLast := some s.now }
      if run < 4 then s
      else
        let s := gainRef { s with tmb.ppsQual := true, tmb.ppsSince := s.now }
        if s.tmb.selected = .pps then ppsSelected s else s
    else
      let near := fun (k : Int) => decide ((span - k * 2 ^ 32).natAbs * 10000 ≤ 2 ^ 32)
      if !near 1 && !near 2 then s
      else
        let s := { s with tmb.ppsLast := some s.now }
        if s.tmb.selected = .pps then ppsSelected s else s)

/-- PPS_EDGE_MISSING (R418): no edge within ±100 us at 2 consecutive instants. -/
def execPpsEdgeMissing (s : State) : Out :=
  .next (match s.tmb.ppsLast with
    | none => s
    | some p =>
      if !s.tmb.ppsQual then s
      else
        let s := advanceTo (p + secs 2 + us 100) s
        loseRef .pps { s with tmb.ppsQual := false, tmb.ppsRun := 0, tmb.seconds := none })

/-! ### Renewal, holdover, displacement -/

/-- Settings applied at a renewal (R431): a change of trunk_lane withdraws the trunk qualification, and a ref_order that names a
qualified reference where none is selected selects it (R419). -/
def applyTmbCfg (s : State) : State :=
  match s.tmb.nextCfg with
  | none => s
  | some c =>
    let moved := c.trunkLane != s.tmb.cfg.trunkLane
    let had := s.tmb.trunkQual
    let s := { s with tmb.cfg := c, tmb.nextCfg := none }
    let s := if !moved then s
             else
               let s := { s with tmb.trunkQual := false, tmb.trunkRun := 0, tmb.trunkClear := 0 }
               if had then loseRef .trunk s else s
    gainRef s

/-- The slew of one renewal period: at most 10 us per second, 42 units per millisecond (R422). -/
def slewPart (left : Int) : Int := if left > 42 then 42 else if left < -42 then -42 else left

/-- The frequency correction renewed (R417, R420): the discipline loop of a PPS or trunk reference gives a value the
manual does not state, within ±110 ppm; host and holdover keep theirs. -/
def renewFreq (s : State) : State :=
  if s.tmb.selected = .pps || s.tmb.selected = .trunk then
    match freshNat s with
    | (n, s) => { s with tmb.freq := ((n % (2 * 120946279 + 1) : Nat) : Int) - maxRate }
  else s

/-- TIMEBASE_RENEWAL (R417): at the next sample count that is a multiple of 500,000 the frequency correction and the
slew are renewed, and settings that wait apply. -/
def execTimebaseRenewal (s : State) : Out :=
  .next (if s.pwr.phase != .running then s
  else
    let s := advanceTo ((s.now / Config.msTicks + 1) * Config.msTicks) s
    let q := quality s
    let s := { s with tmb.tU := tmbNow s, tmb.nU := s.now }
    let s := renewFreq (applyTmbCfg s)
    let part := slewPart s.tmb.slewLeft
    let hist := if quality s = 3 && s.now % Config.secTicks = 0 then (s.tmb.freq :: s.tmb.lockedHist).take 64
                else s.tmb.lockedHist
    noteLock q { s with tmb.yU := clampRate (s.tmb.freq + part * 256000), tmb.slewLeft := s.tmb.slewLeft - part,
                        tmb.lockedHist := hist })

/-- HOLDOVER_EXPIRY (R416): holdover lasts beyond holdover_s; the quality follows. -/
def execHoldoverExpiry (s : State) : Out :=
  .next (match s.tmb.holdoverFrom with
    | none => s
    | some t => advanceTo (t + secs s.tmb.cfg.holdoverS + 1) s)

/-- The time since which a reference has stayed qualified (R419). -/
def qualifiedSince (s : State) : Ref → Nat
  | .pps => s.tmb.ppsSince
  | .trunk => s.tmb.trunkSince
  | _ => s.tmb.hostSince

/-- REVERTIVE_DISPLACE (R419): with the revertive flag, a reference earlier in ref_order that has stayed qualified for
10 s displaces the selected one. -/
def execRevertiveDisplace (reference : Nat) (s : State) : Out :=
  let r := refOf reference
  let order := refOrder s.tmb.cfg
  let earlier := (order.takeWhile (· != s.tmb.selected)).contains r && order.contains s.tmb.selected
  .next (if r = .none || !bit s.tmb.cfg.flags.toNat 2 || !refQual s r || !earlier then s
    else selectRef r (advanceTo (qualifiedSince s r + secs 10) s))

/-- TIME_STEP (R422): the instant of a trunk or host step. A PPS step waits for its edge. -/
def execTimeStep (s : State) : Out :=
  .next (match s.tmb.step with
    | some ⟨_, new, some n⟩ => doStep new (advanceTo n s)
    | _ => s)

/-- PPS_OUT_EDGE (R424): the fall after pps_out_width_ms, or the rise at the next whole second unless squelched. -/
def execPpsOutEdge (s : State) : Out :=
  .next (if s.pwr.phase != .running then s
  else if s.tmb.ppsOut then
    emit (.pin "PPS_OUT" 0) { advanceTo s.tmb.ppsFall s with tmb.ppsOut := false }
  else
    let t := (tmbNow s).toNat
    let s := advanceTo (sampleOf s.tmb (ceilDiv t (2 ^ 32) * 2 ^ 32)) s
    if quality s = 0 || (bit s.tmb.cfg.flags.toNat 1 && quality s == 1) then s
    else emit (.pin "PPS_OUT" 1) { s with tmb.ppsOut := true, tmb.ppsFall := s.now + ms s.tmb.cfg.ppsWidthMs })

/-! ### Commands (R430 to R432) -/

/-- The request of timebase.configure (R431). -/
def parseTmbCfg (req : Bytes) : TmbCfg where
  refOrder := BitVec.ofNat 8 (rd req 0 1)
  trunkLane := BitVec.ofNat 3 (rd req 1 1)
  flags := BitVec.ofNat 3 (rd req 2 1)
  holdoverS := rd req 4 4
  ppsDelayPs := rdInt req 8 4
  ppsWidthMs := rd req 12 2

/-- timebase.configure (R431): the settings apply from the next renewal. -/
def timebaseConfigureBody (req : Bytes) (s : State) : State × Reply :=
  let c := parseTmbCfg req
  if rd req 0 1 ≥ 64 || rd req 1 1 ≥ s.part.trunkLanes || rd req 2 1 ≥ 8 || c.holdoverS < 1 || c.holdoverS > 86400
      || c.ppsDelayPs.natAbs > 1000000 || c.ppsWidthMs < 1 || c.ppsWidthMs > 500 then answer St.badParam s
  else answer St.ok { s with tmb.nextCfg := some c }

def execTimebaseConfigure (c : Caller) (req : Bytes) (s : State) : Out :=
  .next (runCmd ⟨0x0D01, shaped req 16 [(3, 1), (14, 2)], true, []⟩ c req (timebaseConfigureBody req) s)

/-- Whether a step waits for its instant (R430). -/
def stepWaits (s : State) : Bool := s.tmb.step.isSome || s.tmb.seconds.isSome

/-- The response of timebase.settime (R432). -/
def settimeResp (st : Status) (action : Nat) (effective : Word) : Bytes :=
  leBytes 2 st.toNat ++ leBytes 1 action ++ zeros 5 ++ leBytes 8 effective.toNat

/-- timebase.settime in mode 0 (R432, R418, R422): the host reference is present, and its offset is corrected. -/
def settimeFullBody (req : Bytes) (s : State) : State × Reply :=
  if stepWaits s then (s, .done St.stepPending (settimeResp St.stepPending 0 0))
  else if s.tmb.selected = .pps || s.tmb.selected = .trunk then (s, .done St.timeLocked (settimeResp St.timeLocked 0 0))
  else
    let given := BitVec.ofNat 64 (rd req 8 8)
    let offset := (tmbNow s - given).toInt
    let s := gainRef { s with tmb.hostSince := if s.tmb.hostSet then s.tmb.hostSince else s.now, tmb.hostSet := true,
                              tmb.offset := offset }
    if mustStep s offset then
      let s := scheduleStep .host offset s
      (s, .done St.pending (settimeResp St.pending 1 ((s.tmb.step.map (·.newTime)).getD 0)))
    else
      let start := timeAt s.tmb ((s.now / Config.msTicks + 1) * Config.msTicks)
      (scheduleSlew offset s, .done St.ok (settimeResp St.ok 0 start))

def execTimebaseSettimeFull (c : Caller) (req : Bytes) (s : State) : Out :=
  .next (runCmd ⟨0x0D02, shaped req 16 [(1, 7)] && rd req 0 1 == 0, true, []⟩ c req (settimeFullBody req) s)

/-- timebase.settime in mode 1 (R432, R422): the seconds field steps at the next PPS edge. -/
def settimeSecondsBody (req : Bytes) (s : State) : State × Reply :=
  if rd req 8 4 != 0 then answer St.badParam s
  else if stepWaits s then (s, .done St.stepPending (settimeResp St.stepPending 0 0))
  else if s.tmb.selected != .pps then (s, .done St.noPps (settimeResp St.noPps 0 0))
  else
    ({ s with tmb.seconds := some (rd req 12 4) },
      .done St.pending (settimeResp St.pending 1 (BitVec.ofNat 64 (rd req 12 4 * 2 ^ 32))))

def execTimebaseSettimeSeconds (c : Caller) (req : Bytes) (s : State) : Out :=
  .next (runCmd ⟨0x0D02, shaped req 16 [(1, 7)] && rd req 0 1 == 1, true, []⟩ c req (settimeSecondsBody req) s)

end Sys2Proof.Machine
end

