-- ==== Sys2Proof/Machine/Pace.lean ====
section
/-! DEFINITION. Pace monitors, the adaptive-voltage loop and derating (02 R48 to R56), and the commands power.setcap and
profile.set (16 R454 to R456). -/

namespace Sys2Proof.Machine

def tile (s : State) (n : Nat) : Pace := tget {} s.pwr.tiles n

/-- The tiles of the part (R48). -/
def tilesOf (s : State) : List Nat := (List.range 20).filter s.part.hasTile

/-- A tile's slack, signed (R48). -/
def slackOf (s : State) (n : Nat) : Int := (tile s n).slack.toInt

/-- The tile with the least slack of a list of tiles whose monitor is valid (R49, R50). -/
def leastTile (s : State) (ts : List Nat) : Option Nat :=
  (ts.filter (fun n => (tile s n).valid)).foldl (fun (b : Option Nat) n => match b with
    | none => some n
    | some m => if slackOf s n < slackOf s m then some n else some m) none

/-- PACE_MONITOR_UPDATE (R48): FIFO_PEAK holds the highest since the last read; it reads zero for the shared tiles. -/
def execPaceMonitorUpdate (tile_ pace : Nat) (slack : Int) (demand fifoPeak : Nat) (s : State) : Out :=
  if !s.part.hasTile tile_ then .fault .absentResource
  else if s.pwr.phase != .running then .next s
  else
    let t := tile s tile_
    let peak := if tile_ < 16 then max t.fifoPeak.toNat (fifoPeak % 256) else 0
    let t : Pace := { pace := BitVec.ofNat 16 pace, slack := BitVec.ofInt 16 slack, demand := BitVec.ofNat 16 demand,
                      fifoPeak := BitVec.ofNat 8 peak, short := t.short || decide (slack < 0), valid := true }
    let s := match s.pwr.negSince with
      | some since => count 0x0012 {} (s.now - since) s
      | none => s
    let calibrated := (tilesOf s).all (fun n => (tile s n).valid)
    let s := { s with pwr.tiles := tset s.pwr.tiles tile_ t }
    let s := if !calibrated && (tilesOf s).all (fun n => (tile s n).valid) then { s with pwr.avs.commandAt := s.now } else s
    let negative := s.pwr.tiles.any (fun e => decide (e.1 < 16) && decide (e.2.slack.toInt < 0))
    .next { s with pwr.negSince := if negative then some s.now else none }

/-! ### Derating (R34, R56) -/

/-- The protected share of a lane tile's eight ports in Gbit/s over all its lanes (R46): 26 a lane, 25 with the taps
halved, which a Sense-priority port never has. -/
def protectedShare (s : State) (tile_ : Nat) (halved : Bool) : Nat :=
  ((List.range 8).map (fun i =>
    if halved && (port s (8 * tile_ + i)).line.profile != .sense then 4 * 25 else 4 * 26)).sum

/-- The factor f of R34 in 1/1024, from a lane tile's PACE (R56): 50 Gbit/s a lane is a pace of 1024, 24 the variable
share. DESIGN CHOICE (log 147): the spec does not say how f is rounded to 1/1024; the quotient is rounded down. -/
def paceFactor (s : State) (tile_ : Nat) (halved : Bool) : Nat :=
  let have_ := (tile s tile_).pace.toNat * 50 * 32
  let prot := protectedShare s tile_ halved * 1024
  min 1024 ((have_ - prot) / (24 * 32))

/-- The device factor takes a value (R56): a lower one applies to every port at once. -/
def setFactor (f : Nat) (s : State) : State :=
  let v := BitVec.ofNat 16 f
  let s := { s with pwr.avs.fPlc := v }
  { s with ports := tmap (fun _ x => { x with line.factor := if v.toNat < x.line.factor.toNat then v else x.line.factor }) s.ports }

/-- Step 1 of R34 goes in force or ends, with its event. -/
def setHalved (on : Bool) (s : State) : State :=
  if s.pwr.avs.tapsHalved = on then s
  else raiseSys 3 (if on then 1 else 2) 0 0 { s with pwr.avs.tapsHalved := on }

/-- Derating recomputed (R34, R54, R56): it applies while the least-slack lane tile falls short of full throughput and
the voltage cannot rise (the request stands at the cap, or the regulator is at fault), after an emergency, and then
until the pace suffices again. -/
def derate (emergency : Bool) (s : State) : State :=
  match leastTile s ((tilesOf s).filter (fun n => decide (n < 16))) with
  | none => s
  | some n =>
    let a := s.pwr.avs
    let enough := decide ((tile s n).pace.toNat ≥ 1024)
    let bound := emergency || a.fault || a.vReq.toNat ≥ min a.vCap 900 || a.tapsHalved
    if enough || !bound then setFactor 1024 (setHalved false s)
    else setFactor (paceFactor s n true) (setHalved true s)

/-! ### The loop (R51 to R54) -/

/-- A voltage request goes out (R50), and its check is due 200 us later (R54), after those of the requests before it. -/
def requestVolts (mv : Nat) (s : State) : State :=
  emit (.avs mv) { s with pwr.avs.vReq := BitVec.ofNat 16 mv, pwr.avs.commandAt := s.now,
                          pwr.avs.checks := s.pwr.avs.checks ++ [s.now + us 200] }

/-- What LIMIT_TILE tells (R50). DESIGN CHOICE (log 148): the spec does not say when it is renewed; it is at the loop's start
and at each 100 us period, not at the 10 us updates of the monitors. -/
def noteLimit (s : State) : State :=
  { s with pwr.avs.limitTile := BitVec.ofNat 5 ((leastTile s (tilesOf s)).getD 0) }

/-- An AVS fault (R54): with V_MEAS_MV below 600 the active device of a pair fails (R545). -/
def checkAvsFailing (s : State) : State :=
  if s.pwr.avs.fault && decide (s.pwr.avs.vMeas.toNat < 600) then roleFailing s else s

def avsFault (s : State) : State := checkAvsFailing (raiseSys 2 1 0 0 { s with pwr.avs.fault := true })

/-- AVS_LOOP_START (R52). -/
def execAvsLoopStart (vMeas : Nat) (s : State) : Out :=
  .next (if s.pwr.phase != .running || s.pwr.avs.started || !(tilesOf s).all (fun n => (tile s n).valid) then s
  else
    let v := min (ceilDiv vMeas 5 * 5) s.pwr.avs.vCap
    noteLimit (requestVolts v { s with pwr.avs.started := true, pwr.avs.periodAt := s.now,
                                       pwr.avs.commandAt := s.now, pwr.avs.vMeas := BitVec.ofNat 16 vMeas,
                                       pwr.avs.calm := 0 }))

/-- The next request of the loop (R52 to R54): none while it stays as it is. -/
def nextVolts (a : Avs) (sMin : Int) : Nat :=
  let v := a.vReq.toNat
  let want := if v > a.vCap then a.vCap
    else if sMin < 41 then min (v + 10) (min a.vCap 900)
    else if a.calm ≥ 10 then max (v - 5) 600
    else v
  if a.fault && decide (want < v) then v else want

/-- AVS_LOOP_PERIOD (R52, R53, R56). -/
def execAvsLoopPeriod (vMeas : Nat) (s : State) : Out :=
  .next (if s.pwr.phase != .running || !s.pwr.avs.started then s
  else
    match leastTile s (tilesOf s) with
    | none => s
    | some n =>
      let s := advanceTo (s.pwr.avs.periodAt + us 100) s
      let sMin := slackOf s n
      let s := { s with pwr.avs.periodAt := s.now, pwr.avs.commandAt := s.now, pwr.avs.vMeas := BitVec.ofNat 16 vMeas,
                        pwr.avs.calm := if sMin > 82 then s.pwr.avs.calm + 1 else 0 }
      let v := nextVolts s.pwr.avs sMin
      let s := if v = s.pwr.avs.vReq.toNat then s else requestVolts v s
      derate false (noteLimit (checkAvsFailing s)))

/-- AVS_RESPONSE_TIMEOUT (R54): 50 us after an AVSBus command, the read of R52 at the loop's start and an emergency request
ahead of it (R55) among them. The checks of the requests already sent stay due. -/
def execAvsResponseTimeout (s : State) : Out :=
  .next (if s.pwr.phase != .running
            || !(s.pwr.avs.started || !s.pwr.avs.checks.isEmpty || (tilesOf s).all (fun n => (tile s n).valid)) then s
  else avsFault (advanceTo (s.pwr.avs.commandAt + us 50) s))

/-- AVS_SETTLE_CHECK (R54): 200 us after the oldest request not yet checked, V_MEAS_MV against V_REQ_MV. -/
def execAvsSettleCheck (vMeas : Nat) (s : State) : Out :=
  .next (if s.pwr.phase != .running then s
  else
    match s.pwr.avs.checks with
    | [] => s
    | due :: later =>
      let s := advanceTo due s
      let s := { s with pwr.avs.checks := later, pwr.avs.vMeas := BitVec.ofNat 16 vMeas }
      if ((vMeas : Int) - s.pwr.avs.vReq.toNat).natAbs > 15 then avsFault s else s)

/-- AVS_FAULT_CLEAR (R54): the write of 1 to AVS_FAULT. -/
def execAvsFaultClear (s : State) : Out := .next (if pageOpen s 0 then { s with pwr.avs.fault := false } else s)

/-- TX_FIFO_LOW_WATER (R55): during a transmission, the emergency request and the derating. DESIGN CHOICE (log 149): before the
loop has started the spec names no present request; the request goes out all the same, above a present request of zero, and
V_REQ_MV shows it. -/
def execTxFifoLowWater (lane : Nat) (s : State) : Out :=
  if lane ≥ s.part.lanes then .fault .absentResource
  else .next (if (port s (lane / 4)).mac.tx.isNone then s
  else
    let v := min s.pwr.avs.vCap 800
    let s := if v > s.pwr.avs.vReq.toNat then requestVolts v s else s
    derate true (raiseSys 1 1 0 0 { s with pwr.avs.emergency := true }))

/-- CORE_UNDERVOLTAGE (R545): VDD_CORE below 0.58 V for 200 ns; the duration is in ns. -/
def execCoreUndervoltage (dur : Nat) (s : State) : Out :=
  .next (if dur < 200 then s else roleFailing s)

/-! ### Commands -/

/-- power.setcap (R456). -/
def powerSetcapBody (req : Bytes) (s : State) : State × Reply :=
  let v := rd req 0 2
  if v < 600 || v > 900 || v % 5 != 0 then answer St.badParam s
  else
    ({ s with pwr.avs.vCap := v }, .done St.ok (leBytes 2 St.ok.toNat ++ leBytes 2 s.pwr.avs.vReq.toNat ++ zeros 4))

def execPowerSetcap (c : Caller) (req : Bytes) (s : State) : Out :=
  .next (runCmd ⟨0x0E04, shaped req 8 [(2, 6)], true, []⟩ c req (powerSetcapBody req) s)

/-- The profile of a request (R454). -/
def profileOf (kind param : Nat) : Option Profile :=
  if kind = 0 && param = 0 then some .fullBand
  else if kind = 1 && param ≤ 1 then some (.longReach (param == 1))
  else if kind = 2 && param = 0 then some .sense
  else if kind = 3 && 1 ≤ param && param ≤ 8 then some (.powerCap param)
  else none

/-- Whether a port holds a queued frame that a Long-reach profile would not take (R455, R211). -/
def tooLongFor (s : State) (p : Nat) (x8 : Bool) : Bool :=
  s.lbf.flights.any (fun e => e.2.port == p && decide (e.2.len > (if x8 then 1024 else 2048)))

/-- profile.set (R454, R455). -/
def profileSetBody (c : Caller) (req : Bytes) (s : State) : State × Reply :=
  let p := rd req 0 2
  match profileOf (rd req 2 1) (rd req 3 1) with
  | none => answer St.badParam s
  | some f =>
    if p ≥ s.part.ports then answer St.badParam s
    else if c.pod != 0 && portOwner s p != c.pod then answer St.denied s
    else if (port s p).line.nextProfile.isSome && isOpen s p then answer St.configPending s
    else if (match f with | .longReach x8 => tooLongFor s p x8 | _ => false) then answer St.portState s
    else if isOpen s p then answer St.pending (updLine p (fun l => { l with nextProfile := some f }) s)
    else answer St.ok (updLine p (fun l => { l with profile := f, nextProfile := none }) s)

def execProfileSet (c : Caller) (req : Bytes) (s : State) : Out :=
  .next (runCmd ⟨0x0E03, shaped req 8 [(4, 4)], false, [.port (rd req 0 2)]⟩ c req (profileSetBody c req) s)

end Sys2Proof.Machine
end

