-- ==== Sys2Proof/Machine/Power.lean ====
section
/-! DEFINITION. Device reset and start-up (20 R525 to R533, 18 R486 to R490), standby and the Chive link (20 R534 to R541). -/

namespace Sys2Proof.Machine

/-! ### The reset phase (R528 to R532) -/

/-- What every device reset leaves (R530): the always-on domain, MRAM, fuses and flash; everything else takes its reset value.
The time goes on by the always-on counter (R421). -/
def afterReset (s : State) : State :=
  { State.reset with
    part := s.part, pending := s.pending, now := s.now, free := s.free, out := s.out, mram := s.mram
    pwr := { resetCount := s.pwr.resetCount, cause := s.pwr.cause, brownoutRail := s.pwr.brownoutRail,
             pcieResetSeen := s.pwr.pcieResetSeen, brownoutSeen := s.pwr.brownoutSeen, resetSeen := s.pwr.resetSeen,
             standbyCount := s.pwr.standbyCount, wakeCause := s.pwr.wakeCause, wakePort := s.pwr.wakePort,
             wakeEp := s.pwr.wakeEp, setValid := s.pwr.setValid, restored := s.pwr.restored,
             restoreFail := s.pwr.restoreFail, wakeSeen := s.pwr.wakeSeen, capAtEntry := s.pwr.capAtEntry,
             waking := s.pwr.waking, wakeN := s.pwr.wakeN, causeEnd := s.pwr.causeEnd }
    syn := { ownerHi := if s.part.ports > 64 then 2 else 0 }
    sec := { lifecycle := s.sec.lifecycle, revoked := s.sec.revoked, minSecver := s.sec.minSecver, tap := s.sec.tap, kwk := s.sec.kwk,
             tamper := s.sec.tamper, tamperSeen := s.sec.tamperSeen, active := s.sec.active, cfg := s.sec.cfg,
             logSource := s.sec.logSource, logState := s.sec.logState, logKeyOp := s.sec.logKeyOp, alarms := s.sec.alarms,
             tamperTime := s.sec.tamperTime, alarmDue := s.sec.alarmDue, loopRun := s.sec.loopRun }
    cph := { usedIds := s.cph.usedIds }
    mgmt := { slot0 := s.mgmt.slot0, slot1 := s.mgmt.slot1, nextSlot := s.mgmt.nextSlot, selector := s.mgmt.selector }
    tmb := { tU := tmbNow s, nU := s.now, valid := s.tmb.valid, fromAon := s.tmb.valid, aonAt := s.now } }

/-- The heartbeat of a pair stops, its ball low (R529, R544). -/
def stopHeartbeat (s : State) : State := if pairUp s then emit (.pin "PAIR_HB_OUT" 0) s else s

/-- The balls at reset and in standby (R529, R72, R421): every TXEN released, PPS_OUT and PAIR_HB_OUT low. -/
def pinsDown (s : State) : State :=
  let s := stopHeartbeat s
  let s := (s.ports.filter (fun e => e.2.line.txen != .released)).foldl (fun s e => emit (.txen e.1 .released) s) s
  if s.tmb.ppsOut then emit (.pin "PPS_OUT" 0) s else s

/-- DDRc_RESET_N of every channel at a level. -/
def ddrResets (level : Nat) (s : State) : State :=
  (List.range s.part.ddrChannels).foldl (fun s c =>
    emit (.pin (["DDR0_RESET_N", "DDR1_RESET_N", "DDR2_RESET_N", "DDR3_RESET_N"].getD c "") level) s) s

/-- The balls of the reset phase (R529): those of `pinsDown`, the trace-out port and every DDRc_RESET_N, low. -/
def resetBalls (s : State) : State := ddrResets 0 (emit (.pin "TRACE_STB" 0) (emit (.pin "TRACE_D" 0) (pinsDown s)))

/-- A standby set and what waits on it are discarded (R537, R539). -/
def dropStandby (s : State) : State :=
  { s with mram.standby := none, pwr.setValid := false, pwr.waking := false }

/-- A device reset begins, or a further cause prolongs the reset phase (R529). A reset that is no wake discards the standby set. -/
def beginReset (cause ends : Nat) (s : State) : State :=
  if s.pwr.phase = .resetPhase then { s with pwr.causeEnd := max s.pwr.causeEnd ends }
  else
    let s := afterReset (resetBalls s)
    let s := { s with pwr.phase := .resetPhase, pwr.causeEnd := ends, pwr.cause := BitVec.ofNat 4 cause,
                      pwr.resetCount := s.pwr.resetCount + 1, pwr.resetSeen := true }
    if cause = 6 then s else dropStandby s

/-- POWER_ON (R528, R415, R490, R501, R532, R540): the always-on domain takes its reset values; MRAM, fuses and flash hold. dur is the
time in ns until every rail is in range. -/
def execPowerOn (dur : Nat) (s : State) : Out :=
  let t := afterReset (resetBalls s)
  .next { t with pwr := { causeEnd := s.now + nsTicks dur }, mram.standby := none,
                 sec := { lifecycle := s.sec.lifecycle, revoked := s.sec.revoked, minSecver := s.sec.minSecver, tap := s.sec.tap },
                 tmb := { nU := s.now, aonAt := s.now } }

/-- SYS_RESET_N_LOW (R528): the ball is low for dur ns; 1 us qualifies. -/
def execSysResetNLow (dur : Nat) (s : State) : Out :=
  .next (if dur < 1000 then s
    else let ends := s.now + nsTicks dur
         beginReset 2 ends (advanceTo (s.now + us 1) s))

/-- BROWN_OUT (R527, R532): the rails, coded as BROWNOUT_RAIL, stay low for dur ns; 1 us qualifies. -/
def execBrownOut (rails dur : Nat) (s : State) : Out :=
  .next (if dur < 1000 || rails % 16 = 0 then s
    else let ends := s.now + nsTicks dur
         let s := beginReset 3 ends (advanceTo (s.now + us 1) s)
         { s with pwr.brownoutRail := BitVec.ofNat 4 rails, pwr.brownoutSeen := true })

/-- PF0_FUNCTION_LEVEL_RESET (R463, R528). -/
def execPf0FunctionLevelReset (s : State) : Out :=
  .next (if s.pwr.phase != .running || !s.host.linkUp then s else beginReset 4 s.now s)

/-! ### Start-up (R531, R486 to R490, R493) -/

/-- The replay of R493: of the writes that wait, at most the two in the journal's slots can carry a valid mark; how many do is a
free value. The standby set is many writes: it never counts as written. -/
def replay (s : State) : State :=
  let ws := s.mram.journal.filter (fun w => match w.target with | .standby _ => false | _ => true)
  match freshNat s with
  | (v, s) => ((ws.take (v % 3)).map (·.target)).foldl (fun s t => applyTarget t s) { s with mram.journal := [] }

/-- The selector copy in force, 0 for A and 1 for B, with its sequence number and slot (R486): the valid one with the newer number. -/
def selectorOf (a b : Option (Nat × Nat)) : Option (Nat × Nat × Nat) :=
  match a, b with
  | some (sa, x), some (sb, y) => if serialNewer 32 sb sa then some (1, sb, y) else some (0, sa, x)
  | some (sa, x), none => some (0, sa, x)
  | none, some (sb, y) => some (1, sb, y)
  | none, none => none

/-- The slot that the selector copies choose (R486). -/
def selectedSlot (a b : Option (Nat × Nat)) : Nat := ((selectorOf a b).map (·.2.2)).getD 0

/-- The checks of an image (R488 step 3). -/
def imageOk (s : State) (v : ImageView) : Bool :=
  v.magicOk && decide (256 ≤ v.length) && decide (v.length ≤ 2097152) && decide (v.keyIndex < 4)
    && !bit s.sec.revoked.toNat v.keyIndex && decide (v.secver ≥ s.sec.minSecver) && v.sigOk

/-- The image of a slot, when it can be booted: an update of it must not stand unfinished (R460). -/
def bootable (s : State) (boot : BootView) (slot : Nat) : Option ImageView :=
  let img := if slot = 0 then boot.img0 else boot.img1
  let torn := if slot = 0 then s.mgmt.slot0.torn else s.mgmt.slot1.torn
  img.filter (fun v => !torn && imageOk s v)

/-- The image that boots and its slot (R488): the selected one, else the other. -/
def bootChoice (s : State) (boot : BootView) : Option (ImageView × Nat) :=
  let first := selectedSlot boot.selA boot.selB % 2
  match bootable s boot first, bootable s boot (1 - first) with
  | some v, _ => some (v, first)
  | none, some v => some (v, 1 - first)
  | none, none => none

/-- Whether a record's generations are those in force (R491). -/
def genCurrent (s : State) (index : Nat) (r : KeyRec) : Bool :=
  r.storeGen == s.mram.storeGen && r.pageGen == tget 0 s.mram.pageGens (index / 64)

/-- The key-store fault of a restore (R490, R302). -/
def storeFault (s : State) : State := raiseSys 16 1 0 0 s

/-- One record is restored, or erased (R490): silently when its generation is past, with the fault when it fails its check. -/
def restoreRecord (bad : List Nat) (index : Nat) (r : KeyRec) (s : State) : State :=
  let erase := fun (s : State) => { s with mram.records := tdel s.mram.records index }
  if !genCurrent s index r then erase s
  else if bad.contains index || s.sec.kwk != some r.kwk then storeFault { erase s with sec.restoreFailSeen := true }
  else setSlot (index / 64) (index % 64) (some r.key) s

/-- The key-load step (R490, R496): none while the tamper latch is set; a missing key-wrapping key is made where the lifecycle has
one, and records it no longer opens are erased. -/
def restoreKeys (bad : List Nat) (s : State) : State :=
  if s.sec.tamper || !kwkState s then s
  else
    let valid := s.mram.records.any (fun e => genCurrent s e.1 e.2)
    let s := if s.sec.kwk.isSome then s
             else newKwk (if valid then { s with sec.kwkLost := true, mram.records := [] } else s)
    let s := s.mram.records.foldl (fun s e => restoreRecord bad e.1 e.2 s) s
    { s with sec.keysRestored := true }

/-- Nonce counters resume at their ceilings, or their page issues none (R302). -/
def restoreNonces (bad : List Nat) (s : State) : State :=
  let page := fun (p : Nat) =>
    (p, ({ counter := tget 0 s.mram.ceilings p, failed := bad.contains p } : PageNonce))
  let s := { s with cph.pages := (List.range 65).map page }
  if bad.any (fun p => decide (p ≤ 64)) then storeFault s else s

/-- Linearisation sets load from MRAM; one that fails its check does not map (R398). -/
def restoreLins (bad : List Nat) (s : State) : State :=
  let s := s.mram.lins.foldl (fun s e => updInput e.1 (fun i => { i with lin := e.2 }) s) s
  bad.foldl (fun s n => updInput n (fun i => { i with lin := { i.lin with sound := false } }) s) s

/-- The time of the always-on counter (R421): within one tick of the reference plus 50 ppm of what passed, a free value. -/
def loadTime (s : State) : State :=
  let tick := if s.syn.ref25m then 171 else 429
  let bound := tick + ((s.now - s.tmb.aonAt) * 2 ^ 32 / 500000000) / 20000
  match freshNat s with
  | (v, s) =>
    { s with tmb.tU := tmbNow s + BitVec.ofInt 64 (((v % (2 * bound + 1) : Nat) : Int) - bound), tmb.nU := s.now }

/-- The entropy source's start-up tests (R320, R321). -/
def startEntropy (pass : Bool) (s : State) : State :=
  if pass then { s with cph.entropy.healthy := true, cph.entropy.passed := true } else entropyFails s

/-- What fw.info will tell of the slots (R461). -/
def noteFlash (boot : BootView) (s : State) : State :=
  let version := fun (k : Nat) => (bootable s boot k).map (fun v => BitVec.ofNat 16 v.version)
  { s with mgmt.slot0 := { s.mgmt.slot0 with version := version 0 }, mgmt.slot1 := { s.mgmt.slot1 with version := version 1 },
           mgmt.nextSlot := selectedSlot boot.selA boot.selB % 2,
           mgmt.selector := (selectorOf boot.selA boot.selB).map (fun x => (x.1, x.2.1)) }

/-- The boot ROM and the firmware's start (R488, R490, R496): with no sound image the device halts unbooted. -/
def bootFirmware (boot : BootView) (s : State) : State :=
  match bootChoice s boot with
  | none => { s with mgmt.fwState := .halted }
  | some (v, slot) =>
    let s := { s with sec.bootOk := true, sec.bootSlot := slot, sec.runSecver := v.secver, sec.runKey := v.keyIndex,
                      sec.bootFallback := slot != s.mgmt.nextSlot, mgmt.jumped := true, mgmt.runningSlot := slot,
                      mgmt.stateFormat := BitVec.ofNat 16 v.stateFormat }
    let s := restoreLins boot.badLins (restoreNonces boot.badCeilings (restoreKeys boot.badRecords s))
    let s := if s.sec.alarmDue then raiseSys 17 1 0 0 { s with sec.alarmDue := false } else s
    { s with mgmt.fwState := .running, mgmt.ready := true, mgmt.fwVersion := BitVec.ofNat 16 v.version }

/-- At a wake the first block of every sensor chain carries GAP (R383); how many samples it lost is free: the spec states no count
for a standby. -/
def wakeGaps (s : State) : State :=
  (List.range 40).foldl (fun s i => chainGap (512 + i) (freshNat s).1 (freshNat s).2) s

/-- RESET_RELEASE (R529, R531): 1,000 us after the last cause ended; start-up runs to READY or to its halt. refclk25 is the
REFCLK_SEL strap. The DDR channels leave their reset to be trained (log 174). -/
def execResetRelease (refclk25 : Bool) (boot : BootView) (s : State) : Out :=
  .next (if s.pwr.phase != .resetPhase then s
  else
    let s := advanceTo (s.pwr.causeEnd + us 1000) s
    let s := replay { s with pwr.phase := .running }
    let s := { s with sec.cfg := s.mram.tamper, sec.loopRun := [], syn.ref25m := refclk25, syn.aLock := true, syn.bLock := true,
                      syn.aGoodSince := s.now, syn.bGoodSince := s.now }
    let s := ddrResets 1 (if s.pwr.waking then wakeGaps s else s)
    bootFirmware boot (noteFlash boot (startEntropy boot.entropyPass (loadTime s))))

/-! ### sys.reset (R541, R545) -/

/-- sys.reset: the record is written, and the reset phase starts 100 us later; on the active device of a pair role failing goes out
first, and the reset comes with the second frame after its first. -/
def sysResetBody (c : Caller) (s : State) : State × Reply :=
  if s.trk.pair.role = .active then
    answer St.ok { roleFailing s with pwr.sysResetFrame := some (frameAfter ((tmbNow s).toNat + 1) + 2) }
  else
    let s := advanceTo (s.now + us 100) (completeStatus c St.ok s)
    (beginReset 5 s.now s, .untaken)

def execSysReset (c : Caller) (req : Bytes) (s : State) : Out :=
  .next (runCmd ⟨0x1203, shaped req 8 [(0, 8)], true, []⟩ c req (sysResetBody c) s)

/-! ### Standby (R534 to R541) -/

/-- A wake source that pwr.standby or chive.configure enables (R537, R541). -/
def anyWake (s : State) (flags : Nat) : Bool := bit flags 1 || bit flags 2 || s.pwr.chive.any (fun e => e.2)

/-- pwr.standby (R534, R541): frames in flight forbid it without discard; with discard every open port closes as port.close with
discard; the standby set is written when that and the commands taken are done. -/
def pwrStandbyBody (c : Caller) (req : Bytes) (s : State) : State × Reply :=
  let flags := rd req 0 1
  let wakeAt := rd req 8 8
  let past := bit flags 2 && !serialNewer 64 wakeAt (tmbNow s).toNat
  if flags > 7 || rd req 1 1 > 3 || rd req 2 1 < 1 || rd req 2 1 > 4 || past then answer St.badParam s
  else if isPaired s then answer St.pairRole s
  else if !anyWake s flags then answer St.noWakeSource s
  else if !bit flags 0 && !s.lbf.flights.isEmpty then answer St.portState s
  else
    let open_ := (s.ports.map (·.1)).filter (isOpen s)
    let s := { s with pwr.order := some { lane := c.lane, flags := flags, wakeClass := rd req 1 1, chiveEvery := rd req 2 1,
                                          wakeAt := wakeAt } }
    let close := fun (s : State) (p : Nat) =>
      if (port s p).line.closing.isSome then s
      else closeWhenIdle p (updLine p (fun l => { l with closing := some { c with gone := true } }) (discardPort p St.discarded s))
    let s := if bit flags 0 then open_.foldl close s else s
    persist (.standby open_) c (statusResp St.ok) s

def execPwrStandby (c : Caller) (req : Bytes) (s : State) : Out :=
  .next (runCmd ⟨0x1201, shaped req 16 [(3, 5)], true, []⟩ c req (pwrStandbyBody c req) s)

/-- chive.configure (R541). -/
def chiveConfigureBody (req : Bytes) (s : State) : State × Reply :=
  let p := rd req 0 2
  let flags := rd req 2 1
  if p ≥ s.part.ports || flags > 3 then answer St.badParam s
  else if !bit flags 0 then answer St.ok { s with pwr.chive := tdel s.pwr.chive p }
  else if !thas s.pwr.chive p && decide (s.pwr.chive.length ≥ 16) then answer St.badParam s
  else answer St.ok { s with pwr.chive := tset s.pwr.chive p (bit flags 1) }

def execChiveConfigure (c : Caller) (req : Bytes) (s : State) : Out :=
  .next (runCmd ⟨0x1202, shaped req 8 [(3, 5)], true, [.port (rd req 0 2)]⟩ c req (chiveConfigureBody req) s)

/-- The wake sequence (R538): the cause is told, every TXEN is released, PCIE_WAKE_N goes low, the core voltage is raised, and a
device reset with cause 6 begins. -/
def wake (cause port_ ep : Nat) (s : State) : State :=
  let s := emit (.avs (min 800 s.pwr.capAtEntry)) (emit (.pin "PCIE_WAKE_N" 0) s)
  beginReset 6 s.now
    { s with pwr.wakeCause := BitVec.ofNat 4 cause, pwr.wakePort := BitVec.ofNat 7 port_, pwr.wakeEp := BitVec.ofNat 14 ep,
             pwr.wakeSeen := true, pwr.restored := false, pwr.waking := true, pwr.wakeN := some s.now }

/-- A wake source qualifies (R537, R539): it acts in standby; between the record and the entry it waits for the entry. -/
def wakeSource (cause port_ ep : Nat) (s : State) : State :=
  match s.pwr.order with
  | none => s
  | some o =>
    if s.pwr.phase = .standby then wake cause port_ ep s
    else if s.pwr.phase = .running && o.recordAt.isSome && o.wake.isNone then
      { s with pwr.order := some { o with wake := some (cause, port_, ep) } }
    else s

/-- A Chive port in standby (R535): the beacon schedule, the settings it uses, single-phase, nothing in progress. -/
def chivePort (s : State) (p : Nat) : Port :=
  let x := port s p
  let k := keepPort x
  { k with mac := { k.mac with beaconAt := if x.line.mode = .closed && x.mac.beaconAt = 0 then s.now else x.mac.beaconAt },
           line := { k.line with plcLanes := 9 } }

/-- STANDBY_ENTRY (R534): 1 ms after the record everything but the always-on domain and the Chive island stops. -/
def execStandbyEntry (s : State) : Out :=
  .next (match s.pwr.order with
    | none => s
    | some o =>
      match o.recordAt with
      | none => s
      | some t =>
        if s.pwr.phase != .running then s
        else
          let s := advanceTo (t + ms 1) s
          let chive := s.pwr.chive
          let island := chive.map (fun e => (e.1, chivePort s e.1))
          let eps := s.eps.filter (fun e => thas chive e.2.port)
          let cap := s.pwr.avs.vCap
          let syn := s.syn
          let s := afterReset (pinsDown s)
          let s := { s with pwr.phase := .standby, pwr.order := some o, pwr.chive := chive, pwr.capAtEntry := cap,
                            pwr.standbyCount := s.pwr.standbyCount + 1, ports := island, eps := eps, syn := syn }
          let s := emit (.avs (min 650 cap)) s
          match o.wake with
          | some (cause, p, e) => wake cause p e s
          | none => s)

/-- The number of beacon periods to the next Chive beacon (R535): its beacon_seq is a multiple of chive_every. -/
def chiveSteps (s : State) (x : Port) (every : Nat) : Nat :=
  let j := max 1 (ceilDiv (s.now - x.mac.beaconAt) 20000000)
  j + (every - (x.mac.beaconSeq.toNat + j) % every) % every

/-- CHIVE_BEACON (R535): the next Chive beacon of a Chive port goes out; the beacons before it are omitted. -/
def execChiveBeacon (port_ : Nat) (s : State) : Out :=
  if port_ ≥ s.part.ports then .fault .absentResource
  else
    match s.pwr.order with
    | none => .next s
    | some o =>
      if s.pwr.phase != .standby || !thas s.pwr.chive port_ || allStopped s then .next s
      else
        let x := port s port_
        let j := chiveSteps s x o.chiveEvery
        let start := x.mac.beaconAt + 20000000 * j
        let s := advanceTo start s
        let s := updMac port_ (fun m => { m with beaconAt := start, beaconSeq := m.beaconSeq + BitVec.ofNat 16 j }) s
        let x := port s port_
        let as_ : Port := { x with line := { x.line with mode := .single, profile := .longReach true },
                                   mains := { x.mains with state := .cycleFree } }
        let fm := leekFmt as_ 8
        let body := beaconBody { s with ports := tset s.ports port_ as_ } port_ start 20000000 true
        let fc : Fc := { fcBody fm body.length with kind := 2, cls := 3, tx := devAddr, rx := allAddr }
        let w : Wave := { waveOf as_ fm fc body 0 with chive := true, lanes := 9 }
        .next (emit (.txen port_ .released) (emit (.line port_ start w) (emit (.txen port_ .high) s)))

/-- WAKE_FRAME (R536): a Leek x8 frame control on a Chive port whose wake enable is set. -/
def execWakeFrame (port_ fc : Nat) (s : State) : Out :=
  if port_ ≥ s.part.ports then .fault .absentResource
  else
    let f := parseFc fc
    let enabled := tget false s.pwr.chive port_
    let class_ := (s.pwr.order.map (·.wakeClass)).getD 0
    let good := fcValid fc && !fcReserved f && f.fcType == 0 && decide (f.kind ≤ 1) && f.mode == 2 && f.rx == devAddr
      && decide (f.cls ≥ class_) && isNeighbour s port_ f.tx
    .next (if enabled && good && !allStopped s then wakeSource 1 port_ f.tx s else s)

/-- WAKE_IN_N_LOW (R537): the ball is low for dur ns; 10 us qualifies. -/
def execWakeInNLow (dur : Nat) (s : State) : Out :=
  .next (if dur < 10000 || !((s.pwr.order.map (fun o => bit o.flags 1)).getD false) then s
    else wakeSource 2 0 0 (advanceTo (s.now + us 10) s))

/-- WAKE_TIMER (R537): the holdover counter reaches wake_at. -/
def execWakeTimer (s : State) : Out :=
  .next (match s.pwr.order with
    | none => s
    | some o =>
      if !bit o.flags 2 || o.recordAt.isNone || s.pwr.phase = .resetPhase then s
      else wakeSource 3 0 0 (advanceTo (sampleOf s.tmb o.wakeAt) s))

/-- PCIE_WAKE_RELEASE (R538): at link up, or 1 s after the wake. -/
def execPcieWakeRelease (s : State) : Out :=
  .next (match s.pwr.wakeN with
    | none => s
    | some t =>
      let s := if s.host.linkUp then s else advanceTo (t + secs 1) s
      emit (.pin "PCIE_WAKE_N" 1) { s with pwr.wakeN := none })

end Sys2Proof.Machine
end

