-- ==== Sys2Proof/Machine/Management.lean ====
section
/-! DEFINITION. The mailbox lanes, saturation, the watchdog restart and firmware update (16). -/

namespace Sys2Proof.Machine

/-! ### Lane registers (R436, R440, R441) -/

/-- Whether a pod and lane number name a lane. -/
def validLane (pod_ lane : Nat) : Bool := decide (pod_ ≤ 64) && decide (lane ≤ 2)

/-- A write to a lane's registers: of a lane there is, while the page takes writes. -/
def onLaneRegs (pod_ lane : Nat) (s : State) (f : State → State) : Out :=
  if !validLane pod_ lane then .fault .absentResource
  else .next (if pageOpen s pod_ then f s else s)

/-- MBX_DOORBELL (R436): the write of PROD. -/
def execMbxDoorbell (pod_ lane prod : Nat) (s : State) : Out :=
  onLaneRegs pod_ lane s (updMbxLane pod_ lane (fun x => { x with prod := BitVec.ofNat 32 prod }))

/-- ENABLE of a lane set or cleared (R436). -/
def laneEnable (on : Bool) (x : MbxLane) : MbxLane :=
  let bad := fun (n : Nat) => decide (n < 4) || decide (n > 12)
  if !on then { x with enable := false }
  else if bad x.sizeLog2.toNat || bad x.cmplLog2.toNat then { x with enable := false, fault := true, errStatus := St.badParam }
  else { x with enable := true }

/-- MBX_LANE_ENABLE (R436). -/
def execMbxLaneEnable (pod_ lane : Nat) (on : Bool) (s : State) : Out :=
  onLaneRegs pod_ lane s (updMbxLane pod_ lane (laneEnable on))

/-- The kept records are written, oldest first, up to one whose write fails again (R440). -/
def writeKept (pod_ lane : Nat) : Nat → State → State
  | 0, s => s
  | n + 1, s =>
    match (mbxLane s pod_ lane).kept with
    | [] => s
    | (r, raiseIt) :: rest =>
      match writeRecord pod_ lane r raiseIt s with
      | none => mbxFault pod_ lane s
      | some t => writeKept pod_ lane n (updMbxLane pod_ lane (fun x => { x with kept := rest }) t)

/-- MBX_FAULT_CLEAR (R440): the write of 1 to FAULT. -/
def execMbxFaultClear (pod_ lane : Nat) (s : State) : Out :=
  onLaneRegs pod_ lane s fun s =>
    let s := updMbxLane pod_ lane (fun x => { x with fault := false }) s
    writeKept pod_ lane (mbxLane s pod_ lane).kept.length s

/-- MBX_CMPL_CONS_UPDATE (R441): the write of CMPL_CONS. -/
def execMbxCmplConsUpdate (pod_ lane cons : Nat) (s : State) : Out :=
  onLaneRegs pod_ lane s (updMbxLane pod_ lane (fun x => { x with cmplCons := BitVec.ofNat 32 cons }))

/-! ### Saturation (R444) -/

/-- Commands taken and not started, device-wide (R444). -/
def waitingCount (s : State) : Nat := s.mgmt.waiting.length

/-- A command that has not passed its commit point ends with a status (R444, R448): a frame.submit that waits for its seal gives its
frame back. -/
def endUncommitted (c : Caller) (st : Status) (s : State) : State :=
  let mine := fun (e : Nat × Flight) => match e.2.sealer with | .mailbox d => sameCaller c d && !e.2.enqueued | _ => false
  match s.lbf.flights.find? mine with
  | some e => failSeal e.1 st s
  | none => completeStatus c st s

/-- The commands taken that have not passed their commit point, those of one lane or of all. -/
def uncommitted (s : State) : List Caller :=
  s.mgmt.waiting.map (·.caller)
    ++ (s.mgmt.executing.filter (fun e => !e.committed)).map (·.cmd.caller)

/-- The newest LOAD of the intervals a row reports. -/
def loadOf (loads : List Nat) : BitVec 8 := BitVec.ofNat 8 (loads.getLastD 0)

/-- SHEDDING_ENTRY (R444): LOAD of the last 4 intervals, or more than 256 commands waiting to start. -/
def execSheddingEntry (loads : List Nat) (s : State) : Out :=
  let high := loads.length == 4 && loads.all (fun l => decide (l ≥ 0xE6) && decide (l < 256))
  .next (if s.mgmt.fwState != .running || s.mgmt.shedding || !(high || decide (waitingCount s > 256)) then s
  else
    let s := raiseSys 13 1 0 0 { s with mgmt.shedding := true, mgmt.load := loadOf loads }
    ((uncommitted s).filter (fun c => c.lane == 2)).foldl (fun s c => endUncommitted c St.busy s) s)

/-- SHEDDING_EXIT (R444). -/
def execSheddingExit (loads : List Nat) (s : State) : Out :=
  let low := loads.length == 4 && loads.all (fun l => decide (l < 0xB3))
  .next (if s.mgmt.fwState != .running || !s.mgmt.shedding || !low || decide (waitingCount s ≥ 128) then s
  else raiseSys 13 2 0 0 { s with mgmt.shedding := false, mgmt.load := loadOf loads })

/-! ### Notifications and listens (R446, R453) -/

/-- NOTIFICATION_POST (R446). -/
def execNotificationPost (pod_ lane code : Nat) (body : Bytes) (s : State) : Out :=
  if !validLane pod_ lane then .fault .absentResource
  else .next (if s.pwr.phase != .running then s else notify pod_ lane (code % 65536) (body.take 4088) s)

/-- mbx.listen (R453, R446): held; a queued notification completes it at once; a ninth has ST_BAD_PARAM. -/
def mbxListenBody (c : Caller) (s : State) : State × Reply :=
  let x := mbxLane s c.pod c.lane
  match x.queued with
  | n :: rest => (deliverNotice c n (updMbxLane c.pod c.lane (fun x => { x with queued := rest }) (forget c s)), .untaken)
  | [] =>
    if x.listens.length ≥ 8 then answer St.badParam s
    else (updMbxLane c.pod c.lane (fun x => { x with listens := x.listens ++ [c] }) (forget c s), .untaken)

def execMbxListen (c : Caller) (req : Bytes) (s : State) : Out :=
  .next (runCmd ⟨0x0E02, req.isEmpty, false, []⟩ c req (mbxListenBody c) s)

/-- mbx.credits (R452). -/
def mbxCreditsBody (req : Bytes) (s : State) : State × Reply :=
  let p := rd req 0 1
  let u := rd req 1 1
  let n := rd req 2 1
  let b := rd req 3 1
  if p > 64 || u < 1 || u > 4 || n < 1 || n > 32 || b < 1 || b > 64 then answer St.badParam s
  else answer St.ok { s with mgmt.credits := tset s.mgmt.credits p
                               { urgent := BitVec.ofNat 8 u, normal := BitVec.ofNat 8 n, bulk := BitVec.ofNat 8 b } }

def execMbxCredits (c : Caller) (req : Bytes) (s : State) : Out :=
  .next (runCmd ⟨0x0E01, shaped req 8 [(4, 4)], true, [.pod (rd req 0 1)]⟩ c req (mbxCreditsBody req) s)

/-! ### The firmware restart (R447 to R449) -/

/-- A restart begins (R447): an update in progress is abandoned (R460). -/
def startRestart (cause : Nat) (s : State) : State :=
  raiseSys 14 1 0 0
    { s with mgmt.fwState := .restarting, mgmt.ready := false, mgmt.load := 0, mgmt.restartCount := s.mgmt.restartCount + 1,
             mgmt.restartCause := BitVec.ofNat 8 cause, mgmt.restartSeen := true, mgmt.updating := none }

/-- A trigger of R447: a restart that counts, or with 3 begun within the 10 s before it a halt, on which the active device of a pair
fails (R449, R545). -/
def trigger (cause : Nat) (s : State) : State :=
  if s.pwr.phase != .running || !s.mgmt.jumped || s.mgmt.fwState = .halted then s
  else
    let recent := s.mgmt.restartTimes.filter (fun t => decide (s.now < t + secs 10))
    if recent.length ≥ 3 then
      roleFailing (raiseSys 15 1 0 0 { s with mgmt.fwState := .halted, mgmt.ready := false, mgmt.load := 0 })
    else startRestart cause { s with mgmt.restartTimes := recent ++ [s.now] }

/-- WATCHDOG_EXPIRY (R447, R449). -/
def execWatchdogExpiry (s : State) : Out :=
  .next (if s.pwr.phase != .running || !s.mgmt.jumped || s.mgmt.fwState = .halted then s
    else trigger 1 { s with mgmt.expiries := satAdd s.mgmt.expiries 1 })

/-- PROCESSOR_FAULT (R447). -/
def execProcessorFault (s : State) : Out := .next (trigger 3 s)

/-- The listens and notifications of a lane after a restart (R448). -/
def restartLaneLists (i : Nat) (s : State) : State :=
  let p := i / 3
  let l := i % 3
  let x := mbxLane s p l
  let s := updMbxLane p l (fun x => { x with listens := [], queued := [], lost := satAdd x.lost x.queued.length }) s
  x.listens.foldl (fun s c => completeStatus c St.restarted s) s

end Sys2Proof.Machine
end

