-- ==== Sys2Proof/Machine/Services.lean ====
section
/-! DEFINITION. The hosted services (16 R457 to R459), the end of a firmware restart (R448), and firmware update (R460, R461). -/

namespace Sys2Proof.Machine

/-! ### Service frames (R457) -/

/-- The service owner of an endpoint (R457): recorded by its registry entry, for an endpoint bound to pod 0. -/
def serviceOwner (s : State) (ep : Nat) : Option Nat :=
  let e := endpoint s ep
  if e.state = .free || e.pod != 0 then none
  else (s.mram.registry.find? (fun r => r.endpoint == ep && r.eui == e.eui)).map (·.owner)

/-- The endpoints of a range that a pod owns for services, ascending (R458). -/
def ownedRange (s : State) (owner first n : Nat) : List Nat :=
  ((List.range n).map (fun i => first + i)).filter (fun e => serviceOwner s e == some owner)

/-- A service request's plaintext (R457). -/
def serviceUnit (svc reqId : Nat) (body : Bytes) : Bytes :=
  leBytes 1 svc ++ leBytes 1 0 ++ beBytes 2 reqId ++ beBytes 2 body.length ++ zeros 2 ++ body

/-- A frame of a service: a submission of pod 0 that all four checks of R276 apply to (R593); one that could not be submitted is not
sent. -/
def serviceSend (ep cls : Nat) (text : Bytes) (s : State) : State :=
  match submitStop s 0 ep cls 0 text.length St.badParam with
  | some _ => s
  | none =>
    let h := submission s 0 ep cls 0 text.length .engine .none text
    match stopCause s h, freeFlight s h.port with
    | none, some n => admitFlight n h s
    | c, _ => holdSubmission h (c.getD 2) s

/-- A request to several endpoints under a new request identifier (R457). -/
def serviceAsk (svc cls : Nat) (eps : List Nat) (body : Bytes) (s : State) : State × Nat :=
  let id := (s.mgmt.reqId + 1).toNat
  (eps.foldl (fun s e => serviceSend e cls (serviceUnit svc id body) s) { s with mgmt.reqId := BitVec.ofNat 16 id }, id)

/-! ### Registry (R458) -/

/-- The registry as the last write to it leaves it. -/
def registryLatest (s : State) : List RegEntry :=
  s.mram.journal.foldl (fun r w => match w.target with | .registry es => es | _ => r) s.mram.registry

/-- svc.registry.set (R458). -/
def svcRegistrySetBody (c : Caller) (req : Bytes) (s : State) : State × Reply :=
  let x : RegEntry := { eui := rd req 0 8, endpoint := rd req 8 2, port := rd req 10 2, pod := rd req 12 1, owner := rd req 13 1 }
  let es := registryLatest s
  let others := es.filter (fun r => r.eui != x.eui)
  if x.endpoint ≥ 16384 || x.port ≥ s.part.ports || x.pod > 64 || x.owner > 64 || rd req 14 1 > 1 then answer St.badParam s
  else if rd req 14 1 = 1 then persist (.registry others) c (statusResp St.ok) s
  else if others.any (fun r => r.endpoint == x.endpoint) then answer St.identityConflict s
  else if others.length ≥ 16384 then answer St.registryFull s
  else persist (.registry (others ++ [x])) c (statusResp St.ok) s

def execSvcRegistrySet (c : Caller) (req : Bytes) (s : State) : Out :=
  .next (runCmd ⟨0x1401, shaped req 16 [(15, 1)], true, [.endpoint (rd req 8 2)]⟩ c req (svcRegistrySetBody c req) s)

/-! ### Meter schedules (R458, R459) -/

def setSchedule (k : Nat) (x : MeterSchedule) (s : State) : State := { s with mgmt.schedules := tset s.mgmt.schedules k x }

def schedule (s : State) (k : Nat) : Option MeterSchedule := (s.mgmt.schedules.find? (fun e => e.1 == k)).map (·.2)

/-- svc.meter.schedule (R458): the first period starts at once. -/
def svcMeterScheduleBody (c : Caller) (req : Bytes) (s : State) : State × Reply :=
  let k := 256 * c.pod + rd req 0 1
  let first := rd req 8 2
  let n := rd req 10 2
  if rd req 1 1 > 1 then answer St.badParam s
  else if rd req 1 1 = 1 then answer St.ok { s with mgmt.schedules := tdel s.mgmt.schedules k }
  else if rd req 2 1 < 1 || rd req 2 1 > 2 || rd req 4 4 < 1 || rd req 4 4 > 86400 || n < 1 || n > 1024 || first + n > 16384
      || rd req 12 2 > 256 then answer St.badParam s
  else if (ownedRange s c.pod first n).isEmpty then answer St.notService s
  else if (schedule s k).isNone && decide (s.mgmt.schedules.length ≥ 256) then answer St.serviceFull s
  else answer St.ok (setSchedule k { owner := c.pod, lane := rd req 2 1, periodS := rd req 4 4, first := first, count := n,
                                     query := slice req 16 (rd req 12 2), nextAt := s.now, collecting := none, collectEnd := 0,
                                     asked := [], replies := [] } s)

def execSvcMeterSchedule (c : Caller) (req : Bytes) (s : State) : Out :=
  .next (runCmd ⟨0x1402, req.length == 16 + rd req 12 2 && reservedZero req [(3, 1), (14, 2)], false, []⟩ c req
    (svcMeterScheduleBody c req) s)

/-- One entry of notification 0x9402 (R458). -/
def meterEntry (x : MeterSchedule) (e : Nat) : Bytes :=
  match x.replies.find? (fun r => r.1 == e) with
  | none => leBytes 2 e ++ leBytes 2 0xFFFF
  | some r => let b := leBytes 2 e ++ leBytes 2 r.2.length ++ r.2
              b ++ zeros ((4 - b.length % 4) % 4)

/-- Entries gathered into bodies of at most 4,084 bytes each, in order. -/
def meterBodies (x : MeterSchedule) : List Bytes :=
  (x.asked.map (meterEntry x)).foldl (fun (bs : List Bytes) e =>
    let b := bs.getLastD []
    if b.length + e.length ≤ 4084 then bs.dropLast ++ [b ++ e] else bs ++ [e]) [[]]

/-- A collection ends: notification 0x9402, and further ones for what does not fit (R458). -/
def endCollection (k : Nat) (x : MeterSchedule) (s : State) : State :=
  match x.collecting with
  | none => s
  | some id =>
    let s := setSchedule k { x with collecting := none, asked := [], replies := [] } s
    (meterBodies x).foldl (fun s b => notify x.owner x.lane 0x9402 (leBytes 1 (k % 256) ++ zeros 1 ++ leBytes 2 id ++ b) s) s

/-- METER_PERIOD (R458): the query goes to the endpoints of the range that the owner has now. -/
def execMeterPeriod (schedule_ : Nat) (s : State) : Out :=
  .next (match schedule s schedule_ with
    | none => s
    | some x =>
      if s.mgmt.fwState != .running then s
      else
        let s := endCollection schedule_ x (advanceTo x.nextAt s)
        let eps := ownedRange s x.owner x.first x.count
        match serviceAsk 2 1 eps x.query s with
        | (s, id) =>
          let next := x.nextAt + secs x.periodS
          setSchedule schedule_ { x with nextAt := next, collecting := some id, collectEnd := min next (x.nextAt + secs 60),
                                         asked := eps, replies := [] } s)

/-- METER_COLLECTION_END (R458). -/
def execMeterCollectionEnd (schedule_ : Nat) (s : State) : Out :=
  .next (match schedule s schedule_ with
    | none => s
    | some x => if s.mgmt.fwState != .running || x.collecting.isNone then s
                else endCollection schedule_ x (advanceTo x.collectEnd s))

/-! ### Load shedding (R458) -/

/-- svc.load.shed (R458). -/
def svcLoadShedBody (c : Caller) (req : Bytes) (s : State) : State × Reply :=
  let first := rd req 0 2
  let n := rd req 2 2
  if n < 1 || n > 1024 || first + n > 16384 || rd req 4 2 > 256 || rd req 6 2 < 10 || rd req 6 2 > 10000 then answer St.badParam s
  else if (ownedRange s c.pod first n).isEmpty then answer St.notService s
  else if (s.mgmt.shedOps.filter (fun o => o.owner == c.pod)).length ≥ 4 then answer St.serviceFull s
  else
    let t := if rd req 8 8 = 0 then (tmbNow s).toNat else rd req 8 8
    answer St.pending { s with mgmt.shedOps := s.mgmt.shedOps ++
      [{ owner := c.pod, first := first, count := n, body := slice req 16 (rd req 4 2), executeAt := t, confirmMs := rd req 6 2,
         executed := false, reqId := 0, replied := [] }] }

def execSvcLoadShed (c : Caller) (req : Bytes) (s : State) : Out :=
  .next (runCmd ⟨0x1403, req.length == 16 + rd req 4 2, false, []⟩ c req (svcLoadShedBody c req) s)

def setShed (idx : Nat) (o : ShedOp) (s : State) : State := { s with mgmt.shedOps := s.mgmt.shedOps.set idx o }

/-- LOAD_SHED_EXECUTE (R458): one PC3 request to each endpoint of the range that the owner has. -/
def execLoadShedExecute (idx : Nat) (s : State) : Out :=
  .next (match s.mgmt.shedOps[idx]? with
    | none => s
    | some o =>
      if s.mgmt.fwState != .running || o.executed then s
      else
        let s := advanceTo (sampleOf s.tmb o.executeAt) s
        match serviceAsk 3 3 (ownedRange s o.owner o.first o.count) o.body s with
        | (s, id) => setShed idx { o with executed := true, reqId := id } s)

/-- The bitmap of replies: bit i for endpoint first + i (R458). -/
def shedBitmap (o : ShedOp) : Bytes :=
  leBytes (ceilDiv o.count 8) (bitmap ((o.replied.filter (fun e => decide (o.first ≤ e))).map (fun e => e - o.first)).eraseDups)

/-- LOAD_SHED_CONFIRM (R458): notification 0x9403 on the normal lane; the operation ends. -/
def execLoadShedConfirm (idx : Nat) (s : State) : Out :=
  .next (match s.mgmt.shedOps[idx]? with
    | none => s
    | some o =>
      if s.mgmt.fwState != .running || !o.executed then s
      else
        let s := advanceTo (sampleOf s.tmb (o.executeAt + usTime (1000 * o.confirmMs))) s
        notify o.owner 1 0x9403 (shedBitmap o) { s with mgmt.shedOps := s.mgmt.shedOps.eraseIdx idx })

/-! ### Dispatch (R458) -/

/-- svc.dispatch.set (R458): the setpoint goes out at once. -/
def svcDispatchSetBody (c : Caller) (req : Bytes) (s : State) : State × Reply :=
  let ep := rd req 0 2
  let known := thas s.mgmt.assets ep
  if ep ≥ 16384 || rd req 2 1 < 1 || rd req 2 1 > 3 || rd req 3 1 > 1 || rd req 4 2 < 1 || rd req 4 2 > 3600 || rd req 6 2 < 1
      || rd req 6 2 > 3600 || rd req 8 2 > 256 then answer St.badParam s
  else if serviceOwner s ep != some c.pod then answer St.notService s
  else if rd req 3 1 = 1 then answer St.ok { s with mgmt.assets := tdel s.mgmt.assets ep }
  else if !known && decide (s.mgmt.assets.length ≥ 4096) then answer St.serviceFull s
  else
    let body := slice req 16 (rd req 8 2)
    match serviceAsk 4 2 [ep] body s with
    | (s, id) =>
      let a : Asset := { owner := c.pod, kind := rd req 2 1, reassertS := rd req 4 2, lossS := rd req 6 2, body := body,
                         nextAt := s.now + secs (rd req 4 2), lastReply := s.now, awaitFirst := true,
                         unanswered := true, reqId := id }
      answer St.ok { s with mgmt.assets := tset s.mgmt.assets ep a }

def execSvcDispatchSet (c : Caller) (req : Bytes) (s : State) : Out :=
  .next (runCmd ⟨0x1404, req.length == 16 + rd req 8 2 && reservedZero req [(10, 6)], false, [.endpoint (rd req 0 2)]⟩ c req
    (svcDispatchSetBody c req) s)

def asset (s : State) (ep : Nat) : Option Asset := (s.mgmt.assets.find? (fun e => e.1 == ep)).map (·.2)

/-- Notification 0x9404 (R458), on the normal lane: the manual gives its body no layout, so its bytes are free. -/
def dispatchNotice (owner : Nat) (s : State) : State :=
  match freshNat s with
  | (n, s) => match freshBytes (n % 4089) s with | (b, s) => notify owner 1 0x9404 b s

/-- DISPATCH_REASSERT (R458). -/
def execDispatchReassert (ep : Nat) (s : State) : Out :=
  .next (match asset s ep with
    | none => s
    | some a =>
      if s.mgmt.fwState != .running then s
      else
        match serviceAsk 4 2 [ep] a.body (advanceTo a.nextAt s) with
        | (s, id) =>
          let a := { a with nextAt := a.nextAt + secs a.reassertS, unanswered := true, reqId := id }
          { s with mgmt.assets := tset s.mgmt.assets ep a })

/-- DISPATCH_LOSS (R458): loss_s without any reply. -/
def execDispatchLoss (ep : Nat) (s : State) : Out :=
  .next (match asset s ep with
    | none => s
    | some a =>
      if s.mgmt.fwState != .running then s
      else
        let s := advanceTo (a.lastReply + secs a.lossS) s
        dispatchNotice a.owner { s with mgmt.assets := tset s.mgmt.assets ep { a with lastReply := s.now } })

/-! ### Replies (R457) -/

/-- A reply reaches its service: svc, req_id and body of a unit whose op is 1. -/
def serviceReply (ep svc id : Nat) (body : Bytes) (s : State) : State :=
  if svc = 2 then
    let take := fun (x : MeterSchedule) =>
      if x.collecting = some id && x.asked.contains ep && !thas x.replies ep then { x with replies := tset x.replies ep body } else x
    { s with mgmt.schedules := tmap (fun _ x => take x) s.mgmt.schedules }
  else if svc = 3 then
    let take := fun (o : ShedOp) =>
      if o.executed && o.reqId = id && decide (o.first ≤ ep) && decide (ep < o.first + o.count) then
        { o with replied := o.replied ++ [ep] } else o
    { s with mgmt.shedOps := s.mgmt.shedOps.map take }
  else
    match asset s ep with
    | none => s
    | some a =>
      if a.reqId != id then s
      else
        let s := { s with mgmt.assets := tset s.mgmt.assets ep { a with lastReply := s.now, awaitFirst := false, unanswered := false } }
        if a.awaitFirst then dispatchNotice a.owner s else s

/-- Whether a unit is a service reply (R457). -/
def isReply (u : Bytes) : Bool :=
  let svc := rd u 0 1
  decide (u.length ≥ 8) && decide (2 ≤ svc) && decide (svc ≤ 4) && rd u 1 1 == 1 && decide (rdBe u 4 2 ≤ 256)

/-- SERVICE_REPLY_RECEIVED (R293, R457): the firmware consumes an opened unit of pod 0 that is a service reply. -/
def execServiceReplyReceived (ep : Nat) (unit_ : Bytes) (s : State) : Out :=
  let mine := fun (e : Nat × Reasm) => e.2.ep == ep && e.2.pod == 0 && e.2.ready && e.2.opened && e.2.data == unit_
  .next (match s.lbf.reasms.find? mine with
    | none => s
    | some (n, r) =>
      if s.mgmt.fwState != .running || !isReply unit_ then s
      else serviceReply ep (rd unit_ 0 1) (rdBe unit_ 2 2) (slice unit_ 8 (rdBe unit_ 4 2)) (delivered n r s))

/-! ### The end of a restart (R448, R459) -/

/-- A request in progress is sent again with a new req_id, to those that have not answered; a schedule goes on at its next period
(R459). -/
def resumeServices (s : State) : State :=
  let s := s.mgmt.schedules.foldl (fun s e =>
    let x := e.2
    if x.collecting.isNone then s
    else match serviceAsk 2 1 (x.asked.filter (fun p => !thas x.replies p)) x.query s with
      | (s, id) => setSchedule e.1 { x with collecting := some id } s) s
  let s := (List.range s.mgmt.shedOps.length).foldl (fun s i =>
    match s.mgmt.shedOps[i]? with
    | none => s
    | some o =>
      if !o.executed then s
      else match serviceAsk 3 3 ((ownedRange s o.owner o.first o.count).filter (fun p => !o.replied.contains p)) o.body s with
        | (s, id) => setShed i { o with reqId := id } s) s
  s.mgmt.assets.foldl (fun s e =>
    if !e.2.unanswered then s
    else match serviceAsk 4 2 [e.1] e.2.body s with
      | (s, id) => { s with mgmt.assets := tset s.mgmt.assets e.1 { e.2 with reqId := id } }) s

/-- FIRMWARE_RESTART_COMPLETE (R447, R448): READY; what was owed is written, commands that had not passed their commit point and held
listens end with ST_RESTARTED. -/
def execFirmwareRestartComplete (s : State) : Out :=
  .next (if s.mgmt.fwState != .restarting then s
  else
    let open_ := uncommitted s
    let owed := s.mgmt.owed
    let s := { s with mgmt.fwState := .running, mgmt.ready := true, mgmt.owed := [] }
    let s := owed.foldl (fun s o => complete o.1 o.2.1 o.2.2 s) s
    let s := open_.foldl (fun s c => endUncommitted c St.restarted s) s
    resumeJoins (resumeServices ((s.mgmt.lanes.map (·.1)).foldl (fun s i => restartLaneLists i s) s)))

/-! ### Firmware update (R460, R461) -/

/-- The slot that is not running. -/
def otherSlot (s : State) : Nat := 1 - s.mgmt.runningSlot

def updSlot (k : Nat) (f : FlashSlot → FlashSlot) (s : State) : State :=
  if k = 0 then { s with mgmt.slot0 := f s.mgmt.slot0 } else { s with mgmt.slot1 := f s.mgmt.slot1 }

def flashSlot (s : State) (k : Nat) : FlashSlot := if k = 0 then s.mgmt.slot0 else s.mgmt.slot1

/-- A selector copy (R486): magic, sequence number, next-boot slot and the check over them. -/
def selectorBytes (sequence slot : Nat) : Bytes :=
  let b := leBytes 4 0x534C4354 ++ leBytes 4 sequence ++ leBytes 1 slot ++ zeros 3
  b ++ leBytes 4 (crc32c b)

/-- A slot is the image for the next boot (R460, R486): the selector copy not in force is rewritten with the sequence number after. With
no valid copy, copy A is written with number 1 (DESIGN CHOICE, log 173). -/
def markNext (slot : Nat) (s : State) : State :=
  let copy := (s.mgmt.selector.map (fun x => 1 - x.1)).getD 0
  let n := ((s.mgmt.selector.map (·.2)).getD 0 + 1) % 2 ^ 32
  emit (.selector copy (selectorBytes n slot)) { s with mgmt.nextSlot := slot, mgmt.selector := some (copy, n) }

/-- fw.update begin: the slot is erased. -/
def fwUpdateBeginBody (req : Bytes) (s : State) : State × Reply :=
  if rd req 4 8 != 0 then answer St.badParam s
  else if s.mgmt.updating.isSome then answer St.updateSequence s
  else
    let k := otherSlot s
    answer St.ok (emit (.flash k 0 []) (updSlot k (fun _ => { torn := true }) { s with mgmt.updating := some 0 }))

def execFwUpdateBegin (c : Caller) (req : Bytes) (s : State) : Out :=
  .next (runCmd ⟨0x0E06, shaped req 24 [(1, 3), (12, 4)] && rd req 0 1 == 0, true, [.image]⟩ c req (fwUpdateBeginBody req) s)

/-- fw.update write: one chunk, read from host memory. -/
def fwUpdateWriteBody (c : Caller) (req : Bytes) (s : State) : State × Reply :=
  let off := rd req 4 4
  let len := rd req 8 4
  if off % 256 != 0 || len < 256 || len > 65536 || off + len > 2097152 then answer St.badParam s
  else
    match s.mgmt.updating, c.io.data with
    | none, _ => answer St.updateSequence s
    | some _, none => answer St.dmaFault s
    | some n, some data =>
      let s := count 0x0010 { pod := some 0 } len s
      answer St.ok (emit (.flash (otherSlot s) off (data.take len)) { s with mgmt.updating := some (max n (off + len)) })

def execFwUpdateWrite (c : Caller) (req : Bytes) (s : State) : Out :=
  .next (runCmd ⟨0x0E06, shaped req 24 [(1, 3), (12, 4)] && rd req 0 1 == 1, true, [.image]⟩ c req (fwUpdateWriteBody c req) s)

/-- fw.update finish: the copy in the staging region is checked, and the slot marked for the next boot. -/
def fwUpdateFinishBody (c : Caller) (req : Bytes) (s : State) : State × Reply :=
  if rd req 4 4 != 0 then answer St.badParam s
  else if s.mgmt.updating.isNone then answer St.updateSequence s
  else
    let s := { s with mgmt.updating := none }
    match c.io.image.filter (fun v => imageOk s v && v.length == rd req 8 4) with
    | none => answer St.imageInvalid s
    | some v =>
      let k := otherSlot s
      answer St.ok (markNext k (updSlot k (fun _ => { version := some (BitVec.ofNat 16 v.version) }) s))

def execFwUpdateFinish (c : Caller) (req : Bytes) (s : State) : Out :=
  .next (runCmd ⟨0x0E06, shaped req 24 [(1, 3), (12, 4)] && rd req 0 1 == 2, true, [.image]⟩ c req (fwUpdateFinishBody c req) s)

/-- fw.activate (R461): the next-boot image is checked again, and a restart runs it; its record follows the restart. -/
def fwActivateBody (c : Caller) (s : State) : State × Reply :=
  match c.io.image.filter (fun v => imageOk s v && !(flashSlot s s.mgmt.nextSlot).torn) with
  | none => answer St.imageInvalid s
  | some v =>
    if v.stateFormat != s.mgmt.stateFormat.toNat then answer St.stateFormat s
    else
      let s := { s with mgmt.runningSlot := s.mgmt.nextSlot, sec.bootSlot := s.mgmt.nextSlot, sec.runSecver := v.secver,
                        sec.runKey := v.keyIndex, sec.bootFallback := false, mgmt.fwVersion := BitVec.ofNat 16 v.version }
      answer St.ok (startRestart 2 s)

def execFwActivate (c : Caller) (req : Bytes) (s : State) : Out :=
  .next (runCmd ⟨0x0E07, shaped req 8 [(0, 8)], true, [.image]⟩ c req (fwActivateBody c) s)

/-- fw.info (R461). -/
def fwInfoResp (s : State) : Bytes :=
  let version := fun (x : FlashSlot) => leBytes 2 ((x.version.map (·.toNat)).getD 0xFFFF)
  leBytes 2 St.ok.toNat ++ leBytes 2 s.mgmt.fwVersion.toNat ++ leBytes 1 s.mgmt.runningSlot ++ leBytes 1 s.mgmt.nextSlot
    ++ leBytes 2 s.mgmt.stateFormat.toNat ++ version s.mgmt.slot0 ++ version s.mgmt.slot1

def execFwInfo (c : Caller) (req : Bytes) (s : State) : Out :=
  .next (runCmd ⟨0x0E05, shaped req 8 [(0, 8)], false, []⟩ c req (fun s => (s, .done St.ok (fwInfoResp s))) s)

end Sys2Proof.Machine
end

