-- ==== Sys2Proof/Machine/Observe.lean ====
section
/-! DEFINITION. Programmable counters, snapshots, tagging and trace (19). -/

namespace Sys2Proof.Machine

/-! ### Programmable counters (R506 to R508) -/

/-- The attributes an event carries (R506): port, class, initiator, DDR address, privilege. -/
def eventAttrs (code : Nat) : Bool × Bool × Bool × Bool × Bool :=
  match code with
  | 0x01 => (true, true, true, false, true)
  | 0x02 => (true, true, true, false, true)
  | 0x03 => (true, true, true, false, true)
  | 0x04 => (true, true, true, false, false)
  | 0x05 => (true, true, true, false, false)
  | 0x06 => (true, true, true, false, false)
  | 0x07 => (false, false, true, false, true)
  | 0x08 => (true, false, true, false, false)
  | 0x09 => (false, true, true, false, false)
  | 0x0A => (false, true, true, false, false)
  | 0x0B => (false, false, true, true, true)
  | 0x0C => (false, false, true, true, true)
  | 0x0D => (false, false, true, true, false)
  | 0x0E => (false, false, true, true, false)
  | 0x0F => (true, false, true, false, false)
  | 0x10 => (false, false, true, false, false)
  | 0x11 => (false, false, true, false, false)
  | 0x13 => (true, false, false, false, false)
  | _ => (false, false, false, false, false)

/-- Whether a counter assigned to a tenant pod may count the event (R506). -/
def podVisible (code : Nat) : Bool := code != 0x0B && code != 0x0C && code != 0x12 && code != 0x13

/-- The pod filter of a counter is on (R508): always while it is assigned. -/
def podFilter (c : Pmc) : Bool := c.podEn || c.assigned != 0

/-- INVALID of a counter (R507): an enabled filter names an attribute that its event does not carry; Off and reserved codes count
nothing and name none. -/
def pmcInvalid (c : Pmc) : Bool :=
  let a := eventAttrs c.event.toNat
  c.event != 0 && decide (c.event.toNat < 0x14)
    && ((c.portEn && !a.1) || (c.cls != 0xF && !a.2.1) || (podFilter c && !a.2.2.1) || (c.addrEn && !a.2.2.2.1)
        || (c.priv != 3 && !a.2.2.2.2))

/-- A counter with its INVALID bit brought up to date. -/
def settled (c : Pmc) : Pmc := { c with invalid := pmcInvalid c }

def pmc (s : State) (n : Nat) : Pmc := tget {} s.obs.ctrs n

def setPmc (n : Nat) (c : Pmc) (s : State) : State := { s with obs.ctrs := tset s.obs.ctrs n c }

/-- A register write of pod 0's window. -/
def whileHost (s : State) (f : State → State) : Out := .next (if pageOpen s 0 then f s else s)

/-- PMC_CTRn takes a value (R508): increments of the same handshake are applied after the write. -/
def pmcValueWrite (n value increments : Nat) (s : State) : State :=
  match pmcAdd { pmc s n with value := BitVec.ofNat 64 value } increments with
  | (c, overflow) => let s := setPmc n c s
                     if overflow then raiseSys 21 1 n 0 s else s

/-- PMC_VALUE_WRITE (R508). -/
def execPmcValueWrite (n value increments : Nat) (s : State) : Out :=
  if n ≥ 256 then .fault .absentResource else whileHost s (pmcValueWrite n value increments)

/-- PMC_CTRn_CFG takes a value (R508): OVF clears on a written 1; the pod fields of an assigned counter do not change. -/
def pmcCfgWrite (n value : Nat) (s : State) : State :=
  let c := pmc s n
  let free := c.assigned == 0
  setPmc n (settled
    { c with event := BitVec.ofNat 16 (bits value 48 16), portEn := bit value 47, port := BitVec.ofNat 7 (bits value 40 7),
             podEn := if free then bit value 39 else c.podEn,
             pod := if free then BitVec.ofNat 7 (bits value 32 7) else c.pod,
             cls := BitVec.ofNat 4 (bits value 28 4), priv := BitVec.ofNat 2 (bits value 26 2), addrEn := bit value 25,
             enable := bit value 24, ovfIrq := bit value 1, ovf := w1c c.ovf (bit value 0) }) s

/-- PMC_CFG_WRITE (R508). -/
def execPmcCfgWrite (n value : Nat) (s : State) : Out :=
  if n ≥ 256 then .fault .absentResource else whileHost s (pmcCfgWrite n value)

/-! ### Snapshots (R512, R513) -/

/-- A request for a snapshot (R513): ignored while one is pending. -/
def snapshotArm (s : State) : State :=
  if s.obs.snapPending.isSome then s
  else
    let soon := tmbNow s + BitVec.ofNat 64 (usTime 2)
    { s with obs.snapPending := some (if serialNewer 64 soon.toNat s.obs.snapTime.toNat then soon else s.obs.snapTime) }

/-- SNAPSHOT_ARM (R513): the write of 1 to ARM. -/
def execSnapshotArm (s : State) : Out := whileHost s snapshotArm

/-- The count fields of LBF_DEVICE_STATUS (R284). -/
def lbfDeviceCounts (s : State) : Word :=
  packWord [(10, 0), (18, s.lbf.peakFrames.toNat), (18, s.lbf.reasms.length), (18, s.lbf.flights.length)]

/-- The count fields of LBF_PORT_STATUSp (R285). -/
def lbfPortCounts (s : State) (p : Nat) : Word :=
  packWord [(4, 0), (16, sharePc3 s p + shareOther s p), (11, (port s p).peakTx.toNat), (11, 0), (11, portRx s p), (11, portTx s p)]

/-- The cells that a queue's frames occupy (R286). -/
def queueCells (s : State) (q : Nat) : Nat := ((queue s q).flights.map (fun n => cellsOf (flight s n).len)).sum

/-- The count fields of LBF_QUEUE_STATUSq (R286). -/
def lbfQueueCounts (s : State) (q : Nat) : Word :=
  packWord [(16, 0), (12, (queue s q).rewinds.toNat), (4, 0), (18, queueCells s q), (3, (marked s q).length),
    (11, (queue s q).flights.length)]

/-- A table of the nonzero values of a list of indices. -/
def nonzero (f : Nat → Word) (is : List Nat) : Table Word :=
  is.foldl (fun t i => if f i = 0 then t else tset t i (f i)) []

/-- SNAPSHOT_LATCH (R512, R513): every counter and count is latched at T. -/
def execSnapshotLatch (s : State) : Out :=
  .next (match s.obs.snapPending with
    | none => s
    | some t =>
      let s := advanceTo (sampleOf s.tmb t.toNat) s
      let s := { s with obs.shadowFixed := s.obs.fixed,
                        obs.shadowCtr := s.obs.ctrs.map (fun e => (e.1, e.2.value)),
                        obs.shadowLbfDevice := lbfDeviceCounts s,
                        obs.shadowLbfPort := nonzero (lbfPortCounts s) (List.range s.part.ports),
                        obs.shadowLbfQueue := nonzero (lbfQueueCounts s) (s.lbf.queues.map (·.1)),
                        obs.snapAt := t, obs.snapSeq := s.obs.snapSeq + 1, obs.snapDone := true, obs.snapPending := none }
      raiseSys 22 1 0 0 s)

/-! ### Trace rows (R518, R519) -/

/-- TRACE_TIME_RECORD (R518): the next whole second. -/
def execTraceTimeRecord (s : State) : Out :=
  .next (if s.obs.ddrMode = 0 && s.obs.portRate == 0 then s
    else traceTime (advanceTo (sampleOf s.tmb (wholeSecond (tmbNow s).toNat + 2 ^ 32)) s))

/-- TRACE_SYNC_WORD (R519): after every 512 words, idle words counted. -/
def execTraceSyncWord (s : State) : Out :=
  .next (if s.obs.portRate = 0 then s
    else
      let tick := portWordTicks s.obs.portRate
      let s := if s.obs.portWords < 512 then advanceTo (max s.now s.obs.portBusy + (512 - s.obs.portWords) * tick) s else s
      emit (.tracePort [syncWord])
        { s with obs.portWords := s.obs.portWords - 512, obs.portBusy := max s.now s.obs.portBusy + tick })

/-! ### Commands (R522, R523) -/

/-- pmc.assign (R509, R523); a fixed counter of a port that the part does not have is named in vain (R2). -/
def pmcAssignBody (req : Bytes) (s : State) : State × Reply :=
  let fixed := rd req 0 1 == 1
  let p := rd req 1 1
  let i := rd req 2 1
  let id := rd req 4 2
  let key := 16 * p + i
  let slot := (s.obs.slots.find? (fun e => e.1 == key)).map (·.2)
  if rd req 0 1 > 1 || p < 1 || p > 64 || i > 15 || rd req 3 1 > 1 || id ≥ (if fixed then 3136 else 256)
      || (fixed && ((fixedPort id).map (fun q => decide (q ≥ s.part.ports))).getD false) then answer St.badParam s
  else if rd req 3 1 = 1 then
    let s := match slot with
      | some ⟨false, n⟩ => setPmc n (settled { pmc s n with assigned := 0 }) s
      | _ => s
    answer St.ok { s with obs.slots := tdel s.obs.slots key }
  else if fixed && (fixedPort id).map (portOwner s) != some p then answer St.denied s
  else if slot.isSome || (!fixed && (pmc s id).assigned != 0) then answer St.badParam s
  else
    let s := if fixed then s else setPmc id (settled { pmc s id with event := 0, value := 0, assigned := BitVec.ofNat 8 p }) s
    answer St.ok { s with obs.slots := tset s.obs.slots key ⟨fixed, id⟩ }

def execPmcAssign (c : Caller) (req : Bytes) (s : State) : Out :=
  .next (runCmd ⟨0x1101, shaped req 8 [(6, 2)], true, []⟩ c req (pmcAssignBody req) s)

/-- The counter that a pmc.configure asks for (R523). -/
def pmcOf (req : Bytes) (c : Pmc) : Pmc :=
  let flags := rd req 2 1
  let free := c.assigned == 0
  let pod_ := rd req 8 1
  let port_ := rd req 6 2
  let base := rd req 16 4
  settled { c with event := BitVec.ofNat 16 (rd req 4 2), enable := bit flags 0, ovfIrq := bit flags 1,
                   cls := BitVec.ofNat 4 (rd req 3 1), portEn := port_ != 0xFFFF,
                   port := if port_ = 0xFFFF then c.port else BitVec.ofNat 7 port_,
                   podEn := if free then pod_ != 0xFF else c.podEn,
                   pod := if free && pod_ != 0xFF then BitVec.ofNat 7 pod_ else c.pod,
                   priv := BitVec.ofNat 2 (rd req 9 1), addrEn := base != 0xFFFFFFFF,
                   base4k := if base = 0xFFFFFFFF then c.base4k else BitVec.ofNat 24 base,
                   limit4k := if base = 0xFFFFFFFF then c.limit4k else BitVec.ofNat 24 (rd req 20 4),
                   value := if bit flags 2 then BitVec.ofNat 64 (rd req 24 8) else c.value }

/-- pmc.configure (R523, R522). -/
def pmcConfigureBody (c : Caller) (req : Bytes) (s : State) : State × Reply :=
  let n := rd req 0 2
  let port_ := rd req 6 2
  let base := rd req 16 4
  if n ≥ 256 || rd req 2 1 > 7 || rd req 3 1 > 15 || rd req 4 2 ≥ 0x14 || (port_ ≥ s.part.ports && port_ != 0xFFFF)
      || (rd req 8 1 > 64 && rd req 8 1 != 0xFF) || rd req 9 1 > 3
      || (base != 0xFFFFFFFF && (decide (base ≥ 2 ^ 24) || decide (rd req 20 4 ≥ 2 ^ 24))) then answer St.badParam s
  else if c.pod != 0 && (pmc s n).assigned.toNat != c.pod then answer St.denied s
  else
    let x := pmcOf req (pmc s n)
    if x.invalid || (c.pod != 0 && !podVisible x.event.toNat) then answer St.filterInvalid s
    else answer St.ok (setPmc n x s)

def execPmcConfigure (c : Caller) (req : Bytes) (s : State) : Out :=
  .next (runCmd ⟨0x1102, shaped req 32 [(10, 6)], false, []⟩ c req (pmcConfigureBody c req) s)

/-- tag.configure (R514, R523). -/
def tagConfigureBody (req : Bytes) (s : State) : State × Reply :=
  let p := rd req 0 2
  let cfg : TagCfg := { kinds := BitVec.ofNat 4 (rd req 2 1), kf := rd req 3 1, ks := rd req 4 1, enable := rd req 5 1 == 1 }
  if (p ≥ s.part.ports && p != 0xFFFF) || rd req 2 1 > 15 || cfg.kf > 20 || cfg.ks > 24 || rd req 5 1 > 1 then answer St.badParam s
  else
    let ps := if p = 0xFFFF then List.range s.part.ports else [p]
    answer St.ok { s with obs.tagCfg := ps.foldl (fun t p => tset t p cfg) s.obs.tagCfg }

def execTagConfigure (c : Caller) (req : Bytes) (s : State) : Out :=
  .next (runCmd ⟨0x1103, shaped req 8 [(6, 2)], true, []⟩ c req (tagConfigureBody req) s)

/-- A sink's first record after it is enabled is a time record (R518). -/
def enableTimes (ddr port_ : Bool) (s : State) : State :=
  let s := if ddr then ddrFeed 4 6 [tmbNow s] s else s
  if port_ then portFeed 4 6 [tmbNow s] { s with obs.portWords := 0, obs.portBusy := 0 } else s

/-- trc.configure (R523): instruction trace goes to the port only under observation access or in Manufacturing (R517). -/
def trcConfigureBody (req : Bytes) (s : State) : State × Reply :=
  let d := rd req 0 1
  let q := rd req 1 1
  let mode := rd req 2 1
  let m := rd req 3 1
  let rate := rd req 4 1
  if d > 15 || bit d 2 || q > 15 || mode > 2 || m > 8 || rate > 3 then answer St.badParam s
  else
    let seen := observing s || s.sec.lifecycle == 0
    let q := if bit q 2 && !seen then q - 4 else q
    let empty := m != s.obs.ddrM || mode != s.obs.ddrMode.toNat
    let on := mode != 0 && s.obs.ddrMode == 0
    let portOn := rate != 0 && s.obs.portRate == 0
    answer St.ok (enableTimes on portOn
      { s with obs.ddrSink.sources := BitVec.ofNat 4 d, obs.portSink.sources := BitVec.ofNat 4 q, obs.ddrMode := BitVec.ofNat 2 mode,
               obs.ddrM := m, obs.portRate := rate, obs.ring := if empty then [] else s.obs.ring,
               obs.trcFull := s.obs.trcFull && !empty })

def execTrcConfigure (c : Caller) (req : Bytes) (s : State) : Out :=
  .next (runCmd ⟨0x1104, shaped req 8 [(5, 3)], true, []⟩ c req (trcConfigureBody req) s)

/-- The oldest whole records that fit in n bytes. -/
def fitting (n : Nat) : List TraceRec → List TraceRec
  | [] => []
  | r :: rs => if traceBytes r ≤ n then r :: fitting (n - traceBytes r) rs else []

/-- trc.read (R523). -/
def trcReadBody (c : Caller) (s : State) : State × Reply :=
  let rs := fitting (c.respMax - 8) s.obs.ring
  let data := (rs.flatMap (·.words)).flatMap (fun w => leBytes 8 w.toNat)
  ({ s with obs.ring := s.obs.ring.drop rs.length, obs.trcFull := s.obs.trcFull && rs.isEmpty },
    .done St.ok (leBytes 2 St.ok.toNat ++ zeros 2 ++ leBytes 4 data.length ++ data))

def execTrcRead (c : Caller) (req : Bytes) (s : State) : Out :=
  .next (runCmd ⟨0x1105, shaped req 8 [(0, 8)], true, []⟩ c req (trcReadBody c) s)

end Sys2Proof.Machine
end

