-- ==== Sys2Proof/Machine/Events.lean ====
section
/-! DEFINITION. The event fabric (21): issuing, coalescing, routing and the event rings. -/

namespace Sys2Proof.Machine

/-- The causes of the system sources (R551), by local index. -/
def sysCauses : List Nat :=
  [4, 1, 1, 2, 2, 4, 1, 2, 1, 1, 1, 1, 1, 2, 1, 1, 1, 1, 1, 1, 2, 1, 1, 1, 1]

/-- The causes of the sources of a port (R550). -/
def portCauses : List Nat := [1, 4, 4, 6, 3, 1, 1, 4]

/-- Whether a source issues records with a cause (R377, R409, R549 to R551): none from a reserved source. -/
def causeOk (source cause : Nat) : Bool :=
  let upTo := fun (n : Nat) => decide (1 ≤ cause) && decide (cause ≤ n)
  if source < 1024 then upTo (portCauses.getD (source % 8) 0)
  else if source < 1152 then
    let e := (source - 1024) % 16
    upTo (if e < 7 then 2 else if e < 11 then 1 else 0)
  else if source < 1408 then
    let e := source - 1152
    if e < 40 then upTo 1
    else if e < 136 then upTo 6
    else if e < 152 then upTo 1
    else if e < 154 then decide (3 ≤ cause) && decide (cause ≤ 5)
    else upTo (if e = 154 then 1 else 0)
  else upTo (sysCauses.getD (source - 1408) 0)

/-- EVENT_RECORD_ISSUE (R553 to R555). -/
def execEventRecordIssue (source cause arg0 arg1 : Nat) (s : State) : Out :=
  .next (if s.pwr.phase != .running || !causeOk source cause then s
    else raise source cause (arg0 % 2 ^ 64) (arg1 % 2 ^ 64) s)

/-- COALESCE_WINDOW_CLOSE (R555). -/
def execCoalesceWindowClose (source cause : Nat) (s : State) : Out :=
  .next (match openWindow s source cause with
    | none => s
    | some w =>
      let s := advanceTo w.ends s
      let s := { s with evt.windows := s.evt.windows.filter (fun x => !(x.source == source && x.cause == cause)) }
      match w.acc with
      | none => s
      | some (r, n) => startWindow source cause (issueRec { r with count := n, flags := r.flags + 8 } s))

/-- The fields of a write to EVT_SRCi_CFG (R557). -/
def evtCfgOf (v : Nat) : EvtCfg where
  enable := bit v 63
  pod := BitVec.ofNat 7 (bits v 56 7)
  vector := BitVec.ofNat 10 (bits v 46 10)
  coalesceUs := BitVec.ofNat 16 (bits v 16 16)
  causeMask := BitVec.ofNat 8 (bits v 0 8)

/-- Whether EVT_SRCi_CFG takes a value (R556). -/
def evtCfgAllowed (s : State) (i : Nat) (c : EvtCfg) : Bool :=
  let p := c.pod.toNat
  let v := c.vector.toNat
  decide (9 ≤ v)
    && (p == 0 || (decide (p ≤ 64) && fnExists s p && sourceOwner s i == p && decide (v ≤ 15)))

/-- EVT_SRCi_CFG takes a new value: the open windows of the source close under the old one (R555). -/
def putEvtCfg (i : Nat) (c : EvtCfg) (s : State) : State :=
  let s := flushWindows i s
  { s with evt.cfg := tset s.evt.cfg i c }

/-- A write of pod 0 to EVT_SRCi_CFG: ignored for a source the part lacks (R557), rejected with system event 0 (R556). -/
def evtCfgWrite (i value : Nat) (s : State) : State :=
  if !sourceExists s i then s
  else if evtCfgAllowed s i (evtCfgOf value) then putEvtCfg i (evtCfgOf value) s
  else raiseSys 0 3 0 (0x140000 + 8 * i) s

/-- EVT_SRC_CFG_WRITE (R556). -/
def execEvtSrcCfgWrite (i value : Nat) (s : State) : Out :=
  if i ≥ 1536 then .fault .absentResource else whileHost s (evtCfgWrite i value)

/-- ENABLE of an event ring takes a value (R559). -/
def evtRingEnable (on : Bool) (r : EvtRing) : EvtRing :=
  if !on then { r with enable := false }
  else if r.sizeLog2.toNat < 7 || r.sizeLog2.toNat > 16 then { r with enable := false, fault := true }
  else { r with enable := true }

/-- A write to the ring registers of a function. -/
def onPage (fn : Nat) (s : State) (f : State → State) : Out :=
  if fn > 64 then .fault .absentResource else .next (if pageOpen s fn then f s else s)

/-- EVT_RING_ENABLE (R559). -/
def execEvtRingEnable (fn : Nat) (on : Bool) (s : State) : Out := onPage fn s (updEvtRing fn (evtRingEnable on))

/-- EVT_RING_FAULT_CLEAR (R554 step 4): the write of 1 to FAULT. -/
def execEvtRingFaultClear (fn : Nat) (s : State) : Out := onPage fn s (updEvtRing fn (fun r => { r with fault := false }))

/-- evt.route (R563): the vector lies in one byte, so that pod 0 reaches 9 to 255. -/
def evtRouteBody (c : Caller) (req : Bytes) (s : State) : State × Reply :=
  let i := rd req 0 2
  let v := rd req 3 1
  if !sourceExists s i || rd req 2 1 > 1 || v < 9 || (c.pod != 0 && decide (v > 15)) then answer St.badParam s
  else if c.pod != 0 && sourceOwner s i != c.pod then answer St.denied s
  else answer St.ok (putEvtCfg i
    { enable := bit (rd req 2 1) 0, pod := BitVec.ofNat 7 c.pod, vector := BitVec.ofNat 10 v,
      coalesceUs := BitVec.ofNat 16 (rd req 4 2), causeMask := BitVec.ofNat 8 (rd req 6 1) } s)

def execEvtRoute (c : Caller) (req : Bytes) (s : State) : Out :=
  .next (runCmd ⟨0x1301, shaped req 8 [(7, 1)], false, []⟩ c req (evtRouteBody c req) s)

end Sys2Proof.Machine
end

