-- ==== Sys2Proof/Machine/Waits.lean ====
section
/-! DEFINITION. The take of a descriptor (16 R438 to R442) and the end of a wait (R592): both start a command by its code. -/

namespace Sys2Proof.Machine

/-- A command as the firmware knows it by its code (R450): the size of its largest response and its meaning. -/
structure Command where
  code : Nat
  maxResp : Nat
  run : Caller → Bytes → State → Out

/-- The line, chain, PHY, tone-map and canceller commands (groups 0x01 to 0x05). -/
def lineCommands : List Command :=
  [⟨0x0101, 16, execPortOpen⟩, ⟨0x0102, 8, execPortClose⟩, ⟨0x0103, 8, execLaneCalibrate⟩, ⟨0x0104, 8, execLaneGain⟩,
   ⟨0x0105, 8, execDriverRearm⟩, ⟨0x0106, 8, execSynthRebalance⟩, ⟨0x0201, 16, execChainConfigure⟩,
   ⟨0x0202, 8, execChainLoadbank⟩, ⟨0x0203, 16, execChainSwap⟩, ⟨0x0204, 8, execChainThreshold⟩, ⟨0x0301, 8, execPhyConfigure⟩,
   ⟨0x0401, 16, execTonemapConfigure⟩, ⟨0x0402, 8, execTonemapRefresh⟩, ⟨0x0403, 3214, execTonemapRead⟩,
   ⟨0x0404, 16, execMainsStatus⟩, ⟨0x0501, 20, execCancellerConfigure⟩, ⟨0x0502, 8, execCancellerSetguard⟩,
   ⟨0x0503, 72, execCancellerStatus⟩]

/-- The MAC, topology, buffer, cipher and check-value commands (groups 0x06 to 0x0A). -/
def linkCommands : List Command :=
  [⟨0x0601, 8, execMacConfigure⟩, ⟨0x0602, 40, execMacNeighbour⟩, ⟨0x0701, 8, execTopologyConfigure⟩,
   ⟨0x0702, 8, execEndpointAdmit⟩, ⟨0x0703, 8, execEndpointRemove⟩, ⟨0x0704, 32, execTopologyRead⟩,
   ⟨0x0801, 8, execBufferConfigure⟩, ⟨0x0802, 8, execBufferQuota⟩, ⟨0x0803, 20, execFrameSubmit⟩, ⟨0x0804, 8, execRxRing⟩,
   ⟨0x0901, 8, execKeyLoad⟩, ⟨0x0902, 8, execKeyClear⟩, ⟨0x0903, 8, execCipherBind⟩, ⟨0x0904, 8, execCipherConfigure⟩,
   ⟨0x0A01, 8, execChkAssign⟩, ⟨0x0A02, 8, execChkBind⟩, ⟨0x0A03, 16, execChkDma⟩]

/-- timebase.settime, by its mode (R432). -/
def settime (c : Caller) (req : Bytes) (s : State) : Out :=
  if rd req 0 1 = 0 then execTimebaseSettimeFull c req s else execTimebaseSettimeSeconds c req s

/-- The trunk, sensing and timebase commands (groups 0x0B to 0x0D). -/
def trunkCommands : List Command :=
  [⟨0x0B01, 8, execTrunkConfigure⟩, ⟨0x0B02, 8, execTsiWrite⟩, ⟨0x0B03, 8, execTsiMode⟩, ⟨0x0B04, 16, execTsiCommit⟩,
   ⟨0x0B05, 520, execTsiRead⟩, ⟨0x0B06, 8, execPairConfigure⟩, ⟨0x0B07, 8, execPairSwitch⟩, ⟨0x0C01, 8, execSenseConfigure⟩,
   ⟨0x0C02, 8, execSenseCharge⟩, ⟨0x0C03, 8, execSenseLincoef⟩, ⟨0x0C04, 8, execPdConfigure⟩, ⟨0x0C05, 8, execI2cConfigure⟩,
   ⟨0x0C06, 264, execI2cTransfer⟩, ⟨0x0C07, 8, execSenseAssign⟩, ⟨0x0D01, 8, execTimebaseConfigure⟩, ⟨0x0D02, 16, settime⟩]

/-- fw.update, by its stage (R460). -/
def fwUpdate (c : Caller) (req : Bytes) (s : State) : Out :=
  match rd req 0 1 with
  | 0 => execFwUpdateBegin c req s
  | 1 => execFwUpdateWrite c req s
  | _ => execFwUpdateFinish c req s

/-- sec.observe, by its stage (R499). -/
def secObserve (c : Caller) (req : Bytes) (s : State) : Out :=
  match rd req 0 1 with
  | 0 => execSecObserveChallenge c req s
  | 1 => execSecObserveToken c req s
  | _ => execSecObserveEnd c req s

/-- The commands of the management complex, pods, security, observation, power, events and services (groups 0x0E to 0x14). -/
def systemCommands : List Command :=
  [⟨0x0E01, 8, execMbxCredits⟩, ⟨0x0E02, 4096, execMbxListen⟩, ⟨0x0E03, 8, execProfileSet⟩, ⟨0x0E04, 8, execPowerSetcap⟩,
   ⟨0x0E05, 12, execFwInfo⟩, ⟨0x0E06, 8, fwUpdate⟩, ⟨0x0E07, 8, execFwActivate⟩, ⟨0x0F01, 8, execPodReset⟩,
   ⟨0x0F02, 8, execPodAssign⟩, ⟨0x0F03, 8, execPodWindow⟩, ⟨0x1001, 8, execSecLifecycle⟩, ⟨0x1002, 8, execSecRevoke⟩,
   ⟨0x1003, 8, execKekInstall⟩, ⟨0x1004, 200, execKekAgree⟩, ⟨0x1005, 8, execKekClear⟩, ⟨0x1006, 112, execSecIdentity⟩,
   ⟨0x1007, 8, execSecTamperConfigure⟩, ⟨0x1008, 8, execSecTamperClear⟩, ⟨0x1009, 24, secObserve⟩, ⟨0x1101, 8, execPmcAssign⟩,
   ⟨0x1102, 8, execPmcConfigure⟩, ⟨0x1103, 8, execTagConfigure⟩, ⟨0x1104, 8, execTrcConfigure⟩, ⟨0x1105, 8, execTrcRead⟩,
   ⟨0x1201, 8, execPwrStandby⟩, ⟨0x1202, 8, execChiveConfigure⟩, ⟨0x1203, 8, execSysReset⟩, ⟨0x1301, 8, execEvtRoute⟩,
   ⟨0x1401, 8, execSvcRegistrySet⟩, ⟨0x1402, 8, execSvcMeterSchedule⟩, ⟨0x1403, 8, execSvcLoadShed⟩,
   ⟨0x1404, 8, execSvcDispatchSet⟩]

/-- The command of a code, none where the code is not assigned. -/
def commandOf (code : Nat) : Option Command :=
  (lineCommands ++ linkCommands ++ trunkCommands ++ systemCommands).find? (fun k => k.code == code)

/-! ### The take (R438 to R441) -/

/-- Whether a lane may be served: its descriptor at CONS meets R441, R445, R463, R472 and R292. -/
def laneReady (s : State) (pod_ lane : Nat) : Bool :=
  let x := mbxLane s pod_ lane
  s.mgmt.ready && fnExists s pod_ && !(pod s pod_).resetting && !laneHeld s pod_ lane && x.enable && !x.fault
    && x.prod != x.cons && decide (inFw s pod_ lane < laneCredit s pod_ lane) && laneRoom s pod_ lane

/-- Whether it is a lane's turn (R441): bulk lanes come after the others, and the pods of a class take turns. An urgent lane is not held
to come before a normal one, for which a quarter of the processor time is kept (DESIGN CHOICE, log 172). -/
def inTurn (s : State) (pod_ lane : Nat) : Bool :=
  let ready := fun (l p : Nat) => laneReady s p l
  (lane != 2 || !(List.range 65).any (fun p => ready 0 p || ready 1 p))
    && ((List.range 65).map (fun i => (tget 64 s.mgmt.served lane + 1 + i) % 65)).find? (ready lane) == some pod_

/-- Whether the device takes the descriptor at CONS of a lane (R441). -/
def mayTake (s : State) (pod_ lane : Nat) : Bool := laneReady s pod_ lane && inTurn s pod_ lane

/-- The sender of a descriptor (R438). -/
def descCaller (pod_ lane : Nat) (d : Bytes) (io : CmdIo) : Caller where
  pod := pod_
  lane := lane
  tag := BitVec.ofNat 64 (rd d 24 8)
  respAddr := BitVec.ofNat 64 (rd d 16 8)
  respMax := rd d 6 2
  raise := bit (rd d 2 1) 0
  gone := false
  io := { io with readFails := io.readFails && decide (rd d 4 2 > 24) }

/-- Whether a descriptor has the form of R438 for a command whose largest response has n bytes; of trc.read n is the least RESP_MAX it
takes. -/
def mbxDescOk (d : Bytes) (n : Nat) : Bool :=
  let len := rd d 4 2
  let resp := rd d 16 8
  decide (rd d 2 1 ≤ 1) && reservedZero d [(3, 1), (32, 8)] && decide (len ≤ 4096) && decide (rd d 6 2 ≤ 8192)
    && (if len ≤ 24 then reservedZero d [(40 + len, 24 - len)] else rd d 8 8 % 8 == 0)
    && (if resp = 0 then decide (n ≤ 16) && rd d 0 2 != 0x1105 else resp % 8 == 0 && decide (n ≤ rd d 6 2))

/-- The request of a descriptor: inline, or as it lies in host memory. -/
def descRequest (d request : Bytes) : Bytes :=
  let len := rd d 4 2
  if len ≤ 24 then slice d 40 len else (request ++ zeros len).take len

/-- CONS passes a descriptor (R441): the command is taken, its reads counted. -/
def accountTake (pod_ lane : Nat) (d : Bytes) (s : State) : State :=
  let len := rd d 4 2
  let s := updMbxLane pod_ lane (fun x => { x with cons := x.cons + 1 }) { s with mgmt.served := tset s.mgmt.served lane pod_ }
  let s := count 0x0009 { cls := some lane, pod := some pod_ } 1 (bump 3076 1 s)
  count 0x0010 { pod := some pod_ } (64 + if len > 24 then len else 0) s

/-- A command is taken and starts. -/
def startTaken (pod_ lane : Nat) (d request : Bytes) (io : CmdIo) (s : State) : Out :=
  let c := descCaller pod_ lane d io
  match commandOf (rd d 0 2) with
  | none => .next (complete c St.unknownCommand [] s)
  | some k =>
    if !mbxDescOk d k.maxResp then .next (complete c St.badParam [] s) else k.run c (descRequest d request) s

/-- A submission that admission holds stays at CONS: its take comes with its admission (R292). -/
def holdAtCons (pod_ lane : Nat) (s : State) : State :=
  let mine := fun (h : Held) => match h.sealer with | .mailbox c => c.pod == pod_ && c.lane == lane | _ => false
  { s with lbf.held := replaceWhere mine (fun h => { h with atCons := true }) s.lbf.held }

/-- MBX_DESCRIPTOR_TAKE (R438 to R441): a descriptor that cannot be read takes nothing and faults the lane. -/
def execMbxDescriptorTake (pod_ lane : Nat) (desc request : Bytes) (descFails : Bool) (io : CmdIo) (s : State) : Out :=
  if !validLane pod_ lane then .fault .absentResource
  else
    let d := (desc ++ zeros 64).take 64
    if !mayTake s pod_ lane || standbyStops s (descCaller pod_ lane d io) then .next s
    else if descFails || !hostOk s pod_ then .next (mbxFault pod_ lane s)
    else
      match startTaken pod_ lane d request io s with
      | .next t =>
        if laneHeld t pod_ lane then .next (holdAtCons pod_ lane t)
        else startTaken pod_ lane d request io (accountTake pod_ lane d s)
      | o => o

/-! ### The end of a wait (R592) -/

/-- COMMAND_WAIT_END (R592, R443): the command starts, or waits on where what it waits for has not ended. -/
def execCommandWaitEnd (caller : Caller) (s : State) : Out :=
  match s.mgmt.waiting.find? (fun k => sameCaller caller k.caller) with
  | none => .next s
  | some k =>
    match commandOf k.code with
    | none => .next s
    | some x => x.run { k.caller with io := caller.io } k.req s

end Sys2Proof.Machine
end

