-- ==== Sys2Proof/Machine/Pair.lean ====
section
/-! DEFINITION. The trunk's traffic and the redundant pair (13 R351 to R354, R363, R364, R370 to R373; 20 R544 to R548). -/

namespace Sys2Proof.Machine

/-! ### Entering and leaving silence (R545 to R547) -/

/-- A port stops sending: its transmission is given up, its TXEN released. -/
def hushPort (p : Nat) (s : State) : State :=
  if !isOpen s p then s
  else
    let s := updMac p (fun m => { m with contend := .idle, bc := none, holdOff := none, ackDue := none }) (abandonTx p s)
    closeWhenIdle p (setTxen p .released s)

/-- The device falls silent: shadow mode, or the end of a failing device's traffic. -/
def goSilent (s : State) : State :=
  if silent s then s
  else
    let s := (List.range s.part.ports).foldl (fun s p => hushPort p s) { s with trk.pair.shadow := true }
    let engaged := s.canc.pairs.filter (fun e => e.2.state == .engaged)
    engaged.foldl (fun s e => setCanc (e.1 / 128) (e.1 % 128) .training s) s

/-- A port sends again (R546): what was due before the boundary is not sent. -/
def wakePort (p : Nat) (s : State) : State :=
  if !isOpen s p then s
  else
    let keep := fun (m : PortMac) =>
      { m with ackDue := match m.ackDue with | some a => if a.due < s.now then none else some a | none => none }
    startContention p s.now (setTxen p .low (updMac p keep s))

/-- The device leaves shadow mode (R546). -/
def leaveShadow (s : State) : State :=
  if !silent s then s
  else (List.range s.part.ports).foldl (fun s p => wakePort p s) { s with trk.pair.shadow := false }

/-! ### Mirror records (R370) -/

/-- The active device sends all of its state (R370). -/
def mirrorAll (s : State) : State :=
  let eps := (s.eps.filter (fun e => e.2.state != .free)).map (·.1)
  let s := eps.foldl (fun s e => mirrorEp e s) s
  let s := (s.tm.maps.filter (fun e => e.2.valid)).foldl (fun s e =>
    mirrorMap (e.1 / 32 / 16384) (e.1 / 32 % 16384) (e.1 / 16 % 2) (e.1 % 16) s) s
  let ports := List.range s.part.ports
  let s := ports.foldl (fun s p =>
    if isOpen s p then
      mirrorSend (.beacon p (port s p).mac.beaconSeq.toNat (timeAt s.tmb (port s p).mac.beaconAt).toNat)
        (mirrorSend (.tree p (port s p).topo.active.toNat (activeParents s p)) s)
    else s) s
  s.nbrs.foldl (fun s e =>
    let p := e.1 / 32768
    let n := e.1 % 32768
    [0, 1, 2, 3].foldl (fun s c => mirrorSeq p n c s) (mirrorNbr p n s)) s

/-- The state of a code of R262. -/
def epState : Nat → EpState
  | 1 => .joining | 2 => .reachable | 3 => .unreachable | _ => .free

/-- The sample count of a time near now. -/
def sampleNear (s : State) (time : Nat) : Nat :=
  let d := toSigned 64 ((BitVec.ofNat 64 time - tmbNow s).toNat)
  ((s.now : Int) + d * 500000000 / (2 ^ 32 : Nat)).toNat

/-- Who stands for the peer's sender when mirrored configuration is applied: nothing of it comes back. -/
def mirrorCaller : Caller where
  pod := 0
  lane := 0
  tag := 0
  respAddr := 0
  respMax := 0
  raise := false
  gone := true
  io := { readFails := false, consumer := none, data := none, drvfltLow := false, image := none, tamperActive := 0 }

/-- The standby applies a mirror record (R370). -/
def applyMirror (r : MirrorRec) (s : State) : Out :=
  match r with
  | .endpoint ep state port_ pod_ eui txSlot rxSlot =>
    if state = 0 then .next { s with eps := tdel s.eps ep }
    else .next (updEndpoint ep (fun e =>
      { e with state := epState state, port := port_, pod := pod_, eui := eui, txSlot := txSlot, rxSlot := rxSlot }) s)
  | .toneMap p ep dir id gen streams gi rate flags loading feedback infoBits =>
    .next (updMap p ep dir id (fun m =>
      { m with valid := true, generation := BitVec.ofNat 8 gen, streams := streams, gi := gi, rate := rate, flags := flags,
               loading := loading, feedback := feedback, infoBits := infoBits, installedAt := s.now }) s)
  | .tree p version parents =>
    .next (activateVersion p
      { version := BitVec.ofNat 8 version, parents := parents, owed := [], sent := [], members := members s p, age := 0 }
      (updTopo p (fun t => { t with lastVersion := BitVec.ofNat 8 version }) s))
  | .seqs p ep cls next expected =>
    .next (updNbr p ep (fun x => { x with nextSeq := tset x.nextSeq cls next, expected := tset x.expected cls expected }) s)
  | .neighbour p ep counter degraded dRt =>
    .next (updNbr p ep (fun x =>
      { x with counter := BitVec.ofNat 8 counter, degraded := degraded, dRt := dRt.map (· * 256) }) s)
  | .beacon p seq start =>
    let at_ := sampleNear s start
    let next := nextBeaconOf (port s p) at_
    .next (updMac p (fun m =>
      { m with beaconSeq := BitVec.ofNat 16 seq, beaconAt := at_, nextBeacon := next, lastNext := next }) s)
  | .config _ code req =>
    match commandOf code with
    | some k => if mirrored.contains code then k.run mirrorCaller req s else .next s
    | none => .next s

/-- MIRROR_RECORD_RECEIVE (R370): its sender's heartbeat is taken to run. -/
def execMirrorRecordReceive (record : MirrorRec) (s : State) : Out :=
  if s.pwr.phase != .running || s.trk.pair.role != .standby || mirrorDown s then .next s
  else applyMirror record { s with trk.pair.hbLost := false }

/-! ### The pair (R370 to R373, R544 to R548) -/

/-- PEER_READY_SET (R370). -/
def execPeerReadySet (s : State) : Out :=
  .next (if !pairUp s || mirrorDown s || s.trk.pair.peerReady then s
    else pairEvent { s with trk.pair.peerReady := true, trk.pair.hbLost := false })

/-- A takeover is declared (R371, R372): unless a planned switch comes anyway (R548). -/
def declareTakeover (s : State) : State :=
  if s.trk.pair.takeover.isSome || s.trk.pair.planned.isSome then s
  else pairEvent { s with trk.pair.takeover := some (nextFrame s) }

/-- PEER_FAILING_DETECT (R371, R548): the LSTAT role of one mirror frame. -/
def execPeerFailingDetect (role : Nat) (s : State) : Out :=
  .next (if s.trk.pair.role != .standby || mirrorDown s then s
    else
      let run := if role = 3 then s.trk.pair.failingRun + 1 else 0
      let s := { s with trk.pair.failingRun := run }
      if run ≥ 2 && s.trk.pair.peerReady then declareTakeover s else s)

/-- PAIR_TAKEOVER (R371, R372, R548): LOS or LOF on every mirror lane for 500 us, with the confirmation of R544. -/
def execPairTakeover (s : State) : Out :=
  .next (match s.trk.pair.mirrorLost with
    | none => s
    | some t =>
      let x := s.trk.pair
      if x.role != .standby || !x.auto || !x.peerReady || !x.hbLost then s
      else declareTakeover (advanceTo (t + us 500) s))

/-- Each transmit sequence number jumps past what the failed device can have used (R372), of the endpoints not yet heard of too. -/
def jumpSeqs (s : State) : State :=
  let s := s.eps.foldl (fun s e => if e.2.state == .free then s else updNbr e.2.port e.1 id s) s
  { s with nbrs := tmap (fun _ x =>
      { x with nextSeq := [0, 1, 2, 3].map (fun c => (c, (tget 0 x.nextSeq c + 1024) % 4096)) }) s.nbrs }

/-- The standby becomes the active device at a boundary (R372, R546). -/
def becomeActive (ready : Bool) (s : State) : State :=
  let s := jumpSeqs (switchPage s)
  let s := { s with trk.pair.role := .active, trk.pair.takeover := none, trk.pair.planned := none, trk.pair.failFrom := none,
                    trk.pair.failingRun := 0, trk.pair.peerReady := ready, trk.switched := true }
  pairEvent (leaveShadow s)

/-- TAKEOVER_BOUNDARY (R372, R546). -/
def execTakeoverBoundary (s : State) : Out :=
  .next (match s.trk.pair.takeover with
    | none => s
    | some f =>
      if s.trk.pair.role != .standby then s else becomeActive false (advanceToFrame f s))

/-- PLANNED_SWITCH_BOUNDARY (R373, R547, R548): a device that failed meanwhile stays failing. -/
def execPlannedSwitchBoundary (s : State) : Out :=
  .next (match s.trk.pair.planned with
    | none => s
    | some f =>
      let s := advanceToFrame f s
      match s.trk.pair.role with
      | .standby => becomeActive s.trk.pair.peerReady s
      | .active =>
        let s := { switchPage s with trk.pair.role := .standby, trk.pair.planned := none, trk.pair.failFrom := none, trk.switched := true }
        pairEvent (goSilent s)
      | .failing => goSilent { s with trk.pair.planned := none }
      | .unpaired => { s with trk.pair.planned := none })

/-- HEARTBEAT_LOSS (R544, R548). -/
def execHeartbeatLoss (s : State) : Out :=
  .next (if !pairUp s || s.trk.pair.hbLost then s else pairEvent (peerGone { s with trk.pair.hbLost := true }))

/-- MIRROR_LINK_LOSS_TIMEOUT (R544). -/
def execMirrorLinkLossTimeout (s : State) : Out :=
  .next (match s.trk.pair.mirrorLost with
    | none => s
    | some t =>
      if !pairUp s || s.trk.pair.hbLost || !s.trk.pair.peerReady then s
      else pairEvent { advanceTo (t + secs 1) s with trk.pair.peerReady := false })

/-- A pair.configure takes effect (R370): the mirror link's entries are set in both pages. -/
def applyRole (role : PairRole) (auto : Bool) (s : State) : State :=
  let link := (List.range s.part.slots).filter (onMirrorLink s)
  let put := fun (p : TsiPage) => { p with entries := link.foldl (fun t k => tset t k { txType := 4, rxType := 2 }) p.entries }
  let s := if role = .unpaired then s else { s with trk.page0 := put s.trk.page0, trk.page1 := put s.trk.page1 }
  let s := { s with trk.pair := { role := role, auto := auto, shadow := s.trk.pair.shadow,
                                  mirrorLost := if mirrorDown s then some s.now else none } }
  let s := heartbeat (pairUp s) s
  pairEvent (match role with
    | .standby => goSilent s
    | .active => mirrorAll (leaveShadow s)
    | _ => leaveShadow s)

/-! ### Frames (R351 to R354, R360) -/

/-- The role a frame carries (R353, R373): failing from the first failing frame. -/
def roleCode (s : State) (f : Nat) : Nat :=
  match s.trk.pair.role with
  | .unpaired => 0
  | .active => if (s.trk.pair.failFrom.map (fun g => decide (g ≤ f))).getD false then 3 else 1
  | .standby => 2
  | .failing => 3

/-- Row 0 of a frame (R353). -/
def rowZero (s : State) (n f : Nat) : Bytes :=
  let l := trunkLane s n
  let t := BitVec.ofNat 64 (frameTime f)
  let seen := l.rxTime != 0
  [0xF6, 0xF6, 0xF6, 0x28, 0x28, 0x28] ++ beBytes 1 s.trk.txMfi.toNat ++ beBytes 1 n ++ beBytes 8 t.toNat
    ++ beBytes 1 (quality s + if s.tmb.valid then 128 else 0)
    ++ beBytes 1 ((if txRdi l then 1 else 0) + 2 * roleCode s f + if (activePage s).fixed then 8 else 0)
    ++ beBytes 2 l.cfg.nodeId.toNat ++ zeros 4 ++ beBytes 8 l.rxTime.toNat
    ++ beBytes 4 (if seen then (t - l.rxAt).toNat % 2 ^ 32 else 0) ++ zeros 28

/-- The words of member j of a group of g slots (R355): every g-th word of the stream, from word j. -/
def memberWords (g j : Nat) : Nat → Bytes → Bytes
  | 0, _ => []
  | n + 1, b => if b.isEmpty then [] else slice b (8 * j) 8 ++ memberWords g j n (b.drop (8 * g))

/-- The 8 overhead bytes of a slot (R354). -/
def slotOverhead (s : State) (slot ptr : Nat) : Bytes :=
  beBytes 1 (txLabel s slot) ++ beBytes 1 (if slotTxRdi s slot then 1 else 0) ++ beBytes 2 ptr
    ++ beBytes 2 (trunkLane s (slot / 64)).cfg.nodeId.toNat ++ beBytes 2 slot

/-- What one first slot and its group put into a frame, and the state after it (R354 to R356): AIS carries zeros; after a transmit
underflow every slot of the lane carries it (R361). -/
def sendSlot (slot : Nat) (s : State) : State × List SlotOut :=
  let e := tsiEntry s.part (activePage s) slot
  let label := txLabel s slot
  let g := groupSize e
  let silent := fun (j : Nat) => ({ k := (slot + j) % 64, overhead := slotOverhead s (slot + j) 0xFFFF, data := [] } : SlotOut)
  if (trunkLane s (slot / 64)).txShort then (s, [silent 0])
  else if isMember e then (s, [])
  else if label = 0x00 || label = 0xFF then
    (s, if label = 0x00 && g = 1 && !slotTxRdi s slot then [] else (List.range g).map silent)
  else
    match drawStream slot (24000 * g) s with
    | (t, data, ptr) =>
      (t, (List.range g).map (fun j =>
        { k := (slot + j) % 64, overhead := slotOverhead s (slot + j) (if j = 0 then ptr else 0xFFFF),
          data := if g = 1 then data else memberWords g j 3000 data }))

/-- The 64 overhead bytes of row r of a frame (R353, R354): a slot position that is not listed is unequipped. -/
def rowOverhead (row0 : Bytes) (slots : List SlotOut) (r : Nat) : Bytes :=
  if r = 0 then row0
  else if r > 64 then zeros 64
  else
    match slots.find? (fun x => x.k == r - 1) with
    | some x => x.overhead ++ zeros 56
    | none => beBytes 2 0 ++ beBytes 2 0xFFFF ++ slice row0 18 2 ++ beBytes 2 (64 * rd row0 7 1 + (r - 1)) ++ zeros 56

/-- The 3,072 payload bytes of row r (R350): word w belongs to slot position w mod 64; a slot without data carries zeros. -/
def rowPayload (slots : List SlotOut) (r : Nat) : Bytes :=
  (List.range 384).flatMap (fun w =>
    let data := ((slots.find? (fun x => x.k == w % 64)).map (·.data)).getD []
    let word := slice data (48 * r + 8 * (w / 64)) 8
    word ++ zeros (8 - word.length))

/-- The bytes of a frame (R350). -/
def frameBytes (row0 : Bytes) (slots : List SlotOut) : Bytes :=
  (List.range 500).flatMap (fun r => rowOverhead row0 slots r ++ rowPayload slots r)

/-- The additive scrambler x^23 + x^18 + 1 (R352) over the bits of bytes, most significant first (R349), from a register value. -/
def trunkScramble : Nat → Bytes → Bytes
  | _, [] => []
  | reg, x :: rest =>
    let step := fun (a : Nat × Nat) (i : Nat) =>
      let b := bit a.1 22 != bit a.1 17
      (a.1 * 2 % 2 ^ 23 + (if b then 1 else 0), 2 * a.2 + (if bit x.toNat (7 - i) != b then 1 else 0))
    let out := (List.range 8).foldl step (reg, 0)
    BitVec.ofNat 8 out.2 :: trunkScramble out.1 rest

/-- The bytes that a lane sends for a frame and the fill after it (R351, R352): the six alignment bytes as they are, everything after
them scrambled from all ones, without reset through the fill. -/
def trunkBytes (row0 : Bytes) (slots : List SlotOut) (fill : Bytes) : Bytes :=
  let b := frameBytes row0 slots ++ fill
  b.take 6 ++ trunkScramble (2 ^ 23 - 1) (b.drop 6)

/-- A frame starts on a Skeluz lane (R351): the count of fill bytes after it, which both ends' clocks decide within the stated range, is a free
value (log 170). -/
def sendFrame (n f : Nat) (s : State) : State :=
  let row0 := rowZero s n f
  let put := fun (a : State × List SlotOut) (k : Nat) =>
    match sendSlot (64 * n + k) a.1 with
    | (t, l) => (t, a.2 ++ l)
  match (List.range 64).foldl put (s, []) with
  | (t, l) =>
    match freshNat t with
    | (v, t) => updTrunkLane n (fun x => { x with txShort := false }) (emit (.trunkFrame n row0 l (446 + v % 316)) t)

/-- What comes due for the pair at boundary f: a configured role (R380), the standby's boundary of a failing device (R545). -/
def pairBoundary (f : Nat) (s : State) : State :=
  let s := match s.trk.pair.next with
    | some (role, auto, g) => if g ≤ f then applyRole role auto s else s
    | none => s
  let beyond := (s.trk.pair.failFrom.map (fun g => decide (g + 2 ≤ f))).getD false
  if s.trk.pair.role = .failing && beyond then goSilent s else s

/-- The frame that starts next: a boundary of the timebase not before now, after the last one sent (R351). -/
def frameDue (s : State) : Nat :=
  let f := frameAfter (tmbNow s).toNat
  match s.trk.lastFrame with
  | some g => if f ≤ g then g + 1 else f
  | none => f

/-- TRUNK_FRAME_TRANSMIT (R351): at the boundary of a pending sys.reset of a pair the reset phase starts (R545). -/
def execTrunkFrameTransmit (s : State) : Out :=
  .next (if s.pwr.phase != .running then s
    else
      let f := frameDue s
      let s := pairBoundary f (advanceToFrame f s)
      if (s.pwr.sysResetFrame.map (fun g => decide (g ≤ f))).getD false then beginReset 5 s.now s
      else
        let lanes := (List.range s.part.trunkLanes).filter (isSkeluz s)
        let s := lanes.foldl (fun s n => sendFrame n f s) s
        { s with trk.lastFrame := some f, trk.txMfi := s.trk.txMfi + 1, trk.discardRun := [] })

/-! ### Units on the trunk (R363, R364) -/

/-- TRUNK_UPLINK_PACKET (R363): the unit enters the stream of its slot in the order of its endpoint and class. -/
def execTrunkUplinkPacket (flight_ : Nat) (s : State) : Out :=
  .next (match reasm s flight_ with
    | none => s
    | some r =>
      match uplinkSlot s r.port r.pod with
      | none => s
      | some (k, _) =>
        if !r.ready || olderUnit s r || (trunkLane s (k / 64)).cfg.mode == .off then s
        else
          let flags := (if r.poisoned then 1 else 0) + if r.passThrough then 2 else 0
          let it : StreamItem := { pod := r.pod, isPacket := true, data := packet 1 flags r.ep r.cls r.pod r.data }
          delivered flight_ r (slotSend k it s))

/-- A feed packet is discarded (R364, R381): counted, with one event a frame. -/
def discardFeed (lane : Nat) (s : State) : State :=
  let first := !s.trk.discardRun.contains lane
  let s := updTrunkLane lane (fun l => { l with dlDiscards := satAdd l.dlDiscards 1 })
             { s with trk.discardRun := if first then s.trk.discardRun ++ [lane] else s.trk.discardRun }
  if first then raiseTrunk lane 8 1 0 0 s else s

/-- Whether a packet is whole (R356): its length, its CRC, a type in use. -/
def packetOk (b : Bytes) : Bool :=
  let len := rdBe b 0 2
  let body := b.take (b.length - 8)
  decide (1 ≤ len) && decide (len ≤ 8236) && b.length == 16 + len + (8 - len % 8) % 8 && rdBe b 2 1 != 0 && decide (rdBe b 2 1 ≤ 3)
    && rdBe b (b.length - 8) 4 == crc32c body

/-- Whether a pod's unit of n bytes may go to an endpoint of a port (R364, R26); a broadcast as R292 allows one. -/
def feedAllowed (s : State) (p pod_ ep : Nat) : Bool :=
  decide (pod_ ≤ 64) && !(pod s pod_).resetting
    && (if ep = 0x7FFF then mayBroadcast s pod_ p
        else decide (ep < 16384) && (endpoint s ep).state != .free && (endpoint s ep).port == p && (endpoint s ep).pod == pod_)

/-- A sealed unit is enqueued as it stands (R364), none when admission would hold it. -/
def feedSealed (p pod_ ep cls : Nat) (content : Bytes) (s : State) : Option State :=
  let h := { submission s pod_ ep cls p 0 .none .none content with len := content.length }
  if tooLong s p cls content.length then none
  else match stopCause s h, freeFlight s p with
    | none, some n => some (enqueueFlight n content (admitFlight n h s))
    | _, _ => none

/-- A unit to be sealed is admitted (R364, R304), none when admission would hold it or its binding does not seal. -/
def feedPlain (p pod_ ep cls : Nat) (content : Bytes) (s : State) : Option State :=
  let h := submission s pod_ ep cls p content.length .engine .none content
  let key := slotKey s pod_ (txSlotOf s pod_ ep)
  if (submitStop s pod_ ep cls p content.length St.badParam).isSome || !(key.map (fun k => bit k.usage.toNat 0)).getD false then none
  else match stopCause s h, freeFlight s p with
    | none, some n => some (admitFlight n h s)
    | _, _ => none

/-- FEED_PACKET_RECEIVE (R356, R360, R364, R367, R381): slot is the first slot of its group. -/
def execFeedPacketReceive (slot : Nat) (packet : Bytes) (s : State) : Out :=
  if slot ≥ s.part.slots then .fault .absentResource
  else
    let e := tsiEntry s.part (activePage s) slot
    let lane := slot / 64
    if s.pwr.phase != .running || slotFailed s slot || e.rxType != 1 || !packetOk packet then .next s
    else
      let ep := rdBe packet 4 2
      let cls := rdBe packet 6 1 % 4
      let pod_ := if isFixed (activePage s) slot then (endpoint s ep).pod else rdBe packet 7 1
      let content := slice packet 8 (rdBe packet 0 2)
      if rdBe packet 2 1 != 2 || bit (rdBe packet 3 1) 0 || !feedAllowed s e.rxArg pod_ ep then .next (discardFeed lane s)
      else
        let feed := if bit e.rxFlags 0 then feedSealed else feedPlain
        .next ((feed e.rxArg pod_ ep cls content s).getD (discardFeed lane s))

end Sys2Proof.Machine
end

