-- ==== Sys2Proof/Machine/Registers.lean ====
section
/-! DEFINITION. The register maps of every function (21 R561, R562), what each register reads as, and reads and writes by the rules of
00 R9 to R12. -/

namespace Sys2Proof.Machine

/-! ### The maps (R561, R562) -/

/-- A directly mapped register, or a place of the map that is none. -/
inductive Reg where
  /-- SYS_DEVICE_ID, SYS_SYNTH_STATUS, SYS_WDT_STATUS, SYS_SEC_STATUS, SYS_TAMPER_LOG, SYS_TAMPER_TIME, SYS_RESET_STATUS -/
  | sys (k : Nat)
  | paceTile (n : Nat)
  | avsStatus
  | standbyStatus
  /-- TMB_TIME, TMB_STATUS, TMB_OFFSET, TMB_FREQ, TMB_STEP_AMOUNT, TMB_STEP_TIME, and whether the copy lies in pod 0's window -/
  | tmb (k : Nat) (host : Bool)
  /-- MBX_LANEl: BASE, CMPL_BASE, PROD, STATUS, CMPL_IDX -/
  | mbx (pod lane k : Nat)
  | mbxCredits (pod : Nat)
  | fwStatus
  | admitStatus (pod : Nat)
  | podFwStatus
  | denyLog
  | podStatus (pod : Nat)
  /-- CPH_RINGr: BASE, CMPL_BASE, PROD, STATUS, CMPL_IDX -/
  | cph (pod ring k : Nat)
  | entropy
  | lbfDevice
  | parityLog
  | lbfPort (p : Nat)
  | lbfQueue (q : Nat)
  /-- CHK_CTXc: CFG, POLY, INIT, XOROUT, VALUE, SEQ, RESULT, STATUS -/
  | ctx (c k : Nat)
  /-- TRK_LANEn: STATUS, SLOT_AIS, SLOT_UNEQ, SLOT_PLM, SLOT_RDI, FEC, PEER_DELAY -/
  | trk (n k : Nat)
  | tsi
  /-- TMP_SNS_GROUPg: PRESENT, SEEN -/
  | sns (g k : Nat)
  | compliance
  | die
  | evtSource (i : Nat)
  | evtPending (w : Nat)
  /-- EVT_RING: BASE, IDX, STATUS -/
  | evtRing (fn k : Nat)
  | fixed (id : Nat)
  | fixOvf
  /-- PMC_CTRn, its CFG and its ADDR -/
  | counter (n k : Nat)
  /-- PMC_SNAP_TIME, PMC_SNAP_AT, PMC_SNAP_CTRL -/
  | snap (k : Nat)
  | shadowFixed (id : Nat)
  | shadowCtr (n : Nat)
  | shadowDevice
  | shadowPort (p : Nat)
  | shadowQueue (q : Nat)
  | trcStatus
  | podCtrl (pod : Nat)
  | podMap (pod i : Nat)
  | userSlot (pod i : Nat)
  | userSnap (pod i : Nat)
  | userSeq (pod : Nat)
  /-- a check-value window slot with no context (R331) -/
  | emptySlot
  /-- a double word of the MSI-X table: function, vector, and 0 for the address or 1 for data and control -/
  | msix (fn vector k : Nat)
  /-- a double word of the pending-bit array -/
  | pba (fn w : Nat)
  deriving DecidableEq, Repr

/-- The index of an offset in an array of registers, and the register within its element. -/
def within (base stride count regs off : Nat) : Option (Nat × Nat) :=
  if base ≤ off && off < base + stride * count && decide ((off - base) % stride / 8 < regs) then
    some ((off - base) / stride, (off - base) % stride / 8)
  else none

/-- An array of single registers. -/
def array (base count off : Nat) : Option Nat := (within base 8 count 1 off).map (·.1)

/-- The registers of physical function 0 at 8-byte offsets (R561): the device's own. -/
def hostRegsLow (off : Nat) : Option Reg :=
  ((array 0x0 7 off).map .sys)
    <|> ((array 0x10000 20 off).map .paceTile)
    <|> ((array 0x10100 1 off).map (fun _ => .avsStatus))
    <|> ((array 0x10108 1 off).map (fun _ => .standbyStatus))
    <|> ((array 0x20000 6 off).map (fun k => .tmb k true))
    <|> ((within 0x30000 0x40 3 5 off).map (fun x => .mbx 0 x.1 x.2))
    <|> ((array 0x30100 1 off).map (fun _ => .mbxCredits 0))
    <|> ((array 0x30108 1 off).map (fun _ => .fwStatus))
    <|> ((array 0x40000 1 off).map (fun _ => .admitStatus 0))
    <|> ((array 0x40008 1 off).map (fun _ => .podFwStatus))
    <|> ((array 0x40010 1 off).map (fun _ => .denyLog))
    <|> ((array 0x40100 65 off).map .podStatus)
    <|> ((within 0x50000 0x40 4 5 off).map (fun x => .cph 0 x.1 x.2))
    <|> ((array 0x50100 1 off).map (fun _ => .entropy))
    <|> ((array 0x60000 1 off).map (fun _ => .lbfDevice))
    <|> ((array 0x60008 1 off).map (fun _ => .parityLog))
    <|> ((array 0x60400 128 off).map .lbfPort)
    <|> ((array 0x80000 4096 off).map .lbfQueue)

/-- The registers of physical function 0 at 8-byte offsets (R561): those of the engines, counters and messages. -/
def hostRegsHigh (off : Nat) : Option Reg :=
  ((within 0x100000 0x40 1024 8 off).map (fun x => .ctx x.1 x.2))
    <|> ((within 0x120000 0x100 8 7 off).map (fun x => .trk x.1 x.2))
    <|> ((array 0x121000 1 off).map (fun _ => .tsi))
    <|> ((within 0x130000 0x10 3 2 off).map (fun x => .sns x.1 x.2))
    <|> ((array 0x130040 1 off).map (fun _ => .compliance))
    <|> ((array 0x130048 1 off).map (fun _ => .die))
    <|> ((array 0x140000 1536 off).map .evtSource)
    <|> ((array 0x144000 24 off).map .evtPending)
    <|> ((array 0x145000 3 off).map (.evtRing 0))
    <|> ((array 0x180000 3136 off).map .fixed)
    <|> ((array 0x187000 1 off).map (fun _ => .fixOvf))
    <|> ((within 0x188000 0x20 256 3 off).map (fun x => .counter x.1 x.2))
    <|> ((array 0x18A000 3 off).map .snap)
    <|> ((array 0x1A0000 3136 off).map .shadowFixed)
    <|> ((array 0x1A8000 256 off).map .shadowCtr)
    <|> ((array 0x1A9000 1 off).map (fun _ => .shadowDevice))
    <|> ((array 0x1A9400 128 off).map .shadowPort)
    <|> ((array 0x1B0000 4096 off).map .shadowQueue)
    <|> ((array 0x1C0000 1 off).map (fun _ => .trcStatus))
    <|> ((within 0x1E0000 16 1024 2 off).map (fun x => .msix 0 x.1 x.2))
    <|> ((array 0x1F0000 16 off).map (.pba 0))

/-- The context at a slot of a pod's check-value window (R331). -/
def slotCtx (s : State) (n i : Nat) : Option Nat := (s.chk.find? (fun e => e.2.pod == n && e.2.window == some i)).map (·.1)

/-- A register of a check-value window slot: that of its context, when it has one. -/
def windowReg (s : State) (n i k : Nat) : Reg :=
  match slotCtx s n i with
  | some c => .ctx c k
  | none => .emptySlot

/-- The registers of a pod page at 8-byte offsets (R562). -/
def podRegs (s : State) (n off : Nat) : Option Reg :=
  ((within 0x0 0x40 3 5 off).map (fun x => .mbx n x.1 x.2))
    <|> ((array 0x100 1 off).map (fun _ => .mbxCredits n))
    <|> ((array 0x108 1 off).map (fun _ => .fwStatus))
    <|> ((within 0x1000 0x40 4 5 off).map (fun x => .cph n x.1 x.2))
    <|> ((within 0x2000 0x40 16 8 off).map (fun x => windowReg s n x.1 x.2))
    <|> ((array 0x3000 1 off).map (fun _ => .podStatus n))
    <|> ((array 0x3008 1 off).map (fun _ => .admitStatus n))
    <|> ((array 0x4000 2 off).map (fun k => .tmb k false))
    <|> ((array 0x5000 1 off).map (fun _ => .podCtrl n))
    <|> ((array 0x5008 16 off).map (.podMap n))
    <|> ((array 0x6000 3 off).map (.evtRing n))
    <|> ((within 0x8000 16 16 2 off).map (fun x => .msix n x.1 x.2))
    <|> ((array 0x9000 1 off).map (.pba n))
    <|> ((array 0xF000 16 off).map (.userSlot n))
    <|> ((array 0xF080 16 off).map (.userSnap n))
    <|> ((array 0xF100 1 off).map (fun _ => .userSeq n))

/-- The register that holds an offset of a function's BAR0, none where no register lies. -/
def regAt (s : State) (fn offset : Nat) : Option Reg :=
  let off := offset / 8 * 8
  if fn = 0 then hostRegsLow off <|> hostRegsHigh off else podRegs s fn off

/-- Whether the part has the resource of a register (R2, R561). -/
def regPresent (s : State) : Reg → Bool
  | .paceTile n => s.part.hasTile n
  | .lbfPort p => decide (p < s.part.ports)
  | .shadowPort p => decide (p < s.part.ports)
  | .lbfQueue q => decide (q < s.part.queues)
  | .shadowQueue q => decide (q < s.part.queues)
  | .trk n _ => decide (n < s.part.trunkLanes)
  | .evtSource i => sourceExists s i
  | .fixed id => ((fixedPort id).map (fun p => decide (p < s.part.ports))).getD true
  | .shadowFixed id => ((fixedPort id).map (fun p => decide (p < s.part.ports))).getD true
  | _ => true

/-! ### Values -/

/-- A flag as a one-bit field. -/
def flag (b : Bool) : Nat × Nat := (1, if b then 1 else 0)

/-- OWNER_HI of a part without the high ports reads 0b00 (R81). -/
def ownerHi (s : State) : Nat := if s.part == .gnz5032 then 0 else s.syn.ownerHi.toNat

/-- STATE of MBX_FW_STATUS (R445). -/
def fwCode : FwState → Nat
  | .booting => 0 | .running => 1 | .restarting => 2 | .halted => 3

/-- Whether a synthesizer is locked (R77, R81): not while the reference is lost; one that failed from the time it is sound again. -/
def synthLocked (s : State) (lock failed : Bool) (goodSince : Nat) : Bool :=
  !s.syn.refHold && (lock || (failed && !allStopped s && decide (goodSince < s.now)))

/-- The SYS registers (R4, R81, R449, R500, R501, R532). -/
def sysValue (s : State) : Nat → Word
  | 0 => packWord [(24, 0), (8, 1), (4, s.part.trunkLanes), (4, s.part.ddrChannels), (8, s.part.ports - 1), (16, s.part.code)]
  | 1 => packWord [flag (synthLocked s s.syn.aLock s.syn.aFailed s.syn.aGoodSince),
      flag (synthLocked s s.syn.bLock s.syn.bFailed s.syn.bGoodSince), flag s.syn.aFailed, flag s.syn.bFailed, flag s.syn.refLost, flag s.syn.refHold,
      (2, 0), (2, s.syn.ownerLo.toNat), (2, ownerHi s), (4, 0), flag s.syn.ref25m, (7, 0), (8, s.syn.adoptCount.toNat)]
  | 2 => packWord [flag s.mgmt.restartSeen, (39, 0), (8, s.mgmt.restartCause.toNat), (16, s.mgmt.expiries.toNat)]
  | 3 => packWord [flag s.sec.bootOk, flag s.sec.bootFallback, flag s.sec.kwk.isSome, flag s.sec.tamper, flag s.sec.tamperSeen,
      flag s.sec.restoreFailSeen, flag s.sec.keysRestored, flag s.sec.kwkLost, flag (observing s), (31, 0),
      (4, s.sec.active.toNat), (4, s.sec.revoked.toNat), (6, s.sec.runSecver), (6, s.sec.minSecver), (1, 0), (1, s.sec.bootSlot),
      (2, s.sec.lifecycle)]
  | 4 => packWord [(48, s.sec.alarms.toNat), (9, 0), flag s.sec.logKeyOp, (2, s.sec.logState.toNat), (4, s.sec.logSource.toNat)]
  | 5 => s.sec.tamperTime
  | _ => packWord [flag s.pwr.resetSeen, flag s.pwr.brownoutSeen, flag s.pwr.pcieResetSeen, (37, 0), (4, s.pwr.brownoutRail.toNat),
      (4, s.pwr.cause.toNat), (16, s.pwr.resetCount.toNat)]

/-- PWR_PACE_TILEn (R48). -/
def paceValue (x : Pace) : Word :=
  packWord [flag x.valid, flag x.short, (6, 0), (8, x.fifoPeak.toNat), (16, x.demand.toNat), (16, x.slack.toNat), (16, x.pace.toNat)]

/-- PWR_AVS_STATUS (R50). -/
def avsValue (a : Avs) : Word :=
  packWord [flag a.fault, flag a.emergency, flag (a.vReq.toNat == a.vCap), flag a.tapsHalved, (4, 0), (5, a.limitTile.toNat), (3, 0),
    (16, a.fPlc.toNat), (16, a.vMeas.toNat), (16, a.vReq.toNat)]

/-- PWR_STANDBY_STATUS (R540). -/
def standbyValue (p : Power) : Word :=
  packWord [flag p.wakeSeen, flag p.restoreFail, flag p.restored, flag p.setValid, (19, 0), (14, p.wakeEp.toNat), (7, p.wakePort.toNat),
    (4, p.wakeCause.toNat), (16, p.standbyCount.toNat)]

/-- STATE of TMB_STATUS (R428; log). -/
def tmbState (s : State) : Nat :=
  if s.tmb.step.isSome then 5
  else if !s.tmb.valid then 0
  else if s.tmb.slewLeft != 0 then 2
  else if quality s = 1 then 4
  else if s.tmb.selected = .none then 3
  else 1

def refCode : Ref → Nat
  | .none => 0 | .pps => 1 | .trunk => 2 | .host => 3

/-- The TMB registers (R428, R429). -/
def tmbValue (s : State) : Nat → Word
  | 0 => tmbNow s
  | 1 => packWord [flag s.tmb.valid, flag s.tmb.switchSeen, flag s.tmb.lossSeen, flag s.tmb.lockSeen, flag s.tmb.stepSeen,
      flag s.tmb.hostSet, flag s.tmb.trunkQual, flag s.tmb.ppsQual, (8, 0), (16, s.tmb.stepCount.toNat),
      (22, satTo (2 ^ 22 - 1) (if s.tmb.selected = .none then holdoverSecs s else 0)), (3, s.tmb.cfg.trunkLane.toNat),
      (2, refCode s.tmb.selected), (3, tmbState s), (2, quality s)]
  | 2 => BitVec.ofInt 64 s.tmb.offset
  | 3 => packWord [(32, s.tmb.slewLeft.natAbs), (32, ofInt 32 s.tmb.freq)]
  | 4 => s.tmb.stepAmount
  | _ => s.tmb.stepTime

/-- A ring base register (R312, R313, R436, R559): the address bits and the size. -/
def baseValue (shift base size : Nat) : Word := packWord [(5, size), (shift - 5, 0), (64 - shift, base)]

/-- The lane registers (R436). -/
def mbxValue (s : State) (n l : Nat) : Nat → Word
  | 0 => baseValue 12 (mbxLane s n l).base.toNat (mbxLane s n l).sizeLog2.toNat
  | 1 => baseValue 6 (mbxLane s n l).cmplBase.toNat (mbxLane s n l).cmplLog2.toNat
  | 2 => packWord [(32, (mbxLane s n l).prod.toNat)]
  | 3 =>
    let x := mbxLane s n l
    let k := inFw s n l
    let more := x.enable && !x.fault && x.prod != x.cons
    packWord [flag x.enable, flag (k != 0 || !x.listens.isEmpty), flag x.fault, flag (more && !laneRoom s n l),
      flag (more && decide (k ≥ laneCredit s n l)), (2, 0), flag x.shedSeen, (8, k), (16, x.errStatus.toNat), (32, x.cons.toNat)]
  | _ => packWord [(32, (mbxLane s n l).cmplProd.toNat), (32, (mbxLane s n l).cmplCons.toNat)]

/-- The ring registers (R312 to R316). -/
def cphValue (s : State) (n r : Nat) : Nat → Word
  | 0 => baseValue 12 (cphRing s n r).base.toNat (cphRing s n r).sizeLog2.toNat
  | 1 => baseValue 6 (cphRing s n r).cmplBase.toNat (cphRing s n r).cmplLog2.toNat
  | 2 => packWord [(32, (cphRing s n r).prod.toNat)]
  | 3 =>
    let x := cphRing s n r
    packWord [flag x.enable, flag (s.cph.jobs.any (fun j => j.pod == n && j.ring == r)), flag x.fault,
      flag (x.enable && !x.fault && x.prod != x.cons && !ringRoom x (if x.waitsTwo then 2 else 1)), flag x.held, (11, 0), (16, x.errStatus.toNat), (32, x.cons.toNat)]
  | _ => packWord [(32, (cphRing s n r).cmplProd.toNat), (32, (cphRing s n r).cmplCons.toNat)]

/-- The event ring registers (R559). -/
def evtRingValue (g : EvtRing) : Nat → Word
  | 0 => baseValue 12 g.base.toNat g.sizeLog2.toNat
  | 1 => packWord [(32, g.prod.toNat), (32, g.cons.toNat)]
  | _ => packWord [flag g.enable, flag g.fault, flag g.lostSeen, (45, 0), (16, g.lost.toNat)]

/-- MBX_CREDITS (R437). -/
def creditsValue (c : Credits) : Word := packWord [(8, c.urgent.toNat), (8, c.normal.toNat), (8, c.bulk.toNat)]

/-- MBX_FW_STATUS (R445). -/
def fwValue (s : State) : Word :=
  packWord [flag s.mgmt.ready, flag s.mgmt.shedding, (3, fwCode s.mgmt.fwState), (19, 0),
    (8, s.mgmt.load.toNat), (16, s.mgmt.restartCount.toNat), (16, s.mgmt.fwVersion.toNat)]

/-- POD_ADMIT_STATUS (R277). -/
def admitValue (s : State) (n : Nat) : Word :=
  let x := podLbf s n
  packWord [flag (podBlocked s n), flag x.blockedSeen, (10, 0), (4, x.blockCause.toNat), (5, x.blockQueue.toNat), (7, x.blockPort.toNat),
    (18, x.quota.getD s.part.framesInFlight), (18, podTx s n)]

/-- POD_FW_STATUS (R477). -/
def podFwValue (s : State) : Word :=
  packWord [flag (decide (oldAccesses s > 0)), flag s.fw.denySeen, (6, 0), (8, s.fw.denyCount.toNat), (16, satTo 65535 (oldAccesses s)),
    (32, s.fw.epoch.toNat)]

/-- POD_FW_DENY_LOG (R478). -/
def denyLogValue (f : Firewall) : Word :=
  packWord [(32, f.logOffset.toNat), (20, 0), (3, f.logWindow.toNat), (2, f.logKind.toNat), (7, f.logPod.toNat)]

/-- POD_STATUS (R476). -/
def podStatusValue (s : State) (n : Nat) : Word :=
  let x := pod s n
  packWord [flag (fnExists s n), flag x.resetting, flag x.resetSeen, flag x.denySeen, (12, 0), (4, x.cause.toNat),
    (8, bitmap ((List.range 8).filter (fun w => (window s n w).isOpen))),
    (8, ((List.range s.part.ports).filter (fun p => portOwner s p == n)).length), (12, x.lastResetUs.toNat), (16, x.resetCount.toNat)]

/-- HEAD_STATE of a queue (R286). -/
def headState (s : State) (q : Nat) : Nat :=
  match (queue s q).flights with
  | [] => 0
  | n :: _ =>
    let f := flight s n
    if f.heldPoison then 5 else if f.stage > 0 then 4 else if f.inExchange then 3 else if f.inShare then 2 else 6

/-- Whether check 2 or 3 of R276, whose causes are 1 and 2, holds a submission to a port (R285). -/
def portHeld (s : State) (p : Nat) : Bool :=
  s.lbf.held.any (fun h => h.port == p && (match admitCause s h with | some c => decide (c ≤ 2) | none => false))

/-- LBF_DEVICE_STATUS, LBF_PORT_STATUSp and LBF_QUEUE_STATUSq (R284 to R286): the count fields and the rest. -/
def lbfDeviceValue (s : State) : Word := lbfDeviceCounts s ||| packWord [flag s.lbf.paritySeen, flag s.lbf.ddrFault]

def lbfPortValue (s : State) (p : Nat) : Word :=
  lbfPortCounts s p ||| packWord [flag (portHeld s p), flag (port s p).rxOverrun, (29, 0), (11, 1024 - (port s p).rxReserve)]

def lbfQueueValue (s : State) (q : Nat) : Word := lbfQueueCounts s q ||| packWord [(28, 0), (4, headState s q)]

/-- LBF_PARITY_LOG (R287). -/
def parityValue (l : LinkBuf) : Word :=
  packWord [(32, l.logIndex.toNat), (13, l.logUnit.toNat), (3, l.logArea.toNat), (16, l.logCount.toNat)]

/-- The registers of a context (R332 to R334): it is loaded in a unit while its DMA job runs. -/
def ctxValue (x : ChkCtx) : Nat → Word
  | 0 => packWord [(32, 0), (4, x.preset.toNat), flag x.refout, flag x.refin, flag x.foldSeq, flag x.foldId, (2, x.alive.toNat),
      (6, x.widthM1.toNat), (16, x.dataId.toNat)]
  | 1 => x.poly
  | 2 => x.init
  | 3 => x.xorout
  | 4 => x.value
  | 5 => x.seq
  | 6 => x.result
  | _ => packWord [flag x.done, flag ((x.bound.map (·.2)).getD false), flag x.failSeen, flag x.writeRejected, flag x.poisonSeen,
      flag x.dma.isSome, flag x.dma.isSome, flag x.bound.isSome, (8, 0), (16, x.stale.toNat), (16, x.lost.toNat), (16, x.fails.toNat)]

def trunkModeCode : TrunkMode → Nat
  | .off => 0 | .skeluz => 1 | .ethernet => 2

/-- The slots of a lane that a defect is present on (R375); LOS and LOF mask them all (R359). -/
def slotBits (l : TrunkLane) (f : SlotRx → Bool) : Word :=
  BitVec.ofNat 64 (positionsWhere (fun k => f (tget {} l.slots k) && !txRdi l))

/-- The registers of a trunk lane (R374, R375): a masked defect is not reported (R359). -/
def trkValue (l : TrunkLane) : Nat → Word
  | 0 => packWord [flag (laneUp l), flag (txRdi l), flag l.los, flag (l.lof && !l.los), flag (l.rdi && !txRdi l), flag l.inFrame, flag l.cwLock,
      flag l.losSeen, flag l.lofSeen, flag l.rdiSeen, flag l.sdSeen, flag l.fifoSeen, flag (l.sd && !txRdi l), (3, 0), (8, l.mfi.toNat), (16, l.dlDiscards.toNat),
      (16, l.peerNode.toNat), flag l.peerFixed, (2, l.peerRole.toNat), (3, l.peerLane.toNat), (2, trunkModeCode l.cfg.mode)]
  | 1 => slotBits l (·.ais)
  | 2 => slotBits l (·.uneq)
  | 3 => slotBits l (·.plm)
  | 4 => slotBits l (·.rdi)
  | 5 => packWord [(32, l.uncorrectable.toNat), (32, l.corrected.toNat)]
  | _ => packWord [(32, l.delay.toNat), (31, 0), flag l.delayValid]

/-- TRK_TSI_STATUS (R376). -/
def tsiValue (s : State) : Word :=
  let t := s.trk
  packWord [flag t.activePage, flag (commitPending s), flag t.commitDone, flag t.switched,
    flag (s.part.mirrorLanes.any (fun n => (trunkLane s n).inFrame)), flag (activePage s).fixed,
    (2, roleCode s (frameNo (tmbNow s).toNat)), flag t.pair.peerReady, (23, 0), (8, t.switchMfi.toNat), (8, 0), (16, t.commitCount.toNat)]

/-- The inputs of a sensing group, as positions below 32, of a list of input numbers. -/
def groupBits (g : Nat) (l : List Nat) : Nat := bitmap ((List.range 32).filter (fun k => l.contains (32 * g + k)))

/-- The inputs of a sensing group with a flag present (R394). -/
def presentBits (s : State) (g : Nat) (f : Input → Bool) : Nat :=
  bitmap ((List.range 32).filter (fun k => f (tget {} s.sns.inputs (32 * g + k))))

/-- TMP_SNS_GROUPg_PRESENT and _SEEN (R394). -/
def snsValue (s : State) (g : Nat) : Nat → Word
  | 0 => packWord [(32, presentBits s g (·.commonMode)), (32, presentBits s g (·.clamp))]
  | _ => packWord [(32, groupBits g s.sns.cmSeen), (32, groupBits g s.sns.clampSeen)]

/-- EVT_SRCi_CFG (R557). -/
def evtCfgValue (c : EvtCfg) : Word :=
  packWord [(8, c.causeMask.toNat), (8, 0), (16, c.coalesceUs.toNat), (14, 0), (10, c.vector.toNat), (7, c.pod.toNat), flag c.enable]

/-- PMC_CTRn, PMC_CTRn_CFG and PMC_CTRn_ADDR (R508). -/
def pmcValue (c : Pmc) : Nat → Word
  | 0 => c.value
  | 1 => packWord [flag c.ovf, flag c.ovfIrq, (1, 0), flag c.invalid, (12, 0), (8, c.assigned.toNat), flag c.enable, flag c.addrEn,
      (2, c.priv.toNat), (4, c.cls.toNat), (7, if c.assigned = 0 then c.pod.toNat else c.assigned.toNat), flag (podFilter c),
      (7, c.port.toNat), flag c.portEn, (16, c.event.toNat)]
  | _ => packWord [(24, c.base4k.toNat), (8, 0), (24, c.limit4k.toNat)]

/-- The snapshot registers (R513). -/
def snapValue (o : Observe) : Nat → Word
  | 0 => o.snapTime
  | 1 => o.snapAt
  | _ => packWord [(1, 0), flag o.snapPending.isSome, flag o.snapDone, (45, 0), (16, o.snapSeq.toNat)]

/-- TRC_STATUS (R521). -/
def trcValue (o : Observe) : Word :=
  packWord [flag (o.portRate != 0), flag o.trcWrapped, flag o.trcLostSeen, flag o.trcFull, (2, o.ddrMode.toNat), (18, 0),
    (24, ceilDiv (ringBytes o.ring) 4096), (16, o.trcLost.toNat)]

/-- The counter slot of a pod. -/
def pmcSlot (s : State) (n i : Nat) : Option PmcSlot := (s.obs.slots.find? (fun e => e.1 == 16 * n + i)).map (·.2)

/-- PMC_POD_MAPi (R510). -/
def podMapValue : Option PmcSlot → Word
  | none => 0
  | some x => packWord [(12, x.id), (50, 0), flag x.fixed, flag true]

/-- A value of the user page (R511): zero while USER_EN is clear and in an unmapped slot. -/
def userValue (s : State) (n i : Nat) (fixed_ : Nat → Word) (ctr : Nat → Word) : Word :=
  if !s.obs.userEn.contains n then 0
  else match pmcSlot s n i with
    | none => 0
    | some x => if x.fixed then fixed_ x.id else ctr x.id

/-- A double word of an MSI-X table entry (PCI Express; R560). -/
def msixValue (e : MsixEntry) : Nat → Word
  | 0 => e.addr
  | _ => packWord [(32, e.data.toNat), (32, e.ctrl.toNat)]

/-- What a register reads as. -/
def regValue (s : State) : Reg → Word
  | .sys k => sysValue s k
  | .paceTile n => paceValue (tile s n)
  | .avsStatus => avsValue s.pwr.avs
  | .standbyStatus => standbyValue s.pwr
  | .tmb k _ => tmbValue s k
  | .mbx n l k => mbxValue s n l k
  | .mbxCredits n => creditsValue (tget {} s.mgmt.credits n)
  | .fwStatus => fwValue s
  | .admitStatus n => admitValue s n
  | .podFwStatus => podFwValue s
  | .denyLog => denyLogValue s.fw
  | .podStatus n => podStatusValue s n
  | .cph n r k => cphValue s n r k
  | .entropy => packWord [flag s.cph.entropy.healthy, flag s.cph.entropy.failSeen, (46, 0), (16, s.cph.entropy.failCount.toNat)]
  | .lbfDevice => lbfDeviceValue s
  | .parityLog => parityValue s.lbf
  | .lbfPort p => lbfPortValue s p
  | .lbfQueue q => lbfQueueValue s q
  | .ctx c k => ctxValue (chkCtx s c) k
  | .trk n k => trkValue (trunkLane s n) k
  | .tsi => tsiValue s
  | .sns g k => snsValue s g k
  | .compliance => packWord [(32, presentBits s 0 (·.compliance)), (32, groupBits 0 s.sns.complianceSeen)]
  | .die => packWord [flag s.pwr.tjValid, (15, 0), (16, s.pwr.tjMin.toNat), (16, s.pwr.tjMax.toNat), (16, s.pwr.tjSensing.toNat)]
  | .evtSource i => evtCfgValue (evtCfg s i)
  | .evtPending w => tget 0 s.evt.pending w
  | .evtRing fn k => evtRingValue (evtRing s fn) k
  | .fixed id => tget 0 s.obs.fixed id
  | .fixOvf => packWord [flag s.obs.fixOvfSeen, (31, 0), (12, s.obs.fixOvfFirst.toNat), (4, 0), (16, s.obs.fixOvfCount.toNat)]
  | .counter n k => pmcValue (pmc s n) k
  | .snap k => snapValue s.obs k
  | .shadowFixed id => tget 0 s.obs.shadowFixed id
  | .shadowCtr n => tget 0 s.obs.shadowCtr n
  | .shadowDevice => s.obs.shadowLbfDevice
  | .shadowPort p => tget 0 s.obs.shadowLbfPort p
  | .shadowQueue q => tget 0 s.obs.shadowLbfQueue q
  | .trcStatus => trcValue s.obs
  | .podCtrl n => packWord [flag (s.obs.userEn.contains n)]
  | .podMap n i => podMapValue (pmcSlot s n i)
  | .userSlot n i => userValue s n i (tget 0 s.obs.fixed) (fun c => (pmc s c).value)
  | .userSnap n i => userValue s n i (tget 0 s.obs.shadowFixed) (tget 0 s.obs.shadowCtr)
  | .userSeq n => if s.obs.userEn.contains n then packWord [(16, s.obs.snapSeq.toNat)] else 0
  | .emptySlot => 0
  | .msix fn v k => msixValue (msixEntry s fn v) k
  | .pba fn w => BitVec.ofNat 64 (bitmap ((List.range 64).filter (fun b => s.host.msixPending.contains (1024 * fn + 64 * w + b))))

/-! ### Reads (R9, R12) -/

/-- The bits an access returns: all of them, or one half. -/
structure Span where
  lo : Nat
  hi : Nat

/-- Whether a field of bits [m:l] lies wholly within the bits read (R12). -/
def Span.covers (x : Span) (m l : Nat) : Bool := decide (x.lo ≤ l) && decide (m < x.hi)

/-- The RC fields of a register clear where they lie wholly within the bits read (R9, R12). -/
def readClears (x : Span) (s : State) : Reg → State
  | .paceTile n => if x.covers 15 8 then { s with pwr.tiles := tset s.pwr.tiles n { tile s n with fifoPeak := 0 } } else s
  | .podFwStatus => if x.covers 15 8 then { s with fw.denyCount := 0 } else s
  | .entropy => if x.covers 63 48 then { s with cph.entropy.failCount := 0 } else s
  | .lbfDevice => if x.covers 27 10 then { s with lbf.peakFrames := 0 } else s
  | .parityLog => if x.covers 63 48 then { s with lbf.logCount := 0 } else s
  | .lbfPort p => if x.covers 30 20 then updPort p (fun y => { y with peakTx := 0 }) s else s
  | .lbfQueue q => if x.covers 27 16 then updQueue q (fun y => { y with rewinds := 0 }) s else s
  | .ctx c 7 =>
    let s := if x.covers 63 48 then updChk c (fun y => { y with fails := 0 }) s else s
    let s := if x.covers 47 32 then updChk c (fun y => { y with lost := 0 }) s else s
    if x.covers 31 16 then updChk c (fun y => { y with stale := 0 }) s else s
  | .trk n 0 => if x.covers 39 24 then updTrunkLane n (fun l => { l with dlDiscards := 0 }) s else s
  | .trk n 5 =>
    let s := if x.covers 63 32 then updTrunkLane n (fun l => { l with corrected := 0 }) s else s
    if x.covers 31 0 then updTrunkLane n (fun l => { l with uncorrectable := 0 }) s else s
  | .evtRing fn 2 => if x.covers 63 48 then updEvtRing fn (fun g => { g with lost := 0 }) s else s
  | .fixOvf => if x.covers 63 48 then { s with obs.fixOvfCount := 0 } else s
  | .trcStatus => if x.covers 63 48 then { s with obs.trcLost := 0 } else s
  | _ => s

/-- Whether a function answers accesses to its BAR0: the device runs and the function exists (R463, R534). -/
def answers (s : State) (fn : Nat) : Bool :=
  s.pwr.phase == .running && (s.pwr.order.bind (·.recordAt)).isNone && fnExists s fn

/-- Bytes of BAR0 (R561, R562). -/
def barSize (fn : Nat) : Nat := if fn = 0 then 0x200000 else 0x10000

/-- Whether an access breaks R12: it is not aligned for its size, or its size is neither 32 nor 64 bits. -/
def badAccess (offset size : Nat) : Bool := !(size == 32 && offset % 4 == 0) && !(size == 64 && offset % 8 == 0)

/-- Whether an offset lies in the MSI-X table or the pending-bit array (R12). -/
def isMsix : Option Reg → Bool
  | some (.msix ..) => true
  | some (.pba ..) => true
  | _ => false

/-- Whether a fenced page answers a read of a register: POD_STATUS alone (R472). -/
def readFenced (s : State) (fn : Nat) (r : Option Reg) : Bool :=
  (pod s fn).resetting && (match r with | some (.podStatus n) => n != fn | _ => true)

/-- The bits an access of a size at an offset returns. -/
def spanOf (offset size : Nat) : Span :=
  if size = 64 then { lo := 0, hi := 64 } else { lo := 32 * (offset / 4 % 2), hi := 32 * (offset / 4 % 2) + 32 }

/-- A read of BAR0 (R9, R12, R472, R561, R562). -/
def readBar (fn offset size : Nat) (s : State) : State :=
  let r := regAt s fn offset
  let zero := emit (.regRead fn offset 0)
  if badAccess offset size then zero (if isMsix r then s else raiseSys 0 4 fn offset s)
  else if fn != 0 && readFenced s fn r then zero s
  else
    match r with
    | none => zero (raiseSys 0 2 fn offset s)
    | some r =>
      if !regPresent s r then zero s
      else
        let x := spanOf offset size
        readClears x (emit (.regRead fn offset (bits (regValue s r).toNat x.lo (x.hi - x.lo))) s) r

/-- READ_CLEAR (R9): a read of BAR0, the only access by which an RC field clears. -/
def execReadClear (fn offset size : Nat) (s : State) : Out :=
  if fn > 64 then .fault .absentResource
  else .next (if answers s fn && decide (offset < barSize fn) then readBar fn offset size s else s)

/-! ### Writes (R9, R12) -/

/-- The lane registers (R436): the base registers keep their values while ENABLE is set. -/
def writeMbx (n l k v : Nat) (s : State) : State :=
  match k with
  | 0 => updMbxLane n l (fun x => if x.enable then x else
      { x with base := BitVec.ofNat 52 (bits v 12 52), sizeLog2 := BitVec.ofNat 5 (bits v 0 5) }) s
  | 1 => updMbxLane n l (fun x => if x.enable then x else
      { x with cmplBase := BitVec.ofNat 58 (bits v 6 58), cmplLog2 := BitVec.ofNat 5 (bits v 0 5) }) s
  | 2 => updMbxLane n l (fun x => { x with prod := BitVec.ofNat 32 (bits v 0 32) }) s
  | 3 =>
    let s := updMbxLane n l (fun x => { x with shedSeen := w1c x.shedSeen (bit v 7) }) s
    let s := if bit v 2 then
        let s := updMbxLane n l (fun x => { x with fault := false }) s
        writeKept n l (mbxLane s n l).kept.length s
      else s
    updMbxLane n l (laneEnable (bit v 0)) s
  | _ => updMbxLane n l (fun x => { x with cmplCons := BitVec.ofNat 32 (bits v 32 32) }) s

/-- The ring registers (R312 to R316). -/
def writeCph (n r k v : Nat) (s : State) : State :=
  match k with
  | 0 => updCphRing n r (fun x => if x.enable then x else
      { x with base := BitVec.ofNat 52 (bits v 12 52), sizeLog2 := BitVec.ofNat 5 (bits v 0 5) }) s
  | 1 => updCphRing n r (fun x => if x.enable then x else
      { x with cmplBase := BitVec.ofNat 58 (bits v 6 58), cmplLog2 := BitVec.ofNat 5 (bits v 0 5) }) s
  | 2 => updCphRing n r (fun x => { x with prod := BitVec.ofNat 32 (bits v 0 32) }) s
  | 3 => updCphRing n r (fun x => cphEnable (bit v 0) { x with fault := w1c x.fault (bit v 2) }) s
  | _ => updCphRing n r (fun x => { x with cmplCons := BitVec.ofNat 32 (bits v 32 32) }) s

/-- The event ring registers (R559). -/
def writeEvtRing (fn k v : Nat) (s : State) : State :=
  match k with
  | 0 => updEvtRing fn (fun g => if g.enable then g else
      { g with base := BitVec.ofNat 52 (bits v 12 52), sizeLog2 := BitVec.ofNat 5 (bits v 0 5) }) s
  | 1 => updEvtRing fn (fun g => { g with cons := BitVec.ofNat 32 (bits v 32 32) }) s
  | _ => updEvtRing fn (fun g =>
      evtRingEnable (bit v 0) { g with lostSeen := w1c g.lostSeen (bit v 2), fault := w1c g.fault (bit v 1) }) s

/-- The SYS registers (R81, R449, R500, R532): their W1C bits. -/
def writeSys (k v : Nat) (s : State) : State :=
  match k with
  | 1 => { s with syn.refLost := w1c s.syn.refLost (bit v 4) }
  | 2 => { s with mgmt.restartSeen := w1c s.mgmt.restartSeen (bit v 0) }
  | 3 => { s with sec.kwkLost := w1c s.sec.kwkLost (bit v 7), sec.restoreFailSeen := w1c s.sec.restoreFailSeen (bit v 5),
                  sec.tamperSeen := w1c s.sec.tamperSeen (bit v 4) }
  | 6 => { s with pwr.pcieResetSeen := w1c s.pwr.pcieResetSeen (bit v 2), pwr.brownoutSeen := w1c s.pwr.brownoutSeen (bit v 1),
                  pwr.resetSeen := w1c s.pwr.resetSeen (bit v 0) }
  | _ => s

/-- The W1C bits of TMB_STATUS (R428). -/
def writeTmbStatus (v : Nat) (s : State) : State :=
  { s with tmb.stepSeen := w1c s.tmb.stepSeen (bit v 4), tmb.lockSeen := w1c s.tmb.lockSeen (bit v 3),
           tmb.lossSeen := w1c s.tmb.lossSeen (bit v 2), tmb.switchSeen := w1c s.tmb.switchSeen (bit v 1) }

/-- The W1C bits of TRK_LANEn_STATUS (R374). -/
def writeTrk (n v : Nat) (s : State) : State :=
  updTrunkLane n (fun l =>
    { l with fifoSeen := w1c l.fifoSeen (bit v 11), sdSeen := w1c l.sdSeen (bit v 10), rdiSeen := w1c l.rdiSeen (bit v 9),
             lofSeen := w1c l.lofSeen (bit v 8), losSeen := w1c l.losSeen (bit v 7) }) s

/-- The numbers of a list that a write of 1 to their bits of a group clears (R394). -/
def clearSeen (g v : Nat) (l : List Nat) : List Nat := l.filter (fun n => !(n / 32 == g && bit v (n % 32)))

/-- The registers of a counter (R508). -/
def writeCounter (n k v : Nat) (s : State) : State :=
  match k with
  | 0 => pmcValueWrite n v 0 s
  | 1 => pmcCfgWrite n v s
  | _ => setPmc n { pmc s n with base4k := BitVec.ofNat 24 (bits v 0 24), limit4k := BitVec.ofNat 24 (bits v 32 24) } s

/-- The snapshot registers (R513): TIME is kept while a snapshot is pending. -/
def writeSnap (k v : Nat) (s : State) : State :=
  match k with
  | 0 => if s.obs.snapPending.isSome then s else { s with obs.snapTime := BitVec.ofNat 64 v }
  | 1 => s
  | _ =>
    let s := { s with obs.snapDone := w1c s.obs.snapDone (bit v 2) }
    if bit v 0 then snapshotArm s else s

/-- A write of 32 or 64 bits to an MSI-X table entry (PCI Express): half is the double word's half of a 32-bit write. A mask bit that
clears sends the message held (R554). -/
def writeMsix (fn vector k : Nat) (half : Option Nat) (v : Nat) (s : State) : State :=
  let e := msixEntry s fn vector
  let old := (msixValue e k).toNat
  let w := match half with
    | none => v % 2 ^ 64
    | some 0 => old / 2 ^ 32 * 2 ^ 32 + v % 2 ^ 32
    | some _ => old % 2 ^ 32 + v % 2 ^ 32 * 2 ^ 32
  let key := 1024 * fn + vector
  let e' : MsixEntry := if k = 0 then { e with addr := BitVec.ofNat 64 (w / 4 * 4) }
    else { e with data := BitVec.ofNat 32 (bits w 0 32), ctrl := BitVec.ofNat 32 (bits w 32 1) }
  let held := s.host.msixPending.contains key && !bit e'.ctrl.toNat 0
  let s := { s with host.msix := tset s.host.msix key e' }
  if held then sendMsix fn vector { s with host.msixPending := s.host.msixPending.filter (· != key) } else s

/-- A 64-bit write to a register acts by the access codes of its fields (R9); fields without one of their own are discarded (R10). -/
def writeReg (r : Reg) (v : Nat) (s : State) : State :=
  match r with
  | .sys k => writeSys k v s
  | .paceTile n => { s with pwr.tiles := tset s.pwr.tiles n { tile s n with short := w1c (tile s n).short (bit v 1) } }
  | .avsStatus => { s with pwr.avs.emergency := w1c s.pwr.avs.emergency (bit v 1), pwr.avs.fault := w1c s.pwr.avs.fault (bit v 0) }
  | .standbyStatus =>
    { s with pwr.restoreFail := w1c s.pwr.restoreFail (bit v 1), pwr.wakeSeen := w1c s.pwr.wakeSeen (bit v 0) }
  | .tmb 1 true => writeTmbStatus v s
  | .mbx n l k => writeMbx n l k v s
  | .admitStatus n => updPodLbf n (fun x => { x with blockedSeen := w1c x.blockedSeen (bit v 1) }) s
  | .podFwStatus => { s with fw.denySeen := w1c s.fw.denySeen (bit v 1) }
  | .podStatus n => updPod n (fun x => { x with denySeen := w1c x.denySeen (bit v 3), resetSeen := w1c x.resetSeen (bit v 2) }) s
  | .cph n r k => writeCph n r k v s
  | .entropy => { s with cph.entropy.failSeen := w1c s.cph.entropy.failSeen (bit v 1) }
  | .lbfDevice =>
    { s with lbf.ddrFault := w1c s.lbf.ddrFault (bit v 1), lbf.paritySeen := w1c s.lbf.paritySeen (bit v 0) }
  | .lbfPort p => updPort p (fun x => { x with rxOverrun := w1c x.rxOverrun (bit v 1) }) s
  | .ctx c k => writeCtx c k v s
  | .trk n 0 => writeTrk n v s
  | .tsi => { s with trk.switched := w1c s.trk.switched (bit v 3), trk.commitDone := w1c s.trk.commitDone (bit v 2) }
  | .sns g 1 => { s with sns.clampSeen := clearSeen g (bits v 32 32) s.sns.clampSeen, sns.cmSeen := clearSeen g (bits v 0 32) s.sns.cmSeen }
  | .compliance => { s with sns.complianceSeen := clearSeen 0 (bits v 32 32) s.sns.complianceSeen }
  | .evtSource i => evtCfgWrite i v s
  | .evtPending w =>
    { s with evt.pending := tset s.evt.pending w (tget 0 s.evt.pending w &&& ~~~(BitVec.ofNat 64 v)) }
  | .evtRing fn k => writeEvtRing fn k v s
  | .fixOvf => { s with obs.fixOvfSeen := w1c s.obs.fixOvfSeen (bit v 0) }
  | .counter n k => writeCounter n k v s
  | .snap k => writeSnap k v s
  | .trcStatus =>
    { s with obs.trcLostSeen := w1c s.obs.trcLostSeen (bit v 2), obs.trcWrapped := w1c s.obs.trcWrapped (bit v 1) }
  | .podCtrl n =>
    { s with obs.userEn := (s.obs.userEn.filter (· != n)) ++ if bit v 0 then [n] else [] }
  | .msix fn vector k => writeMsix fn vector k none v s
  | _ => s

/-- A write to BAR0 (R9, R12, R472, R561, R562). -/
def writeBar (fn offset size value : Nat) (s : State) : State :=
  let r := regAt s fn offset
  if badAccess offset size then (if isMsix r then s else raiseSys 0 4 fn offset s)
  else if size = 32 && !isMsix r then raiseSys 0 1 fn offset s
  else if (pod s fn).resetting then s
  else
    match r with
    | none => raiseSys 0 2 fn offset s
    | some (.msix f v k) => writeMsix f v k (if size = 64 then none else some (offset / 4 % 2)) value s
    | some r => if regPresent s r then writeReg r (value % 2 ^ 64) s else s

/-- REGISTER_WRITE (R9). -/
def execRegisterWrite (fn offset size value : Nat) (s : State) : Out :=
  if fn > 64 then .fault .absentResource
  else .next (if answers s fn && decide (offset < barSize fn) then writeBar fn offset size value s else s)

end Sys2Proof.Machine
end

