-- ==== Sys2Proof/Machine/Dispatch.lean ====
section
/-! DEFINITION. exec: one arm per command, each one direct call of its meaning (or rejected by name). -/

namespace Sys2Proof.Machine

/-- The effect of a command on everything but the queue, as the spec gives it. -/
def exec (i : Instr) (s : State) : Host.Outcome State Fault Refusal :=
  match i with
  | .powerOn dur => Sys2Proof.Machine.execPowerOn dur s
  | .sysResetNLow dur => Sys2Proof.Machine.execSysResetNLow dur s
  | .brownOut rails dur => Sys2Proof.Machine.execBrownOut rails dur s
  | .pf0FunctionLevelReset => Sys2Proof.Machine.execPf0FunctionLevelReset s
  | .resetRelease refclk25 boot => Sys2Proof.Machine.execResetRelease refclk25 boot s
  | .pcieInterfaceReset kind => Sys2Proof.Machine.execPcieInterfaceReset kind s
  | .pcieLinkUp => Sys2Proof.Machine.execPcieLinkUp s
  | .vfFunctionLevelReset n => Sys2Proof.Machine.execVfFunctionLevelReset n s
  | .vfDisable numVfs => Sys2Proof.Machine.execVfDisable numVfs s
  | .podResetComplete pod => Sys2Proof.Machine.execPodResetComplete pod s
  | .standbyEntry => Sys2Proof.Machine.execStandbyEntry s
  | .chiveBeacon port => Sys2Proof.Machine.execChiveBeacon port s
  | .wakeFrame port fc => Sys2Proof.Machine.execWakeFrame port fc s
  | .wakeInNLow dur => Sys2Proof.Machine.execWakeInNLow dur s
  | .wakeTimer => Sys2Proof.Machine.execWakeTimer s
  | .standbySetApply failed => Sys2Proof.Machine.execStandbySetApply failed s
  | .pcieWakeRelease => Sys2Proof.Machine.execPcieWakeRelease s
  | .paceMonitorUpdate tile pace slack demand fifoPeak => Sys2Proof.Machine.execPaceMonitorUpdate tile pace slack demand fifoPeak s
  | .avsLoopStart vMeas => Sys2Proof.Machine.execAvsLoopStart vMeas s
  | .avsLoopPeriod vMeas => Sys2Proof.Machine.execAvsLoopPeriod vMeas s
  | .avsResponseTimeout => Sys2Proof.Machine.execAvsResponseTimeout s
  | .avsSettleCheck vMeas => Sys2Proof.Machine.execAvsSettleCheck vMeas s
  | .txFifoLowWater lane => Sys2Proof.Machine.execTxFifoLowWater lane s
  | .txFifoUnderflow short => Sys2Proof.Machine.execTxFifoUnderflow short s
  | .rxFifoOverflow lane lost => Sys2Proof.Machine.execRxFifoOverflow lane lost s
  | .coreUndervoltage dur => Sys2Proof.Machine.execCoreUndervoltage dur s
  | .drvfltQualify port => Sys2Proof.Machine.execDrvfltQualify port s
  | .driverAutoRearm port => Sys2Proof.Machine.execDriverAutoRearm port s
  | .txenRise port => Sys2Proof.Machine.execTxenRise port s
  | .txenFall port => Sys2Proof.Machine.execTxenFall port s
  | .referenceLost => Sys2Proof.Machine.execReferenceLost s
  | .referenceReturn => Sys2Proof.Machine.execReferenceReturn s
  | .synthFailure synth => Sys2Proof.Machine.execSynthFailure synth s
  | .synthAdoptionComplete lost => Sys2Proof.Machine.execSynthAdoptionComplete lost s
  | .calibrationStart port => Sys2Proof.Machine.execCalibrationStart port s
  | .calibrationComplete port result => Sys2Proof.Machine.execCalibrationComplete port result s
  | .agcFrameGainRelease port => Sys2Proof.Machine.execAgcFrameGainRelease port s
  | .preambleDetect port leek seen => Sys2Proof.Machine.execPreambleDetect port leek seen s
  | .frameControlReceived port fc => Sys2Proof.Machine.execFrameControlReceived port fc s
  | .frameBodyDecoded port body => Sys2Proof.Machine.execFrameBodyDecoded port body s
  | .ackTransmit port => Sys2Proof.Machine.execAckTransmit port s
  | .ackReceived port fc start => Sys2Proof.Machine.execAckReceived port fc start s
  | .ackWindowClose port => Sys2Proof.Machine.execAckWindowClose port s
  | .prsSlot port heard heardFrame => Sys2Proof.Machine.execPrsSlot port heard heardFrame s
  | .backoffSlotEnd port heardS1 heardFrame => Sys2Proof.Machine.execBackoffSlotEnd port heardS1 heardFrame s
  | .idleRestart port => Sys2Proof.Machine.execIdleRestart port s
  | .undecodableHoldOffEnd port => Sys2Proof.Machine.execUndecodableHoldOffEnd port s
  | .frameTransmitStart port units reads => Sys2Proof.Machine.execFrameTransmitStart port units reads s
  | .frameTransmitEnd port => Sys2Proof.Machine.execFrameTransmitEnd port s
  | .beaconStart port => Sys2Proof.Machine.execBeaconStart port s
  | .zeroCrossing port edge => Sys2Proof.Machine.execZeroCrossing port edge s
  | .mainsAcquireTimeout port => Sys2Proof.Machine.execMainsAcquireTimeout port s
  | .predictedCrossingMiss port => Sys2Proof.Machine.execPredictedCrossingMiss port s
  | .slotBoundaryPrefetch port ddrFail => Sys2Proof.Machine.execSlotBoundaryPrefetch port ddrFail s
  | .tmMapReceived port ep msg => Sys2Proof.Machine.execTmMapReceived port ep msg s
  | .tmMapAckReceived port ep msg => Sys2Proof.Machine.execTmMapAckReceived port ep msg s
  | .tmRequestReceived port ep msg => Sys2Proof.Machine.execTmRequestReceived port ep msg s
  | .tmInvalidateReceived port ep msg => Sys2Proof.Machine.execTmInvalidateReceived port ep msg s
  | .tonemapPeriodicRefresh port ep mapId tails feedback => Sys2Proof.Machine.execTonemapPeriodicRefresh port ep mapId tails feedback s
  | .estimateStale port ep slot => Sys2Proof.Machine.execEstimateStale port ep slot s
  | .cancellerSurveyEnd victim ties => Sys2Proof.Machine.execCancellerSurveyEnd victim ties s
  | .cancellerSymbol victim aggressor sym => Sys2Proof.Machine.execCancellerSymbol victim aggressor sym s
  | .cancellerStateChange victim aggressor was goal => Sys2Proof.Machine.execCancellerStateChange victim aggressor was goal s
  | .cancellerDisengagedTimeout victim aggressor => Sys2Proof.Machine.execCancellerDisengagedTimeout victim aggressor s
  | .cancellerSuspendLong victim aggressor => Sys2Proof.Machine.execCancellerSuspendLong victim aggressor s
  | .treeComputation port => Sys2Proof.Machine.execTreeComputation port s
  | .tpRouteAckReceived port ep msg => Sys2Proof.Machine.execTpRouteAckReceived port ep msg s
  | .pendingVersionTimeout port => Sys2Proof.Machine.execPendingVersionTimeout port s
  | .tpLinkReportReceived port ep msg => Sys2Proof.Machine.execTpLinkReportReceived port ep msg s
  | .tpJoinReceived port ep msg => Sys2Proof.Machine.execTpJoinReceived port ep msg s
  | .unreachableHoldExpiry ep => Sys2Proof.Machine.execUnreachableHoldExpiry ep s
  | .heldSubmissionAdmit idx => Sys2Proof.Machine.execHeldSubmissionAdmit idx s
  | .frameSeal flight plaintext => Sys2Proof.Machine.execFrameSeal flight plaintext s
  | .staging port ddrFail => Sys2Proof.Machine.execStaging port ddrFail s
  | .uplinkOpen flight poison => Sys2Proof.Machine.execUplinkOpen flight poison s
  | .rxRingWrite flight consumer => Sys2Proof.Machine.execRxRingWrite flight consumer s
  | .cipherDescriptorTake pod ring desc io => Sys2Proof.Machine.execCipherDescriptorTake pod ring desc io s
  | .cipherJobComplete pod ring idx => Sys2Proof.Machine.execCipherJobComplete pod ring idx s
  | .maskReseed pipe => Sys2Proof.Machine.execMaskReseed pipe s
  | .entropyHealthFail => Sys2Proof.Machine.execEntropyHealthFail s
  | .entropyRetest pass => Sys2Proof.Machine.execEntropyRetest pass s
  | .chkDmaComplete ctx ddrFail => Sys2Proof.Machine.execChkDmaComplete ctx ddrFail s
  | .chainOutput chain pos last samples poisons consumer => Sys2Proof.Machine.execChainOutput chain pos last samples poisons consumer s
  | .bankSwapEffect swap => Sys2Proof.Machine.execBankSwapEffect swap s
  | .scanFrameStart conv codes => Sys2Proof.Machine.execScanFrameStart conv codes s
  | .chargeReset input code => Sys2Proof.Machine.execChargeReset input code s
  | .clampFlagChange input present => Sys2Proof.Machine.execClampFlagChange input present s
  | .commonModeFlagChange input cmMv => Sys2Proof.Machine.execCommonModeFlagChange input cmMv s
  | .dieTempUpdate sensing max min => Sys2Proof.Machine.execDieTempUpdate sensing max min s
  | .pdPulseWindowEnd group source pulse => Sys2Proof.Machine.execPdPulseWindowEnd group source pulse s
  | .pdClusterClose group consumer => Sys2Proof.Machine.execPdClusterClose group consumer s
  | .i2cTransferStart port => Sys2Proof.Machine.execI2cTransferStart port s
  | .i2cArbitrationLoss port => Sys2Proof.Machine.execI2cArbitrationLoss port s
  | .i2cSclTimeout held => Sys2Proof.Machine.execI2cSclTimeout held s
  | .i2cBusNotFreeTimeout port => Sys2Proof.Machine.execI2cBusNotFreeTimeout port s
  | .trunkFrameTransmit => Sys2Proof.Machine.execTrunkFrameTransmit s
  | .trunkFrameReceive lane frame => Sys2Proof.Machine.execTrunkFrameReceive lane frame s
  | .fasMissingOof lane => Sys2Proof.Machine.execFasMissingOof lane s
  | .codewordLockChange lane good => Sys2Proof.Machine.execCodewordLockChange lane good s
  | .losEntry lane signal => Sys2Proof.Machine.execLosEntry lane signal s
  | .losExit lane => Sys2Proof.Machine.execLosExit lane s
  | .lofEntry lane => Sys2Proof.Machine.execLofEntry lane s
  | .lofExit lane => Sys2Proof.Machine.execLofExit lane s
  | .sdEvaluation lane corrected received => Sys2Proof.Machine.execSdEvaluation lane corrected received s
  | .slotDefectChange lane => Sys2Proof.Machine.execSlotDefectChange lane s
  | .trunkFifoShortfall lane transmit => Sys2Proof.Machine.execTrunkFifoShortfall lane transmit s
  | .feedPacketReceive slot packet => Sys2Proof.Machine.execFeedPacketReceive slot packet s
  | .trunkUplinkPacket flight => Sys2Proof.Machine.execTrunkUplinkPacket flight s
  | .ethernetChunkSend lane slot => Sys2Proof.Machine.execEthernetChunkSend lane slot s
  | .ethernetChunkReceive lane slot seq fcsOk label body => Sys2Proof.Machine.execEthernetChunkReceive lane slot seq fcsOk label body s
  | .ethernetChunkTimeout slot => Sys2Proof.Machine.execEthernetChunkTimeout slot s
  | .pauseReceived lane quanta => Sys2Proof.Machine.execPauseReceived lane quanta s
  | .tsiCommitBoundary => Sys2Proof.Machine.execTsiCommitBoundary s
  | .tsiCopyDone => Sys2Proof.Machine.execTsiCopyDone s
  | .mirrorRecordReceive record => Sys2Proof.Machine.execMirrorRecordReceive record s
  | .peerReadySet => Sys2Proof.Machine.execPeerReadySet s
  | .peerFailingDetect role => Sys2Proof.Machine.execPeerFailingDetect role s
  | .pairTakeover => Sys2Proof.Machine.execPairTakeover s
  | .takeoverBoundary => Sys2Proof.Machine.execTakeoverBoundary s
  | .plannedSwitchBoundary => Sys2Proof.Machine.execPlannedSwitchBoundary s
  | .heartbeatLoss => Sys2Proof.Machine.execHeartbeatLoss s
  | .mirrorLinkLossTimeout => Sys2Proof.Machine.execMirrorLinkLossTimeout s
  | .ppsEdge edge => Sys2Proof.Machine.execPpsEdge edge s
  | .ppsEdgeMissing => Sys2Proof.Machine.execPpsEdgeMissing s
  | .timebaseRenewal => Sys2Proof.Machine.execTimebaseRenewal s
  | .holdoverExpiry => Sys2Proof.Machine.execHoldoverExpiry s
  | .revertiveDisplace reference => Sys2Proof.Machine.execRevertiveDisplace reference s
  | .timeStep => Sys2Proof.Machine.execTimeStep s
  | .ppsOutEdge => Sys2Proof.Machine.execPpsOutEdge s
  | .mbxDoorbell pod lane prod => Sys2Proof.Machine.execMbxDoorbell pod lane prod s
  | .mbxDescriptorTake pod lane desc request descFails io => Sys2Proof.Machine.execMbxDescriptorTake pod lane desc request descFails io s
  | .mbxLaneEnable pod lane on => Sys2Proof.Machine.execMbxLaneEnable pod lane on s
  | .mbxFaultClear pod lane => Sys2Proof.Machine.execMbxFaultClear pod lane s
  | .mbxCmplConsUpdate pod lane cons => Sys2Proof.Machine.execMbxCmplConsUpdate pod lane cons s
  | .commandWaitEnd caller => Sys2Proof.Machine.execCommandWaitEnd caller s
  | .sheddingEntry loads => Sys2Proof.Machine.execSheddingEntry loads s
  | .sheddingExit loads => Sys2Proof.Machine.execSheddingExit loads s
  | .notificationPost pod lane code body => Sys2Proof.Machine.execNotificationPost pod lane code body s
  | .watchdogExpiry => Sys2Proof.Machine.execWatchdogExpiry s
  | .processorFault => Sys2Proof.Machine.execProcessorFault s
  | .firmwareRestartComplete => Sys2Proof.Machine.execFirmwareRestartComplete s
  | .meterPeriod schedule => Sys2Proof.Machine.execMeterPeriod schedule s
  | .meterCollectionEnd schedule => Sys2Proof.Machine.execMeterCollectionEnd schedule s
  | .serviceReplyReceived ep unit => Sys2Proof.Machine.execServiceReplyReceived ep unit s
  | .loadShedExecute idx => Sys2Proof.Machine.execLoadShedExecute idx s
  | .loadShedConfirm idx => Sys2Proof.Machine.execLoadShedConfirm idx s
  | .dispatchReassert ep => Sys2Proof.Machine.execDispatchReassert ep s
  | .dispatchLoss ep => Sys2Proof.Machine.execDispatchLoss ep s
  | .apertureAccess pod write offset len data => Sys2Proof.Machine.execApertureAccess pod write offset len data s
  | .checkedAccessRetire id => Sys2Proof.Machine.execCheckedAccessRetire id s
  | .journaledWriteCommit => Sys2Proof.Machine.execJournaledWriteCommit s
  | .tamperQualify source => Sys2Proof.Machine.execTamperQualify source s
  | .tamperLoopPattern input returned => Sys2Proof.Machine.execTamperLoopPattern input returned s
  | .observeExpiry => Sys2Proof.Machine.execObserveExpiry s
  | .snapshotLatch => Sys2Proof.Machine.execSnapshotLatch s
  | .traceTimeRecord => Sys2Proof.Machine.execTraceTimeRecord s
  | .traceSyncWord => Sys2Proof.Machine.execTraceSyncWord s
  | .eventRecordIssue source cause arg0 arg1 => Sys2Proof.Machine.execEventRecordIssue source cause arg0 arg1 s
  | .coalesceWindowClose source cause => Sys2Proof.Machine.execCoalesceWindowClose source cause s
  | .admitVectorDeferred fn => Sys2Proof.Machine.execAdmitVectorDeferred fn s
  | .deliveryVectorDeferred fn => Sys2Proof.Machine.execDeliveryVectorDeferred fn s
  | .evtSrcCfgWrite source value => Sys2Proof.Machine.execEvtSrcCfgWrite source value s
  | .evtRingEnable fn on => Sys2Proof.Machine.execEvtRingEnable fn on s
  | .evtRingFaultClear fn => Sys2Proof.Machine.execEvtRingFaultClear fn s
  | .cphRingDoorbell pod ring prod => Sys2Proof.Machine.execCphRingDoorbell pod ring prod s
  | .cphRingEnable pod ring on => Sys2Proof.Machine.execCphRingEnable pod ring on s
  | .cphRingFaultClear pod ring => Sys2Proof.Machine.execCphRingFaultClear pod ring s
  | .cphCmplConsUpdate pod ring cons => Sys2Proof.Machine.execCphCmplConsUpdate pod ring cons s
  | .avsFaultClear => Sys2Proof.Machine.execAvsFaultClear s
  | .chkContextWrite ctx reg value => Sys2Proof.Machine.execChkContextWrite ctx reg value s
  | .pmcValueWrite n value increments => Sys2Proof.Machine.execPmcValueWrite n value increments s
  | .pmcCfgWrite n value => Sys2Proof.Machine.execPmcCfgWrite n value s
  | .snapshotArm => Sys2Proof.Machine.execSnapshotArm s
  | .registerWrite fn offset size value => Sys2Proof.Machine.execRegisterWrite fn offset size value s
  | .readClear fn offset size => Sys2Proof.Machine.execReadClear fn offset size s
  | .portOpen c req => Sys2Proof.Machine.execPortOpen c req s
  | .portClose c req => Sys2Proof.Machine.execPortClose c req s
  | .laneCalibrate c req => Sys2Proof.Machine.execLaneCalibrate c req s
  | .laneGain c req => Sys2Proof.Machine.execLaneGain c req s
  | .driverRearm c req => Sys2Proof.Machine.execDriverRearm c req s
  | .synthRebalance c req => Sys2Proof.Machine.execSynthRebalance c req s
  | .chainConfigure c req => Sys2Proof.Machine.execChainConfigure c req s
  | .chainLoadbank c req => Sys2Proof.Machine.execChainLoadbank c req s
  | .chainSwap c req => Sys2Proof.Machine.execChainSwap c req s
  | .chainThreshold c req => Sys2Proof.Machine.execChainThreshold c req s
  | .phyConfigure c req => Sys2Proof.Machine.execPhyConfigure c req s
  | .tonemapConfigure c req => Sys2Proof.Machine.execTonemapConfigure c req s
  | .tonemapRefresh c req => Sys2Proof.Machine.execTonemapRefresh c req s
  | .tonemapRead c req => Sys2Proof.Machine.execTonemapRead c req s
  | .mainsStatus c req => Sys2Proof.Machine.execMainsStatus c req s
  | .cancellerConfigure c req => Sys2Proof.Machine.execCancellerConfigure c req s
  | .cancellerSetguard c req => Sys2Proof.Machine.execCancellerSetguard c req s
  | .cancellerStatus c req => Sys2Proof.Machine.execCancellerStatus c req s
  | .macConfigure c req => Sys2Proof.Machine.execMacConfigure c req s
  | .macNeighbour c req => Sys2Proof.Machine.execMacNeighbour c req s
  | .topologyConfigure c req => Sys2Proof.Machine.execTopologyConfigure c req s
  | .endpointAdmit c req => Sys2Proof.Machine.execEndpointAdmit c req s
  | .endpointRemove c req => Sys2Proof.Machine.execEndpointRemove c req s
  | .topologyRead c req => Sys2Proof.Machine.execTopologyRead c req s
  | .bufferConfigure c req => Sys2Proof.Machine.execBufferConfigure c req s
  | .bufferQuota c req => Sys2Proof.Machine.execBufferQuota c req s
  | .frameSubmit c req => Sys2Proof.Machine.execFrameSubmit c req s
  | .rxRing c req => Sys2Proof.Machine.execRxRing c req s
  | .keyLoad c req => Sys2Proof.Machine.execKeyLoad c req s
  | .keyClear c req => Sys2Proof.Machine.execKeyClear c req s
  | .cipherBind c req => Sys2Proof.Machine.execCipherBind c req s
  | .cipherConfigure c req => Sys2Proof.Machine.execCipherConfigure c req s
  | .chkAssign c req => Sys2Proof.Machine.execChkAssign c req s
  | .chkBind c req => Sys2Proof.Machine.execChkBind c req s
  | .chkDma c req => Sys2Proof.Machine.execChkDma c req s
  | .trunkConfigure c req => Sys2Proof.Machine.execTrunkConfigure c req s
  | .tsiWrite c req => Sys2Proof.Machine.execTsiWrite c req s
  | .tsiMode c req => Sys2Proof.Machine.execTsiMode c req s
  | .tsiCommit c req => Sys2Proof.Machine.execTsiCommit c req s
  | .tsiRead c req => Sys2Proof.Machine.execTsiRead c req s
  | .pairConfigure c req => Sys2Proof.Machine.execPairConfigure c req s
  | .pairSwitch c req => Sys2Proof.Machine.execPairSwitch c req s
  | .senseConfigure c req => Sys2Proof.Machine.execSenseConfigure c req s
  | .senseCharge c req => Sys2Proof.Machine.execSenseCharge c req s
  | .senseLincoef c req => Sys2Proof.Machine.execSenseLincoef c req s
  | .pdConfigure c req => Sys2Proof.Machine.execPdConfigure c req s
  | .i2cConfigure c req => Sys2Proof.Machine.execI2cConfigure c req s
  | .i2cTransfer c req => Sys2Proof.Machine.execI2cTransfer c req s
  | .senseAssign c req => Sys2Proof.Machine.execSenseAssign c req s
  | .timebaseConfigure c req => Sys2Proof.Machine.execTimebaseConfigure c req s
  | .timebaseSettimeFull c req => Sys2Proof.Machine.execTimebaseSettimeFull c req s
  | .timebaseSettimeSeconds c req => Sys2Proof.Machine.execTimebaseSettimeSeconds c req s
  | .mbxCredits c req => Sys2Proof.Machine.execMbxCredits c req s
  | .mbxListen c req => Sys2Proof.Machine.execMbxListen c req s
  | .profileSet c req => Sys2Proof.Machine.execProfileSet c req s
  | .powerSetcap c req => Sys2Proof.Machine.execPowerSetcap c req s
  | .fwInfo c req => Sys2Proof.Machine.execFwInfo c req s
  | .fwUpdateBegin c req => Sys2Proof.Machine.execFwUpdateBegin c req s
  | .fwUpdateWrite c req => Sys2Proof.Machine.execFwUpdateWrite c req s
  | .fwUpdateFinish c req => Sys2Proof.Machine.execFwUpdateFinish c req s
  | .fwActivate c req => Sys2Proof.Machine.execFwActivate c req s
  | .podReset c req => Sys2Proof.Machine.execPodReset c req s
  | .podAssign c req => Sys2Proof.Machine.execPodAssign c req s
  | .podWindow c req => Sys2Proof.Machine.execPodWindow c req s
  | .secLifecycle c req => Sys2Proof.Machine.execSecLifecycle c req s
  | .secRevoke c req => Sys2Proof.Machine.execSecRevoke c req s
  | .kekInstall c req => Sys2Proof.Machine.execKekInstall c req s
  | .kekAgree c req => Sys2Proof.Machine.execKekAgree c req s
  | .kekClear c req => Sys2Proof.Machine.execKekClear c req s
  | .secIdentity c req => Sys2Proof.Machine.execSecIdentity c req s
  | .secTamperConfigure c req => Sys2Proof.Machine.execSecTamperConfigure c req s
  | .secTamperClear c req => Sys2Proof.Machine.execSecTamperClear c req s
  | .secObserveChallenge c req => Sys2Proof.Machine.execSecObserveChallenge c req s
  | .secObserveToken c req => Sys2Proof.Machine.execSecObserveToken c req s
  | .secObserveEnd c req => Sys2Proof.Machine.execSecObserveEnd c req s
  | .pmcAssign c req => Sys2Proof.Machine.execPmcAssign c req s
  | .pmcConfigure c req => Sys2Proof.Machine.execPmcConfigure c req s
  | .tagConfigure c req => Sys2Proof.Machine.execTagConfigure c req s
  | .trcConfigure c req => Sys2Proof.Machine.execTrcConfigure c req s
  | .trcRead c req => Sys2Proof.Machine.execTrcRead c req s
  | .pwrStandby c req => Sys2Proof.Machine.execPwrStandby c req s
  | .chiveConfigure c req => Sys2Proof.Machine.execChiveConfigure c req s
  | .sysReset c req => Sys2Proof.Machine.execSysReset c req s
  | .evtRoute c req => Sys2Proof.Machine.execEvtRoute c req s
  | .svcRegistrySet c req => Sys2Proof.Machine.execSvcRegistrySet c req s
  | .svcMeterSchedule c req => Sys2Proof.Machine.execSvcMeterSchedule c req s
  | .svcLoadShed c req => Sys2Proof.Machine.execSvcLoadShed c req s
  | .svcDispatchSet c req => Sys2Proof.Machine.execSvcDispatchSet c req s
  | .fasFoundInFrame lane => Sys2Proof.Machine.execFasFoundInFrame lane s
  | .vfEnable numVfs => Sys2Proof.Machine.execVfEnable numVfs s
  | .msixVectorUnmask fn vector => Sys2Proof.Machine.execMsixVectorUnmask fn vector s
  | .i2cTransferEnd port result ackedBytes data => Sys2Proof.Machine.execI2cTransferEnd port result ackedBytes data s
  | .portOpenCalibrationEnd port result => Sys2Proof.Machine.execPortOpenCalibrationEnd port result s

end Sys2Proof.Machine
end

