-- ==== Sys2Proof/WellFormed.lean ====
section
/-! DEFINITION. Which commands are well formed on a part: the resource a command's operands name is one the part has (R1, R2, R8,
R463, R549). The operands of a mailbox request are checked by its meaning, which answers with a status. -/

namespace Sys2Proof

/-- Whether a part has a port (R1). -/
def hasPort (p : Part) (n : Nat) : Bool := decide (n < p.ports)

/-- Whether a part has a trunk lane (R1). -/
def hasTrunkLane (p : Part) (n : Nat) : Bool := decide (n < p.trunkLanes)

/-- Whether a function has a register page: pods 0 to 64 (R463, R561). -/
def hasPage (fn : Nat) : Bool := decide (fn ≤ 64)

/-- Whether a pod is a tenant's: 1 to 64 (R463). -/
def hasTenant (n : Nat) : Bool := decide (1 ≤ n) && decide (n ≤ 64)

/-- Whether a mailbox lane exists: three to a pod (R436). -/
def hasMbxLane (pod lane : Nat) : Bool := decide (pod ≤ 64) && decide (lane ≤ 2)

/-- Whether a cipher ring exists: four to a pod (R311). -/
def hasRing (pod ring : Nat) : Bool := decide (pod ≤ 64) && decide (ring ≤ 3)

/-- Whether the resources a command names exist on a part. -/
def Instr.wellFormed (p : Part) : Instr → Bool
  | .powerOn _ => true
  | .sysResetNLow _ => true
  | .brownOut _ _ => true
  | .pf0FunctionLevelReset => true
  | .resetRelease _ _ => true
  | .pcieInterfaceReset _ => true
  | .pcieLinkUp => true
  | .vfFunctionLevelReset n => hasTenant n
  | .vfDisable _ => true
  | .podResetComplete pod => hasTenant pod
  | .standbyEntry => true
  | .chiveBeacon port => hasPort p port
  | .wakeFrame port _ => hasPort p port
  | .wakeInNLow _ => true
  | .wakeTimer => true
  | .standbySetApply _ => true
  | .pcieWakeRelease => true
  | .paceMonitorUpdate tile _ _ _ _ => p.hasTile tile
  | .avsLoopStart _ => true
  | .avsLoopPeriod _ => true
  | .avsResponseTimeout => true
  | .avsSettleCheck _ => true
  | .txFifoLowWater lane => decide (lane < p.lanes)
  | .txFifoUnderflow short => decide (short.lane < p.lanes)
  | .rxFifoOverflow lane _ => p.hasChain lane
  | .coreUndervoltage _ => true
  | .drvfltQualify port => hasPort p port
  | .driverAutoRearm port => hasPort p port
  | .txenRise port => hasPort p port
  | .txenFall port => hasPort p port
  | .referenceLost => true
  | .referenceReturn => true
  | .synthFailure _ => true
  | .synthAdoptionComplete _ => true
  | .calibrationStart port => hasPort p port
  | .calibrationComplete port _ => hasPort p port
  | .agcFrameGainRelease port => hasPort p port
  | .preambleDetect port _ _ => hasPort p port
  | .frameControlReceived port _ => hasPort p port
  | .frameBodyDecoded port _ => hasPort p port
  | .ackTransmit port => hasPort p port
  | .ackReceived port _ _ => hasPort p port
  | .ackWindowClose port => hasPort p port
  | .prsSlot port _ _ => hasPort p port
  | .backoffSlotEnd port _ _ => hasPort p port
  | .idleRestart port => hasPort p port
  | .undecodableHoldOffEnd port => hasPort p port
  | .frameTransmitStart port _ _ => hasPort p port
  | .frameTransmitEnd port => hasPort p port
  | .beaconStart port => hasPort p port
  | .zeroCrossing port _ => hasPort p port
  | .mainsAcquireTimeout port => hasPort p port
  | .predictedCrossingMiss port => hasPort p port
  | .slotBoundaryPrefetch port _ => hasPort p port
  | .tmMapReceived port _ _ => hasPort p port
  | .tmMapAckReceived port _ _ => hasPort p port
  | .tmRequestReceived port _ _ => hasPort p port
  | .tmInvalidateReceived port _ _ => hasPort p port
  | .tonemapPeriodicRefresh port _ _ _ _ => hasPort p port
  | .estimateStale port _ _ => hasPort p port
  | .cancellerSurveyEnd victim _ => hasPort p victim
  | .cancellerSymbol victim aggressor _ => hasPort p victim && hasPort p aggressor
  | .cancellerStateChange victim aggressor _ _ => hasPort p victim && hasPort p aggressor
  | .cancellerDisengagedTimeout victim aggressor => hasPort p victim && hasPort p aggressor
  | .cancellerSuspendLong victim aggressor => hasPort p victim && hasPort p aggressor
  | .treeComputation port => hasPort p port
  | .tpRouteAckReceived port _ _ => hasPort p port
  | .pendingVersionTimeout port => hasPort p port
  | .tpLinkReportReceived port _ _ => hasPort p port
  | .tpJoinReceived port _ _ => hasPort p port
  | .unreachableHoldExpiry _ => true
  | .heldSubmissionAdmit _ => true
  | .frameSeal _ _ => true
  | .staging port _ => hasPort p port
  | .uplinkOpen _ _ => true
  | .rxRingWrite _ _ => true
  | .cipherDescriptorTake pod ring _ _ => hasRing pod ring
  | .cipherJobComplete _ _ _ => true
  | .maskReseed pipe => decide (pipe < 4)
  | .entropyHealthFail => true
  | .entropyRetest _ => true
  | .chkDmaComplete _ _ => true
  | .chainOutput chain _ _ _ _ _ => p.hasChain chain
  | .bankSwapEffect swap => p.hasChain swap.chain
  | .scanFrameStart conv _ => decide (conv < 8)
  | .chargeReset input _ => decide (input < 32)
  | .clampFlagChange input _ => decide (input < 96)
  | .commonModeFlagChange input _ => decide (input < 96)
  | .dieTempUpdate _ _ _ => true
  | .pdPulseWindowEnd group _ _ => decide (group < 16)
  | .pdClusterClose group _ => decide (group < 16)
  | .i2cTransferStart port => decide (port < 2)
  | .i2cArbitrationLoss port => decide (port < 2)
  | .i2cSclTimeout held => decide (held.port < 2)
  | .i2cBusNotFreeTimeout port => decide (port < 2)
  | .trunkFrameTransmit => true
  | .trunkFrameReceive lane _ => hasTrunkLane p lane
  | .fasMissingOof lane => hasTrunkLane p lane
  | .codewordLockChange lane _ => hasTrunkLane p lane
  | .losEntry lane _ => hasTrunkLane p lane
  | .losExit lane => hasTrunkLane p lane
  | .lofEntry lane => hasTrunkLane p lane
  | .lofExit lane => hasTrunkLane p lane
  | .sdEvaluation lane _ _ => hasTrunkLane p lane
  | .slotDefectChange lane => hasTrunkLane p lane
  | .trunkFifoShortfall lane _ => hasTrunkLane p lane
  | .feedPacketReceive slot _ => decide (slot < p.slots)
  | .trunkUplinkPacket _ => true
  | .ethernetChunkSend lane _ => hasTrunkLane p lane
  | .ethernetChunkReceive lane _ _ _ _ _ => hasTrunkLane p lane
  | .ethernetChunkTimeout slot => hasTrunkLane p (slot / 64)
  | .pauseReceived lane _ => hasTrunkLane p lane
  | .tsiCommitBoundary => true
  | .tsiCopyDone => true
  | .mirrorRecordReceive _ => true
  | .peerReadySet => true
  | .peerFailingDetect _ => true
  | .pairTakeover => true
  | .takeoverBoundary => true
  | .plannedSwitchBoundary => true
  | .heartbeatLoss => true
  | .mirrorLinkLossTimeout => true
  | .ppsEdge _ => true
  | .ppsEdgeMissing => true
  | .timebaseRenewal => true
  | .holdoverExpiry => true
  | .revertiveDisplace _ => true
  | .timeStep => true
  | .ppsOutEdge => true
  | .mbxDoorbell pod lane _ => hasMbxLane pod lane
  | .mbxDescriptorTake pod lane _ _ _ _ => hasMbxLane pod lane
  | .mbxLaneEnable pod lane _ => hasMbxLane pod lane
  | .mbxFaultClear pod lane => hasMbxLane pod lane
  | .mbxCmplConsUpdate pod lane _ => hasMbxLane pod lane
  | .commandWaitEnd _ => true
  | .sheddingEntry _ => true
  | .sheddingExit _ => true
  | .notificationPost pod lane _ _ => hasMbxLane pod lane
  | .watchdogExpiry => true
  | .processorFault => true
  | .firmwareRestartComplete => true
  | .meterPeriod _ => true
  | .meterCollectionEnd _ => true
  | .serviceReplyReceived _ _ => true
  | .loadShedExecute _ => true
  | .loadShedConfirm _ => true
  | .dispatchReassert _ => true
  | .dispatchLoss _ => true
  | .apertureAccess pod _ offset len _ => hasTenant pod && decide (offset + len ≤ 2 ^ 32)
  | .checkedAccessRetire _ => true
  | .journaledWriteCommit => true
  | .tamperQualify source => decide (source < 7)
  | .tamperLoopPattern input _ => decide (input < 4)
  | .observeExpiry => true
  | .snapshotLatch => true
  | .traceTimeRecord => true
  | .traceSyncWord => true
  | .eventRecordIssue _ _ _ _ => true
  | .coalesceWindowClose _ _ => true
  | .admitVectorDeferred _ => true
  | .deliveryVectorDeferred _ => true
  | .evtSrcCfgWrite source _ => decide (source < 1536)
  | .evtRingEnable fn _ => hasPage fn
  | .evtRingFaultClear fn => hasPage fn
  | .cphRingDoorbell pod ring _ => hasRing pod ring
  | .cphRingEnable pod ring _ => hasRing pod ring
  | .cphRingFaultClear pod ring => hasRing pod ring
  | .cphCmplConsUpdate pod ring _ => hasRing pod ring
  | .avsFaultClear => true
  | .chkContextWrite ctx _ _ => decide (ctx < 1024)
  | .pmcValueWrite n _ _ => decide (n < 256)
  | .pmcCfgWrite n _ => decide (n < 256)
  | .snapshotArm => true
  | .registerWrite fn _ _ _ => hasPage fn
  | .readClear fn _ _ => hasPage fn
  | .portOpen _ _ => true
  | .portClose _ _ => true
  | .laneCalibrate _ _ => true
  | .laneGain _ _ => true
  | .driverRearm _ _ => true
  | .synthRebalance _ _ => true
  | .chainConfigure _ _ => true
  | .chainLoadbank _ _ => true
  | .chainSwap _ _ => true
  | .chainThreshold _ _ => true
  | .phyConfigure _ _ => true
  | .tonemapConfigure _ _ => true
  | .tonemapRefresh _ _ => true
  | .tonemapRead _ _ => true
  | .mainsStatus _ _ => true
  | .cancellerConfigure _ _ => true
  | .cancellerSetguard _ _ => true
  | .cancellerStatus _ _ => true
  | .macConfigure _ _ => true
  | .macNeighbour _ _ => true
  | .topologyConfigure _ _ => true
  | .endpointAdmit _ _ => true
  | .endpointRemove _ _ => true
  | .topologyRead _ _ => true
  | .bufferConfigure _ _ => true
  | .bufferQuota _ _ => true
  | .frameSubmit _ _ => true
  | .rxRing _ _ => true
  | .keyLoad _ _ => true
  | .keyClear _ _ => true
  | .cipherBind _ _ => true
  | .cipherConfigure _ _ => true
  | .chkAssign _ _ => true
  | .chkBind _ _ => true
  | .chkDma _ _ => true
  | .trunkConfigure _ _ => true
  | .tsiWrite _ _ => true
  | .tsiMode _ _ => true
  | .tsiCommit _ _ => true
  | .tsiRead _ _ => true
  | .pairConfigure _ _ => true
  | .pairSwitch _ _ => true
  | .senseConfigure _ _ => true
  | .senseCharge _ _ => true
  | .senseLincoef _ _ => true
  | .pdConfigure _ _ => true
  | .i2cConfigure _ _ => true
  | .i2cTransfer _ _ => true
  | .senseAssign _ _ => true
  | .timebaseConfigure _ _ => true
  | .timebaseSettimeFull _ _ => true
  | .timebaseSettimeSeconds _ _ => true
  | .mbxCredits _ _ => true
  | .mbxListen _ _ => true
  | .profileSet _ _ => true
  | .powerSetcap _ _ => true
  | .fwInfo _ _ => true
  | .fwUpdateBegin _ _ => true
  | .fwUpdateWrite _ _ => true
  | .fwUpdateFinish _ _ => true
  | .fwActivate _ _ => true
  | .podReset _ _ => true
  | .podAssign _ _ => true
  | .podWindow _ _ => true
  | .secLifecycle _ _ => true
  | .secRevoke _ _ => true
  | .kekInstall _ _ => true
  | .kekAgree _ _ => true
  | .kekClear _ _ => true
  | .secIdentity _ _ => true
  | .secTamperConfigure _ _ => true
  | .secTamperClear _ _ => true
  | .secObserveChallenge _ _ => true
  | .secObserveToken _ _ => true
  | .secObserveEnd _ _ => true
  | .pmcAssign _ _ => true
  | .pmcConfigure _ _ => true
  | .tagConfigure _ _ => true
  | .trcConfigure _ _ => true
  | .trcRead _ _ => true
  | .pwrStandby _ _ => true
  | .chiveConfigure _ _ => true
  | .sysReset _ _ => true
  | .evtRoute _ _ => true
  | .svcRegistrySet _ _ => true
  | .svcMeterSchedule _ _ => true
  | .svcLoadShed _ _ => true
  | .svcDispatchSet _ _ => true
  | .fasFoundInFrame lane => hasTrunkLane p lane
  | .vfEnable _ => true
  | .msixVectorUnmask fn vector => hasPage fn && decide (vector < if fn = 0 then 1024 else 16)
  | .i2cTransferEnd port _ _ _ => decide (port < 2)
  | .portOpenCalibrationEnd port _ => hasPort p port

end Sys2Proof
end

