-- ==== Sys2Proof/Safety.lean ====
section
/-! DEFINITION. What a safe run is, the invariant every step keeps, and the conditions on the state that the statements use. -/

namespace Sys2Proof.Machine

/-- A state from which no waiting command names a resource the part does not have: the run of its queue never faults. -/
def State.safe (s : State) : Prop := ∀ c ∈ s.pending, c.wellFormed s.part = true

/-- The invariant of every reachable state: DDR in its canonical form, a lifecycle the fuses can spell (R483: 0 to 3), and a test
access port as that lifecycle has it: outside Manufacturing held in Test-Logic-Reset with JTAG_TDO at high impedance (R484). -/
structure State.Inv (s : State) : Prop where
  ddr : Memory.wf s.ddr = true
  lifecycle : s.sec.lifecycle ≤ 3
  tap : s.sec.tap = Tap.of s.sec.lifecycle

/-- The fuses of R485 are only ever blown: the lifecycle never goes back, no revoked key comes back, and the minimum security
version never falls. -/
structure FusesKept (s t : State) : Prop where
  lifecycle : s.sec.lifecycle ≤ t.sec.lifecycle
  revoked : s.sec.revoked &&& t.sec.revoked = s.sec.revoked
  minSecver : s.sec.minSecver ≤ t.sec.minSecver

/-- The device runs (R534): neither in the reset phase nor in standby. -/
abbrev Running (s : State) : Prop := s.pwr.phase = .running

/-- The firmware takes a command from a caller and starts it at once: it takes commands (R445), the caller's function exists (R463)
and is not in a pod reset (R472), no submission is held before it on its lane (R292), standby has not stopped its lane (R534), its
lane is not shed (R444), its request was read (R440), and nothing it names is in use or waits before it (R443, R474, R592). -/
def mayStart (s : State) (c : Caller) (code : Nat) (names : List Resource) : Bool :=
  s.mgmt.ready && fnExists s c.pod && decide (c.lane ≤ 2) && !(pod s c.pod).resetting && (c.gone || !laneHeld s c.pod c.lane)
    && !standbyStops s c && !(s.mgmt.shedding && c.lane == 2 && code != 0x0E02) && !c.io.readFails && !behindWaiting s c
    && !names.any (busyResource s c) && !namesPodInReset s c names

/-- A device reset of a cause (R529, R530): the reset phase, its cause and count; the always-on domain, MRAM and the fuses as they
were, the standby set discarded unless the cause is a wake; the rest of the device at its reset values. -/
structure DeviceReset (code : BitVec 4) (s t : State) : Prop where
  phase : t.pwr.phase = .resetPhase
  cause : t.pwr.cause = code
  count : t.pwr.resetCount = s.pwr.resetCount + 1
  kwk : t.sec.kwk = s.sec.kwk
  latch : t.sec.tamper = s.sec.tamper ∧ t.sec.tamperSeen = s.sec.tamperSeen ∧ t.sec.alarms = s.sec.alarms
  fuses : t.sec.lifecycle = s.sec.lifecycle ∧ t.sec.revoked = s.sec.revoked ∧ t.sec.minSecver = s.sec.minSecver
  mram : t.mram = if code = 6 then s.mram else { s.mram with standby := none }
  flash : t.mgmt.slot0 = s.mgmt.slot0 ∧ t.mgmt.slot1 = s.mgmt.slot1 ∧ t.mgmt.selector = s.mgmt.selector
  firmware : t.mgmt.fwState = .booting ∧ t.mgmt.ready = false
  lines : t.ports = [] ∧ t.lbf = {} ∧ t.nbrs = [] ∧ t.eps = []
  host : t.host = {} ∧ t.evt = {} ∧ t.obs = {}
  engines : t.chk = [] ∧ t.trk = {} ∧ t.chains = [] ∧ t.sns = {}
  isolation : t.pods = [] ∧ t.own = {} ∧ t.fw = {}

/-- A command that starts and completes at once: what its meaning left, the mirror record of its configuration (R370), and its
completion with a status and a response (R439). -/
def Answers (c : Caller) (code : Nat) (req : Bytes) (st : Status) (resp : Bytes) (u : State) : Host.Outcome State Fault Refusal :=
  .next (complete c st resp (mirrorConfig { caller := c, code := code, req := req } st u))

/-- A command that starts and executes over time (R443): it is held, with the resources it names, in the state its meaning left. -/
def GoesOn (c : Caller) (code : Nat) (req : Bytes) (names : List Resource) (committed : Bool) (u : State) :
    Host.Outcome State Fault Refusal :=
  .next (hold ⟨code, true, false, names⟩ c req committed u)

/-- Every byte of DDR reads as before. -/
def DdrSame (s t : State) : Prop := ∀ a, memGet t.ddr a = memGet s.ddr a

end Sys2Proof.Machine
end

