-- ==== Sys2Proof/Certificates/Slice0/Obligations.lean ====
section
/-! DEFINITION. The statements for the provers. -/

open Sys2Proof Sys2Proof.Machine

/-- A pace monitor's update publishes PACE, SLACK and DEMAND, sets VALID, and sets SHORT when the slack is negative; no other tile changes. (R48.) -/
def Obligations.PaceMonitorPublishes : Prop :=
  ∀ (s : State) (n pace : Nat) (slack : Int) (demand peak : Nat), Running s → s.part.hasTile n = true → peak < 256 →
    ∃ t, exec (.paceMonitorUpdate n pace slack demand peak) s = .next t ∧
      (tile t n).pace = BitVec.ofNat 16 pace ∧ (tile t n).slack = BitVec.ofInt 16 slack ∧
      (tile t n).demand = BitVec.ofNat 16 demand ∧ (tile t n).valid = true ∧
      (tile t n).short = ((tile s n).short || decide (slack < 0)) ∧
      (n < 16 → (tile s n).fifoPeak.toNat ≤ (tile t n).fifoPeak.toNat ∧ peak ≤ (tile t n).fifoPeak.toNat) ∧
      (16 ≤ n → (tile t n).fifoPeak = 0) ∧
      (∀ m, m ≠ n → tile t m = tile s m) ∧
      t.syn = s.syn ∧ t.tmb = s.tmb ∧ t.ports = s.ports ∧ t.pods = s.pods ∧ DdrSame s t ∧ t.mram = s.mram

/-- The voltage loop starts under the cap, raises a request on thin slack, and latches AVS_FAULT on a lost answer or a wrong voltage. (R52, R54.) -/
def Obligations.AdaptiveVoltageLoop : Prop :=
  (∀ (s : State) (v : Nat), Running s → s.pwr.avs.started = false → (∀ n ∈ tilesOf s, (tile s n).valid = true) → s.pwr.avs.vCap < 65536 →
    ∃ t, exec (.avsLoopStart v) s = .next t ∧ t.pwr.avs.started = true ∧ t.out = s.out ++ [.avs (min (ceilDiv v 5 * 5) s.pwr.avs.vCap)] ∧
      t.pwr.avs.vReq.toNat = min (ceilDiv v 5 * 5) s.pwr.avs.vCap ∧ t.pwr.avs.checks = s.pwr.avs.checks ++ [s.now + us 200]) ∧
  (∀ (s : State) (v n : Nat), Running s → s.pwr.avs.started = true → leastTile s (tilesOf s) = some n → slackOf s n < 41 →
    s.pwr.avs.vReq.toNat ≤ s.pwr.avs.vCap → (s.pwr.avs.fault = true → s.pwr.avs.vReq.toNat + 10 ≤ min s.pwr.avs.vCap 900) →
    ∃ t, exec (.avsLoopPeriod v) s = .next t ∧ t.pwr.avs.vReq.toNat = min (s.pwr.avs.vReq.toNat + 10) (min s.pwr.avs.vCap 900) ∧
      t.pwr.avs.vMeas = BitVec.ofNat 16 v ∧ t.now = max s.now (s.pwr.avs.periodAt + us 100)) ∧
  (∀ (s : State), Running s → s.pwr.avs.started = true →
    ∃ t, exec .avsResponseTimeout s = .next t ∧ t.pwr.avs.fault = true) ∧
  (∀ (s : State) (v due : Nat) (later : List Nat), Running s → s.pwr.avs.checks = due :: later →
    ∃ t, exec (.avsSettleCheck v) s = .next t ∧ t.pwr.avs.vMeas = BitVec.ofNat 16 v ∧ t.pwr.avs.checks = later ∧
      t.now = max s.now due ∧
      t.pwr.avs.fault = (s.pwr.avs.fault || decide (((v : Int) - s.pwr.avs.vReq.toNat).natAbs > 15))) ∧
  (∀ (s : State), pageOpen s 0 = true →
    exec .avsFaultClear s = .next { s with pwr.avs.fault := false })

/-- power.setcap sets V_cap, profile.set takes a port's profile, thin transmit FIFOs raise the voltage, a low core voltage fails the role. (R454, R455, R456, R55, R545.) -/
def Obligations.PowerCommandsAndAlarms : Prop :=
  (∀ (s : State) (c : Caller) (req : Bytes), mayStart s c 0x0E04 [] = true → shaped req 8 [(2, 6)] = true → c.pod = 0 →
    600 ≤ rd req 0 2 → rd req 0 2 ≤ 900 → rd req 0 2 % 5 = 0 →
    exec (.powerSetcap c req) s = Answers c 0x0E04 req St.ok (leBytes 2 St.ok.toNat ++ leBytes 2 s.pwr.avs.vReq.toNat ++ zeros 4)
      { s with pwr.avs.vCap := rd req 0 2 }) ∧
  (∀ (s : State) (c : Caller) (req : Bytes) (f : Profile), mayStart s c 0x0E03 [.port (rd req 0 2)] = true →
    shaped req 8 [(4, 4)] = true → profileOf (rd req 2 1) (rd req 3 1) = some f → rd req 0 2 < s.part.ports →
    (c.pod = 0 ∨ portOwner s (rd req 0 2) = c.pod) →
    (∀ x8, f = .longReach x8 → tooLongFor s (rd req 0 2) x8 = false) →
    (isOpen s (rd req 0 2) = false →
      exec (.profileSet c req) s = Answers c 0x0E03 req St.ok (statusResp St.ok)
        (updLine (rd req 0 2) (fun l => { l with profile := f, nextProfile := none }) s)) ∧
    (isOpen s (rd req 0 2) = true → (port s (rd req 0 2)).line.nextProfile = none →
      exec (.profileSet c req) s = Answers c 0x0E03 req St.pending (statusResp St.pending)
        (updLine (rd req 0 2) (fun l => { l with nextProfile := some f }) s))) ∧
  (∀ (s : State) (lane : Nat), lane < s.part.lanes → (port s (lane / 4)).mac.tx.isSome = true →
    ∃ t, exec (.txFifoLowWater lane) s = .next t ∧ t.pwr.avs.emergency = true ∧
      t.pwr.avs.vReq.toNat = max s.pwr.avs.vReq.toNat (min s.pwr.avs.vCap 800) ∧ t.pwr.avs.vCap = s.pwr.avs.vCap) ∧
  (∀ (s : State) (dur : Nat), 200 ≤ dur →
    ∃ t, exec (.coreUndervoltage dur) s = .next t ∧ (s.trk.pair.role = .active → t.trk.pair.role = .failing) ∧
      (s.trk.pair.role ≠ .active → t = s))

/-- Each of the six causes starts a device reset with its code once it qualifies; a firmware restart is no device reset. (R528.) -/
def Obligations.DeviceResetCauses : Prop :=
  (∀ (s : State) (dur : Nat), s.pwr.phase ≠ .resetPhase → 1000 ≤ dur →
    ∃ t, exec (.sysResetNLow dur) s = .next t ∧ DeviceReset 2 s t ∧ t.pwr.causeEnd = s.now + nsTicks dur) ∧
  (∀ (s : State) (rails dur : Nat), s.pwr.phase ≠ .resetPhase → 1000 ≤ dur → rails % 16 ≠ 0 →
    ∃ t, exec (.brownOut rails dur) s = .next t ∧ DeviceReset 3 s t ∧ t.pwr.brownoutRail = BitVec.ofNat 4 rails ∧
      t.pwr.brownoutSeen = true) ∧
  (∀ (s : State), Running s → s.host.linkUp = true →
    ∃ t, exec .pf0FunctionLevelReset s = .next t ∧ DeviceReset 4 s t) ∧
  (∀ (s : State) (dur : Nat),
    ∃ t, exec (.powerOn dur) s = .next t ∧ t.pwr.phase = .resetPhase ∧ t.pwr.cause = 1 ∧ t.pwr.causeEnd = s.now + nsTicks dur ∧
      t.sec.kwk = none ∧ t.sec.tamper = false ∧ t.mram = { s.mram with standby := none } ∧ FusesKept s t ∧ t.ports = []) ∧
  (∀ (s : State) (c : Caller) (req : Bytes), mayStart s c 0x1203 [] = true → shaped req 8 [(0, 8)] = true → c.pod = 0 →
    Running s → s.trk.pair.role ≠ .active → c.gone = false →
    ∃ t, exec (.sysReset c req) s = .next t ∧ DeviceReset 5 s t ∧ s.now + us 100 ≤ t.now) ∧
  (∀ (s : State) (dur : Nat), s.pwr.phase = .resetPhase → 1000 ≤ dur →
    ∃ t, exec (.sysResetNLow dur) s = .next t ∧ t.pwr.causeEnd = max s.pwr.causeEnd (s.now + nsTicks dur) ∧
      t.pwr.resetCount = s.pwr.resetCount) ∧
  (∀ (s : State) (rails dur : Nat), dur < 1000 → exec (.sysResetNLow dur) s = .next s ∧ exec (.brownOut rails dur) s = .next s) ∧
  (∀ (s : State) (o : StandbyOrder) (dur : Nat), s.pwr.phase = .standby → s.pwr.order = some o → bit o.flags 1 = true → 10000 ≤ dur →
    ∃ t, exec (.wakeInNLow dur) s = .next t ∧ DeviceReset 6 s t) ∧
  (∀ (s : State) (i : Instr), i = .watchdogExpiry ∨ i = .processorFault → ∃ t, exec i s = .next t ∧ t.pwr.phase = s.pwr.phase ∧
    t.pwr.cause = s.pwr.cause ∧ t.pwr.resetCount = s.pwr.resetCount)

/-- At reset release the device starts up: it boots the selected sound image and sets READY, or halts unbooted where no image is sound. (R488, R445.) -/
def Obligations.StartUpReachesReady : Prop :=
  ∀ (s : State) (ref : Bool) (boot : BootView), s.pwr.phase = .resetPhase → s.mgmt.ready = false → s.sec.bootOk = false →
    ∃ t, exec (.resetRelease ref boot) s = .next t ∧ Running t ∧ s.pwr.causeEnd + us 1000 ≤ t.now ∧
      t.syn.aLock = true ∧ t.syn.bLock = true ∧
      (∀ v slot, bootChoice s boot = some (v, slot) → t.mgmt.fwState = .running ∧ t.mgmt.ready = true ∧ t.sec.bootOk = true ∧
        t.sec.bootSlot = slot ∧ t.sec.runSecver = v.secver ∧ t.sec.runKey = v.keyIndex ∧ t.mgmt.fwVersion = BitVec.ofNat 16 v.version) ∧
      (bootChoice s boot = none → t.mgmt.fwState = .halted ∧ t.mgmt.ready = false ∧ t.sec.bootOk = false)

/-- Standby is entered 1 ms after its record, each enabled wake source starts the wake with its cause and its reset cause 6, and PCIE_WAKE_N is released. (R537.) -/
def Obligations.StandbyAndWake : Prop :=
  (∀ (s : State) (o : StandbyOrder) (r : Nat), Running s → s.pwr.order = some o → o.recordAt = some r → o.wake = none →
    ∃ t, exec .standbyEntry s = .next t ∧ t.pwr.phase = .standby ∧ t.now = max s.now (r + ms 1) ∧ t.pwr.chive = s.pwr.chive ∧
      t.pwr.order = some o ∧ t.pwr.standbyCount = s.pwr.standbyCount + 1 ∧ t.syn = s.syn ∧ t.mram = s.mram ∧ t.sec.kwk = s.sec.kwk) ∧
  (∀ (s : State) (o : StandbyOrder) (p fc : Nat), s.pwr.phase = .standby → s.pwr.order = some o → p < s.part.ports →
    tget false s.pwr.chive p = true → fcValid fc = true → fcReserved (parseFc fc) = false → (parseFc fc).fcType = 0 →
    (parseFc fc).kind ≤ 1 → (parseFc fc).mode = 2 → (parseFc fc).rx = devAddr → o.wakeClass ≤ (parseFc fc).cls →
    isNeighbour s p (parseFc fc).tx = true → allStopped s = false →
    ∃ t, exec (.wakeFrame p fc) s = .next t ∧ t.pwr.wakeCause = 1 ∧ t.pwr.wakePort = BitVec.ofNat 7 p ∧
      t.pwr.wakeEp = BitVec.ofNat 14 (parseFc fc).tx ∧ t.pwr.wakeSeen = true ∧ DeviceReset 6 s t) ∧
  (∀ (s : State) (o : StandbyOrder) (dur : Nat), s.pwr.phase = .standby → s.pwr.order = some o → bit o.flags 1 = true → 10000 ≤ dur →
    ∃ t, exec (.wakeInNLow dur) s = .next t ∧ t.pwr.wakeCause = 2 ∧ DeviceReset 6 s t) ∧
  (∀ (s : State) (o : StandbyOrder) (r : Nat), s.pwr.phase = .standby → s.pwr.order = some o → o.recordAt = some r → bit o.flags 2 = true →
    ∃ t, exec .wakeTimer s = .next t ∧ t.pwr.wakeCause = 3 ∧ DeviceReset 6 s t) ∧
  (∀ (s : State) (n : Nat), s.pwr.wakeN = some n →
    ∃ t, exec .pcieWakeRelease s = .next t ∧ t.pwr.wakeN = none ∧ t.out = s.out ++ [.pin "PCIE_WAKE_N" 1]) ∧
  (∀ (s : State) (o : StandbyOrder) (p : Nat), s.pwr.phase = .standby → s.pwr.order = some o → p < s.part.ports →
    thas s.pwr.chive p = true → allStopped s = false → 1 ≤ o.chiveEvery → (port s p).mac.beaconSeq.toNat + chiveSteps s (port s p) o.chiveEvery < 65536 →
    ∃ t, exec (.chiveBeacon p) s = .next t ∧ (port t p).mac.beaconSeq.toNat % o.chiveEvery = 0 ∧
      (port t p).mac.beaconAt = (port s p).mac.beaconAt + 20000000 * chiveSteps s (port s p) o.chiveEvery ∧
      ∃ w : Wave, t.out = s.out ++ [.txen p .high, .line p (port t p).mac.beaconAt w, .txen p .released] ∧
        w.chive = true ∧ w.lanes = 9 ∧ ∃ f : Fc, w.fc = packFc f ∧ f.mode = 2 ∧ f.kind = 2)

/-- pwr.standby takes its order and waits for the standby set, STANDBY_SET_APPLY restores the set, chive.configure designates ports. (R534, R538, R541.) -/
def Obligations.StandbyCommands : Prop :=
  (∀ (s : State) (c : Caller) (req : Bytes), mayStart s c 0x1201 [] = true → shaped req 16 [(3, 5)] = true → c.pod = 0 →
    rd req 0 1 ≤ 7 → rd req 1 1 ≤ 3 → 1 ≤ rd req 2 1 → rd req 2 1 ≤ 4 →
    (bit (rd req 0 1) 2 = true → serialNewer 64 (rd req 8 8) (tmbNow s).toNat = true) → isPaired s = false →
    anyWake s (rd req 0 1) = true →
    (bit (rd req 0 1) 0 = false → s.lbf.flights = [] →
      exec (.pwrStandby c req) s = GoesOn c 0x1201 req [] true
        (journalWrite { target := .standby ((s.ports.map (·.1)).filter (isOpen s)), caller := some c, status := St.ok, resp := statusResp St.ok }
          { s with pwr.order := some { lane := c.lane, flags := rd req 0 1, wakeClass := rd req 1 1, chiveEvery := rd req 2 1,
                                       wakeAt := rd req 8 8 } })) ∧
    (bit (rd req 0 1) 0 = true →
      ∃ t, exec (.pwrStandby c req) s = .next t ∧
        t.pwr.order = some { lane := c.lane, flags := rd req 0 1, wakeClass := rd req 1 1, chiveEvery := rd req 2 1, wakeAt := rd req 8 8 })) ∧
  (∀ (s : State) (x : StandbySet) (failed : List Nat), s.mram.standby = some x → s.pwr.waking = true → s.mgmt.ready = true →
    s.pwr.setValid = true →
    ∃ t, exec (.standbySetApply failed) s = .next t ∧ t.pwr.restored = true ∧ t.pwr.setValid = false ∧ t.pwr.waking = false ∧
      t.mram.standby = none ∧ (failed ≠ [] → t.pwr.restoreFail = true) ∧
      (failed = [] → t.own = x.owners ∧ t.eps = x.eps ∧ t.trk.page0 = x.page ∧ t.pwr.avs.vCap = x.vCap ∧ t.mgmt.credits = x.credits ∧
        t.evt.cfg = x.routes ∧ t.obs.slots = x.slots ∧ t.tmb.nextCfg = some x.tmb)) ∧
  (∀ (s : State) (c : Caller) (req : Bytes), mayStart s c 0x1202 [.port (rd req 0 2)] = true → shaped req 8 [(3, 5)] = true →
    c.pod = 0 → rd req 0 2 < s.part.ports → rd req 2 1 ≤ 3 →
    (bit (rd req 2 1) 0 = false →
      exec (.chiveConfigure c req) s = Answers c 0x1202 req St.ok (statusResp St.ok) { s with pwr.chive := tdel s.pwr.chive (rd req 0 2) }) ∧
    (bit (rd req 2 1) 0 = true → (thas s.pwr.chive (rd req 0 2) = true ∨ s.pwr.chive.length < 16) →
      exec (.chiveConfigure c req) s = Answers c 0x1202 req St.ok (statusResp St.ok)
        { s with pwr.chive := tset s.pwr.chive (rd req 0 2) (bit (rd req 2 1) 1) }))

/-- port.open calibrates and, lanes A and D passing, puts the port on line in its mode; port.close takes it off; a standby set reopens. (R84, R85, R86, R87, R59, R538.) -/
def Obligations.PortOpensAndCloses : Prop :=
  (∀ (s : State) (c : Caller) (req : Bytes), mayStart s c 0x0101 [.port (rd req 0 2)] = true → shaped req 24 [(17, 7)] = true →
    rd req 0 2 < s.part.ports → openOk req = true → mayPort s c (rd req 0 2) = true → isOpen s (rd req 0 2) = false →
    allStopped s = false → calibrations s < 32 → (port s (rd req 0 2)).line.stopped = false →
    exec (.portOpen c req) s = GoesOn c 0x0101 req [.port (rd req 0 2)] true (loopback (rd req 0 2) (.opening c req) s)) ∧
  (∀ (s : State) (p : Nat) (r : CalResult) (c : Caller) (req : Bytes), p < s.part.ports → s.mgmt.fwState = .running →
    (port s p).line.cal = .opening c req →
    (lanePassed r 0 = true → lanePassed r 3 = true →
      ∃ t, exec (.portOpenCalibrationEnd p r) s = .next t ∧ isOpen t p = true ∧
        (port t p).line.mode = (openMode (rd req 2 1 == 1) (calPassOf r)).1 ∧
        (port t p).line.plcLanes = BitVec.ofNat 4 (openMode (rd req 2 1 == 1) (calPassOf r)).2 ∧
        (port t p).line.apertures = aperturesOf r ∧ (port t p).line.fixedGain = gainsAt req 4 ∧
        (port t p).line.leadNs = rd req 12 2 ∧ (port t p).line.tailNs = rd req 14 2 ∧ (port t p).line.latched = false ∧
        (port t p).line.cal = .none ∧ (port t p).mac.beaconing = true ∧ (port t p).mac.beaconAt = s.now ∧
        (c.io.drvfltLow = true → (port t p).line.driverOff = true)) ∧
    ((lanePassed r 0 = false ∨ lanePassed r 3 = false) →
      exec (.portOpenCalibrationEnd p r) s = .next (complete c St.calFailed (openResp St.calFailed r) (loopbackEnds p s)))) ∧
  (∀ (s : State) (p : Nat) (r : CalResult) (req : Bytes), p < s.part.ports → s.mgmt.fwState = .running →
    (port s p).line.cal = .reopening req →
    ∃ t, exec (.portOpenCalibrationEnd p r) s = .next t ∧ (lanePassed r 0 = true → lanePassed r 3 = true → isOpen t p = true) ∧
      ((lanePassed r 0 = false ∨ lanePassed r 3 = false) → t.pwr.restoreFail = true)) ∧
  (∀ (s : State) (c : Caller) (req : Bytes), mayStart s c 0x0102 [.port (rd req 0 2)] = true → shaped req 8 [(3, 5)] = true →
    rd req 0 2 < s.part.ports → rd req 2 1 ≤ 1 → mayPort s c (rd req 0 2) = true → isOpen s (rd req 0 2) = true →
    (bit (rd req 2 1) 0 = true ∨ portTx s (rd req 0 2) = 0) →
    ∃ t, exec (.portClose c req) s = .next t ∧
      ((port s (rd req 0 2)).mac.tx = none → (port s (rd req 0 2)).mac.awaiting = none →
        isOpen t (rd req 0 2) = false ∧ (port t (rd req 0 2)).line.txen = .released ∧ (port t (rd req 0 2)).mac.beaconing = false ∧
        (port t (rd req 0 2)).line.closing = none) ∧
      ((port s (rd req 0 2)).mac.tx.isSome = true →
        isOpen t (rd req 0 2) = true ∧ (port t (rd req 0 2)).line.closing = some c))

/-- lane.calibrate runs on an idle medium and its corrections apply when all PLC lanes pass; lane.gain and driver.rearm set a port's line. (R71, R75, R87.) -/
def Obligations.CalibrationAndGain : Prop :=
  (∀ (s : State) (c : Caller) (req : Bytes), mayStart s c 0x0103 [.port (rd req 0 2)] = true → shaped req 8 [(2, 6)] = true →
    rd req 0 2 < s.part.ports → mayPort s c (rd req 0 2) = true → isOpen s (rd req 0 2) = true → allStopped s = false →
    calibrations s < 32 →
    exec (.laneCalibrate c req) s = GoesOn c 0x0103 req [.port (rd req 0 2)] true
      (updLine (rd req 0 2) (fun l => { l with cal := .waitBeacon c }) s)) ∧
  (∀ (s : State) (p : Nat) (c : Caller), p < s.part.ports → (port s p).line.cal = .waitIdle c → (port s p).mac.tx = none →
    (port s p).mac.awaiting = none → (port s p).mac.rx = none → (port s p).mac.ackDue = none →
    ∃ t, exec (.calibrationStart p) s = .next t ∧ (port t p).line.cal = .running c ∧ (port t p).line.calAt = s.now ∧
      (port t p).mac.contend = .idle ∧ (port t p).mac.holdOff = none) ∧
  (∀ (s : State) (p : Nat) (c : Caller) (r : CalResult), p < s.part.ports → (port s p).line.cal = .running c →
    ∃ t, exec (.calibrationComplete p r) s = .next t ∧ (port t p).line.cal = .none ∧
      (port t p).line.apertures = if (bitPositions 4 (port s p).line.plcLanes.toNat).all (lanePassed r) then aperturesOf r
        else (port s p).line.apertures) ∧
  (∀ (s : State) (c : Caller) (req : Bytes), mayStart s c 0x0104 [.port (rd req 0 2)] = true → shaped req 8 [(6, 2)] = true →
    rd req 0 2 < s.part.ports → rd req 2 1 ≤ 3 → rd req 3 1 ≤ 1 → rd req 5 1 ≤ 63 →
    (rd req 3 1 = 1 → -24 ≤ rdInt req 4 1 ∧ rdInt req 4 1 ≤ 72) → mayPort s c (rd req 0 2) = true → isOpen s (rd req 0 2) = true →
    ((port s (rd req 0 2)).line.mode = .single → rd req 2 1 ≠ 1 ∧ rd req 2 1 ≠ 2) →
    ∃ t, exec (.laneGain c req) s = .next t ∧
      (port t (rd req 0 2)).line.txAtten = (port s (rd req 0 2)).line.txAtten.set (rd req 2 1) (rd req 5 1) ∧
      (port t (rd req 0 2)).line.fixedGain = (port s (rd req 0 2)).line.fixedGain.set (rd req 2 1) (rdInt req 4 1) ∧
      bit (port t (rd req 0 2)).line.agcFixed.toNat (rd req 2 1) = (rd req 3 1 == 1) ∧
      (∀ q, q ≠ rd req 0 2 → port t q = port s q)) ∧
  (∀ (s : State) (c : Caller) (req : Bytes), mayStart s c 0x0105 [.port (rd req 0 2)] = true → shaped req 8 [(2, 6)] = true →
    rd req 0 2 < s.part.ports → mayPort s c (rd req 0 2) = true → c.io.drvfltLow = false →
    (port s (rd req 0 2)).line.latched = true →
    exec (.driverRearm c req) s = Answers c 0x0105 req St.ok (statusResp St.ok) (updLine (rd req 0 2) (fun l =>
      { l with latched := false, driverOff := false, faultTimes := [], rearmTimes := [], drvfltLow := false }) s))

/-- TXEN leads and trails a transmission; a qualified driver fault turns it off, latching at the fourth in 1 s; FIFO shortfalls are told. (R57, R58, R66, R73, R74, R75, R80, R101.) -/
def Obligations.LineDriverAndFifos : Prop :=
  (∀ (s : State) (p start : Nat), p < s.part.ports → mayTransmit s p = true →
    ((port s p).mac.tx.map (·.startAt) = some start ∨ ((port s p).mac.tx = none ∧ nextTxStart s p = some start)) →
    ∃ t, exec (.txenRise p) s = .next t ∧ (port t p).line.txen = .high ∧
      t.now = max s.now (start - (port s p).line.leadNs / 2)) ∧
  (∀ (s : State) (p a b : Nat) (rest : List (Nat × Nat)), p < s.part.ports → (port s p).line.txSpans = (a, b) :: rest →
    (port s p).line.txen = .high → (port s p).mac.tx = none →
    (∀ r, nextTxStart s p = some r → b + (port s p).line.tailNs / 2 + us 1 ≤ r - (port s p).line.leadNs / 2) →
    ∃ t, exec (.txenFall p) s = .next t ∧ (port t p).line.txen = .low ∧ t.now = max s.now (b + (port s p).line.tailNs / 2)) ∧
  (∀ (s : State) (p : Nat), p < s.part.ports → Running s → isOpen s p = true →
    ∃ t, exec (.drvfltQualify p) s = .next t ∧ (port t p).line.drvfltLow = true ∧
      ((port s p).line.stopped = true → (port t p).line.lateFault = true) ∧
      ((port s p).line.stopped = false → (port t p).line.driverOff = true ∧ (port t p).mac.tx = none ∧
        (port t p).line.latched = ((port s p).line.latched ||
          decide (3 ≤ ((port s p).line.faultTimes.filter (fun x => decide (s.now < x + secs 1))).length)))) ∧
  (∀ (s : State) (p : Nat), p < s.part.ports →
    ∃ t, exec (.driverAutoRearm p) s = .next t ∧ (port t p).line.drvfltLow = false ∧
      (port t p).line.driverOff = ((port s p).line.driverOff && ((port s p).line.latched ||
        decide (3 ≤ ((port s p).line.rearmTimes.filter (fun x => decide (s.now < x + secs 1))).length)))) ∧
  (∀ (s : State) (lane : Nat) (parity : Bool) (tx : Tx), lane < s.part.lanes → (port s (lane / 4)).mac.tx = some tx →
    ∃ t, exec (.txFifoUnderflow ⟨lane, parity⟩) s = .next t ∧ (port t (lane / 4)).mac.tx = none ∧
      (s.now < tx.endAt → .midScale lane s.now tx.endAt ∈ t.out)) ∧
  (∀ (s : State) (lane lost : Nat), Running s → s.part.hasChain lane = true →
    exec (.rxFifoOverflow lane lost) s = .next (raiseSys 6 1 lane 0 (chainGap lane lost
      (if isLaneChain lane then
        eraseRx (lane / 4) (s.now - if isPrecision lane then 0 else lost * sampleTicks lane (chain s lane).halved) s.now s
      else s)))) ∧
  (∀ (s : State) (p e : Nat), p < s.part.ports → (port s p).line.frameGainEnd = some e →
    ∃ t, exec (.agcFrameGainRelease p) s = .next t ∧ t.now = max s.now e ∧ (port t p).line.frameGain = none ∧
      (port t p).line.frameGainEnd = none ∧
      ∀ k, gainOf (port t p).line k = if bit (port s p).line.agcFixed.toNat k then (port s p).line.fixedGain.getD k 0
        else (port s p).line.listenGain.getD k 0)

/-- A lost reference holds the synthesizers, a failed one hands its ports to the other, both failed stop all ports, and a rebalance returns them. (R77, R78, R79, R80, R81.) -/
def Obligations.SynthesizersAdoptAndReturn : Prop :=
  (∀ (s : State), Running s → s.syn.refHold = false →
    ∃ t, exec .referenceLost s = .next t ∧ t.syn = { s.syn with refHold := true, refLost := true }) ∧
  (∀ (s : State), Running s → s.syn.refHold = true →
    ∃ t, exec .referenceReturn s = .next t ∧ t.syn = { s.syn with refHold := false, aGoodSince := max s.syn.aGoodSince s.now,
                                                                               bGoodSince := max s.syn.bGoodSince s.now }) ∧
  (∀ (s : State) (a b : Nat), Running s → s.syn.aFailed = false → synthPorts s .a = some (a, b) →
    ∃ t, exec (.synthFailure .a) s = .next t ∧ t.syn.aFailed = true ∧ t.syn.aLock = false ∧
      (s.syn.bFailed = false → s.syn.adoption = none →
        t.syn.adoption.map (fun x => (x.first, x.last, x.owner)) = some (a, b, Synth.b) ∧ t.syn.bFailed = false) ∧
      (s.syn.bFailed = true ∨ s.syn.adoption.isSome = true →
        t.syn.bFailed = true ∧ t.syn.ownerLo = 0 ∧ t.syn.ownerHi = 0 ∧ t.syn.adoption = none)) ∧
  (∀ (s : State) (a b : Nat), Running s → s.syn.bFailed = false → synthPorts s .b = some (a, b) →
    ∃ t, exec (.synthFailure .b) s = .next t ∧ t.syn.bFailed = true ∧ t.syn.bLock = false ∧
      (s.syn.aFailed = false → s.syn.adoption = none →
        t.syn.adoption.map (fun x => (x.first, x.last, x.owner)) = some (a, b, Synth.a) ∧ t.syn.aFailed = false) ∧
      (s.syn.aFailed = true ∨ s.syn.adoption.isSome = true →
        t.syn.aFailed = true ∧ t.syn.ownerLo = 0 ∧ t.syn.ownerHi = 0 ∧ t.syn.adoption = none)) ∧
  (∀ (s : State) (a : Adoption) (lost : Nat), s.syn.adoption = some a →
    ∃ t, exec (.synthAdoptionComplete lost) s = .next t ∧ t.syn.adoption = none ∧
      t.syn.adoptCount.toNat = min 255 (s.syn.adoptCount.toNat + 1) ∧
      ∀ p, a.first ≤ p → p ≤ a.last → (port t p).line.stopped = false) ∧
  (∀ (s : State) (c : Caller) (req : Bytes) (a b : Nat) (y : Synth), mayStart s c 0x0106 [] = true → shaped req 8 [(0, 8)] = true →
    c.pod = 0 → adopted s = some (a, b, y) → allStopped s = false → s.syn.adoption = none → s.syn.refHold = false →
    (match y with | .a => s.syn.aGoodSince | .b => s.syn.bGoodSince) + secs 1 ≤ s.now →
    exec (.synthRebalance c req) s = GoesOn c 0x0106 req [] true (startMove a b y (some c) s))

/-- Priority slots, back-off and restarts: who signals, who leaves, how the count runs, and when a period starts again. (R213, R214, R215.) -/
def Obligations.ContentionPeriods : Prop :=
  let raised := fun (s : State) (p : Nat) => if (port s p).line.txen = .high then [] else [Output.txen p .high]
  (∀ (s : State) (p : Nat), p < s.part.ports → mayExchange s p = true → (port s p).mac.cls ≤ 3 →
    ((port s p).mac.contend = .prs0 → 2 ≤ (port s p).mac.cls → ∀ heard heardFrame,
      ∃ t, exec (.prsSlot p heard heardFrame) s = .next t ∧ (port t p).mac.contend = .prs1 ∧
        (port t p).mac.slotAt = (port s p).mac.slotAt + us 30 ∧ t.now = max (max s.now (port s p).mac.slotAt) ((port s p).mac.slotAt + us 30) ∧
        t.out = s.out ++ raised s p ++ [.priority p ((port s p).mac.slotAt + us 8) (longReach (port s p)).isSome]) ∧
    ((port s p).mac.contend = .prs0 → (port s p).mac.cls ≤ 1 →
      ∃ t, exec (.prsSlot p true false) s = .next t ∧ (port t p).mac.contend = .left) ∧
    ((port s p).mac.contend = .prs1 → (port s p).mac.cls % 2 = 1 → ∀ heard heardFrame,
      ∃ t, exec (.prsSlot p heard heardFrame) s = .next t ∧ (port t p).mac.contend = .backoff ∧ (port t p).mac.bc.isSome = true ∧
        t.out = s.out ++ raised s p ++ [.priority p ((port s p).mac.slotAt + us 8) (longReach (port s p)).isSome]) ∧
    ((port s p).mac.contend = .prs1 → (port s p).mac.cls % 2 = 0 →
      ∃ t, exec (.prsSlot p false false) s = .next t ∧ (port t p).mac.contend = .backoff ∧ (port t p).mac.bc.isSome = true ∧ t.out = s.out)) ∧
  (∀ (s : State) (p : Nat) (heard heardFrame : Bool), p < s.part.ports → (port s p).mac.contend = .prs0 → (port s p).mac.cls = 4 →
    readyClass (advanceTo (port s p).mac.slotAt s) p = none →
    ∃ t, exec (.prsSlot p heard heardFrame) s = .next t ∧ (port t p).mac.contend = .left) ∧
  (∀ (s : State) (p n : Nat), p < s.part.ports → (port s p).mac.contend = .backoff → (port s p).mac.bc = some n →
    (∃ t, exec (.backoffSlotEnd p true false) s = .next t ∧ (port t p).mac.bc = some n ∧ (port t p).mac.idleSlots = 0) ∧
    (∃ t, exec (.backoffSlotEnd p false false) s = .next t ∧ (port t p).mac.bc = some (n - 1) ∧
      (port t p).mac.idleSlots = (port s p).mac.idleSlots + 1 ∧ (port t p).mac.contend = if n = 0 then .left else .backoff) ∧
    (∀ heard, ∃ t, exec (.backoffSlotEnd p heard true) s = .next t ∧ (port t p).mac.contend = .idle ∧ (port t p).mac.bc = some n)) ∧
  (∀ (s : State) (p : Nat), p < s.part.ports → ((port s p).mac.contend = .backoff ∨ (port s p).mac.contend = .left) →
    16 ≤ (port s p).mac.idleSlots →
    ∃ t, exec (.idleRestart p) s = .next t ∧ (port t p).mac.idleSlots = 0 ∧ t.now = max s.now (port s p).mac.slotAt ∧
      ((port t p).mac.contend = .prs0 ∨ (port t p).mac.contend = .left)) ∧
  (∀ (s : State) (p e : Nat), p < s.part.ports → (port s p).mac.holdOff = some e →
    ∃ t, exec (.undecodableHoldOffEnd p) s = .next t ∧ (port t p).mac.holdOff = none ∧ t.now = max s.now e ∧
      ((port s p).mac.rx = none → (port s p).mac.tx = none → (port t p).mac.contend = .prs0 ∨ (port t p).mac.contend = .left) ∧
      ((port s p).mac.rx.isSome = true ∨ (port s p).mac.tx.isSome = true → (port t p).mac.contend = (port s p).mac.contend))

/-- A transmission starts with the head of its queue and waits for its acknowledgement, which ends the exchange; a missed window ends it too. (R170, R216, R217, R218, R219, R220, R223.) -/
def Obligations.FramesAreSentAndAcknowledged : Prop :=
  (∀ (s : State) (p units : Nat), p < s.part.ports → (port s p).mac.contend = .backoff → (port s p).mac.bc = some 0 →
    (port s p).mac.tx = none → (port s p).mac.rx = none → mayExchange s p = true →
    let u := advanceTo (port s p).mac.slotAt s
    let last := (port s p).mac.slotAt + opportunity
    ((port s p).mac.head = none →
      ((port s p).mac.cls ≠ 2 ∨ soundDue u p = none →
        ∃ t, exec (.frameTransmitStart p units ⟨[], false⟩) s = .next t ∧ (port t p).mac.contend = .left) ∧
      (∀ h n st slot, (port s p).mac.cls = 2 → soundDue u p = some (h, n, st, slot) →
        let start := u.now + gridDelay u p (5120 + 5632) u.now
        start ≤ last →
        ((port s p).mac.beaconing = false ∨ start + frameSamples false 2 st (robustGuard u p) n + protectLead ≤ nextStart u p) →
        ∃ t tx, exec (.frameTransmitStart p units ⟨[], false⟩) s = .next t ∧ (port t p).mac.tx = some tx ∧ tx.kind = 4 ∧ tx.dest = h ∧
          tx.startAt = start)) ∧
    (∀ q n, (port s p).mac.head = some (q, n) →
      (queueReady u q = false ∨ (queue u q).flights.head? ≠ some n →
        ∃ t, exec (.frameTransmitStart p units ⟨[], false⟩) s = .next t ∧ (port t p).mac.contend = .left) ∧
      (∀ h, queueReady u q = true → (queue u q).flights.head? = some n →
        let v := scheduleStage n u
        hopOf v (flight v n) = some h → (aggregate v q n h).head? = some n →
        let a := alignedStart v p v.now (fmtOf v (flight v n) h)
        a.1 ≤ last → exchangeFits v p h a.1 a.2 (octetsOf v [n]) (copiesLeft v n) = true →
        ∃ t tx, exec (.frameTransmitStart p units ⟨[], false⟩) s = .next t ∧ (port t p).mac.tx = some tx ∧ tx.flights.head? = some n ∧
          tx.dest = h ∧ tx.startAt = a.1 ∧ tx.queue = q ∧ (port t p).mac.contend = .idle))) ∧
  (∀ (s : State) (p : Nat) (tx : Tx), p < s.part.ports → (port s p).mac.tx = some tx →
    ∃ t, exec (.frameTransmitEnd p) s = .next t ∧ (port t p).mac.tx = none ∧ t.now = max s.now tx.endAt ∧
      (tx.ackReq = true → (port t p).mac.awaiting = some tx)) ∧
  (∀ (s : State) (p fc start : Nat) (tx : Tx), p < s.part.ports → (port s p).mac.awaiting = some tx → fcValid fc = true →
    fcReserved (parseFc fc) = false → fcCombines (parseFc fc) = true → kindOk (parseFc fc) = true → ackMatches tx (parseFc fc) = true →
    (parseFc fc).mode = modeCode tx.leek →
    tx.endAt ≤ start → (ackWindow s p tx).1 ≤ start → start ≤ (ackWindow s p tx).2 →
    ∃ t, exec (.ackReceived p fc start) s = .next t ∧ (port t p).mac.awaiting = none ∧
      t.now = max s.now (start + ackLen ((parseFc fc).mode != 0))) ∧
  (∀ (s : State) (p : Nat) (tx : Tx), p < s.part.ports → (port s p).mac.awaiting = some tx →
    ∃ t, exec (.ackWindowClose p) s = .next t ∧ (port t p).mac.awaiting = none ∧ t.now = max s.now (ackWindow s p tx).2)

/-- A preamble opens a reception; a frame control that fails holds contention off, a good one for the device waits for its body; acks go out. (R62, R66, R130, R150, R209, R213, R217, R224.) -/
def Obligations.ReceivedFrames : Prop :=
  (∀ (s : State) (p start : Nat) (leek : Bool) (gains : List Int), p < s.part.ports → hears s p = true →
    ∃ t, exec (.preambleDetect p leek ⟨start, gains⟩) s = .next t ∧
      (port t p).mac.rx.map (fun x => (x.startAt, x.leek, x.fc)) = some (max s.now start, leek, none) ∧ (port t p).mac.contend = .idle ∧
      (port t p).line.frameGain.isSome = true ∧
      ∀ k, k < 4 → gainOf (port t p).line k = if bit (port s p).line.agcFixed.toNat k then gainOf (port s p).line k
        else clampGain (gains.getD k (gainOf (port s p).line k))) ∧
  (∀ (s : State) (p fc : Nat) (rx : Rx), p < s.part.ports → (port s p).mac.rx = some rx → rx.fc = none →
    (fcValid fc = false → ∃ t, exec (.frameControlReceived p fc) s = .next t ∧ (port t p).mac.rx = none ∧
      (port t p).mac.holdOff = some (rx.startAt + ackLen rx.leek + us 190)) ∧
    (fcValid fc = true → malformed s p (parseFc fc) || noMap s p (parseFc fc) →
      ∃ t, exec (.frameControlReceived p fc) s = .next t ∧ (port t p).mac.rx = none ∧
        (port t p).mac.holdOff = some (rx.startAt + impliedLen rx.leek (parseFc fc) + us 190)) ∧
    (fcValid fc = true → malformed s p (parseFc fc) = false → noMap s p (parseFc fc) = false →
      ∃ t, exec (.frameControlReceived p fc) s = .next t ∧
        (((parseFc fc).kind ≤ 1 ∨ (parseFc fc).kind = 4) ∧ ((parseFc fc).rx = devAddr ∨ (parseFc fc).rx = allAddr) →
          (port t p).mac.rx = some { rx with fc := some fc, endAt := rx.startAt + impliedLen rx.leek (parseFc fc) }) ∧
        ((1 < (parseFc fc).kind ∧ (parseFc fc).kind ≠ 4) ∨ ((parseFc fc).rx ≠ devAddr ∧ (parseFc fc).rx ≠ allAddr) →
          (port t p).mac.rx = none))) ∧
  (∀ (s : State) (p fc : Nat) (rx : Rx) (body : RxBody), p < s.part.ports → (port s p).mac.rx = some rx → rx.fc = some fc →
    ∃ t, exec (.frameBodyDecoded p body) s = .next t ∧ (port t p).mac.rx = none ∧ t.now = max s.now rx.endAt ∧
      let units := leadingUnits 0 (splitUnits (parseFc fc).units (body.data.take (parseFc fc).octets))
      ((parseFc fc).ackReq = true → (parseFc fc).rx = devAddr → body.mapFail = false → rx.erased = [] → units ≠ [] →
        (port t p).mac.ackDue.map (fun a => (a.due, a.dest, a.units)) =
          some (rx.endAt + us 60, (parseFc fc).tx, units.length))) ∧
  (∀ (s : State) (p : Nat) (a : AckDue), p < s.part.ports → (port s p).mac.ackDue = some a →
    ∃ t, exec (.ackTransmit p) s = .next t ∧ (port t p).mac.ackDue = none ∧ t.now = max s.now a.due ∧
      (mayTransmit s p = true → (port s p).mac.tx = none →
        (port t p).mac.tx.map (fun x => (x.kind, x.dest, x.startAt)) = some (3, a.dest, a.due)) ∧
      (mayTransmit s p = false → (port t p).mac.tx = (port s p).mac.tx))

/-- A beacon's boundary applies what waited and sends the next beacon; phy.configure and mac.configure apply at once or at the boundary. (R153, R155, R226, R230, R238, R239.) -/
def Obligations.BeaconsAndMacCommands : Prop :=
  (∀ (s : State) (p : Nat), p < s.part.ports → Running s → isOpen s p = true → (port s p).mac.beaconing = true →
    ((port s p).mac.tx = none ∨ (port s p).line.closing = none) →
    ∃ t, exec (.beaconStart p) s = .next t ∧ (port t p).mac.beaconSeq = (port s p).mac.beaconSeq + 1 ∧
      (port t p).mac.beaconAt = nextStart s p ∧ nextStart s p ≤ t.now ∧
      (port t p).mac.cfg = (port s p).mac.next.getD (port s p).mac.cfg ∧ (port t p).mac.next = none ∧
      (port t p).phy = (port s p).nextPhy.getD (port s p).phy ∧ (port t p).nextPhy = none ∧
      (mayTransmit s p = true → (port s p).line.cal = .none → (port t p).mac.tx.map (fun x => (x.kind, x.dest)) = some (2, allAddr))) ∧
  (∀ (s : State) (c : Caller) (req : Bytes), mayStart s c 0x0601 [.port (rd req 0 2)] = true → shaped req 16 [(13, 3)] = true →
    c.pod = 0 → rd req 0 2 < s.part.ports → (∀ k, k < 4 → 1 ≤ rd req (2 + k) 1 ∧ rd req (2 + k) 1 ≤ 15) → rd req 6 1 ≤ 7 →
    rd req 7 1 ≤ 16 → rd req 12 1 ≤ 1 →
    let cfg : MacCfg := { retry := [rd req 2 1, rd req 3 1, rd req 4 1, rd req 5 1], beaconSlot := rd req 6 1, leekEvery := rd req 7 1,
                          networkId := rd req 8 4, alternate := bit (rd req 12 1) 0 }
    (isOpen s (rd req 0 2) = false →
      exec (.macConfigure c req) s = Answers c 0x0601 req St.ok (statusResp St.ok) (updMac (rd req 0 2) (fun m => { m with cfg := cfg }) s)) ∧
    (isOpen s (rd req 0 2) = true → (port s (rd req 0 2)).mac.next = none →
      exec (.macConfigure c req) s = Answers c 0x0601 req St.pending (statusResp St.pending)
        (updMac (rd req 0 2) (fun m => { m with next := some cfg }) s))) ∧
  (∀ (s : State) (c : Caller) (req : Bytes), mayStart s c 0x0602 [.port (rd req 0 2), .endpoint (rd req 2 2)] = true →
    shaped req 8 [(5, 3)] = true → rd req 0 2 < s.part.ports → rd req 2 2 < 16384 → mayPort s c (rd req 0 2) = true →
    isNeighbour s (rd req 0 2) (rd req 2 2) = true →
    (rd req 4 1 = 0 → ∃ resp, resp.length = 40 ∧ exec (.macNeighbour c req) s = Answers c 0x0602 req St.ok resp s) ∧
    (rd req 4 1 = 1 → c.pod = 0 → (nbr s (rd req 0 2) (rd req 2 2)).degraded = true →
      ∃ t, exec (.macNeighbour c req) s = .next t ∧ (nbr t (rd req 0 2) (rd req 2 2)).degraded = false ∧
        (nbr t (rd req 0 2) (rd req 2 2)).counter = 127)) ∧
  (∀ (s : State) (c : Caller) (req : Bytes), mayStart s c 0x0301 [.port (rd req 0 2)] = true →
    shaped req 216 [(6, 2), (212, 4)] = true → c.pod = 0 → rd req 0 2 < s.part.ports → -80 ≤ rdInt req 2 1 → rdInt req 2 1 ≤ 0 →
    1 ≤ rd req 3 1 → rd req 3 1 ≤ 3 → rd req 4 1 ≠ 0 → rd req 4 1 ≤ 7 → rd req 5 1 ≤ 3 → rd req 8 204 < 2 ^ 1624 →
    64 ≤ unmaskedLeek (rd req 8 204) →
    let cfg : PhyCfg := { txLevel := rdInt req 2 1, maxStreams := rd req 3 1, guardAllowed := BitVec.ofNat 3 (rd req 4 1),
                          refresh := rd req 5 1, mask := rd req 8 204 }
    let resp := fun (st : Status) =>
      leBytes 2 st.toNat ++ leBytes 2 (unmaskedCount (rd req 8 204)) ++ leBytes 2 (unmaskedLeek (rd req 8 204)) ++ zeros 2
    (isOpen s (rd req 0 2) = false →
      exec (.phyConfigure c req) s = Answers c 0x0301 req St.ok (resp St.ok) (updPort (rd req 0 2) (fun x => { x with phy := cfg }) s)) ∧
    (isOpen s (rd req 0 2) = true → (port s (rd req 0 2)).nextPhy = none →
      exec (.phyConfigure c req) s = Answers c 0x0301 req St.pending (resp St.pending)
        (updPort (rd req 0 2) (fun x => { x with nextPhy := some cfg }) s)))

/-- The mains tracker locks after agreeing crossings, gives up after 200 ms, and leaves Locked at the next boundary; its state can be read. (R157, R158, R159, R161, R176, R179.) -/
def Obligations.MainsTracking : Prop :=
  (∀ (s : State) (p edge : Nat), p < s.part.ports → isOpen s p = true → (port s p).mains.force = false →
    let m := (port s p).mains
    (m.state ≠ .locked → ∃ t, exec (.zeroCrossing p edge) s = .next t ∧ (port t p).mains.lastCross = some edge ∧
      (∀ last, m.lastCross = some last → halfInRange (edge - last) = true →
        (m.lastGap = 0 ∨ 100 * (max (edge - last) m.lastGap - min (edge - last) m.lastGap) ≤ m.lastGap) →
        (port t p).mains.run = m.run + 1 ∧
        (m.state = .acquiring → (port t p).mains.state = if 7 ≤ m.run then .locked else .acquiring) ∧
        (m.state = .cycleFree → (port t p).mains.state = .cycleFree ∧ (15 ≤ m.run → (port t p).mains.next = some .locked)))) ∧
    (m.state = .locked → m.lastCross.isSome = true → nearPrediction m edge = true →
      ∃ t, exec (.zeroCrossing p edge) s = .next t ∧ (port t p).mains.lastCross = some edge ∧ (port t p).mains.goodCross = some edge ∧
        (port t p).mains.state = .locked ∧
        (port t p).mains.next = if halfInRange ((port t p).mains.half / 256) then m.next else some .cycleFree) ∧
    (m.state = .locked → m.lastCross = none ∨ nearPrediction m edge = false → exec (.zeroCrossing p edge) s = .next s)) ∧
  (∀ (s : State) (p : Nat), p < s.part.ports → isOpen s p = true → (port s p).mains.state = .acquiring →
    ∃ t, exec (.mainsAcquireTimeout p) s = .next t ∧ (port t p).mains.state = .cycleFree ∧ t.now = max s.now ((port s p).mains.since + ms 200)) ∧
  (∀ (s : State) (p : Nat), p < s.part.ports → (port s p).mains.state = .locked →
    ∃ t, exec (.predictedCrossingMiss p) s = .next t ∧ (port t p).mains.next = some .cycleFree ∧ (port t p).mains.state = .locked) ∧
  (∀ (s : State) (p : Nat), p < s.part.ports →
    exec (.slotBoundaryPrefetch p false) s = .next s ∧
    (isOpen s p = true → mainsLocked (port s p).mains = true → ∀ e, s.tm.cache = [e] → isNeighbour s p e = true →
      (getMap s p e 1 ((slotOf (port s p).mains s.now + 2) % 8)).valid = true →
      ∃ t, exec (.slotBoundaryPrefetch p true) s = .next t ∧
        (getMap t p e 1 ((slotOf (port s p).mains s.now + 2) % 8)).valid = false)) ∧
  (∀ (s : State) (c : Caller) (req : Bytes), mayStart s c 0x0404 [.port (rd req 0 2)] = true → shaped req 8 [(2, 6)] = true →
    rd req 0 2 < s.part.ports → mayPort s c (rd req 0 2) = true →
    exec (.mainsStatus c req) s = Answers c 0x0404 req St.ok (mainsResp s (rd req 0 2)) s)

/-- Tone-map messages from a neighbour install, confirm, request and invalidate maps; own maps are refreshed and estimates grow stale. (R164, R166, R167, R170, R171, R172.) -/
def Obligations.ToneMapMessages : Prop :=
  (∀ (s : State) (p e : Nat) (msg : Bytes), p < s.part.ports → isOpen s p = true → isNeighbour s p e = true →
    let m : ToneMap := { valid := true, generation := BitVec.ofNat 8 (rd msg 2 1), streams := rd msg 3 1, gi := rd msg 4 1, rate := rd msg 5 1,
                         flags := rd msg 6 1, loading := slice msg 8 (812 * rd msg 3 1), feedback := msg.drop (8 + 812 * rd msg 3 1),
                         installedAt := s.now }
    let fresh := { m with infoBits := mapInfoBits (port s p).phy.mask m }
    let old := getMap s p e 1 (rd msg 1 1)
    let newer := old.valid = false ∨ serialNewer 8 (rd msg 2 1) old.generation.toNat = true
    (tmMapOk (port s p) msg = true → mapPermitted (port s p) fresh = true → newer →
      ∃ t, exec (.tmMapReceived p e msg) s = .next t ∧ getMap t p e 1 (rd msg 1 1) = fresh ∧
        (mapLink t p e).ackHold = (mapLink s p e).ackHold ++ [((rd msg 1 1, rd msg 2 1),
          (((mapLink s p e).ackHold.find? (fun k => k.1.1 == rd msg 1 1)).map (·.2)).getD old)]) ∧
    (tmMapOk (port s p) msg = false ∨ mapPermitted (port s p) fresh = false ∨ ¬ newer →
      ∃ t, exec (.tmMapReceived p e msg) s = .next t ∧ t.tm.maps = s.tm.maps ∧ t.tm.links = s.tm.links)) ∧
  (∀ (s : State) (p e : Nat) (msg : Bytes) (m : ToneMap), p < s.part.ports → isOpen s p = true → isNeighbour s p e = true →
    (mapLink s p e).sent.find? (fun x => x.1 == rd msg 1 1) = some (rd msg 1 1, m) → m.generation.toNat = rd msg 2 1 → rd msg 3 1 = 0 →
    ∃ t, exec (.tmMapAckReceived p e msg) s = .next t ∧
      let x := getMap s p e 0 (rd msg 1 1)
      getMap t p e 0 (rd msg 1 1) = { m with
        valid := true, installedAt := s.now, extra := x.extra, window := x.window, failures := x.failures, lastGen := x.lastGen,
        refreshedAt := x.refreshedAt, sentAt := x.sentAt }) ∧
  (∀ (s : State) (p e : Nat) (msg : Bytes), p < s.part.ports → isOpen s p = true → isNeighbour s p e = true →
    bit (rd msg 1 1) 0 = true →
    ∃ t, exec (.tmRequestReceived p e msg) s = .next t ∧ t.tm.maps = s.tm.maps ∧
      ∀ k ∈ mapIds (rdBe msg 2 2), k ∈ (mapLink t p e).requested) ∧
  (∀ (s : State) (p e : Nat) (msg : Bytes), p < s.part.ports → isOpen s p = true → isNeighbour s p e = true →
    (rd msg 3 1 = 0 → ∃ t, exec (.tmInvalidateReceived p e msg) s = .next t ∧
      ∀ k ∈ mapIds (rdBe msg 1 2), (getMap t p e 1 k).valid = false) ∧
    (rd msg 3 1 = 1 → ∃ t, exec (.tmInvalidateReceived p e msg) s = .next t ∧
      ∀ k ∈ mapIds (rdBe msg 1 2), (getMap t p e 0 k).valid = false ∧ k ∈ (mapLink t p e).requested)) ∧
  (∀ (s : State) (p e id : Nat) (tails : List Int) (feedback : Bytes) (c : Loading), p < s.part.ports → isOpen s p = true → isNeighbour s p e = true → id ≤ 8 →
    silent s = false → (mapLink s p e).requested.contains id = true → (mapLink s p e).exempt.contains id = true →
    (mainsLocked (port s p).mains = true ∨ id = 8) → estimateOld s p e id = false →
    bestLoading (port s p).phy.mask (mapMargin (port s p) (getMap s p e 0 id)) (mapLink s p e) (estimateSlots (port s p).mains id)
      (streamLimit (port s p)) = some c →
    36 * unmaskedCount (port s p).phy.mask ≤ c.bits →
    ∃ t m, exec (.tonemapPeriodicRefresh p e id tails feedback) s = .next t ∧ tget {} (mapLink t p e).sent id = m ∧
      m = { mapOf (port s p) c tails feedback with generation := (getMap s p e 0 id).lastGen + 1, sentAt := some s.now } ∧
      (mapLink t p e).requested.contains id = false) ∧
  (∀ (s : State) (p e slot : Nat), p < s.part.ports → isOpen s p = true → slot ≤ 7 → (mapLink s p e).stale.contains slot = false →
    ∃ t, exec (.estimateStale p e slot) s = .next t ∧ (mapLink t p e).stale = (mapLink s p e).stale ++ [slot] ∧
      t.now = max s.now (tget 0 (mapLink s p e).observed slot + secs (port s p).refreshS))

/-- tonemap.configure sets margin, refresh and source, tonemap.refresh asks for new maps, tonemap.read tells a valid map and its age. (R178, R179, R180, R181.) -/
def Obligations.ToneMapCommands : Prop :=
  (∀ (s : State) (c : Caller) (req : Bytes), mayStart s c 0x0401 [.port (rd req 0 2)] = true → shaped req 16 [(8, 8)] = true →
    rd req 0 2 < s.part.ports → rd req 2 1 ≤ 24 → rd req 3 1 ≤ 3 → 1 ≤ rd req 4 2 → rd req 4 2 ≤ 3600 → mayPort s c (rd req 0 2) = true →
    (c.pod = 0 ∨ rd req 3 1 = 0) → (bit (rd req 3 1) 1 = true → rd req 6 2 = 0xFFFF ∨ sourceOk s (rd req 6 2) = true) →
    ∃ t, exec (.tonemapConfigure c req) s = .next t ∧ (port t (rd req 0 2)).margin = rd req 2 1 ∧
      (port t (rd req 0 2)).refreshS = rd req 4 2 ∧ (c.pod = 0 → (port t (rd req 0 2)).mains.force = bit (rd req 3 1) 0) ∧
      (bit (rd req 3 1) 1 = true → isOpen s (rd req 0 2) = true →
        (port t (rd req 0 2)).mains.nextSource = some (if rd req 6 2 = 0xFFFF then none else some (rd req 6 2)) ∧
        (port t (rd req 0 2)).mains.source = (port s (rd req 0 2)).mains.source) ∧
      (bit (rd req 3 1) 1 = true → isOpen s (rd req 0 2) = false →
        (port t (rd req 0 2)).mains.source = if rd req 6 2 = 0xFFFF then none else some (rd req 6 2)) ∧
      (∀ q, q ≠ rd req 0 2 → port t q = port s q)) ∧
  (∀ (s : State) (c : Caller) (req : Bytes), mayStart s c 0x0402 [.port (rd req 0 2), .endpoint (rd req 2 2)] = true →
    shaped req 8 [(5, 3)] = true → rd req 0 2 < s.part.ports → rd req 2 2 < 16384 → rd req 4 1 ≠ 0 → rd req 4 1 ≤ 3 →
    mayPort s c (rd req 0 2) = true → isNeighbour s (rd req 0 2) (rd req 2 2) = true →
    (mapLink s (rd req 0 2) (rd req 2 2)).refreshRx = [] → (mapLink s (rd req 0 2) (rd req 2 2)).refreshTx = [] →
    ∃ t, exec (.tonemapRefresh c req) s = .next t ∧ t.tm.maps = s.tm.maps ∧
      (mapLink t (rd req 0 2) (rd req 2 2)).refreshRx = (if bit (rd req 4 1) 0 then List.range 9 else []) ∧
      (mapLink t (rd req 0 2) (rd req 2 2)).refreshTx = (if bit (rd req 4 1) 1 then List.range 9 else []) ∧
      (bit (rd req 4 1) 0 = true → ∀ k, k < 9 → k ∈ (mapLink t (rd req 0 2) (rd req 2 2)).requested ∧
        k ∈ (mapLink t (rd req 0 2) (rd req 2 2)).exempt)) ∧
  (∀ (s : State) (c : Caller) (req : Bytes), mayStart s c 0x0403 [.port (rd req 0 2), .endpoint (rd req 2 2)] = true →
    shaped req 8 [(6, 2)] = true → rd req 0 2 < s.part.ports → rd req 2 2 < 16384 → rd req 4 1 ≤ 1 → rd req 5 1 ≤ 8 →
    mayPort s c (rd req 0 2) = true → isNeighbour s (rd req 0 2) (rd req 2 2) = true →
    (getMap s (rd req 0 2) (rd req 2 2) (rd req 4 1) (rd req 5 1)).valid = true →
    exec (.tonemapRead c req) s = Answers c 0x0403 req St.ok
      (leBytes 2 St.ok.toNat ++ zeros 2
        ++ leBytes 4 ((s.now - (getMap s (rd req 0 2) (rd req 2 2) (rd req 4 1) (rd req 5 1)).installedAt) / ms 1)
        ++ tmMapBytes (rd req 5 1) (getMap s (rd req 0 2) (rd req 2 2) (rd req 4 1) (rd req 5 1))) s)

/-- A survey keeps the strongest aggressors, covered symbols train and correct a pair, its gain engages it, and its timers release it. (R182, R187, R190, R191, R192, R193, R195, R196, R197.) -/
def Obligations.CancellerTracksPairs : Prop :=
  (∀ (s : State) (v : Nat) (ties : List Nat) (sv : Survey), v < s.part.ports →
    (s.canc.surveys.find? (fun e => e.1 == v)).map (·.2) = some sv →
    ∃ t, exec (.cancellerSurveyEnd v ties) s = .next t ∧ thas t.canc.surveys v = false ∧ t.now = max s.now sv.ends ∧
      ((victimPairs t v).map (·.1)).eraseDups.length ≤ sv.maxAggressors ∧
      ∀ a y, a < 128 → cancPair t v a = some y → (y.state = .training ∨ y.state = .suspended) ∧ cancPort s a = true ∧
        ∃ x ∈ victimPairs s v, x.1 = pairKey v a ∧
          termPower (tget [] s.canc.selfEcho v) ^ 20 ≤ termPower x.2.echo ^ 20 * 10 ^ sv.minCoupling.toNat) ∧
  (∀ (s : State) (v a : Nat) (x : CancPair) (sym : CancSymbol), v < s.part.ports → a < s.part.ports → cancPair s v a = some x →
    s.canc.leaving.contains v = false →
    (sym.parity = true → ∃ t, exec (.cancellerSymbol v a sym) s = .next t ∧ ∃ y, cancPair t v a = some y ∧ y.echo = [] ∧ y.rx = [] ∧
      y.pre = [] ∧ y.state = if x.state = .suspended then .suspended else .training) ∧
    (sym.parity = false → nearGrid s sym.at_ 64 = true → x.state ≠ .suspended → receiving s v (gridPoint s sym.at_) = false →
      coveredTx s v (gridPoint s sym.at_) = none →
      ∀ z, coveredTx s a (gridPoint s sym.at_) = some z → ∃ t, exec (.cancellerSymbol v a sym) s = .next t ∧
        ∃ y, cancPair t v a = some y ∧ y.counted = x.counted + 1 ∧ y.echoObs = x.echoObs + 1 ∧
          y.echo = lmsTerm 4 3 x.delay (leftOver x.echo 4 3 x.delay (binsOf sym.victim) z) z x.echo) ∧
    (sym.parity = false → nearGrid s sym.at_ 64 = true → x.state = .engaged → coveredRx s v (gridPoint s sym.at_) = true →
      coveredRx s a (gridPoint s sym.at_) = false → heldBins s.canc.rxBins v (fftStart s (gridPoint s sym.at_)) = none →
      ∀ z, coveredTx s a (gridPoint s sym.at_) = some z → ∃ t, exec (.cancellerSymbol v a sym) s = .next t ∧
        heldBins t.canc.rxBins v (fftStart s (gridPoint s sym.at_)) = some (leftOver x.echo 4 3 x.delay (binsOf sym.victim) z))) ∧
  (∀ (s : State) (v a : Nat) (x : CancPair), v < s.part.ports → a < s.part.ports → cancPair s v a = some x →
    let changes := fun (n : CancState) =>
      (∃ t, exec (.cancellerStateChange v a (cancCode x.state) (cancCode n)) s = .next t ∧ (cancPair t v a).map (·.state) = some n) ∧
      ∀ was goal, was ≠ cancCode x.state ∨ goal ≠ cancCode n → exec (.cancellerStateChange v a was goal) s = .next s
    let judged := if 24 ≤ (pairGains x).1 ∧ silent s = false then CancState.engaged else .training
    (x.state = .training → 256 ≤ x.counted → changes judged) ∧
    (x.state = .engaged → 4096 ≤ x.counted → changes (if (pairGains x).1 < 4 then .disengaged else .engaged)) ∧
    (x.state = .suspended → pairCauses s v a = [] → thas s.canc.surveys v = true → changes .surveying) ∧
    (x.state = .suspended → pairCauses s v a = [] → thas s.canc.surveys v = false → 256 ≤ x.counted → changes judged) ∧
    (x.counted < (if x.state = .engaged then 4096 else 256) → thas s.canc.surveys v = false →
      ∀ was goal, exec (.cancellerStateChange v a was goal) s = .next s)) ∧
  (∀ (s : State) (v a : Nat) (x : CancPair), v < s.part.ports → a < s.part.ports → cancPair s v a = some x → x.state = .disengaged →
    ∃ t, exec (.cancellerDisengagedTimeout v a) s = .next t ∧ (cancPair t v a).map (·.state) = some .training ∧
      t.now = max s.now (x.since + secs 10)) ∧
  (∀ (s : State) (v a k e : Nat) (x : CancPair), v < s.part.ports → a < s.part.ports → cancPair s v a = some x →
    x.causes = [(k, e)] → (pairCauses s v a).contains k = true →
    ∃ t, exec (.cancellerSuspendLong v a) s = .next t ∧ t.now = max s.now (e + secs 1) ∧
      cancPair t v a = some { x with echo := [], rx := [] })

/-- canceller.configure sets a victim's pairs, cleared at a symbol boundary, formed at its beacon boundary; setguard sets GI_x; status tells the pairs. (R192, R201, R202, R203, R204.) -/
def Obligations.CancellerCommands : Prop :=
  (∀ (s : State) (c : Caller) (req : Bytes), mayStart s c 0x0501 [.port (rd req 0 2)] = true → shaped req 40 [(6, 2)] = true →
    c.pod = 0 → rd req 0 2 < s.part.ports → cancPort s (rd req 0 2) = true → thas s.canc.surveys (rd req 0 2) = false →
    rd req 3 1 ≤ 16 → 1 ≤ rd req 4 1 → rd req 4 1 ≤ 8 → 20 ≤ rd req 5 1 → rd req 5 1 ≤ 160 →
    (∀ i, i < 16 → if i < rd req 3 1 then rd req (8 + 2 * i) 2 < s.part.ports else rd req (8 + 2 * i) 2 = 0xFFFF) →
    let meets := fun (i : Nat) => rd req (8 + 2 * i) 2 != rd req 0 2 && cancPort s (rd req (8 + 2 * i) 2)
      && !((List.range i).any (fun j => rd req (8 + 2 * j) 2 == rd req (8 + 2 * i) 2))
    let good := ((List.range (rd req 3 1)).filter meets).map (fun i => rd req (8 + 2 * i) 2)
    let own := (List.range (rd req 3 1)).map (fun i => if meets i = true then some (rd req (8 + 2 * i) 2) else none)
    (rd req 2 1 = 0 → rd req 3 1 = 0 →
      exec (.cancellerConfigure c req) s = Answers c 0x0501 req St.ok (cancResp St.ok [])
        { s with canc.leaving := s.canc.leaving ++ [rd req 0 2], canc.next := tdel s.canc.next (rd req 0 2) }) ∧
    (rd req 2 1 = 1 → rd req 3 1 ≤ 8 → exec (.cancellerConfigure c req) s = Answers c 0x0501 req St.ok (cancResp St.ok own)
      { s with canc.next := tset s.canc.next (rd req 0 2) (good, none) }) ∧
    (rd req 2 1 = 1 → 8 < rd req 3 1 → exec (.cancellerConfigure c req) s = Answers c 0x0501 req St.ok (cancResp St.ok ((good.take 8).map some))
      { s with canc.next := tset s.canc.next (rd req 0 2) (good.take 8, none) }) ∧
    (rd req 2 1 = 3 → exec (.cancellerConfigure c req) s = Answers c 0x0501 req St.pending (cancResp St.pending [])
      { s with canc.next := tset s.canc.next (rd req 0 2) (good, some { candidates := good, maxAggressors := rd req 4 1,
                                                                        minCoupling := rd req 5 1, ends := 0 }) })) ∧
  (∀ (s : State) (c : Caller) (req : Bytes), mayStart s c 0x0502 [] = true → shaped req 8 [(1, 7)] = true → c.pod = 0 → rd req 0 1 ≤ 2 →
    s.canc.pairs = [] →
    exec (.cancellerSetguard c req) s = Answers c 0x0502 req St.ok (statusResp St.ok) { s with canc.guardX := rd req 0 1 }) ∧
  (∀ (s : State) (c : Caller) (req : Bytes), mayStart s c 0x0503 [.port (rd req 0 2)] = true → shaped req 8 [(2, 6)] = true →
    rd req 0 2 < s.part.ports → mayPort s c (rd req 0 2) = true →
    ∃ resp, resp.length = 72 ∧ exec (.cancellerStatus c req) s = Answers c 0x0503 req St.ok resp s)

/-- A computed tree becomes a pending version, answers activate it or give it up, and reports, joins and lost endpoints are taken in. (R241, R248, R251, R253, R255, R259.) -/
def Obligations.TreeVersionsAndMembers : Prop :=
  (∀ (s : State) (p : Nat), p < s.part.ports → (port s p).topo.computeDue = true → silent s = false →
    ((port s p).topo.pending.isSome = true →
      exec (.treeComputation p) s = .next (updTopo p (fun t => { t with computeDue := false }) s)) ∧
    ((port s p).topo.pending = none → (candidate s p).parents = activeParents s p →
      ∃ t, exec (.treeComputation p) s = .next t ∧ (port t p).topo = { (port s p).topo with computeDue := false } ∧
        ∀ e, (endpoint t e).state =
          if (endpoint s e).port = p ∧ (endpoint s e).state = .joining ∧ thas (candidate s p).parents e = false then .unreachable
          else (endpoint s e).state) ∧
    ((port s p).topo.pending = none → (candidate s p).parents ≠ activeParents s p →
      (∃ e ∈ (candidate s p).parents, tget 0xFFFF (candidate s p).parents e.1 ≠ tget 0xFFFF (activeParents s p) e.1) →
      ∃ t, exec (.treeComputation p) s = .next t ∧ (port t p).topo.lastVersion = (port s p).topo.lastVersion + 1 ∧
        (port t p).topo.pending.map (·.version) = some ((port s p).topo.lastVersion + 1) ∧
        (port t p).topo.pending.map (·.parents) = some (candidate s p).parents ∧
        (port t p).topo.pending.map (·.members) = some (members s p))) ∧
  (∀ (s : State) (p e : Nat) (msg : Bytes) (w : PendingTree), p < s.part.ports → isOpen s p = true → isNeighbour s p e = true →
    (port s p).topo.pending = some w → rd msg 1 1 = w.version.toNat → w.sent.contains e = true → w.owed = [e] →
    (rd msg 2 1 = 0 → ∃ t, exec (.tpRouteAckReceived p e msg) s = .next t ∧ (port t p).topo.pending = none ∧
      (port t p).topo.active = w.version) ∧
    (rd msg 2 1 = 1 → ∃ t, exec (.tpRouteAckReceived p e msg) s = .next t ∧ (port t p).topo.pending = none ∧
      (port t p).topo.active = (port s p).topo.active)) ∧
  (∀ (s : State) (p : Nat) (w : PendingTree), p < s.part.ports → (port s p).topo.pending = some w →
    ∃ t, exec (.pendingVersionTimeout p) s = .next t ∧ (8 ≤ w.age → (port t p).topo.pending = none) ∧ (w.age < 8 → t = s)) ∧
  (∀ (s : State) (p e : Nat) (msg : Bytes), p < s.part.ports → isOpen s p = true → isNeighbour s p e = true → rd msg 1 1 = 1 →
    12 ≤ msg.length → rdBe msg 4 2 ≠ e → rdBe msg 4 2 ≤ devAddr →
    ∃ t, exec (.tpLinkReportReceived p e msg) s = .next t ∧
      ∃ l ∈ (port t p).topo.links, l.src = rdBe msg 4 2 ∧ l.dst = e ∧ l.rate = rdBe msg 8 4) ∧
  (∀ (s : State) (p e : Nat) (msg : Bytes), p < s.part.ports → isOpen s p = true → e < 16384 → 14 ≤ msg.length →
    (s.mram.registry.find? (fun r => r.eui == rdBe msg 4 8) = none →
      ∃ t, exec (.tpJoinReceived p e msg) s = .next t ∧
        (endpoint t e).join = some (p, rdBe msg 4 8, rdBe msg 12 2, min 1023 (rdBe msg 2 2))) ∧
    (s.mgmt.fwState ≠ .running → ∃ t, exec (.tpJoinReceived p e msg) s = .next t ∧
      (endpoint t e).join = some (p, rdBe msg 4 8, rdBe msg 12 2, min 1023 (rdBe msg 2 2)) ∧ (endpoint t e).state = (endpoint s e).state) ∧
    (∀ r, s.mram.registry.find? (fun r => r.eui == rdBe msg 4 8) = some r → s.mgmt.fwState = .running → r.endpoint = e → r.port = p →
      (endpoint s e).state = .free → (s.eps.filter (fun x => x.2.state != .free)).length < 16384 → (members s p).length < 1024 →
      ∃ t, exec (.tpJoinReceived p e msg) s = .next t ∧ (endpoint t e).state = .joining ∧ (endpoint t e).port = p ∧
        (endpoint t e).pod = r.pod ∧ (endpoint t e).eui = r.eui ∧ (endpoint t e).capacity = min 1023 (rdBe msg 2 2) ∧
        (endpoint t e).joinParent = some (rdBe msg 12 2))) ∧
  (∀ (s : State) (e : Nat), (endpoint s e).state = .unreachable →
    (port s (endpoint s e).port).topo.cfg.unreachHold ≤ (endpoint s e).unreachable →
    exec (.unreachableHoldExpiry e) s = .next ((s.lbf.flights.filter (fun f => f.2.final == e && f.2.cls != 3 && f.2.enqueued
      && (treeOf s f.2).isNone)).foldl
      (fun s f => retireFlight f.1 St.noRoute s) s))

/-- topology.configure waits for the boundary, endpoint.admit and endpoint.remove change the table, topology.read tells an entry. (R241, R260, R264, R265.) -/
def Obligations.TopologyCommands : Prop :=
  (∀ (s : State) (c : Caller) (req : Bytes), mayStart s c 0x0701 [.port (rd req 0 2)] = true → req.length = 8 → c.pod = 0 →
    rd req 0 2 < s.part.ports → rd req 2 1 ≤ 7 → 1 ≤ rd req 3 1 → rd req 3 1 ≤ 64 → rd req 4 1 ≤ 100 → 1 ≤ rd req 5 1 →
    rd req 5 1 ≤ 3 → 1 ≤ rd req 6 2 → rd req 6 2 ≤ 1024 →
    exec (.topologyConfigure c req) s = Answers c 0x0701 req St.pending (statusResp St.pending) (updTopo (rd req 0 2) (fun t =>
      { t with next := some { maxDepth := rd req 2 1, reportInterval := rd req 3 1, hysteresis := rd req 4 1, copies := rd req 5 1,
                              unreachHold := rd req 6 2 } }) s)) ∧
  (∀ (s : State) (c : Caller) (req : Bytes), mayStart s c 0x0702 [.endpoint (rd req 0 2)] = true → shaped req 16 [(5, 3)] = true →
    c.pod = 0 → rd req 0 2 < 16384 → rd req 2 2 < s.part.ports → rd req 4 1 ≤ 64 →
    ((endpoint s (rd req 0 2)).state = .free → isOpen s (rd req 2 2) = true →
      (s.eps.filter (fun e => e.2.state != .free)).length < 16384 → (members s (rd req 2 2)).length < 1024 →
      ∃ t, exec (.endpointAdmit c req) s = .next t ∧ (endpoint t (rd req 0 2)).state = .joining ∧
        (endpoint t (rd req 0 2)).port = rd req 2 2 ∧ (endpoint t (rd req 0 2)).pod = rd req 4 1 ∧ (endpoint t (rd req 0 2)).eui = rd req 8 8 ∧
        ∀ e, e ≠ rd req 0 2 → endpoint t e = endpoint s e) ∧
    ((endpoint s (rd req 0 2)).state ≠ .free → (endpoint s (rd req 0 2)).eui = rd req 8 8 → (endpoint s (rd req 0 2)).port = rd req 2 2 →
      isOpen s (rd req 2 2) = true →
      ∃ t, exec (.endpointAdmit c req) s = .next t ∧ endpoint t (rd req 0 2) = { endpoint s (rd req 0 2) with pod := rd req 4 1 } ∧
        ∀ e, e ≠ rd req 0 2 → endpoint t e = endpoint s e)) ∧
  (∀ (s : State) (c : Caller) (req : Bytes), mayStart s c 0x0703 [.endpoint (rd req 0 2)] = true → shaped req 8 [(2, 6)] = true →
    c.pod = 0 → rd req 0 2 < 16384 → (endpoint s (rd req 0 2)).state ≠ .free →
    s.lbf.flights.any (fun f => f.2.final == rd req 0 2 && f.2.cls == 3) = false →
    ∃ t, exec (.endpointRemove c req) s = .next t ∧ (endpoint t (rd req 0 2)).state = .free ∧
      ∀ e, e ≠ rd req 0 2 → endpoint t e = endpoint s e) ∧
  (∀ (s : State) (c : Caller) (req : Bytes), mayStart s c 0x0704 [.endpoint (rd req 0 2)] = true → shaped req 8 [(2, 6)] = true →
    rd req 0 2 < 16384 → (endpoint s (rd req 0 2)).state ≠ .free → (c.pod = 0 ∨ c.pod = (endpoint s (rd req 0 2)).pod) →
    ∃ resp, resp.length = 32 ∧ exec (.topologyRead c req) s = Answers c 0x0704 req St.ok resp s)

/-- frame.submit admits a frame or holds it, HELD_SUBMISSION_ADMIT admits it later, FRAME_SEAL enqueues its sealed unit, STAGING stages it. (R36, R275, R276, R280, R291, R292, R304.) -/
def Obligations.FramesEnterAndAreStaged : Prop :=
  (∀ (s : State) (c : Caller) (req : Bytes), mayStart s c 0x0803 [] = true → req.length = 16 →
    ((rd req 0 2 < 16384 ∧ rd req 6 2 = 0) ∨ rd req 0 2 = 0x7FFF) → rd req 2 1 ≤ 3 →
    rd req 3 1 ≤ 1 → rd req 4 2 ≠ 0 → rd req 8 8 % 8 = 0 →
    submitStop s c.pod (rd req 0 2) (rd req 2 1) (rd req 6 2) (rd req 4 2) St.badParam = none →
    let h := submission s c.pod (rd req 0 2) (rd req 2 1) (rd req 6 2) (rd req 4 2) (.mailbox c)
      (if rd req 3 1 = 1 then .notice c.lane else .none) req
    (∀ n, stopCause s h = none → freeFlight s h.port = some n →
      exec (.frameSubmit c req) s = GoesOn c 0x0803 req [] false (admitFlight n h s)) ∧
    (∀ k, stopCause s h = some k →
      ∃ t, exec (.frameSubmit c req) s = .next t ∧ t.lbf.held = s.lbf.held ++ [{ h with cause := k }] ∧
        t.lbf.flights = s.lbf.flights ∧ (podLbf t c.pod).blockedSeen = true ∧ (podLbf t c.pod).blockCause = BitVec.ofNat 4 k)) ∧
  (∀ (s : State) (i n : Nat) (h : Held), s.lbf.held[i]? = some h → (s.lbf.held.take i).any (fun g => sameHeld h g || sameFlow h g) = false →
    mayTakeHeld s h = true → admitCause s h = none → freeFlight s h.port = some n →
    ∃ t, exec (.heldSubmissionAdmit i) s = .next t ∧ t.lbf.held = s.lbf.held.eraseIdx i ∧ thas t.lbf.flights n = true ∧
      (flight t n).port = h.port ∧ (flight t n).pod = h.pod ∧ (flight t n).final = h.final ∧ (flight t n).cls = h.cls) ∧
  (∀ (s : State) (n : Nat), thas s.lbf.flights n = true → (flight s n).enqueued = false → s.cph.entropy.passed = true →
    sealTurn s (flight s n) = true →
    (∀ pt k, slotKey s (flight s n).pod (flight s n).txSlot = some k → bit k.usage.toNat 0 = true →
      (tget {} s.cph.pages (flight s n).pod).failed = false →
      (tget {} s.cph.pages (flight s n).pod).counter < ceilingOf s (flight s n).pod →
      ∃ t, exec (.frameSeal n (some pt)) s = .next t ∧ (flight t n).enqueued = true ∧
        n ∈ (queue t (queueOf (flight s n))).flights ∧
        (tget {} t.cph.pages (flight s n).pod).counter = (tget {} s.cph.pages (flight s n).pod).counter + 1) ∧
    ((flight s n).sealer ≠ .engine → ∃ t, exec (.frameSeal n none) s = .next t ∧ thas t.lbf.flights n = false) ∧
    (∀ pt, slotKey s (flight s n).pod (flight s n).txSlot = none →
      ∃ t, exec (.frameSeal n (some pt)) s = .next t ∧ thas t.lbf.flights n = false)) ∧
  (∀ (s : State) (p q n : Nat), p < s.part.ports →
    (eligibleQueues s p).find? (fun q => (marked s q).any (fun n => !(flight s n).inShare && !(flight s n).heldPoison)) = some q →
    marked s q = [n] → thas s.lbf.flights n = true → (flight s n).inShare = false → (flight s n).backPoison = false →
    (flight s n).port = p → shareRoom s p ((flight s n).cls == 3) (cellsOf (flight s n).len) = true →
    ∃ t, exec (.staging p false) s = .next t ∧ (flight t n).inShare = true ∧ (flight t n).inBacking = ((flight s n).cls == 3))

/-- A received unit that passes through waits for its destination, one without a key goes, a ready one is written to its ring; buffers are set. (R289, R293, R294, R305, R363, R594.) -/
def Obligations.UnitsAreOpenedAndDelivered : Prop :=
  (∀ (s : State) (n : Nat) (r : Reasm) (poison : Bool), reasm s n = some r → r.ready = false → s.cph.entropy.passed = true →
    (endpoint s r.ep).state ≠ .free → (pod s (endpoint s r.ep).pod).resetting = false →
    (((uplinkSlot s r.port (endpoint s r.ep).pod).map (·.2)).getD false = true →
      exec (.uplinkOpen n poison) s = .next (setReasm n { r with pod := (endpoint s r.ep).pod, ready := true, passThrough := true, poisoned := poison }
        (if poison then reasmPoison n r s else s))) ∧
    (((uplinkSlot s r.port (endpoint s r.ep).pod).map (·.2)).getD false = false →
      ((endpoint s r.ep).rxSlot = some 0xFF → poison = false →
        exec (.uplinkOpen n poison) s = .next (setReasm n { r with pod := (endpoint s r.ep).pod, ready := true, passThrough := true } s)) ∧
      ((endpoint s r.ep).rxSlot = none → exec (.uplinkOpen n poison) s = .next (dropReasm n s)) ∧
      (∀ k, (endpoint s r.ep).rxSlot = some k → k ≠ 0xFF → slotKey s (endpoint s r.ep).pod k = none →
        ∃ t, exec (.uplinkOpen n poison) s = .next t ∧ reasm t n = none ∧ (s.sec.tamper = true → t = dropReasm n s)))) ∧
  (∀ (s : State) (n : Nat) (r : Reasm), reasm s n = some r → r.ready = true → (podLbf s r.pod).rxEnable = true →
    olderUnit s r = false → uplinkSlot s r.port r.pod = none → (r.pod ≠ 0 ∨ s.mgmt.fwState = .running) → hostOk s r.pod = true →
    (rxEntry r (podLbf s r.pod).overruns.toNat).length ≤
      ringFree ⟨r.pod, (podLbf s r.pod).rxBase, (podLbf s r.pod).rxCtrl, (podLbf s r.pod).rxLog2⟩ ((podLbf s r.pod).rxProd, (podLbf s r.pod).rxCons) →
    ∃ t, exec (.rxRingWrite n none) s = .next t ∧ reasm t n = none ∧ (podLbf t r.pod).overruns = 0 ∧
      (podLbf t r.pod).rxProd = ((podLbf s r.pod).rxProd + (rxEntry r (podLbf s r.pod).overruns.toNat).length) % 2 ^ 64) ∧
  (∀ (s : State) (c : Caller) (req : Bytes), mayStart s c 0x0801 [.port (rd req 0 2)] = true → shaped req 8 [(6, 2)] = true → c.pod = 0 →
    rd req 0 2 < s.part.ports → 16 ≤ rd req 2 2 → rd req 2 2 ≤ 512 → 1 ≤ rd req 4 2 → rd req 4 2 ≤ 1024 →
    exec (.bufferConfigure c req) s = Answers c 0x0801 req St.ok (statusResp St.ok)
      (updPort (rd req 0 2) (fun x => { x with rxReserve := rd req 2 2, queueLimit := rd req 4 2 }) s)) ∧
  (∀ (s : State) (c : Caller) (req : Bytes), mayStart s c 0x0802 [.pod (rd req 0 1)] = true → shaped req 8 [(1, 3)] = true → c.pod = 0 →
    1 ≤ rd req 0 1 → rd req 0 1 ≤ 64 → rd req 4 4 ≤ s.part.framesInFlight →
    exec (.bufferQuota c req) s = Answers c 0x0802 req St.ok (statusResp St.ok)
      (updPodLbf (rd req 0 1) (fun x => { x with quota := some (rd req 4 4) }) s)) ∧
  (∀ (s : State) (c : Caller) (req : Bytes), mayStart s c 0x0804 [] = true → shaped req 32 [(1, 7), (25, 7)] = true →
    (rd req 0 1 = 0 → exec (.rxRing c req) s = Answers c 0x0804 req St.ok (statusResp St.ok)
      (updPodLbf c.pod (fun x => { x with rxEnable := false }) s)) ∧
    (∀ start, rd req 0 1 = 1 → (podLbf s c.pod).rxEnable = false → rd req 8 8 % 4096 = 0 → rd req 16 8 % 64 = 0 → 16 ≤ rd req 24 1 →
      rd req 24 1 ≤ 26 → c.io.consumer = some start →
      ∃ t, exec (.rxRing c req) s = .next t ∧ (podLbf t c.pod).rxEnable = true ∧ (podLbf t c.pod).rxBase = rd req 8 8 ∧
        (podLbf t c.pod).rxCtrl = rd req 16 8 ∧ (podLbf t c.pod).rxLog2 = rd req 24 1 ∧ (podLbf t c.pod).rxProd = start ∧
        (podLbf t c.pod).rxCons = start))

/-- A ring's registers act, a descriptor is taken with its record owed, a job that ends writes its output and its record in turn. (R299, R300, R310, R311, R314, R316, R318, R319.) -/
def Obligations.CipherRingsRun : Prop :=
  (∀ (s : State) (p r v : Nat), p ≤ 64 → r ≤ 3 → pageOpen s p = true →
    exec (.cphRingDoorbell p r v) s = .next (updCphRing p r (fun x => { x with prod := BitVec.ofNat 32 v }) s) ∧
    exec (.cphCmplConsUpdate p r v) s = .next (updCphRing p r (fun x => { x with cmplCons := BitVec.ofNat 32 v }) s) ∧
    exec (.cphRingFaultClear p r) s = .next (updCphRing p r (fun x => { x with fault := false }) s) ∧
    exec (.cphRingEnable p r false) s = .next (updCphRing p r (fun x => { x with enable := false }) s) ∧
    (∃ t, exec (.cphRingEnable p r true) s = .next t ∧
      (6 ≤ (cphRing s p r).sizeLog2.toNat → (cphRing s p r).sizeLog2.toNat ≤ 16 → 6 ≤ (cphRing s p r).cmplLog2.toNat →
        (cphRing s p r).cmplLog2.toNat ≤ 16 → (cphRing t p r).enable = true ∧ (cphRing t p r).fault = (cphRing s p r).fault) ∧
      (16 < (cphRing s p r).sizeLog2.toNat → (cphRing t p r).enable = false ∧ (cphRing t p r).fault = true ∧
        (cphRing t p r).errStatus = St.badParam))) ∧
  (∀ (s : State) (p r : Nat) (d : Bytes) (io : DescIo), p ≤ 64 → r ≤ 3 → (cphRing s p r).enable = true → (cphRing s p r).fault = false →
    (cphRing s p r).prod ≠ (cphRing s p r).cons → (cphRing s p r).held = false → s.cph.entropy.passed = true →
    (pod s p).resetting = false → ringRoom (cphRing s p r) 1 = true →
    (io.descFails = true → (parseDesc d).frame = false → ∃ t, exec (.cipherDescriptorTake p r d io) s = .next t ∧
      (cphRing t p r).fault = true ∧ (cphRing t p r).cons = (cphRing s p r).cons ∧ t.cph.jobs = s.cph.jobs) ∧
    (io.descFails = false → (parseDesc d).frame = false → descOk d = true → io.readFails = false →
      ¬ (heldJob (parseDesc d) = true ∧ (parseDesc d).mode ≤ 1 ∧ 262144 < (parseDesc d).len) →
      ∃ t, exec (.cipherDescriptorTake p r d io) s = .next t ∧ (cphRing t p r).cons = (cphRing s p r).cons + 1) ∧
    (io.descFails = false → descOk d = false → s.cph.jobs = [] →
      ∃ t, exec (.cipherDescriptorTake p r d io) s = .next t ∧ (cphRing t p r).cons = (cphRing s p r).cons + 1 ∧ t.cph.jobs = [] ∧
        (cphRing t p r).owed = (cphRing s p r).owed)) ∧
  (∀ (s : State) (j : Job) (k : Key), s.cph.jobs = [j] → j.key = some k → j.ended = none →
    ∃ t, exec (.cipherJobComplete j.pod j.ring j.idx) s = .next t ∧ t.cph.jobs = [] ∧
      (∀ data, jobOutput j k = some data → hostOk s j.pod = true →
        Output.hostWrite j.pod (parseDesc j.desc).dst data ∈ t.out))

/-- key.load and key.clear fill and empty a slot of the caller's page, cipher.bind binds an endpoint, and the entropy source fails and returns. (R299, R302, R320, R321, R325, R326, R327.) -/
def Obligations.KeysBindingsAndEntropy : Prop :=
  (∀ (s : State) (c : Caller) (req : Bytes) (kek : Key),
    mayStart s c 0x0901 [.keySlot (64 * c.pod + rd req 0 1)] = true → shaped req 48 [(6, 2)] = true → s.sec.lifecycle = 2 →
    s.sec.tamper = false → 1 ≤ rd req 0 1 → rd req 0 1 ≤ 63 → rd req 1 1 ≤ 1 → rd req 2 1 ≠ 0 → rd req 2 1 < 64 → rd req 3 1 ≤ 1 →
    rd req 4 2 = 8 + 16 * (rd req 1 1 + 1) → (slice req (8 + rd req 4 2) (40 - rd req 4 2)).any (· != 0) = false →
    slotKey s c.pod 0 = some kek →
    (Config.keyUnwrap true kek.bytes (slice req 8 (rd req 4 2)) = none →
      exec (.keyLoad c req) s = Answers c 0x0901 req St.authFailed (statusResp St.authFailed) s) ∧
    (∀ key, Config.keyUnwrap true kek.bytes (slice req 8 (rd req 4 2)) = some key → key.length = 16 * (rd req 1 1 + 1) →
      let k : Key := { bytes := key, usage := BitVec.ofNat 8 (rd req 2 1) }
      (rd req 3 1 = 0 → keyRecord s c.pod (rd req 0 1) = none →
        exec (.keyLoad c req) s = Answers c 0x0901 req St.ok (statusResp St.ok) (setSlot c.pod (rd req 0 1) (some k) s)) ∧
      (rd req 3 1 = 1 →
        exec (.keyLoad c req) s = GoesOn c 0x0901 req [.keySlot (64 * c.pod + rd req 0 1)] true
          (journalWrite { target := .keyRecord (64 * c.pod + rd req 0 1) (some (recordOf s c.pod k)),
                          slot := some (64 * c.pod + rd req 0 1, k), caller := some c, status := St.ok, resp := statusResp St.ok,
                          keyOp := true } s)))) ∧
  (∀ (s : State) (c : Caller) (req : Bytes), mayStart s c 0x0902 [.keySlot (64 * c.pod + rd req 0 1)] = true →
    shaped req 8 [(1, 7)] = true → s.sec.lifecycle = 2 → 1 ≤ rd req 0 1 → rd req 0 1 ≤ 63 →
    ∃ t, exec (.keyClear c req) s = .next t ∧ slotKey t c.pod (rd req 0 1) = none ∧
      (∀ p k, (p, k) ≠ (c.pod, rd req 0 1) → k < 64 → slotKey t p k = slotKey s p k)) ∧
  (∀ (s : State) (c : Caller) (req : Bytes), mayStart s c 0x0903 [.endpoint (rd req 0 2)] = true → shaped req 8 [(4, 4)] = true →
    1 ≤ rd req 2 1 → rd req 2 1 ≤ 63 →
    (rd req 0 2 = 0x7FFF → rd req 3 1 = 0xFF →
      exec (.cipherBind c req) s = Answers c 0x0903 req St.ok (statusResp St.ok) { s with cph.bcast := tset s.cph.bcast c.pod (rd req 2 1) }) ∧
    (rd req 0 2 < 16384 → rd req 3 1 ≠ 0 → (rd req 3 1 ≤ 63 ∨ rd req 3 1 = 0xFF) → (endpoint s (rd req 0 2)).state ≠ .free →
      (endpoint s (rd req 0 2)).pod = c.pod →
      ∃ t, exec (.cipherBind c req) s = .next t ∧ (endpoint t (rd req 0 2)).txSlot = some (rd req 2 1) ∧
        (endpoint t (rd req 0 2)).rxSlot = some (rd req 3 1) ∧
        ((endpoint s (rd req 0 2)).rxSlot = some (rd req 3 1) → (endpoint t (rd req 0 2)).highest = (endpoint s (rd req 0 2)).highest) ∧
        ((endpoint s (rd req 0 2)).rxSlot ≠ some (rd req 3 1) → (endpoint t (rd req 0 2)).highest = none))) ∧
  (∀ (s : State) (c : Caller) (req : Bytes), mayStart s c 0x0904 [] = true → shaped req 8 [(2, 6)] = true → c.pod = 0 →
    ∃ t, exec (.cipherConfigure c req) s = .next t ∧ t.cph.instanceId = BitVec.ofNat 16 (rd req 0 2)) ∧
  (∀ (s : State) (q : Nat), q ≤ 3 → s.cph.entropy.healthy = true → 2 ^ 16 ≤ tget 0 s.cph.blocks q →
    ∃ t, exec (.maskReseed q) s = .next t ∧ tget 0 t.cph.blocks q < 2 ^ 16) ∧
  (∀ (s : State), Running s → ∃ t, exec .entropyHealthFail s = .next t ∧ t.cph.entropy.healthy = false ∧ t.cph.entropy.failSeen = true ∧
    t.cph.entropy.failCount.toNat = min 65535 (s.cph.entropy.failCount.toNat + 1) ∧ t.cph.entropy.retestAt = s.now + secs 1) ∧
  (∀ (s : State) (pass : Bool), Running s → s.cph.entropy.healthy = false →
    ∃ t, exec (.entropyRetest pass) s = .next t ∧ t.cph.entropy.healthy = pass ∧ t.now = max s.now s.cph.entropy.retestAt)

/-- Context registers take writes while idle; chk.assign, chk.bind and chk.dma set, bind and run a context; a job leaves its value. (R331, R335, R338, R342, R343, R344, R347.) -/
def Obligations.CheckValueContexts : Prop :=
  (∀ (s : State) (n v : Nat), n < 1024 → pageOpen s 0 = true →
    ((chkCtx s n).bound = none → (chkCtx s n).dma = none →
      exec (.chkContextWrite n 1 v) s = .next (updChk n (fun x => { x with poly := BitVec.ofNat 64 v }) s) ∧
      exec (.chkContextWrite n 2 v) s = .next (updChk n (fun x => { x with init := BitVec.ofNat 64 v }) s) ∧
      exec (.chkContextWrite n 3 v) s = .next (updChk n (fun x => { x with xorout := BitVec.ofNat 64 v }) s) ∧
      exec (.chkContextWrite n 4 v) s = .next (updChk n (fun x => { x with value := BitVec.ofNat 64 v }) s) ∧
      exec (.chkContextWrite n 5 v) s = .next (updChk n (fun x => { x with seq := BitVec.ofNat 64 v }) s) ∧
      (∃ t, exec (.chkContextWrite n 0 v) s = .next t ∧ (chkCtx t n).preset = BitVec.ofNat 4 (v / 2 ^ 32) ∧
        (chkCtx t n).dataId = BitVec.ofNat 16 (v / 2 ^ 48) ∧ (chkCtx t n).poly = (chkCtx s n).poly)) ∧
    ((chkCtx s n).bound.isSome = true → ∀ reg, reg ≤ 5 →
      exec (.chkContextWrite n reg v) s = .next (updChk n (fun x => { x with writeRejected := true }) s))) ∧
  (∀ (s : State) (c : Caller) (req : Bytes), mayStart s c 0x0A01 [.context (rd req 0 2)] = true → shaped req 8 [(4, 4)] = true →
    c.pod = 0 → rd req 0 2 < 1024 → rd req 2 1 ≤ 64 → rd req 3 1 ≤ 15 → (chkCtx s (rd req 0 2)).bound = none →
    (chkCtx s (rd req 0 2)).dma = none →
    s.chk.any (fun e => e.1 != rd req 0 2 && e.2.pod == rd req 2 1 && e.2.window == some (rd req 3 1)) = false →
    exec (.chkAssign c req) s = Answers c 0x0A01 req St.ok (statusResp St.ok)
      (updChk (rd req 0 2) (fun _ => { pod := rd req 2 1, window := some (rd req 3 1) }) s)) ∧
  (∀ (s : State) (c : Caller) (req : Bytes), mayStart s c 0x0A02 [.context (rd req 0 2), .endpoint (rd req 2 2)] = true →
    shaped req 8 [(6, 2)] = true → rd req 0 2 < 1024 → rd req 2 2 < 16384 → rd req 4 1 ≤ 1 →
    (c.pod = 0 ∨ c.pod = (chkCtx s (rd req 0 2)).pod) → (endpoint s (rd req 2 2)).state ≠ .free →
    (endpoint s (rd req 2 2)).pod = (chkCtx s (rd req 0 2)).pod → (chkCtx s (rd req 0 2)).dma = none →
    (rd req 5 1 = 0 → (chkCtx s (rd req 0 2)).bound = none → ctxBad (chkCtx s (rd req 0 2)) true = false → boundStreams s < 256 →
      ∃ t, exec (.chkBind c req) s = .next t ∧ (chkCtx t (rd req 0 2)).bound = some (rd req 2 2, rd req 4 1 == 1)) ∧
    (rd req 5 1 = 1 → (chkCtx s (rd req 0 2)).bound = some (rd req 2 2, rd req 4 1 == 1) →
      exec (.chkBind c req) s = Answers c 0x0A02 req St.ok (statusResp St.ok) (updChk (rd req 0 2) (fun x => { x with bound := none }) s))) ∧
  (∀ (s : State) (c : Caller) (req : Bytes), mayStart s c 0x0A03 [.context (rd req 0 2)] = true → shaped req 32 [(3, 5)] = true →
    s.part = .gnz5120 → rd req 0 2 < 1024 → rd req 2 1 ≤ 7 → rd req 8 8 % 8 = 0 → rd req 16 8 % 8 = 0 → 8 ≤ rd req 16 8 →
    rd req 16 8 ≤ 2 ^ 32 → rd req 24 8 % 8 = 0 → (c.pod = 0 ∨ c.pod = (chkCtx s (rd req 0 2)).pod) →
    (chkCtx s (rd req 0 2)).bound = none → (chkCtx s (rd req 0 2)).dma = none → ctxBad (chkCtx s (rd req 0 2)) false = false →
    dmaJobs s < 4 → dmaDenied s (chkCtx s (rd req 0 2)).pod req = none →
    exec (.chkDma c req) s = GoesOn c 0x0A03 req [.context (rd req 0 2)] true
      (updChk (rd req 0 2) (fun x => { x with dma := some { caller := c, req := req } }) s)) ∧
  (∀ (s : State) (n : Nat) (job : ChkDma), (chkCtx s n).dma = some job → dmaDenied s (chkCtx s n).pod job.req = none →
    let x := chkCtx s n
    let fold := if bit (rd job.req 2 1) 0 then [] else (if x.foldId then beBytes 2 x.dataId.toNat else []) ++
      (if x.foldSeq then beBytes 8 (rd job.req 8 8) else [])
    let first := if bit (rd job.req 2 1) 0 then x.value.toNat % 2 ^ (ctxAlg x).w else (ctxAlg x).init
    let v := crcRun (ctxAlg x) first (fold ++ ddrRead s (rd job.req 8 8) (rd job.req 16 8))
    ∃ t, exec (.chkDmaComplete n false) s = .next t ∧ (chkCtx t n).dma = none ∧ (chkCtx t n).done = true ∧
      (chkCtx t n).value = BitVec.ofNat 64 v ∧
      (chkCtx t n).result = (if bit (rd job.req 2 1) 1 then BitVec.ofNat 64 (crcFinal (ctxAlg x) v) else x.result) ∧
      (bit (rd job.req 2 1) 2 = false → t.ddr = s.ddr) ∧
      (bit (rd job.req 2 1) 2 = true → Memory.wf s.ddr = true → ddrRead t (rd job.req 24 8) 8 = leBytes 8 (chkCtx t n).result.toNat))

/-- A lane chain's sample enters its stages, and the last one of a group all of whose contributors follow the last gap gives the output. (R68, R88, R91, R94, R95, R96, R98, R101.) -/
def Obligations.LaneChainOutputs : Prop :=
  ∀ (s : State) (c n : Nat) (x : TapSample) (consumer : Option Nat),
    s.part.hasChain c = true → isLaneChain c = true → positionRuns s c 0 = true →
    (position (chain s c) 0).ready = [] → (chain s c).halved = tapHalved s c →
    let ch := chain s c
    let ps := position ch 0
    let g := chainSample c ch 0 ps (clampSigned 16 (tapSample (port s (c / 4)).line (c % 4) x))
    let acc := if n % 2 ^ ch.cfg.k = 0 ∨ ch.cfg.average = false then g.2.1 else ps.acc + g.2.1
    ∃ t, exec (.chainOutput c 0 n [x] [] consumer) s = .next t ∧
      ((n + 1) % 2 ^ ch.cfg.k = 0 → primed ch 0 g.1 = true →
        (position (chain t c) 0).latest = clampSigned 32 (roundEven acc ch.cfg.shift) ∧
        (position (chain t c) 0).latestAt = correctedTime s c 0 n) ∧
      ((n + 1) % 2 ^ ch.cfg.k ≠ 0 ∨ primed ch 0 g.1 = false → (position (chain t c) 0).latest = ps.latest) ∧
      (position (chain t c) 0).fir = g.1.fir ∧ (position (chain t c) 0).acc = acc ∧ (position (chain t c) 0).since = ps.since + 1 ∧
      (chain t c).cfg = ch.cfg ∧ (chain t c).bank0 = ch.bank0 ∧ (chain t c).bank1 = ch.bank1 ∧ (∀ d, d ≠ c → chain t d = chain s d)

/-- The chain commands set a chain's configuration, inactive bank, pending swap and comparators; a swap exchanges the banks. (R97, R99, R111, R113, R114.) -/
def Obligations.ChainCommands : Prop :=
  (∀ (s : State) (c : Caller) (req : Bytes), mayStart s c 0x0201 [.chain (rd req 0 2)] = true →
    shaped req 64 [(12, 4), (33, 15)] = true → mayChain s c (rd req 0 2) = true → chainCfgOk s.part (rd req 0 2) req = true →
    ((parseChainCfg req).dest = .trunk → slotCarries s (rd req 0 2) (parseChainCfg req) = true) →
    ((parseChainCfg req).dest = .ring → c.io.consumer.isSome = true ∧ hostOk s (chainOwner s (rd req 0 2)) = true) →
    ∃ t, exec (.chainConfigure c req) s = .next t ∧ (chain t (rd req 0 2)).cfg = parseChainCfg req ∧
      (chain t (rd req 0 2)).swap = none ∧ (chain t (rd req 0 2)).bank0 = (chain s (rd req 0 2)).bank0 ∧
      (chain t (rd req 0 2)).bank1 = (chain s (rd req 0 2)).bank1 ∧ (∀ d, d ≠ rd req 0 2 → chain t d = chain s d)) ∧
  (∀ (s : State) (c : Caller) (req : Bytes) (g : Nat), mayStart s c 0x0202 [.chain (rd req 0 2)] = true →
    shaped req (16 + 4 * rd req 3 1) [(5, 3), (12, 4)] = true → s.part.hasChain (rd req 0 2) = true → mayChain s c (rd req 0 2) = true →
    rd req 2 1 ≤ 1 → 1 ≤ rd req 3 1 → rd req 3 1 ≤ 128 → rd req 4 1 ≤ 1 → rd req 8 4 ≤ (rd req 3 1 - 1) * 1024 →
    (∀ i < rd req 3 1, bits (rd req (16 + 4 * i) 4) 24 8 = if bit (rd req (16 + 4 * i) 4) 23 then 255 else 0) →
    (rd req 4 1 = 1 → g = rd req 8 4) →
    (rd req 4 1 = 0 → centroid ((List.range (rd req 3 1)).map (fun i => toSigned 24 (rd req (16 + 4 * i) 4))) = some g) →
    (chain s (rd req 0 2)).active ≠ (rd req 2 1 == 1) → (chain s (rd req 0 2)).swap = none →
    let b : Bank := { h := (List.range (rd req 3 1)).map (fun i => toSigned 24 (rd req (16 + 4 * i) 4)), g3 := g }
    exec (.chainLoadbank c req) s = Answers c 0x0202 req St.ok (leBytes 2 St.ok.toNat ++ zeros 2 ++ leBytes 4 g)
      (updChain (rd req 0 2) (fun ch => if rd req 2 1 = 1 then { ch with bank1 := b } else { ch with bank0 := b }) s)) ∧
  (∀ (s : State) (c : Caller) (req : Bytes),
    mayStart s c 0x0203 ((List.range (min 552 (rd req 2 2))).map (fun i => Resource.chain (rd req 0 2 + i))) = true →
    shaped req 16 [(4, 4)] = true → 1 ≤ rd req 2 2 → rd req 2 2 ≤ 552 →
    (∀ i < rd req 2 2, s.part.hasChain (rd req 0 2 + i) = true ∧ mayChain s c (rd req 0 2 + i) = true ∧
      (chain s (rd req 0 2 + i)).swap = none) →
    (rd req 8 8 = 0 ∨ serialNewer 64 (rd req 8 8) ((tmbNow s).toNat + 10 * 2 ^ 32) = false) →
    ∃ t, exec (.chainSwap c req) s = .next t ∧
      (∀ i < rd req 2 2, chain t (rd req 0 2 + i) = { chain s (rd req 0 2 + i) with
        swap := some (if rd req 8 8 ≠ 0 ∧ serialNewer 64 (rd req 8 8) (tmbNow s).toNat = true then rd req 8 8 else (tmbNow s).toNat) }) ∧
      (∀ d, d < rd req 0 2 ∨ rd req 0 2 + rd req 2 2 ≤ d → chain t d = chain s d)) ∧
  (∀ (s : State) (c : Caller) (req : Bytes), mayStart s c 0x0204 [.chain (rd req 0 2)] = true → shaped req 16 [(6, 2)] = true →
    s.part.hasChain (rd req 0 2) = true → mayChain s c (rd req 0 2) = true → rd req 2 1 < positionCount (rd req 0 2) →
    rd req 3 1 ≤ 1 → rd req 4 1 ≤ 2 → 1 ≤ rd req 5 1 → rd req 12 4 < 2 ^ 31 →
    ∃ t, exec (.chainThreshold c req) s = .next t ∧
      let x := comparator (position (chain t (rd req 0 2)) (rd req 2 1)) (rd req 3 1)
      x.mode = rd req 4 1 ∧ x.q = rd req 5 1 ∧ x.level = rdInt req 8 4 ∧ x.hyst = rd req 12 4 ∧ x.run = 0 ∧
      (rd req 4 1 = 0 → x.active = false) ∧
      (rd req 4 1 ≠ 0 → x.active = (comparator (position (chain s (rd req 0 2)) (rd req 2 1)) (rd req 3 1)).active)) ∧
  (∀ (s : State) (n first due : Nat), s.part.hasChain n = true → (chain s n).swap = some due →
    (swapReady s n due first = false → exec (.bankSwapEffect ⟨n, first⟩) s = .next s) ∧
    (swapReady s n due first = true →
      ∃ t, exec (.bankSwapEffect ⟨n, first⟩) s = .next t ∧ (chain t n).active = !(chain s n).active ∧ (chain t n).swap = none ∧
        (chain t n).bank0 = (chain s n).bank0 ∧ (chain t n).bank1 = (chain s n).bank1 ∧ (chain t n).cfg = (chain s n).cfg ∧
        (∀ p < positionCount n, (position (chain t n) p).block = none)))

/-- Scan frames, charge resets, fault flags and die temperatures; the sense commands set scans, charge inputs, coefficients and owners. (R384, R389, R390, R391, R395, R396, R408, R410, R412, R413.) -/
def Obligations.ScansAndSensorFaults : Prop :=
  (∀ (s : State) (j : Nat) (codes : List ScanCode), j < 8 → converterRuns s (544 + j) = true →
    (∀ sc m, (converter s j).next = some (sc, m) → ∃ t, exec (.scanFrameStart j codes) s = .next t ∧
      converter t j = { scan := sc, next := none, frame := m }) ∧
    ((converter s j).next = none → (converter s j).scan.enables ≠ 0 → ∃ t, exec (.scanFrameStart j codes) s = .next t ∧
      converter t j = { converter s j with
        frame := max ((converter s j).frame + 1) (scanFrameAfter (converter s j).scan.periodUs (tmbNow s).toNat) })) ∧
  (∀ (s : State) (n : Nat) (code : Int), n < 32 → (charge s n).mode = 3 → 1792 ≤ code.natAbs → converterRuns s (512 + n) = true →
    ∃ t, exec (.chargeReset n code) s = .next t ∧ (charge t n).switchUntil = s.now + 200 ∧
      (position (chain t (512 + n)) 0).line = [] ∧ (position (chain t (512 + n)) 0).since = 0 ∧
      (position (chain t (512 + n)) 0).lost = (position (chain s (512 + n)) 0).lost + 30) ∧
  (∀ (s : State) (n : Nat) (present : Bool), Running s → n < 96 → (input s n).clamp ≠ present →
    ∃ t, exec (.clampFlagChange n present) s = .next t ∧ (input t n).clamp = present ∧ (present = true → n ∈ t.sns.clampSeen) ∧
      (∀ m, m ≠ n → input t m = input s m)) ∧
  (∀ (s : State) (n q : Nat) (lo hi mv : Int), Running s → n < 96 → cmWindow s n = some (q, lo, hi) →
    (input s n).commonMode ≠ (decide (mv < lo) || decide (mv > hi)) →
    ((input s n).cmRun + 1 < q →
      exec (.commonModeFlagChange n mv) s = .next (updInput n (fun i => { i with cmRun := i.cmRun + 1 }) s)) ∧
    (q ≤ (input s n).cmRun + 1 → ∃ t, exec (.commonModeFlagChange n mv) s = .next t ∧
      (input t n).commonMode = (decide (mv < lo) || decide (mv > hi)) ∧ (input t n).cmRun = 0 ∧
      ((input t n).commonMode = true → n ∈ t.sns.cmSeen))) ∧
  (∀ (s : State) (a b c : Int), Running s → exec (.dieTempUpdate a b c) s =
    .next { s with pwr.tjSensing := BitVec.ofInt 16 a, pwr.tjMax := BitVec.ofInt 16 b, pwr.tjMin := BitVec.ofInt 16 c,
                   pwr.tjValid := true }) ∧
  (∀ (s : State) (c : Caller) (req : Bytes), mayStart s c 0x0C01 [.converter (rd req 0 1), .chain (544 + rd req 0 1)] = true →
    shaped req 136 ((2, 2) :: (List.range 8).map (fun p => (18 + 16 * p, 6))) = true → rd req 0 1 ≤ 7 →
    mayName c (tget 0 s.own.converters (rd req 0 1)) = true → scanInRange req (parseScan req) = true →
    scanBreaksMains s (rd req 0 1) (parseScan req) = false → scanInvalid (parseScan req) = false →
    exec (.senseConfigure c req) s = Answers c 0x0C01 req St.ok (statusResp St.ok) (updConverter (rd req 0 1) (fun x =>
      { x with next := some (parseScan req, scanFrameAfter (parseScan req).periodUs ((tmbNow s).toNat + usTime 20)) }) s)) ∧
  (∀ (s : State) (c : Caller) (req : Bytes), mayStart s c 0x0C02 [.chain (512 + rd req 0 1)] = true →
    shaped req 16 [(5, 1), (10, 6)] = true → rd req 0 1 ≤ 31 → mayName c (tget 0 s.own.charges (rd req 0 1)) = true →
    rd req 1 1 ≤ 3 → rd req 2 1 ≤ 3 → rd req 3 1 ≤ 1 →
    (rd req 3 1 = 1 → 1 ≤ rd req 4 1 ∧ -2000 ≤ rdInt req 6 2 ∧ rdInt req 6 2 ≤ rdInt req 8 2 ∧ rdInt req 8 2 ≤ 2000) →
    ∃ t, exec (.senseCharge c req) s = .next t ∧ (charge t (rd req 0 1)).cap = BitVec.ofNat 2 (rd req 1 1) ∧
      (charge t (rd req 0 1)).mode = BitVec.ofNat 2 (rd req 2 1) ∧ (charge t (rd req 0 1)).cmCheck = bit (rd req 3 1) 0 ∧
      (charge t (rd req 0 1)).cmLo = rdInt req 6 2 ∧ (charge t (rd req 0 1)).cmHi = rdInt req 8 2 ∧
      (∀ m, m ≠ rd req 0 1 → charge t m = charge s m)) ∧
  (∀ (s : State) (c : Caller) (req : Bytes), mayStart s c 0x0C03 [.chain (chainOfInput (rd req 0 1)).1] = true →
    shaped req 104 [(3, 5)] = true → rd req 0 1 ≤ 95 → mayName c (inputOwner s (rd req 0 1)) = true →
    (∀ i < 24, bits (BitVec.ofNat 32 (rd req (8 + 4 * i) 4)).toNat 23 8 ≠ 255) →
    linSourceOk s (rd req 0 1) (rd req 1 1) (rd req 2 1) = true →
    exec (.senseLincoef c req) s = GoesOn c 0x0C03 req [.chain (chainOfInput (rd req 0 1)).1] true
      (journalWrite { target := .lin (rd req 0 1) { coef := (List.range 24).map (fun i => BitVec.ofNat 32 (rd req (8 + 4 * i) 4)),
                                                    source := rd req 1 1, sourceInput := rd req 2 1, sound := true },
                      caller := some c, status := St.ok, resp := statusResp St.ok } s)) ∧
  (∀ (s : State) (c : Caller) (req : Bytes),
    mayStart s c 0x0C07 (senseNames (rd req 0 1) (rd req 1 1) ++ [.pod (rd req 2 1)]) = true → shaped req 8 [(3, 5)] = true → c.pod = 0 →
    rd req 2 1 ≤ 64 → rd req 1 1 < [8, 32, 16, 2].getD (rd req 0 1) 0 →
    (rd req 0 1 = 0 → ∀ v < 4, isMainsSource s (4 * rd req 1 1 + v) = false) →
    ∃ t, exec (.senseAssign c req) s = .next t ∧
      (rd req 0 1 = 0 → tget 0 t.own.converters (rd req 1 1) = rd req 2 1) ∧
      (rd req 0 1 = 1 → tget 0 t.own.charges (rd req 1 1) = rd req 2 1) ∧
      (rd req 0 1 = 2 → tget 0 t.own.groups (rd req 1 1) = rd req 2 1 ∧ pdGroup t (rd req 1 1) = {}) ∧
      (rd req 0 1 = 3 → tget 0 t.own.i2c (rd req 1 1) = rd req 2 1 ∧ i2cPort t (rd req 1 1) = {}))

/-- A triggered pulse joins its group; a cluster closes as a numbered record or is discarded; pd.configure sets or resets a group. (R399, R400, R401, R403, R413.) -/
def Obligations.PulsesFormClusters : Prop :=
  (∀ (s : State) (n k : Nat) (src : PdSource) (pulse : PdPulse), n < 16 → (pdGroup s n).sources[k]? = some src →
    let g := pdGroup s n
    let c := src.chain
    let per := outputPs s c
    let ps := position (chain s c) 0
    let y0 := (pulse.window.head?).getD 0
    let tx := txDuring s c (s.now - 32 * per / 2000) s.now
    g.enable = true → pulse.window.length = 32 →
    (src.level : Int) ≤ (if src.polarity = 0 then y0 else if src.polarity = 1 then -y0 else (y0.natAbs : Int)) →
    let span := 32 * 2 ^ (chain s c).cfg.k
    let whole := contrib (chain s c) 0 + span ≤ ps.since ∧ span ≤ ps.sinceRate
    (∀ e ∈ g.deadUntil, e.1 ≠ k) →
    ∃ t, exec (.pdPulseWindowEnd n k pulse) s = .next t ∧
      tget 0 (pdGroup t n).deadUntil k = ps.latestAt + BitVec.ofInt 64 (psTime (g.deadNs * 1000)) ∧
      (pdGroup t n).pulses = g.pulses ++ (if ¬ whole ∨ (tx = true ∧ g.ignoreTx = true) then []
        else [pdPulseOf src k per ps.latestAt (quality s) tx pulse]) ∧
      (∀ m, m ≠ n → pdGroup t m = pdGroup s m)) ∧
  (∀ (s : State) (n : Nat) (consumer : Option Nat), n < 16 → (splitCluster (pdGroup s n)).1 ≠ [] →
    let es := (firstOfEach (splitCluster (pdGroup s n)).1).1
    ∃ t, exec (.pdClusterClose n consumer) s = .next t ∧ (pdGroup t n).pulses = (splitCluster (pdGroup s n)).2 ∧
      (es.length < (pdGroup s n).minSources → (pdGroup t n).discarded = satAdd (pdGroup s n).discarded 1 ∧
        (pdGroup t n).sequence = (pdGroup s n).sequence ∧ t.out = s.out) ∧
      ((pdGroup s n).minSources ≤ es.length → (pdGroup t n).discarded = 0 ∧ (pdGroup t n).sequence = (pdGroup s n).sequence + 1) ∧
      (∀ m, m ≠ n → pdGroup t m = pdGroup s m)) ∧
  (∀ (s : State) (c : Caller) (req : Bytes), mayStart s c 0x0C04 [.group (rd req 0 1)] = true →
    shaped req 304 ((33, 15) :: (List.range 16).map (fun i => (51 + 16 * i, 1))) = true → rd req 0 1 ≤ 15 → rd req 1 1 ≤ 3 →
    mayName c (tget 0 s.own.groups (rd req 0 1)) = true →
    (bit (rd req 1 1) 0 = false → exec (.pdConfigure c req) s = Answers c 0x0C04 req St.ok (statusResp St.ok) (setPdGroup (rd req 0 1) {} s)) ∧
    (∀ start, bit (rd req 1 1) 0 = true → pdInRange s.part (parsePd req) = true →
      (∀ x ∈ (parsePd req).sources, chainOwner s x.chain = tget 0 s.own.groups (rd req 0 1)) →
      (∀ e ∈ s.sns.groups, e.1 ≠ rd req 0 1 → e.2.enable = true → ∀ x ∈ e.2.sources, ∀ y ∈ (parsePd req).sources, y.chain ≠ x.chain) →
      c.io.consumer = some start → hostOk s (tget 0 s.own.groups (rd req 0 1)) = true →
      ∃ t, exec (.pdConfigure c req) s = .next t ∧ pdGroup t (rd req 0 1) = { parsePd req with ring := ⟨start, start⟩ }))

/-- An I2C transfer is queued, starts on a free bus, is retried after a lost arbitration, and ends by its result or a time-out. (R405, R406, R407, R409, R413.) -/
def Obligations.I2cTransfersRun : Prop :=
  (∀ (s : State) (c : Caller) (req : Bytes), mayStart s c 0x0C05 [.i2c (rd req 0 1)] = true → shaped req 8 [(2, 6)] = true →
    rd req 0 1 ≤ 1 → mayName c (tget 0 s.own.i2c (rd req 0 1)) = true → rd req 1 1 ≤ 2 →
    exec (.i2cConfigure c req) s = Answers c 0x0C05 req St.ok (statusResp St.ok)
      (setI2cPort (rd req 0 1) { i2cPort s (rd req 0 1) with speed := BitVec.ofNat 2 (rd req 1 1) } s)) ∧
  (∀ (s : State) (c : Caller) (req : Bytes), mayStart s c 0x0C06 [.i2c (rd req 0 1)] = true → shaped req 72 [] = true →
    rd req 0 1 ≤ 1 → mayName c (tget 0 s.own.i2c (rd req 0 1)) = true → rd req 1 1 ≤ 127 → rd req 2 1 ≤ 64 → rd req 3 1 ≤ 15 →
    rd req 4 2 ≤ 256 → 1 ≤ rd req 6 2 → rd req 6 2 ≤ 1000 → (rd req 2 1 ≠ 0 ∨ rd req 4 2 ≠ 0) → (i2cPort s (rd req 0 1)).current = none →
    exec (.i2cTransfer c req) s = GoesOn c 0x0C06 req [.i2c (rd req 0 1)] true
      (setI2cPort (rd req 0 1) { i2cPort s (rd req 0 1) with
        current := some { caller := c, address := rd req 1 1, written := slice req 8 (rd req 2 1), retryLimit := rd req 3 1,
                          readLen := rd req 4 2, timeoutMs := rd req 6 2, queuedAt := s.now, losses := 0 }
        started := false } s)) ∧
  (∀ (s : State) (i : Nat) (j : I2cJob), i < 2 → (i2cPort s i).current = some j →
    ((i2cPort s i).started = false →
      exec (.i2cTransferStart i) s = .next (emit (.i2c i (i2cPort s i).speed.toNat j.address j.written j.readLen)
        (setI2cPort i { i2cPort s i with started := true } s)) ∧
      (∃ t, exec (.i2cBusNotFreeTimeout i) s = .next t ∧ (i2cPort t i).current = none) ∧
      (j.recovered = false → exec (.i2cSclTimeout ⟨i, true⟩) s = .next (emit (.i2cRecover i)
        (setI2cPort i { i2cPort s i with current := some { j with recovered := true } } s))) ∧
      (j.recovered = true → ∃ t, exec (.i2cSclTimeout ⟨i, true⟩) s = .next t ∧ (i2cPort t i).current = none)) ∧
    ((i2cPort s i).started = true →
      (j.losses < j.retryLimit → exec (.i2cArbitrationLoss i) s = .next (setI2cPort i { i2cPort s i with
        current := some { j with losses := j.losses + 1, queuedAt := s.now }
        started := false } s)) ∧
      (j.retryLimit ≤ j.losses → ∃ t, exec (.i2cArbitrationLoss i) s = .next t ∧ (i2cPort t i).current = none) ∧
      (∃ t, exec (.i2cSclTimeout ⟨i, false⟩) s = .next t ∧ (i2cPort t i).current = none ∧ (i2cPort t i).speed = (i2cPort s i).speed) ∧
      (∀ r acked data, r ≤ 2 → ∃ t, exec (.i2cTransferEnd i r acked data) s = .next t ∧ (i2cPort t i).current = none ∧
        (i2cPort t i).started = false)))

/-- A trunk lane finds and loses frame alignment and lock, and enters and leaves LOS, LOF, SD and its slot defects. (R349, R359, R360, R361, R369, R375, R379.) -/
def Obligations.TrunkLaneDefects : Prop :=
  (∀ (s : State) (n : Nat), n < s.part.trunkLanes → isSkeluz s n = true →
    ((trunkLane s n).inFrame = false → (trunkLane s n).cwLock = true → ∃ t, exec (.fasFoundInFrame n) s = .next t ∧
      (trunkLane t n).inFrame = true ∧ (trunkLane t n).oofSince = none ∧ (trunkLane t n).inFrameSince = s.now ∧
      ((trunkLane s n).los = false → (trunkLane s n).lof = false → (trunkLane t n).restart = false) ∧
      (∀ m, m ≠ n → trunkLane t m = trunkLane s m)) ∧
    ((trunkLane s n).inFrame = true → exec (.fasMissingOof n) s =
      .next (updTrunkLane n (fun l => { l with inFrame := false, oofSince := some s.now }) s))) ∧
  (∀ (s : State) (n : Nat) (good : Bool), n < s.part.trunkLanes → (trunkLane s n).cfg.mode ≠ .off → (trunkLane s n).cwLock ≠ good →
    ∃ t, exec (.codewordLockChange n good) s = .next t ∧ (trunkLane t n).cwLock = good ∧
      (trunkLane t n).goodSince = (if good then some s.now else none) ∧
      (trunkLane t n).uncorrectable = (if good then (trunkLane s n).uncorrectable else satAdd (trunkLane s n).uncorrectable 8) ∧
      (∀ m, m ≠ n → trunkLane t m = trunkLane s m)) ∧
  (∀ (s : State) (n : Nat) (signal : Bool), n < s.part.trunkLanes → (trunkLane s n).cfg.mode ≠ .off → (trunkLane s n).los = false →
    (signal = false ∨ (trunkLane s n).cwLock = false) →
    ∃ t, exec (.losEntry n signal) s = .next t ∧ (trunkLane t n).los = true ∧ (trunkLane t n).losSeen = true ∧
      (trunkLane t n).cwLock = false ∧ laneUp (trunkLane t n) = false) ∧
  (∀ (s : State) (n u : Nat), n < s.part.trunkLanes → (trunkLane s n).los = true → (trunkLane s n).goodSince = some u →
    ∃ t, exec (.losExit n) s = .next t ∧ (trunkLane t n).los = false ∧ t.now = max s.now (u + us 125)) ∧
  (∀ (s : State) (n u : Nat), n < s.part.trunkLanes → isSkeluz s n = true → (trunkLane s n).lof = false →
    (trunkLane s n).oofSince = some u →
    ∃ t, exec (.lofEntry n) s = .next t ∧ (trunkLane t n).lof = true ∧ t.now = max s.now (u + ms 3) ∧
      ((trunkLane s n).los = false → (trunkLane t n).lofSeen = true) ∧ ((trunkLane s n).los = true → t.out = s.out)) ∧
  (∀ (s : State) (n : Nat), n < s.part.trunkLanes → (trunkLane s n).lof = true → (trunkLane s n).inFrame = true →
    ∃ t, exec (.lofExit n) s = .next t ∧ (trunkLane t n).lof = false ∧ t.now = max s.now ((trunkLane s n).inFrameSince + ms 3)) ∧
  (∀ (s : State) (n corrected received : Nat), n < s.part.trunkLanes → (trunkLane s n).cfg.mode ≠ .off → (trunkLane s n).los = false →
    (trunkLane s n).lof = false →
    ∃ t, exec (.sdEvaluation n corrected received) s = .next t ∧
      (trunkLane t n).corrected = satAdd (trunkLane s n).corrected corrected ∧
      ((trunkLane s n).sd = false → (trunkLane t n).sd = decide (received < corrected * 10 ^ (trunkLane s n).cfg.sdExp)) ∧
      ((trunkLane s n).sd = true → (trunkLane t n).sd = decide (received < corrected * 10 ^ ((trunkLane s n).cfg.sdExp + 1)))) ∧
  (∀ (s : State) (n : Nat), n < s.part.trunkLanes → (trunkLane s n).cfg.mode ≠ .off → (trunkLane s n).los = false →
    (trunkLane s n).lof = false →
    ∃ t, exec (.slotDefectChange n) s = .next t ∧
      (trunkLane t n).rdi = flagOf (trunkLane s n).rdi (trunkLane s n).rdis id (fun b => !b) ∧
      (∀ k < 64, isMember (tsiEntry s.part (activePage s) (64 * n + k)) = false →
        tget {} (trunkLane t n).slots k =
          slotDefects (expectedLabel s.part (activePage s) (64 * n + k)) (tget {} (trunkLane s n).slots k))) ∧
  (∀ (s : State) (n : Nat) (transmit : Bool), n < s.part.trunkLanes → (trunkLane s n).cfg.mode ≠ .off →
    ∃ t, exec (.trunkFifoShortfall n transmit) s = .next t ∧ (trunkLane t n).fifoSeen = true ∧
      (trunkLane t n).txShort = ((trunkLane s n).txShort || transmit) ∧ (trunkLane t n).rxShort = ((trunkLane s n).rxShort || !transmit))

/-- Frames and chunks go out and come in on the trunk; uplink units enter their slot's stream and feed packets enter a queue or are discarded. (R351, R353, R356, R358, R360, R363, R364, R367, R368, R369.) -/
def Obligations.TrunkCarriesTraffic : Prop :=
  (∀ (s : State), Running s → s.trk.pair.next = none → s.trk.pair.failFrom = none → s.pwr.sysResetFrame = none →
    ∃ t, exec .trunkFrameTransmit s = .next t ∧ t.trk.lastFrame = some (frameDue s) ∧ t.trk.txMfi = s.trk.txMfi + 1 ∧
      t.trk.discardRun = [] ∧
      (∀ n < s.part.trunkLanes, isSkeluz s n = true →
        ∃ l fill, Output.trunkFrame n (rowZero (advanceToFrame (frameDue s) s) n (frameDue s)) l fill ∈ t.out) ∧
      ((∀ n < s.part.trunkLanes, isSkeluz s n = false) → t.out = s.out)) ∧
  (∀ (s : State) (n : Nat) (x : TrunkRx), n < s.part.trunkLanes → isSkeluz s n = true → (trunkLane s n).inFrame = true →
    (trunkLane s n).los = false →
    ∃ t, exec (.trunkFrameReceive n x) s = .next t ∧ (trunkLane t n).mfi = BitVec.ofNat 8 x.mfi ∧
      (trunkLane t n).peerNode = BitVec.ofNat 16 x.node ∧ (trunkLane t n).peerRole = BitVec.ofNat 2 (bits x.lstat 1 2) ∧
      (trunkLane t n).rxTime = BitVec.ofNat 64 x.time ∧
      (x.echoTime % 2 ^ 64 ≠ 0 → (trunkLane t n).delayValid = true ∧ (trunkLane t n).delay = BitVec.ofInt 32
        (oneWayDelay (tmbNow s + BitVec.ofNat 64 (x.fine % 9)) (BitVec.ofNat 64 x.echoTime) x.echoDelay (trunkLane s n).cfg.asymPs)) ∧
      (x.echoTime % 2 ^ 64 = 0 → (trunkLane t n).delay = (trunkLane s n).delay)) ∧
  (∀ (s : State) (n slot : Nat), n < s.part.trunkLanes → slot < 64 → (trunkLane s n).cfg.mode = .ethernet →
    ((trunkLane s n).pauseUntil ≤ s.now → ∃ t mac h, exec (.ethernetChunkSend n slot) s = .next t ∧
      tget 0 (trunkLane t n).chunkTx slot = tget 0 (trunkLane s n).chunkTx slot + 1 ∧
      t.out = s.out ++ [.chunk n mac h (drawStream (groupFirst s.part (activePage s) (64 * n + slot)) 8000 s).2.1]) ∧
    ((trunkLane s n).los = false → ∀ seq label sstat data, ∃ t, exec (.ethernetChunkReceive n slot seq true label ⟨sstat, data⟩) s = .next t ∧
      (tget {} (trunkLane t n).slots slot).labels = (label :: (tget {} (trunkLane s n).slots slot).labels).take 3 ∧
      (tget {} (trunkLane t n).slots slot).chunkSeq = BitVec.ofNat 16 seq ∧ (tget {} (trunkLane t n).slots slot).chunkAt = s.now) ∧
    ((trunkLane s n).los = false → (tget {} (trunkLane s n).slots slot).ais = false →
      ∃ t, exec (.ethernetChunkTimeout (64 * n + slot)) s = .next t ∧ (tget {} (trunkLane t n).slots slot).ais = true ∧
        t.now = max s.now ((tget {} (trunkLane s n).slots slot).chunkAt + ms 1)) ∧
    (bit (trunkLane s n).cfg.ethFlags.toNat 1 = true → ∀ quanta, exec (.pauseReceived n quanta) s =
      .next (updTrunkLane n (fun l => { l with pauseUntil := s.now + ceilDiv (quanta % 65536 * 512) 200 }) s))) ∧
  (∀ (s : State) (f : Nat) (r : Reasm) (k : Nat) (x : Bool), reasm s f = some r → uplinkSlot s r.port r.pod = some (k, x) →
    r.ready = true → olderUnit s r = false → (trunkLane s (k / 64)).cfg.mode ≠ .off →
    exec (.trunkUplinkPacket f) s = .next (delivered f r (slotSend k
      { pod := r.pod, isPacket := true,
        data := packet 1 ((if r.poisoned then 1 else 0) + if r.passThrough then 2 else 0) r.ep r.cls r.pod r.data } s))) ∧
  (∀ (s : State) (slot : Nat) (b : Bytes), slot < s.part.slots → Running s → slotFailed s slot = false →
    (tsiEntry s.part (activePage s) slot).rxType = 1 → packetOk b = true →
    let e := tsiEntry s.part (activePage s) slot
    let pod_ := if isFixed (activePage s) slot then (endpoint s (rdBe b 4 2)).pod else rdBe b 7 1
    let good := rdBe b 2 1 == 2 && !bit (rdBe b 3 1) 0 && feedAllowed s e.rxArg pod_ (rdBe b 4 2)
    (good = false → ∃ t, exec (.feedPacketReceive slot b) s = .next t ∧
      (trunkLane t (slot / 64)).dlDiscards = satAdd (trunkLane s (slot / 64)).dlDiscards 1 ∧ t.lbf = s.lbf) ∧
    (good = true → ∀ u, (if bit e.rxFlags 0 then feedSealed else feedPlain) e.rxArg pod_ (rdBe b 4 2) (rdBe b 6 1 % 4)
      (slice b 8 (rdBe b 0 2)) s = some u → exec (.feedPacketReceive slot b) s = .next u))

/-- The standby page takes entries and the mapping mode; a commit waits for its boundary, where the pages switch and the copy follows. (R362, R365, R366, R367, R379, R380.) -/
def Obligations.SlotInterchangePages : Prop :=
  (∀ (s : State) (c : Caller) (req : Bytes), mayStart s c 0x0B02 [.tsiPage] = true → tsiWriteShape req = true → c.pod = 0 →
    1 ≤ rd req 2 2 → rd req 2 2 ≤ 32 → rd req 0 2 + rd req 2 2 ≤ s.part.slots → commitPending s = false →
    (∀ i < rd req 2 2, entryInRange s.part (parseEntry (slice req (8 + 16 * i) 16)) = true) →
    let es := (List.range (rd req 2 2)).map (fun i => parseEntry (slice req (8 + 16 * i) 16))
    let p := { standbyPage s with entries := (List.range (rd req 2 2)).foldl (fun t i => tset t (rd req 0 2 + i) (es.getD i {})) (standbyPage s).entries }
    entriesAllowed s (standbyPage s) p (rd req 0 2) (rd req 2 2) = true →
    exec (.tsiWrite c req) s = Answers c 0x0B02 req St.ok (statusResp St.ok) (setStandbyPage p s) ∧
    (∀ i < rd req 2 2, tget {} p.entries (rd req 0 2 + i) = parseEntry (slice req (8 + 16 * i) 16)) ∧
    activePage (setStandbyPage p s) = activePage s) ∧
  (∀ (s : State) (c : Caller) (req : Bytes), mayStart s c 0x0B03 [.tsiPage] = true → shaped req 8 [(1, 7)] = true → c.pod = 0 →
    rd req 0 1 ≤ 1 → commitPending s = false →
    exec (.tsiMode c req) s = Answers c 0x0B03 req St.ok (statusResp St.ok)
      (setStandbyPage { standbyPage s with fixed := bit (rd req 0 1) 0 } s)) ∧
  (∀ (s : State) (c : Caller) (req : Bytes), mayStart s c 0x0B04 [.tsiPage] = true → shaped req 8 [(0, 8)] = true → c.pod = 0 →
    commitPending s = false → s.trk.pair.role ≠ .standby →
    exec (.tsiCommit c req) s = Answers c 0x0B04 req St.pending (statusResp St.pending ++ leBytes 8 (frameTime (boundaryAfter20us s)))
      { s with trk.commitAt := some (boundaryAfter20us s), trk.commitDone := false }) ∧
  (∀ (s : State) (c : Caller) (req : Bytes), mayStart s c 0x0B05 [.tsiPage] = true → shaped req 8 [(1, 1), (6, 2)] = true → c.pod = 0 →
    rd req 0 1 ≤ 1 → 1 ≤ rd req 4 2 → rd req 4 2 ≤ 32 → rd req 2 2 + rd req 4 2 ≤ s.part.slots →
    exec (.tsiRead c req) s = Answers c 0x0B05 req St.ok (statusResp St.ok ++ (List.range (rd req 4 2)).flatMap (fun i =>
      entryBytes (tsiEntry s.part (if rd req 0 1 = 0 then activePage s else standbyPage s) (rd req 2 2 + i)))) s) ∧
  (∀ (s : State) (f : Nat), s.trk.commitAt = some f →
    ∃ t, exec .tsiCommitBoundary s = .next t ∧ activePage t = standbyPage s ∧ standbyPage t = activePage s ∧
      t.trk.commitCount = s.trk.commitCount + 1 ∧ t.trk.switchMfi = s.trk.txMfi ∧ t.trk.commitAt = none ∧ t.trk.copying = true) ∧
  (∀ (s : State), s.trk.copying = true →
    ∃ t, exec .tsiCopyDone s = .next t ∧ activePage t = activePage s ∧ standbyPage t = activePage s ∧ t.trk.commitDone = true ∧
      t.trk.copying = false) ∧
  (∀ (s : State) (c : Caller) (req : Bytes), mayStart s c 0x0B01 [.trunkLane (rd req 0 1)] = true →
    shaped req 32 [(12, 4), (22, 2), (30, 2)] = true → c.pod = 0 → rd req 0 1 < s.part.trunkLanes → rd req 1 1 ≤ 2 →
    4 ≤ rd req 4 1 → rd req 4 1 ≤ 9 → rd req 5 1 ≤ 7 → (parseTrunkCfg req).asymPs.natAbs ≤ 1000000 →
    (isPaired s = true → s.part.mirrorLanes.contains (rd req 0 1) = true →
      (parseTrunkCfg req).mode = (trunkLane s (rd req 0 1)).cfg.mode) →
    ∃ t, exec (.trunkConfigure c req) s = .next t ∧ (trunkLane t (rd req 0 1)).cfg = parseTrunkCfg req ∧
      ((parseTrunkCfg req).mode ≠ (trunkLane s (rd req 0 1)).cfg.mode →
        (trunkLane t (rd req 0 1)).los = false ∧ (trunkLane t (rd req 0 1)).lof = false ∧ (trunkLane t (rd req 0 1)).inFrame = false ∧
        (trunkLane t (rd req 0 1)).slots = [] ∧ (trunkLane t (rd req 0 1)).restart = decide ((parseTrunkCfg req).mode ≠ .off)))

/-- The pair configures its roles, mirrors state, confirms a loss, and takes over or switches at a boundary with the pages exchanged. (R370, R371, R372, R373, R544, R546, R547, R548.) -/
def Obligations.PairTakesOver : Prop :=
  (∀ (s : State) (c : Caller) (req : Bytes), mayStart s c 0x0B06 (.tsiPage :: s.part.mirrorLanes.map Resource.trunkLane) = true →
    shaped req 8 [(2, 6)] = true → c.pod = 0 → rd req 0 1 ≤ 2 → rd req 1 1 ≤ 1 → (∀ n ∈ s.part.mirrorLanes, isSkeluz s n = true) →
    let role : PairRole := if rd req 0 1 = 1 then .active else if rd req 0 1 = 2 then .standby else .unpaired
    exec (.pairConfigure c req) s = Answers c 0x0B06 req St.pending (statusResp St.pending)
      { s with trk.pair.next := some (role, bit (rd req 1 1) 0, frameAfter ((tmbNow s).toNat + 1)) }) ∧
  (∀ (s : State) (role : PairRole) (auto : Bool) (g : Nat), Running s → s.trk.pair.next = some (role, auto, g) → g ≤ frameDue s →
    s.pwr.sysResetFrame = none →
    ∃ t, exec .trunkFrameTransmit s = .next t ∧ t.trk.pair.role = role ∧ t.trk.pair.auto = auto ∧ t.trk.pair.next = none ∧
      (role = .standby → silent t = true) ∧ (role = .active → silent t = false) ∧
      (role ≠ .unpaired → ∀ k < s.part.slots, onMirrorLink s k = true →
        tget {} t.trk.page0.entries k = { txType := 4, rxType := 2 } ∧ tget {} t.trk.page1.entries k = { txType := 4, rxType := 2 })) ∧
  (∀ (s : State) (p e counter : Nat) (degraded : Bool) (d : Option Nat), Running s → s.trk.pair.role = .standby → mirrorDown s = false →
    (∃ t, exec (.mirrorRecordReceive (.neighbour p e counter degraded d)) s = .next t ∧ (nbr t p e).counter = BitVec.ofNat 8 counter ∧
      (nbr t p e).degraded = degraded ∧ (nbr t p e).dRt = d.map (· * 256) ∧ t.trk.pair.hbLost = false) ∧
    (∀ state port_ pod_ eui tx rx, 1 ≤ state → ∃ t, exec (.mirrorRecordReceive (.endpoint e state port_ pod_ eui tx rx)) s = .next t ∧
      (endpoint t e).state = epState state ∧ (endpoint t e).port = port_ ∧ (endpoint t e).pod = pod_ ∧ (endpoint t e).txSlot = tx ∧
      (endpoint t e).rxSlot = rx)) ∧
  (∀ (s : State), pairUp s = true → mirrorDown s = false → s.trk.pair.peerReady = false →
    exec .peerReadySet s = .next (pairEvent { s with trk.pair.peerReady := true, trk.pair.hbLost := false })) ∧
  (∀ (s : State), pairUp s = true → s.trk.pair.hbLost = false →
    ∃ t, exec .heartbeatLoss s = .next t ∧ t.trk.pair.hbLost = true ∧
      t.trk.pair.peerReady = (s.trk.pair.peerReady && !(s.trk.pair.role == .active && s.trk.pair.mirrorLost.isSome))) ∧
  (∀ (s : State) (u : Nat), pairUp s = true → s.trk.pair.mirrorLost = some u → s.trk.pair.hbLost = false → s.trk.pair.peerReady = true →
    ∃ t, exec .mirrorLinkLossTimeout s = .next t ∧ t.trk.pair.peerReady = false ∧ t.trk.pair.role = s.trk.pair.role ∧
      t.trk.pair.takeover = s.trk.pair.takeover) ∧
  (∀ (s : State), s.trk.pair.role = .standby → mirrorDown s = false → s.trk.pair.peerReady = true → s.trk.pair.takeover = none →
    s.trk.pair.planned = none → s.trk.pair.failingRun = 1 →
    (∃ t, exec (.peerFailingDetect 3) s = .next t ∧ t.trk.pair.takeover = some (nextFrame s)) ∧
    (∃ t, exec (.peerFailingDetect 1) s = .next t ∧ t.trk.pair.failingRun = 0 ∧ t.trk.pair.takeover = none)) ∧
  (∀ (s : State) (u : Nat), s.trk.pair.mirrorLost = some u → s.trk.pair.role = .standby → s.trk.pair.auto = true →
    s.trk.pair.peerReady = true → s.trk.pair.hbLost = true → s.trk.pair.takeover = none → s.trk.pair.planned = none →
    ∃ t, exec .pairTakeover s = .next t ∧ t.now = max s.now (u + us 500) ∧
      t.trk.pair.takeover = some (nextFrame (advanceTo (u + us 500) s))) ∧
  (∀ (s : State) (f : Nat), s.trk.pair.takeover = some f → s.trk.pair.role = .standby →
    ∃ t, exec .takeoverBoundary s = .next t ∧ t.trk.pair.role = .active ∧ activePage t = standbyPage s ∧ standbyPage t = activePage s ∧
      silent t = false ∧ t.trk.pair.takeover = none ∧ t.trk.switched = true ∧
      (∀ e ∈ s.nbrs, ∀ cls < 4, tget 0 (tget {} t.nbrs e.1).nextSeq cls = (tget 0 (tget {} s.nbrs e.1).nextSeq cls + 1024) % 4096)) ∧
  (∀ (s : State) (c : Caller) (req : Bytes), mayStart s c 0x0B07 [.tsiPage] = true → shaped req 8 [(0, 8)] = true → c.pod = 0 →
    isPaired s = true → s.trk.pair.peerReady = true →
    exec (.pairSwitch c req) s = Answers c 0x0B07 req St.pending (statusResp St.pending)
      { s with trk.pair.failFrom := if s.trk.pair.role = .active then some (boundaryAfter20us s) else none,
               trk.pair.planned := some (boundaryAfter20us s + 2) }) ∧
  (∀ (s : State) (f : Nat), s.trk.pair.planned = some f →
    ∃ t, exec .plannedSwitchBoundary s = .next t ∧ t.trk.pair.planned = none ∧
      (s.trk.pair.role = .standby → t.trk.pair.role = .active ∧ silent t = false ∧ activePage t = standbyPage s) ∧
      (s.trk.pair.role = .active → t.trk.pair.role = .standby ∧ silent t = true ∧ activePage t = standbyPage s) ∧
      (s.trk.pair.role = .failing → t.trk.pair.role = .failing ∧ silent t = true))

/-- PPS edges qualify and are missed, the time function is renewed, references are displaced, steps take effect, PPS_OUT rises and falls. (R416, R417, R418, R419, R420, R422, R424.) -/
def Obligations.ReferencesDisciplineTime : Prop :=
  (∀ (s : State) (edge : Nat), Running s →
    let n := max s.now edge
    let span : Int := match s.tmb.ppsLast with | some p => localSpan s.tmb p n | none => 0
    let run := if s.tmb.ppsLast.isSome && decide ((span - 2 ^ 32).natAbs * 1000000 ≤ 2 * 2 ^ 32) then s.tmb.ppsRun + 1 else 1
    (s.tmb.ppsQual = false → run < 4 → exec (.ppsEdge edge) s = .next { s with now := n, tmb.ppsRun := run, tmb.ppsLast := some n }) ∧
    (s.tmb.ppsQual = false → 4 ≤ run → ∃ t, exec (.ppsEdge edge) s = .next t ∧ t.tmb.ppsQual = true ∧ t.tmb.ppsSince = n ∧
      t.tmb.ppsLast = some n) ∧
    (s.tmb.ppsQual = true → ((span - 2 ^ 32).natAbs * 10000 ≤ 2 ^ 32 ∨ (span - 2 * 2 ^ 32).natAbs * 10000 ≤ 2 ^ 32) →
      ∃ t, exec (.ppsEdge edge) s = .next t ∧ t.tmb.ppsQual = true ∧ t.tmb.ppsLast = some n) ∧
    (s.tmb.ppsQual = true → 2 ^ 32 < (span - 2 ^ 32).natAbs * 10000 → 2 ^ 32 < (span - 2 * 2 ^ 32).natAbs * 10000 →
      exec (.ppsEdge edge) s = .next { s with now := n })) ∧
  (∀ (s : State) (p : Nat), s.tmb.ppsLast = some p → s.tmb.ppsQual = true →
    ∃ t, exec .ppsEdgeMissing s = .next t ∧ t.tmb.ppsQual = false ∧ t.tmb.ppsRun = 0 ∧ t.tmb.selected ≠ .pps ∧
      t.now = max s.now (p + secs 2 + us 100) ∧ (s.tmb.selected ≠ .pps → t.tmb.selected = s.tmb.selected)) ∧
  (∀ (s : State), Running s →
    ∃ t, exec .timebaseRenewal s = .next t ∧ t.now = (s.now / 500000 + 1) * 500000 ∧ t.tmb.nU = t.now ∧
      t.tmb.tU = timeAt s.tmb t.now ∧ tmbNow t = timeAt s.tmb t.now ∧ -maxRate ≤ t.tmb.yU ∧ t.tmb.yU ≤ maxRate ∧
      t.tmb.nextCfg = none ∧ (∀ c, s.tmb.nextCfg = some c → t.tmb.cfg = c) ∧
      (s.tmb.nextCfg = none → t.tmb.cfg = s.tmb.cfg ∧ t.tmb.slewLeft = s.tmb.slewLeft - slewPart s.tmb.slewLeft)) ∧
  (∀ (s : State) (u : Nat), s.tmb.holdoverFrom = some u →
    ∃ t, exec .holdoverExpiry s = .next t ∧ t = advanceTo (u + secs s.tmb.cfg.holdoverS + 1) s ∧
      (s.tmb.selected = .none → quality t ≤ 1)) ∧
  (∀ (s : State) (x : Nat), refOf x ≠ .none → bit s.tmb.cfg.flags.toNat 2 = true → refQual s (refOf x) = true →
    refOf x ∈ (refOrder s.tmb.cfg).takeWhile (· != s.tmb.selected) → s.tmb.selected ∈ refOrder s.tmb.cfg →
    ∃ t, exec (.revertiveDisplace x) s = .next t ∧ t.tmb.selected = refOf x ∧ t.tmb.switchSeen = true ∧ t.tmb.holdoverFrom = none ∧
      t.now = max s.now (qualifiedSince s (refOf x) + secs 10)) ∧
  (∀ (s : State) (r : Ref) (new : Word) (n : Nat), s.tmb.step = some ⟨r, new, some n⟩ →
    ∃ t, exec .timeStep s = .next t ∧ t.now = max s.now n ∧ tmbNow t = new ∧ t.tmb.valid = true ∧ t.tmb.step = none ∧
      t.tmb.slewLeft = 0 ∧ t.tmb.stepCount = s.tmb.stepCount + 1 ∧ t.tmb.stepSeen = true ∧ t.tmb.stepTime = new ∧
      t.tmb.stepAmount = new - timeAt s.tmb (max s.now n)) ∧
  (∀ (s : State), Running s →
    (s.tmb.ppsOut = true → exec .ppsOutEdge s = .next (emit (.pin "PPS_OUT" 0) { advanceTo s.tmb.ppsFall s with tmb.ppsOut := false })) ∧
    (s.tmb.ppsOut = false →
      let u := advanceTo (sampleOf s.tmb (ceilDiv (tmbNow s).toNat (2 ^ 32) * 2 ^ 32)) s
      exec .ppsOutEdge s = .next (if quality u = 0 || (bit s.tmb.cfg.flags.toNat 1 && quality u == 1) then u
        else emit (.pin "PPS_OUT" 1) { u with tmb.ppsOut := true, tmb.ppsFall := u.now + ms s.tmb.cfg.ppsWidthMs })))

/-- timebase.configure makes settings wait for the renewal; timebase.settime steps or slews to a time, or gives the seconds of the next edge. (R418, R422, R430, R431, R432.) -/
def Obligations.TimebaseCommands : Prop :=
  (∀ (s : State) (c : Caller) (req : Bytes), mayStart s c 0x0D01 [] = true → shaped req 16 [(3, 1), (14, 2)] = true → c.pod = 0 →
    rd req 0 1 < 64 → rd req 1 1 < s.part.trunkLanes → rd req 2 1 < 8 → 1 ≤ rd req 4 4 → rd req 4 4 ≤ 86400 →
    (rdInt req 8 4).natAbs ≤ 1000000 → 1 ≤ rd req 12 2 → rd req 12 2 ≤ 500 →
    exec (.timebaseConfigure c req) s = Answers c 0x0D01 req St.ok (statusResp St.ok) { s with tmb.nextCfg := some (parseTmbCfg req) }) ∧
  (∀ (s : State) (c : Caller) (req : Bytes), mayStart s c 0x0D02 [] = true → shaped req 16 [(1, 7)] = true → c.pod = 0 →
    rd req 0 1 = 0 →
    (stepWaits s = true → exec (.timebaseSettimeFull c req) s =
      Answers c 0x0D02 req St.stepPending (settimeResp St.stepPending 0 0) s) ∧
    (stepWaits s = false → (s.tmb.selected = .host ∨ s.tmb.selected = .none) →
      let offset := (tmbNow s - BitVec.ofNat 64 (rd req 8 8)).toInt
      ∃ t, exec (.timebaseSettimeFull c req) s = .next t ∧ t.tmb.hostSet = true ∧ t.tmb.offset = offset ∧
        ((s.tmb.valid = false ∨ oneMs ≤ offset.natAbs) → t.tmb.step.map (·.ref) = some .host ∧ t.tmb.slewLeft = 0) ∧
        (s.tmb.valid = true → offset.natAbs < oneMs → t.tmb.step = none ∧
          t.tmb.slewLeft = if offset.natAbs > 429 then -offset else 0))) ∧
  (∀ (s : State) (c : Caller) (req : Bytes), mayStart s c 0x0D02 [] = true → shaped req 16 [(1, 7)] = true → c.pod = 0 →
    rd req 0 1 = 1 → rd req 8 4 = 0 →
    (stepWaits s = true → exec (.timebaseSettimeSeconds c req) s =
      Answers c 0x0D02 req St.stepPending (settimeResp St.stepPending 0 0) s) ∧
    (stepWaits s = false → s.tmb.selected = .pps → exec (.timebaseSettimeSeconds c req) s =
      Answers c 0x0D02 req St.pending (settimeResp St.pending 1 (BitVec.ofNat 64 (rd req 12 4 * 2 ^ 32)))
        { s with tmb.seconds := some (rd req 12 4) }))

/-- Lane registers take writes, a descriptor is taken with its accounting, kept records follow a cleared fault, listens meet notifications. (R436, R438, R440, R441, R446, R452, R453, R592.) -/
def Obligations.MailboxLanesAndTakes : Prop :=
  (∀ (s : State) (p l : Nat), validLane p l = true → pageOpen s p = true →
    (∀ v, exec (.mbxDoorbell p l v) s = .next (updMbxLane p l (fun x => { x with prod := BitVec.ofNat 32 v }) s)) ∧
    (∀ v, exec (.mbxCmplConsUpdate p l v) s = .next (updMbxLane p l (fun x => { x with cmplCons := BitVec.ofNat 32 v }) s)) ∧
    exec (.mbxLaneEnable p l false) s = .next (updMbxLane p l (fun x => { x with enable := false }) s) ∧
    (∃ t, exec (.mbxLaneEnable p l true) s = .next t ∧
      let ok := decide (4 ≤ (mbxLane s p l).sizeLog2.toNat ∧ (mbxLane s p l).sizeLog2.toNat ≤ 12 ∧ 4 ≤ (mbxLane s p l).cmplLog2.toNat ∧
        (mbxLane s p l).cmplLog2.toNat ≤ 12)
      (mbxLane t p l).enable = ok ∧ (mbxLane t p l).fault = ((mbxLane s p l).fault || !ok) ∧
      (ok = false → (mbxLane t p l).errStatus = St.badParam)) ∧
    ((mbxLane s p l).kept = [] ∨ hostOk s p = true → ∃ t, exec (.mbxFaultClear p l) s = .next t ∧ (mbxLane t p l).fault = false ∧
      (mbxLane t p l).kept = [] ∧
      (mbxLane t p l).cmplProd = (mbxLane s p l).cmplProd + BitVec.ofNat 32 (mbxLane s p l).kept.length)) ∧
  (∀ (s : State) (p l : Nat) (d r : Bytes) (io : CmdIo), validLane p l = true → mayTake s p l = true → hostOk s p = true →
    standbyStops s (descCaller p l d io) = false → d.length = 64 →
    exec (.mbxDescriptorTake p l d r true io) s = .next (mbxFault p l s) ∧
    (commandOf (rd d 0 2) = none → exec (.mbxDescriptorTake p l d r false io) s =
      .next (complete (descCaller p l d io) St.unknownCommand [] (accountTake p l d s))) ∧
    (∀ u, startTaken p l d r io s = .next u → laneHeld u p l = false →
      exec (.mbxDescriptorTake p l d r false io) s = startTaken p l d r io (accountTake p l d s))) ∧
  (∀ (s : State) (c : Caller) (k : Cmd), s.mgmt.waiting.find? (fun k => sameCaller c k.caller) = some k → k.code = 0x0E05 →
    mayStart s { k.caller with io := c.io } 0x0E05 [] = true → shaped k.req 8 [(0, 8)] = true →
    exec (.commandWaitEnd c) s = Answers { k.caller with io := c.io } 0x0E05 k.req St.ok (fwInfoResp s) s) ∧
  (∀ (s : State) (c : Caller), mayStart s c 0x0E02 [] = true →
    ((mbxLane s c.pod c.lane).queued = [] → (mbxLane s c.pod c.lane).listens.length < 8 → ∃ t, exec (.mbxListen c []) s = .next t ∧
      (mbxLane t c.pod c.lane).listens = (mbxLane s c.pod c.lane).listens ++ [c]) ∧
    (∀ n rest, (mbxLane s c.pod c.lane).queued = n :: rest → ∃ t, exec (.mbxListen c []) s = .next t ∧
      (mbxLane t c.pod c.lane).queued = rest ∧ (mbxLane t c.pod c.lane).listens = (mbxLane s c.pod c.lane).listens ∧
      (mbxLane t c.pod c.lane).lost = 0)) ∧
  (∀ (s : State) (p l code : Nat) (body : Bytes), validLane p l = true → Running s → s.mgmt.fwState = .running → body.length ≤ 4088 →
    (∀ c rest, (mbxLane s p l).listens = c :: rest → exec (.notificationPost p l code body) s =
      .next (deliverNotice c ⟨code % 65536, body⟩ (updMbxLane p l (fun x => { x with listens := rest }) s))) ∧
    ((mbxLane s p l).listens = [] → (mbxLane s p l).queued.length < 64 → exec (.notificationPost p l code body) s =
      .next (updMbxLane p l (fun x => { x with queued := x.queued ++ [⟨code % 65536, body⟩] }) s)) ∧
    ((mbxLane s p l).listens = [] → 64 ≤ (mbxLane s p l).queued.length → exec (.notificationPost p l code body) s =
      .next (updMbxLane p l (fun x => { x with lost := satAdd x.lost 1 }) s))) ∧
  (∀ (s : State) (c : Caller) (req : Bytes), mayStart s c 0x0E01 [.pod (rd req 0 1)] = true → shaped req 8 [(4, 4)] = true → c.pod = 0 →
    rd req 0 1 ≤ 64 → 1 ≤ rd req 1 1 → rd req 1 1 ≤ 4 → 1 ≤ rd req 2 1 → rd req 2 1 ≤ 32 → 1 ≤ rd req 3 1 → rd req 3 1 ≤ 64 →
    exec (.mbxCredits c req) s = Answers c 0x0E01 req St.ok (statusResp St.ok)
      { s with
          mgmt.credits := tset s.mgmt.credits (rd req 0 1)
            { urgent := BitVec.ofNat 8 (rd req 1 1), normal := BitVec.ofNat 8 (rd req 2 1), bulk := BitVec.ofNat 8 (rd req 3 1) } })

/-- The bulk lanes shed under load; a watchdog expiry or a processor fault restarts the firmware, or halts it after three restarts in 10 s. (R444, R447, R448, R449.) -/
def Obligations.FirmwareRestartsAndSheds : Prop :=
  (∀ (s : State) (loads : List Nat), s.mgmt.fwState = .running →
    (s.mgmt.shedding = false → ((loads.length = 4 ∧ ∀ x ∈ loads, 0xE6 ≤ x ∧ x < 256) ∨ 256 < s.mgmt.waiting.length) →
      ∃ t, exec (.sheddingEntry loads) s = .next t ∧ t.mgmt.shedding = true ∧ t.mgmt.load = loadOf loads) ∧
    (s.mgmt.shedding = true → loads.length = 4 → (∀ x ∈ loads, x < 0xB3) → s.mgmt.waiting.length < 128 →
      ∃ t, exec (.sheddingExit loads) s = .next t ∧ t.mgmt.shedding = false ∧ t.mgmt.load = loadOf loads ∧
        t.mgmt.waiting = s.mgmt.waiting)) ∧
  (∀ (s : State), Running s → s.mgmt.jumped = true → s.mgmt.fwState ≠ .halted →
    let recent := s.mgmt.restartTimes.filter (fun t => decide (s.now < t + secs 10))
    (recent.length < 3 →
      (∃ t, exec .watchdogExpiry s = .next t ∧ t.mgmt.fwState = .restarting ∧ t.mgmt.ready = false ∧ t.mgmt.load = 0 ∧
        t.mgmt.restartCause = 1 ∧ t.mgmt.restartCount = s.mgmt.restartCount + 1 ∧ t.mgmt.restartSeen = true ∧
        t.mgmt.expiries = satAdd s.mgmt.expiries 1 ∧ t.mgmt.restartTimes = recent ++ [s.now]) ∧
      (∃ t, exec .processorFault s = .next t ∧ t.mgmt.fwState = .restarting ∧ t.mgmt.ready = false ∧ t.mgmt.restartCause = 3 ∧
        t.mgmt.restartCount = s.mgmt.restartCount + 1 ∧ t.mgmt.expiries = s.mgmt.expiries)) ∧
    (3 ≤ recent.length → ∀ i, i = .watchdogExpiry ∨ i = .processorFault →
      ∃ t, exec i s = .next t ∧ t.mgmt.fwState = .halted ∧ t.mgmt.ready = false ∧ t.mgmt.restartCount = s.mgmt.restartCount ∧
        (s.trk.pair.role = .active → t.trk.pair.role = .failing))) ∧
  (∀ (s : State), s.mgmt.fwState = .restarting →
    ∃ t, exec .firmwareRestartComplete s = .next t ∧ t.mgmt.fwState = .running ∧ t.mgmt.ready = true ∧ t.mgmt.owed = [] ∧
      t.mgmt.restartCount = s.mgmt.restartCount)

/-- fw.info tells the images; fw.update erases the other slot, writes it and marks a good image for the next boot; fw.activate runs it. (R460, R461.) -/
def Obligations.FirmwareImages : Prop :=
  (∀ (s : State) (c : Caller) (req : Bytes), mayStart s c 0x0E05 [] = true → shaped req 8 [(0, 8)] = true →
    exec (.fwInfo c req) s = Answers c 0x0E05 req St.ok (fwInfoResp s) s) ∧
  (∀ (s : State) (c : Caller) (req : Bytes), mayStart s c 0x0E06 [.image] = true → shaped req 24 [(1, 3), (12, 4)] = true → c.pod = 0 →
    (rd req 0 1 = 0 → rd req 4 8 = 0 → s.mgmt.updating = none →
      exec (.fwUpdateBegin c req) s = Answers c 0x0E06 req St.ok (statusResp St.ok)
        (emit (.flash (otherSlot s) 0 []) (updSlot (otherSlot s) (fun _ => { torn := true }) { s with mgmt.updating := some 0 }))) ∧
    (rd req 0 1 = 1 → ∀ n data, rd req 4 4 % 256 = 0 → 256 ≤ rd req 8 4 → rd req 8 4 ≤ 65536 → rd req 4 4 + rd req 8 4 ≤ 2097152 →
      s.mgmt.updating = some n → c.io.data = some data →
      ∃ t, exec (.fwUpdateWrite c req) s = .next t ∧ t.mgmt.updating = some (max n (rd req 4 4 + rd req 8 4)) ∧
        Output.flash (otherSlot s) (rd req 4 4) (data.take (rd req 8 4)) ∈ t.out ∧ t.mgmt.nextSlot = s.mgmt.nextSlot) ∧
    (rd req 0 1 = 2 → ∀ v, rd req 4 4 = 0 → s.mgmt.updating.isSome = true → c.io.image = some v → v.length = rd req 8 4 →
      (imageOk s v = true → exec (.fwUpdateFinish c req) s = Answers c 0x0E06 req St.ok (statusResp St.ok)
        (markNext (otherSlot s) (updSlot (otherSlot s) (fun _ => { version := some (BitVec.ofNat 16 v.version) })
          { s with mgmt.updating := none }))) ∧
      (imageOk s v = false → exec (.fwUpdateFinish c req) s = Answers c 0x0E06 req St.imageInvalid (statusResp St.imageInvalid)
        { s with mgmt.updating := none }))) ∧
  (∀ (s : State) (c : Caller) (req : Bytes) (v : ImageView), mayStart s c 0x0E07 [.image] = true → shaped req 8 [(0, 8)] = true →
    c.pod = 0 → c.gone = false → c.io.image = some v → imageOk s v = true → (flashSlot s s.mgmt.nextSlot).torn = false →
    v.stateFormat = s.mgmt.stateFormat.toNat →
    ∃ t, exec (.fwActivate c req) s = .next t ∧ t.mgmt.runningSlot = s.mgmt.nextSlot ∧ t.mgmt.fwVersion = BitVec.ofNat 16 v.version ∧
      t.mgmt.fwState = .restarting ∧ t.mgmt.ready = false ∧ t.mgmt.restartCause = 2 ∧ t.mgmt.updating = none ∧
      t.mgmt.owed = s.mgmt.owed ++ [(c, St.ok, statusResp St.ok)])

/-- The hosted services: registry writes, meter schedules and collections, load shedding with its confirmation, dispatch and its replies. (R293, R457, R458, R459.) -/
def Obligations.ServicesRun : Prop :=
  (∀ (s : State) (c : Caller) (req : Bytes), mayStart s c 0x1401 [.endpoint (rd req 8 2)] = true → shaped req 16 [(15, 1)] = true →
    c.pod = 0 → rd req 8 2 < 16384 → rd req 10 2 < s.part.ports → rd req 12 1 ≤ 64 → rd req 13 1 ≤ 64 →
    let x : RegEntry := { eui := rd req 0 8, endpoint := rd req 8 2, port := rd req 10 2, pod := rd req 12 1, owner := rd req 13 1 }
    let others := (registryLatest s).filter (fun r => r.eui != x.eui)
    (rd req 14 1 = 1 → exec (.svcRegistrySet c req) s = GoesOn c 0x1401 req [.endpoint (rd req 8 2)] true
      (journalWrite { target := .registry others, caller := some c, status := St.ok, resp := statusResp St.ok } s)) ∧
    (rd req 14 1 = 0 → (∀ r ∈ others, r.endpoint ≠ x.endpoint) → others.length < 16384 →
      exec (.svcRegistrySet c req) s = GoesOn c 0x1401 req [.endpoint (rd req 8 2)] true
        (journalWrite { target := .registry (others ++ [x]), caller := some c, status := St.ok, resp := statusResp St.ok } s))) ∧
  (∀ (s : State) (c : Caller) (req : Bytes), mayStart s c 0x1402 [] = true → req.length = 16 + rd req 12 2 →
    reservedZero req [(3, 1), (14, 2)] = true →
    (rd req 1 1 = 1 → exec (.svcMeterSchedule c req) s = Answers c 0x1402 req St.ok (statusResp St.ok)
      { s with mgmt.schedules := tdel s.mgmt.schedules (256 * c.pod + rd req 0 1) }) ∧
    (rd req 1 1 = 0 → 1 ≤ rd req 2 1 → rd req 2 1 ≤ 2 → 1 ≤ rd req 4 4 → rd req 4 4 ≤ 86400 → 1 ≤ rd req 10 2 → rd req 10 2 ≤ 1024 →
      rd req 8 2 + rd req 10 2 ≤ 16384 → rd req 12 2 ≤ 256 → ownedRange s c.pod (rd req 8 2) (rd req 10 2) ≠ [] →
      s.mgmt.schedules.length < 256 →
      ∃ t x, exec (.svcMeterSchedule c req) s = .next t ∧ schedule t (256 * c.pod + rd req 0 1) = some x ∧ x.owner = c.pod ∧
        x.first = rd req 8 2 ∧ x.count = rd req 10 2 ∧ x.periodS = rd req 4 4 ∧ x.nextAt = s.now ∧ x.collecting = none)) ∧
  (∀ (s : State) (k : Nat) (x : MeterSchedule), schedule s k = some x → s.mgmt.fwState = .running →
    (∃ t y, exec (.meterPeriod k) s = .next t ∧ schedule t k = some y ∧ y.nextAt = x.nextAt + secs x.periodS ∧
      y.collecting = some t.mgmt.reqId.toNat ∧ t.mgmt.reqId = s.mgmt.reqId + 1 ∧ y.replies = [] ∧ y.query = x.query) ∧
    (x.collecting.isSome = true → ∃ t y, exec (.meterCollectionEnd k) s = .next t ∧ schedule t k = some y ∧ y.collecting = none ∧
      y.nextAt = x.nextAt ∧ t.now = max s.now x.collectEnd)) ∧
  (∀ (s : State) (c : Caller) (req : Bytes), mayStart s c 0x1403 [] = true → req.length = 16 + rd req 4 2 → 1 ≤ rd req 2 2 →
    rd req 2 2 ≤ 1024 → rd req 0 2 + rd req 2 2 ≤ 16384 → rd req 4 2 ≤ 256 → 10 ≤ rd req 6 2 → rd req 6 2 ≤ 10000 →
    ownedRange s c.pod (rd req 0 2) (rd req 2 2) ≠ [] → (s.mgmt.shedOps.filter (fun o => o.owner == c.pod)).length < 4 →
    exec (.svcLoadShed c req) s = Answers c 0x1403 req St.pending (statusResp St.pending)
      { s with
          mgmt.shedOps := s.mgmt.shedOps ++
            [{ owner := c.pod, first := rd req 0 2, count := rd req 2 2, body := slice req 16 (rd req 4 2)
               executeAt := if rd req 8 8 = 0 then (tmbNow s).toNat else rd req 8 8
               confirmMs := rd req 6 2, executed := false, reqId := 0, replied := [] }] }) ∧
  (∀ (s : State) (i : Nat) (o : ShedOp), s.mgmt.shedOps[i]? = some o → s.mgmt.fwState = .running →
    (o.executed = false → ∃ t, exec (.loadShedExecute i) s = .next t ∧ t.mgmt.reqId = s.mgmt.reqId + 1 ∧
      t.mgmt.shedOps[i]? = some { o with executed := true, reqId := (s.mgmt.reqId + 1).toNat }) ∧
    (o.executed = true → ∃ t, exec (.loadShedConfirm i) s = .next t ∧ t.mgmt.shedOps = s.mgmt.shedOps.eraseIdx i)) ∧
  (∀ (s : State) (c : Caller) (req : Bytes), mayStart s c 0x1404 [.endpoint (rd req 0 2)] = true → req.length = 16 + rd req 8 2 →
    reservedZero req [(10, 6)] = true → rd req 0 2 < 16384 → 1 ≤ rd req 2 1 → rd req 2 1 ≤ 3 → rd req 3 1 = 0 → 1 ≤ rd req 4 2 →
    rd req 4 2 ≤ 3600 → 1 ≤ rd req 6 2 → rd req 6 2 ≤ 3600 → rd req 8 2 ≤ 256 → serviceOwner s (rd req 0 2) = some c.pod →
    s.mgmt.assets.length < 4096 →
    ∃ t a, exec (.svcDispatchSet c req) s = .next t ∧ asset t (rd req 0 2) = some a ∧ a.owner = c.pod ∧ a.kind = rd req 2 1 ∧
      a.reassertS = rd req 4 2 ∧ a.lossS = rd req 6 2 ∧ a.awaitFirst = true ∧ a.unanswered = true ∧ a.reqId = (s.mgmt.reqId + 1).toNat) ∧
  (∀ (s : State) (ep : Nat) (a : Asset), asset s ep = some a → s.mgmt.fwState = .running →
    (∃ t, exec (.dispatchReassert ep) s = .next t ∧
      asset t ep = some { a with nextAt := a.nextAt + secs a.reassertS, unanswered := true, reqId := (s.mgmt.reqId + 1).toNat }) ∧
    (∃ t, exec (.dispatchLoss ep) s = .next t ∧ asset t ep = some { a with lastReply := max s.now (a.lastReply + secs a.lossS) }) ∧
    (∀ n r u, s.lbf.reasms.find? (fun e => e.2.ep == ep && e.2.pod == 0 && e.2.ready && e.2.opened && e.2.data == u) = some (n, r) →
      isReply u = true → rd u 0 1 = 4 → rdBe u 2 2 = a.reqId →
      ∃ t, exec (.serviceReplyReceived ep u) s = .next t ∧ asset t ep =
        some { a with lastReply := s.now, awaitFirst := false, unanswered := false } ∧
        thas t.lbf.reasms n = false))

/-- A pod reset starts with its cause and fence, keeps other pods' windows, and ends with registers at reset; functions and the link come and go. (R462, R463, R472, R474, R475, R480, R482, R491, R531, R533.) -/
def Obligations.PodsResetAndReturn : Prop :=
  (∀ (s : State) (c : Caller) (req : Bytes), mayStart s c 0x0F01 [] = true → shaped req 8 [(1, 7)] = true → c.pod = 0 →
    1 ≤ rd req 0 1 → rd req 0 1 ≤ 64 → (pod s (rd req 0 1)).resetting = false →
    ∃ t, exec (.podReset c req) s = .next t ∧ (pod t (rd req 0 1)).resetting = true ∧ (pod t (rd req 0 1)).cause = 1 ∧
      (pod t (rd req 0 1)).resetAt = s.now ∧ (pod t (rd req 0 1)).windows = (pod s (rd req 0 1)).windows ∧
      (∀ e ∈ t.cph.slots, e.1 / 64 = rd req 0 1 → e.1 % 64 = 0) ∧
      (∀ m, m ≠ rd req 0 1 → (pod t m).resetting = (pod s m).resetting ∧ (pod t m).windows = (pod s m).windows)) ∧
  (∀ (s : State) (n : Nat), Running s → 1 ≤ n → n ≤ 64 → fnExists s n = true → (pod s n).resetting = false →
    ∃ t, exec (.vfFunctionLevelReset n) s = .next t ∧ (pod t n).resetting = true ∧ (pod t n).cause = 2 ∧
      (∀ e ∈ t.host.msix, e.1 / 1024 ≠ n) ∧ (∀ m, m ≠ n → (pod t m).resetting = (pod s m).resetting)) ∧
  (∀ (s : State) (k : Nat), Running s → ∃ t, exec (.vfEnable k) s = .next t ∧ t.host.numVfs = vfLimit s k ∧ t.host.vfEnable = decide (0 < vfLimit s k) ∧
    (∀ n, 1 ≤ n → n ≤ 64 → fnExists s n = true → fnExists t n = false → (pod t n).resetting = true)) ∧
  (∀ (s : State) (k : Nat), Running s → k < s.host.numVfs → s.host.vfEnable = true →
    ∃ t, exec (.vfDisable k) s = .next t ∧ t.host.numVfs = k ∧ t.host.vfEnable = decide (0 < k) ∧
      (∀ n, 1 ≤ n → n ≤ 64 → fnExists s n = true → fnExists t n = false → (pod t n).resetting = true)) ∧
  (∀ (s : State) (kind : PcieReset), Running s →
    ∃ t, exec (.pcieInterfaceReset kind) s = .next t ∧ t.host.linkUp = false ∧ t.host.vfEnable = false ∧ t.host.numVfs = 0 ∧
      t.host.msix = [] ∧ t.pwr.pcieResetSeen = true ∧ (∀ n, 1 ≤ n → n ≤ 64 → (pod t n).resetting = true) ∧
      (∀ l < 3, (mbxLane t 0 l).enable = false ∧ (mbxLane t 0 l).listens = [])) ∧
  (∀ (s : State), Running s → exec .pcieLinkUp s = .next { s with host.linkUp := true }) ∧
  (∀ (s : State) (n : Nat), 1 ≤ n → n ≤ 64 → (pod s n).resetting = true → s.mgmt.fwState ≠ .restarting →
    (∀ c ∈ (pod s n).resetCallers, c.pod ≠ n ∧ c.lane ≤ 2) →
    ∃ t, exec (.podResetComplete n) s = .next t ∧ (pod t n).resetting = false ∧ (pod t n).resetSeen = true ∧
      (pod t n).resetCount = (pod s n).resetCount + 1 ∧ (∀ l < 3, mbxLane t n l = {}) ∧ (∀ a ∈ t.fw.inFlight, a.pod ≠ n) ∧
      (∀ m, m ≠ n → pod t m = pod s m))

/-- An aperture access inside a granted window is in flight until it retires; any other is denied and reaches no DDR; windows and ports change hands. (R466, R467, R468, R469, R470, R472, R478, R479, R480.) -/
def Obligations.AccessesAreChecked : Prop :=
  (∀ (s : State) (n off len : Nat) (write : Bool) (data : Bytes), 1 ≤ n → n ≤ 64 → off + len ≤ 2 ^ 32 → fnExists s n = true → Running s →
    let w := window s n (off / 2 ^ 29)
    let granted := (if write then w.write else w.read) && decide (off % 2 ^ 29 + len ≤ w.size)
    ((pod s n).resetting = false → granted = true → exec (.apertureAccess n write off len data) s = .next
      { s with
          fw.inFlight := s.fw.inFlight ++ [{ id := s.fw.nextId, pod := n, epoch := s.fw.epoch,
                                             write := if write then some (w.base + off % 2 ^ 29, data.take len) else none,
                                             read := if write then none else some (w.base + off % 2 ^ 29, len) }]
          fw.nextId := s.fw.nextId + 1 }) ∧
    ((pod s n).resetting = false → granted = false → ∃ t, exec (.apertureAccess n write off len data) s = .next t ∧ DdrSame s t ∧
      t.fw.inFlight = s.fw.inFlight ∧ t.fw.denyCount = satAdd s.fw.denyCount 1 ∧ t.fw.denySeen = true ∧ (pod t n).denySeen = true ∧
      (s.fw.denyCount = 0 → t.fw.logPod = BitVec.ofNat 7 n ∧ t.fw.logOffset = BitVec.ofNat 32 (off % 2 ^ 29)) ∧
      (write = false → Output.apertureRead n (zeros len) ∈ t.out)) ∧
    ((pod s n).resetting = true → exec (.apertureAccess n write off len data) s =
      .next (if write then s else emit (.apertureRead n (zeros len)) s))) ∧
  (∀ (s : State) (i : Nat) (a : Checked), s.fw.inFlight.find? (fun x => x.id == i) = some a →
    ∃ t, exec (.checkedAccessRetire i) s = .next t ∧ (∀ b ∈ t.fw.inFlight, b.id ≠ i) ∧
      (∀ addr data, a.write = some (addr, data) → a.read = none → t.ddr = memPut s.ddr addr data) ∧
      (∀ addr len, a.read = some (addr, len) → a.write = none → t.ddr = s.ddr ∧ Output.apertureRead a.pod (ddrRead s addr len) ∈ t.out)) ∧
  (∀ (s : State) (c : Caller) (req : Bytes), mayStart s c 0x0F03 [.pod (rd req 0 1)] = true → shaped req 24 [(3, 5)] = true → c.pod = 0 →
    1 ≤ rd req 0 1 → rd req 0 1 ≤ 64 → rd req 1 1 ≤ 7 → 1 ≤ rd req 2 1 → rd req 2 1 ≤ 3 → rd req 8 8 % 2 ^ 21 = 0 →
    rd req 16 8 % 2 ^ 21 = 0 → rd req 16 8 ≠ 0 → rd req 16 8 ≤ 2 ^ 29 → rd req 8 8 + rd req 16 8 ≤ reservedFrom s.part → oldAccesses s = 0 →
    windowConflict s (rd req 0 1) (rd req 8 8) (rd req 16 8) = false →
    let win : Window := { base := rd req 8 8, size := rd req 16 8, read := bit (rd req 2 1) 0, write := bit (rd req 2 1) 1 }
    exec (.podWindow c req) s = Answers c 0x0F03 req St.pending (leBytes 2 St.pending.toNat ++ zeros 2 ++ leBytes 4 (s.fw.epoch + 1).toNat)
      { updPod (rd req 0 1) (fun p => { p with windows := tset p.windows (rd req 1 1) win }) s with fw.epoch := s.fw.epoch + 1 }) ∧
  (∀ (s : State) (c : Caller) (req : Bytes), mayStart s c 0x0F02 [.port (rd req 0 2), .pod (rd req 2 1)] = true →
    shaped req 8 [(3, 5)] = true → c.pod = 0 → rd req 0 2 < s.part.ports → rd req 2 1 ≤ 64 → isOpen s (rd req 0 2) = false →
    ∃ t, exec (.podAssign c req) s = .next t ∧ portOwner t (rd req 0 2) = rd req 2 1 ∧ (∀ p, p ≠ rd req 0 2 → portOwner t p = portOwner s p) ∧
      (∀ k < 4, (chain t (4 * rd req 0 2 + k)).cfg = {}) ∧ (∀ m, 4 * rd req 0 2 + 4 ≤ m → chain t m = chain s m))

/-- A device reset closes every window, zeroes EPOCH and returns every resource to pod 0; a pod reset and a firmware restart keep windows and ports. (R481.) -/
def Obligations.OwnershipAcrossResets : Prop :=
  (∀ (c : BitVec 4) (s t : State), DeviceReset c s t →
    (∀ p w, (window t p w).isOpen = false) ∧ t.fw.epoch = 0 ∧ (∀ q, portOwner t q = 0) ∧ t.own = {} ∧ t.eps = [] ∧ t.chk = [] ∧
    (∀ n, pod t n = {}) ∧ (∀ n, n ≠ 0 → podStatusValue t n = 0)) ∧
  (∀ (s : State) (rails dur : Nat), s.pwr.phase ≠ .resetPhase → 1000 ≤ dur →
    (∃ t, exec (.sysResetNLow dur) s = .next t ∧ DeviceReset 2 s t ∧ ∀ n, tget {} t.mgmt.credits n = { urgent := 2, normal := 8, bulk := 16 }) ∧
    (rails % 16 ≠ 0 → ∃ t, exec (.brownOut rails dur) s = .next t ∧ DeviceReset 3 s t)) ∧
  (∀ (s : State), Running s → s.host.linkUp = true → ∃ t, exec .pf0FunctionLevelReset s = .next t ∧ DeviceReset 4 s t) ∧
  (∀ (s t : State) (i : Instr),
    (i = .watchdogExpiry ∨ i = .processorFault ∨ i = .firmwareRestartComplete ∨ (∃ n, i = .vfFunctionLevelReset n) ∨
      (∃ n, i = .podResetComplete n) ∨ (∃ c req, i = .podReset c req)) →
    exec i s = .next t → t.own = s.own ∧ ∀ p w, window t p w = window s p w)

/-- A journaled write commits to its target and slot; the lifecycle advances by one; keys are installed, agreed and cleared; fuses only blow. (R326, R482, R483, R485, R490, R491, R492, R493, R497, R503.) -/
def Obligations.WritesCommitAndKeysInstall : Prop :=
  (∀ (s : State) (w : JWrite) (rest : List JWrite), Running s → s.mram.journal = w :: rest →
    (∀ i r, w.target = .keyRecord i r → ∃ t, exec .journaledWriteCommit s = .next t ∧ t.mram.journal = rest ∧
      (t.mram.records.find? (fun e => e.1 == i)).map (·.2) = r ∧
      (∀ p k key, p ≤ 64 → k < 64 → w.slot = some (64 * p + k, key) → slotKey t p k = some key)) ∧
    (∀ es, w.target = .registry es → ∃ t, exec .journaledWriteCommit s = .next t ∧ t.mram.journal = rest ∧ t.mram.registry = es) ∧
    (∀ p v, w.target = .ceiling p v → ∃ t, exec .journaledWriteCommit s = .next t ∧ tget 0 t.mram.ceilings p = v) ∧
    (w.target = .storeGen → ∃ t, exec .journaledWriteCommit s = .next t ∧ t.mram.journal = rest ∧ t.mram.storeGen = s.mram.storeGen + 1) ∧
    (∀ n l, w.target = .lin n l → ∃ t, exec .journaledWriteCommit s = .next t ∧ t.mram.journal = rest ∧ (input t n).nextLin = some l)) ∧
  (∀ (s : State) (c : Caller) (req : Bytes), mayStart s c 0x1001 [] = true → shaped req 8 [(1, 7)] = true → c.pod = 0 →
    rd req 0 1 = s.sec.lifecycle + 1 →
    (rd req 0 1 = 1 → exec (.secLifecycle c req) s = Answers c 0x1001 req St.ok (statusResp St.ok) 
      (newKwk { s with sec.lifecycle := 1, sec.tap := Tap.of 1 })) ∧
    (rd req 0 1 = 2 → exec (.secLifecycle c req) s = Answers c 0x1001 req St.ok (statusResp St.ok)
      { s with sec.lifecycle := 2, sec.tap := Tap.of 2 }) ∧
    (rd req 0 1 = 3 → ∃ t, exec (.secLifecycle c req) s = .next t ∧ t.sec.lifecycle = 3 ∧ t.sec.tap = Tap.of 3 ∧ t.sec.kwk = none ∧ t.cph.slots = [] ∧
      t.host.vfEnable = false ∧ t.host.numVfs = 0)) ∧
  (∀ (s : State) (c : Caller) (req : Bytes), mayStart s c 0x1002 [] = true → shaped req 8 [(2, 6)] = true → c.pod = 0 → rd req 0 1 ≤ 15 →
    s.sec.revoked ||| BitVec.ofNat 4 (rd req 0 1) ≠ 15 → bit (rd req 0 1) s.sec.runKey = false → s.sec.minSecver ≤ rd req 1 1 →
    rd req 1 1 ≤ s.sec.runSecver → rd req 1 1 ≤ 63 →
    exec (.secRevoke c req) s = Answers c 0x1002 req St.ok (statusResp St.ok)
      { s with sec.revoked := s.sec.revoked ||| BitVec.ofNat 4 (rd req 0 1), sec.minSecver := rd req 1 1 }) ∧
  (∀ (s : State) (c : Caller) (req : Bytes) (kek : Key), mayStart s c 0x1003 [.keySlot (64 * rd req 0 1)] = true →
    shaped req 48 [(1, 7)] = true → c.pod = 0 → s.sec.lifecycle = 2 → s.sec.tamper = false → 1 ≤ rd req 0 1 → rd req 0 1 ≤ 64 →
    slotKey s 0 0 = some kek →
    (Config.keyUnwrap true kek.bytes (slice req 8 40) = none →
      exec (.kekInstall c req) s = Answers c 0x1003 req St.authFailed (statusResp St.authFailed) s) ∧
    (∀ key, Config.keyUnwrap true kek.bytes (slice req 8 40) = some key → key.length = 32 →
      exec (.kekInstall c req) s = GoesOn c 0x1003 req [.keySlot (64 * rd req 0 1)] true
        (installKek (rd req 0 1) key c (statusResp St.ok) s).1)) ∧
  (∀ (s : State) (c : Caller) (req : Bytes), mayStart s c 0x1004 [.keySlot (64 * c.pod)] = true → req.length = 96 → s.sec.lifecycle = 2 →
    s.sec.tamper = false →
    (Config.validPoint req = false → exec (.kekAgree c req) s = Answers c 0x1004 req St.badParam (statusResp St.badParam) s) ∧
    (Config.validPoint req = true → ∃ t w, exec (.kekAgree c req) s = .next t ∧ w ∈ t.mram.journal ∧
      w.slot = some (64 * c.pod, { bytes := agreedKey c.pod req s.free, usage := 0 }) ∧ w.caller = some c ∧ t.free = s.free + 1)) ∧
  (∀ (s : State) (c : Caller) (req : Bytes), mayStart s c 0x1005 [.keySlot (64 * c.pod)] = true → shaped req 8 [(0, 8)] = true →
    s.sec.lifecycle = 2 → ∃ t, exec (.kekClear c req) s = .next t ∧ slotKey t c.pod 0 = none ∧
      (∀ p k, k < 64 → (p, k) ≠ (c.pod, 0) → slotKey t p k = slotKey s p k)) ∧
  (∀ (s : State) (c : Caller) (req : Bytes), mayStart s c 0x1006 [] = true → shaped req 8 [(0, 8)] = true →
    exec (.secIdentity c req) s = Answers c 0x1006 req St.ok (statusResp St.ok ++ fit 8 Config.serial ++ fit 96 Config.identityPub) s)

/-- A qualified tamper source latches, erases the key-wrapping key and the slots; the clear makes a new key; observation follows a challenge. (R323, R482, R490, R495, R496, R497, R498, R499, R501, R503.) -/
def Obligations.TamperAndObservation : Prop :=
  (∀ (s : State) (k : Nat), k < 7 → sourceOn s k = true →
    ∃ t, exec (.tamperQualify k) s = .next t ∧ t.sec.tamper = true ∧ t.sec.tamperSeen = true ∧ t.sec.kwk = none ∧
      t.sec.alarms = satAdd s.sec.alarms 1 ∧ bit t.sec.active.toNat k = true ∧
      (s.sec.tamperSeen = false → t.sec.logSource = BitVec.ofNat 4 k) ∧
      (s.sec.lifecycle ≠ 3 → s.pwr.phase = .running → t.cph.slots = []) ∧ t.sec.lifecycle = s.sec.lifecycle) ∧
  (∀ (s : State) (i r : Nat), i < 4 → bits s.sec.cfg.modes.toNat (2 * i) 2 = 3 →
    ∃ t, exec (.tamperLoopPattern i r) s = .next t ∧
      tget 0 t.sec.loopRun i = (if r = Config.freeNat s.free % 65536 then 0 else tget 0 s.sec.loopRun i + 1) ∧
      (r = Config.freeNat s.free % 65536 → t.sec.tamper = s.sec.tamper)) ∧
  (∀ (s : State) (c : Caller) (req : Bytes), mayStart s c 0x1007 [] = true → shaped req 8 [(1, 1), (6, 2)] = true → c.pod = 0 →
    (∀ k < 4, 1 ≤ rd req (2 + k) 1 ∧ rd req (2 + k) 1 ≤ 100) →
    exec (.secTamperConfigure c req) s = GoesOn c 0x1007 req [] true (journalWrite
      { target := .tamper { modes := BitVec.ofNat 8 (rd req 0 1), filters := (List.range 4).map (fun k => rd req (2 + k) 1) },
        caller := some c, status := St.ok, resp := statusResp St.ok } s)) ∧
  (∀ (s : State) (c : Caller) (req : Bytes), mayStart s c 0x1008 [] = true → shaped req 8 [(0, 8)] = true → c.pod = 0 →
    c.io.tamperActive % 128 = 0 →
    ∃ t, exec (.secTamperClear c req) s = .next t ∧ t.sec.tamper = false ∧ t.sec.active = 0 ∧
      ((s.sec.lifecycle = 1 ∨ s.sec.lifecycle = 2) → t.sec.kwk = some (s.free + 1)) ∧
      (s.sec.lifecycle ≠ 1 → s.sec.lifecycle ≠ 2 → t.sec.kwk = s.sec.kwk)) ∧
  (∀ (s : State) (c : Caller) (req : Bytes), mayStart s c 0x1009 [] = true → c.pod = 0 → s.sec.lifecycle ≠ 0 →
    (shaped req 8 [(1, 3)] = true → rd req 0 1 = 0 → exec (.secObserveChallenge c req) s =
      Answers c 0x1009 req St.ok (statusResp St.ok ++ (freshBytes 16 s).1)
        { (freshBytes 16 s).2 with sec.challenge := some ((freshBytes 16 s).1, s.now + secs 60) }) ∧
    (shaped req 104 [(1, 3)] = true → rd req 0 1 = 1 → 1 ≤ rd req 4 4 → rd req 4 4 ≤ 86400 →
      exec (.secObserveToken c req) s = if s.sec.lifecycle = 2 && !tokenOk req s then
          Answers c 0x1009 req St.tokenInvalid (statusResp St.tokenInvalid) { s with sec.challenge := none }
        else Answers c 0x1009 req St.ok (statusResp St.ok)
          (raiseSys 18 1 0 0 { s with sec.challenge := none, sec.observeUntil := some (s.now + secs (rd req 4 4)) })) ∧
    (shaped req 8 [(1, 3)] = true → rd req 0 1 = 2 → exec (.secObserveEnd c req) s =
      Answers c 0x1009 req St.ok (statusResp St.ok) { s with sec.observeUntil := none })) ∧
  (∀ (s : State) (u : Nat), s.sec.observeUntil = some u →
    exec .observeExpiry s = .next { advanceTo u s with sec.observeUntil := none })

/-- Counter writes keep the increment of their handshake, assigned counters keep their pod, and a snapshot latches every counter at its instant. (R506, R507, R508, R509, R512, R513, R523.) -/
def Obligations.CountersAndSnapshots : Prop :=
  (∀ (s : State) (n v k : Nat), n < 256 → pageOpen s 0 = true → v < 2 ^ 64 → k < 2 ^ 64 →
    (v + k < 2 ^ 64 → exec (.pmcValueWrite n v k) s = .next (setPmc n { pmc s n with value := BitVec.ofNat 64 (v + k) } s)) ∧
    (2 ^ 64 ≤ v + k →
      let u := setPmc n { pmc s n with value := BitVec.ofNat 64 (v + k), ovf := true } s
      exec (.pmcValueWrite n v k) s = .next (if (pmc s n).ovfIrq then raiseSys 21 1 n 0 u else u)) ∧
    (let c := pmc s n
     ∃ d, exec (.pmcCfgWrite n v) s = .next (setPmc n d s) ∧ d.event = BitVec.ofNat 16 (bits v 48 16) ∧ d.portEn = bit v 47 ∧
      d.port = BitVec.ofNat 7 (bits v 40 7) ∧ d.cls = BitVec.ofNat 4 (bits v 28 4) ∧ d.priv = BitVec.ofNat 2 (bits v 26 2) ∧
      d.addrEn = bit v 25 ∧ d.enable = bit v 24 ∧ d.ovfIrq = bit v 1 ∧ d.ovf = (c.ovf && !bit v 0) ∧ d.value = c.value ∧
      d.assigned = c.assigned ∧ d.limit4k = c.limit4k ∧ d.base4k = c.base4k ∧ d.invalid = pmcInvalid d ∧
      (c.assigned ≠ 0 → d.podEn = c.podEn ∧ d.pod = c.pod) ∧
      (c.assigned = 0 → d.podEn = bit v 39 ∧ d.pod = BitVec.ofNat 7 (bits v 32 7)))) ∧
  (∀ (s : State), pageOpen s 0 = true →
    (s.obs.snapPending.isSome = true → exec .snapshotArm s = .next s) ∧
    (s.obs.snapPending = none →
      let soon := tmbNow s + BitVec.ofNat 64 (usTime 2)
      exec .snapshotArm s = .next
        { s with obs.snapPending := some (if serialNewer 64 soon.toNat s.obs.snapTime.toNat then soon else s.obs.snapTime) })) ∧
  (∀ (s : State) (t : Word), s.obs.snapPending = some t → ∃ u, exec .snapshotLatch s = .next (raiseSys 22 1 0 0 u) ∧
    u.now = max s.now (sampleOf s.tmb t.toNat) ∧ u.obs.snapAt = t ∧ u.obs.snapSeq = s.obs.snapSeq + 1 ∧ u.obs.snapDone = true ∧
    u.obs.snapPending = none ∧ u.obs.shadowFixed = s.obs.fixed ∧
    u.obs.shadowCtr = s.obs.ctrs.map (fun e => (e.1, e.2.value)) ∧ u.obs.shadowLbfDevice = lbfDeviceCounts s ∧
    (∀ p, p < s.part.ports → tget 0 u.obs.shadowLbfPort p = lbfPortCounts s p) ∧
    u.obs.fixed = s.obs.fixed ∧ u.obs.ctrs = s.obs.ctrs ∧ u.lbf = s.lbf) ∧
  (∀ (s : State) (c : Caller) (req : Bytes), mayStart s c 0x1101 [] = true → shaped req 8 [(6, 2)] = true → c.pod = 0 →
    1 ≤ rd req 1 1 → rd req 1 1 ≤ 64 → rd req 2 1 ≤ 15 → rd req 0 1 = 0 → rd req 4 2 < 256 →
    (rd req 3 1 = 0 → s.obs.slots.find? (fun e => e.1 == 16 * rd req 1 1 + rd req 2 1) = none → (pmc s (rd req 4 2)).assigned = 0 →
      exec (.pmcAssign c req) s = Answers c 0x1101 req St.ok (statusResp St.ok)
        (let x : Pmc := { pmc s (rd req 4 2) with event := 0, value := 0, assigned := BitVec.ofNat 8 (rd req 1 1) }
         let u := setPmc (rd req 4 2) { x with invalid := pmcInvalid x } s
         { u with obs.slots := tset u.obs.slots (16 * rd req 1 1 + rd req 2 1) ⟨false, rd req 4 2⟩ })) ∧
    (rd req 3 1 = 1 → ∃ u, exec (.pmcAssign c req) s = Answers c 0x1101 req St.ok (statusResp St.ok) u ∧
      u.obs.slots = tdel s.obs.slots (16 * rd req 1 1 + rd req 2 1))) ∧
  (∀ (s : State) (c : Caller) (req : Bytes), mayStart s c 0x1102 [] = true → shaped req 32 [(10, 6)] = true → c.pod = 0 →
    rd req 0 2 < 256 → rd req 2 1 ≤ 7 → rd req 3 1 ≤ 15 → rd req 4 2 < 0x14 → (rd req 6 2 < s.part.ports ∨ rd req 6 2 = 0xFFFF) →
    (rd req 8 1 ≤ 64 ∨ rd req 8 1 = 0xFF) → rd req 9 1 ≤ 3 →
    (rd req 16 4 = 0xFFFFFFFF ∨ (rd req 16 4 < 2 ^ 24 ∧ rd req 20 4 < 2 ^ 24)) →
    let x := pmcOf req (pmc s (rd req 0 2))
    x.event = BitVec.ofNat 16 (rd req 4 2) ∧ x.enable = bit (rd req 2 1) 0 ∧ x.cls = BitVec.ofNat 4 (rd req 3 1) ∧
    (bit (rd req 2 1) 2 = false → x.value = (pmc s (rd req 0 2)).value) ∧
    (bit (rd req 2 1) 2 = true → x.value = BitVec.ofNat 64 (rd req 24 8)) ∧
    (x.invalid = false → exec (.pmcConfigure c req) s = Answers c 0x1102 req St.ok (statusResp St.ok) (setPmc (rd req 0 2) x s)) ∧
    (x.invalid = true → exec (.pmcConfigure c req) s = Answers c 0x1102 req St.filterInvalid (statusResp St.filterInvalid) s))

/-- Trace records enter the ring while it has room and are counted lost after; sync words follow every 512; trace commands set and read the sinks. (R514, R517, R518, R519, R520, R521, R523.) -/
def Obligations.TraceAndTags : Prop :=
  (∀ (s : State),
    let u := { s with now := max s.now (sampleOf s.tmb ((tmbNow s).toNat / 2 ^ 32 * 2 ^ 32 + 2 ^ 32)) }
    let r : TraceRec := ⟨[traceHeader u s.obs.ddrSink.seq.toNat 1 6, tmbNow u]⟩
    (s.obs.ddrMode = 0 → s.obs.portRate = 0 → exec .traceTimeRecord s = .next s) ∧
    (s.obs.ddrMode = 2 → s.obs.portRate = 0 →
      (s.obs.trcFull = false → s.obs.ddrSink.lossCount = 0 → ringBytes s.obs.ring + 16 ≤ 2 ^ s.obs.ddrM * 2 ^ 20 →
        exec .traceTimeRecord s = .next { u with obs.ring := s.obs.ring ++ [r], obs.ddrSink.seq := s.obs.ddrSink.seq + 1 }) ∧
      (2 ^ s.obs.ddrM * 2 ^ 20 < ringBytes s.obs.ring + 16 →
        ∃ t, exec .traceTimeRecord s = .next t ∧ t.now = u.now ∧ t.obs.ring = s.obs.ring ∧ t.obs.trcFull = true ∧ t.obs.trcLostSeen = true ∧
          t.obs.trcLost = satAdd s.obs.trcLost 1 ∧ t.obs.ddrSink.lossCount = s.obs.ddrSink.lossCount + 1)) ∧
    (s.obs.portRate ≠ 0 → ∃ t, exec .traceSyncWord s = .next t ∧ t.out = s.out ++ [.tracePort [0x5A5A5A5A000000FE]] ∧
      t.obs.portWords = s.obs.portWords - 512 ∧ (512 ≤ s.obs.portWords → t.now = s.now) ∧ t.obs.portSink = s.obs.portSink ∧
      t.obs.ring = s.obs.ring)) ∧
  (∀ (s : State) (c : Caller) (req : Bytes), c.pod = 0 →
    (mayStart s c 0x1103 [] = true → shaped req 8 [(6, 2)] = true → (rd req 0 2 < s.part.ports ∨ rd req 0 2 = 0xFFFF) →
      rd req 2 1 ≤ 15 → rd req 3 1 ≤ 20 → rd req 4 1 ≤ 24 → rd req 5 1 ≤ 1 →
      ∃ u, exec (.tagConfigure c req) s = Answers c 0x1103 req St.ok (statusResp St.ok) u ∧ u.obs.tags = s.obs.tags ∧
        ∀ p, p < s.part.ports → tget {} u.obs.tagCfg p =
          if rd req 0 2 = 0xFFFF ∨ rd req 0 2 = p then
            { kinds := BitVec.ofNat 4 (rd req 2 1), kf := rd req 3 1, ks := rd req 4 1, enable := rd req 5 1 == 1 }
          else tget {} s.obs.tagCfg p) ∧
    (mayStart s c 0x1104 [] = true → shaped req 8 [(5, 3)] = true → rd req 0 1 ≤ 15 → bit (rd req 0 1) 2 = false → rd req 1 1 ≤ 15 →
      rd req 2 1 ≤ 2 → rd req 3 1 ≤ 8 → rd req 4 1 ≤ 3 →
      ∃ u, exec (.trcConfigure c req) s = Answers c 0x1104 req St.ok (statusResp St.ok) u ∧
        u.obs.ddrSink.sources = BitVec.ofNat 4 (rd req 0 1) ∧ u.obs.ddrMode = BitVec.ofNat 2 (rd req 2 1) ∧ u.obs.ddrM = rd req 3 1 ∧
        u.obs.portRate = rd req 4 1 ∧
        u.obs.portSink.sources = (if s.sec.observeUntil.isSome ∨ s.sec.lifecycle = 0 then BitVec.ofNat 4 (rd req 1 1)
          else BitVec.ofNat 4 (rd req 1 1) &&& 0xB) ∧
        (rd req 2 1 = 0 → u.obs.ring = if rd req 3 1 = s.obs.ddrM ∧ s.obs.ddrMode = 0 then s.obs.ring else []) ∧
        (rd req 2 1 ≠ 0 → s.obs.ddrMode = 0 → s.obs.ddrSink.lossCount = 0 →
          u.obs.ring = [⟨[traceHeader s s.obs.ddrSink.seq.toNat 1 6, tmbNow s]⟩])) ∧
    (mayStart s c 0x1105 [] = true → shaped req 8 [(0, 8)] = true →
      let rs := fitting (c.respMax - 8) s.obs.ring
      let data := (rs.flatMap (·.words)).flatMap (fun w => leBytes 8 w.toNat)
      ∃ u, exec (.trcRead c req) s = Answers c 0x1105 req St.ok (leBytes 2 St.ok.toNat ++ zeros 2 ++ leBytes 4 data.length ++ data) u ∧
        s.obs.ring = rs ++ u.obs.ring ∧ (rs.map traceBytes).sum ≤ c.respMax - 8 ∧
        u = { s with obs.ring := u.obs.ring, obs.trcFull := u.obs.trcFull }))

/-- An issued record reaches firmware and its pending bit whatever the routing; a routed one is written, dropped at a full ring, or faults it; windows coalesce. (R552, R553, R554, R555, R557, R558.) -/
def Obligations.EventsAreIssued : Prop :=
  (∀ (s : State) (src c a0 a1 : Nat), s.pwr.phase ≠ .running ∨ causeOk src c = false → exec (.eventRecordIssue src c a0 a1) s = .next s) ∧
  (∀ (s : State) (src c a0 a1 : Nat), Running s → causeOk src c = true → sourceExists s src = true →
    let r : EventRec := ⟨tmbNow s, src, c, quality s, 1, sourceOwner s src, a0 % 2 ^ 64, a1 % 2 ^ 64⟩
    let cfg := evtCfg s src
    let fn := cfg.pod.toNat
    let g := evtRing s fn
    (openWindow s src c ≠ none → exec (.eventRecordIssue src c a0 a1) s = .next (accumulate r s)) ∧
    (openWindow s src c = none →
      (∃ t, exec (.eventRecordIssue src c a0 a1) s = .next t ∧ .eventCopy r ∈ t.out ∧
        bit (tget 0 t.evt.pending (src / 64)).toNat (src % 64) = true ∧ t.evt.cfg = s.evt.cfg) ∧
      ((cfg.enable = false ∨ bit cfg.causeMask.toNat (c - 1) = false) →
        ∃ t, exec (.eventRecordIssue src c a0 a1) s = .next t ∧ t.evt.rings = s.evt.rings ∧
          t.evt.windows = s.evt.windows ++
            (if cfg.coalesceUs = 0 then [] else [{ source := src, cause := c, ends := s.now + us cfg.coalesceUs.toNat, acc := none }])) ∧
      (cfg.enable = true → bit cfg.causeMask.toNat (c - 1) = true →
        ((g.enable = false ∨ g.fault = true ∨ 2 ^ g.sizeLog2.toNat ≤ (g.prod - g.cons).toNat) →
          ∃ t, exec (.eventRecordIssue src c a0 a1) s = .next t ∧
            evtRing t fn = { g with lost := satAdd g.lost 1, lostSeen := true, dropped := true }) ∧
        (g.enable = true → g.fault = false → (g.prod - g.cons).toNat < 2 ^ g.sizeLog2.toNat →
          (hostOk s fn = true → s.obs.ctrs = [] → ∃ t, exec (.eventRecordIssue src c a0 a1) s = .next t ∧
            evtRing t fn = { g with prod := g.prod + 1, dropped := false } ∧
            .hostWrite fn (g.base.toNat * 4096 + 32 * (g.prod.toNat % 2 ^ g.sizeLog2.toNat))
              (evtBytes r (quality s + if g.dropped then 4 else 0)) ∈ t.out) ∧
          (hostOk s fn = false → ∃ t, exec (.eventRecordIssue src c a0 a1) s = .next t ∧ (evtRing t fn).fault = true ∧
            (evtRing t fn).prod = g.prod))))) ∧
  (∀ (s : State) (src c : Nat) (w : EvtWindow),
    (openWindow s src c = none → exec (.coalesceWindowClose src c) s = .next s) ∧
    (openWindow s src c = some w →
      (w.acc = none → exec (.coalesceWindowClose src c) s = .next
        { s with
            now := max s.now w.ends
            evt.windows := s.evt.windows.filter (fun x => !(x.source == src && x.cause == c)) }) ∧
      (∀ r n, w.acc = some (r, n) → ∃ t, exec (.coalesceWindowClose src c) s = .next t ∧ t.now = max s.now w.ends ∧
        .eventCopy { r with count := n, flags := r.flags + 8 } ∈ t.out)))

/-- A source takes only a route its destination owns, event rings enable only with legal sizes, masked and deferred messages are sent when they may be. (R463, R554, R555, R556, R557, R559, R560, R563.) -/
def Obligations.EventRoutingAndVectors : Prop :=
  (∀ (s : State) (i v : Nat), i < 1536 → pageOpen s 0 = true →
    (sourceExists s i = false → exec (.evtSrcCfgWrite i v) s = .next s) ∧
    (sourceExists s i = true →
      let p := bits v 56 7
      let ok := decide (9 ≤ bits v 46 10) && (p == 0 || (decide (p ≤ 64) && fnExists s p && sourceOwner s i == p && decide (bits v 46 10 ≤ 15)))
      (ok = true → ∃ t, exec (.evtSrcCfgWrite i v) s = .next t ∧ evtCfg t i =
        { enable := bit v 63, pod := BitVec.ofNat 7 p, vector := BitVec.ofNat 10 (bits v 46 10),
          coalesceUs := BitVec.ofNat 16 (bits v 16 16), causeMask := BitVec.ofNat 8 (bits v 0 8) } ∧
        (i < 1408 → ∀ c, openWindow t i c = none)) ∧
      (ok = false → exec (.evtSrcCfgWrite i v) s = .next (raiseSys 0 3 0 (0x140000 + 8 * i) s)))) ∧
  (∀ (s : State) (c : Caller) (req : Bytes), mayStart s c 0x1301 [] = true → shaped req 8 [(7, 1)] = true →
    sourceExists s (rd req 0 2) = true → rd req 2 1 ≤ 1 → 9 ≤ rd req 3 1 →
    ((c.pod = 0 ∨ (rd req 3 1 ≤ 15 ∧ sourceOwner s (rd req 0 2) = c.pod)) →
      ∃ u, exec (.evtRoute c req) s = Answers c 0x1301 req St.ok (statusResp St.ok) u ∧ evtCfg u (rd req 0 2) =
        { enable := bit (rd req 2 1) 0, pod := BitVec.ofNat 7 c.pod, vector := BitVec.ofNat 10 (rd req 3 1),
          coalesceUs := BitVec.ofNat 16 (rd req 4 2), causeMask := BitVec.ofNat 8 (rd req 6 1) }) ∧
    (c.pod ≠ 0 → rd req 3 1 ≤ 15 → sourceOwner s (rd req 0 2) ≠ c.pod →
      exec (.evtRoute c req) s = Answers c 0x1301 req St.denied (statusResp St.denied) s) ∧
    (c.pod ≠ 0 → 15 < rd req 3 1 → exec (.evtRoute c req) s = Answers c 0x1301 req St.badParam (statusResp St.badParam) s)) ∧
  (∀ (s : State) (fn : Nat), fn ≤ 64 → pageOpen s fn = true →
    let g := evtRing s fn
    let put := fun (x : EvtRing) => { s with evt.rings := tset s.evt.rings fn x }
    exec (.evtRingEnable fn false) s = .next (put { g with enable := false }) ∧
    (7 ≤ g.sizeLog2.toNat ∧ g.sizeLog2.toNat ≤ 16 → exec (.evtRingEnable fn true) s = .next (put { g with enable := true })) ∧
    (g.sizeLog2.toNat < 7 ∨ 16 < g.sizeLog2.toNat →
      exec (.evtRingEnable fn true) s = .next (put { g with enable := false, fault := true })) ∧
    exec (.evtRingFaultClear fn) s = .next (put { g with fault := false })) ∧
  (∀ (s : State) (fn v : Nat), fn ≤ 64 → v < (if fn = 0 then 1024 else 16) → pageOpen s fn = true →
    let k := 1024 * fn + v
    let e : MsixEntry := { msixEntry s fn v with ctrl := (msixEntry s fn v).ctrl &&& 0xFFFFFFFE }
    let u := { s with host.msix := tset s.host.msix k e, host.msixPending := s.host.msixPending.filter (· != k) }
    (s.host.msixPending.contains k = true → hostOk s fn = true →
      exec (.msixVectorUnmask fn v) s = .next { u with out := s.out ++ [.msix fn v] }) ∧
    (s.host.msixPending.contains k = false → exec (.msixVectorUnmask fn v) s = .next u)) ∧
  (∀ (s : State) (fn a : Nat), hostOk s fn = true →
    let d := tget {} s.host.deferral fn
    (d.admitAt = some a → d.admitDue = true → bit (msixEntry s fn 7).ctrl.toNat 0 = false →
      let t := max s.now (a + us 100)
      (podBlocked { s with now := t } fn = true → exec (.admitVectorDeferred fn) s = .next
        { s with
            now := t
            host.deferral := tset s.host.deferral fn { d with admitDue := false, admitAt := some t }
            out := s.out ++ [.msix fn 7] }) ∧
      (podBlocked { s with now := t } fn = false → exec (.admitVectorDeferred fn) s = .next
        { s with
            now := t
            host.deferral := tset s.host.deferral fn { d with admitDue := false } })) ∧
    (d.deliverAt = some a → d.deliverDue = true → bit (msixEntry s fn 8).ctrl.toNat 0 = false →
      let t := max s.now (a + us 50)
      exec (.deliveryVectorDeferred fn) s = .next
        { s with
            now := t
            host.deferral := tset s.host.deferral fn { d with deliverDue := false, deliverAt := some t }
            out := s.out ++ [.msix fn 8] }))

/-- EVT_PENDING shows each source that has issued a record since the last clear, delivered, masked or dropped; only written 1s clear it. (R558.) -/
def Obligations.PendingBitsRecordIssues : Prop :=
  (∀ (w : Nat), w < 24 → regValue State.reset (.evtPending w) = 0 ∧ ∀ s, regAt s 0 (0x144000 + 8 * w) = some (.evtPending w)) ∧
  (∀ (s : State) (w v : Nat), w < 24 → pageOpen s 0 = true → v < 2 ^ 64 →
    (∃ t, exec (.readClear 0 (0x144000 + 8 * w) 64) s = .next t ∧ t.evt = s.evt ∧
      t.out = s.out ++ [.regRead 0 (0x144000 + 8 * w) (tget 0 s.evt.pending w).toNat]) ∧
    (∃ t, exec (.registerWrite 0 (0x144000 + 8 * w) 64 v) s = .next t ∧
      (∀ b, b < 64 → bit (tget 0 t.evt.pending w).toNat b = (bit (tget 0 s.evt.pending w).toNat b && !bit v b)) ∧
      (∀ x, x ≠ w → tget 0 t.evt.pending x = tget 0 s.evt.pending x))) ∧
  (∀ (s : State) (src c a0 a1 : Nat), Running s → causeOk src c = true → sourceExists s src = true → openWindow s src c = none →
    ∃ t, exec (.eventRecordIssue src c a0 a1) s = .next t ∧ bit (tget 0 t.evt.pending (src / 64)).toNat (src % 64) = true ∧
      ((evtCfg s src).enable = false →
        ∀ w b, b < 64 → (w ≠ src / 64 ∨ b ≠ src % 64) → bit (tget 0 t.evt.pending w).toNat b = bit (tget 0 s.evt.pending w).toNat b))

/-- The access checks come first and raise system event 0; a good access reads the value and clears RC fields, or writes by the fields' codes. (R2, R9, R10, R12, R472, R521, R532, R551, R561, R562.) -/
def Obligations.RegisterAccess : Prop :=
  (∀ (s : State) (fn off : Nat), fn ≤ 64 → pageOpen s fn = true → off < (if fn = 0 then 0x200000 else 0x10000) →
    isMsix (regAt s fn off) = false →
    (∀ size v, ¬ (size = 32 ∧ off % 4 = 0) → ¬ (size = 64 ∧ off % 8 = 0) →
      exec (.readClear fn off size) s = .next (emit (.regRead fn off 0) (raiseSys 0 4 fn off s)) ∧
      exec (.registerWrite fn off size v) s = .next (raiseSys 0 4 fn off s)) ∧
    (∀ v, off % 4 = 0 → exec (.registerWrite fn off 32 v) s = .next (raiseSys 0 1 fn off s)) ∧
    (off % 8 = 0 → regAt s fn off = none → ∀ v,
      exec (.readClear fn off 64) s = .next (emit (.regRead fn off 0) (raiseSys 0 2 fn off s)) ∧
      exec (.registerWrite fn off 64 v) s = .next (raiseSys 0 2 fn off s)) ∧
    (∀ r v, off % 8 = 0 → regAt s fn off = some r →
      (regPresent s r = false → exec (.readClear fn off 64) s = .next (emit (.regRead fn off 0) s) ∧
        exec (.registerWrite fn off 64 v) s = .next s) ∧
      (regPresent s r = true →
        (∃ t, exec (.readClear fn off 64) s = .next t ∧ t.out = s.out ++ [.regRead fn off (regValue s r).toNat] ∧ t.evt.windows = s.evt.windows ∧
          t.ddr = s.ddr ∧ t.now = s.now) ∧
        exec (.registerWrite fn off 64 v) s = .next (writeReg r (v % 2 ^ 64) s)))) ∧
  (∀ (s : State) (fn off v : Nat), 1 ≤ fn → fn ≤ 64 → answers s fn = true → (pod s fn).resetting = true → off < 0x10000 → off % 8 = 0 →
    regAt s fn off ≠ some (.podStatus fn) →
    exec (.readClear fn off 64) s = .next (emit (.regRead fn off 0) s) ∧ exec (.registerWrite fn off 64 v) s = .next s) ∧
  (∀ (s : State) (v : Nat), pageOpen s 0 = true → v < 2 ^ 64 →
    exec (.registerWrite 0 0x30 64 v) s = .next
      { s with
          pwr.pcieResetSeen := s.pwr.pcieResetSeen && !bit v 2
          pwr.brownoutSeen := s.pwr.brownoutSeen && !bit v 1
          pwr.resetSeen := s.pwr.resetSeen && !bit v 0 } ∧
    exec (.readClear 0 0x1C0000 64) s = .next
      { s with
          obs.trcLost := 0
          out := s.out ++ [.regRead 0 0x1C0000 (trcValue s.obs).toNat] } ∧
    exec (.readClear 0 0x1C0000 32) s = .next (emit (.regRead 0 0x1C0000 ((trcValue s.obs).toNat % 2 ^ 32)) s) ∧
    exec (.registerWrite 0 0x145008 64 v) s = .next
      { s with evt.rings := tset s.evt.rings 0 { evtRing s 0 with cons := BitVec.ofNat 32 (v / 2 ^ 32) } })

/-- A step runs the command at the front of the queue on the queue's rest; on an empty queue one 2 ns tick passes (the model's choice, log 2). (00_scope.md, 95_what_each_step_holds.md.) -/
def Obligations.StepRunsTheFrontCommand : Prop :=
  (∀ (s : State) (c : Instr) (rest : List Instr), s.pending = c :: rest → step s = exec c { s with pending := rest }) ∧
  (∀ (s : State), s.pending = [] → step s = .next { s with now := s.now + 1 })

/-- State.reset holds the reset values that the registers' tables give, and meets the invariant that every step keeps. (R50, R277, R285, R332, R333, R374, R436, R437, R508, R532, R557, R559.) -/
def Obligations.ResetValues : Prop :=
  (let s := State.reset
   s.pending = [] ∧ s.ddr = [] ∧ s.out = [] ∧ s.pwr.phase = .resetPhase ∧ regValue s (.sys 6) = 0x0000100000000000 ∧
   s.mgmt.fwState = .booting ∧ s.mgmt.ready = false ∧ regValue s (.sys 2) = 0 ∧
   (∀ p l k, k < 5 → regValue s (.mbx p l k) = 0) ∧ (∀ n, regValue s (.evtSource n) = 0x00024000000000FF) ∧
   (∀ r ∈ ([.sys 2, .sys 3, .sys 4, .sys 5, .standbyStatus, .fwStatus, .podFwStatus, .denyLog, .entropy, .lbfDevice, .parityLog, .tsi,
      .compliance, .die, .fixOvf, .trcStatus, .tmb 1 true, .tmb 2 true, .tmb 3 true, .tmb 4 true, .tmb 5 true] : List Reg), regValue s r = 0) ∧
   regValue s .avsStatus = 0x04000000 ∧ (∀ n, regValue s (.paceTile n) = 0) ∧ (∀ n, regValue s (.mbxCredits n) = 0x100802) ∧
   (∀ n, n ≠ 0 → regValue s (.admitStatus n) = 0x200000000000) ∧ (∀ p, regValue s (.lbfPort p) = 0x1C000000000) ∧
   (∀ q, regValue s (.lbfQueue q) = 0) ∧ (∀ n r k, k < 5 → regValue s (.cph n r k) = 0) ∧
   (∀ c k, k < 8 → regValue s (.ctx c k) = [0x7C0100000000, 0x04C11DB7, 0xFFFFFFFF, 0xFFFFFFFF, 0, 0, 0, 0].getD k 0) ∧
   (∀ n k, k < 7 → regValue s (.trk n k) = 0) ∧ (∀ n k, k < 3 → regValue s (.evtRing n k) = 0) ∧ (∀ n, regValue s (.counter n 1) = 0x00000000FC000000) ∧
   (∀ n, regValue s (.counter n 0) = 0) ∧ (∀ k, k < 3 → regValue s (.snap k) = 0) ∧ regValue s .trcStatus = 0 ∧
   (∀ w, regValue s (.evtPending w) = 0) ∧ s.tmb.valid = false ∧ s.tmb.selected = .none ∧ s.sec.tamper = false ∧ s.sec.kwk = none ∧
   s.ports = [] ∧ s.eps = [] ∧ s.nbrs = []) ∧
  State.Inv State.reset

/-- Every step keeps DDR in its canonical form, the lifecycle at one of its four states, and the JTAG port as that lifecycle has it. (R483, R484, R485, R467, R468.) -/
def Obligations.StepKeepsInvariant : Prop :=
  ∀ (s t : State), s.Inv → step s = .next t → t.Inv

/-- No command takes a fuse back: the lifecycle never returns, a revoked image key stays revoked, the minimum security version never falls. (R483, R485, R498, R503.) -/
def Obligations.FusesOnlyBlow : Prop :=
  ∀ (i : Instr) (s t : State), exec i s = .next t → FusesKept s t ∧ t.part = s.part ∧ t.pending = s.pending

/-- A command faults exactly when it names a resource the part does not have, none is refused, and a queue of well-formed commands runs without a stop. (R1, R2, 95_what_each_step_holds.md.) -/
def Obligations.SafeRunsNeverStop : Prop :=
  (∀ (i : Instr) (s : State), (i.wellFormed s.part = false → exec i s = .fault .absentResource) ∧
    (i.wellFormed s.part = true → ∃ t, exec i s = .next t)) ∧
  (∀ (s : State), s.safe → ∃ t, step s = .next t ∧ t.safe)

/-- DDR changes only by a retiring checked access, a check-value copy, a pod reset's scrub and a device reset; every other command leaves every byte. (R342, R467, R468, R469, R472, R529, R534.) -/
def Obligations.DdrOnlyByItsWriters : Prop :=
  ∀ (i : Instr) (s t : State), exec i s = .next t →
    (match i with
      | .checkedAccessRetire .. => True
      | .chkDmaComplete .. => True
      | .podResetComplete .. => True
      | .powerOn .. => True
      | .sysResetNLow .. => True
      | .brownOut .. => True
      | .pf0FunctionLevelReset => True
      | .standbyEntry => True
      | .wakeFrame .. => True
      | .wakeInNLow .. => True
      | .wakeTimer => True
      | .trunkFrameTransmit .. => s.pwr.sysResetFrame = none → DdrSame s t
      | .sysReset .. => True
      | .mirrorRecordReceive .. => True
      | .mbxDescriptorTake .. => True
      | .commandWaitEnd .. => True
      | _ => DdrSame s t)

/-- A byte of DDR reads what was last put at its address, and a write leaves every other address alone and the form canonical. (R467, R468.) -/
def Obligations.DdrReadsWhatWasWritten : Prop :=
  (∀ (m : List Host.Cell) (a : Nat) (b : Byte), Memory.wf m = true →
    Memory.wf (memSet m a b) = true ∧ memGet (memSet m a b) a = b ∧ ∀ c, c ≠ a → memGet (memSet m a b) c = memGet m c) ∧
  (∀ (s : State) (a : Nat) (bs : Bytes), Memory.wf s.ddr = true →
    ddrRead (ddrWrite a bs s) a bs.length = bs ∧ Memory.wf (ddrWrite a bs s).ddr = true ∧
    ∀ c, c < a ∨ a + bs.length ≤ c → memGet (ddrWrite a bs s).ddr c = memGet s.ddr c) ∧
  (∀ (m n : List Host.Cell), Memory.wf m = true → Memory.wf n = true → (∀ a, memGet m a = memGet n a) → m = n)
end

