-- ==== Sys2Proof/Laws/Exec.lean ====
section
/-! SUPPORT. exec at each command: its arm's meaning. -/

namespace Sys2Proof.Machine

@[simp] theorem exec_powerOn (dur : Nat) (s : State) : exec (.powerOn dur) s = execPowerOn dur s := rfl
@[simp] theorem exec_sysResetNLow (dur : Nat) (s : State) : exec (.sysResetNLow dur) s = execSysResetNLow dur s := rfl
@[simp] theorem exec_brownOut (rails : Nat) (dur : Nat) (s : State) : exec (.brownOut rails dur) s = execBrownOut rails dur s := rfl
@[simp] theorem exec_pf0FunctionLevelReset (s : State) : exec (.pf0FunctionLevelReset) s = execPf0FunctionLevelReset s := rfl
@[simp] theorem exec_resetRelease (refclk25 : Bool) (boot : BootView) (s : State) : exec (.resetRelease refclk25 boot) s = execResetRelease refclk25 boot s := rfl
@[simp] theorem exec_pcieInterfaceReset (kind : PcieReset) (s : State) : exec (.pcieInterfaceReset kind) s = execPcieInterfaceReset kind s := rfl
@[simp] theorem exec_pcieLinkUp (s : State) : exec (.pcieLinkUp) s = execPcieLinkUp s := rfl
@[simp] theorem exec_vfFunctionLevelReset (n : Nat) (s : State) : exec (.vfFunctionLevelReset n) s = execVfFunctionLevelReset n s := rfl
@[simp] theorem exec_vfDisable (numVfs : Nat) (s : State) : exec (.vfDisable numVfs) s = execVfDisable numVfs s := rfl
@[simp] theorem exec_podResetComplete (pod : Nat) (s : State) : exec (.podResetComplete pod) s = execPodResetComplete pod s := rfl
@[simp] theorem exec_standbyEntry (s : State) : exec (.standbyEntry) s = execStandbyEntry s := rfl
@[simp] theorem exec_chiveBeacon (port : Nat) (s : State) : exec (.chiveBeacon port) s = execChiveBeacon port s := rfl
@[simp] theorem exec_wakeFrame (port : Nat) (fc : Nat) (s : State) : exec (.wakeFrame port fc) s = execWakeFrame port fc s := rfl
@[simp] theorem exec_wakeInNLow (dur : Nat) (s : State) : exec (.wakeInNLow dur) s = execWakeInNLow dur s := rfl
@[simp] theorem exec_wakeTimer (s : State) : exec (.wakeTimer) s = execWakeTimer s := rfl
@[simp] theorem exec_standbySetApply (failed : List Nat) (s : State) : exec (.standbySetApply failed) s = execStandbySetApply failed s := rfl
@[simp] theorem exec_pcieWakeRelease (s : State) : exec (.pcieWakeRelease) s = execPcieWakeRelease s := rfl
@[simp] theorem exec_paceMonitorUpdate (tile : Nat) (pace : Nat) (slack : Int) (demand : Nat) (fifoPeak : Nat) (s : State) : exec (.paceMonitorUpdate tile pace slack demand fifoPeak) s = execPaceMonitorUpdate tile pace slack demand fifoPeak s := rfl
@[simp] theorem exec_avsLoopStart (vMeas : Nat) (s : State) : exec (.avsLoopStart vMeas) s = execAvsLoopStart vMeas s := rfl
@[simp] theorem exec_avsLoopPeriod (vMeas : Nat) (s : State) : exec (.avsLoopPeriod vMeas) s = execAvsLoopPeriod vMeas s := rfl
@[simp] theorem exec_avsResponseTimeout (s : State) : exec (.avsResponseTimeout) s = execAvsResponseTimeout s := rfl
@[simp] theorem exec_avsSettleCheck (vMeas : Nat) (s : State) : exec (.avsSettleCheck vMeas) s = execAvsSettleCheck vMeas s := rfl
@[simp] theorem exec_txFifoLowWater (lane : Nat) (s : State) : exec (.txFifoLowWater lane) s = execTxFifoLowWater lane s := rfl
@[simp] theorem exec_txFifoUnderflow (short : TxShort) (s : State) : exec (.txFifoUnderflow short) s = execTxFifoUnderflow short s := rfl
@[simp] theorem exec_rxFifoOverflow (lane : Nat) (lost : Nat) (s : State) : exec (.rxFifoOverflow lane lost) s = execRxFifoOverflow lane lost s := rfl
@[simp] theorem exec_coreUndervoltage (dur : Nat) (s : State) : exec (.coreUndervoltage dur) s = execCoreUndervoltage dur s := rfl
@[simp] theorem exec_drvfltQualify (port : Nat) (s : State) : exec (.drvfltQualify port) s = execDrvfltQualify port s := rfl
@[simp] theorem exec_driverAutoRearm (port : Nat) (s : State) : exec (.driverAutoRearm port) s = execDriverAutoRearm port s := rfl
@[simp] theorem exec_txenRise (port : Nat) (s : State) : exec (.txenRise port) s = execTxenRise port s := rfl
@[simp] theorem exec_txenFall (port : Nat) (s : State) : exec (.txenFall port) s = execTxenFall port s := rfl
@[simp] theorem exec_referenceLost (s : State) : exec (.referenceLost) s = execReferenceLost s := rfl
@[simp] theorem exec_referenceReturn (s : State) : exec (.referenceReturn) s = execReferenceReturn s := rfl
@[simp] theorem exec_synthFailure (synth : Synth) (s : State) : exec (.synthFailure synth) s = execSynthFailure synth s := rfl
@[simp] theorem exec_synthAdoptionComplete (lost : Nat) (s : State) : exec (.synthAdoptionComplete lost) s = execSynthAdoptionComplete lost s := rfl
@[simp] theorem exec_calibrationStart (port : Nat) (s : State) : exec (.calibrationStart port) s = execCalibrationStart port s := rfl
@[simp] theorem exec_calibrationComplete (port : Nat) (result : CalResult) (s : State) : exec (.calibrationComplete port result) s = execCalibrationComplete port result s := rfl
@[simp] theorem exec_agcFrameGainRelease (port : Nat) (s : State) : exec (.agcFrameGainRelease port) s = execAgcFrameGainRelease port s := rfl
@[simp] theorem exec_preambleDetect (port : Nat) (leek : Bool) (seen : PreambleSeen) (s : State) : exec (.preambleDetect port leek seen) s = execPreambleDetect port leek seen s := rfl
@[simp] theorem exec_frameControlReceived (port : Nat) (fc : Nat) (s : State) : exec (.frameControlReceived port fc) s = execFrameControlReceived port fc s := rfl
@[simp] theorem exec_frameBodyDecoded (port : Nat) (body : RxBody) (s : State) : exec (.frameBodyDecoded port body) s = execFrameBodyDecoded port body s := rfl
@[simp] theorem exec_ackTransmit (port : Nat) (s : State) : exec (.ackTransmit port) s = execAckTransmit port s := rfl
@[simp] theorem exec_ackReceived (port : Nat) (fc : Nat) (start : Nat) (s : State) : exec (.ackReceived port fc start) s = execAckReceived port fc start s := rfl
@[simp] theorem exec_ackWindowClose (port : Nat) (s : State) : exec (.ackWindowClose port) s = execAckWindowClose port s := rfl
@[simp] theorem exec_prsSlot (port : Nat) (heard : Bool) (heardFrame : Bool) (s : State) : exec (.prsSlot port heard heardFrame) s = execPrsSlot port heard heardFrame s := rfl
@[simp] theorem exec_backoffSlotEnd (port : Nat) (heardS1 : Bool) (heardFrame : Bool) (s : State) : exec (.backoffSlotEnd port heardS1 heardFrame) s = execBackoffSlotEnd port heardS1 heardFrame s := rfl
@[simp] theorem exec_idleRestart (port : Nat) (s : State) : exec (.idleRestart port) s = execIdleRestart port s := rfl
@[simp] theorem exec_undecodableHoldOffEnd (port : Nat) (s : State) : exec (.undecodableHoldOffEnd port) s = execUndecodableHoldOffEnd port s := rfl
@[simp] theorem exec_frameTransmitStart (port : Nat) (units : Nat) (reads : TxReads) (s : State) : exec (.frameTransmitStart port units reads) s = execFrameTransmitStart port units reads s := rfl
@[simp] theorem exec_frameTransmitEnd (port : Nat) (s : State) : exec (.frameTransmitEnd port) s = execFrameTransmitEnd port s := rfl
@[simp] theorem exec_beaconStart (port : Nat) (s : State) : exec (.beaconStart port) s = execBeaconStart port s := rfl
@[simp] theorem exec_zeroCrossing (port : Nat) (edge : Nat) (s : State) : exec (.zeroCrossing port edge) s = execZeroCrossing port edge s := rfl
@[simp] theorem exec_mainsAcquireTimeout (port : Nat) (s : State) : exec (.mainsAcquireTimeout port) s = execMainsAcquireTimeout port s := rfl
@[simp] theorem exec_predictedCrossingMiss (port : Nat) (s : State) : exec (.predictedCrossingMiss port) s = execPredictedCrossingMiss port s := rfl
@[simp] theorem exec_slotBoundaryPrefetch (port : Nat) (ddrFail : Bool) (s : State) : exec (.slotBoundaryPrefetch port ddrFail) s = execSlotBoundaryPrefetch port ddrFail s := rfl
@[simp] theorem exec_tmMapReceived (port : Nat) (ep : Nat) (msg : Bytes) (s : State) : exec (.tmMapReceived port ep msg) s = execTmMapReceived port ep msg s := rfl
@[simp] theorem exec_tmMapAckReceived (port : Nat) (ep : Nat) (msg : Bytes) (s : State) : exec (.tmMapAckReceived port ep msg) s = execTmMapAckReceived port ep msg s := rfl
@[simp] theorem exec_tmRequestReceived (port : Nat) (ep : Nat) (msg : Bytes) (s : State) : exec (.tmRequestReceived port ep msg) s = execTmRequestReceived port ep msg s := rfl
@[simp] theorem exec_tmInvalidateReceived (port : Nat) (ep : Nat) (msg : Bytes) (s : State) : exec (.tmInvalidateReceived port ep msg) s = execTmInvalidateReceived port ep msg s := rfl
@[simp] theorem exec_tonemapPeriodicRefresh (port : Nat) (ep : Nat) (mapId : Nat) (tails : List Int) (feedback : Bytes) (s : State) : exec (.tonemapPeriodicRefresh port ep mapId tails feedback) s = execTonemapPeriodicRefresh port ep mapId tails feedback s := rfl
@[simp] theorem exec_estimateStale (port : Nat) (ep : Nat) (slot : Nat) (s : State) : exec (.estimateStale port ep slot) s = execEstimateStale port ep slot s := rfl
@[simp] theorem exec_cancellerSurveyEnd (victim : Nat) (ties : List Nat) (s : State) : exec (.cancellerSurveyEnd victim ties) s = execCancellerSurveyEnd victim ties s := rfl
@[simp] theorem exec_cancellerSymbol (victim : Nat) (aggressor : Nat) (sym : CancSymbol) (s : State) : exec (.cancellerSymbol victim aggressor sym) s = execCancellerSymbol victim aggressor sym s := rfl
@[simp] theorem exec_cancellerStateChange (victim : Nat) (aggressor : Nat) (was : Nat) (goal : Nat) (s : State) : exec (.cancellerStateChange victim aggressor was goal) s = execCancellerStateChange victim aggressor was goal s := rfl
@[simp] theorem exec_cancellerDisengagedTimeout (victim : Nat) (aggressor : Nat) (s : State) : exec (.cancellerDisengagedTimeout victim aggressor) s = execCancellerDisengagedTimeout victim aggressor s := rfl
@[simp] theorem exec_cancellerSuspendLong (victim : Nat) (aggressor : Nat) (s : State) : exec (.cancellerSuspendLong victim aggressor) s = execCancellerSuspendLong victim aggressor s := rfl
@[simp] theorem exec_treeComputation (port : Nat) (s : State) : exec (.treeComputation port) s = execTreeComputation port s := rfl
@[simp] theorem exec_tpRouteAckReceived (port : Nat) (ep : Nat) (msg : Bytes) (s : State) : exec (.tpRouteAckReceived port ep msg) s = execTpRouteAckReceived port ep msg s := rfl
@[simp] theorem exec_pendingVersionTimeout (port : Nat) (s : State) : exec (.pendingVersionTimeout port) s = execPendingVersionTimeout port s := rfl
@[simp] theorem exec_tpLinkReportReceived (port : Nat) (ep : Nat) (msg : Bytes) (s : State) : exec (.tpLinkReportReceived port ep msg) s = execTpLinkReportReceived port ep msg s := rfl
@[simp] theorem exec_tpJoinReceived (port : Nat) (ep : Nat) (msg : Bytes) (s : State) : exec (.tpJoinReceived port ep msg) s = execTpJoinReceived port ep msg s := rfl
@[simp] theorem exec_unreachableHoldExpiry (ep : Nat) (s : State) : exec (.unreachableHoldExpiry ep) s = execUnreachableHoldExpiry ep s := rfl
@[simp] theorem exec_heldSubmissionAdmit (idx : Nat) (s : State) : exec (.heldSubmissionAdmit idx) s = execHeldSubmissionAdmit idx s := rfl
@[simp] theorem exec_frameSeal (flight : Nat) (plaintext : Option Bytes) (s : State) : exec (.frameSeal flight plaintext) s = execFrameSeal flight plaintext s := rfl
@[simp] theorem exec_staging (port : Nat) (ddrFail : Bool) (s : State) : exec (.staging port ddrFail) s = execStaging port ddrFail s := rfl
@[simp] theorem exec_uplinkOpen (flight : Nat) (poison : Bool) (s : State) : exec (.uplinkOpen flight poison) s = execUplinkOpen flight poison s := rfl
@[simp] theorem exec_rxRingWrite (flight : Nat) (consumer : Option Nat) (s : State) : exec (.rxRingWrite flight consumer) s = execRxRingWrite flight consumer s := rfl
@[simp] theorem exec_cipherDescriptorTake (pod : Nat) (ring : Nat) (desc : Bytes) (io : DescIo) (s : State) : exec (.cipherDescriptorTake pod ring desc io) s = execCipherDescriptorTake pod ring desc io s := rfl
@[simp] theorem exec_cipherJobComplete (pod : Nat) (ring : Nat) (idx : Nat) (s : State) : exec (.cipherJobComplete pod ring idx) s = execCipherJobComplete pod ring idx s := rfl
@[simp] theorem exec_maskReseed (pipe : Nat) (s : State) : exec (.maskReseed pipe) s = execMaskReseed pipe s := rfl
@[simp] theorem exec_entropyHealthFail (s : State) : exec (.entropyHealthFail) s = execEntropyHealthFail s := rfl
@[simp] theorem exec_entropyRetest (pass : Bool) (s : State) : exec (.entropyRetest pass) s = execEntropyRetest pass s := rfl
@[simp] theorem exec_chkDmaComplete (ctx : Nat) (ddrFail : Bool) (s : State) : exec (.chkDmaComplete ctx ddrFail) s = execChkDmaComplete ctx ddrFail s := rfl
@[simp] theorem exec_chainOutput (chain : Nat) (pos : Nat) (last : Nat) (samples : List TapSample) (poisons : List Nat) (consumer : Option Nat) (s : State) : exec (.chainOutput chain pos last samples poisons consumer) s = execChainOutput chain pos last samples poisons consumer s := rfl
@[simp] theorem exec_bankSwapEffect (swap : BankSwap) (s : State) : exec (.bankSwapEffect swap) s = execBankSwapEffect swap s := rfl
@[simp] theorem exec_scanFrameStart (conv : Nat) (codes : List ScanCode) (s : State) : exec (.scanFrameStart conv codes) s = execScanFrameStart conv codes s := rfl
@[simp] theorem exec_chargeReset (input : Nat) (code : Int) (s : State) : exec (.chargeReset input code) s = execChargeReset input code s := rfl
@[simp] theorem exec_clampFlagChange (input : Nat) (present : Bool) (s : State) : exec (.clampFlagChange input present) s = execClampFlagChange input present s := rfl
@[simp] theorem exec_commonModeFlagChange (input : Nat) (cmMv : Int) (s : State) : exec (.commonModeFlagChange input cmMv) s = execCommonModeFlagChange input cmMv s := rfl
@[simp] theorem exec_dieTempUpdate (sensing : Int) (max : Int) (min : Int) (s : State) : exec (.dieTempUpdate sensing max min) s = execDieTempUpdate sensing max min s := rfl
@[simp] theorem exec_pdPulseWindowEnd (group : Nat) (source : Nat) (pulse : PdPulse) (s : State) : exec (.pdPulseWindowEnd group source pulse) s = execPdPulseWindowEnd group source pulse s := rfl
@[simp] theorem exec_pdClusterClose (group : Nat) (consumer : Option Nat) (s : State) : exec (.pdClusterClose group consumer) s = execPdClusterClose group consumer s := rfl
@[simp] theorem exec_i2cTransferStart (port : Nat) (s : State) : exec (.i2cTransferStart port) s = execI2cTransferStart port s := rfl
@[simp] theorem exec_i2cArbitrationLoss (port : Nat) (s : State) : exec (.i2cArbitrationLoss port) s = execI2cArbitrationLoss port s := rfl
@[simp] theorem exec_i2cSclTimeout (held : BusHeld) (s : State) : exec (.i2cSclTimeout held) s = execI2cSclTimeout held s := rfl
@[simp] theorem exec_i2cBusNotFreeTimeout (port : Nat) (s : State) : exec (.i2cBusNotFreeTimeout port) s = execI2cBusNotFreeTimeout port s := rfl
@[simp] theorem exec_trunkFrameTransmit (s : State) : exec (.trunkFrameTransmit) s = execTrunkFrameTransmit s := rfl
@[simp] theorem exec_trunkFrameReceive (lane : Nat) (frame : TrunkRx) (s : State) : exec (.trunkFrameReceive lane frame) s = execTrunkFrameReceive lane frame s := rfl
@[simp] theorem exec_fasMissingOof (lane : Nat) (s : State) : exec (.fasMissingOof lane) s = execFasMissingOof lane s := rfl
@[simp] theorem exec_codewordLockChange (lane : Nat) (good : Bool) (s : State) : exec (.codewordLockChange lane good) s = execCodewordLockChange lane good s := rfl
@[simp] theorem exec_losEntry (lane : Nat) (signal : Bool) (s : State) : exec (.losEntry lane signal) s = execLosEntry lane signal s := rfl
@[simp] theorem exec_losExit (lane : Nat) (s : State) : exec (.losExit lane) s = execLosExit lane s := rfl
@[simp] theorem exec_lofEntry (lane : Nat) (s : State) : exec (.lofEntry lane) s = execLofEntry lane s := rfl
@[simp] theorem exec_lofExit (lane : Nat) (s : State) : exec (.lofExit lane) s = execLofExit lane s := rfl
@[simp] theorem exec_sdEvaluation (lane : Nat) (corrected : Nat) (received : Nat) (s : State) : exec (.sdEvaluation lane corrected received) s = execSdEvaluation lane corrected received s := rfl
@[simp] theorem exec_slotDefectChange (lane : Nat) (s : State) : exec (.slotDefectChange lane) s = execSlotDefectChange lane s := rfl
@[simp] theorem exec_trunkFifoShortfall (lane : Nat) (transmit : Bool) (s : State) : exec (.trunkFifoShortfall lane transmit) s = execTrunkFifoShortfall lane transmit s := rfl
@[simp] theorem exec_feedPacketReceive (slot : Nat) (packet : Bytes) (s : State) : exec (.feedPacketReceive slot packet) s = execFeedPacketReceive slot packet s := rfl
@[simp] theorem exec_trunkUplinkPacket (flight : Nat) (s : State) : exec (.trunkUplinkPacket flight) s = execTrunkUplinkPacket flight s := rfl
@[simp] theorem exec_ethernetChunkSend (lane : Nat) (slot : Nat) (s : State) : exec (.ethernetChunkSend lane slot) s = execEthernetChunkSend lane slot s := rfl
@[simp] theorem exec_ethernetChunkReceive (lane : Nat) (slot : Nat) (seq : Nat) (fcsOk : Bool) (label : Nat) (body : ChunkBody) (s : State) : exec (.ethernetChunkReceive lane slot seq fcsOk label body) s = execEthernetChunkReceive lane slot seq fcsOk label body s := rfl
@[simp] theorem exec_ethernetChunkTimeout (slot : Nat) (s : State) : exec (.ethernetChunkTimeout slot) s = execEthernetChunkTimeout slot s := rfl
@[simp] theorem exec_pauseReceived (lane : Nat) (quanta : Nat) (s : State) : exec (.pauseReceived lane quanta) s = execPauseReceived lane quanta s := rfl
@[simp] theorem exec_tsiCommitBoundary (s : State) : exec (.tsiCommitBoundary) s = execTsiCommitBoundary s := rfl
@[simp] theorem exec_tsiCopyDone (s : State) : exec (.tsiCopyDone) s = execTsiCopyDone s := rfl
@[simp] theorem exec_mirrorRecordReceive (record : MirrorRec) (s : State) : exec (.mirrorRecordReceive record) s = execMirrorRecordReceive record s := rfl
@[simp] theorem exec_peerReadySet (s : State) : exec (.peerReadySet) s = execPeerReadySet s := rfl
@[simp] theorem exec_peerFailingDetect (role : Nat) (s : State) : exec (.peerFailingDetect role) s = execPeerFailingDetect role s := rfl
@[simp] theorem exec_pairTakeover (s : State) : exec (.pairTakeover) s = execPairTakeover s := rfl
@[simp] theorem exec_takeoverBoundary (s : State) : exec (.takeoverBoundary) s = execTakeoverBoundary s := rfl
@[simp] theorem exec_plannedSwitchBoundary (s : State) : exec (.plannedSwitchBoundary) s = execPlannedSwitchBoundary s := rfl
@[simp] theorem exec_heartbeatLoss (s : State) : exec (.heartbeatLoss) s = execHeartbeatLoss s := rfl
@[simp] theorem exec_mirrorLinkLossTimeout (s : State) : exec (.mirrorLinkLossTimeout) s = execMirrorLinkLossTimeout s := rfl
@[simp] theorem exec_ppsEdge (edge : Nat) (s : State) : exec (.ppsEdge edge) s = execPpsEdge edge s := rfl
@[simp] theorem exec_ppsEdgeMissing (s : State) : exec (.ppsEdgeMissing) s = execPpsEdgeMissing s := rfl
@[simp] theorem exec_timebaseRenewal (s : State) : exec (.timebaseRenewal) s = execTimebaseRenewal s := rfl
@[simp] theorem exec_holdoverExpiry (s : State) : exec (.holdoverExpiry) s = execHoldoverExpiry s := rfl
@[simp] theorem exec_revertiveDisplace (reference : Nat) (s : State) : exec (.revertiveDisplace reference) s = execRevertiveDisplace reference s := rfl
@[simp] theorem exec_timeStep (s : State) : exec (.timeStep) s = execTimeStep s := rfl
@[simp] theorem exec_ppsOutEdge (s : State) : exec (.ppsOutEdge) s = execPpsOutEdge s := rfl
@[simp] theorem exec_mbxDoorbell (pod : Nat) (lane : Nat) (prod : Nat) (s : State) : exec (.mbxDoorbell pod lane prod) s = execMbxDoorbell pod lane prod s := rfl
@[simp] theorem exec_mbxDescriptorTake (pod : Nat) (lane : Nat) (desc : Bytes) (request : Bytes) (descFails : Bool) (io : CmdIo) (s : State) : exec (.mbxDescriptorTake pod lane desc request descFails io) s = execMbxDescriptorTake pod lane desc request descFails io s := rfl
@[simp] theorem exec_mbxLaneEnable (pod : Nat) (lane : Nat) (on : Bool) (s : State) : exec (.mbxLaneEnable pod lane on) s = execMbxLaneEnable pod lane on s := rfl
@[simp] theorem exec_mbxFaultClear (pod : Nat) (lane : Nat) (s : State) : exec (.mbxFaultClear pod lane) s = execMbxFaultClear pod lane s := rfl
@[simp] theorem exec_mbxCmplConsUpdate (pod : Nat) (lane : Nat) (cons : Nat) (s : State) : exec (.mbxCmplConsUpdate pod lane cons) s = execMbxCmplConsUpdate pod lane cons s := rfl
@[simp] theorem exec_commandWaitEnd (caller : Caller) (s : State) : exec (.commandWaitEnd caller) s = execCommandWaitEnd caller s := rfl
@[simp] theorem exec_sheddingEntry (loads : List Nat) (s : State) : exec (.sheddingEntry loads) s = execSheddingEntry loads s := rfl
@[simp] theorem exec_sheddingExit (loads : List Nat) (s : State) : exec (.sheddingExit loads) s = execSheddingExit loads s := rfl
@[simp] theorem exec_notificationPost (pod : Nat) (lane : Nat) (code : Nat) (body : Bytes) (s : State) : exec (.notificationPost pod lane code body) s = execNotificationPost pod lane code body s := rfl
@[simp] theorem exec_watchdogExpiry (s : State) : exec (.watchdogExpiry) s = execWatchdogExpiry s := rfl
@[simp] theorem exec_processorFault (s : State) : exec (.processorFault) s = execProcessorFault s := rfl
@[simp] theorem exec_firmwareRestartComplete (s : State) : exec (.firmwareRestartComplete) s = execFirmwareRestartComplete s := rfl
@[simp] theorem exec_meterPeriod (schedule : Nat) (s : State) : exec (.meterPeriod schedule) s = execMeterPeriod schedule s := rfl
@[simp] theorem exec_meterCollectionEnd (schedule : Nat) (s : State) : exec (.meterCollectionEnd schedule) s = execMeterCollectionEnd schedule s := rfl
@[simp] theorem exec_serviceReplyReceived (ep : Nat) (unit : Bytes) (s : State) : exec (.serviceReplyReceived ep unit) s = execServiceReplyReceived ep unit s := rfl
@[simp] theorem exec_loadShedExecute (idx : Nat) (s : State) : exec (.loadShedExecute idx) s = execLoadShedExecute idx s := rfl
@[simp] theorem exec_loadShedConfirm (idx : Nat) (s : State) : exec (.loadShedConfirm idx) s = execLoadShedConfirm idx s := rfl
@[simp] theorem exec_dispatchReassert (ep : Nat) (s : State) : exec (.dispatchReassert ep) s = execDispatchReassert ep s := rfl
@[simp] theorem exec_dispatchLoss (ep : Nat) (s : State) : exec (.dispatchLoss ep) s = execDispatchLoss ep s := rfl
@[simp] theorem exec_apertureAccess (pod : Nat) (write : Bool) (offset : Nat) (len : Nat) (data : Bytes) (s : State) : exec (.apertureAccess pod write offset len data) s = execApertureAccess pod write offset len data s := rfl
@[simp] theorem exec_checkedAccessRetire (id : Nat) (s : State) : exec (.checkedAccessRetire id) s = execCheckedAccessRetire id s := rfl
@[simp] theorem exec_journaledWriteCommit (s : State) : exec (.journaledWriteCommit) s = execJournaledWriteCommit s := rfl
@[simp] theorem exec_tamperQualify (source : Nat) (s : State) : exec (.tamperQualify source) s = execTamperQualify source s := rfl
@[simp] theorem exec_tamperLoopPattern (input : Nat) (returned : Nat) (s : State) : exec (.tamperLoopPattern input returned) s = execTamperLoopPattern input returned s := rfl
@[simp] theorem exec_observeExpiry (s : State) : exec (.observeExpiry) s = execObserveExpiry s := rfl
@[simp] theorem exec_snapshotLatch (s : State) : exec (.snapshotLatch) s = execSnapshotLatch s := rfl
@[simp] theorem exec_traceTimeRecord (s : State) : exec (.traceTimeRecord) s = execTraceTimeRecord s := rfl
@[simp] theorem exec_traceSyncWord (s : State) : exec (.traceSyncWord) s = execTraceSyncWord s := rfl
@[simp] theorem exec_eventRecordIssue (source : Nat) (cause : Nat) (arg0 : Nat) (arg1 : Nat) (s : State) : exec (.eventRecordIssue source cause arg0 arg1) s = execEventRecordIssue source cause arg0 arg1 s := rfl
@[simp] theorem exec_coalesceWindowClose (source : Nat) (cause : Nat) (s : State) : exec (.coalesceWindowClose source cause) s = execCoalesceWindowClose source cause s := rfl
@[simp] theorem exec_admitVectorDeferred (fn : Nat) (s : State) : exec (.admitVectorDeferred fn) s = execAdmitVectorDeferred fn s := rfl
@[simp] theorem exec_deliveryVectorDeferred (fn : Nat) (s : State) : exec (.deliveryVectorDeferred fn) s = execDeliveryVectorDeferred fn s := rfl
@[simp] theorem exec_evtSrcCfgWrite (source : Nat) (value : Nat) (s : State) : exec (.evtSrcCfgWrite source value) s = execEvtSrcCfgWrite source value s := rfl
@[simp] theorem exec_evtRingEnable (fn : Nat) (on : Bool) (s : State) : exec (.evtRingEnable fn on) s = execEvtRingEnable fn on s := rfl
@[simp] theorem exec_evtRingFaultClear (fn : Nat) (s : State) : exec (.evtRingFaultClear fn) s = execEvtRingFaultClear fn s := rfl
@[simp] theorem exec_cphRingDoorbell (pod : Nat) (ring : Nat) (prod : Nat) (s : State) : exec (.cphRingDoorbell pod ring prod) s = execCphRingDoorbell pod ring prod s := rfl
@[simp] theorem exec_cphRingEnable (pod : Nat) (ring : Nat) (on : Bool) (s : State) : exec (.cphRingEnable pod ring on) s = execCphRingEnable pod ring on s := rfl
@[simp] theorem exec_cphRingFaultClear (pod : Nat) (ring : Nat) (s : State) : exec (.cphRingFaultClear pod ring) s = execCphRingFaultClear pod ring s := rfl
@[simp] theorem exec_cphCmplConsUpdate (pod : Nat) (ring : Nat) (cons : Nat) (s : State) : exec (.cphCmplConsUpdate pod ring cons) s = execCphCmplConsUpdate pod ring cons s := rfl
@[simp] theorem exec_avsFaultClear (s : State) : exec (.avsFaultClear) s = execAvsFaultClear s := rfl
@[simp] theorem exec_chkContextWrite (ctx : Nat) (reg : Nat) (value : Nat) (s : State) : exec (.chkContextWrite ctx reg value) s = execChkContextWrite ctx reg value s := rfl
@[simp] theorem exec_pmcValueWrite (n : Nat) (value : Nat) (increments : Nat) (s : State) : exec (.pmcValueWrite n value increments) s = execPmcValueWrite n value increments s := rfl
@[simp] theorem exec_pmcCfgWrite (n : Nat) (value : Nat) (s : State) : exec (.pmcCfgWrite n value) s = execPmcCfgWrite n value s := rfl
@[simp] theorem exec_snapshotArm (s : State) : exec (.snapshotArm) s = execSnapshotArm s := rfl
@[simp] theorem exec_registerWrite (fn : Nat) (offset : Nat) (size : Nat) (value : Nat) (s : State) : exec (.registerWrite fn offset size value) s = execRegisterWrite fn offset size value s := rfl
@[simp] theorem exec_readClear (fn : Nat) (offset : Nat) (size : Nat) (s : State) : exec (.readClear fn offset size) s = execReadClear fn offset size s := rfl
@[simp] theorem exec_portOpen (c : Caller) (req : Bytes) (s : State) : exec (.portOpen c req) s = execPortOpen c req s := rfl
@[simp] theorem exec_portClose (c : Caller) (req : Bytes) (s : State) : exec (.portClose c req) s = execPortClose c req s := rfl
@[simp] theorem exec_laneCalibrate (c : Caller) (req : Bytes) (s : State) : exec (.laneCalibrate c req) s = execLaneCalibrate c req s := rfl
@[simp] theorem exec_laneGain (c : Caller) (req : Bytes) (s : State) : exec (.laneGain c req) s = execLaneGain c req s := rfl
@[simp] theorem exec_driverRearm (c : Caller) (req : Bytes) (s : State) : exec (.driverRearm c req) s = execDriverRearm c req s := rfl
@[simp] theorem exec_synthRebalance (c : Caller) (req : Bytes) (s : State) : exec (.synthRebalance c req) s = execSynthRebalance c req s := rfl
@[simp] theorem exec_chainConfigure (c : Caller) (req : Bytes) (s : State) : exec (.chainConfigure c req) s = execChainConfigure c req s := rfl
@[simp] theorem exec_chainLoadbank (c : Caller) (req : Bytes) (s : State) : exec (.chainLoadbank c req) s = execChainLoadbank c req s := rfl
@[simp] theorem exec_chainSwap (c : Caller) (req : Bytes) (s : State) : exec (.chainSwap c req) s = execChainSwap c req s := rfl
@[simp] theorem exec_chainThreshold (c : Caller) (req : Bytes) (s : State) : exec (.chainThreshold c req) s = execChainThreshold c req s := rfl
@[simp] theorem exec_phyConfigure (c : Caller) (req : Bytes) (s : State) : exec (.phyConfigure c req) s = execPhyConfigure c req s := rfl
@[simp] theorem exec_tonemapConfigure (c : Caller) (req : Bytes) (s : State) : exec (.tonemapConfigure c req) s = execTonemapConfigure c req s := rfl
@[simp] theorem exec_tonemapRefresh (c : Caller) (req : Bytes) (s : State) : exec (.tonemapRefresh c req) s = execTonemapRefresh c req s := rfl
@[simp] theorem exec_tonemapRead (c : Caller) (req : Bytes) (s : State) : exec (.tonemapRead c req) s = execTonemapRead c req s := rfl
@[simp] theorem exec_mainsStatus (c : Caller) (req : Bytes) (s : State) : exec (.mainsStatus c req) s = execMainsStatus c req s := rfl
@[simp] theorem exec_cancellerConfigure (c : Caller) (req : Bytes) (s : State) : exec (.cancellerConfigure c req) s = execCancellerConfigure c req s := rfl
@[simp] theorem exec_cancellerSetguard (c : Caller) (req : Bytes) (s : State) : exec (.cancellerSetguard c req) s = execCancellerSetguard c req s := rfl
@[simp] theorem exec_cancellerStatus (c : Caller) (req : Bytes) (s : State) : exec (.cancellerStatus c req) s = execCancellerStatus c req s := rfl
@[simp] theorem exec_macConfigure (c : Caller) (req : Bytes) (s : State) : exec (.macConfigure c req) s = execMacConfigure c req s := rfl
@[simp] theorem exec_macNeighbour (c : Caller) (req : Bytes) (s : State) : exec (.macNeighbour c req) s = execMacNeighbour c req s := rfl
@[simp] theorem exec_topologyConfigure (c : Caller) (req : Bytes) (s : State) : exec (.topologyConfigure c req) s = execTopologyConfigure c req s := rfl
@[simp] theorem exec_endpointAdmit (c : Caller) (req : Bytes) (s : State) : exec (.endpointAdmit c req) s = execEndpointAdmit c req s := rfl
@[simp] theorem exec_endpointRemove (c : Caller) (req : Bytes) (s : State) : exec (.endpointRemove c req) s = execEndpointRemove c req s := rfl
@[simp] theorem exec_topologyRead (c : Caller) (req : Bytes) (s : State) : exec (.topologyRead c req) s = execTopologyRead c req s := rfl
@[simp] theorem exec_bufferConfigure (c : Caller) (req : Bytes) (s : State) : exec (.bufferConfigure c req) s = execBufferConfigure c req s := rfl
@[simp] theorem exec_bufferQuota (c : Caller) (req : Bytes) (s : State) : exec (.bufferQuota c req) s = execBufferQuota c req s := rfl
@[simp] theorem exec_frameSubmit (c : Caller) (req : Bytes) (s : State) : exec (.frameSubmit c req) s = execFrameSubmit c req s := rfl
@[simp] theorem exec_rxRing (c : Caller) (req : Bytes) (s : State) : exec (.rxRing c req) s = execRxRing c req s := rfl
@[simp] theorem exec_keyLoad (c : Caller) (req : Bytes) (s : State) : exec (.keyLoad c req) s = execKeyLoad c req s := rfl
@[simp] theorem exec_keyClear (c : Caller) (req : Bytes) (s : State) : exec (.keyClear c req) s = execKeyClear c req s := rfl
@[simp] theorem exec_cipherBind (c : Caller) (req : Bytes) (s : State) : exec (.cipherBind c req) s = execCipherBind c req s := rfl
@[simp] theorem exec_cipherConfigure (c : Caller) (req : Bytes) (s : State) : exec (.cipherConfigure c req) s = execCipherConfigure c req s := rfl
@[simp] theorem exec_chkAssign (c : Caller) (req : Bytes) (s : State) : exec (.chkAssign c req) s = execChkAssign c req s := rfl
@[simp] theorem exec_chkBind (c : Caller) (req : Bytes) (s : State) : exec (.chkBind c req) s = execChkBind c req s := rfl
@[simp] theorem exec_chkDma (c : Caller) (req : Bytes) (s : State) : exec (.chkDma c req) s = execChkDma c req s := rfl
@[simp] theorem exec_trunkConfigure (c : Caller) (req : Bytes) (s : State) : exec (.trunkConfigure c req) s = execTrunkConfigure c req s := rfl
@[simp] theorem exec_tsiWrite (c : Caller) (req : Bytes) (s : State) : exec (.tsiWrite c req) s = execTsiWrite c req s := rfl
@[simp] theorem exec_tsiMode (c : Caller) (req : Bytes) (s : State) : exec (.tsiMode c req) s = execTsiMode c req s := rfl
@[simp] theorem exec_tsiCommit (c : Caller) (req : Bytes) (s : State) : exec (.tsiCommit c req) s = execTsiCommit c req s := rfl
@[simp] theorem exec_tsiRead (c : Caller) (req : Bytes) (s : State) : exec (.tsiRead c req) s = execTsiRead c req s := rfl
@[simp] theorem exec_pairConfigure (c : Caller) (req : Bytes) (s : State) : exec (.pairConfigure c req) s = execPairConfigure c req s := rfl
@[simp] theorem exec_pairSwitch (c : Caller) (req : Bytes) (s : State) : exec (.pairSwitch c req) s = execPairSwitch c req s := rfl
@[simp] theorem exec_senseConfigure (c : Caller) (req : Bytes) (s : State) : exec (.senseConfigure c req) s = execSenseConfigure c req s := rfl
@[simp] theorem exec_senseCharge (c : Caller) (req : Bytes) (s : State) : exec (.senseCharge c req) s = execSenseCharge c req s := rfl
@[simp] theorem exec_senseLincoef (c : Caller) (req : Bytes) (s : State) : exec (.senseLincoef c req) s = execSenseLincoef c req s := rfl
@[simp] theorem exec_pdConfigure (c : Caller) (req : Bytes) (s : State) : exec (.pdConfigure c req) s = execPdConfigure c req s := rfl
@[simp] theorem exec_i2cConfigure (c : Caller) (req : Bytes) (s : State) : exec (.i2cConfigure c req) s = execI2cConfigure c req s := rfl
@[simp] theorem exec_i2cTransfer (c : Caller) (req : Bytes) (s : State) : exec (.i2cTransfer c req) s = execI2cTransfer c req s := rfl
@[simp] theorem exec_senseAssign (c : Caller) (req : Bytes) (s : State) : exec (.senseAssign c req) s = execSenseAssign c req s := rfl
@[simp] theorem exec_timebaseConfigure (c : Caller) (req : Bytes) (s : State) : exec (.timebaseConfigure c req) s = execTimebaseConfigure c req s := rfl
@[simp] theorem exec_timebaseSettimeFull (c : Caller) (req : Bytes) (s : State) : exec (.timebaseSettimeFull c req) s = execTimebaseSettimeFull c req s := rfl
@[simp] theorem exec_timebaseSettimeSeconds (c : Caller) (req : Bytes) (s : State) : exec (.timebaseSettimeSeconds c req) s = execTimebaseSettimeSeconds c req s := rfl
@[simp] theorem exec_mbxCredits (c : Caller) (req : Bytes) (s : State) : exec (.mbxCredits c req) s = execMbxCredits c req s := rfl
@[simp] theorem exec_mbxListen (c : Caller) (req : Bytes) (s : State) : exec (.mbxListen c req) s = execMbxListen c req s := rfl
@[simp] theorem exec_profileSet (c : Caller) (req : Bytes) (s : State) : exec (.profileSet c req) s = execProfileSet c req s := rfl
@[simp] theorem exec_powerSetcap (c : Caller) (req : Bytes) (s : State) : exec (.powerSetcap c req) s = execPowerSetcap c req s := rfl
@[simp] theorem exec_fwInfo (c : Caller) (req : Bytes) (s : State) : exec (.fwInfo c req) s = execFwInfo c req s := rfl
@[simp] theorem exec_fwUpdateBegin (c : Caller) (req : Bytes) (s : State) : exec (.fwUpdateBegin c req) s = execFwUpdateBegin c req s := rfl
@[simp] theorem exec_fwUpdateWrite (c : Caller) (req : Bytes) (s : State) : exec (.fwUpdateWrite c req) s = execFwUpdateWrite c req s := rfl
@[simp] theorem exec_fwUpdateFinish (c : Caller) (req : Bytes) (s : State) : exec (.fwUpdateFinish c req) s = execFwUpdateFinish c req s := rfl
@[simp] theorem exec_fwActivate (c : Caller) (req : Bytes) (s : State) : exec (.fwActivate c req) s = execFwActivate c req s := rfl
@[simp] theorem exec_podReset (c : Caller) (req : Bytes) (s : State) : exec (.podReset c req) s = execPodReset c req s := rfl
@[simp] theorem exec_podAssign (c : Caller) (req : Bytes) (s : State) : exec (.podAssign c req) s = execPodAssign c req s := rfl
@[simp] theorem exec_podWindow (c : Caller) (req : Bytes) (s : State) : exec (.podWindow c req) s = execPodWindow c req s := rfl
@[simp] theorem exec_secLifecycle (c : Caller) (req : Bytes) (s : State) : exec (.secLifecycle c req) s = execSecLifecycle c req s := rfl
@[simp] theorem exec_secRevoke (c : Caller) (req : Bytes) (s : State) : exec (.secRevoke c req) s = execSecRevoke c req s := rfl
@[simp] theorem exec_kekInstall (c : Caller) (req : Bytes) (s : State) : exec (.kekInstall c req) s = execKekInstall c req s := rfl
@[simp] theorem exec_kekAgree (c : Caller) (req : Bytes) (s : State) : exec (.kekAgree c req) s = execKekAgree c req s := rfl
@[simp] theorem exec_kekClear (c : Caller) (req : Bytes) (s : State) : exec (.kekClear c req) s = execKekClear c req s := rfl
@[simp] theorem exec_secIdentity (c : Caller) (req : Bytes) (s : State) : exec (.secIdentity c req) s = execSecIdentity c req s := rfl
@[simp] theorem exec_secTamperConfigure (c : Caller) (req : Bytes) (s : State) : exec (.secTamperConfigure c req) s = execSecTamperConfigure c req s := rfl
@[simp] theorem exec_secTamperClear (c : Caller) (req : Bytes) (s : State) : exec (.secTamperClear c req) s = execSecTamperClear c req s := rfl
@[simp] theorem exec_secObserveChallenge (c : Caller) (req : Bytes) (s : State) : exec (.secObserveChallenge c req) s = execSecObserveChallenge c req s := rfl
@[simp] theorem exec_secObserveToken (c : Caller) (req : Bytes) (s : State) : exec (.secObserveToken c req) s = execSecObserveToken c req s := rfl
@[simp] theorem exec_secObserveEnd (c : Caller) (req : Bytes) (s : State) : exec (.secObserveEnd c req) s = execSecObserveEnd c req s := rfl
@[simp] theorem exec_pmcAssign (c : Caller) (req : Bytes) (s : State) : exec (.pmcAssign c req) s = execPmcAssign c req s := rfl
@[simp] theorem exec_pmcConfigure (c : Caller) (req : Bytes) (s : State) : exec (.pmcConfigure c req) s = execPmcConfigure c req s := rfl
@[simp] theorem exec_tagConfigure (c : Caller) (req : Bytes) (s : State) : exec (.tagConfigure c req) s = execTagConfigure c req s := rfl
@[simp] theorem exec_trcConfigure (c : Caller) (req : Bytes) (s : State) : exec (.trcConfigure c req) s = execTrcConfigure c req s := rfl
@[simp] theorem exec_trcRead (c : Caller) (req : Bytes) (s : State) : exec (.trcRead c req) s = execTrcRead c req s := rfl
@[simp] theorem exec_pwrStandby (c : Caller) (req : Bytes) (s : State) : exec (.pwrStandby c req) s = execPwrStandby c req s := rfl
@[simp] theorem exec_chiveConfigure (c : Caller) (req : Bytes) (s : State) : exec (.chiveConfigure c req) s = execChiveConfigure c req s := rfl
@[simp] theorem exec_sysReset (c : Caller) (req : Bytes) (s : State) : exec (.sysReset c req) s = execSysReset c req s := rfl
@[simp] theorem exec_evtRoute (c : Caller) (req : Bytes) (s : State) : exec (.evtRoute c req) s = execEvtRoute c req s := rfl
@[simp] theorem exec_svcRegistrySet (c : Caller) (req : Bytes) (s : State) : exec (.svcRegistrySet c req) s = execSvcRegistrySet c req s := rfl
@[simp] theorem exec_svcMeterSchedule (c : Caller) (req : Bytes) (s : State) : exec (.svcMeterSchedule c req) s = execSvcMeterSchedule c req s := rfl
@[simp] theorem exec_svcLoadShed (c : Caller) (req : Bytes) (s : State) : exec (.svcLoadShed c req) s = execSvcLoadShed c req s := rfl
@[simp] theorem exec_svcDispatchSet (c : Caller) (req : Bytes) (s : State) : exec (.svcDispatchSet c req) s = execSvcDispatchSet c req s := rfl
@[simp] theorem exec_fasFoundInFrame (lane : Nat) (s : State) : exec (.fasFoundInFrame lane) s = execFasFoundInFrame lane s := rfl
@[simp] theorem exec_vfEnable (numVfs : Nat) (s : State) : exec (.vfEnable numVfs) s = execVfEnable numVfs s := rfl
@[simp] theorem exec_msixVectorUnmask (fn : Nat) (vector : Nat) (s : State) : exec (.msixVectorUnmask fn vector) s = execMsixVectorUnmask fn vector s := rfl
@[simp] theorem exec_i2cTransferEnd (port : Nat) (result : Nat) (ackedBytes : Nat) (data : Bytes) (s : State) : exec (.i2cTransferEnd port result ackedBytes data) s = execI2cTransferEnd port result ackedBytes data s := rfl
@[simp] theorem exec_portOpenCalibrationEnd (port : Nat) (result : CalResult) (s : State) : exec (.portOpenCalibrationEnd port result) s = execPortOpenCalibrationEnd port result s := rfl

end Sys2Proof.Machine
end

