-- ==== Sys2Proof/Laws/Kernel.lean ====
section
/-! SUPPORT. The kernel of the state: what nearly every operation leaves unchanged (the part, the queue, DDR, the fuses and the test
access port). -/

namespace Sys2Proof.Machine

/-- The part, the queue, DDR, the fuses and the test access port of a state. -/
structure Kernel where
  part : Part
  pending : List Instr
  ddr : List Host.Cell
  lifecycle : Nat
  revoked : BitVec 4
  minSecver : Nat
  tap : Tap

/-- The kernel of a state. -/
def State.kernel (s : State) : Kernel :=
  ⟨s.part, s.pending, s.ddr, s.sec.lifecycle, s.sec.revoked, s.sec.minSecver, s.sec.tap⟩

/-- An update of any other field leaves the kernel. -/
@[simp] theorem kernel_mk (x : State) now free out pwr syn tmb mgmt pods own fw host evt obs ports lbf nbrs eps tm canc cph chk trk chains
    sns mram :
    (State.mk x.part x.pending now free out pwr syn tmb mgmt pods own fw host evt obs ports lbf nbrs eps tm canc cph chk trk chains sns
      x.sec mram x.ddr).kernel = x.kernel := rfl

/-- So does an update of the security state beside the fuses. -/
@[simp] theorem kernel_mk_sec (x : State) now free out pwr syn tmb mgmt pods own fw host evt obs ports lbf nbrs eps tm canc cph chk trk
    chains sns a1 a2 a3 a4 a5 a6 a7 a8 a9 b1 b2 b3 b4 b5 b6 b7 b8 b9 c1 c2 c3 c4 mram :
    (State.mk x.part x.pending now free out pwr syn tmb mgmt pods own fw host evt obs ports lbf nbrs eps tm canc cph chk trk chains sns
      (Sec.mk x.sec.lifecycle x.sec.revoked x.sec.minSecver x.sec.tap a1 a2 a3 a4 a5 a6 a7 a8 a9 b1 b2 b3 b4 b5 b6 b7 b8 b9 c1 c2 c3 c4)
      mram x.ddr).kernel = x.kernel := rfl

/-- The kernel of a choice between two states. -/
@[simp] theorem kernel_ite (p : Prop) [Decidable p] (a b : State) :
    (if p then a else b).kernel = if p then a.kernel else b.kernel := by split <;> rfl

/-- An outcome that, where it is a next state, has the kernel of the state before. -/
def Keeps (s : State) : Out → Prop
  | .next t => t.kernel = s.kernel
  | .fault _ => True
  | .refused _ => True

@[simp] theorem keeps_next (s t : State) : Keeps s (.next t) ↔ t.kernel = s.kernel := Iff.rfl

@[simp] theorem keeps_fault (s : State) (r : Fault) : Keeps s (.fault r) := trivial

/-- A choice between two outcomes keeps the kernel where both do. -/
@[simp] theorem keeps_ite (s : State) (p : Prop) [Decidable p] (a b : Out) :
    Keeps s (if p then a else b) ↔ if p then Keeps s a else Keeps s b := by split <;> rfl

/-- The same, as a rule to apply. -/
theorem keeps_if {s : State} {p : Prop} [Decidable p] {a b : Out} (ha : Keeps s a) (hb : Keeps s b) :
    Keeps s (if p then a else b) := by split <;> assumption

/-- The kernel of a choice, as a rule to apply. -/
theorem kernel_if {s a b : State} {p : Prop} [Decidable p] (ha : a.kernel = s.kernel) (hb : b.kernel = s.kernel) :
    (if p then a else b).kernel = s.kernel := by split <;> assumption

/-- A fold of operations that leave the kernel leaves it. -/
@[simp] theorem foldl_kernel {α : Type} (f : State → α → State) (h : ∀ s x, (f s x).kernel = s.kernel) (l : List α) (s : State) :
    (l.foldl f s).kernel = s.kernel := by
  induction l generalizing s with
  | nil => rfl
  | cons x l ih => rw [List.foldl_cons, ih, h]

/-- The same after an operation that leaves the kernel. -/
theorem foldl_kernel_of {α : Type} (f : State → α → State) (h : ∀ s x, (f s x).kernel = s.kernel) (l : List α) {s u : State}
    (k : u.kernel = s.kernel) : (l.foldl f u).kernel = s.kernel := (foldl_kernel f h l u).trans k

/-- The same for a fold whose accumulator holds the state first. -/
theorem foldl_kernel_fst {α β : Type} (f : State × β → α → State × β) (h : ∀ a x, (f a x).1.kernel = a.1.kernel) (l : List α)
    (a : State × β) : (l.foldl f a).1.kernel = a.1.kernel := by
  induction l generalizing a with
  | nil => rfl
  | cons x l ih => rw [List.foldl_cons, ih, h]

/-- The first part of a pair that an operation answers. -/
theorem kernel_of_pair {β : Type} {s t : State} {p : State × β} {b : β} (h : p = (t, b)) (k : p.1.kernel = s.kernel) :
    t.kernel = s.kernel := by rw [h] at k; exact k

/-! ### What every command keeps -/

/-- What no command undoes: the part, the queue, the canonical form of DDR, and every fuse blown (R485). -/
structure Kept (s t : State) : Prop where
  part : t.part = s.part
  pending : t.pending = s.pending
  ddr : Memory.wf s.ddr = true → Memory.wf t.ddr = true
  lifecycle : s.sec.lifecycle ≤ t.sec.lifecycle
  bound : s.sec.lifecycle ≤ 3 → t.sec.lifecycle ≤ 3
  revoked : s.sec.revoked &&& t.sec.revoked = s.sec.revoked
  minSecver : s.sec.minSecver ≤ t.sec.minSecver
  tap : s.sec.tap = Tap.of s.sec.lifecycle → t.sec.tap = Tap.of t.sec.lifecycle

theorem Kept.of_kernel {s t : State} (h : t.kernel = s.kernel) : Kept s t := by
  obtain ⟨h1, h2, h3, h4, h5, h6, h7⟩ := Kernel.mk.inj h
  exact ⟨h1, h2, fun w => h3 ▸ w, h4 ▸ Nat.le_refl _, fun b => h4 ▸ b, by rw [h5]; exact BitVec.and_self, h6 ▸ Nat.le_refl _,
    fun k => by rw [h7, h4, k]⟩

theorem Kept.refl (s : State) : Kept s s := .of_kernel rfl

theorem Kept.trans {s t u : State} (a : Kept s t) (b : Kept t u) : Kept s u where
  part := b.part.trans a.part
  pending := b.pending.trans a.pending
  ddr := fun w => b.ddr (a.ddr w)
  lifecycle := Nat.le_trans a.lifecycle b.lifecycle
  bound := fun h => b.bound (a.bound h)
  revoked := by rw [← a.revoked, BitVec.and_assoc, b.revoked]
  minSecver := Nat.le_trans a.minSecver b.minSecver
  tap := fun h => b.tap (a.tap h)

/-- An operation that leaves the kernel, after one that keeps it. -/
theorem Kept.andThen {s t u : State} (a : Kept s t) (h : u.kernel = t.kernel) : Kept s u := a.trans (.of_kernel h)

theorem Kept.iff {s a b : State} {p : Prop} [Decidable p] (ha : Kept s a) (hb : Kept s b) : Kept s (if p then a else b) := by
  split <;> assumption

/-- An outcome that, where it is a next state, is kept. -/
def KeptOut (s : State) : Out → Prop
  | .next t => Kept s t
  | .fault _ => True
  | .refused _ => True

theorem KeptOut.of_keeps {s : State} {o : Out} (h : Keeps s o) : KeptOut s o := by
  cases o with
  | next t => exact .of_kernel h
  | fault _ => trivial
  | refused _ => trivial

theorem KeptOut.iff {s : State} {a b : Out} {p : Prop} [Decidable p] (ha : KeptOut s a) (hb : KeptOut s b) :
    KeptOut s (if p then a else b) := by split <;> assumption

/-- An outcome kept after a state kept. -/
theorem Kept.thenOut {s t : State} {o : Out} (a : Kept s t) (h : KeptOut t o) : KeptOut s o := by
  cases o with
  | next u => exact a.trans h
  | fault _ => trivial
  | refused _ => trivial

/-- A fold of operations that keep the state keeps it. -/
theorem foldl_kept {α : Type} (f : State → α → State) (h : ∀ s x, Kept s (f s x)) (l : List α) (s : State) : Kept s (l.foldl f s) := by
  induction l generalizing s with
  | nil => exact .refl s
  | cons x l ih => rw [List.foldl_cons]; exact (h s x).trans (ih _)

end Sys2Proof.Machine
end

