-- ==== Sys2Proof/Laws/KernelOps.lean ====
section
/-! SUPPORT. What the definitions of Machine/Ops.lean leave unchanged: the kernel of the state. -/

namespace Sys2Proof.Machine

@[simp] theorem advanceTo_kernel (t : Nat) (s : State) :
    (advanceTo t s).kernel = s.kernel := by
  simp [advanceTo]

@[simp] theorem emit_kernel (o : Output) (s : State) :
    (emit o s).kernel = s.kernel := by
  simp [emit]

@[simp] theorem freshNat_kernel (s : State) :
    (freshNat s).2.kernel = s.kernel := by
  simp [freshNat]

@[simp] theorem freshBytes_kernel (n : Nat) (s : State) :
    (freshBytes n s).2.kernel = s.kernel := by
  simp [freshBytes]

@[simp] theorem setMbxLane_kernel (pod l : Nat) (x : MbxLane) (s : State) :
    (setMbxLane pod l x s).kernel = s.kernel := by
  simp [setMbxLane]

@[simp] theorem updMbxLane_kernel (pod l : Nat) (f : MbxLane → MbxLane) (s : State) :
    (updMbxLane pod l f s).kernel = s.kernel := by
  simp [updMbxLane]

@[simp] theorem updPod_kernel (n : Nat) (f : Pod → Pod) (s : State) :
    (updPod n f s).kernel = s.kernel := by
  simp [updPod]

@[simp] theorem bump_kernel (id n : Nat) (s : State) :
    (bump id n s).kernel = s.kernel := by
  unfold bump; (repeat' split) <;> simp <;> (repeat' split) <;> simp

@[simp] theorem pmcCount_kernel (code : Nat) (a : Attr) (n : Nat) (s : State) :
    (pmcCount code a n s).1.kernel = s.kernel := by
  simp [pmcCount]

@[simp] theorem sendMsix_kernel (fn v : Nat) (s : State) :
    (sendMsix fn v s).kernel = s.kernel := by
  unfold sendMsix; (repeat' split) <;> simp

theorem ddrAccept_kernel (type : Nat) (payload : List Word) (s : State) (t : State) (h : (ddrAccept type payload s) = some t) :
    t.kernel = s.kernel := by
  unfold ddrAccept at h
  simp only [] at h
  split at h
  · cases h; simp
  · split at h
    · split at h
      · cases h
      · cases h; simp
    · cases h

@[simp] theorem portAccept_kernel (type : Nat) (payload : List Word) (s : State) :
    (portAccept type payload s).kernel = s.kernel := by
  simp [portAccept]

@[simp] theorem ddrDrop_kernel (source : Nat) (s : State) :
    (ddrDrop source s).kernel = s.kernel := by
  simp [ddrDrop]

@[simp] theorem ddrFeed_kernel (source type : Nat) (payload : List Word) (s : State) :
    (ddrFeed source type payload s).kernel = s.kernel := by
  unfold ddrFeed
  simp only []
  split
  · rename_i s' h
    obtain ⟨u, hu, ht⟩ := Option.bind_eq_some_iff.1 h
    rw [ddrAccept_kernel _ _ _ _ ht]
    split at hu
    · cases hu; rfl
    · obtain ⟨w, hw, rfl⟩ := Option.map_eq_some_iff.1 hu
      simpa using ddrAccept_kernel _ _ _ _ hw
  · simp

@[simp] theorem portFeed_kernel (source type : Nat) (payload : List Word) (s : State) :
    (portFeed source type payload s).kernel = s.kernel := by
  unfold portFeed; (repeat' split) <;> simp <;> (repeat' split) <;> simp

@[simp] theorem traceFeed_kernel (source type : Nat) (payload : List Word) (s : State) :
    (traceFeed source type payload s).kernel = s.kernel := by
  unfold traceFeed; (repeat' split) <;> simp <;> (repeat' split) <;> simp

@[simp] theorem traceTime_kernel (s : State) :
    (traceTime s).kernel = s.kernel := by
  unfold traceTime; (repeat' split) <;> simp <;> (repeat' split) <;> simp

@[simp] theorem updEvtRing_kernel (fn : Nat) (f : EvtRing → EvtRing) (s : State) :
    (updEvtRing fn f s).kernel = s.kernel := by
  simp [updEvtRing]

@[simp] theorem ringDrop_kernel (fn : Nat) (s : State) :
    (ringDrop fn s).kernel = s.kernel := by
  simp [ringDrop]

@[simp] theorem noteRec_kernel (r : EventRec) (s : State) :
    (noteRec r s).kernel = s.kernel := by
  simp [noteRec]

@[simp] theorem routeRec_kernel (r : EventRec) (s : State) :
    (routeRec r s).1.kernel = s.kernel := by
  unfold routeRec; (repeat' split) <;> simp <;> (repeat' split) <;> simp

@[simp] theorem accumulate_kernel (r : EventRec) (s : State) :
    (accumulate r s).kernel = s.kernel := by
  simp [accumulate]

@[simp] theorem startWindow_kernel (source cause : Nat) (s : State) :
    (startWindow source cause s).kernel = s.kernel := by
  unfold startWindow; (repeat' split) <;> simp <;> (repeat' split) <;> simp

@[simp] theorem issueF_kernel  (z0 : Nat) (z1 : EventRec) (z2 : State) :
    (issueF z0 z1 z2).kernel = z2.kernel := by
  induction z0 generalizing z1 z2 with
  | zero => simp [issueF]
  | succ f ih =>
    unfold issueF
    split
    rename_i s faulted ovf h
    have k : s.kernel = z2.kernel := by simpa using kernel_of_pair h (routeRec_kernel _ _)
    refine (foldl_kernel _ ?_ _ _).trans ?_
    · intro s x
      simp only []
      split <;> simp [ih]
    · simp only []
      split
      · split <;> simp [ih, k]
      · exact k

@[simp] theorem issueRec_kernel (r : EventRec) (s : State) :
    (issueRec r s).kernel = s.kernel := by
  simp [issueRec]

@[simp] theorem raiseRec_kernel (r : EventRec) (s : State) :
    (raiseRec r s).kernel = s.kernel := by
  unfold raiseRec; (repeat' split) <;> simp

@[simp] theorem raise_kernel (source cause arg0 arg1 : Nat) (s : State) :
    (raise source cause arg0 arg1 s).kernel = s.kernel := by
  simp [raise]

@[simp] theorem raiseSys_kernel (e cause arg0 arg1 : Nat) (s : State) :
    (raiseSys e cause arg0 arg1 s).kernel = s.kernel := by
  simp [raiseSys]

@[simp] theorem raisePort_kernel (p e cause arg0 arg1 : Nat) (s : State) :
    (raisePort p e cause arg0 arg1 s).kernel = s.kernel := by
  simp [raisePort]

@[simp] theorem raiseTrunk_kernel (n e cause arg0 arg1 : Nat) (s : State) :
    (raiseTrunk n e cause arg0 arg1 s).kernel = s.kernel := by
  simp [raiseTrunk]

@[simp] theorem raiseSense_kernel (e cause arg0 arg1 : Nat) (s : State) :
    (raiseSense e cause arg0 arg1 s).kernel = s.kernel := by
  simp [raiseSense]

@[simp] theorem count_kernel (code : Nat) (a : Attr) (n : Nat) (s : State) :
    (count code a n s).kernel = s.kernel := by
  unfold count
  split
  rename_i u ovf h
  exact (foldl_kernel _ (fun _ _ => raiseSys_kernel ..) _ _).trans (kernel_of_pair h (pmcCount_kernel _ _ _ _))

@[simp] theorem hostWrite_kernel (fn addr : Nat) (data : Bytes) (s : State) :
    (hostWrite fn addr data s).kernel = s.kernel := by
  simp [hostWrite]

@[simp] theorem deliverVector_kernel (fn : Nat) (s : State) :
    (deliverVector fn s).kernel = s.kernel := by
  unfold deliverVector; (repeat' split) <;> simp <;> (repeat' split) <;> simp

@[simp] theorem updPort_kernel (p : Nat) (f : Port → Port) (s : State) :
    (updPort p f s).kernel = s.kernel := by
  simp [updPort]

@[simp] theorem updMac_kernel (p : Nat) (f : PortMac → PortMac) (s : State) :
    (updMac p f s).kernel = s.kernel := by
  simp [updMac]

@[simp] theorem updLine_kernel (p : Nat) (f : PortLine → PortLine) (s : State) :
    (updLine p f s).kernel = s.kernel := by
  simp [updLine]

@[simp] theorem eraseRx_kernel (p from_ to_ : Nat) (s : State) :
    (eraseRx p from_ to_ s).kernel = s.kernel := by
  simp [eraseRx]

@[simp] theorem parityFail_kernel (area unit_ : Nat) (slot : Bool) (s : State) :
    (parityFail area unit_ slot s).kernel = s.kernel := by
  simp [parityFail]

@[simp] theorem ringPut_kernel (r : RingAt) (prod : Nat) (data : Bytes) (s : State) :
    (ringPut r prod data s).kernel = s.kernel := by
  unfold ringPut; (repeat' split) <;> simp <;> (repeat' split) <;> simp

@[simp] theorem ringWrite_kernel (r : RingAt) (prod cons : Nat) (data : Bytes) (consumer : Option Nat) (s : State) :
    (ringWrite r prod cons data consumer s).1.kernel = s.kernel := by
  unfold ringWrite; (repeat' split) <;> simp <;> (repeat' split) <;> simp

@[simp] theorem flushWindows_kernel (source : Nat) (s : State) :
    (flushWindows source s).kernel = s.kernel := by
  unfold flushWindows; (repeat' split) <;> (try simp) <;> (apply foldl_kernel; intro s x; (repeat' split) <;> simp)

@[simp] theorem resetSource_kernel (source : Nat) (s : State) :
    (resetSource source s).kernel = s.kernel := by
  simp [resetSource]

@[simp] theorem resetSources_kernel (l : List Nat) (s : State) :
    (resetSources l s).kernel = s.kernel := by
  unfold resetSources; (repeat' split) <;> (try simp) <;> (apply foldl_kernel; intro s x; (repeat' split) <;> simp)

end Sys2Proof.Machine
end

