-- ==== Sys2Proof/Laws/KernelMailbox.lean ====
section
/-! SUPPORT. What the definitions of Machine/Mailbox.lean leave unchanged: the kernel of the state. -/

namespace Sys2Proof.Machine

@[simp] theorem mbxFault_kernel (pod l : Nat) (s : State) :
    (mbxFault pod l s).kernel = s.kernel := by
  simp [mbxFault]

theorem writeRecord_kernel (pod l : Nat) (r : Bytes) (raiseIt : Bool) (s : State) (t : State) (h : (writeRecord pod l r raiseIt s) = some t) :
    t.kernel = s.kernel := by
  unfold writeRecord at h; (repeat' split at h) <;> simp at h <;> (try subst h) <;> simp

@[simp] theorem postRecord_kernel (pod l : Nat) (r : Bytes) (raiseIt : Bool) (s : State) :
    (postRecord pod l r raiseIt s).kernel = s.kernel := by
  unfold postRecord
  simp only []
  split
  · simp
  · split
    · rename_i h; exact writeRecord_kernel _ _ _ _ _ _ h
    · simp

@[simp] theorem writeResponse_kernel (c : Caller) (resp : Bytes) (s : State) :
    (writeResponse c resp s).1.kernel = s.kernel := by
  unfold writeResponse; (repeat' split) <;> (try simp) <;> (apply foldl_kernel; intro s x; (repeat' split) <;> simp)

@[simp] theorem forget_kernel (c : Caller) (s : State) :
    (forget c s).kernel = s.kernel := by
  simp [forget]

@[simp] theorem completeNow_kernel (c : Caller) (st : Status) (resp : Bytes) (s : State) :
    (completeNow c st resp s).kernel = s.kernel := by
  unfold completeNow; simp only []; (repeat' split) <;> (try (rename_i heq; have e := congrArg (fun p => p.1.kernel) heq; simp at e)) <;> simp_all

@[simp] theorem mirrorConfig_kernel (k : Cmd) (st : Status) (s : State) :
    (mirrorConfig k st s).kernel = s.kernel := by
  unfold mirrorConfig; (repeat' split) <;> simp

@[simp] theorem mirrorHeld_kernel (c : Caller) (st : Status) (s : State) :
    (mirrorHeld c st s).kernel = s.kernel := by
  unfold mirrorHeld; (repeat' split) <;> simp

@[simp] theorem complete_kernel (c : Caller) (st : Status) (resp : Bytes) (s : State) :
    (complete c st resp s).kernel = s.kernel := by
  unfold complete; (repeat' split) <;> simp <;> (repeat' split) <;> simp

@[simp] theorem completeStatus_kernel (c : Caller) (st : Status) (s : State) :
    (completeStatus c st s).kernel = s.kernel := by
  simp [completeStatus]

@[simp] theorem deliverNotice_kernel (c : Caller) (n : Notice) (s : State) :
    (deliverNotice c n s).kernel = s.kernel := by
  simp [deliverNotice]

@[simp] theorem notify_kernel (pod l code : Nat) (body : Bytes) (s : State) :
    (notify pod l code body s).kernel = s.kernel := by
  unfold notify; (repeat' split) <;> simp <;> (repeat' split) <;> simp

@[simp] theorem answer_kernel (st : Status) (s : State) :
    (answer st s).1.kernel = s.kernel := by
  simp [answer]

@[simp] theorem hold_kernel (fm : Form) (c : Caller) (req : Bytes) (committed : Bool) (s : State) :
    (hold fm c req committed s).kernel = s.kernel := by
  simp [hold]

@[simp] theorem putWaiting_kernel (fm : Form) (c : Caller) (req : Bytes) (s : State) :
    (putWaiting fm c req s).kernel = s.kernel := by
  unfold putWaiting; (repeat' split) <;> simp

@[simp] theorem runCmd_kernel (fm : Form) (c : Caller) (req : Bytes) (body : State → State × Reply) (s : State)
    (hb : (body s).1.kernel = s.kernel) : (runCmd fm c req body s).kernel = s.kernel := by
  unfold runCmd
  (repeat' split) <;> simp
  all_goals exact kernel_of_pair ‹_› hb

/-- A mailbox command keeps what its own meaning keeps. -/
theorem runCmd_kept (fm : Form) (c : Caller) (req : Bytes) (body : State → State × Reply) (s : State) (hb : Kept s (body s).1) :
    Kept s (runCmd fm c req body s) := by
  unfold runCmd
  (repeat' split) <;> try (refine .of_kernel ?_; simp; done)
  all_goals
    rename_i h
    rw [h] at hb
    exact hb.andThen (by simp)

end Sys2Proof.Machine
end

