-- ==== Sys2Proof/Laws/KernelTimeOps.lean ====
section
/-! SUPPORT. What the definitions of Machine/TimeOps.lean leave unchanged: the kernel of the state. -/

namespace Sys2Proof.Machine

@[simp] theorem advanceToFrame_kernel (f : Nat) (s : State) :
    (advanceToFrame f s).kernel = s.kernel := by
  simp [advanceToFrame]

@[simp] theorem selectRef_kernel (r : Ref) (s : State) :
    (selectRef r s).kernel = s.kernel := by
  unfold selectRef; (repeat' split) <;> simp

@[simp] theorem loseRef_kernel (r : Ref) (s : State) :
    (loseRef r s).kernel = s.kernel := by
  unfold loseRef; (repeat' split) <;> simp <;> (repeat' split) <;> simp

@[simp] theorem gainRef_kernel (s : State) :
    (gainRef s).kernel = s.kernel := by
  unfold gainRef; (repeat' split) <;> simp

@[simp] theorem scheduleStep_kernel (r : Ref) (offset : Int) (s : State) :
    (scheduleStep r offset s).kernel = s.kernel := by
  simp [scheduleStep]

@[simp] theorem scheduleSlew_kernel (offset : Int) (s : State) :
    (scheduleSlew offset s).kernel = s.kernel := by
  simp [scheduleSlew]

@[simp] theorem noteLock_kernel (before : Nat) (s : State) :
    (noteLock before s).kernel = s.kernel := by
  unfold noteLock; (repeat' split) <;> simp

@[simp] theorem measureOffset_kernel (r : Ref) (offset : Int) (s : State) :
    (measureOffset r offset s).kernel = s.kernel := by
  unfold measureOffset; (repeat' split) <;> simp <;> (repeat' split) <;> simp

@[simp] theorem trunkRefFrame_kernel (tqValid delayValid : Bool) (tq : Nat) (s : State) :
    (trunkRefFrame tqValid delayValid tq s).kernel = s.kernel := by
  unfold trunkRefFrame; (repeat' split) <;> simp <;> (repeat' split) <;> simp

@[simp] theorem trunkRefLost_kernel (lane : Nat) (s : State) :
    (trunkRefLost lane s).kernel = s.kernel := by
  unfold trunkRefLost; (repeat' split) <;> simp <;> (repeat' split) <;> simp

end Sys2Proof.Machine
end

