-- ==== Sys2Proof/Laws/KernelTrunk.lean ====
section
/-! SUPPORT. What the definitions of Machine/Trunk.lean leave unchanged: the kernel of the state. -/

namespace Sys2Proof.Machine

@[simp] theorem updTrunkLane_kernel (n : Nat) (f : TrunkLane → TrunkLane) (s : State) :
    (updTrunkLane n f s).kernel = s.kernel := by
  simp [updTrunkLane]

@[simp] theorem endRestart_kernel (n : Nat) (s : State) :
    (endRestart n s).kernel = s.kernel := by
  simp [endRestart]

@[simp] theorem setStandbyPage_kernel (p : TsiPage) (s : State) :
    (setStandbyPage p s).kernel = s.kernel := by
  unfold setStandbyPage; (repeat' split) <;> simp

@[simp] theorem setStream_kernel (slot : Nat) (x : SlotStream) (s : State) :
    (setStream slot x s).kernel = s.kernel := by
  simp [setStream]

@[simp] theorem slotSend_kernel (slot : Nat) (it : StreamItem) (s : State) :
    (slotSend slot it s).kernel = s.kernel := by
  simp [slotSend]

@[simp] theorem drawStream_kernel (slot room : Nat) (s : State) :
    (drawStream slot room s).1.kernel = s.kernel := by
  simp [drawStream]

@[simp] theorem defectEvent_kernel (n e : Nat) (entry : Bool) (slots : Nat) (s : State) :
    (defectEvent n e entry slots s).kernel = s.kernel := by
  simp [defectEvent]

@[simp] theorem pairEvent_kernel (s : State) :
    (pairEvent s).kernel = s.kernel := by
  simp [pairEvent]

@[simp] theorem heartbeat_kernel (on : Bool) (s : State) :
    (heartbeat on s).kernel = s.kernel := by
  simp [heartbeat]

@[simp] theorem mirrorSend_kernel (r : MirrorRec) (s : State) :
    (mirrorSend r s).kernel = s.kernel := by
  unfold mirrorSend; (repeat' split) <;> simp

@[simp] theorem peerGone_kernel (s : State) :
    (peerGone s).kernel = s.kernel := by
  unfold peerGone; (repeat' split) <;> simp

@[simp] theorem noteMirror_kernel (s : State) :
    (noteMirror s).kernel = s.kernel := by
  unfold noteMirror; (repeat' split) <;> simp <;> (repeat' split) <;> simp

@[simp] theorem laneLost_kernel (n : Nat) (s : State) :
    (laneLost n s).kernel = s.kernel := by
  simp [laneLost]

@[simp] theorem enterLos_kernel (n : Nat) (s : State) :
    (enterLos n s).kernel = s.kernel := by
  simp [enterLos]

@[simp] theorem slotEvents_kernel (n e : Nat) (f : SlotRx → Bool) (old new : Table SlotRx) (s : State) :
    (slotEvents n e f old new s).kernel = s.kernel := by
  unfold slotEvents; (repeat' split) <;> simp <;> (repeat' split) <;> simp

@[simp] theorem evaluateSlots_kernel (n : Nat) (s : State) :
    (evaluateSlots n s).kernel = s.kernel := by
  unfold evaluateSlots; (repeat' split) <;> simp <;> (repeat' split) <;> simp

theorem onLane_keeps (n : Nat) (s : State) (f : State → State) (hf : (f s).kernel = s.kernel) :
    Keeps s (onLane n s f) := by
  unfold onLane; (repeat' split) <;> simp [hf]

theorem execFasFoundInFrame_keeps (lane : Nat) (s : State) : Keeps s (execFasFoundInFrame lane s) := by
  refine onLane_keeps _ _ _ ?_; simp

theorem execFasMissingOof_keeps (lane : Nat) (s : State) : Keeps s (execFasMissingOof lane s) := by
  refine onLane_keeps _ _ _ ?_; simp

theorem execCodewordLockChange_keeps (lane : Nat) (good : Bool) (s : State) : Keeps s (execCodewordLockChange lane good s) := by
  refine onLane_keeps _ _ _ ?_; simp

theorem execLosEntry_keeps (lane : Nat) (signal : Bool) (s : State) : Keeps s (execLosEntry lane signal s) := by
  refine onLane_keeps _ _ _ ?_; simp

@[simp] theorem lofReported_kernel (n : Nat) (s : State) :
    (lofReported n s).kernel = s.kernel := by
  simp [lofReported]

theorem execLosExit_keeps (lane : Nat) (s : State) : Keeps s (execLosExit lane s) := by
  refine onLane_keeps _ _ _ ?_; (repeat' split) <;> simp

theorem execLofEntry_keeps (lane : Nat) (s : State) : Keeps s (execLofEntry lane s) := by
  refine onLane_keeps _ _ _ ?_; (repeat' split) <;> simp

theorem execLofExit_keeps (lane : Nat) (s : State) : Keeps s (execLofExit lane s) := by
  refine onLane_keeps _ _ _ ?_; simp

theorem execSdEvaluation_keeps (lane corrected received : Nat) (s : State) : Keeps s (execSdEvaluation lane corrected received s) := by
  refine onLane_keeps _ _ _ ?_; simp

theorem execSlotDefectChange_keeps (lane : Nat) (s : State) : Keeps s (execSlotDefectChange lane s) := by
  refine onLane_keeps _ _ _ ?_; simp

theorem execTrunkFifoShortfall_keeps (lane : Nat) (transmit : Bool) (s : State) : Keeps s (execTrunkFifoShortfall lane transmit s) := by
  refine onLane_keeps _ _ _ ?_; simp

@[simp] theorem crossConnect_kernel (lane : Nat) (received : Nat → Nat → Bytes) (s : State) :
    (crossConnect lane received s).kernel = s.kernel := by
  simp [crossConnect]

theorem execTrunkFrameReceive_keeps (lane : Nat) (frame : TrunkRx) (s : State) : Keeps s (execTrunkFrameReceive lane frame s) := by
  refine onLane_keeps _ _ _ ?_; simp

theorem execEthernetChunkSend_keeps (lane slot : Nat) (s : State) : Keeps s (execEthernetChunkSend lane slot s) := by
  refine onLane_keeps _ _ _ ?_; simp

theorem execEthernetChunkReceive_keeps (lane slot seq : Nat) (fcsOk : Bool) (label : Nat) (body : ChunkBody) (s : State) : Keeps s (execEthernetChunkReceive lane slot seq fcsOk label body s) := by
  refine onLane_keeps _ _ _ ?_; simp

theorem execEthernetChunkTimeout_keeps (slot : Nat) (s : State) : Keeps s (execEthernetChunkTimeout slot s) := by
  refine onLane_keeps _ _ _ ?_; simp

theorem execPauseReceived_keeps (lane quanta : Nat) (s : State) : Keeps s (execPauseReceived lane quanta s) := by
  refine onLane_keeps _ _ _ ?_; simp

@[simp] theorem switchPage_kernel (s : State) :
    (switchPage s).kernel = s.kernel := by
  unfold switchPage; (repeat' split) <;> (try simp) <;> (apply foldl_kernel; intro s x; (repeat' split) <;> simp)

theorem execTsiCommitBoundary_keeps (s : State) : Keeps s (execTsiCommitBoundary s) := by
  unfold execTsiCommitBoundary; (repeat' split) <;> simp

theorem execTsiCopyDone_keeps (s : State) : Keeps s (execTsiCopyDone s) := by
  simp [execTsiCopyDone]

@[simp] theorem restartLane_kernel (n : Nat) (c : TrunkCfg) (s : State) :
    (restartLane n c s).kernel = s.kernel := by
  simp [restartLane]

@[simp] theorem trunkConfigureBody_kernel (req : Bytes) (s : State) :
    (trunkConfigureBody req s).1.kernel = s.kernel := by
  unfold trunkConfigureBody; (repeat' split) <;> simp <;> (repeat' split) <;> simp

theorem execTrunkConfigure_keeps (c : Caller) (req : Bytes) (s : State) : Keeps s (execTrunkConfigure c req s) := by
  refine runCmd_kernel _ _ _ _ _ ?_; simp

@[simp] theorem tsiWriteBody_kernel (req : Bytes) (s : State) :
    (tsiWriteBody req s).1.kernel = s.kernel := by
  unfold tsiWriteBody; (repeat' split) <;> simp <;> (repeat' split) <;> simp

theorem execTsiWrite_keeps (c : Caller) (req : Bytes) (s : State) : Keeps s (execTsiWrite c req s) := by
  refine runCmd_kernel _ _ _ _ _ ?_; simp

@[simp] theorem tsiModeBody_kernel (req : Bytes) (s : State) :
    (tsiModeBody req s).1.kernel = s.kernel := by
  unfold tsiModeBody; (repeat' split) <;> simp

theorem execTsiMode_keeps (c : Caller) (req : Bytes) (s : State) : Keeps s (execTsiMode c req s) := by
  refine runCmd_kernel _ _ _ _ _ ?_; simp

@[simp] theorem tsiCommitBody_kernel (s : State) :
    (tsiCommitBody s).1.kernel = s.kernel := by
  unfold tsiCommitBody; (repeat' split) <;> simp

theorem execTsiCommit_keeps (c : Caller) (req : Bytes) (s : State) : Keeps s (execTsiCommit c req s) := by
  refine runCmd_kernel _ _ _ _ _ ?_; simp

@[simp] theorem tsiReadBody_kernel (req : Bytes) (s : State) :
    (tsiReadBody req s).1.kernel = s.kernel := by
  unfold tsiReadBody; (repeat' split) <;> simp <;> (repeat' split) <;> simp

theorem execTsiRead_keeps (c : Caller) (req : Bytes) (s : State) : Keeps s (execTsiRead c req s) := by
  refine runCmd_kernel _ _ _ _ _ ?_; simp

@[simp] theorem pairConfigureBody_kernel (req : Bytes) (s : State) :
    (pairConfigureBody req s).1.kernel = s.kernel := by
  unfold pairConfigureBody; (repeat' split) <;> simp

theorem execPairConfigure_keeps (c : Caller) (req : Bytes) (s : State) : Keeps s (execPairConfigure c req s) := by
  refine runCmd_kernel _ _ _ _ _ ?_; simp

@[simp] theorem pairSwitchBody_kernel (s : State) :
    (pairSwitchBody s).1.kernel = s.kernel := by
  unfold pairSwitchBody; (repeat' split) <;> simp

theorem execPairSwitch_keeps (c : Caller) (req : Bytes) (s : State) : Keeps s (execPairSwitch c req s) := by
  refine runCmd_kernel _ _ _ _ _ ?_; simp

end Sys2Proof.Machine
end

