-- ==== Sys2Proof/Laws/KernelChains.lean ====
section
/-! SUPPORT. What the definitions of Machine/Chains.lean leave unchanged: the kernel of the state. -/

namespace Sys2Proof.Machine

@[simp] theorem updChain_kernel (c : Nat) (f : Chain → Chain) (s : State) :
    (updChain c f s).kernel = s.kernel := by
  simp [updChain]

@[simp] theorem updPosition_kernel (c p : Nat) (f : Position → Position) (s : State) :
    (updPosition c p f s).kernel = s.kernel := by
  simp [updPosition]

@[simp] theorem updInput_kernel (n : Nat) (f : Input → Input) (s : State) :
    (updInput n f s).kernel = s.kernel := by
  simp [updInput]

@[simp] theorem updConverter_kernel (j : Nat) (f : Converter → Converter) (s : State) :
    (updConverter j f s).kernel = s.kernel := by
  simp [updConverter]

@[simp] theorem linStage_kernel (s : State) (c pos : Nat) (y : Int) (at_ : Word) :
    (linStage s c pos y at_).1.kernel = s.kernel := by
  unfold linStage; (repeat' split) <;> simp <;> (repeat' split) <;> simp

@[simp] theorem setComparator_kernel (c p i : Nat) (x : Comparator) (s : State) :
    (setComparator c p i x s).kernel = s.kernel := by
  simp [setComparator]

@[simp] theorem comparatorEvent_kernel (c p i : Nat) (enter : Bool) (cause : Nat) (value : Int) (at_ : Word) (q : Nat) (s : State) :
    (comparatorEvent c p i enter cause value at_ q s).kernel = s.kernel := by
  simp [comparatorEvent]

@[simp] theorem evaluate_kernel (c p i : Nat) (y : Int) (at_ : Word) (q : Nat) (s : State) :
    (evaluate c p i y at_ q s).kernel = s.kernel := by
  unfold evaluate; (repeat' split) <;> simp <;> (repeat' split) <;> simp

@[simp] theorem blockDropped_kernel (c p : Nat) (s : State) :
    (blockDropped c p s).kernel = s.kernel := by
  unfold blockDropped; (repeat' split) <;> simp <;> (repeat' split) <;> simp

@[simp] theorem blockDelivered_kernel (c p : Nat) (s : State) :
    (blockDelivered c p s).kernel = s.kernel := by
  simp [blockDelivered]

@[simp] theorem deliverBlock_kernel (c p : Nat) (b : Block) (consumer : Option Nat) (s : State) :
    (deliverBlock c p b consumer s).kernel = s.kernel := by
  unfold deliverBlock
  simp only []
  split
  · simp
  · split <;> simp
  · split <;> simp

@[simp] theorem deliverReady_kernel (c p : Nat) (consumer : Option Nat) (s : State) :
    (deliverReady c p consumer s).kernel = s.kernel := by
  unfold deliverReady; (repeat' split) <;> (try simp) <;> (apply foldl_kernel; intro s x; (repeat' split) <;> simp)

@[simp] theorem closeBlock_kernel (c p : Nat) (s : State) :
    (closeBlock c p s).kernel = s.kernel := by
  unfold closeBlock; (repeat' split) <;> simp <;> (repeat' split) <;> simp

@[simp] theorem closeBlocks_kernel (c : Nat) (s : State) :
    (closeBlocks c s).kernel = s.kernel := by
  unfold closeBlocks; (repeat' split) <;> (try simp) <;> (apply foldl_kernel; intro s x; (repeat' split) <;> simp)

@[simp] theorem chainGap_kernel (c lost : Nat) (s : State) :
    (chainGap c lost s).kernel = s.kernel := by
  simp [chainGap]

@[simp] theorem restartComparators_kernel (c p : Nat) (s : State) :
    (restartComparators c p s).kernel = s.kernel := by
  unfold restartComparators; (repeat' split) <;> simp <;> (repeat' split) <;> simp

@[simp] theorem restartChain_kernel (c : Nat) (s : State) :
    (restartChain c s).kernel = s.kernel := by
  unfold restartChain; (repeat' split) <;> (try simp) <;> (apply foldl_kernel; intro s x; (repeat' split) <;> simp)

@[simp] theorem takeGainChange_kernel (c : Nat) (s : State) :
    (takeGainChange c s).1.kernel = s.kernel := by
  unfold takeGainChange; (repeat' split) <;> simp <;> (repeat' split) <;> simp

@[simp] theorem openBlock_kernel (c p : Nat) (at_ : Word) (s : State) :
    (openBlock c p at_ s).kernel = s.kernel := by
  unfold openBlock; (repeat' split) <;> simp <;> (repeat' split) <;> simp

@[simp] theorem takeRate_kernel (c p : Nat) (s : State) :
    (takeRate c p s).kernel = s.kernel := by
  unfold takeRate; (repeat' split) <;> simp

@[simp] theorem appendOutput_kernel (c p : Nat) (y : Int) (flags : Nat) (consumer : Option Nat) (s : State) :
    (appendOutput c p y flags consumer s).kernel = s.kernel := by
  unfold appendOutput; (repeat' split) <;> simp <;> (repeat' split) <;> simp

@[simp] theorem chainEmit_kernel (c p last : Nat) (x : Int) (sat1 beyond tx gain : Bool) (consumer : Option Nat) (s : State) :
    (chainEmit c p last x sat1 beyond tx gain consumer s).kernel = s.kernel := by
  simp [chainEmit]

@[simp] theorem enterSample_kernel (c p n : Nat) (v : Int) (beyond gain : Bool) (s : State) :
    (enterSample c p n v beyond gain s).kernel = s.kernel := by
  simp [enterSample]

@[simp] theorem endGroup_kernel (c p n : Nat) (consumer : Option Nat) (s : State) :
    (endGroup c p n consumer s).kernel = s.kernel := by
  simp [endGroup]

@[simp] theorem takeSample_kernel (c p : Nat) (consumer : Option Nat) (s : State) (e : Nat × TapSample × Nat) :
    (takeSample c p consumer s e).kernel = s.kernel := by
  simp [takeSample]

theorem execChainOutput_keeps (chain_ pos last : Nat) (samples : List TapSample) (poisons : List Nat) (consumer : Option Nat) (s : State) : Keeps s (execChainOutput chain_ pos last samples poisons consumer s) := by
  simp [execChainOutput]

theorem execBankSwapEffect_keeps (swap : BankSwap) (s : State) : Keeps s (execBankSwapEffect swap s) := by
  unfold execBankSwapEffect; dsimp only; (repeat' split) <;> simp

@[simp] theorem chainConfigureBody_kernel (c : Caller) (req : Bytes) (s : State) :
    (chainConfigureBody c req s).1.kernel = s.kernel := by
  unfold chainConfigureBody; (repeat' split) <;> simp <;> (repeat' split) <;> simp

theorem execChainConfigure_keeps (c : Caller) (req : Bytes) (s : State) : Keeps s (execChainConfigure c req s) := by
  refine runCmd_kernel _ _ _ _ _ ?_; simp

@[simp] theorem chainLoadbankBody_kernel (c : Caller) (req : Bytes) (s : State) :
    (chainLoadbankBody c req s).1.kernel = s.kernel := by
  unfold chainLoadbankBody; (repeat' split) <;> simp <;> (repeat' split) <;> simp

theorem execChainLoadbank_keeps (c : Caller) (req : Bytes) (s : State) : Keeps s (execChainLoadbank c req s) := by
  refine runCmd_kernel _ _ _ _ _ ?_; simp

@[simp] theorem chainSwapBody_kernel (c : Caller) (req : Bytes) (s : State) :
    (chainSwapBody c req s).1.kernel = s.kernel := by
  unfold chainSwapBody; (repeat' split) <;> simp <;> (repeat' split) <;> simp

theorem execChainSwap_keeps (c : Caller) (req : Bytes) (s : State) : Keeps s (execChainSwap c req s) := by
  refine runCmd_kernel _ _ _ _ _ ?_; simp

@[simp] theorem chainThresholdBody_kernel (c : Caller) (req : Bytes) (s : State) :
    (chainThresholdBody c req s).1.kernel = s.kernel := by
  unfold chainThresholdBody; (repeat' split) <;> simp <;> (repeat' split) <;> simp

theorem execChainThreshold_keeps (c : Caller) (req : Bytes) (s : State) : Keeps s (execChainThreshold c req s) := by
  refine runCmd_kernel _ _ _ _ _ ?_; simp

end Sys2Proof.Machine
end

