-- ==== Sys2Proof/Laws/KernelSensing.lean ====
section
/-! SUPPORT. What the definitions of Machine/Sensing.lean leave unchanged: the kernel of the state. -/

namespace Sys2Proof.Machine

@[simp] theorem setPdGroup_kernel (g : Nat) (x : PdGroup) (s : State) :
    (setPdGroup g x s).kernel = s.kernel := by
  simp [setPdGroup]

@[simp] theorem setI2cPort_kernel (i : Nat) (x : I2cPort) (s : State) :
    (setI2cPort i x s).kernel = s.kernel := by
  simp [setI2cPort]

@[simp] theorem journalWrite_kernel (w : JWrite) (s : State) :
    (journalWrite w s).kernel = s.kernel := by
  simp [journalWrite]

@[simp] theorem markFault_kernel (n : Nat) (s : State) : (markFault n s).kernel = s.kernel := by
  simp [markFault]

@[simp] theorem flagEvent_kernel (n kind : Nat) (entry : Bool) (s : State) :
    (flagEvent n kind entry s).kernel = s.kernel := by
  cases entry <;> simp [flagEvent]

@[simp] theorem noteCompliance_kernel (n : Nat) (compliant : Bool) (s : State) :
    (noteCompliance n compliant s).kernel = s.kernel := by
  unfold noteCompliance; (repeat' split) <;> simp <;> (repeat' split) <;> simp

theorem scanCodes_kernel (conv : Nat) (codes : List ScanCode) (sc : Scan) (s : State) :
    (execScanFrameStart.scanCodes conv codes sc s).kernel = s.kernel := by
  unfold execScanFrameStart.scanCodes
  refine foldl_kernel _ ?_ _ _
  intro s x
  split <;> simp

theorem execScanFrameStart_keeps (conv : Nat) (codes : List ScanCode) (s : State) : Keeps s (execScanFrameStart conv codes s) := by
  unfold execScanFrameStart
  (repeat' split) <;> simp <;> (repeat' split) <;> simp [scanCodes_kernel]

theorem execChargeReset_keeps (input : Nat) (code : Int) (s : State) : Keeps s (execChargeReset input code s) := by
  simp [execChargeReset]

theorem execClampFlagChange_keeps (input_ : Nat) (present : Bool) (s : State) : Keeps s (execClampFlagChange input_ present s) := by
  simp [execClampFlagChange]

theorem execCommonModeFlagChange_keeps (input_ : Nat) (cmMv : Int) (s : State) : Keeps s (execCommonModeFlagChange input_ cmMv s) := by
  unfold execCommonModeFlagChange; (repeat' split) <;> simp

theorem execDieTempUpdate_keeps (sensing max min : Int) (s : State) : Keeps s (execDieTempUpdate sensing max min s) := by
  simp [execDieTempUpdate]

theorem execPdPulseWindowEnd_keeps (group source : Nat) (pulse : PdPulse) (s : State) : Keeps s (execPdPulseWindowEnd group source pulse s) := by
  unfold execPdPulseWindowEnd
  refine keeps_if trivial ?_
  dsimp only
  split
  · rfl
  · exact keeps_if rfl (keeps_if (setPdGroup_kernel ..) (setPdGroup_kernel ..))

theorem execPdClusterClose_keeps (group : Nat) (consumer : Option Nat) (s : State) : Keeps s (execPdClusterClose group consumer s) := by
  unfold execPdClusterClose; (repeat' split) <;> simp <;> (repeat' split) <;> simp

@[simp] theorem endI2c_kernel (i result acked : Nat) (data : Bytes) (s : State) :
    (endI2c i result acked data s).kernel = s.kernel := by
  unfold endI2c; (repeat' split) <;> simp

theorem execI2cTransferStart_keeps (port : Nat) (s : State) : Keeps s (execI2cTransferStart port s) := by
  unfold execI2cTransferStart; (repeat' split) <;> simp <;> (repeat' split) <;> simp

theorem execI2cArbitrationLoss_keeps (port : Nat) (s : State) : Keeps s (execI2cArbitrationLoss port s) := by
  unfold execI2cArbitrationLoss; (repeat' split) <;> simp <;> (repeat' split) <;> simp

theorem execI2cSclTimeout_keeps (held : BusHeld) (s : State) : Keeps s (execI2cSclTimeout held s) := by
  unfold execI2cSclTimeout; (repeat' split) <;> simp <;> (repeat' split) <;> simp

theorem execI2cBusNotFreeTimeout_keeps (port : Nat) (s : State) : Keeps s (execI2cBusNotFreeTimeout port s) := by
  unfold execI2cBusNotFreeTimeout; (repeat' split) <;> simp

theorem execI2cTransferEnd_keeps (port result ackedBytes : Nat) (data : Bytes) (s : State) : Keeps s (execI2cTransferEnd port result ackedBytes data s) := by
  simp [execI2cTransferEnd]

@[simp] theorem senseConfigureBody_kernel (c : Caller) (req : Bytes) (s : State) :
    (senseConfigureBody c req s).1.kernel = s.kernel := by
  unfold senseConfigureBody; (repeat' split) <;> simp <;> (repeat' split) <;> simp

theorem execSenseConfigure_keeps (c : Caller) (req : Bytes) (s : State) : Keeps s (execSenseConfigure c req s) := by
  refine runCmd_kernel _ _ _ _ _ ?_; simp

@[simp] theorem senseChargeBody_kernel (c : Caller) (req : Bytes) (s : State) :
    (senseChargeBody c req s).1.kernel = s.kernel := by
  unfold senseChargeBody; (repeat' split) <;> simp <;> (repeat' split) <;> simp

theorem execSenseCharge_keeps (c : Caller) (req : Bytes) (s : State) : Keeps s (execSenseCharge c req s) := by
  refine runCmd_kernel _ _ _ _ _ ?_; simp

@[simp] theorem senseLincoefBody_kernel (c : Caller) (req : Bytes) (s : State) :
    (senseLincoefBody c req s).1.kernel = s.kernel := by
  unfold senseLincoefBody; (repeat' split) <;> simp <;> (repeat' split) <;> simp

theorem execSenseLincoef_keeps (c : Caller) (req : Bytes) (s : State) : Keeps s (execSenseLincoef c req s) := by
  refine runCmd_kernel _ _ _ _ _ ?_; simp

@[simp] theorem pdConfigureBody_kernel (c : Caller) (req : Bytes) (s : State) :
    (pdConfigureBody c req s).1.kernel = s.kernel := by
  unfold pdConfigureBody; (repeat' split) <;> simp <;> (repeat' split) <;> simp

theorem execPdConfigure_keeps (c : Caller) (req : Bytes) (s : State) : Keeps s (execPdConfigure c req s) := by
  refine runCmd_kernel _ _ _ _ _ ?_; simp

@[simp] theorem i2cConfigureBody_kernel (c : Caller) (req : Bytes) (s : State) :
    (i2cConfigureBody c req s).1.kernel = s.kernel := by
  unfold i2cConfigureBody; (repeat' split) <;> simp <;> (repeat' split) <;> simp

theorem execI2cConfigure_keeps (c : Caller) (req : Bytes) (s : State) : Keeps s (execI2cConfigure c req s) := by
  refine runCmd_kernel _ _ _ _ _ ?_; simp

@[simp] theorem i2cTransferBody_kernel (c : Caller) (req : Bytes) (s : State) :
    (i2cTransferBody c req s).1.kernel = s.kernel := by
  unfold i2cTransferBody; (repeat' split) <;> simp <;> (repeat' split) <;> simp

theorem execI2cTransfer_keeps (c : Caller) (req : Bytes) (s : State) : Keeps s (execI2cTransfer c req s) := by
  refine runCmd_kernel _ _ _ _ _ ?_; simp

@[simp] theorem resetChain_kernel (c : Nat) (s : State) :
    (resetChain c s).kernel = s.kernel := by
  simp [resetChain]

@[simp] theorem resetSense_kernel (kind i : Nat) (s : State) :
    (resetSense kind i s).kernel = s.kernel := by
  unfold resetSense; (repeat' split) <;> simp

@[simp] theorem senseAssignBody_kernel (req : Bytes) (s : State) :
    (senseAssignBody req s).1.kernel = s.kernel := by
  unfold senseAssignBody; (repeat' split) <;> simp <;> (repeat' split) <;> simp

theorem execSenseAssign_keeps (c : Caller) (req : Bytes) (s : State) : Keeps s (execSenseAssign c req s) := by
  refine runCmd_kernel _ _ _ _ _ ?_; simp

end Sys2Proof.Machine
end

