-- ==== Sys2Proof/Laws/KernelLinkBuffers.lean ====
section
/-! SUPPORT. What the definitions of Machine/LinkBuffers.lean leave unchanged: the kernel of the state. -/

namespace Sys2Proof.Machine

@[simp] theorem mirrorEp_kernel (e : Nat) (s : State) :
    (mirrorEp e s).kernel = s.kernel := by
  simp [mirrorEp]

@[simp] theorem updPodLbf_kernel (n : Nat) (f : PodLbf → PodLbf) (s : State) :
    (updPodLbf n f s).kernel = s.kernel := by
  simp [updPodLbf]

@[simp] theorem drawTag_kernel (k : Nat) (s : State) :
    (drawTag k s).2.kernel = s.kernel := by
  simp [drawTag]

@[simp] theorem tagStart_kernel (kind p ident pod_ : Nat) (s : State) :
    (tagStart kind p ident pod_ s).kernel = s.kernel := by
  unfold tagStart
  dsimp only
  split
  · rfl
  · split
    · rename_i h
      simpa [h] using drawTag_kernel (if kind ≤ 2 then (tagCfg s p).kf else (tagCfg s p).ks) s
    · rename_i u h
      have k : u.kernel = s.kernel := by
        simpa [h] using drawTag_kernel (if kind ≤ 2 then (tagCfg s p).kf else (tagCfg s p).ks) s
      split <;> simp [k]

@[simp] theorem tagCheck_kernel (kind p ident idx : Nat) (s : State) :
    (tagCheck kind p ident idx s).kernel = s.kernel := by
  simp [tagCheck]

@[simp] theorem tagEnd_kernel (kind p ident : Nat) (retired escalated : Bool) (attempts : Nat) (s : State) :
    (tagEnd kind p ident retired escalated attempts s).kernel = s.kernel := by
  unfold tagEnd; (repeat' split) <;> simp

@[simp] theorem updCphRing_kernel (p r : Nat) (f : CphRing → CphRing) (s : State) :
    (updCphRing p r f s).kernel = s.kernel := by
  simp [updCphRing]

@[simp] theorem cphFault_kernel (p r : Nat) (st : Status) (s : State) :
    (cphFault p r st s).kernel = s.kernel := by
  simp [cphFault]

@[simp] theorem cphRecord_kernel (p r kind : Nat) (e : JobEnd) (tag : Nat) (raiseIt : Bool) (s : State) :
    (cphRecord p r kind e tag raiseIt s).kernel = s.kernel := by
  unfold cphRecord; (repeat' split) <;> simp

@[simp] theorem setFlight_kernel (n : Nat) (f : Flight) (s : State) :
    (setFlight n f s).kernel = s.kernel := by
  simp [setFlight]

@[simp] theorem updFlight_kernel (n : Nat) (g : Flight → Flight) (s : State) :
    (updFlight n g s).kernel = s.kernel := by
  unfold updFlight; (repeat' split) <;> simp

@[simp] theorem updQueue_kernel (q : Nat) (f : Queue → Queue) (s : State) :
    (updQueue q f s).kernel = s.kernel := by
  simp [updQueue]

@[simp] theorem notePeaks_kernel (p : Nat) (s : State) :
    (notePeaks p s).kernel = s.kernel := by
  simp [notePeaks]

@[simp] theorem roleFailing_kernel (s : State) :
    (roleFailing s).kernel = s.kernel := by
  unfold roleFailing; (repeat' split) <;> simp

@[simp] theorem ddrError_kernel (s : State) :
    (ddrError s).kernel = s.kernel := by
  unfold ddrError; simp only []; (repeat' split) <;> (try (rename_i heq; have e := congrArg (fun p => p.1.kernel) heq; simp at e)) <;> simp_all

@[simp] theorem postOutcome_kernel (n : Nat) (f : Flight) (st : Status) (s : State) :
    (postOutcome n f st s).kernel = s.kernel := by
  unfold postOutcome; (repeat' split) <;> simp

@[simp] theorem releaseFlight_kernel (n : Nat) (st : Status) (s : State) :
    (releaseFlight n st s).kernel = s.kernel := by
  unfold releaseFlight; (repeat' split) <;> simp <;> (repeat' split) <;> simp

@[simp] theorem retireFlight_kernel (n : Nat) (st : Status) (s : State) :
    (retireFlight n st s).kernel = s.kernel := by
  unfold retireFlight; (repeat' split) <;> simp

@[simp] theorem admitVector_kernel (fn : Nat) (s : State) :
    (admitVector fn s).kernel = s.kernel := by
  unfold admitVector; (repeat' split) <;> simp <;> (repeat' split) <;> simp

@[simp] theorem holdSubmission_kernel (h : Held) (cause : Nat) (s : State) :
    (holdSubmission h cause s).kernel = s.kernel := by
  simp [holdSubmission]

@[simp] theorem cacheTouch_kernel (e : Nat) (s : State) :
    (cacheTouch e s).kernel = s.kernel := by
  unfold cacheTouch; (repeat' split) <;> simp <;> (repeat' split) <;> simp

@[simp] theorem admitFlight_kernel (n : Nat) (h : Held) (s : State) :
    (admitFlight n h s).kernel = s.kernel := by
  simp [admitFlight]

@[simp] theorem enqueueFlight_kernel (n : Nat) (data : Bytes) (s : State) :
    (enqueueFlight n data s).kernel = s.kernel := by
  unfold enqueueFlight; (repeat' split) <;> simp <;> (repeat' split) <;> simp

@[simp] theorem engineSend_kernel (p final : Nat) (msg : Bytes) (s : State) :
    (engineSend p final msg s).kernel = s.kernel := by
  unfold engineSend
  split
  · rfl
  · dsimp only
    split <;> simp

@[simp] theorem setReasm_kernel (n : Nat) (r : Reasm) (s : State) :
    (setReasm n r s).kernel = s.kernel := by
  simp [setReasm]

@[simp] theorem releaseReasm_kernel (n : Nat) (s : State) :
    (releaseReasm n s).kernel = s.kernel := by
  simp [releaseReasm]

@[simp] theorem dropReasm_kernel (n : Nat) (s : State) :
    (dropReasm n s).kernel = s.kernel := by
  unfold dropReasm; (repeat' split) <;> simp

@[simp] theorem reasmPoison_kernel (n : Nat) (r : Reasm) (s : State) :
    (reasmPoison n r s).kernel = s.kernel := by
  simp [reasmPoison]

@[simp] theorem takeReasm_kernel (r : Reasm) (s : State) :
    (takeReasm r s).1.kernel = s.kernel := by
  unfold takeReasm; (repeat' split) <;> simp <;> (repeat' split) <;> simp

@[simp] theorem countSecurity_kernel (p src : Nat) (s : State) :
    (countSecurity p src s).kernel = s.kernel := by
  simp [countSecurity]

@[simp] theorem bufferConfigureBody_kernel (req : Bytes) (s : State) :
    (bufferConfigureBody req s).1.kernel = s.kernel := by
  unfold bufferConfigureBody; (repeat' split) <;> simp <;> (repeat' split) <;> simp

theorem execBufferConfigure_keeps (c : Caller) (req : Bytes) (s : State) : Keeps s (execBufferConfigure c req s) := by
  refine runCmd_kernel _ _ _ _ _ ?_; simp

@[simp] theorem bufferQuotaBody_kernel (req : Bytes) (s : State) :
    (bufferQuotaBody req s).1.kernel = s.kernel := by
  unfold bufferQuotaBody; (repeat' split) <;> simp

theorem execBufferQuota_keeps (c : Caller) (req : Bytes) (s : State) : Keeps s (execBufferQuota c req s) := by
  refine runCmd_kernel _ _ _ _ _ ?_; simp

@[simp] theorem rxRingBody_kernel (c : Caller) (req : Bytes) (s : State) :
    (rxRingBody c req s).1.kernel = s.kernel := by
  unfold rxRingBody; (repeat' split) <;> simp <;> (repeat' split) <;> simp

theorem execRxRing_keeps (c : Caller) (req : Bytes) (s : State) : Keeps s (execRxRing c req s) := by
  refine runCmd_kernel _ _ _ _ _ ?_; simp

end Sys2Proof.Machine
end

