-- ==== Sys2Proof/Laws/Memory.lean ====
section
/-! SUPPORT. DDR as a list of cells: every write keeps the canonical form, and reads see what was written. -/

namespace Sys2Proof.Machine

/-- The canonical form of a list with a cell at its front. -/
theorem wf_cons {c : Host.Cell} {m : List Host.Cell} :
    Memory.wf (c :: m) = true ↔ c.2 ≠ memDefault ∧ (∀ d ∈ m, c.1 < d.1) ∧ Memory.wf m = true := by
  simp [Memory.wf, and_assoc]

/-- A write adds no address but its own. -/
theorem mem_memSet {m : List Host.Cell} {a : Nat} {b : Byte} {d : Host.Cell} (h : d ∈ memSet m a b) : d ∈ m ∨ d.1 = a := by
  induction m with
  | nil =>
    unfold memSet at h
    split at h <;> simp at h
    simp [h]
  | cons c m ih =>
    unfold memSet at h
    split at h
    · split at h
      · exact .inl h
      · rcases List.mem_cons.1 h with rfl | h
        · exact .inr rfl
        · exact .inl h
    · split at h
      · split at h
        · exact .inl (List.mem_cons_of_mem _ h)
        · rcases List.mem_cons.1 h with rfl | h
          · exact .inr rfl
          · exact .inl (List.mem_cons_of_mem _ h)
      · rcases List.mem_cons.1 h with rfl | h
        · exact .inl List.mem_cons_self
        · exact (ih h).imp (List.mem_cons_of_mem _) id

/-- A byte written keeps the canonical form. -/
theorem memSet_wf {m : List Host.Cell} (a : Nat) (b : Byte) (h : Memory.wf m = true) : Memory.wf (memSet m a b) = true := by
  induction m with
  | nil =>
    unfold memSet
    split
    · rfl
    · exact wf_cons.2 ⟨‹_›, by simp, rfl⟩
  | cons c m ih =>
    obtain ⟨h1, h2, h3⟩ := wf_cons.1 h
    unfold memSet
    split
    · split
      · exact h
      · refine wf_cons.2 ⟨‹_›, fun d hd => ?_, h⟩
        rcases List.mem_cons.1 hd with rfl | hd
        · assumption
        · exact Nat.lt_trans ‹a < c.1› (h2 d hd)
    · split
      · split
        · exact h3
        · rename_i h5 _
          exact wf_cons.2 ⟨‹_›, fun d hd => h5 ▸ h2 d hd, h3⟩
      · refine wf_cons.2 ⟨h1, fun d hd => ?_, ih h3⟩
        rcases mem_memSet hd with hd | hd
        · exact h2 d hd
        · rw [hd]; omega

/-- Bytes written keep the canonical form. -/
theorem memPut_wf {m : List Host.Cell} (a : Nat) (bs : Bytes) (h : Memory.wf m = true) : Memory.wf (memPut m a bs) = true := by
  induction bs generalizing m a with
  | nil => exact h
  | cons b bs ih => exact ih _ (memSet_wf _ _ h)

/-- An address below every listed one reads as the default. -/
theorem memGet_below {m : List Host.Cell} {a : Nat} (h : ∀ d ∈ m, a < d.1) : memGet m a = memDefault := by
  induction m with
  | nil => rfl
  | cons c m ih =>
    have hc : c.1 ≠ a := by have := h c List.mem_cons_self; omega
    simp only [memGet, hc, if_false]
    exact ih (fun d hd => h d (List.mem_cons_of_mem _ hd))

/-- The byte at the address written. -/
theorem memGet_memSet_self {m : List Host.Cell} (a : Nat) (b : Byte) (h : Memory.wf m = true) : memGet (memSet m a b) a = b := by
  induction m with
  | nil =>
    unfold memSet
    split
    · simp [memGet, *]
    · simp [memGet]
  | cons c m ih =>
    obtain ⟨_, h2, h3⟩ := wf_cons.1 h
    unfold memSet
    split
    · split
      · rename_i hb
        rw [hb]
        refine memGet_below (fun d hd => ?_)
        rcases List.mem_cons.1 hd with rfl | hd
        · assumption
        · exact Nat.lt_trans ‹a < c.1› (h2 d hd)
      · simp [memGet]
    · split
      · split
        · rename_i h5 hb
          rw [hb]; exact memGet_below (fun d hd => h5 ▸ h2 d hd)
        · simp [memGet]
      · rename_i h5
        simp only [memGet, h5, if_false]; exact ih h3

/-- Every other byte is as before. -/
theorem memGet_memSet_other {m : List Host.Cell} {a x : Nat} (b : Byte) (hx : x ≠ a) : memGet (memSet m a b) x = memGet m x := by
  induction m with
  | nil =>
    unfold memSet
    split
    · rfl
    · simp [memGet, Ne.symm hx]
  | cons c m ih =>
    unfold memSet
    split
    · split
      · rfl
      · simp [memGet, Ne.symm hx]
    · split
      · rename_i h5
        have hc : c.1 ≠ x := by omega
        split
        · simp [memGet, hc]
        · simp [memGet, hc, Ne.symm hx]
      · simp only [memGet]
        split
        · rfl
        · exact ih

/-- A byte outside those written is as before. -/
theorem memGet_memPut_outside {m : List Host.Cell} {a x : Nat} (bs : Bytes) (hx : x < a ∨ a + bs.length ≤ x) :
    memGet (memPut m a bs) x = memGet m x := by
  induction bs generalizing m a with
  | nil => rfl
  | cons b bs ih =>
    simp only [List.length_cons] at hx
    rw [memPut, ih (by omega), memGet_memSet_other b (by omega)]

/-- A byte among those written reads as written. -/
theorem memGet_memPut_inside {m : List Host.Cell} (a : Nat) (bs : Bytes) (h : Memory.wf m = true) (i : Nat) (hi : i < bs.length) :
    memGet (memPut m a bs) (a + i) = bs[i] := by
  induction bs generalizing m a i with
  | nil => simp at hi
  | cons b bs ih =>
    rw [memPut]
    cases i with
    | zero =>
      rw [memGet_memPut_outside bs (by omega), Nat.add_zero, memGet_memSet_self a b h]; rfl
    | succ i =>
      have e : a + (i + 1) = (a + 1) + i := by omega
      rw [e, ih (a + 1) (memSet_wf _ _ h) i (by simpa using hi)]; rfl

end Sys2Proof.Machine
end

