-- ==== Sys2Proof/Laws/KernelMemory.lean ====
section
/-! SUPPORT. What the definitions of Machine/Memory.lean leave unchanged: the kernel of the state. -/

namespace Sys2Proof.Machine

theorem ddrWrite_kept (a : Nat) (bs : Bytes) (s : State) : Kept s (ddrWrite a bs s) := by
  exact { Kept.refl s with ddr := memPut_wf a bs }

@[simp] theorem deny_kernel (p kind w offset : Nat) (addr : Option Nat) (s : State) :
    (deny p kind w offset addr s).kernel = s.kernel := by
  simp [deny]

end Sys2Proof.Machine
end

