-- ==== Sys2Proof/Laws/KernelCheck.lean ====
section
/-! SUPPORT. What the definitions of Machine/Check.lean leave unchanged: the kernel of the state. -/

namespace Sys2Proof.Machine

@[simp] theorem updChk_kernel (c : Nat) (f : ChkCtx → ChkCtx) (s : State) :
    (updChk c f s).kernel = s.kernel := by
  simp [updChk]

@[simp] theorem protect_kernel (p ep : Nat) (unit_ : Bytes) (s : State) :
    (protect p ep unit_ s).2.kernel = s.kernel := by
  unfold protect; (repeat' split) <;> simp

@[simp] theorem verifyUnit_kernel (ep : Nat) (data : Bytes) (poisoned : Bool) (s : State) :
    (verifyUnit ep data poisoned s).2.kernel = s.kernel := by
  unfold verifyUnit; (repeat' split) <;> simp <;> (repeat' split) <;> simp

@[simp] theorem writeCtx_kernel (c reg value : Nat) (s : State) :
    (writeCtx c reg value s).kernel = s.kernel := by
  unfold writeCtx; (repeat' split) <;> simp <;> (repeat' split) <;> simp

theorem execChkContextWrite_keeps (ctx reg value : Nat) (s : State) : Keeps s (execChkContextWrite ctx reg value s) := by
  simp [execChkContextWrite]

@[simp] theorem resetCtx_kernel (c : Nat) (s : State) :
    (resetCtx c s).kernel = s.kernel := by
  simp [resetCtx]

@[simp] theorem chkAssignBody_kernel (req : Bytes) (s : State) :
    (chkAssignBody req s).1.kernel = s.kernel := by
  unfold chkAssignBody; (repeat' split) <;> simp <;> (repeat' split) <;> simp

theorem execChkAssign_keeps (c : Caller) (req : Bytes) (s : State) : Keeps s (execChkAssign c req s) := by
  refine runCmd_kernel _ _ _ _ _ ?_; simp

@[simp] theorem unbindStream_kernel (p ep : Nat) (rx : Bool) (s : State) :
    (unbindStream p ep rx s).kernel = s.kernel := by
  unfold unbindStream; (repeat' split) <;> simp

@[simp] theorem chkBindBody_kernel (c : Caller) (req : Bytes) (s : State) :
    (chkBindBody c req s).1.kernel = s.kernel := by
  unfold chkBindBody; (repeat' split) <;> simp <;> (repeat' split) <;> simp

theorem execChkBind_keeps (c : Caller) (req : Bytes) (s : State) : Keeps s (execChkBind c req s) := by
  refine runCmd_kernel _ _ _ _ _ ?_; simp

@[simp] theorem chkDmaBody_kernel (c : Caller) (req : Bytes) (s : State) :
    (chkDmaBody c req s).1.kernel = s.kernel := by
  unfold chkDmaBody; (repeat' split) <;> simp <;> (repeat' split) <;> simp

theorem execChkDma_keeps (c : Caller) (req : Bytes) (s : State) : Keeps s (execChkDma c req s) := by
  refine runCmd_kernel _ _ _ _ _ ?_; simp

@[simp] theorem endDma_kernel (n : Nat) (job : ChkDma) (st : Status) (s : State) :
    (endDma n job st s).kernel = s.kernel := by
  simp [endDma]

@[simp] theorem looseCtx_kernel (n : Nat) (s : State) :
    (looseCtx n s).kernel = s.kernel := by
  simp [looseCtx]

theorem execChkDmaComplete_kept (ctx : Nat) (ddrFail : Bool) (s : State) : KeptOut s (execChkDmaComplete ctx ddrFail s) := by
  unfold execChkDmaComplete
  dsimp only
  split
  · exact .refl s
  · split
    · exact .of_kernel (by simp)
    · refine KeptOut.iff (.of_kernel (by simp)) ?_
      refine Kept.andThen ?_ (endDma_kernel ..)
      refine Kept.iff ?_ (.of_kernel (by simp))
      exact (((Kept.of_kernel (by simp)).trans (ddrWrite_kept ..))).andThen (count_kernel ..)

end Sys2Proof.Machine
end

