-- ==== Sys2Proof/Laws/KernelCipher.lean ====
section
/-! SUPPORT. What the definitions of Machine/Cipher.lean leave unchanged: the kernel of the state. -/

namespace Sys2Proof.Machine

@[simp] theorem setSlot_kernel (page slot : Nat) (k : Option Key) (s : State) :
    (setSlot page slot k s).kernel = s.kernel := by
  unfold setSlot; (repeat' split) <;> simp

@[simp] theorem raiseCeiling_kernel (page : Nat) (s : State) :
    (raiseCeiling page s).kernel = s.kernel := by
  unfold raiseCeiling; (repeat' split) <;> simp <;> (repeat' split) <;> simp

@[simp] theorem takeNonce_kernel (page : Nat) (s : State) :
    (takeNonce page s).2.kernel = s.kernel := by
  unfold takeNonce; (repeat' split) <;> simp <;> (repeat' split) <;> simp

/-- The state a protected unit leaves. -/
theorem kernel_of_protect {p e : Nat} {u : Bytes} {s t : State} {b : Bytes} (h : protect p e u s = (b, t)) : t.kernel = s.kernel := by
  simpa [h] using protect_kernel p e u s

@[simp] theorem pipeUse_kernel (pipe bytes p : Nat) (host : Bool) (s : State) :
    (pipeUse pipe bytes p host s).kernel = s.kernel := by
  simp [pipeUse]

@[simp] theorem flushRing_kernel (p r : Nat) (z0 : Nat) (z1 : State) :
    (flushRing p r z0 z1).kernel = z1.kernel := by
  induction z0 generalizing z1 with
  | zero => rfl
  | succ n ih =>
    unfold flushRing
    split
    · rfl
    · split
      · rfl
      · rw [ih]; simp

@[simp] theorem endJob_kernel (p r idx : Nat) (e : JobEnd) (s : State) :
    (endJob p r idx e s).kernel = s.kernel := by
  simp [endJob]

@[simp] theorem sealEnds_kernel (n : Nat) (f : Flight) (st : Status) (nonce : Bytes) (bytes : Nat) (s : State) :
    (sealEnds n f st nonce bytes s).kernel = s.kernel := by
  unfold sealEnds; (repeat' split) <;> simp

@[simp] theorem failSeal_kernel (n : Nat) (st : Status) (s : State) :
    (failSeal n st s).kernel = s.kernel := by
  unfold failSeal; (repeat' split) <;> simp

/-- The state a draw of a nonce leaves. -/
theorem kernel_of_nonce {page : Nat} {s t : State} {n : Nonce} (h : takeNonce page s = (n, t)) : t.kernel = s.kernel := by
  simpa [h] using takeNonce_kernel page s

theorem execFrameSeal_keeps (flight_ : Nat) (plaintext : Option Bytes) (s : State) : Keeps s (execFrameSeal flight_ plaintext s) := by
  unfold execFrameSeal
  dsimp only
  refine keeps_if rfl ?_
  cases (flight s flight_).sealer <;> cases plaintext <;> dsimp only <;> (repeat' split) <;>
    first
      | (simp; done)
      | (have e := kernel_of_nonce ‹_›; simpa using e)
      | (have e := kernel_of_nonce ‹_›; have g := kernel_of_protect ‹_›; simpa [g] using e)

@[simp] theorem frameSubmitBody_kernel (c : Caller) (req : Bytes) (s : State) :
    (frameSubmitBody c req s).1.kernel = s.kernel := by
  unfold frameSubmitBody
  dsimp only
  split
  · simp
  · split
    · simp
    · split <;> simp

theorem execFrameSubmit_keeps (c : Caller) (req : Bytes) (s : State) : Keeps s (execFrameSubmit c req s) := by
  refine runCmd_kernel _ _ _ _ _ ?_; simp

@[simp] theorem takeSeal_kernel (p r n : Nat) (desc : Bytes) (s : State) :
    (takeSeal p r n desc s).kernel = s.kernel := by
  simp [takeSeal]

@[simp] theorem admitted_kernel (n : Nat) (h : Held) (s : State) :
    (admitted n h s).kernel = s.kernel := by
  unfold admitted; (repeat' split) <;> simp

theorem execHeldSubmissionAdmit_keeps (idx : Nat) (s : State) : Keeps s (execHeldSubmissionAdmit idx s) := by
  unfold execHeldSubmissionAdmit
  split
  · rfl
  · refine keeps_if rfl ?_
    split <;> simp

@[simp] theorem updEndpoint_kernel (e : Nat) (f : Endpoint → Endpoint) (s : State) :
    (updEndpoint e f s).kernel = s.kernel := by
  simp [updEndpoint]

@[simp] theorem authFails_kernel (n : Nat) (r : Reasm) (s : State) :
    (authFails n r s).kernel = s.kernel := by
  simp [authFails]

@[simp] theorem poisonFails_kernel (n : Nat) (r : Reasm) (s : State) :
    (poisonFails n r s).kernel = s.kernel := by
  simp [poisonFails]

theorem execUplinkOpen_keeps (flight_ : Nat) (poison : Bool) (s : State) : Keeps s (execUplinkOpen flight_ poison s) := by
  unfold execUplinkOpen; (repeat' split) <;> simp <;> (repeat' split) <;> simp

@[simp] theorem delivered_kernel (n : Nat) (r : Reasm) (s : State) :
    (delivered n r s).kernel = s.kernel := by
  simp [delivered]

theorem execRxRingWrite_keeps (flight_ : Nat) (consumer : Option Nat) (s : State) : Keeps s (execRxRingWrite flight_ consumer s) := by
  unfold execRxRingWrite; (repeat' split) <;> simp

@[simp] theorem startJob_kernel (j : Job) (s : State) :
    (startJob j s).kernel = s.kernel := by
  unfold startJob
  dsimp only
  refine kernel_if rfl ?_
  split
  · simp
  · rfl
  · refine kernel_if (by simp) (kernel_if (by simp) ?_)
    split
    · exact kernel_of_nonce ‹_›
    · have e := kernel_of_nonce ‹_›; simpa using e
    · have e := kernel_of_nonce ‹_›; simpa using e

@[simp] theorem takeJob_kernel (p r : Nat) (j : Job) (s : State) :
    (takeJob p r j s).kernel = s.kernel := by
  simp [takeJob]

theorem execCipherDescriptorTake_keeps (pod_ ring : Nat) (desc : Bytes) (io : DescIo) (s : State) : Keeps s (execCipherDescriptorTake pod_ ring desc io s) := by
  unfold execCipherDescriptorTake
  dsimp only
  refine keeps_if trivial (keeps_if rfl (keeps_if (by simp) (keeps_if (by simp) (keeps_if (by simp) (keeps_if ?_
    (keeps_if (by simp) (keeps_if ?_ ?_)))))))
  · split
    · simp
    · split <;> simp
  · simp
  · simp

theorem execCipherJobComplete_keeps (pod_ ring idx : Nat) (s : State) : Keeps s (execCipherJobComplete pod_ ring idx s) := by
  unfold execCipherJobComplete; (repeat' split) <;> simp <;> (repeat' split) <;> simp

theorem onRingRegs_keeps (p r : Nat) (s : State) (f : State → State) (hf : (f s).kernel = s.kernel) :
    Keeps s (onRingRegs p r s f) := by
  unfold onRingRegs; (repeat' split) <;> simp [hf]

theorem execCphRingDoorbell_keeps (pod_ ring prod : Nat) (s : State) : Keeps s (execCphRingDoorbell pod_ ring prod s) := by
  refine onRingRegs_keeps _ _ _ _ ?_; simp

theorem execCphRingEnable_keeps (pod_ ring : Nat) (on : Bool) (s : State) : Keeps s (execCphRingEnable pod_ ring on s) := by
  refine onRingRegs_keeps _ _ _ _ ?_; simp

theorem execCphRingFaultClear_keeps (pod_ ring : Nat) (s : State) : Keeps s (execCphRingFaultClear pod_ ring s) := by
  refine onRingRegs_keeps _ _ _ _ ?_; simp

theorem execCphCmplConsUpdate_keeps (pod_ ring cons : Nat) (s : State) : Keeps s (execCphCmplConsUpdate pod_ ring cons s) := by
  refine onRingRegs_keeps _ _ _ _ ?_; simp

theorem execMaskReseed_keeps (pipe : Nat) (s : State) : Keeps s (execMaskReseed pipe s) := by
  simp [execMaskReseed]

@[simp] theorem entropyFails_kernel (s : State) :
    (entropyFails s).kernel = s.kernel := by
  simp [entropyFails]

theorem execEntropyHealthFail_keeps (s : State) : Keeps s (execEntropyHealthFail s) := by
  simp [execEntropyHealthFail]

theorem execEntropyRetest_keeps (pass : Bool) (s : State) : Keeps s (execEntropyRetest pass s) := by
  simp [execEntropyRetest]

@[simp] theorem keyCommand_kernel (c : Caller) (s : State) (body : State × Reply) (hb : body.1.kernel = s.kernel) :
    (keyCommand c s body).1.kernel = s.kernel := by
  unfold keyCommand
  split <;> simp [hb]

@[simp] theorem keyLoadBody_kernel (c : Caller) (req : Bytes) (s : State) :
    (keyLoadBody c req s).1.kernel = s.kernel := by
  unfold keyLoadBody; (repeat' split) <;> simp <;> (repeat' split) <;> simp

theorem execKeyLoad_keeps (c : Caller) (req : Bytes) (s : State) : Keeps s (execKeyLoad c req s) := by
  refine runCmd_kernel _ _ _ _ _ ?_; simp

@[simp] theorem squashSlot_kernel (page slot : Nat) (s : State) :
    (squashSlot page slot s).kernel = s.kernel := by
  simp [squashSlot]

@[simp] theorem keyClearBody_kernel (c : Caller) (req : Bytes) (s : State) :
    (keyClearBody c req s).1.kernel = s.kernel := by
  unfold keyClearBody; (repeat' split) <;> simp <;> (repeat' split) <;> simp

theorem execKeyClear_keeps (c : Caller) (req : Bytes) (s : State) : Keeps s (execKeyClear c req s) := by
  refine runCmd_kernel _ _ _ _ _ ?_; simp

@[simp] theorem cipherBindBody_kernel (c : Caller) (req : Bytes) (s : State) :
    (cipherBindBody c req s).1.kernel = s.kernel := by
  unfold cipherBindBody; (repeat' split) <;> simp <;> (repeat' split) <;> simp

theorem execCipherBind_keeps (c : Caller) (req : Bytes) (s : State) : Keeps s (execCipherBind c req s) := by
  refine runCmd_kernel _ _ _ _ _ ?_; simp

@[simp] theorem cipherConfigureBody_kernel (req : Bytes) (s : State) :
    (cipherConfigureBody req s).1.kernel = s.kernel := by
  simp [cipherConfigureBody]

theorem execCipherConfigure_keeps (c : Caller) (req : Bytes) (s : State) : Keeps s (execCipherConfigure c req s) := by
  refine runCmd_kernel _ _ _ _ _ ?_; simp

end Sys2Proof.Machine
end

