-- ==== Sys2Proof/Laws/KernelMaps.lean ====
section
/-! SUPPORT. What the definitions of Machine/Maps.lean leave unchanged: the kernel of the state. -/

namespace Sys2Proof.Machine

@[simp] theorem updMap_kernel (p e dir m : Nat) (f : ToneMap → ToneMap) (s : State) :
    (updMap p e dir m f s).kernel = s.kernel := by
  simp [updMap]

@[simp] theorem updLink_kernel (p e : Nat) (f : MapLink → MapLink) (s : State) :
    (updLink p e f s).kernel = s.kernel := by
  simp [updLink]

@[simp] theorem invalidate_kernel (p e dir : Nat) (ids : List Nat) (s : State) :
    (invalidate p e dir ids s).kernel = s.kernel := by
  unfold invalidate; (repeat' split) <;> (try simp) <;> (apply foldl_kernel; intro s x; (repeat' split) <;> simp)

@[simp] theorem invalidateWhere_kernel (p dir : Nat) (f : Nat → ToneMap → Bool) (s : State) :
    (invalidateWhere p dir f s).kernel = s.kernel := by
  simp [invalidateWhere]

@[simp] theorem oldSlotMaps_kernel (p : Nat) (s : State) :
    (oldSlotMaps p s).kernel = s.kernel := by
  simp [oldSlotMaps]

@[simp] theorem updMains_kernel (p : Nat) (f : Mains → Mains) (s : State) :
    (updMains p f s).kernel = s.kernel := by
  simp [updMains]

@[simp] theorem mainsEvent_kernel (p : Nat) (st : MainsState) (s : State) :
    (mainsEvent p st s).kernel = s.kernel := by
  simp [mainsEvent]

@[simp] theorem near_kernel (centre : Int) (d : Nat) (s : State) :
    (near centre d s).2.kernel = s.kernel := by
  simp [near]

@[simp] theorem fitMains_kernel (edge : Nat) (m : Mains) (s : State) :
    (fitMains edge m s).2.kernel = s.kernel := by
  simp [fitMains]

theorem execZeroCrossing_keeps (port_ edge : Nat) (s : State) : Keeps s (execZeroCrossing port_ edge s) := by
  unfold execZeroCrossing; (repeat' split) <;> simp <;> (repeat' split) <;> simp

theorem execMainsAcquireTimeout_keeps (port_ : Nat) (s : State) : Keeps s (execMainsAcquireTimeout port_ s) := by
  simp [execMainsAcquireTimeout]

theorem execPredictedCrossingMiss_keeps (port_ : Nat) (s : State) : Keeps s (execPredictedCrossingMiss port_ s) := by
  simp [execPredictedCrossingMiss]

@[simp] theorem tmRequest_kernel (p e : Nat) (maps : List Nat) (sound : Bool) (slots : Nat) (s : State) :
    (tmRequest p e maps sound slots s).kernel = s.kernel := by
  simp [tmRequest]

@[simp] theorem tmInvalidate_kernel (p e : Nat) (maps : List Nat) (reason : Nat) (s : State) :
    (tmInvalidate p e maps reason s).kernel = s.kernel := by
  simp [tmInvalidate]

@[simp] theorem mirrorMap_kernel (p e dir id : Nat) (s : State) :
    (mirrorMap p e dir id s).kernel = s.kernel := by
  simp [mirrorMap]

@[simp] theorem mapEvent_kernel (p e id gen : Nat) (s : State) :
    (mapEvent p e id gen s).kernel = s.kernel := by
  simp [mapEvent]

theorem onPort_keeps (p : Nat) (s : State) (f : State → State) (hf : (f s).kernel = s.kernel) :
    Keeps s (onPort p s f) := by
  unfold onPort; (repeat' split) <;> simp [hf]

theorem fromEndpoint_keeps (p e : Nat) (s : State) (f : State → State) (hf : (f s).kernel = s.kernel) :
    Keeps s (fromEndpoint p e s f) := by
  exact onPort_keeps _ _ _ (by split <;> simp [hf])

theorem execTmMapReceived_keeps (port_ ep : Nat) (msg : Bytes) (s : State) : Keeps s (execTmMapReceived port_ ep msg s) := by
  refine fromEndpoint_keeps _ _ _ _ ?_; simp

theorem execTmMapAckReceived_keeps (port_ ep : Nat) (msg : Bytes) (s : State) : Keeps s (execTmMapAckReceived port_ ep msg s) := by
  refine fromEndpoint_keeps _ _ _ _ ?_; (repeat' split) <;> simp <;> (repeat' split) <;> simp

@[simp] theorem requestMaps_kernel (p e : Nat) (ids : List Nat) (exempt : Bool) (s : State) :
    (requestMaps p e ids exempt s).kernel = s.kernel := by
  simp [requestMaps]

theorem execTmRequestReceived_keeps (port_ ep : Nat) (msg : Bytes) (s : State) : Keeps s (execTmRequestReceived port_ ep msg s) := by
  refine fromEndpoint_keeps _ _ _ _ ?_; simp

theorem execTmInvalidateReceived_keeps (port_ ep : Nat) (msg : Bytes) (s : State) : Keeps s (execTmInvalidateReceived port_ ep msg s) := by
  refine fromEndpoint_keeps _ _ _ _ ?_; simp

@[simp] theorem noteEstimates_kernel (p e at_ : Nat) (snr : List SnrObs) (s : State) :
    (noteEstimates p e at_ snr s).kernel = s.kernel := by
  simp [noteEstimates]

@[simp] theorem sendMap_kernel (p e id : Nat) (m : ToneMap) (s : State) :
    (sendMap p e id m s).kernel = s.kernel := by
  simp [sendMap]

theorem execTonemapPeriodicRefresh_keeps (port_ ep mapId : Nat) (tails : List Int) (feedback : Bytes) (s : State) :
    Keeps s (execTonemapPeriodicRefresh port_ ep mapId tails feedback s) := by
  refine onPort_keeps _ _ _ ?_
  split
  · rfl
  · extract_lets asked t l x calm u old slots early
    have k : u.kernel = s.kernel := by simp [u, t]
    clear_value u
    repeat' split
    all_goals simp [k]

theorem execEstimateStale_keeps (port_ ep slot : Nat) (s : State) : Keeps s (execEstimateStale port_ ep slot s) := by
  refine onPort_keeps _ _ _ ?_; simp

theorem execSlotBoundaryPrefetch_keeps (port_ : Nat) (ddrFail : Bool) (s : State) : Keeps s (execSlotBoundaryPrefetch port_ ddrFail s) := by
  refine onPort_keeps _ _ _ ?_; simp

@[simp] theorem tonemapConfigureBody_kernel (c : Caller) (req : Bytes) (s : State) :
    (tonemapConfigureBody c req s).1.kernel = s.kernel := by
  unfold tonemapConfigureBody; (repeat' split) <;> simp <;> (repeat' split) <;> simp

theorem execTonemapConfigure_keeps (c : Caller) (req : Bytes) (s : State) : Keeps s (execTonemapConfigure c req s) := by
  refine runCmd_kernel _ _ _ _ _ ?_; simp

@[simp] theorem tonemapRefreshBody_kernel (c : Caller) (req : Bytes) (s : State) :
    (tonemapRefreshBody c req s).1.kernel = s.kernel := by
  unfold tonemapRefreshBody; (repeat' split) <;> simp <;> (repeat' split) <;> simp

theorem execTonemapRefresh_keeps (c : Caller) (req : Bytes) (s : State) : Keeps s (execTonemapRefresh c req s) := by
  refine runCmd_kernel _ _ _ _ _ ?_; simp

@[simp] theorem tonemapReadBody_kernel (c : Caller) (req : Bytes) (s : State) :
    (tonemapReadBody c req s).1.kernel = s.kernel := by
  unfold tonemapReadBody; (repeat' split) <;> simp <;> (repeat' split) <;> simp

theorem execTonemapRead_keeps (c : Caller) (req : Bytes) (s : State) : Keeps s (execTonemapRead c req s) := by
  refine runCmd_kernel _ _ _ _ _ ?_; simp

@[simp] theorem mainsStatusBody_kernel (c : Caller) (req : Bytes) (s : State) :
    (mainsStatusBody c req s).1.kernel = s.kernel := by
  unfold mainsStatusBody; (repeat' split) <;> simp <;> (repeat' split) <;> simp

theorem execMainsStatus_keeps (c : Caller) (req : Bytes) (s : State) : Keeps s (execMainsStatus c req s) := by
  refine runCmd_kernel _ _ _ _ _ ?_; simp

end Sys2Proof.Machine
end

