-- ==== Sys2Proof/Laws/KernelLinks.lean ====
section
/-! SUPPORT. What the definitions of Machine/Links.lean leave unchanged: the kernel of the state. -/

namespace Sys2Proof.Machine

@[simp] theorem updNbr_kernel (p st : Nat) (f : Neighbour → Neighbour) (s : State) :
    (updNbr p st f s).kernel = s.kernel := by
  simp [updNbr]

@[simp] theorem updTopo_kernel (p : Nat) (f : Topo → Topo) (s : State) :
    (updTopo p f s).kernel = s.kernel := by
  simp [updTopo]

@[simp] theorem reportDir_kernel (p src dst rate : Nat) (s : State) :
    (reportDir p src dst rate s).kernel = s.kernel := by
  simp [reportDir]

@[simp] theorem purgeReports_kernel (p : Nat) (s : State) :
    (purgeReports p s).kernel = s.kernel := by
  simp [purgeReports]

@[simp] theorem mirrorNbr_kernel (p e : Nat) (s : State) :
    (mirrorNbr p e s).kernel = s.kernel := by
  simp [mirrorNbr]

@[simp] theorem mirrorSeq_kernel (p e cls : Nat) (s : State) :
    (mirrorSeq p e cls s).kernel = s.kernel := by
  simp [mirrorSeq]

@[simp] theorem nbrFails_kernel (p e flight_ : Nat) (s : State) :
    (nbrFails p e flight_ s).kernel = s.kernel := by
  unfold nbrFails; (repeat' split) <;> simp <;> (repeat' split) <;> simp

@[simp] theorem nbrWorks_kernel (p e flight_ : Nat) (s : State) :
    (nbrWorks p e flight_ s).kernel = s.kernel := by
  unfold nbrWorks; (repeat' split) <;> simp <;> (repeat' split) <;> simp

@[simp] theorem measureDelay_kernel (p e : Nat) (ns : Int) (s : State) :
    (measureDelay p e ns s).kernel = s.kernel := by
  simp [measureDelay]

end Sys2Proof.Machine
end

