-- ==== Sys2Proof/Laws/KernelMac.lean ====
section
/-! SUPPORT. What the definitions of Machine/Mac.lean leave unchanged: the kernel of the state. -/

namespace Sys2Proof.Machine

@[simp] theorem tagSymbols_kernel (kind p first len : Nat) (z0 : Nat) (z1 : State) :
    (tagSymbols kind p first len z0 z1).kernel = z1.kernel := by
  induction z0 generalizing z1 first with
  | zero => rfl
  | succ n ih => unfold tagSymbols; rw [ih, tagStart_kernel]

@[simp] theorem endSymbolTags_kernel (kind p last : Nat) (s : State) :
    (endSymbolTags kind p last s).kernel = s.kernel := by
  unfold endSymbolTags; (repeat' split) <;> (try simp) <;> (apply foldl_kernel; intro s x; (repeat' split) <;> simp)

@[simp] theorem setTxen_kernel (p : Nat) (level : Txen) (s : State) :
    (setTxen p level s).kernel = s.kernel := by
  unfold setTxen; (repeat' split) <;> simp

@[simp] theorem startTx_kernel (p : Nat) (tx : Tx) (s : State) :
    (startTx p tx s).kernel = s.kernel := by
  simp [startTx]

@[simp] theorem countTx_kernel (p : Nat) (tx : Tx) (stop : Nat) (s : State) :
    (countTx p tx stop s).kernel = s.kernel := by
  simp [countTx]

@[simp] theorem enterPeriod_kernel (p : Nat) (s : State) :
    (enterPeriod p s).kernel = s.kernel := by
  unfold enterPeriod; (repeat' split) <;> simp

@[simp] theorem startContention_kernel (p start : Nat) (s : State) :
    (startContention p start s).kernel = s.kernel := by
  unfold startContention; (repeat' split) <;> simp <;> (repeat' split) <;> simp

@[simp] theorem enterBackoff_kernel (p : Nat) (s : State) :
    (enterBackoff p s).kernel = s.kernel := by
  unfold enterBackoff; simp only []; (repeat' split) <;> (try (rename_i heq; have e := congrArg (fun p => p.1.kernel) heq; simp at e)) <;> simp_all

theorem execPrsSlot_keeps (port_ : Nat) (heard heardFrame : Bool) (s : State) : Keeps s (execPrsSlot port_ heard heardFrame s) := by
  simp [execPrsSlot]

theorem execBackoffSlotEnd_keeps (port_ : Nat) (heardS1 heardFrame : Bool) (s : State) : Keeps s (execBackoffSlotEnd port_ heardS1 heardFrame s) := by
  simp [execBackoffSlotEnd]

theorem execIdleRestart_keeps (port_ : Nat) (s : State) : Keeps s (execIdleRestart port_ s) := by
  simp [execIdleRestart]

theorem execUndecodableHoldOffEnd_keeps (port_ : Nat) (s : State) : Keeps s (execUndecodableHoldOffEnd port_ s) := by
  unfold execUndecodableHoldOffEnd; (repeat' split) <;> simp <;> (repeat' split) <;> simp

@[simp] theorem scheduleStage_kernel (n : Nat) (s : State) :
    (scheduleStage n s).kernel = s.kernel := by
  unfold scheduleStage; (repeat' split) <;> simp <;> (repeat' split) <;> simp

@[simp] theorem takeSeq_kernel (n h : Nat) (s : State) :
    (takeSeq n h s).kernel = s.kernel := by
  unfold takeSeq; (repeat' split) <;> simp <;> (repeat' split) <;> simp

@[simp] theorem takeBcast_kernel (n : Nat) (s : State) :
    (takeBcast n s).kernel = s.kernel := by
  unfold takeBcast; (repeat' split) <;> simp <;> (repeat' split) <;> simp

@[simp] theorem sendFrames_kernel (p q h start : Nat) (fm : Fmt) (ns : List Nat) (s : State) :
    (sendFrames p q h start fm ns s).kernel = s.kernel := by
  simp [sendFrames]

@[simp] theorem leavePeriod_kernel (p : Nat) (s : State) :
    (leavePeriod p s).kernel = s.kernel := by
  simp [leavePeriod]

@[simp] theorem leaveUntilBeacon_kernel (p : Nat) (s : State) :
    (leaveUntilBeacon p s).kernel = s.kernel := by
  simp [leaveUntilBeacon]

@[simp] theorem mapAckEnds_kernel (f : Flight) (h : Nat) (s : State) :
    (mapAckEnds f h s).kernel = s.kernel := by
  simp [mapAckEnds]

@[simp] theorem mapAckLost_kernel (f : Flight) (h : Nat) (s : State) :
    (mapAckLost f h s).kernel = s.kernel := by
  unfold mapAckLost; (repeat' split) <;> simp

@[simp] theorem retireFrame_kernel (n : Nat) (st : Status) (s : State) :
    (retireFrame n st s).kernel = s.kernel := by
  unfold retireFrame; (repeat' split) <;> simp <;> (repeat' split) <;> simp

@[simp] theorem sharePoisoned_kernel (p : Nat) (s : State) (n : Nat) :
    (sharePoisoned p s n).kernel = s.kernel := by
  unfold sharePoisoned; (repeat' split) <;> simp <;> (repeat' split) <;> simp

@[simp] theorem sendSounding_kernel (p h syms streams slot start : Nat) (s : State) :
    (sendSounding p h syms streams slot start s).kernel = s.kernel := by
  simp [sendSounding]

@[simp] theorem mapReadFails_kernel (p h id dir : Nat) (s : State) :
    (mapReadFails p h id dir s).kernel = s.kernel := by
  simp [mapReadFails]

@[simp] theorem transmitHead_kernel (p q n units : Nat) (poison : List Nat) (mapFail : Bool) (s : State) :
    (transmitHead p q n units poison mapFail s).kernel = s.kernel := by
  unfold transmitHead; (repeat' split) <;> simp <;> (repeat' split) <;> simp

@[simp] theorem transmitSounding_kernel (p : Nat) (s : State) :
    (transmitSounding p s).kernel = s.kernel := by
  unfold transmitSounding; (repeat' split) <;> simp

theorem execFrameTransmitStart_keeps (port_ units : Nat) (reads : TxReads) (s : State) : Keeps s (execFrameTransmitStart port_ units reads s) := by
  unfold execFrameTransmitStart; (repeat' split) <;> simp <;> (repeat' split) <;> simp

@[simp] theorem makeRoom_kernel (p : Nat) (pc3 : Bool) (cells : Nat) (z0 : List Nat) (z1 : State) :
    (makeRoom p pc3 cells z0 z1).kernel = z1.kernel := by
  induction z0 generalizing z1 with
  | nil => rfl
  | cons n rest ih =>
    unfold makeRoom
    split
    · rfl
    · rw [ih, updFlight_kernel]

@[simp] theorem backingFails_kernel (n : Nat) (s : State) :
    (backingFails n s).kernel = s.kernel := by
  unfold backingFails; (repeat' split) <;> simp <;> (repeat' split) <;> simp

@[simp] theorem stageFlight_kernel (n : Nat) (ddrFail : Bool) (s : State) :
    (stageFlight n ddrFail s).kernel = s.kernel := by
  unfold stageFlight; (repeat' split) <;> simp <;> (repeat' split) <;> simp

theorem execStaging_keeps (port_ : Nat) (ddrFail : Bool) (s : State) : Keeps s (execStaging port_ ddrFail s) := by
  unfold execStaging; (repeat' split) <;> simp <;> (repeat' split) <;> simp

@[simp] theorem rewindQueue_kernel (p : Nat) (tx : Tx) (s : State) :
    (rewindQueue p tx s).kernel = s.kernel := by
  unfold rewindQueue; (repeat' split) <;> simp

@[simp] theorem leaveExchange_kernel (n : Nat) (s : State) :
    (leaveExchange n s).kernel = s.kernel := by
  unfold leaveExchange; (repeat' split) <;> simp <;> (repeat' split) <;> simp

@[simp] theorem nextStage_kernel (n : Nat) (s : State) :
    (nextStage n s).kernel = s.kernel := by
  unfold nextStage; (repeat' split) <;> simp <;> (repeat' split) <;> simp

@[simp] theorem flightFails_kernel (h n : Nat) (s : State) :
    (flightFails h n s).kernel = s.kernel := by
  unfold flightFails
  dsimp only
  split
  · simp
  · split
    · simp
    · split <;> simp

@[simp] theorem mapFails_kernel (p : Nat) (tx : Tx) (s : State) :
    (mapFails p tx s).kernel = s.kernel := by
  unfold mapFails; (repeat' split) <;> simp <;> (repeat' split) <;> simp

@[simp] theorem exchangeFails_kernel (p : Nat) (tx : Tx) (s : State) :
    (exchangeFails p tx s).kernel = s.kernel := by
  simp [exchangeFails]

@[simp] theorem flightWorks_kernel (h n : Nat) (s : State) :
    (flightWorks h n s).kernel = s.kernel := by
  unfold flightWorks; dsimp only; split <;> simp

@[simp] theorem exchangeWorks_kernel (p : Nat) (tx : Tx) (k : Nat) (s : State) :
    (exchangeWorks p tx k s).kernel = s.kernel := by
  unfold exchangeWorks; (repeat' split) <;> simp <;> (repeat' split) <;> simp

@[simp] theorem cutSpan_kernel (p : Nat) (s : State) :
    (cutSpan p s).kernel = s.kernel := by
  simp [cutSpan]

@[simp] theorem abandonTx_kernel (p : Nat) (s : State) :
    (abandonTx p s).kernel = s.kernel := by
  unfold abandonTx; (repeat' split) <;> simp <;> (repeat' split) <;> simp

@[simp] theorem endTransmit_keeps (port_ : Nat) (s : State) : Keeps s (endTransmit port_ s) := by
  unfold endTransmit; (repeat' split) <;> simp

@[simp] theorem ackReceived_keeps (port_ fc start : Nat) (s : State) : Keeps s (ackReceived port_ fc start s) := by
  unfold ackReceived; (repeat' split) <;> simp

@[simp] theorem ackWindowClose_keeps (port_ : Nat) (s : State) : Keeps s (ackWindowClose port_ s) := by
  unfold ackWindowClose; (repeat' split) <;> simp

@[simp] theorem macConfigureBody_kernel (req : Bytes) (s : State) :
    (macConfigureBody req s).1.kernel = s.kernel := by
  unfold macConfigureBody; (repeat' split) <;> simp <;> (repeat' split) <;> simp

theorem execMacConfigure_keeps (c : Caller) (req : Bytes) (s : State) : Keeps s (execMacConfigure c req s) := by
  refine runCmd_kernel _ _ _ _ _ ?_; simp

@[simp] theorem macNeighbourBody_kernel (c : Caller) (req : Bytes) (s : State) :
    (macNeighbourBody c req s).1.kernel = s.kernel := by
  unfold macNeighbourBody; (repeat' split) <;> simp <;> (repeat' split) <;> simp

theorem execMacNeighbour_keeps (c : Caller) (req : Bytes) (s : State) : Keeps s (execMacNeighbour c req s) := by
  refine runCmd_kernel _ _ _ _ _ ?_; simp

end Sys2Proof.Machine
end

