-- ==== Sys2Proof/Laws/KernelReceive.lean ====
section
/-! SUPPORT. What the definitions of Machine/Receive.lean leave unchanged: the kernel of the state. -/

namespace Sys2Proof.Machine

theorem execPreambleDetect_keeps (port_ : Nat) (leek : Bool) (seen : PreambleSeen) (s : State) : Keeps s (execPreambleDetect port_ leek seen s) := by
  simp [execPreambleDetect]

theorem execAgcFrameGainRelease_keeps (port_ : Nat) (s : State) : Keeps s (execAgcFrameGainRelease port_ s) := by
  unfold execAgcFrameGainRelease; (repeat' split) <;> simp

@[simp] theorem busyUntil_kernel (p : Nat) (rx : Rx) (stop : Nat) (s : State) :
    (busyUntil p rx stop s).kernel = s.kernel := by
  simp [busyUntil]

@[simp] theorem holdOffAfter_kernel (p stop : Nat) (s : State) :
    (holdOffAfter p stop s).kernel = s.kernel := by
  simp [holdOffAfter]

@[simp] theorem observe_kernel (p e at_ : Nat) (leek : Option Nat) (snr : List SnrObs) (s : State) :
    (observe p e at_ leek snr s).kernel = s.kernel := by
  unfold observe; (repeat' split) <;> simp <;> (repeat' split) <;> simp

theorem execFrameControlReceived_keeps (port_ fc : Nat) (s : State) : Keeps s (execFrameControlReceived port_ fc s) := by
  unfold execFrameControlReceived; (repeat' split) <;> simp

@[simp] theorem noteSyndrome_kernel (p e id : Nat) (s : State) (flag : Bool) :
    (noteSyndrome p e id s flag).kernel = s.kernel := by
  simp [noteSyndrome]

@[simp] theorem noteSyndromes_kernel (p e id : Nat) (flags : List Bool) (s : State) :
    (noteSyndromes p e id flags s).kernel = s.kernel := by
  unfold noteSyndromes; (repeat' split) <;> simp <;> (repeat' split) <;> simp

@[simp] theorem noteOffset_kernel (p e : Nat) (offset : Int) (s : State) :
    (noteOffset p e offset s).kernel = s.kernel := by
  unfold noteOffset; (repeat' split) <;> simp <;> (repeat' split) <;> simp

/-- The state a reassembly context leaves. -/
theorem kernel_of_reasm {r : Reasm} {s t : State} {o : Option Nat} (h : takeReasm r s = (t, o)) : t.kernel = s.kernel := by
  simpa [h] using takeReasm_kernel r s

/-- The state a verified unit leaves. -/
theorem kernel_of_verify {o : Nat} {b : Bytes} {p : Bool} {s t : State} {v : Verified} (h : verifyUnit o b p s = (v, t)) :
    t.kernel = s.kernel := by
  simpa [h] using verifyUnit_kernel o b p s

@[simp] theorem acceptData_kernel (p origin cls seq src : Nat) (payload : Bytes) (poisoned : Bool) (rx : Rx) (s : State) :
    (acceptData p origin cls seq src payload poisoned rx s).kernel = s.kernel := by
  unfold acceptData
  dsimp only
  split
  · exact kernel_of_reasm ‹_›
  · have e := kernel_of_reasm ‹_›
    split <;> have g := kernel_of_verify ‹_› <;> simp [e] at g <;> simp [g]

@[simp] theorem acceptUnit_kernel (p : Nat) (f : Fc) (rx : Rx) (u : Bytes) (poisoned : Bool) (s : State) :
    (acceptUnit p f rx u poisoned s).kernel = s.kernel := by
  unfold acceptUnit; (repeat' split) <;> simp <;> (repeat' split) <;> simp

theorem execFrameBodyDecoded_keeps (port_ : Nat) (body : RxBody) (s : State) : Keeps s (execFrameBodyDecoded port_ body s) := by
  unfold execFrameBodyDecoded; (repeat' split) <;> simp

theorem execAckTransmit_keeps (port_ : Nat) (s : State) : Keeps s (execAckTransmit port_ s) := by
  unfold execAckTransmit; (repeat' split) <;> simp

end Sys2Proof.Machine
end

