-- ==== Sys2Proof/Laws/KernelCanceller.lean ====
section
/-! SUPPORT. What the definitions of Machine/Canceller.lean leave unchanged: the kernel of the state. -/

namespace Sys2Proof.Machine

@[simp] theorem updPair_kernel (v a : Nat) (f : CancPair → CancPair) (s : State) :
    (updPair v a f s).kernel = s.kernel := by
  unfold updPair; (repeat' split) <;> simp

@[simp] theorem cancChange_kernel (v a : Nat) (st : CancState) (s : State) :
    (cancChange v a st s).kernel = s.kernel := by
  simp [cancChange]

@[simp] theorem setCanc_kernel (v a : Nat) (st : CancState) (s : State) :
    (setCanc v a st s).kernel = s.kernel := by
  unfold setCanc; (repeat' split) <;> simp

@[simp] theorem cancSuspend_kernel (p cause : Nat) (s : State) :
    (cancSuspend p cause s).kernel = s.kernel := by
  simp [cancSuspend]

@[simp] theorem dropPairs_kernel (f : Nat → Bool) (s : State) :
    (dropPairs f s).kernel = s.kernel := by
  simp [dropPairs]

@[simp] theorem cancRemove_kernel (p : Nat) (s : State) :
    (cancRemove p s).kernel = s.kernel := by
  unfold cancRemove; (repeat' split) <;> (try simp) <;> (apply foldl_kernel; intro s x; (repeat' split) <;> simp)

@[simp] theorem replacePairs_kernel (v : Nat) (as : List Nat) (st : CancState) (s : State) :
    (replacePairs v as st s).kernel = s.kernel := by
  unfold replacePairs
  refine foldl_kernel_of _ ?_ _ (dropPairs_kernel ..)
  intro s a
  rfl

@[simp] theorem symbolBoundary_kernel (v : Nat) (s : State) :
    (symbolBoundary v s).kernel = s.kernel := by
  simp [symbolBoundary]

@[simp] theorem cancBoundary_kernel (v : Nat) (s : State) :
    (cancBoundary v s).kernel = s.kernel := by
  unfold cancBoundary
  extract_lets u
  have k : u.kernel = s.kernel := symbolBoundary_kernel ..
  clear_value u
  split
  · exact k
  · simp only []
    split
    · exact (replacePairs_kernel ..).trans k
    · exact (kernel_mk ..).trans ((replacePairs_kernel ..).trans k)

@[simp] theorem extendSurveys_kernel (len : Nat) (s : State) :
    (extendSurveys len s).kernel = s.kernel := by
  simp [extendSurveys]

@[simp] theorem recompute_kernel (v a : Nat) (pre delay : Bool) (s : State) :
    (recompute v a pre delay s).kernel = s.kernel := by
  unfold recompute; (repeat' split) <;> simp

@[simp] theorem countUpdate_kernel (v a : Nat) (s : State) :
    (countUpdate v a s).kernel = s.kernel := by
  unfold countUpdate; (repeat' split) <;> simp

@[simp] theorem observeEcho_kernel (v a : Nat) (o : Sight) (train : Bool) (s : State) :
    (observeEcho v a o train s).kernel = s.kernel := by
  unfold observeEcho; (repeat' split) <;> simp

@[simp] theorem observeRx_kernel (v a : Nat) (o : Sight) (train : Bool) (s : State) :
    (observeRx v a o train s).kernel = s.kernel := by
  unfold observeRx; (repeat' split) <;> simp

@[simp] theorem observeSelf_kernel (v g : Nat) (o : Sight) (s : State) :
    (observeSelf v g o s).kernel = s.kernel := by
  unfold observeSelf; (repeat' split) <;> simp

@[simp] theorem observePre_kernel (v a : Nat) (o : Sight) (s : State) :
    (observePre v a o s).kernel = s.kernel := by
  unfold observePre; (repeat' split) <;> simp

@[simp] theorem correctTx_kernel (v g : Nat) (s : State) :
    (correctTx v g s).kernel = s.kernel := by
  unfold correctTx; (repeat' split) <;> simp

@[simp] theorem correctRx_kernel (v a g : Nat) (engaged : Bool) (o : Sight) (s : State) :
    (correctRx v a g engaged o s).kernel = s.kernel := by
  unfold correctRx; (repeat' split) <;> simp

theorem execCancellerSurveyEnd_keeps (victim : Nat) (ties : List Nat) (s : State) : Keeps s (execCancellerSurveyEnd victim ties s) := by
  unfold execCancellerSurveyEnd
  refine keeps_if trivial ?_
  split
  · rfl
  · refine (raisePort_kernel ..).trans (foldl_kernel_of _ ?_ _ ?_)
    · intro s x
      split
      · split <;> simp
      · rfl
    · exact (dropPairs_kernel ..).trans ((kernel_mk ..).trans (advanceTo_kernel ..))

@[simp] theorem coefParity_kernel (v a : Nat) (s : State) :
    (coefParity v a s).kernel = s.kernel := by
  simp [coefParity]

@[simp] theorem noteShare_kernel (v a at_ : Nat) (covered : Bool) (s : State) :
    (noteShare v a at_ covered s).kernel = s.kernel := by
  simp [noteShare]

theorem execCancellerSymbol_keeps (victim aggressor : Nat) (sym : CancSymbol) (s : State) : Keeps s (execCancellerSymbol victim aggressor sym s) := by
  unfold execCancellerSymbol
  refine keeps_if trivial ?_
  extract_lets u
  have k : u.kernel = s.kernel := symbolBoundary_kernel ..
  clear_value u
  split
  · exact k
  · refine keeps_if ?_ (keeps_if ?_ (keeps_if ?_ ?_))
    · exact (coefParity_kernel ..).trans ((noteShare_kernel ..).trans k)
    · exact (noteShare_kernel ..).trans k
    · exact (correctRx_kernel ..).trans ((correctTx_kernel ..).trans ((noteShare_kernel ..).trans k))
    · simp only [keeps_next, apply_ite State.kernel, observeSelf_kernel, observePre_kernel, observeRx_kernel, observeEcho_kernel,
        correctRx_kernel, ite_self]
      exact (correctTx_kernel ..).trans ((noteShare_kernel ..).trans k)

@[simp] theorem takeGains_kernel (v a : Nat) (s : State) :
    (takeGains v a s).kernel = s.kernel := by
  simp [takeGains]

theorem execCancellerStateChange_keeps (victim aggressor was goal : Nat) (s : State) : Keeps s (execCancellerStateChange victim aggressor was goal s) := by
  unfold execCancellerStateChange; (repeat' split) <;> simp

theorem execCancellerDisengagedTimeout_keeps (victim aggressor : Nat) (s : State) : Keeps s (execCancellerDisengagedTimeout victim aggressor s) := by
  unfold execCancellerDisengagedTimeout; (repeat' split) <;> simp

theorem execCancellerSuspendLong_keeps (victim aggressor : Nat) (s : State) : Keeps s (execCancellerSuspendLong victim aggressor s) := by
  unfold execCancellerSuspendLong
  refine keeps_if trivial ?_
  split
  · rfl
  · extract_lets holding
    split <;> simp

@[simp] theorem cancellerConfigureBody_kernel (req : Bytes) (s : State) :
    (cancellerConfigureBody req s).1.kernel = s.kernel := by
  unfold cancellerConfigureBody; (repeat' split) <;> simp <;> (repeat' split) <;> simp

theorem execCancellerConfigure_keeps (c : Caller) (req : Bytes) (s : State) : Keeps s (execCancellerConfigure c req s) := by
  refine runCmd_kernel _ _ _ _ _ ?_; simp

@[simp] theorem cancellerSetguardBody_kernel (req : Bytes) (s : State) :
    (cancellerSetguardBody req s).1.kernel = s.kernel := by
  unfold cancellerSetguardBody; (repeat' split) <;> simp

theorem execCancellerSetguard_keeps (c : Caller) (req : Bytes) (s : State) : Keeps s (execCancellerSetguard c req s) := by
  refine runCmd_kernel _ _ _ _ _ ?_; simp

@[simp] theorem cancellerStatusBody_kernel (c : Caller) (req : Bytes) (s : State) :
    (cancellerStatusBody c req s).1.kernel = s.kernel := by
  unfold cancellerStatusBody; (repeat' split) <;> simp <;> (repeat' split) <;> simp

theorem execCancellerStatus_keeps (c : Caller) (req : Bytes) (s : State) : Keeps s (execCancellerStatus c req s) := by
  refine runCmd_kernel _ _ _ _ _ ?_; simp

end Sys2Proof.Machine
end

