-- ==== Sys2Proof/Laws/KernelClosing.lean ====
section
/-! SUPPORT. What the definitions of Machine/Closing.lean leave unchanged: the kernel of the state. -/

namespace Sys2Proof.Machine

@[simp] theorem settleSettings_kernel (p : Nat) (s : State) :
    (settleSettings p s).kernel = s.kernel := by
  simp [settleSettings]

@[simp] theorem shutPort_kernel (p : Nat) (s : State) :
    (shutPort p s).kernel = s.kernel := by
  simp [shutPort]

@[simp] theorem finishClose_kernel (p : Nat) (s : State) :
    (finishClose p s).kernel = s.kernel := by
  unfold finishClose; (repeat' split) <;> simp

@[simp] theorem closeWhenIdle_kernel (p : Nat) (s : State) :
    (closeWhenIdle p s).kernel = s.kernel := by
  unfold closeWhenIdle; (repeat' split) <;> simp <;> (repeat' split) <;> simp

/-- A port that closes when its exchange ends (R87). -/
theorem closing_keeps (p : Nat) (s : State) (o : Out) (h : Keeps s o) : Keeps s (closing p o) := by
  cases o <;> simp_all [closing]

end Sys2Proof.Machine
end

