-- ==== Sys2Proof/Laws/KernelBeacon.lean ====
section
/-! SUPPORT. What the definitions of Machine/Beacon.lean leave unchanged: the kernel of the state. -/

namespace Sys2Proof.Machine

@[simp] theorem dropMaps_kernel (p : Nat) (bad : ToneMap → Bool) (mask : Bool) (s : State) :
    (dropMaps p bad mask s).kernel = s.kernel := by
  simp [dropMaps]

@[simp] theorem phyBoundary_kernel (p : Nat) (s : State) :
    (phyBoundary p s).kernel = s.kernel := by
  unfold phyBoundary; (repeat' split) <;> simp <;> (repeat' split) <;> simp

@[simp] theorem mainsBoundary_kernel (p : Nat) (s : State) :
    (mainsBoundary p s).kernel = s.kernel := by
  unfold mainsBoundary; (repeat' split) <;> simp <;> (repeat' split) <;> simp

@[simp] theorem profileBoundary_kernel (p : Nat) (s : State) :
    (profileBoundary p s).kernel = s.kernel := by
  unfold profileBoundary; (repeat' split) <;> simp <;> (repeat' split) <;> simp

@[simp] theorem listenBoundary_kernel (p : Nat) (s : State) :
    (listenBoundary p s).kernel = s.kernel := by
  unfold listenBoundary; (repeat' split) <;> simp <;> (repeat' split) <;> simp

@[simp] theorem periodBoundary_kernel (p : Nat) (s : State) :
    (periodBoundary p s).kernel = s.kernel := by
  simp [periodBoundary]

@[simp] theorem topoNotify_kernel (p seq pod_ : Nat) (affected : List Nat) (s : State) :
    (topoNotify p seq pod_ affected s).kernel = s.kernel := by
  simp [topoNotify]

@[simp] theorem topoReport_kernel (p : Nat) (s : State) :
    (topoReport p s).kernel = s.kernel := by
  unfold topoReport
  dsimp only
  refine kernel_if rfl ?_
  exact (foldl_kernel _ (fun _ _ => topoNotify_kernel ..) _ _).trans (by simp)

@[simp] theorem topoBoundary_kernel (p : Nat) (s : State) :
    (topoBoundary p s).kernel = s.kernel := by
  simp [topoBoundary]

@[simp] theorem sendBeacon_kernel (p start next : Nat) (s : State) :
    (sendBeacon p start next s).kernel = s.kernel := by
  simp [sendBeacon]

@[simp] theorem dropRx_kernel (p : Nat) (s : State) :
    (dropRx p s).kernel = s.kernel := by
  simp [dropRx]

@[simp] theorem boundary_kernel (p at_ : Nat) (s : State) :
    (boundary p at_ s).kernel = s.kernel := by
  simp [boundary]

theorem execBeaconStart_keeps (port_ : Nat) (s : State) : Keeps s (execBeaconStart port_ s) := by
  simp [execBeaconStart]

@[simp] theorem phyConfigureBody_kernel (req : Bytes) (s : State) :
    (phyConfigureBody req s).1.kernel = s.kernel := by
  unfold phyConfigureBody; (repeat' split) <;> simp <;> (repeat' split) <;> simp

theorem execPhyConfigure_keeps (c : Caller) (req : Bytes) (s : State) : Keeps s (execPhyConfigure c req s) := by
  refine runCmd_kernel _ _ _ _ _ ?_; simp

end Sys2Proof.Machine
end

