-- ==== Sys2Proof/Laws/KernelTopology.lean ====
section
/-! SUPPORT. What the definitions of Machine/Topology.lean leave unchanged: the kernel of the state. -/

namespace Sys2Proof.Machine

@[simp] theorem purgeMessages_kernel (p : Nat) (s : State) :
    (purgeMessages p s).kernel = s.kernel := by
  unfold purgeMessages; (repeat' split) <;> (try simp) <;> (apply foldl_kernel; intro s x; (repeat' split) <;> simp)

@[simp] theorem abandonVersion_kernel (p : Nat) (s : State) :
    (abandonVersion p s).kernel = s.kernel := by
  simp [abandonVersion]

@[simp] theorem activateVersion_kernel (p : Nat) (w : PendingTree) (s : State) :
    (activateVersion p w s).kernel = s.kernel := by
  unfold activateVersion
  refine (purgeMessages_kernel ..).trans ?_
  refine (foldl_kernel _ (by simp) _ _).trans ?_
  refine (foldl_kernel _ (by simp) _ _).trans ?_
  simp

@[simp] theorem advanceVersion_kernel (p : Nat) (s : State) :
    (advanceVersion p s).kernel = s.kernel := by
  unfold advanceVersion
  split
  · rfl
  · refine kernel_if (activateVersion_kernel ..) ?_
    refine (foldl_kernel _ (fun s x => foldl_kernel _ (by simp) _ _) _ _).trans (updTopo_kernel ..)

@[simp] theorem unplaced_kernel (p : Nat) (parents : Table Nat) (s : State) :
    (unplaced p parents s).kernel = s.kernel := by
  simp [unplaced]

theorem execTreeComputation_keeps (port_ : Nat) (s : State) : Keeps s (execTreeComputation port_ s) := by
  simp [execTreeComputation]

theorem execTpRouteAckReceived_keeps (port_ ep : Nat) (msg : Bytes) (s : State) : Keeps s (execTpRouteAckReceived port_ ep msg s) := by
  refine fromEndpoint_keeps _ _ _ _ ?_; (repeat' split) <;> simp

theorem execPendingVersionTimeout_keeps (port_ : Nat) (s : State) : Keeps s (execPendingVersionTimeout port_ s) := by
  unfold execPendingVersionTimeout; (repeat' split) <;> simp

theorem execTpLinkReportReceived_keeps (port_ ep : Nat) (msg : Bytes) (s : State) : Keeps s (execTpLinkReportReceived port_ ep msg s) := by
  refine fromEndpoint_keeps _ _ _ _ ?_; simp

@[simp] theorem admitEndpoint_kernel (ep p pod_ eui : Nat) (s : State) :
    (admitEndpoint ep p pod_ eui s).1.kernel = s.kernel := by
  unfold admitEndpoint; (repeat' split) <;> simp <;> (repeat' split) <;> simp

@[simp] theorem serveJoin_kernel (p : Nat) (msg : Bytes) (s : State) :
    (serveJoin p msg s).kernel = s.kernel := by
  unfold serveJoin; (repeat' split) <;> simp <;> (repeat' split) <;> simp

@[simp] theorem resumeJoins_kernel (s : State) :
    (resumeJoins s).kernel = s.kernel := by
  simp [resumeJoins]

theorem execTpJoinReceived_keeps (port_ ep : Nat) (msg : Bytes) (s : State) : Keeps s (execTpJoinReceived port_ ep msg s) := by
  refine onPort_keeps _ _ _ ?_; (repeat' split) <;> simp <;> (repeat' split) <;> simp

theorem execUnreachableHoldExpiry_keeps (ep : Nat) (s : State) : Keeps s (execUnreachableHoldExpiry ep s) := by
  simp [execUnreachableHoldExpiry]

@[simp] theorem topologyConfigureBody_kernel (req : Bytes) (s : State) :
    (topologyConfigureBody req s).1.kernel = s.kernel := by
  unfold topologyConfigureBody; (repeat' split) <;> simp <;> (repeat' split) <;> simp

theorem execTopologyConfigure_keeps (c : Caller) (req : Bytes) (s : State) : Keeps s (execTopologyConfigure c req s) := by
  refine runCmd_kernel _ _ _ _ _ ?_; simp

@[simp] theorem endpointAdmitBody_kernel (req : Bytes) (s : State) :
    (endpointAdmitBody req s).1.kernel = s.kernel := by
  unfold endpointAdmitBody; (repeat' split) <;> simp <;> (repeat' split) <;> simp

theorem execEndpointAdmit_keeps (c : Caller) (req : Bytes) (s : State) : Keeps s (execEndpointAdmit c req s) := by
  refine runCmd_kernel _ _ _ _ _ ?_; simp

@[simp] theorem dropHeld_kernel (ep : Nat) (s : State) :
    (dropHeld ep s).kernel = s.kernel := by
  unfold dropHeld; (repeat' split) <;> (try simp) <;> (apply foldl_kernel; intro s x; (repeat' split) <;> simp)

@[simp] theorem removeEndpoint_kernel (ep : Nat) (s : State) :
    (removeEndpoint ep s).kernel = s.kernel := by
  simp [removeEndpoint]

@[simp] theorem endpointRemoveBody_kernel (req : Bytes) (s : State) :
    (endpointRemoveBody req s).1.kernel = s.kernel := by
  unfold endpointRemoveBody; (repeat' split) <;> simp <;> (repeat' split) <;> simp

theorem execEndpointRemove_keeps (c : Caller) (req : Bytes) (s : State) : Keeps s (execEndpointRemove c req s) := by
  refine runCmd_kernel _ _ _ _ _ ?_; simp

@[simp] theorem topologyReadBody_kernel (c : Caller) (req : Bytes) (s : State) :
    (topologyReadBody c req s).1.kernel = s.kernel := by
  unfold topologyReadBody; (repeat' split) <;> simp <;> (repeat' split) <;> simp

theorem execTopologyRead_keeps (c : Caller) (req : Bytes) (s : State) : Keeps s (execTopologyRead c req s) := by
  refine runCmd_kernel _ _ _ _ _ ?_; simp

end Sys2Proof.Machine
end

