-- ==== Sys2Proof/Laws/KernelLine.lean ====
section
/-! SUPPORT. What the definitions of Machine/Line.lean leave unchanged: the kernel of the state. -/

namespace Sys2Proof.Machine

@[simp] theorem tapsStop_kernel (p : Nat) (s : State) :
    (tapsStop p s).kernel = s.kernel := by
  simp [tapsStop]

@[simp] theorem tapsResume_kernel (p from_ : Nat) (s : State) :
    (tapsResume p from_ s).kernel = s.kernel := by
  simp [tapsResume]

@[simp] theorem midScale_kernel (lane to_ : Nat) (s : State) :
    (midScale lane to_ s).kernel = s.kernel := by
  simp [midScale]

@[simp] theorem breakTx_kernel (p : Nat) (lanes : List Nat) (s : State) :
    (breakTx p lanes s).kernel = s.kernel := by
  unfold breakTx; (repeat' split) <;> simp

@[simp] theorem driverFault_kernel (p : Nat) (s : State) :
    (driverFault p s).kernel = s.kernel := by
  unfold driverFault; (repeat' split) <;> simp <;> (repeat' split) <;> simp

theorem execDrvfltQualify_keeps (port_ : Nat) (s : State) : Keeps s (execDrvfltQualify port_ s) := by
  simp [execDrvfltQualify]

theorem execDriverAutoRearm_keeps (port_ : Nat) (s : State) : Keeps s (execDriverAutoRearm port_ s) := by
  simp [execDriverAutoRearm]

theorem execTxenRise_keeps (port_ : Nat) (s : State) : Keeps s (execTxenRise port_ s) := by
  unfold execTxenRise
  refine keeps_if trivial ?_
  extract_lets next
  clear_value next
  cases next
  · rfl
  · exact keeps_if rfl (by simp)

theorem execTxenFall_keeps (port_ : Nat) (s : State) : Keeps s (execTxenFall port_ s) := by
  unfold execTxenFall; (repeat' split) <;> simp <;> (repeat' split) <;> simp

theorem execFrameTransmitEnd_keeps (port_ : Nat) (s : State) : Keeps s (execFrameTransmitEnd port_ s) := by
  exact closing_keeps _ _ _ (endTransmit_keeps ..)

theorem execAckReceived_keeps (port_ fc start : Nat) (s : State) : Keeps s (execAckReceived port_ fc start s) := by
  exact closing_keeps _ _ _ (ackReceived_keeps ..)

theorem execAckWindowClose_keeps (port_ : Nat) (s : State) : Keeps s (execAckWindowClose port_ s) := by
  exact closing_keeps _ _ _ (ackWindowClose_keeps ..)

@[simp] theorem discardPort_kernel (p : Nat) (st : Status) (s : State) :
    (discardPort p st s).kernel = s.kernel := by
  unfold discardPort; (repeat' split) <;> (try simp) <;> (apply foldl_kernel; intro s x; (repeat' split) <;> simp)

@[simp] theorem portCloseBody_kernel (c : Caller) (req : Bytes) (s : State) :
    (portCloseBody c req s).1.kernel = s.kernel := by
  unfold portCloseBody; (repeat' split) <;> simp <;> (repeat' split) <;> simp

theorem execPortClose_keeps (c : Caller) (req : Bytes) (s : State) : Keeps s (execPortClose c req s) := by
  refine (closeWhenIdle_kernel ..).trans ?_
  exact runCmd_kernel _ _ _ _ _ (portCloseBody_kernel ..)

@[simp] theorem loopback_kernel (p : Nat) (cal : Cal) (s : State) :
    (loopback p cal s).kernel = s.kernel := by
  simp [loopback]

@[simp] theorem loopbackEnds_kernel (p : Nat) (s : State) :
    (loopbackEnds p s).kernel = s.kernel := by
  simp [loopbackEnds]

@[simp] theorem portOpenBody_kernel (c : Caller) (req : Bytes) (s : State) :
    (portOpenBody c req s).1.kernel = s.kernel := by
  unfold portOpenBody; (repeat' split) <;> simp <;> (repeat' split) <;> simp

theorem execPortOpen_keeps (c : Caller) (req : Bytes) (s : State) : Keeps s (execPortOpen c req s) := by
  refine runCmd_kernel _ _ _ _ _ ?_; simp

@[simp] theorem openPort_kernel (p : Nat) (req : Bytes) (r : CalResult) (s : State) :
    (openPort p req r s).kernel = s.kernel := by
  unfold openPort; (repeat' split) <;> simp <;> (repeat' split) <;> simp

@[simp] theorem startReopens_kernel (s : State) :
    (startReopens s).kernel = s.kernel := by
  unfold startReopens; (repeat' split) <;> (try simp) <;> (apply foldl_kernel; intro s x; (repeat' split) <;> simp)

@[simp] theorem reopenEnds_kernel (p : Nat) (req : Bytes) (r : CalResult) (s : State) :
    (reopenEnds p req r s).kernel = s.kernel := by
  unfold reopenEnds; (repeat' split) <;> simp <;> (repeat' split) <;> simp

theorem execPortOpenCalibrationEnd_keeps (port_ : Nat) (result : CalResult) (s : State) : Keeps s (execPortOpenCalibrationEnd port_ result s) := by
  unfold execPortOpenCalibrationEnd; (repeat' split) <;> simp

@[simp] theorem laneCalibrateBody_kernel (c : Caller) (req : Bytes) (s : State) :
    (laneCalibrateBody c req s).1.kernel = s.kernel := by
  unfold laneCalibrateBody; (repeat' split) <;> simp <;> (repeat' split) <;> simp

theorem execLaneCalibrate_keeps (c : Caller) (req : Bytes) (s : State) : Keeps s (execLaneCalibrate c req s) := by
  refine runCmd_kernel _ _ _ _ _ ?_; simp

theorem execCalibrationStart_keeps (port_ : Nat) (s : State) : Keeps s (execCalibrationStart port_ s) := by
  unfold execCalibrationStart; (repeat' split) <;> simp

theorem execCalibrationComplete_keeps (port_ : Nat) (result : CalResult) (s : State) : Keeps s (execCalibrationComplete port_ result s) := by
  unfold execCalibrationComplete; (repeat' split) <;> simp

@[simp] theorem laneGainBody_kernel (c : Caller) (req : Bytes) (s : State) :
    (laneGainBody c req s).1.kernel = s.kernel := by
  unfold laneGainBody; (repeat' split) <;> simp <;> (repeat' split) <;> simp

theorem execLaneGain_keeps (c : Caller) (req : Bytes) (s : State) : Keeps s (execLaneGain c req s) := by
  refine runCmd_kernel _ _ _ _ _ ?_; simp

@[simp] theorem driverRearmBody_kernel (c : Caller) (req : Bytes) (s : State) :
    (driverRearmBody c req s).1.kernel = s.kernel := by
  unfold driverRearmBody; (repeat' split) <;> simp <;> (repeat' split) <;> simp

theorem execDriverRearm_keeps (c : Caller) (req : Bytes) (s : State) : Keeps s (execDriverRearm c req s) := by
  refine runCmd_kernel _ _ _ _ _ ?_; simp

theorem execTxFifoUnderflow_keeps (short : TxShort) (s : State) : Keeps s (execTxFifoUnderflow short s) := by
  simp [execTxFifoUnderflow]

theorem execRxFifoOverflow_keeps (lane lost : Nat) (s : State) : Keeps s (execRxFifoOverflow lane lost s) := by
  simp [execRxFifoOverflow]

theorem execReferenceLost_keeps (s : State) : Keeps s (execReferenceLost s) := by
  simp [execReferenceLost]

theorem execReferenceReturn_keeps (s : State) : Keeps s (execReferenceReturn s) := by
  simp [execReferenceReturn]

@[simp] theorem stopPort_kernel (p : Nat) (st : Status) (s : State) :
    (stopPort p st s).kernel = s.kernel := by
  unfold stopPort; (repeat' split) <;> simp <;> (repeat' split) <;> simp

@[simp] theorem sensingStops_kernel (s : State) :
    (sensingStops s).kernel = s.kernel := by
  unfold sensingStops; (repeat' split) <;> (try simp) <;> (apply foldl_kernel; intro s x; (repeat' split) <;> simp)

@[simp] theorem startMove_kernel (first last : Nat) (to_ : Synth) (caller : Option Caller) (s : State) :
    (startMove first last to_ caller s).kernel = s.kernel := by
  unfold startMove; (repeat' split) <;> (try simp) <;> (apply foldl_kernel; intro s x; (repeat' split) <;> simp)

@[simp] theorem stopAll_kernel (s : State) :
    (stopAll s).kernel = s.kernel := by
  unfold stopAll
  dsimp only
  have h : ∀ t : State, (((List.range s.part.ports).filter (fun p => !(port s p).line.stopped)).foldl
      (fun s p => stopPort p St.portState s) t).kernel = t.kernel := fun t => foldl_kernel _ (by simp) _ _
  split <;> simp [h]

@[simp] theorem markFailed_kernel (y : Synth) (s : State) :
    (markFailed y s).kernel = s.kernel := by
  unfold markFailed; simp only []; (repeat' split) <;> (try (rename_i heq; have e := congrArg (fun p => p.1.kernel) heq; simp at e)) <;> simp_all

theorem execSynthFailure_keeps (synth : Synth) (s : State) : Keeps s (execSynthFailure synth s) := by
  unfold execSynthFailure; (repeat' split) <;> simp <;> (repeat' split) <;> simp

@[simp] theorem remeasure_kernel (p : Nat) (s : State) :
    (remeasure p s).kernel = s.kernel := by
  simp [remeasure]

@[simp] theorem resumePort_kernel (p lost : Nat) (s : State) :
    (resumePort p lost s).kernel = s.kernel := by
  unfold resumePort; (repeat' split) <;> simp <;> (repeat' split) <;> simp

theorem execSynthAdoptionComplete_keeps (lost : Nat) (s : State) : Keeps s (execSynthAdoptionComplete lost s) := by
  unfold execSynthAdoptionComplete; (repeat' split) <;> simp

@[simp] theorem synthRebalanceBody_kernel (c : Caller) (s : State) :
    (synthRebalanceBody c s).1.kernel = s.kernel := by
  unfold synthRebalanceBody; (repeat' split) <;> simp <;> (repeat' split) <;> simp

theorem execSynthRebalance_keeps (c : Caller) (req : Bytes) (s : State) : Keeps s (execSynthRebalance c req s) := by
  refine runCmd_kernel _ _ _ _ _ ?_; simp

end Sys2Proof.Machine
end

