-- ==== Sys2Proof/Laws/KernelPods.lean ====
section
/-! SUPPORT. What the definitions of Machine/Pods.lean leave unchanged: the kernel of the state. -/

namespace Sys2Proof.Machine

@[simp] theorem quitEngines_kernel (n : Nat) (cut : Bool) (s : State) :
    (quitEngines n cut s).kernel = s.kernel := by
  simp [quitEngines]

@[simp] theorem quitMailbox_kernel (n : Nat) (s : State) :
    (quitMailbox n s).kernel = s.kernel := by
  unfold quitMailbox
  dsimp only
  refine (quitEngines_kernel ..).trans ?_
  refine (foldl_kernel _ (fun s l => ?_) _ _).trans (foldl_kernel _ (by simp) _ _)
  exact (foldl_kernel _ (by simp) _ _).trans (by simp)

@[simp] theorem quitCipher_kernel (n : Nat) (s : State) :
    (quitCipher n s).kernel = s.kernel := by
  unfold quitCipher
  refine (journalWrite_kernel ..).trans ?_
  refine (foldl_kernel _ (by simp) _ _).trans ?_
  dsimp only
  refine (kernel_mk ..).trans ?_
  refine (foldl_kernel _ (by simp) _ _).trans ?_
  exact (foldl_kernel _ (by simp) _ _).trans (foldl_kernel _ (by simp) _ _)

@[simp] theorem quitFrames_kernel (n : Nat) (s : State) :
    (quitFrames n s).kernel = s.kernel := by
  simp [quitFrames]

@[simp] theorem quitChecks_kernel (n : Nat) (s : State) :
    (quitChecks n s).kernel = s.kernel := by
  unfold quitChecks
  refine (foldl_kernel _ (by simp) _ _).trans ?_
  refine (foldl_kernel _ (by simp) _ _).trans ?_
  refine foldl_kernel _ (fun s e => ?_) _ _
  split <;> simp

@[simp] theorem quitChains_kernel (n : Nat) (s : State) :
    (quitChains n s).kernel = s.kernel := by
  simp [quitChains]

@[simp] theorem quitSensing_kernel (n : Nat) (s : State) :
    (quitSensing n s).kernel = s.kernel := by
  unfold quitSensing
  refine (foldl_kernel _ (fun s i => ?_) _ _).trans ?_
  · dsimp only
    split
    · rfl
    · exact kernel_if (kernel_if (endI2c_kernel ..) rfl) (kernel_if (setI2cPort_kernel ..) rfl)
  · refine (foldl_kernel _ (by simp) _ _).trans ?_
    exact (foldl_kernel _ (by simp) _ _).trans (foldl_kernel _ (by simp) _ _)

@[simp] theorem quitCounters_kernel (n : Nat) (s : State) :
    (quitCounters n s).kernel = s.kernel := by
  simp [quitCounters]

@[simp] theorem quitEvents_kernel (n : Nat) (s : State) :
    (quitEvents n s).kernel = s.kernel := by
  simp [quitEvents]

@[simp] theorem quitServices_kernel (n : Nat) (s : State) :
    (quitServices n s).kernel = s.kernel := by
  simp [quitServices]

@[simp] theorem startPodReset_kernel (n cause : Nat) (caller : Option Caller) (s : State) :
    (startPodReset n cause caller s).kernel = s.kernel := by
  simp [startPodReset]

@[simp] theorem resetLanes_kernel (n : Nat) (s : State) :
    (resetLanes n s).kernel = s.kernel := by
  simp [resetLanes]

@[simp] theorem resetRings_kernel (n : Nat) (s : State) :
    (resetRings n s).kernel = s.kernel := by
  simp [resetRings]

@[simp] theorem resetMsix_kernel (fn : Nat) (s : State) :
    (resetMsix fn s).kernel = s.kernel := by
  simp [resetMsix]

theorem retireAccess_kept (a : Checked) (s : State) : Kept s (retireAccess a s) := by
  unfold retireAccess
  have k : ∀ (addr : Nat) (data : Bytes), Kept s (ddrWrite addr data
      { s with fw.inFlight := s.fw.inFlight.filter (fun b => b.id != a.id) }) :=
    fun addr data => Kept.trans (t := { s with fw.inFlight := s.fw.inFlight.filter (fun b => b.id != a.id) }) (.of_kernel rfl)
      (ddrWrite_kept ..)
  rcases a.write with _ | ⟨addr, data⟩ <;> cases a.read <;> dsimp only
  · exact .of_kernel rfl
  · exact .of_kernel (by simp)
  · exact (k addr data).andThen (by simp)
  · exact (k addr data).andThen (by simp)

theorem execPodResetComplete_kept (pod_ : Nat) (s : State) : KeptOut s (execPodResetComplete pod_ s) := by
  unfold execPodResetComplete
  refine KeptOut.iff trivial (KeptOut.iff (.refl s) ?_)
  refine Kept.andThen ?_ (foldl_kernel _ (by simp) _ _)
  exact (foldl_kept _ (fun s a => retireAccess_kept a s) (s.fw.inFlight.filter (fun a => a.pod == pod_)) s).andThen (by simp)

theorem execVfEnable_keeps (numVfs : Nat) (s : State) : Keeps s (execVfEnable numVfs s) := by
  simp [execVfEnable]

theorem execVfDisable_keeps (numVfs : Nat) (s : State) : Keeps s (execVfDisable numVfs s) := by
  simp [execVfDisable]

theorem execVfFunctionLevelReset_keeps (n : Nat) (s : State) : Keeps s (execVfFunctionLevelReset n s) := by
  simp [execVfFunctionLevelReset]

theorem execPcieInterfaceReset_keeps (_kind : PcieReset) (s : State) : Keeps s (execPcieInterfaceReset _kind s) := by
  simp [execPcieInterfaceReset]

theorem execPcieLinkUp_keeps (s : State) : Keeps s (execPcieLinkUp s) := by
  simp [execPcieLinkUp]

theorem execMsixVectorUnmask_keeps (fn vector : Nat) (s : State) : Keeps s (execMsixVectorUnmask fn vector s) := by
  simp [execMsixVectorUnmask]

theorem execAdmitVectorDeferred_keeps (fn : Nat) (s : State) : Keeps s (execAdmitVectorDeferred fn s) := by
  unfold execAdmitVectorDeferred; (repeat' split) <;> simp <;> (repeat' split) <;> simp

theorem execDeliveryVectorDeferred_keeps (fn : Nat) (s : State) : Keeps s (execDeliveryVectorDeferred fn s) := by
  unfold execDeliveryVectorDeferred; (repeat' split) <;> simp <;> (repeat' split) <;> simp

theorem execApertureAccess_keeps (pod_ : Nat) (write : Bool) (offset len : Nat) (data : Bytes) (s : State) : Keeps s (execApertureAccess pod_ write offset len data s) := by
  simp [execApertureAccess]

theorem execCheckedAccessRetire_kept (id : Nat) (s : State) : KeptOut s (execCheckedAccessRetire id s) := by
  unfold execCheckedAccessRetire
  split
  · exact .refl s
  · exact retireAccess_kept ..

@[simp] theorem podResetBody_kernel (c : Caller) (req : Bytes) (s : State) :
    (podResetBody c req s).1.kernel = s.kernel := by
  unfold podResetBody; (repeat' split) <;> simp <;> (repeat' split) <;> simp

theorem execPodReset_keeps (c : Caller) (req : Bytes) (s : State) : Keeps s (execPodReset c req s) := by
  refine runCmd_kernel _ _ _ _ _ ?_; simp

@[simp] theorem unmapPort_kernel (p : Nat) (s : State) :
    (unmapPort p s).kernel = s.kernel := by
  simp [unmapPort]

@[simp] theorem podAssignBody_kernel (req : Bytes) (s : State) :
    (podAssignBody req s).1.kernel = s.kernel := by
  unfold podAssignBody; (repeat' split) <;> simp <;> (repeat' split) <;> simp

theorem execPodAssign_keeps (c : Caller) (req : Bytes) (s : State) : Keeps s (execPodAssign c req s) := by
  refine runCmd_kernel _ _ _ _ _ ?_; simp

@[simp] theorem podWindowBody_kernel (req : Bytes) (s : State) :
    (podWindowBody req s).1.kernel = s.kernel := by
  unfold podWindowBody; (repeat' split) <;> simp <;> (repeat' split) <;> simp

theorem execPodWindow_keeps (c : Caller) (req : Bytes) (s : State) : Keeps s (execPodWindow c req s) := by
  refine runCmd_kernel _ _ _ _ _ ?_; simp

end Sys2Proof.Machine
end

