-- ==== Sys2Proof/Laws/KernelStandby.lean ====
section
/-! SUPPORT. What the definitions of Machine/Standby.lean leave unchanged: the kernel of the state. -/

namespace Sys2Proof.Machine

@[simp] theorem keepGap_kernel (old : State) (c : Nat) (s : State) :
    (keepGap old c s).kernel = s.kernel := by
  unfold keepGap
  exact foldl_kernel _ (fun t p => kernel_if (by simp) rfl) _ _

@[simp] theorem applyPart_kernel (x : StandbySet) (n : Nat) (s : State) :
    (applyPart x n s).kernel = s.kernel := by
  unfold applyPart; (repeat' split) <;> simp

theorem execStandbySetApply_keeps (failed : List Nat) (s : State) : Keeps s (execStandbySetApply failed s) := by
  unfold execStandbySetApply; (repeat' split) <;> simp

end Sys2Proof.Machine
end

