-- ==== Sys2Proof/Laws/KernelSecurity.lean ====
section
/-! SUPPORT. What the definitions of Machine/Security.lean leave unchanged: the kernel of the state. -/

namespace Sys2Proof.Machine

@[simp] theorem newKwk_kernel (s : State) :
    (newKwk s).kernel = s.kernel := by
  simp [newKwk]

@[simp] theorem applyTarget_kernel (t : JTarget) (s : State) :
    (applyTarget t s).kernel = s.kernel := by
  unfold applyTarget; (repeat' split) <;> simp

@[simp] theorem startWaiting_kernel (page : Nat) (s : State) :
    (startWaiting page s).kernel = s.kernel := by
  simp [startWaiting]

@[simp] theorem standbyRecorded_kernel (t : JTarget) (s : State) :
    (standbyRecorded t s).kernel = s.kernel := by
  unfold standbyRecorded; (repeat' split) <;> simp

theorem execJournaledWriteCommit_keeps (s : State) : Keeps s (execJournaledWriteCommit s) := by
  unfold execJournaledWriteCommit; (repeat' split) <;> simp

@[simp] theorem tamperEngine_kernel (s : State) :
    (tamperEngine s).kernel = s.kernel := by
  unfold tamperEngine
  refine (kernel_mk ..).trans ?_
  exact (foldl_kernel _ (by simp) _ _).trans (foldl_kernel _ (by simp) _ _)

@[simp] theorem noteAlarm_kernel (source : Nat) (s : State) :
    (noteAlarm source s).kernel = s.kernel := by
  simp [noteAlarm]

@[simp] theorem tamperAlarm_kernel (source : Nat) (s : State) :
    (tamperAlarm source s).kernel = s.kernel := by
  simp [tamperAlarm]

theorem execTamperQualify_keeps (source : Nat) (s : State) : Keeps s (execTamperQualify source s) := by
  simp [execTamperQualify]

theorem execTamperLoopPattern_keeps (input_ returned : Nat) (s : State) : Keeps s (execTamperLoopPattern input_ returned s) := by
  simp [execTamperLoopPattern]

@[simp] theorem persist_kernel (t : JTarget) (c : Caller) (resp : Bytes) (s : State) :
    (persist t c resp s).1.kernel = s.kernel := by
  simp [persist]

theorem secLifecycleBody_kept (c : Caller) (req : Bytes) (s : State) : Kept s (secLifecycleBody c req s).1 := by
  unfold secLifecycleBody
  dsimp only
  split
  · exact .of_kernel (by simp)
  · rename_i h
    have k : Kept s { s with sec.lifecycle := rd req 0 1, sec.tap := Tap.of (rd req 0 1) } := by
      simp only [bne_iff_ne, ne_eq, Bool.or_eq_true, decide_eq_true_eq, not_or, Decidable.not_not] at h
      exact { Kept.refl s with
        lifecycle := by dsimp only; omega
        bound := fun _ => by dsimp only; omega
        tap := fun _ => rfl }
    split
    · exact k.andThen (by simp)
    · split
      · exact k.andThen (by simp)
      · refine k.andThen ?_
        refine (persist_kernel ..).trans ((tamperEngine_kernel ..).trans ?_)
        exact (kernel_mk_sec ..).trans (foldl_kernel _ (by simp) _ _)

theorem execSecLifecycle_kept (c : Caller) (req : Bytes) (s : State) : KeptOut s (execSecLifecycle c req s) := by
  exact runCmd_kept _ _ _ _ _ (secLifecycleBody_kept ..)

theorem secRevokeBody_kept (req : Bytes) (s : State) : Kept s (secRevokeBody req s).1 := by
  unfold secRevokeBody
  dsimp only
  split
  · exact .of_kernel (by simp)
  · rename_i h
    simp only [Bool.or_eq_true, decide_eq_true_eq, not_or] at h
    exact { Kept.refl s with
      revoked := by
        show s.sec.revoked &&& (s.sec.revoked ||| _) = _
        ext i hi; simp; intro a; exact .inl a
      minSecver := by dsimp only [answer]; omega }

theorem execSecRevoke_kept (c : Caller) (req : Bytes) (s : State) : KeptOut s (execSecRevoke c req s) := by
  exact runCmd_kept _ _ _ _ _ (secRevokeBody_kept ..)

@[simp] theorem installKek_kernel (page : Nat) (bytes : Bytes) (c : Caller) (resp : Bytes) (s : State) :
    (installKek page bytes c resp s).1.kernel = s.kernel := by
  simp [installKek]

@[simp] theorem kekInstallBody_kernel (c : Caller) (req : Bytes) (s : State) :
    (kekInstallBody c req s).1.kernel = s.kernel := by
  unfold kekInstallBody; (repeat' split) <;> simp <;> (repeat' split) <;> simp

theorem execKekInstall_keeps (c : Caller) (req : Bytes) (s : State) : Keeps s (execKekInstall c req s) := by
  refine runCmd_kernel _ _ _ _ _ ?_; simp

@[simp] theorem kekAgreeBody_kernel (c : Caller) (req : Bytes) (s : State) :
    (kekAgreeBody c req s).1.kernel = s.kernel := by
  unfold kekAgreeBody; (repeat' split) <;> simp

theorem execKekAgree_keeps (c : Caller) (req : Bytes) (s : State) : Keeps s (execKekAgree c req s) := by
  refine runCmd_kernel _ _ _ _ _ ?_; simp

@[simp] theorem kekClearBody_kernel (c : Caller) (s : State) :
    (kekClearBody c s).1.kernel = s.kernel := by
  unfold kekClearBody; (repeat' split) <;> simp <;> (repeat' split) <;> simp

theorem execKekClear_keeps (c : Caller) (req : Bytes) (s : State) : Keeps s (execKekClear c req s) := by
  refine runCmd_kernel _ _ _ _ _ ?_; simp

theorem execSecIdentity_keeps (c : Caller) (req : Bytes) (s : State) : Keeps s (execSecIdentity c req s) := by
  refine runCmd_kernel _ _ _ _ _ ?_; simp

@[simp] theorem secTamperConfigureBody_kernel (c : Caller) (req : Bytes) (s : State) :
    (secTamperConfigureBody c req s).1.kernel = s.kernel := by
  unfold secTamperConfigureBody; (repeat' split) <;> simp <;> (repeat' split) <;> simp

theorem execSecTamperConfigure_keeps (c : Caller) (req : Bytes) (s : State) : Keeps s (execSecTamperConfigure c req s) := by
  refine runCmd_kernel _ _ _ _ _ ?_; simp

@[simp] theorem secTamperClearBody_kernel (c : Caller) (s : State) :
    (secTamperClearBody c s).1.kernel = s.kernel := by
  unfold secTamperClearBody; (repeat' split) <;> simp <;> (repeat' split) <;> simp

theorem execSecTamperClear_keeps (c : Caller) (req : Bytes) (s : State) : Keeps s (execSecTamperClear c req s) := by
  refine runCmd_kernel _ _ _ _ _ ?_; simp

@[simp] theorem observeChallengeBody_kernel (s : State) :
    (observeChallengeBody s).1.kernel = s.kernel := by
  unfold observeChallengeBody; simp only []; (repeat' split) <;> (try (rename_i heq; have e := congrArg (fun p => p.1.kernel) heq; simp at e)) <;> simp_all

theorem execSecObserveChallenge_keeps (c : Caller) (req : Bytes) (s : State) : Keeps s (execSecObserveChallenge c req s) := by
  refine runCmd_kernel _ _ _ _ _ ?_; simp

@[simp] theorem observeTokenBody_kernel (req : Bytes) (s : State) :
    (observeTokenBody req s).1.kernel = s.kernel := by
  unfold observeTokenBody; (repeat' split) <;> simp <;> (repeat' split) <;> simp

theorem execSecObserveToken_keeps (c : Caller) (req : Bytes) (s : State) : Keeps s (execSecObserveToken c req s) := by
  refine runCmd_kernel _ _ _ _ _ ?_; simp

@[simp] theorem observeEndBody_kernel (s : State) :
    (observeEndBody s).1.kernel = s.kernel := by
  unfold observeEndBody; (repeat' split) <;> simp

theorem execSecObserveEnd_keeps (c : Caller) (req : Bytes) (s : State) : Keeps s (execSecObserveEnd c req s) := by
  refine runCmd_kernel _ _ _ _ _ ?_; simp

theorem execObserveExpiry_keeps (s : State) : Keeps s (execObserveExpiry s) := by
  unfold execObserveExpiry; (repeat' split) <;> simp

end Sys2Proof.Machine
end

