-- ==== Sys2Proof/Laws/KernelTimebase.lean ====
section
/-! SUPPORT. What the definitions of Machine/Timebase.lean leave unchanged: the kernel of the state. -/

namespace Sys2Proof.Machine

@[simp] theorem rescan_kernel (s : State) :
    (rescan s).kernel = s.kernel := by
  simp [rescan]

@[simp] theorem stepGroups_kernel (amount : Word) (s : State) :
    (stepGroups amount s).kernel = s.kernel := by
  simp [stepGroups]

@[simp] theorem stepTrunk_kernel (amount : Word) (old : Timebase) (s : State) :
    (stepTrunk amount old s).kernel = s.kernel := by
  simp [stepTrunk]

@[simp] theorem doStep_kernel (new : Word) (s : State) :
    (doStep new s).kernel = s.kernel := by
  simp [doStep]

@[simp] theorem ppsSelected_kernel (s : State) :
    (ppsSelected s).kernel = s.kernel := by
  unfold ppsSelected; (repeat' split) <;> simp

theorem execPpsEdge_keeps (edge : Nat) (s : State) : Keeps s (execPpsEdge edge s) := by
  simp [execPpsEdge]

theorem execPpsEdgeMissing_keeps (s : State) : Keeps s (execPpsEdgeMissing s) := by
  unfold execPpsEdgeMissing; (repeat' split) <;> simp

@[simp] theorem applyTmbCfg_kernel (s : State) :
    (applyTmbCfg s).kernel = s.kernel := by
  unfold applyTmbCfg; (repeat' split) <;> simp

@[simp] theorem renewFreq_kernel (s : State) :
    (renewFreq s).kernel = s.kernel := by
  simp [renewFreq]

theorem execTimebaseRenewal_keeps (s : State) : Keeps s (execTimebaseRenewal s) := by
  simp [execTimebaseRenewal]

theorem execHoldoverExpiry_keeps (s : State) : Keeps s (execHoldoverExpiry s) := by
  unfold execHoldoverExpiry; (repeat' split) <;> simp

theorem execRevertiveDisplace_keeps (reference : Nat) (s : State) : Keeps s (execRevertiveDisplace reference s) := by
  simp [execRevertiveDisplace]

theorem execTimeStep_keeps (s : State) : Keeps s (execTimeStep s) := by
  unfold execTimeStep; (repeat' split) <;> simp

theorem execPpsOutEdge_keeps (s : State) : Keeps s (execPpsOutEdge s) := by
  simp [execPpsOutEdge]

@[simp] theorem timebaseConfigureBody_kernel (req : Bytes) (s : State) :
    (timebaseConfigureBody req s).1.kernel = s.kernel := by
  unfold timebaseConfigureBody; (repeat' split) <;> simp <;> (repeat' split) <;> simp

theorem execTimebaseConfigure_keeps (c : Caller) (req : Bytes) (s : State) : Keeps s (execTimebaseConfigure c req s) := by
  refine runCmd_kernel _ _ _ _ _ ?_; simp

@[simp] theorem settimeFullBody_kernel (req : Bytes) (s : State) :
    (settimeFullBody req s).1.kernel = s.kernel := by
  unfold settimeFullBody; (repeat' split) <;> simp <;> (repeat' split) <;> simp

theorem execTimebaseSettimeFull_keeps (c : Caller) (req : Bytes) (s : State) : Keeps s (execTimebaseSettimeFull c req s) := by
  refine runCmd_kernel _ _ _ _ _ ?_; simp

@[simp] theorem settimeSecondsBody_kernel (req : Bytes) (s : State) :
    (settimeSecondsBody req s).1.kernel = s.kernel := by
  unfold settimeSecondsBody; (repeat' split) <;> simp

theorem execTimebaseSettimeSeconds_keeps (c : Caller) (req : Bytes) (s : State) : Keeps s (execTimebaseSettimeSeconds c req s) := by
  refine runCmd_kernel _ _ _ _ _ ?_; simp

end Sys2Proof.Machine
end

