-- ==== Sys2Proof/Laws/KernelPace.lean ====
section
/-! SUPPORT. What the definitions of Machine/Pace.lean leave unchanged: the kernel of the state. -/

namespace Sys2Proof.Machine

theorem execPaceMonitorUpdate_keeps (tile_ pace : Nat) (slack : Int) (demand fifoPeak : Nat) (s : State) : Keeps s (execPaceMonitorUpdate tile_ pace slack demand fifoPeak s) := by
  unfold execPaceMonitorUpdate; (repeat' split) <;> simp

@[simp] theorem setFactor_kernel (f : Nat) (s : State) :
    (setFactor f s).kernel = s.kernel := by
  simp [setFactor]

@[simp] theorem setHalved_kernel (on : Bool) (s : State) :
    (setHalved on s).kernel = s.kernel := by
  simp [setHalved]

@[simp] theorem derate_kernel (emergency : Bool) (s : State) :
    (derate emergency s).kernel = s.kernel := by
  unfold derate; (repeat' split) <;> simp

@[simp] theorem requestVolts_kernel (mv : Nat) (s : State) :
    (requestVolts mv s).kernel = s.kernel := by
  simp [requestVolts]

@[simp] theorem noteLimit_kernel (s : State) :
    (noteLimit s).kernel = s.kernel := by
  simp [noteLimit]

@[simp] theorem checkAvsFailing_kernel (s : State) :
    (checkAvsFailing s).kernel = s.kernel := by
  simp [checkAvsFailing]

@[simp] theorem avsFault_kernel (s : State) :
    (avsFault s).kernel = s.kernel := by
  simp [avsFault]

theorem execAvsLoopStart_keeps (vMeas : Nat) (s : State) : Keeps s (execAvsLoopStart vMeas s) := by
  simp [execAvsLoopStart]

theorem execAvsLoopPeriod_keeps (vMeas : Nat) (s : State) : Keeps s (execAvsLoopPeriod vMeas s) := by
  unfold execAvsLoopPeriod; (repeat' split) <;> simp

theorem execAvsResponseTimeout_keeps (s : State) : Keeps s (execAvsResponseTimeout s) := by
  simp [execAvsResponseTimeout]

theorem execAvsSettleCheck_keeps (vMeas : Nat) (s : State) : Keeps s (execAvsSettleCheck vMeas s) := by
  unfold execAvsSettleCheck; (repeat' split) <;> simp

theorem execAvsFaultClear_keeps (s : State) : Keeps s (execAvsFaultClear s) := by
  simp [execAvsFaultClear]

theorem execTxFifoLowWater_keeps (lane : Nat) (s : State) : Keeps s (execTxFifoLowWater lane s) := by
  simp [execTxFifoLowWater]

theorem execCoreUndervoltage_keeps (dur : Nat) (s : State) : Keeps s (execCoreUndervoltage dur s) := by
  simp [execCoreUndervoltage]

@[simp] theorem powerSetcapBody_kernel (req : Bytes) (s : State) :
    (powerSetcapBody req s).1.kernel = s.kernel := by
  unfold powerSetcapBody; (repeat' split) <;> simp <;> (repeat' split) <;> simp

theorem execPowerSetcap_keeps (c : Caller) (req : Bytes) (s : State) : Keeps s (execPowerSetcap c req s) := by
  refine runCmd_kernel _ _ _ _ _ ?_; simp

@[simp] theorem profileSetBody_kernel (c : Caller) (req : Bytes) (s : State) :
    (profileSetBody c req s).1.kernel = s.kernel := by
  unfold profileSetBody; (repeat' split) <;> simp <;> (repeat' split) <;> simp

theorem execProfileSet_keeps (c : Caller) (req : Bytes) (s : State) : Keeps s (execProfileSet c req s) := by
  refine runCmd_kernel _ _ _ _ _ ?_; simp

end Sys2Proof.Machine
end

