-- ==== Sys2Proof/Laws/KernelPower.lean ====
section
/-! SUPPORT. What the definitions of Machine/Power.lean leave unchanged: the kernel of the state. -/

namespace Sys2Proof.Machine

theorem afterReset_kept (s : State) : Kept s (afterReset s) := by
  exact { Kept.refl s with ddr := fun _ => rfl }

@[simp] theorem stopHeartbeat_kernel (s : State) : (stopHeartbeat s).kernel = s.kernel := by
  unfold stopHeartbeat
  exact kernel_if (emit_kernel ..) rfl

@[simp] theorem pinsDown_kernel (s : State) :
    (pinsDown s).kernel = s.kernel := by
  unfold pinsDown
  dsimp only
  refine kernel_if ((emit_kernel ..).trans ?_) ?_ <;>
    exact (foldl_kernel _ (by simp) _ _).trans (stopHeartbeat_kernel s)

@[simp] theorem ddrResets_kernel (level : Nat) (s : State) :
    (ddrResets level s).kernel = s.kernel := by
  simp [ddrResets]

@[simp] theorem resetBalls_kernel (s : State) :
    (resetBalls s).kernel = s.kernel := by
  simp [resetBalls]

@[simp] theorem dropStandby_kernel (s : State) :
    (dropStandby s).kernel = s.kernel := by
  simp [dropStandby]

theorem beginReset_kept (cause ends : Nat) (s : State) : Kept s (beginReset cause ends s) := by
  unfold beginReset
  dsimp only
  refine Kept.iff (.of_kernel rfl) ?_
  have k : Kept s (afterReset (resetBalls s)) := (Kept.of_kernel (resetBalls_kernel s)).trans (afterReset_kept _)
  exact Kept.iff (k.andThen rfl) (k.andThen rfl)

theorem execPowerOn_kept (dur : Nat) (s : State) : KeptOut s (execPowerOn dur s) := by
  unfold execPowerOn
  refine ((Kept.of_kernel (resetBalls_kernel s)).trans (afterReset_kept _)).trans ?_
  have h := Kernel.mk.inj (resetBalls_kernel s)
  exact { part := rfl, pending := rfl, ddr := fun w => w
          lifecycle := Nat.le_of_eq h.2.2.2.1
          bound := fun b => h.2.2.2.1 ▸ b
          revoked := (congrArg (· &&& s.sec.revoked) h.2.2.2.2.1).trans (BitVec.and_self.trans h.2.2.2.2.1.symm)
          minSecver := Nat.le_of_eq h.2.2.2.2.2.1
          tap := fun k => h.2.2.2.2.2.2 ▸ h.2.2.2.1 ▸ k }

theorem execSysResetNLow_kept (dur : Nat) (s : State) : KeptOut s (execSysResetNLow dur s) := by
  unfold execSysResetNLow
  exact Kept.iff (.refl s) ((Kept.of_kernel (advanceTo_kernel ..)).trans (beginReset_kept ..))

theorem execBrownOut_kept (rails dur : Nat) (s : State) : KeptOut s (execBrownOut rails dur s) := by
  unfold execBrownOut
  refine Kept.iff (.refl s) ?_
  exact ((Kept.of_kernel (advanceTo_kernel ..)).trans (beginReset_kept ..)).andThen rfl

theorem execPf0FunctionLevelReset_kept (s : State) : KeptOut s (execPf0FunctionLevelReset s) := by
  unfold execPf0FunctionLevelReset
  exact Kept.iff (.refl s) (beginReset_kept ..)

@[simp] theorem replay_kernel (s : State) :
    (replay s).kernel = s.kernel := by
  unfold replay
  dsimp only [freshNat]
  exact (foldl_kernel _ (by simp) _ _).trans rfl

@[simp] theorem storeFault_kernel (s : State) :
    (storeFault s).kernel = s.kernel := by
  simp [storeFault]

@[simp] theorem restoreRecord_kernel (bad : List Nat) (index : Nat) (r : KeyRec) (s : State) :
    (restoreRecord bad index r s).kernel = s.kernel := by
  simp [restoreRecord]

@[simp] theorem restoreKeys_kernel (bad : List Nat) (s : State) :
    (restoreKeys bad s).kernel = s.kernel := by
  unfold restoreKeys
  dsimp only
  refine kernel_if rfl ?_
  refine (kernel_mk_sec ..).trans ?_
  refine (foldl_kernel _ (by simp) _ _).trans ?_
  refine kernel_if rfl ((newKwk_kernel ..).trans (kernel_if rfl rfl))

@[simp] theorem restoreNonces_kernel (bad : List Nat) (s : State) :
    (restoreNonces bad s).kernel = s.kernel := by
  simp [restoreNonces]

@[simp] theorem restoreLins_kernel (bad : List Nat) (s : State) :
    (restoreLins bad s).kernel = s.kernel := by
  unfold restoreLins
  exact (foldl_kernel _ (by simp) _ _).trans (foldl_kernel _ (by simp) _ _)

@[simp] theorem loadTime_kernel (s : State) :
    (loadTime s).kernel = s.kernel := by
  unfold loadTime
  split <;> rfl

@[simp] theorem startEntropy_kernel (pass : Bool) (s : State) :
    (startEntropy pass s).kernel = s.kernel := by
  simp [startEntropy]

@[simp] theorem noteFlash_kernel (boot : BootView) (s : State) :
    (noteFlash boot s).kernel = s.kernel := by
  simp [noteFlash]

@[simp] theorem bootFirmware_kernel (boot : BootView) (s : State) :
    (bootFirmware boot s).kernel = s.kernel := by
  unfold bootFirmware; (repeat' split) <;> simp

@[simp] theorem wakeGaps_kernel (s : State) :
    (wakeGaps s).kernel = s.kernel := by
  unfold wakeGaps
  exact foldl_kernel _ (fun t i => by simp) _ _

theorem execResetRelease_keeps (refclk25 : Bool) (boot : BootView) (s : State) : Keeps s (execResetRelease refclk25 boot s) := by
  simp [execResetRelease]

theorem sysResetBody_kept (c : Caller) (s : State) : Kept s (sysResetBody c s).1 := by
  unfold sysResetBody
  split
  · exact .of_kernel (by simp)
  · exact (Kept.of_kernel (by simp)).trans (beginReset_kept ..)

theorem execSysReset_kept (c : Caller) (req : Bytes) (s : State) : KeptOut s (execSysReset c req s) := by
  exact runCmd_kept _ _ _ _ _ (sysResetBody_kept ..)

@[simp] theorem pwrStandbyBody_kernel (c : Caller) (req : Bytes) (s : State) :
    (pwrStandbyBody c req s).1.kernel = s.kernel := by
  unfold pwrStandbyBody
  dsimp only
  split
  · simp
  · split
    · simp
    · split
      · simp
      · split
        · simp
        · refine (persist_kernel ..).trans ?_
          refine kernel_if ((foldl_kernel _ (fun s p => ?_) _ _).trans rfl) rfl
          exact kernel_if rfl (by simp)

theorem execPwrStandby_keeps (c : Caller) (req : Bytes) (s : State) : Keeps s (execPwrStandby c req s) := by
  refine runCmd_kernel _ _ _ _ _ ?_; simp

@[simp] theorem chiveConfigureBody_kernel (req : Bytes) (s : State) :
    (chiveConfigureBody req s).1.kernel = s.kernel := by
  unfold chiveConfigureBody; (repeat' split) <;> simp <;> (repeat' split) <;> simp

theorem execChiveConfigure_keeps (c : Caller) (req : Bytes) (s : State) : Keeps s (execChiveConfigure c req s) := by
  refine runCmd_kernel _ _ _ _ _ ?_; simp

theorem wake_kept (cause port_ ep : Nat) (s : State) : Kept s (wake cause port_ ep s) := by
  unfold wake
  exact (Kept.of_kernel (by simp)).trans (beginReset_kept ..)

theorem wakeSource_kept (cause port_ ep : Nat) (s : State) : Kept s (wakeSource cause port_ ep s) := by
  unfold wakeSource
  split
  · exact .refl s
  · exact Kept.iff (wake_kept ..) (Kept.iff (.of_kernel rfl) (.refl s))

theorem execStandbyEntry_kept (s : State) : KeptOut s (execStandbyEntry s) := by
  unfold execStandbyEntry
  show Kept s _
  split
  · exact .refl s
  · split
    · exact .refl s
    · rename_i t _
      refine Kept.iff (.refl s) ?_
      have k : Kept s (afterReset (pinsDown (advanceTo (t + ms 1) s))) :=
        (Kept.of_kernel (by simp)).trans (afterReset_kept _)
      dsimp only
      split
      · exact (k.andThen (by simp)).trans (wake_kept ..)
      · exact k.andThen (by simp)

theorem execChiveBeacon_keeps (port_ : Nat) (s : State) : Keeps s (execChiveBeacon port_ s) := by
  unfold execChiveBeacon; (repeat' split) <;> simp

theorem execWakeFrame_kept (port_ fc : Nat) (s : State) : KeptOut s (execWakeFrame port_ fc s) := by
  unfold execWakeFrame
  exact KeptOut.iff trivial (Kept.iff (wakeSource_kept ..) (.refl s))

theorem execWakeInNLow_kept (dur : Nat) (s : State) : KeptOut s (execWakeInNLow dur s) := by
  unfold execWakeInNLow
  exact Kept.iff (.refl s) ((Kept.of_kernel (advanceTo_kernel ..)).trans (wakeSource_kept ..))

theorem execWakeTimer_kept (s : State) : KeptOut s (execWakeTimer s) := by
  unfold execWakeTimer
  show Kept s _
  split
  · exact .refl s
  · exact Kept.iff (.refl s) ((Kept.of_kernel (advanceTo_kernel ..)).trans (wakeSource_kept ..))

theorem execPcieWakeRelease_keeps (s : State) : Keeps s (execPcieWakeRelease s) := by
  unfold execPcieWakeRelease; (repeat' split) <;> simp

end Sys2Proof.Machine
end

