-- ==== Sys2Proof/Laws/KernelManagement.lean ====
section
/-! SUPPORT. What the definitions of Machine/Management.lean leave unchanged: the kernel of the state. -/

namespace Sys2Proof.Machine

theorem onLaneRegs_keeps (p l : Nat) (s : State) (f : State → State) (hf : (f s).kernel = s.kernel) :
    Keeps s (onLaneRegs p l s f) := by
  unfold onLaneRegs; (repeat' split) <;> simp [hf]

theorem execMbxDoorbell_keeps (pod_ lane prod : Nat) (s : State) : Keeps s (execMbxDoorbell pod_ lane prod s) := by
  refine onLaneRegs_keeps _ _ _ _ ?_; simp

theorem execMbxLaneEnable_keeps (pod_ lane : Nat) (on : Bool) (s : State) : Keeps s (execMbxLaneEnable pod_ lane on s) := by
  refine onLaneRegs_keeps _ _ _ _ ?_; simp

@[simp] theorem writeKept_kernel (pod_ lane : Nat) (z0 : Nat) (z1 : State) :
    (writeKept pod_ lane z0 z1).kernel = z1.kernel := by
  induction z0 generalizing z1 with
  | zero => rfl
  | succ n ih =>
    unfold writeKept
    split
    · rfl
    · split
      · simp
      · rw [ih]; simpa using writeRecord_kernel _ _ _ _ _ _ ‹_›

theorem execMbxFaultClear_keeps (pod_ lane : Nat) (s : State) : Keeps s (execMbxFaultClear pod_ lane s) := by
  refine onLaneRegs_keeps _ _ _ _ ?_; simp

theorem execMbxCmplConsUpdate_keeps (pod_ lane cons : Nat) (s : State) : Keeps s (execMbxCmplConsUpdate pod_ lane cons s) := by
  refine onLaneRegs_keeps _ _ _ _ ?_; simp

@[simp] theorem endUncommitted_kernel (c : Caller) (st : Status) (s : State) :
    (endUncommitted c st s).kernel = s.kernel := by
  unfold endUncommitted; (repeat' split) <;> simp <;> (repeat' split) <;> simp

theorem execSheddingEntry_keeps (loads : List Nat) (s : State) : Keeps s (execSheddingEntry loads s) := by
  simp [execSheddingEntry]

theorem execSheddingExit_keeps (loads : List Nat) (s : State) : Keeps s (execSheddingExit loads s) := by
  simp [execSheddingExit]

theorem execNotificationPost_keeps (pod_ lane code : Nat) (body : Bytes) (s : State) : Keeps s (execNotificationPost pod_ lane code body s) := by
  simp [execNotificationPost]

@[simp] theorem mbxListenBody_kernel (c : Caller) (s : State) :
    (mbxListenBody c s).1.kernel = s.kernel := by
  unfold mbxListenBody; (repeat' split) <;> simp <;> (repeat' split) <;> simp

theorem execMbxListen_keeps (c : Caller) (req : Bytes) (s : State) : Keeps s (execMbxListen c req s) := by
  refine runCmd_kernel _ _ _ _ _ ?_; simp

@[simp] theorem mbxCreditsBody_kernel (req : Bytes) (s : State) :
    (mbxCreditsBody req s).1.kernel = s.kernel := by
  unfold mbxCreditsBody; (repeat' split) <;> simp <;> (repeat' split) <;> simp

theorem execMbxCredits_keeps (c : Caller) (req : Bytes) (s : State) : Keeps s (execMbxCredits c req s) := by
  refine runCmd_kernel _ _ _ _ _ ?_; simp

@[simp] theorem startRestart_kernel (cause : Nat) (s : State) :
    (startRestart cause s).kernel = s.kernel := by
  simp [startRestart]

@[simp] theorem trigger_kernel (cause : Nat) (s : State) :
    (trigger cause s).kernel = s.kernel := by
  simp [trigger]

theorem execWatchdogExpiry_keeps (s : State) : Keeps s (execWatchdogExpiry s) := by
  simp [execWatchdogExpiry]

theorem execProcessorFault_keeps (s : State) : Keeps s (execProcessorFault s) := by
  simp [execProcessorFault]

@[simp] theorem restartLaneLists_kernel (i : Nat) (s : State) :
    (restartLaneLists i s).kernel = s.kernel := by
  simp [restartLaneLists]

end Sys2Proof.Machine
end

