-- ==== Sys2Proof/Laws/KernelServices.lean ====
section
/-! SUPPORT. What the definitions of Machine/Services.lean leave unchanged: the kernel of the state. -/

namespace Sys2Proof.Machine

@[simp] theorem serviceSend_kernel (ep cls : Nat) (text : Bytes) (s : State) :
    (serviceSend ep cls text s).kernel = s.kernel := by
  unfold serviceSend
  dsimp only
  split
  · rfl
  · split <;> simp

@[simp] theorem serviceAsk_kernel (svc cls : Nat) (eps : List Nat) (body : Bytes) (s : State) :
    (serviceAsk svc cls eps body s).1.kernel = s.kernel := by
  simp [serviceAsk]

@[simp] theorem svcRegistrySetBody_kernel (c : Caller) (req : Bytes) (s : State) :
    (svcRegistrySetBody c req s).1.kernel = s.kernel := by
  unfold svcRegistrySetBody; (repeat' split) <;> simp <;> (repeat' split) <;> simp

theorem execSvcRegistrySet_keeps (c : Caller) (req : Bytes) (s : State) : Keeps s (execSvcRegistrySet c req s) := by
  refine runCmd_kernel _ _ _ _ _ ?_; simp

@[simp] theorem setSchedule_kernel (k : Nat) (x : MeterSchedule) (s : State) :
    (setSchedule k x s).kernel = s.kernel := by
  simp [setSchedule]

@[simp] theorem svcMeterScheduleBody_kernel (c : Caller) (req : Bytes) (s : State) :
    (svcMeterScheduleBody c req s).1.kernel = s.kernel := by
  unfold svcMeterScheduleBody; (repeat' split) <;> simp <;> (repeat' split) <;> simp

theorem execSvcMeterSchedule_keeps (c : Caller) (req : Bytes) (s : State) : Keeps s (execSvcMeterSchedule c req s) := by
  refine runCmd_kernel _ _ _ _ _ ?_; simp

@[simp] theorem endCollection_kernel (k : Nat) (x : MeterSchedule) (s : State) :
    (endCollection k x s).kernel = s.kernel := by
  unfold endCollection; (repeat' split) <;> simp

theorem execMeterPeriod_keeps (schedule_ : Nat) (s : State) : Keeps s (execMeterPeriod schedule_ s) := by
  unfold execMeterPeriod; (repeat' split) <;> simp

theorem execMeterCollectionEnd_keeps (schedule_ : Nat) (s : State) : Keeps s (execMeterCollectionEnd schedule_ s) := by
  unfold execMeterCollectionEnd; (repeat' split) <;> simp

@[simp] theorem svcLoadShedBody_kernel (c : Caller) (req : Bytes) (s : State) :
    (svcLoadShedBody c req s).1.kernel = s.kernel := by
  unfold svcLoadShedBody; (repeat' split) <;> simp <;> (repeat' split) <;> simp

theorem execSvcLoadShed_keeps (c : Caller) (req : Bytes) (s : State) : Keeps s (execSvcLoadShed c req s) := by
  refine runCmd_kernel _ _ _ _ _ ?_; simp

@[simp] theorem setShed_kernel (idx : Nat) (o : ShedOp) (s : State) :
    (setShed idx o s).kernel = s.kernel := by
  simp [setShed]

theorem execLoadShedExecute_keeps (idx : Nat) (s : State) : Keeps s (execLoadShedExecute idx s) := by
  unfold execLoadShedExecute; (repeat' split) <;> simp

theorem execLoadShedConfirm_keeps (idx : Nat) (s : State) : Keeps s (execLoadShedConfirm idx s) := by
  unfold execLoadShedConfirm; (repeat' split) <;> simp

@[simp] theorem svcDispatchSetBody_kernel (c : Caller) (req : Bytes) (s : State) :
    (svcDispatchSetBody c req s).1.kernel = s.kernel := by
  unfold svcDispatchSetBody; (repeat' split) <;> simp <;> (repeat' split) <;> simp

theorem execSvcDispatchSet_keeps (c : Caller) (req : Bytes) (s : State) : Keeps s (execSvcDispatchSet c req s) := by
  refine runCmd_kernel _ _ _ _ _ ?_; simp

@[simp] theorem dispatchNotice_kernel (owner : Nat) (s : State) :
    (dispatchNotice owner s).kernel = s.kernel := by
  simp [dispatchNotice]

theorem execDispatchReassert_keeps (ep : Nat) (s : State) : Keeps s (execDispatchReassert ep s) := by
  unfold execDispatchReassert; (repeat' split) <;> (try (rename_i heq; have e := congrArg (fun p => p.1.kernel) heq; simp at e)) <;> simp_all

theorem execDispatchLoss_keeps (ep : Nat) (s : State) : Keeps s (execDispatchLoss ep s) := by
  unfold execDispatchLoss; (repeat' split) <;> simp

@[simp] theorem serviceReply_kernel (ep svc id : Nat) (body : Bytes) (s : State) :
    (serviceReply ep svc id body s).kernel = s.kernel := by
  unfold serviceReply; (repeat' split) <;> simp

theorem execServiceReplyReceived_keeps (ep : Nat) (unit_ : Bytes) (s : State) : Keeps s (execServiceReplyReceived ep unit_ s) := by
  unfold execServiceReplyReceived; (repeat' split) <;> simp <;> (repeat' split) <;> simp

@[simp] theorem resumeServices_kernel (s : State) :
    (resumeServices s).kernel = s.kernel := by
  unfold resumeServices
  refine (foldl_kernel _ (fun s a => ?_) _ _).trans
    ((foldl_kernel _ (fun s i => ?_) _ _).trans (foldl_kernel _ (fun s e => ?_) _ _))
  · exact kernel_if rfl (serviceAsk_kernel ..)
  · split
    · rfl
    · exact kernel_if rfl ((setShed_kernel ..).trans (serviceAsk_kernel ..))
  · exact kernel_if rfl ((setSchedule_kernel ..).trans (serviceAsk_kernel ..))

theorem execFirmwareRestartComplete_keeps (s : State) : Keeps s (execFirmwareRestartComplete s) := by
  simp [execFirmwareRestartComplete]

@[simp] theorem updSlot_kernel (k : Nat) (f : FlashSlot → FlashSlot) (s : State) :
    (updSlot k f s).kernel = s.kernel := by
  simp [updSlot]

@[simp] theorem markNext_kernel (slot : Nat) (s : State) :
    (markNext slot s).kernel = s.kernel := by
  simp [markNext]

@[simp] theorem fwUpdateBeginBody_kernel (req : Bytes) (s : State) :
    (fwUpdateBeginBody req s).1.kernel = s.kernel := by
  unfold fwUpdateBeginBody; (repeat' split) <;> simp

theorem execFwUpdateBegin_keeps (c : Caller) (req : Bytes) (s : State) : Keeps s (execFwUpdateBegin c req s) := by
  refine runCmd_kernel _ _ _ _ _ ?_; simp

@[simp] theorem fwUpdateWriteBody_kernel (c : Caller) (req : Bytes) (s : State) :
    (fwUpdateWriteBody c req s).1.kernel = s.kernel := by
  unfold fwUpdateWriteBody; (repeat' split) <;> simp <;> (repeat' split) <;> simp

theorem execFwUpdateWrite_keeps (c : Caller) (req : Bytes) (s : State) : Keeps s (execFwUpdateWrite c req s) := by
  refine runCmd_kernel _ _ _ _ _ ?_; simp

@[simp] theorem fwUpdateFinishBody_kernel (c : Caller) (req : Bytes) (s : State) :
    (fwUpdateFinishBody c req s).1.kernel = s.kernel := by
  unfold fwUpdateFinishBody; (repeat' split) <;> simp <;> (repeat' split) <;> simp

theorem execFwUpdateFinish_keeps (c : Caller) (req : Bytes) (s : State) : Keeps s (execFwUpdateFinish c req s) := by
  refine runCmd_kernel _ _ _ _ _ ?_; simp

@[simp] theorem fwActivateBody_kernel (c : Caller) (s : State) :
    (fwActivateBody c s).1.kernel = s.kernel := by
  unfold fwActivateBody; (repeat' split) <;> simp

theorem execFwActivate_keeps (c : Caller) (req : Bytes) (s : State) : Keeps s (execFwActivate c req s) := by
  refine runCmd_kernel _ _ _ _ _ ?_; simp

theorem execFwInfo_keeps (c : Caller) (req : Bytes) (s : State) : Keeps s (execFwInfo c req s) := by
  refine runCmd_kernel _ _ _ _ _ ?_; simp

end Sys2Proof.Machine
end

