-- ==== Sys2Proof/Laws/KernelObserve.lean ====
section
/-! SUPPORT. What the definitions of Machine/Observe.lean leave unchanged: the kernel of the state. -/

namespace Sys2Proof.Machine

@[simp] theorem setPmc_kernel (n : Nat) (c : Pmc) (s : State) :
    (setPmc n c s).kernel = s.kernel := by
  simp [setPmc]

theorem whileHost_keeps (s : State) (f : State → State) (hf : (f s).kernel = s.kernel) :
    Keeps s (whileHost s f) := by
  unfold whileHost; (repeat' split) <;> simp [hf]

@[simp] theorem pmcValueWrite_kernel (n value increments : Nat) (s : State) :
    (pmcValueWrite n value increments s).kernel = s.kernel := by
  simp [pmcValueWrite]

theorem execPmcValueWrite_keeps (n value increments : Nat) (s : State) : Keeps s (execPmcValueWrite n value increments s) := by
  exact keeps_if trivial (whileHost_keeps _ _ (pmcValueWrite_kernel ..))

@[simp] theorem pmcCfgWrite_kernel (n value : Nat) (s : State) :
    (pmcCfgWrite n value s).kernel = s.kernel := by
  simp [pmcCfgWrite]

theorem execPmcCfgWrite_keeps (n value : Nat) (s : State) : Keeps s (execPmcCfgWrite n value s) := by
  exact keeps_if trivial (whileHost_keeps _ _ (pmcCfgWrite_kernel ..))

@[simp] theorem snapshotArm_kernel (s : State) :
    (snapshotArm s).kernel = s.kernel := by
  simp [snapshotArm]

theorem execSnapshotArm_keeps (s : State) : Keeps s (execSnapshotArm s) := by
  refine whileHost_keeps _ _ ?_; simp

theorem execSnapshotLatch_keeps (s : State) : Keeps s (execSnapshotLatch s) := by
  unfold execSnapshotLatch; (repeat' split) <;> simp

theorem execTraceTimeRecord_keeps (s : State) : Keeps s (execTraceTimeRecord s) := by
  simp [execTraceTimeRecord]

theorem execTraceSyncWord_keeps (s : State) : Keeps s (execTraceSyncWord s) := by
  simp [execTraceSyncWord]

@[simp] theorem pmcAssignBody_kernel (req : Bytes) (s : State) :
    (pmcAssignBody req s).1.kernel = s.kernel := by
  unfold pmcAssignBody; (repeat' split) <;> simp <;> (repeat' split) <;> simp

theorem execPmcAssign_keeps (c : Caller) (req : Bytes) (s : State) : Keeps s (execPmcAssign c req s) := by
  refine runCmd_kernel _ _ _ _ _ ?_; simp

@[simp] theorem pmcConfigureBody_kernel (c : Caller) (req : Bytes) (s : State) :
    (pmcConfigureBody c req s).1.kernel = s.kernel := by
  unfold pmcConfigureBody; (repeat' split) <;> simp <;> (repeat' split) <;> simp

theorem execPmcConfigure_keeps (c : Caller) (req : Bytes) (s : State) : Keeps s (execPmcConfigure c req s) := by
  refine runCmd_kernel _ _ _ _ _ ?_; simp

@[simp] theorem tagConfigureBody_kernel (req : Bytes) (s : State) :
    (tagConfigureBody req s).1.kernel = s.kernel := by
  unfold tagConfigureBody; (repeat' split) <;> simp <;> (repeat' split) <;> simp

theorem execTagConfigure_keeps (c : Caller) (req : Bytes) (s : State) : Keeps s (execTagConfigure c req s) := by
  refine runCmd_kernel _ _ _ _ _ ?_; simp

@[simp] theorem enableTimes_kernel (ddr port_ : Bool) (s : State) :
    (enableTimes ddr port_ s).kernel = s.kernel := by
  simp [enableTimes]

@[simp] theorem trcConfigureBody_kernel (req : Bytes) (s : State) :
    (trcConfigureBody req s).1.kernel = s.kernel := by
  unfold trcConfigureBody; (repeat' split) <;> simp <;> (repeat' split) <;> simp

theorem execTrcConfigure_keeps (c : Caller) (req : Bytes) (s : State) : Keeps s (execTrcConfigure c req s) := by
  refine runCmd_kernel _ _ _ _ _ ?_; simp

@[simp] theorem trcReadBody_kernel (c : Caller) (s : State) :
    (trcReadBody c s).1.kernel = s.kernel := by
  simp [trcReadBody]

theorem execTrcRead_keeps (c : Caller) (req : Bytes) (s : State) : Keeps s (execTrcRead c req s) := by
  refine runCmd_kernel _ _ _ _ _ ?_; simp

end Sys2Proof.Machine
end

