-- ==== Sys2Proof/Laws/KernelEvents.lean ====
section
/-! SUPPORT. What the definitions of Machine/Events.lean leave unchanged: the kernel of the state. -/

namespace Sys2Proof.Machine

theorem execEventRecordIssue_keeps (source cause arg0 arg1 : Nat) (s : State) : Keeps s (execEventRecordIssue source cause arg0 arg1 s) := by
  simp [execEventRecordIssue]

theorem execCoalesceWindowClose_keeps (source cause : Nat) (s : State) : Keeps s (execCoalesceWindowClose source cause s) := by
  unfold execCoalesceWindowClose; (repeat' split) <;> simp

@[simp] theorem putEvtCfg_kernel (i : Nat) (c : EvtCfg) (s : State) :
    (putEvtCfg i c s).kernel = s.kernel := by
  simp [putEvtCfg]

@[simp] theorem evtCfgWrite_kernel (i value : Nat) (s : State) :
    (evtCfgWrite i value s).kernel = s.kernel := by
  simp [evtCfgWrite]

theorem execEvtSrcCfgWrite_keeps (i value : Nat) (s : State) : Keeps s (execEvtSrcCfgWrite i value s) := by
  exact keeps_if trivial (whileHost_keeps _ _ (evtCfgWrite_kernel ..))

theorem onPage_keeps (p : Nat) (s : State) (f : State → State) (hf : (f s).kernel = s.kernel) :
    Keeps s (onPage p s f) := by
  unfold onPage; (repeat' split) <;> simp [hf]

theorem execEvtRingEnable_keeps (fn : Nat) (on : Bool) (s : State) : Keeps s (execEvtRingEnable fn on s) := by
  refine onPage_keeps _ _ _ ?_; simp

theorem execEvtRingFaultClear_keeps (fn : Nat) (s : State) : Keeps s (execEvtRingFaultClear fn s) := by
  refine onPage_keeps _ _ _ ?_; simp

@[simp] theorem evtRouteBody_kernel (c : Caller) (req : Bytes) (s : State) :
    (evtRouteBody c req s).1.kernel = s.kernel := by
  unfold evtRouteBody; (repeat' split) <;> simp <;> (repeat' split) <;> simp

theorem execEvtRoute_keeps (c : Caller) (req : Bytes) (s : State) : Keeps s (execEvtRoute c req s) := by
  refine runCmd_kernel _ _ _ _ _ ?_; simp

end Sys2Proof.Machine
end

