-- ==== Sys2Proof/Laws/KernelWaits.lean ====
section
/-! SUPPORT. What the definitions of Machine/Waits.lean leave unchanged: the kernel of the state. -/

namespace Sys2Proof.Machine

theorem settime_keeps (c : Caller) (req : Bytes) (s : State) : Keeps s (settime c req s) := by
  exact keeps_if (execTimebaseSettimeFull_keeps ..) (execTimebaseSettimeSeconds_keeps ..)

theorem fwUpdate_keeps (c : Caller) (req : Bytes) (s : State) : Keeps s (fwUpdate c req s) := by
  unfold fwUpdate
  split
  · exact execFwUpdateBegin_keeps ..
  · exact execFwUpdateWrite_keeps ..
  · exact execFwUpdateFinish_keeps ..

theorem secObserve_keeps (c : Caller) (req : Bytes) (s : State) : Keeps s (secObserve c req s) := by
  unfold secObserve
  split
  · exact execSecObserveChallenge_keeps ..
  · exact execSecObserveToken_keeps ..
  · exact execSecObserveEnd_keeps ..

@[simp] theorem accountTake_kernel (pod_ lane : Nat) (d : Bytes) (s : State) :
    (accountTake pod_ lane d s).kernel = s.kernel := by
  simp [accountTake]

/-- A command whose meaning keeps the kernel's promises. -/
def Command.Kept (k : Command) : Prop := ∀ c req s, KeptOut s (k.run c req s)

theorem Command.kept_of_keeps {n m : Nat} {f : Caller → Bytes → State → Out} (h : ∀ c req s, Keeps s (f c req s)) :
    Command.Kept ⟨n, m, f⟩ := fun c req s => .of_keeps (h c req s)

theorem lineCommands_kept : ∀ k ∈ lineCommands, k.Kept := by
  simp only [lineCommands, List.forall_mem_cons]
  exact ⟨Command.kept_of_keeps execPortOpen_keeps,
    Command.kept_of_keeps execPortClose_keeps,
    Command.kept_of_keeps execLaneCalibrate_keeps,
    Command.kept_of_keeps execLaneGain_keeps,
    Command.kept_of_keeps execDriverRearm_keeps,
    Command.kept_of_keeps execSynthRebalance_keeps,
    Command.kept_of_keeps execChainConfigure_keeps,
    Command.kept_of_keeps execChainLoadbank_keeps,
    Command.kept_of_keeps execChainSwap_keeps,
    Command.kept_of_keeps execChainThreshold_keeps,
    Command.kept_of_keeps execPhyConfigure_keeps,
    Command.kept_of_keeps execTonemapConfigure_keeps,
    Command.kept_of_keeps execTonemapRefresh_keeps,
    Command.kept_of_keeps execTonemapRead_keeps,
    Command.kept_of_keeps execMainsStatus_keeps,
    Command.kept_of_keeps execCancellerConfigure_keeps,
    Command.kept_of_keeps execCancellerSetguard_keeps,
    Command.kept_of_keeps execCancellerStatus_keeps, by simp⟩

theorem linkCommands_kept : ∀ k ∈ linkCommands, k.Kept := by
  simp only [linkCommands, List.forall_mem_cons]
  exact ⟨Command.kept_of_keeps execMacConfigure_keeps,
    Command.kept_of_keeps execMacNeighbour_keeps,
    Command.kept_of_keeps execTopologyConfigure_keeps,
    Command.kept_of_keeps execEndpointAdmit_keeps,
    Command.kept_of_keeps execEndpointRemove_keeps,
    Command.kept_of_keeps execTopologyRead_keeps,
    Command.kept_of_keeps execBufferConfigure_keeps,
    Command.kept_of_keeps execBufferQuota_keeps,
    Command.kept_of_keeps execFrameSubmit_keeps,
    Command.kept_of_keeps execRxRing_keeps,
    Command.kept_of_keeps execKeyLoad_keeps,
    Command.kept_of_keeps execKeyClear_keeps,
    Command.kept_of_keeps execCipherBind_keeps,
    Command.kept_of_keeps execCipherConfigure_keeps,
    Command.kept_of_keeps execChkAssign_keeps,
    Command.kept_of_keeps execChkBind_keeps,
    Command.kept_of_keeps execChkDma_keeps, by simp⟩

theorem trunkCommands_kept : ∀ k ∈ trunkCommands, k.Kept := by
  simp only [trunkCommands, List.forall_mem_cons]
  exact ⟨Command.kept_of_keeps execTrunkConfigure_keeps,
    Command.kept_of_keeps execTsiWrite_keeps,
    Command.kept_of_keeps execTsiMode_keeps,
    Command.kept_of_keeps execTsiCommit_keeps,
    Command.kept_of_keeps execTsiRead_keeps,
    Command.kept_of_keeps execPairConfigure_keeps,
    Command.kept_of_keeps execPairSwitch_keeps,
    Command.kept_of_keeps execSenseConfigure_keeps,
    Command.kept_of_keeps execSenseCharge_keeps,
    Command.kept_of_keeps execSenseLincoef_keeps,
    Command.kept_of_keeps execPdConfigure_keeps,
    Command.kept_of_keeps execI2cConfigure_keeps,
    Command.kept_of_keeps execI2cTransfer_keeps,
    Command.kept_of_keeps execSenseAssign_keeps,
    Command.kept_of_keeps execTimebaseConfigure_keeps,
    Command.kept_of_keeps settime_keeps, by simp⟩

theorem systemCommands_kept : ∀ k ∈ systemCommands, k.Kept := by
  simp only [systemCommands, List.forall_mem_cons]
  exact ⟨Command.kept_of_keeps execMbxCredits_keeps,
    Command.kept_of_keeps execMbxListen_keeps,
    Command.kept_of_keeps execProfileSet_keeps,
    Command.kept_of_keeps execPowerSetcap_keeps,
    Command.kept_of_keeps execFwInfo_keeps,
    Command.kept_of_keeps fwUpdate_keeps,
    Command.kept_of_keeps execFwActivate_keeps,
    Command.kept_of_keeps execPodReset_keeps,
    Command.kept_of_keeps execPodAssign_keeps,
    Command.kept_of_keeps execPodWindow_keeps,
    execSecLifecycle_kept,
    execSecRevoke_kept,
    Command.kept_of_keeps execKekInstall_keeps,
    Command.kept_of_keeps execKekAgree_keeps,
    Command.kept_of_keeps execKekClear_keeps,
    Command.kept_of_keeps execSecIdentity_keeps,
    Command.kept_of_keeps execSecTamperConfigure_keeps,
    Command.kept_of_keeps execSecTamperClear_keeps,
    Command.kept_of_keeps secObserve_keeps,
    Command.kept_of_keeps execPmcAssign_keeps,
    Command.kept_of_keeps execPmcConfigure_keeps,
    Command.kept_of_keeps execTagConfigure_keeps,
    Command.kept_of_keeps execTrcConfigure_keeps,
    Command.kept_of_keeps execTrcRead_keeps,
    Command.kept_of_keeps execPwrStandby_keeps,
    Command.kept_of_keeps execChiveConfigure_keeps,
    execSysReset_kept,
    Command.kept_of_keeps execEvtRoute_keeps,
    Command.kept_of_keeps execSvcRegistrySet_keeps,
    Command.kept_of_keeps execSvcMeterSchedule_keeps,
    Command.kept_of_keeps execSvcLoadShed_keeps,
    Command.kept_of_keeps execSvcDispatchSet_keeps, by simp⟩

/-- The command of any code keeps the kernel's promises. -/
theorem commandOf_kept {code : Nat} {k : Command} (h : commandOf code = some k) : k.Kept := by
  have m := List.mem_of_find?_eq_some h
  simp only [List.mem_append] at m
  rcases m with ((m | m) | m) | m
  · exact lineCommands_kept k m
  · exact linkCommands_kept k m
  · exact trunkCommands_kept k m
  · exact systemCommands_kept k m

theorem startTaken_kept (pod_ lane : Nat) (d request : Bytes) (io : CmdIo) (s : State) : KeptOut s (startTaken pod_ lane d request io s) := by
  unfold startTaken
  dsimp only
  split
  · exact .of_kernel (by simp)
  · exact KeptOut.iff (.of_kernel (by simp)) (commandOf_kept ‹_› ..)

@[simp] theorem holdAtCons_kernel (pod_ lane : Nat) (s : State) :
    (holdAtCons pod_ lane s).kernel = s.kernel := by
  simp [holdAtCons]

theorem execMbxDescriptorTake_kept (pod_ lane : Nat) (desc request : Bytes) (descFails : Bool) (io : CmdIo) (s : State) : KeptOut s (execMbxDescriptorTake pod_ lane desc request descFails io s) := by
  unfold execMbxDescriptorTake
  refine KeptOut.iff trivial (KeptOut.iff (.refl s) (KeptOut.iff (.of_kernel (by simp)) ?_))
  split
  · rename_i t h
    have k := startTaken_kept pod_ lane ((desc ++ zeros 64).take 64) request io s
    rw [h] at k
    refine KeptOut.iff (k.andThen (by simp)) ?_
    exact (Kept.of_kernel (by simp)).thenOut (startTaken_kept ..)
  · exact startTaken_kept ..

theorem execCommandWaitEnd_kept (caller : Caller) (s : State) : KeptOut s (execCommandWaitEnd caller s) := by
  unfold execCommandWaitEnd
  split
  · exact .refl s
  · split
    · exact .refl s
    · exact commandOf_kept ‹_› ..

end Sys2Proof.Machine
end

