-- ==== Sys2Proof/Laws/KernelPair.lean ====
section
/-! SUPPORT. What the definitions of Machine/Pair.lean leave unchanged: the kernel of the state. -/

namespace Sys2Proof.Machine

@[simp] theorem hushPort_kernel (p : Nat) (s : State) :
    (hushPort p s).kernel = s.kernel := by
  simp [hushPort]

@[simp] theorem goSilent_kernel (s : State) :
    (goSilent s).kernel = s.kernel := by
  unfold goSilent
  refine kernel_if rfl ?_
  refine (foldl_kernel _ (by simp) _ _).trans ?_
  exact (foldl_kernel _ (by simp) _ _).trans rfl

@[simp] theorem wakePort_kernel (p : Nat) (s : State) :
    (wakePort p s).kernel = s.kernel := by
  simp [wakePort]

@[simp] theorem leaveShadow_kernel (s : State) :
    (leaveShadow s).kernel = s.kernel := by
  simp [leaveShadow]

@[simp] theorem mirrorAll_kernel (s : State) :
    (mirrorAll s).kernel = s.kernel := by
  unfold mirrorAll
  refine (foldl_kernel _ (fun s e => ?_) _ _).trans ?_
  · exact (foldl_kernel _ (by simp) _ _).trans (mirrorNbr_kernel ..)
  · refine (foldl_kernel _ (fun s p => ?_) _ _).trans ?_
    · exact kernel_if (by simp) rfl
    · exact (foldl_kernel _ (by simp) _ _).trans (foldl_kernel _ (by simp) _ _)

theorem applyMirror_kept (r : MirrorRec) (s : State) : KeptOut s (applyMirror r s) := by
  unfold applyMirror
  split
  · exact KeptOut.iff (.of_kernel rfl) (.of_kernel (by simp))
  · exact .of_kernel (by simp)
  · exact .of_kernel (by simp)
  · exact .of_kernel (by simp)
  · exact .of_kernel (by simp)
  · exact .of_kernel (by simp)
  · split
    · exact KeptOut.iff (commandOf_kept ‹_› ..) (.refl s)
    · exact .refl s

theorem execMirrorRecordReceive_kept (record : MirrorRec) (s : State) : KeptOut s (execMirrorRecordReceive record s) := by
  unfold execMirrorRecordReceive
  exact KeptOut.iff (.refl s) (Kept.thenOut (t := { s with trk.pair.hbLost := false }) (.of_kernel rfl) (applyMirror_kept ..))

theorem execPeerReadySet_keeps (s : State) : Keeps s (execPeerReadySet s) := by
  simp [execPeerReadySet]

@[simp] theorem declareTakeover_kernel (s : State) :
    (declareTakeover s).kernel = s.kernel := by
  simp [declareTakeover]

theorem execPeerFailingDetect_keeps (role : Nat) (s : State) : Keeps s (execPeerFailingDetect role s) := by
  simp [execPeerFailingDetect]

theorem execPairTakeover_keeps (s : State) : Keeps s (execPairTakeover s) := by
  unfold execPairTakeover; (repeat' split) <;> simp

@[simp] theorem jumpSeqs_kernel (s : State) :
    (jumpSeqs s).kernel = s.kernel :=
  foldl_kernel _ (fun _ _ => kernel_if rfl (by simp)) _ _

@[simp] theorem becomeActive_kernel (ready : Bool) (s : State) :
    (becomeActive ready s).kernel = s.kernel := by
  simp [becomeActive]

theorem execTakeoverBoundary_keeps (s : State) : Keeps s (execTakeoverBoundary s) := by
  unfold execTakeoverBoundary; (repeat' split) <;> simp

theorem execPlannedSwitchBoundary_keeps (s : State) : Keeps s (execPlannedSwitchBoundary s) := by
  unfold execPlannedSwitchBoundary; (repeat' split) <;> simp <;> (repeat' split) <;> simp

theorem execHeartbeatLoss_keeps (s : State) : Keeps s (execHeartbeatLoss s) := by
  simp [execHeartbeatLoss]

theorem execMirrorLinkLossTimeout_keeps (s : State) : Keeps s (execMirrorLinkLossTimeout s) := by
  unfold execMirrorLinkLossTimeout; (repeat' split) <;> simp

@[simp] theorem applyRole_kernel (role : PairRole) (auto : Bool) (s : State) :
    (applyRole role auto s).kernel = s.kernel := by
  unfold applyRole; (repeat' split) <;> simp

@[simp] theorem sendSlot_kernel (slot : Nat) (s : State) :
    (sendSlot slot s).1.kernel = s.kernel := by
  unfold sendSlot; (repeat' split) <;> simp <;> (repeat' split) <;> simp

@[simp] theorem sendFrame_kernel (n f : Nat) (s : State) :
    (sendFrame n f s).kernel = s.kernel := by
  unfold sendFrame
  generalize List.range 64 = ks
  dsimp only
  refine (updTrunkLane_kernel ..).trans ((emit_kernel ..).trans ?_)
  refine (foldl_kernel_fst _ ?_ ks (s, []))
  exact fun a k => sendSlot_kernel ..

@[simp] theorem pairBoundary_kernel (f : Nat) (s : State) :
    (pairBoundary f s).kernel = s.kernel := by
  unfold pairBoundary; (repeat' split) <;> simp

theorem execTrunkFrameTransmit_kept (s : State) : KeptOut s (execTrunkFrameTransmit s) := by
  unfold execTrunkFrameTransmit
  refine Kept.iff (.refl s) (Kept.iff ?_ ?_)
  · exact (Kept.of_kernel (by simp)).trans (beginReset_kept ..)
  · refine (Kept.of_kernel (by simp)).andThen (t := pairBoundary (frameDue s) (advanceToFrame (frameDue s) s)) ?_
    exact foldl_kernel _ (by simp) _ _

theorem execTrunkUplinkPacket_keeps (flight_ : Nat) (s : State) : Keeps s (execTrunkUplinkPacket flight_ s) := by
  unfold execTrunkUplinkPacket; (repeat' split) <;> simp

@[simp] theorem discardFeed_kernel (lane : Nat) (s : State) :
    (discardFeed lane s).kernel = s.kernel := by
  simp [discardFeed]

theorem feedSealed_kernel (p pod_ ep cls : Nat) (content : Bytes) (s : State) (t : State) (h : (feedSealed p pod_ ep cls content s) = some t) :
    t.kernel = s.kernel := by
  unfold feedSealed at h
  dsimp only at h
  split at h
  · cases h
  · split at h
    · cases h; simp
    · cases h

theorem feedPlain_kernel (p pod_ ep cls : Nat) (content : Bytes) (s : State) (t : State) (h : (feedPlain p pod_ ep cls content s) = some t) :
    t.kernel = s.kernel := by
  unfold feedPlain at h
  dsimp only at h
  split at h
  · cases h
  · split at h
    · cases h; simp
    · cases h

theorem execFeedPacketReceive_keeps (slot : Nat) (packet : Bytes) (s : State) : Keeps s (execFeedPacketReceive slot packet s) := by
  unfold execFeedPacketReceive
  refine keeps_if trivial (keeps_if rfl (keeps_if (discardFeed_kernel ..) ?_))
  have k : ∀ (o : Option State), (∀ t, o = some t → t.kernel = s.kernel) →
      (o.getD (discardFeed (slot / 64) s)).kernel = s.kernel := by
    intro o h
    cases o with
    | none => exact discardFeed_kernel ..
    | some t => exact h t rfl
  refine k _ (fun t h => ?_)
  split at h
  · exact feedSealed_kernel _ _ _ _ _ _ _ h
  · exact feedPlain_kernel _ _ _ _ _ _ _ h

end Sys2Proof.Machine
end

