-- ==== Sys2Proof/Laws/KernelRegisters.lean ====
section
/-! SUPPORT. What the definitions of Machine/Registers.lean leave unchanged: the kernel of the state. -/

namespace Sys2Proof.Machine

@[simp] theorem readClears_kernel (x : Span) (s : State) (r : Reg) : (readClears x s r).kernel = s.kernel := by
  unfold readClears
  split <;> (repeat' split) <;> simp

@[simp] theorem readBar_kernel (fn offset size : Nat) (s : State) :
    (readBar fn offset size s).kernel = s.kernel := by
  unfold readBar
  dsimp only
  have hz : ∀ (o : Output) (t : State), (emit o t).kernel = t.kernel := fun o t => emit_kernel ..
  refine kernel_if ?_ (kernel_if (emit_kernel ..) ?_)
  · exact (emit_kernel ..).trans (kernel_if rfl (raiseSys_kernel ..))
  · split
    · simp
    · exact kernel_if (emit_kernel ..) ((readClears_kernel ..).trans (emit_kernel ..))

theorem execReadClear_keeps (fn offset size : Nat) (s : State) : Keeps s (execReadClear fn offset size s) := by
  simp [execReadClear]

@[simp] theorem writeMbx_kernel (n l k v : Nat) (s : State) :
    (writeMbx n l k v s).kernel = s.kernel := by
  unfold writeMbx; (repeat' split) <;> simp

@[simp] theorem writeCph_kernel (n r k v : Nat) (s : State) :
    (writeCph n r k v s).kernel = s.kernel := by
  unfold writeCph; (repeat' split) <;> simp

@[simp] theorem writeEvtRing_kernel (fn k v : Nat) (s : State) :
    (writeEvtRing fn k v s).kernel = s.kernel := by
  unfold writeEvtRing; (repeat' split) <;> simp

@[simp] theorem writeSys_kernel (k v : Nat) (s : State) :
    (writeSys k v s).kernel = s.kernel := by
  unfold writeSys; (repeat' split) <;> simp

@[simp] theorem writeTmbStatus_kernel (v : Nat) (s : State) :
    (writeTmbStatus v s).kernel = s.kernel := by
  simp [writeTmbStatus]

@[simp] theorem writeTrk_kernel (n v : Nat) (s : State) :
    (writeTrk n v s).kernel = s.kernel := by
  simp [writeTrk]

@[simp] theorem writeCounter_kernel (n k v : Nat) (s : State) :
    (writeCounter n k v s).kernel = s.kernel := by
  unfold writeCounter; (repeat' split) <;> simp

@[simp] theorem writeSnap_kernel (k v : Nat) (s : State) :
    (writeSnap k v s).kernel = s.kernel := by
  unfold writeSnap; (repeat' split) <;> simp

@[simp] theorem writeMsix_kernel (fn vector k : Nat) (half : Option Nat) (v : Nat) (s : State) :
    (writeMsix fn vector k half v s).kernel = s.kernel := by
  simp [writeMsix]

@[simp] theorem writeReg_kernel (r : Reg) (v : Nat) (s : State) :
    (writeReg r v s).kernel = s.kernel := by
  unfold writeReg; (repeat' split) <;> simp

@[simp] theorem writeBar_kernel (fn offset size value : Nat) (s : State) :
    (writeBar fn offset size value s).kernel = s.kernel := by
  unfold writeBar; (repeat' split) <;> simp <;> (repeat' split) <;> simp

theorem execRegisterWrite_keeps (fn offset size value : Nat) (s : State) : Keeps s (execRegisterWrite fn offset size value s) := by
  simp [execRegisterWrite]

end Sys2Proof.Machine
end

