-- ==== Sys2Proof/Laws/PerInstr.lean ====
section
/-! SUPPORT. Per command: what is well formed on the GNZ5032 is well formed on the GNZ5120 (R1, R2: the smaller part only lacks resources). -/

namespace Sys2Proof.Laws

open Sys2Proof

theorem hasPort_wider {n : Nat} (h : hasPort .gnz5032 n = true) : hasPort .gnz5120 n = true :=
  decide_eq_true (Nat.lt_of_lt_of_le (of_decide_eq_true h) (by decide))

theorem hasTrunkLane_wider {n : Nat} (h : hasTrunkLane .gnz5032 n = true) : hasTrunkLane .gnz5120 n = true :=
  decide_eq_true (Nat.lt_of_lt_of_le (of_decide_eq_true h) (by decide))

theorem hasTile_wider {n : Nat} (h : Part.hasTile .gnz5032 n = true) : Part.hasTile .gnz5120 n = true := by
  unfold Part.hasTile at *; revert h; simp; omega

theorem below_wider {n a b : Nat} (le : a ≤ b) (h : decide (n < a) = true) : decide (n < b) = true :=
  decide_eq_true (Nat.lt_of_lt_of_le (of_decide_eq_true h) le)

theorem hasChain_wider {n : Nat} (h : Part.hasChain .gnz5032 n = true) : Part.hasChain .gnz5120 n = true :=
  ((Bool.or_eq_true _ _).mp h).elim (fun h => (Bool.or_eq_true _ _).mpr (.inl (below_wider (by decide) h)))
    (fun h => (Bool.or_eq_true _ _).mpr (.inr h))

namespace WiderPart

/-- A command that the GNZ5032 can act on is one the GNZ5120 can act on. -/
def Statement (i : Instr) : Prop := i.wellFormed .gnz5032 = true → i.wellFormed .gnz5120 = true

theorem powerOn (dur : Nat) : Statement (.powerOn dur) := fun _ => rfl

theorem sysResetNLow (dur : Nat) : Statement (.sysResetNLow dur) := fun _ => rfl

theorem brownOut (rails : Nat) (dur : Nat) : Statement (.brownOut rails dur) := fun _ => rfl

theorem pf0FunctionLevelReset : Statement (.pf0FunctionLevelReset) := fun _ => rfl

theorem resetRelease (refclk25 : Bool) (boot : BootView) : Statement (.resetRelease refclk25 boot) := fun _ => rfl

theorem pcieInterfaceReset (kind : PcieReset) : Statement (.pcieInterfaceReset kind) := fun _ => rfl

theorem pcieLinkUp : Statement (.pcieLinkUp) := fun _ => rfl

theorem vfFunctionLevelReset (n : Nat) : Statement (.vfFunctionLevelReset n) := id

theorem vfDisable (numVfs : Nat) : Statement (.vfDisable numVfs) := fun _ => rfl

theorem podResetComplete (pod : Nat) : Statement (.podResetComplete pod) := id

theorem standbyEntry : Statement (.standbyEntry) := fun _ => rfl

theorem chiveBeacon (port : Nat) : Statement (.chiveBeacon port) := hasPort_wider

theorem wakeFrame (port : Nat) (fc : Nat) : Statement (.wakeFrame port fc) := hasPort_wider

theorem wakeInNLow (dur : Nat) : Statement (.wakeInNLow dur) := fun _ => rfl

theorem wakeTimer : Statement (.wakeTimer) := fun _ => rfl

theorem standbySetApply (failed : List Nat) : Statement (.standbySetApply failed) := fun _ => rfl

theorem pcieWakeRelease : Statement (.pcieWakeRelease) := fun _ => rfl

theorem paceMonitorUpdate (tile : Nat) (pace : Nat) (slack : Int) (demand : Nat) (fifoPeak : Nat) : Statement (.paceMonitorUpdate tile pace slack demand fifoPeak) := hasTile_wider

theorem avsLoopStart (vMeas : Nat) : Statement (.avsLoopStart vMeas) := fun _ => rfl

theorem avsLoopPeriod (vMeas : Nat) : Statement (.avsLoopPeriod vMeas) := fun _ => rfl

theorem avsResponseTimeout : Statement (.avsResponseTimeout) := fun _ => rfl

theorem avsSettleCheck (vMeas : Nat) : Statement (.avsSettleCheck vMeas) := fun _ => rfl

theorem txFifoLowWater (lane : Nat) : Statement (.txFifoLowWater lane) := below_wider (by decide)

theorem txFifoUnderflow (short : TxShort) : Statement (.txFifoUnderflow short) := below_wider (by decide)

theorem rxFifoOverflow (lane : Nat) (lost : Nat) : Statement (.rxFifoOverflow lane lost) := hasChain_wider

theorem coreUndervoltage (dur : Nat) : Statement (.coreUndervoltage dur) := fun _ => rfl

theorem drvfltQualify (port : Nat) : Statement (.drvfltQualify port) := hasPort_wider

theorem driverAutoRearm (port : Nat) : Statement (.driverAutoRearm port) := hasPort_wider

theorem txenRise (port : Nat) : Statement (.txenRise port) := hasPort_wider

theorem txenFall (port : Nat) : Statement (.txenFall port) := hasPort_wider

theorem referenceLost : Statement (.referenceLost) := fun _ => rfl

theorem referenceReturn : Statement (.referenceReturn) := fun _ => rfl

theorem synthFailure (synth : Synth) : Statement (.synthFailure synth) := fun _ => rfl

theorem synthAdoptionComplete (lost : Nat) : Statement (.synthAdoptionComplete lost) := fun _ => rfl

theorem calibrationStart (port : Nat) : Statement (.calibrationStart port) := hasPort_wider

theorem calibrationComplete (port : Nat) (result : CalResult) : Statement (.calibrationComplete port result) := hasPort_wider

theorem agcFrameGainRelease (port : Nat) : Statement (.agcFrameGainRelease port) := hasPort_wider

theorem preambleDetect (port : Nat) (leek : Bool) (seen : PreambleSeen) : Statement (.preambleDetect port leek seen) := hasPort_wider

theorem frameControlReceived (port : Nat) (fc : Nat) : Statement (.frameControlReceived port fc) := hasPort_wider

theorem frameBodyDecoded (port : Nat) (body : RxBody) : Statement (.frameBodyDecoded port body) := hasPort_wider

theorem ackTransmit (port : Nat) : Statement (.ackTransmit port) := hasPort_wider

theorem ackReceived (port : Nat) (fc : Nat) (start : Nat) : Statement (.ackReceived port fc start) := hasPort_wider

theorem ackWindowClose (port : Nat) : Statement (.ackWindowClose port) := hasPort_wider

theorem prsSlot (port : Nat) (heard : Bool) (heardFrame : Bool) : Statement (.prsSlot port heard heardFrame) := hasPort_wider

theorem backoffSlotEnd (port : Nat) (heardS1 : Bool) (heardFrame : Bool) : Statement (.backoffSlotEnd port heardS1 heardFrame) := hasPort_wider

theorem idleRestart (port : Nat) : Statement (.idleRestart port) := hasPort_wider

theorem undecodableHoldOffEnd (port : Nat) : Statement (.undecodableHoldOffEnd port) := hasPort_wider

theorem frameTransmitStart (port : Nat) (units : Nat) (reads : TxReads) : Statement (.frameTransmitStart port units reads) := hasPort_wider

theorem frameTransmitEnd (port : Nat) : Statement (.frameTransmitEnd port) := hasPort_wider

theorem beaconStart (port : Nat) : Statement (.beaconStart port) := hasPort_wider

theorem zeroCrossing (port : Nat) (edge : Nat) : Statement (.zeroCrossing port edge) := hasPort_wider

theorem mainsAcquireTimeout (port : Nat) : Statement (.mainsAcquireTimeout port) := hasPort_wider

theorem predictedCrossingMiss (port : Nat) : Statement (.predictedCrossingMiss port) := hasPort_wider

theorem slotBoundaryPrefetch (port : Nat) (ddrFail : Bool) : Statement (.slotBoundaryPrefetch port ddrFail) := hasPort_wider

theorem tmMapReceived (port : Nat) (ep : Nat) (msg : Bytes) : Statement (.tmMapReceived port ep msg) := hasPort_wider

theorem tmMapAckReceived (port : Nat) (ep : Nat) (msg : Bytes) : Statement (.tmMapAckReceived port ep msg) := hasPort_wider

theorem tmRequestReceived (port : Nat) (ep : Nat) (msg : Bytes) : Statement (.tmRequestReceived port ep msg) := hasPort_wider

theorem tmInvalidateReceived (port : Nat) (ep : Nat) (msg : Bytes) : Statement (.tmInvalidateReceived port ep msg) := hasPort_wider

theorem tonemapPeriodicRefresh (port : Nat) (ep : Nat) (mapId : Nat) (tails : List Int) (feedback : Bytes) :
    Statement (.tonemapPeriodicRefresh port ep mapId tails feedback) := hasPort_wider

theorem estimateStale (port : Nat) (ep : Nat) (slot : Nat) : Statement (.estimateStale port ep slot) := hasPort_wider

theorem cancellerSurveyEnd (victim : Nat) (ties : List Nat) : Statement (.cancellerSurveyEnd victim ties) := hasPort_wider

theorem cancellerSymbol (victim : Nat) (aggressor : Nat) (sym : CancSymbol) : Statement (.cancellerSymbol victim aggressor sym) := fun h => by
  obtain ⟨a, b⟩ := (Bool.and_eq_true _ _).mp h
  exact (Bool.and_eq_true _ _).mpr ⟨hasPort_wider a, hasPort_wider b⟩

theorem cancellerStateChange (victim : Nat) (aggressor : Nat) (was : Nat) (goal : Nat) :
    Statement (.cancellerStateChange victim aggressor was goal) := fun h => by
  obtain ⟨a, b⟩ := (Bool.and_eq_true _ _).mp h
  exact (Bool.and_eq_true _ _).mpr ⟨hasPort_wider a, hasPort_wider b⟩

theorem cancellerDisengagedTimeout (victim : Nat) (aggressor : Nat) : Statement (.cancellerDisengagedTimeout victim aggressor) := fun h => by
  obtain ⟨a, b⟩ := (Bool.and_eq_true _ _).mp h
  exact (Bool.and_eq_true _ _).mpr ⟨hasPort_wider a, hasPort_wider b⟩

theorem cancellerSuspendLong (victim : Nat) (aggressor : Nat) : Statement (.cancellerSuspendLong victim aggressor) := fun h => by
  obtain ⟨a, b⟩ := (Bool.and_eq_true _ _).mp h
  exact (Bool.and_eq_true _ _).mpr ⟨hasPort_wider a, hasPort_wider b⟩

theorem treeComputation (port : Nat) : Statement (.treeComputation port) := hasPort_wider

theorem tpRouteAckReceived (port : Nat) (ep : Nat) (msg : Bytes) : Statement (.tpRouteAckReceived port ep msg) := hasPort_wider

theorem pendingVersionTimeout (port : Nat) : Statement (.pendingVersionTimeout port) := hasPort_wider

theorem tpLinkReportReceived (port : Nat) (ep : Nat) (msg : Bytes) : Statement (.tpLinkReportReceived port ep msg) := hasPort_wider

theorem tpJoinReceived (port : Nat) (ep : Nat) (msg : Bytes) : Statement (.tpJoinReceived port ep msg) := hasPort_wider

theorem unreachableHoldExpiry (ep : Nat) : Statement (.unreachableHoldExpiry ep) := fun _ => rfl

theorem heldSubmissionAdmit (idx : Nat) : Statement (.heldSubmissionAdmit idx) := fun _ => rfl

theorem frameSeal (flight : Nat) (plaintext : Option Bytes) : Statement (.frameSeal flight plaintext) := fun _ => rfl

theorem staging (port : Nat) (ddrFail : Bool) : Statement (.staging port ddrFail) := hasPort_wider

theorem uplinkOpen (flight : Nat) (poison : Bool) : Statement (.uplinkOpen flight poison) := fun _ => rfl

theorem rxRingWrite (flight : Nat) (consumer : Option Nat) : Statement (.rxRingWrite flight consumer) := fun _ => rfl

theorem cipherDescriptorTake (pod : Nat) (ring : Nat) (desc : Bytes) (io : DescIo) : Statement (.cipherDescriptorTake pod ring desc io) := id

theorem cipherJobComplete (pod : Nat) (ring : Nat) (idx : Nat) : Statement (.cipherJobComplete pod ring idx) := fun _ => rfl

theorem maskReseed (pipe : Nat) : Statement (.maskReseed pipe) := id

theorem entropyHealthFail : Statement (.entropyHealthFail) := fun _ => rfl

theorem entropyRetest (pass : Bool) : Statement (.entropyRetest pass) := fun _ => rfl

theorem chkDmaComplete (ctx : Nat) (ddrFail : Bool) : Statement (.chkDmaComplete ctx ddrFail) := fun _ => rfl

theorem chainOutput (chain : Nat) (pos : Nat) (last : Nat) (samples : List TapSample) (poisons : List Nat) (consumer : Option Nat) :
    Statement (.chainOutput chain pos last samples poisons consumer) := hasChain_wider

theorem bankSwapEffect (swap : BankSwap) : Statement (.bankSwapEffect swap) := hasChain_wider

theorem scanFrameStart (conv : Nat) (codes : List ScanCode) : Statement (.scanFrameStart conv codes) := id

theorem chargeReset (input : Nat) (code : Int) : Statement (.chargeReset input code) := id

theorem clampFlagChange (input : Nat) (present : Bool) : Statement (.clampFlagChange input present) := id

theorem commonModeFlagChange (input : Nat) (cmMv : Int) : Statement (.commonModeFlagChange input cmMv) := id

theorem dieTempUpdate (sensing : Int) (max : Int) (min : Int) : Statement (.dieTempUpdate sensing max min) := fun _ => rfl

theorem pdPulseWindowEnd (group : Nat) (source : Nat) (pulse : PdPulse) : Statement (.pdPulseWindowEnd group source pulse) := id

theorem pdClusterClose (group : Nat) (consumer : Option Nat) : Statement (.pdClusterClose group consumer) := id

theorem i2cTransferStart (port : Nat) : Statement (.i2cTransferStart port) := id

theorem i2cArbitrationLoss (port : Nat) : Statement (.i2cArbitrationLoss port) := id

theorem i2cSclTimeout (held : BusHeld) : Statement (.i2cSclTimeout held) := id

theorem i2cBusNotFreeTimeout (port : Nat) : Statement (.i2cBusNotFreeTimeout port) := id

theorem trunkFrameTransmit : Statement (.trunkFrameTransmit) := fun _ => rfl

theorem trunkFrameReceive (lane : Nat) (frame : TrunkRx) : Statement (.trunkFrameReceive lane frame) := hasTrunkLane_wider

theorem fasMissingOof (lane : Nat) : Statement (.fasMissingOof lane) := hasTrunkLane_wider

theorem codewordLockChange (lane : Nat) (good : Bool) : Statement (.codewordLockChange lane good) := hasTrunkLane_wider

theorem losEntry (lane : Nat) (signal : Bool) : Statement (.losEntry lane signal) := hasTrunkLane_wider

theorem losExit (lane : Nat) : Statement (.losExit lane) := hasTrunkLane_wider

theorem lofEntry (lane : Nat) : Statement (.lofEntry lane) := hasTrunkLane_wider

theorem lofExit (lane : Nat) : Statement (.lofExit lane) := hasTrunkLane_wider

theorem sdEvaluation (lane : Nat) (corrected : Nat) (received : Nat) : Statement (.sdEvaluation lane corrected received) := hasTrunkLane_wider

theorem slotDefectChange (lane : Nat) : Statement (.slotDefectChange lane) := hasTrunkLane_wider

theorem trunkFifoShortfall (lane : Nat) (transmit : Bool) : Statement (.trunkFifoShortfall lane transmit) := hasTrunkLane_wider

theorem feedPacketReceive (slot : Nat) (packet : Bytes) : Statement (.feedPacketReceive slot packet) := below_wider (by decide)

theorem trunkUplinkPacket (flight : Nat) : Statement (.trunkUplinkPacket flight) := fun _ => rfl

theorem ethernetChunkSend (lane : Nat) (slot : Nat) : Statement (.ethernetChunkSend lane slot) := hasTrunkLane_wider

theorem ethernetChunkReceive (lane : Nat) (slot : Nat) (seq : Nat) (fcsOk : Bool) (label : Nat) (body : ChunkBody) :
    Statement (.ethernetChunkReceive lane slot seq fcsOk label body) := hasTrunkLane_wider

theorem ethernetChunkTimeout (slot : Nat) : Statement (.ethernetChunkTimeout slot) := hasTrunkLane_wider

theorem pauseReceived (lane : Nat) (quanta : Nat) : Statement (.pauseReceived lane quanta) := hasTrunkLane_wider

theorem tsiCommitBoundary : Statement (.tsiCommitBoundary) := fun _ => rfl

theorem tsiCopyDone : Statement (.tsiCopyDone) := fun _ => rfl

theorem mirrorRecordReceive (record : MirrorRec) : Statement (.mirrorRecordReceive record) := fun _ => rfl

theorem peerReadySet : Statement (.peerReadySet) := fun _ => rfl

theorem peerFailingDetect (role : Nat) : Statement (.peerFailingDetect role) := fun _ => rfl

theorem pairTakeover : Statement (.pairTakeover) := fun _ => rfl

theorem takeoverBoundary : Statement (.takeoverBoundary) := fun _ => rfl

theorem plannedSwitchBoundary : Statement (.plannedSwitchBoundary) := fun _ => rfl

theorem heartbeatLoss : Statement (.heartbeatLoss) := fun _ => rfl

theorem mirrorLinkLossTimeout : Statement (.mirrorLinkLossTimeout) := fun _ => rfl

theorem ppsEdge (edge : Nat) : Statement (.ppsEdge edge) := fun _ => rfl

theorem ppsEdgeMissing : Statement (.ppsEdgeMissing) := fun _ => rfl

theorem timebaseRenewal : Statement (.timebaseRenewal) := fun _ => rfl

theorem holdoverExpiry : Statement (.holdoverExpiry) := fun _ => rfl

theorem revertiveDisplace (reference : Nat) : Statement (.revertiveDisplace reference) := fun _ => rfl

theorem timeStep : Statement (.timeStep) := fun _ => rfl

theorem ppsOutEdge : Statement (.ppsOutEdge) := fun _ => rfl

theorem mbxDoorbell (pod : Nat) (lane : Nat) (prod : Nat) : Statement (.mbxDoorbell pod lane prod) := id

theorem mbxDescriptorTake (pod : Nat) (lane : Nat) (desc : Bytes) (request : Bytes) (descFails : Bool) (io : CmdIo) : Statement (.mbxDescriptorTake pod lane desc request descFails io) := id

theorem mbxLaneEnable (pod : Nat) (lane : Nat) (on : Bool) : Statement (.mbxLaneEnable pod lane on) := id

theorem mbxFaultClear (pod : Nat) (lane : Nat) : Statement (.mbxFaultClear pod lane) := id

theorem mbxCmplConsUpdate (pod : Nat) (lane : Nat) (cons : Nat) : Statement (.mbxCmplConsUpdate pod lane cons) := id

theorem commandWaitEnd (caller : Caller) : Statement (.commandWaitEnd caller) := fun _ => rfl

theorem sheddingEntry (loads : List Nat) : Statement (.sheddingEntry loads) := fun _ => rfl

theorem sheddingExit (loads : List Nat) : Statement (.sheddingExit loads) := fun _ => rfl

theorem notificationPost (pod : Nat) (lane : Nat) (code : Nat) (body : Bytes) : Statement (.notificationPost pod lane code body) := id

theorem watchdogExpiry : Statement (.watchdogExpiry) := fun _ => rfl

theorem processorFault : Statement (.processorFault) := fun _ => rfl

theorem firmwareRestartComplete : Statement (.firmwareRestartComplete) := fun _ => rfl

theorem meterPeriod (schedule : Nat) : Statement (.meterPeriod schedule) := fun _ => rfl

theorem meterCollectionEnd (schedule : Nat) : Statement (.meterCollectionEnd schedule) := fun _ => rfl

theorem serviceReplyReceived (ep : Nat) (unit : Bytes) : Statement (.serviceReplyReceived ep unit) := fun _ => rfl

theorem loadShedExecute (idx : Nat) : Statement (.loadShedExecute idx) := fun _ => rfl

theorem loadShedConfirm (idx : Nat) : Statement (.loadShedConfirm idx) := fun _ => rfl

theorem dispatchReassert (ep : Nat) : Statement (.dispatchReassert ep) := fun _ => rfl

theorem dispatchLoss (ep : Nat) : Statement (.dispatchLoss ep) := fun _ => rfl

theorem apertureAccess (pod : Nat) (write : Bool) (offset : Nat) (len : Nat) (data : Bytes) : Statement (.apertureAccess pod write offset len data) := id

theorem checkedAccessRetire (id : Nat) : Statement (.checkedAccessRetire id) := fun _ => rfl

theorem journaledWriteCommit : Statement (.journaledWriteCommit) := fun _ => rfl

theorem tamperQualify (source : Nat) : Statement (.tamperQualify source) := id

theorem tamperLoopPattern (input : Nat) (returned : Nat) : Statement (.tamperLoopPattern input returned) := id

theorem observeExpiry : Statement (.observeExpiry) := fun _ => rfl

theorem snapshotLatch : Statement (.snapshotLatch) := fun _ => rfl

theorem traceTimeRecord : Statement (.traceTimeRecord) := fun _ => rfl

theorem traceSyncWord : Statement (.traceSyncWord) := fun _ => rfl

theorem eventRecordIssue (source : Nat) (cause : Nat) (arg0 : Nat) (arg1 : Nat) : Statement (.eventRecordIssue source cause arg0 arg1) := fun _ => rfl

theorem coalesceWindowClose (source : Nat) (cause : Nat) : Statement (.coalesceWindowClose source cause) := fun _ => rfl

theorem admitVectorDeferred (fn : Nat) : Statement (.admitVectorDeferred fn) := fun _ => rfl

theorem deliveryVectorDeferred (fn : Nat) : Statement (.deliveryVectorDeferred fn) := fun _ => rfl

theorem evtSrcCfgWrite (source : Nat) (value : Nat) : Statement (.evtSrcCfgWrite source value) := id

theorem evtRingEnable (fn : Nat) (on : Bool) : Statement (.evtRingEnable fn on) := id

theorem evtRingFaultClear (fn : Nat) : Statement (.evtRingFaultClear fn) := id

theorem cphRingDoorbell (pod : Nat) (ring : Nat) (prod : Nat) : Statement (.cphRingDoorbell pod ring prod) := id

theorem cphRingEnable (pod : Nat) (ring : Nat) (on : Bool) : Statement (.cphRingEnable pod ring on) := id

theorem cphRingFaultClear (pod : Nat) (ring : Nat) : Statement (.cphRingFaultClear pod ring) := id

theorem cphCmplConsUpdate (pod : Nat) (ring : Nat) (cons : Nat) : Statement (.cphCmplConsUpdate pod ring cons) := id

theorem avsFaultClear : Statement (.avsFaultClear) := fun _ => rfl

theorem chkContextWrite (ctx : Nat) (reg : Nat) (value : Nat) : Statement (.chkContextWrite ctx reg value) := id

theorem pmcValueWrite (n : Nat) (value : Nat) (increments : Nat) : Statement (.pmcValueWrite n value increments) := id

theorem pmcCfgWrite (n : Nat) (value : Nat) : Statement (.pmcCfgWrite n value) := id

theorem snapshotArm : Statement (.snapshotArm) := fun _ => rfl

theorem registerWrite (fn : Nat) (offset : Nat) (size : Nat) (value : Nat) : Statement (.registerWrite fn offset size value) := id

theorem readClear (fn : Nat) (offset : Nat) (size : Nat) : Statement (.readClear fn offset size) := id

theorem portOpen (c : Caller) (req : Bytes) : Statement (.portOpen c req) := fun _ => rfl

theorem portClose (c : Caller) (req : Bytes) : Statement (.portClose c req) := fun _ => rfl

theorem laneCalibrate (c : Caller) (req : Bytes) : Statement (.laneCalibrate c req) := fun _ => rfl

theorem laneGain (c : Caller) (req : Bytes) : Statement (.laneGain c req) := fun _ => rfl

theorem driverRearm (c : Caller) (req : Bytes) : Statement (.driverRearm c req) := fun _ => rfl

theorem synthRebalance (c : Caller) (req : Bytes) : Statement (.synthRebalance c req) := fun _ => rfl

theorem chainConfigure (c : Caller) (req : Bytes) : Statement (.chainConfigure c req) := fun _ => rfl

theorem chainLoadbank (c : Caller) (req : Bytes) : Statement (.chainLoadbank c req) := fun _ => rfl

theorem chainSwap (c : Caller) (req : Bytes) : Statement (.chainSwap c req) := fun _ => rfl

theorem chainThreshold (c : Caller) (req : Bytes) : Statement (.chainThreshold c req) := fun _ => rfl

theorem phyConfigure (c : Caller) (req : Bytes) : Statement (.phyConfigure c req) := fun _ => rfl

theorem tonemapConfigure (c : Caller) (req : Bytes) : Statement (.tonemapConfigure c req) := fun _ => rfl

theorem tonemapRefresh (c : Caller) (req : Bytes) : Statement (.tonemapRefresh c req) := fun _ => rfl

theorem tonemapRead (c : Caller) (req : Bytes) : Statement (.tonemapRead c req) := fun _ => rfl

theorem mainsStatus (c : Caller) (req : Bytes) : Statement (.mainsStatus c req) := fun _ => rfl

theorem cancellerConfigure (c : Caller) (req : Bytes) : Statement (.cancellerConfigure c req) := fun _ => rfl

theorem cancellerSetguard (c : Caller) (req : Bytes) : Statement (.cancellerSetguard c req) := fun _ => rfl

theorem cancellerStatus (c : Caller) (req : Bytes) : Statement (.cancellerStatus c req) := fun _ => rfl

theorem macConfigure (c : Caller) (req : Bytes) : Statement (.macConfigure c req) := fun _ => rfl

theorem macNeighbour (c : Caller) (req : Bytes) : Statement (.macNeighbour c req) := fun _ => rfl

theorem topologyConfigure (c : Caller) (req : Bytes) : Statement (.topologyConfigure c req) := fun _ => rfl

theorem endpointAdmit (c : Caller) (req : Bytes) : Statement (.endpointAdmit c req) := fun _ => rfl

theorem endpointRemove (c : Caller) (req : Bytes) : Statement (.endpointRemove c req) := fun _ => rfl

theorem topologyRead (c : Caller) (req : Bytes) : Statement (.topologyRead c req) := fun _ => rfl

theorem bufferConfigure (c : Caller) (req : Bytes) : Statement (.bufferConfigure c req) := fun _ => rfl

theorem bufferQuota (c : Caller) (req : Bytes) : Statement (.bufferQuota c req) := fun _ => rfl

theorem frameSubmit (c : Caller) (req : Bytes) : Statement (.frameSubmit c req) := fun _ => rfl

theorem rxRing (c : Caller) (req : Bytes) : Statement (.rxRing c req) := fun _ => rfl

theorem keyLoad (c : Caller) (req : Bytes) : Statement (.keyLoad c req) := fun _ => rfl

theorem keyClear (c : Caller) (req : Bytes) : Statement (.keyClear c req) := fun _ => rfl

theorem cipherBind (c : Caller) (req : Bytes) : Statement (.cipherBind c req) := fun _ => rfl

theorem cipherConfigure (c : Caller) (req : Bytes) : Statement (.cipherConfigure c req) := fun _ => rfl

theorem chkAssign (c : Caller) (req : Bytes) : Statement (.chkAssign c req) := fun _ => rfl

theorem chkBind (c : Caller) (req : Bytes) : Statement (.chkBind c req) := fun _ => rfl

theorem chkDma (c : Caller) (req : Bytes) : Statement (.chkDma c req) := fun _ => rfl

theorem trunkConfigure (c : Caller) (req : Bytes) : Statement (.trunkConfigure c req) := fun _ => rfl

theorem tsiWrite (c : Caller) (req : Bytes) : Statement (.tsiWrite c req) := fun _ => rfl

theorem tsiMode (c : Caller) (req : Bytes) : Statement (.tsiMode c req) := fun _ => rfl

theorem tsiCommit (c : Caller) (req : Bytes) : Statement (.tsiCommit c req) := fun _ => rfl

theorem tsiRead (c : Caller) (req : Bytes) : Statement (.tsiRead c req) := fun _ => rfl

theorem pairConfigure (c : Caller) (req : Bytes) : Statement (.pairConfigure c req) := fun _ => rfl

theorem pairSwitch (c : Caller) (req : Bytes) : Statement (.pairSwitch c req) := fun _ => rfl

theorem senseConfigure (c : Caller) (req : Bytes) : Statement (.senseConfigure c req) := fun _ => rfl

theorem senseCharge (c : Caller) (req : Bytes) : Statement (.senseCharge c req) := fun _ => rfl

theorem senseLincoef (c : Caller) (req : Bytes) : Statement (.senseLincoef c req) := fun _ => rfl

theorem pdConfigure (c : Caller) (req : Bytes) : Statement (.pdConfigure c req) := fun _ => rfl

theorem i2cConfigure (c : Caller) (req : Bytes) : Statement (.i2cConfigure c req) := fun _ => rfl

theorem i2cTransfer (c : Caller) (req : Bytes) : Statement (.i2cTransfer c req) := fun _ => rfl

theorem senseAssign (c : Caller) (req : Bytes) : Statement (.senseAssign c req) := fun _ => rfl

theorem timebaseConfigure (c : Caller) (req : Bytes) : Statement (.timebaseConfigure c req) := fun _ => rfl

theorem timebaseSettimeFull (c : Caller) (req : Bytes) : Statement (.timebaseSettimeFull c req) := fun _ => rfl

theorem timebaseSettimeSeconds (c : Caller) (req : Bytes) : Statement (.timebaseSettimeSeconds c req) := fun _ => rfl

theorem mbxCredits (c : Caller) (req : Bytes) : Statement (.mbxCredits c req) := fun _ => rfl

theorem mbxListen (c : Caller) (req : Bytes) : Statement (.mbxListen c req) := fun _ => rfl

theorem profileSet (c : Caller) (req : Bytes) : Statement (.profileSet c req) := fun _ => rfl

theorem powerSetcap (c : Caller) (req : Bytes) : Statement (.powerSetcap c req) := fun _ => rfl

theorem fwInfo (c : Caller) (req : Bytes) : Statement (.fwInfo c req) := fun _ => rfl

theorem fwUpdateBegin (c : Caller) (req : Bytes) : Statement (.fwUpdateBegin c req) := fun _ => rfl

theorem fwUpdateWrite (c : Caller) (req : Bytes) : Statement (.fwUpdateWrite c req) := fun _ => rfl

theorem fwUpdateFinish (c : Caller) (req : Bytes) : Statement (.fwUpdateFinish c req) := fun _ => rfl

theorem fwActivate (c : Caller) (req : Bytes) : Statement (.fwActivate c req) := fun _ => rfl

theorem podReset (c : Caller) (req : Bytes) : Statement (.podReset c req) := fun _ => rfl

theorem podAssign (c : Caller) (req : Bytes) : Statement (.podAssign c req) := fun _ => rfl

theorem podWindow (c : Caller) (req : Bytes) : Statement (.podWindow c req) := fun _ => rfl

theorem secLifecycle (c : Caller) (req : Bytes) : Statement (.secLifecycle c req) := fun _ => rfl

theorem secRevoke (c : Caller) (req : Bytes) : Statement (.secRevoke c req) := fun _ => rfl

theorem kekInstall (c : Caller) (req : Bytes) : Statement (.kekInstall c req) := fun _ => rfl

theorem kekAgree (c : Caller) (req : Bytes) : Statement (.kekAgree c req) := fun _ => rfl

theorem kekClear (c : Caller) (req : Bytes) : Statement (.kekClear c req) := fun _ => rfl

theorem secIdentity (c : Caller) (req : Bytes) : Statement (.secIdentity c req) := fun _ => rfl

theorem secTamperConfigure (c : Caller) (req : Bytes) : Statement (.secTamperConfigure c req) := fun _ => rfl

theorem secTamperClear (c : Caller) (req : Bytes) : Statement (.secTamperClear c req) := fun _ => rfl

theorem secObserveChallenge (c : Caller) (req : Bytes) : Statement (.secObserveChallenge c req) := fun _ => rfl

theorem secObserveToken (c : Caller) (req : Bytes) : Statement (.secObserveToken c req) := fun _ => rfl

theorem secObserveEnd (c : Caller) (req : Bytes) : Statement (.secObserveEnd c req) := fun _ => rfl

theorem pmcAssign (c : Caller) (req : Bytes) : Statement (.pmcAssign c req) := fun _ => rfl

theorem pmcConfigure (c : Caller) (req : Bytes) : Statement (.pmcConfigure c req) := fun _ => rfl

theorem tagConfigure (c : Caller) (req : Bytes) : Statement (.tagConfigure c req) := fun _ => rfl

theorem trcConfigure (c : Caller) (req : Bytes) : Statement (.trcConfigure c req) := fun _ => rfl

theorem trcRead (c : Caller) (req : Bytes) : Statement (.trcRead c req) := fun _ => rfl

theorem pwrStandby (c : Caller) (req : Bytes) : Statement (.pwrStandby c req) := fun _ => rfl

theorem chiveConfigure (c : Caller) (req : Bytes) : Statement (.chiveConfigure c req) := fun _ => rfl

theorem sysReset (c : Caller) (req : Bytes) : Statement (.sysReset c req) := fun _ => rfl

theorem evtRoute (c : Caller) (req : Bytes) : Statement (.evtRoute c req) := fun _ => rfl

theorem svcRegistrySet (c : Caller) (req : Bytes) : Statement (.svcRegistrySet c req) := fun _ => rfl

theorem svcMeterSchedule (c : Caller) (req : Bytes) : Statement (.svcMeterSchedule c req) := fun _ => rfl

theorem svcLoadShed (c : Caller) (req : Bytes) : Statement (.svcLoadShed c req) := fun _ => rfl

theorem svcDispatchSet (c : Caller) (req : Bytes) : Statement (.svcDispatchSet c req) := fun _ => rfl

theorem fasFoundInFrame (lane : Nat) : Statement (.fasFoundInFrame lane) := hasTrunkLane_wider

theorem vfEnable (numVfs : Nat) : Statement (.vfEnable numVfs) := fun _ => rfl

theorem msixVectorUnmask (fn : Nat) (vector : Nat) : Statement (.msixVectorUnmask fn vector) := id

theorem i2cTransferEnd (port : Nat) (result : Nat) (ackedBytes : Nat) (data : Bytes) : Statement (.i2cTransferEnd port result ackedBytes data) := id

theorem portOpenCalibrationEnd (port : Nat) (result : CalResult) : Statement (.portOpenCalibrationEnd port result) := hasPort_wider

end WiderPart

end Sys2Proof.Laws
end

