-- ==== Sys2Proof/Laws/State.lean ====
section
/-! SUPPORT. What each basic update of the state does to each field: one lemma for a field and an update. -/

namespace Sys2Proof.Machine

@[simp] theorem emit_part (o : Output) (s : State) : (emit o s).part = s.part := rfl
@[simp] theorem emit_pending (o : Output) (s : State) : (emit o s).pending = s.pending := rfl
@[simp] theorem emit_now (o : Output) (s : State) : (emit o s).now = s.now := rfl
@[simp] theorem emit_free (o : Output) (s : State) : (emit o s).free = s.free := rfl
@[simp] theorem emit_out (o : Output) (s : State) : (emit o s).out = s.out ++ [o] := rfl
@[simp] theorem emit_pwr (o : Output) (s : State) : (emit o s).pwr = s.pwr := rfl
@[simp] theorem emit_syn (o : Output) (s : State) : (emit o s).syn = s.syn := rfl
@[simp] theorem emit_tmb (o : Output) (s : State) : (emit o s).tmb = s.tmb := rfl
@[simp] theorem emit_mgmt (o : Output) (s : State) : (emit o s).mgmt = s.mgmt := rfl
@[simp] theorem emit_pods (o : Output) (s : State) : (emit o s).pods = s.pods := rfl
@[simp] theorem emit_own (o : Output) (s : State) : (emit o s).own = s.own := rfl
@[simp] theorem emit_fw (o : Output) (s : State) : (emit o s).fw = s.fw := rfl
@[simp] theorem emit_host (o : Output) (s : State) : (emit o s).host = s.host := rfl
@[simp] theorem emit_evt (o : Output) (s : State) : (emit o s).evt = s.evt := rfl
@[simp] theorem emit_obs (o : Output) (s : State) : (emit o s).obs = s.obs := rfl
@[simp] theorem emit_ports (o : Output) (s : State) : (emit o s).ports = s.ports := rfl
@[simp] theorem emit_lbf (o : Output) (s : State) : (emit o s).lbf = s.lbf := rfl
@[simp] theorem emit_nbrs (o : Output) (s : State) : (emit o s).nbrs = s.nbrs := rfl
@[simp] theorem emit_eps (o : Output) (s : State) : (emit o s).eps = s.eps := rfl
@[simp] theorem emit_tm (o : Output) (s : State) : (emit o s).tm = s.tm := rfl
@[simp] theorem emit_canc (o : Output) (s : State) : (emit o s).canc = s.canc := rfl
@[simp] theorem emit_cph (o : Output) (s : State) : (emit o s).cph = s.cph := rfl
@[simp] theorem emit_chk (o : Output) (s : State) : (emit o s).chk = s.chk := rfl
@[simp] theorem emit_trk (o : Output) (s : State) : (emit o s).trk = s.trk := rfl
@[simp] theorem emit_chains (o : Output) (s : State) : (emit o s).chains = s.chains := rfl
@[simp] theorem emit_sns (o : Output) (s : State) : (emit o s).sns = s.sns := rfl
@[simp] theorem emit_sec (o : Output) (s : State) : (emit o s).sec = s.sec := rfl
@[simp] theorem emit_mram (o : Output) (s : State) : (emit o s).mram = s.mram := rfl
@[simp] theorem emit_ddr (o : Output) (s : State) : (emit o s).ddr = s.ddr := rfl
@[simp] theorem advanceTo_part (t : Nat) (s : State) : (advanceTo t s).part = s.part := rfl
@[simp] theorem advanceTo_pending (t : Nat) (s : State) : (advanceTo t s).pending = s.pending := rfl
@[simp] theorem advanceTo_now (t : Nat) (s : State) : (advanceTo t s).now = max s.now t := rfl
@[simp] theorem advanceTo_free (t : Nat) (s : State) : (advanceTo t s).free = s.free := rfl
@[simp] theorem advanceTo_out (t : Nat) (s : State) : (advanceTo t s).out = s.out := rfl
@[simp] theorem advanceTo_pwr (t : Nat) (s : State) : (advanceTo t s).pwr = s.pwr := rfl
@[simp] theorem advanceTo_syn (t : Nat) (s : State) : (advanceTo t s).syn = s.syn := rfl
@[simp] theorem advanceTo_tmb (t : Nat) (s : State) : (advanceTo t s).tmb = s.tmb := rfl
@[simp] theorem advanceTo_mgmt (t : Nat) (s : State) : (advanceTo t s).mgmt = s.mgmt := rfl
@[simp] theorem advanceTo_pods (t : Nat) (s : State) : (advanceTo t s).pods = s.pods := rfl
@[simp] theorem advanceTo_own (t : Nat) (s : State) : (advanceTo t s).own = s.own := rfl
@[simp] theorem advanceTo_fw (t : Nat) (s : State) : (advanceTo t s).fw = s.fw := rfl
@[simp] theorem advanceTo_host (t : Nat) (s : State) : (advanceTo t s).host = s.host := rfl
@[simp] theorem advanceTo_evt (t : Nat) (s : State) : (advanceTo t s).evt = s.evt := rfl
@[simp] theorem advanceTo_obs (t : Nat) (s : State) : (advanceTo t s).obs = s.obs := rfl
@[simp] theorem advanceTo_ports (t : Nat) (s : State) : (advanceTo t s).ports = s.ports := rfl
@[simp] theorem advanceTo_lbf (t : Nat) (s : State) : (advanceTo t s).lbf = s.lbf := rfl
@[simp] theorem advanceTo_nbrs (t : Nat) (s : State) : (advanceTo t s).nbrs = s.nbrs := rfl
@[simp] theorem advanceTo_eps (t : Nat) (s : State) : (advanceTo t s).eps = s.eps := rfl
@[simp] theorem advanceTo_tm (t : Nat) (s : State) : (advanceTo t s).tm = s.tm := rfl
@[simp] theorem advanceTo_canc (t : Nat) (s : State) : (advanceTo t s).canc = s.canc := rfl
@[simp] theorem advanceTo_cph (t : Nat) (s : State) : (advanceTo t s).cph = s.cph := rfl
@[simp] theorem advanceTo_chk (t : Nat) (s : State) : (advanceTo t s).chk = s.chk := rfl
@[simp] theorem advanceTo_trk (t : Nat) (s : State) : (advanceTo t s).trk = s.trk := rfl
@[simp] theorem advanceTo_chains (t : Nat) (s : State) : (advanceTo t s).chains = s.chains := rfl
@[simp] theorem advanceTo_sns (t : Nat) (s : State) : (advanceTo t s).sns = s.sns := rfl
@[simp] theorem advanceTo_sec (t : Nat) (s : State) : (advanceTo t s).sec = s.sec := rfl
@[simp] theorem advanceTo_mram (t : Nat) (s : State) : (advanceTo t s).mram = s.mram := rfl
@[simp] theorem advanceTo_ddr (t : Nat) (s : State) : (advanceTo t s).ddr = s.ddr := rfl
@[simp] theorem updPort_part (p : Nat) (f : Port → Port) (s : State) : (updPort p f s).part = s.part := rfl
@[simp] theorem updPort_pending (p : Nat) (f : Port → Port) (s : State) : (updPort p f s).pending = s.pending := rfl
@[simp] theorem updPort_now (p : Nat) (f : Port → Port) (s : State) : (updPort p f s).now = s.now := rfl
@[simp] theorem updPort_free (p : Nat) (f : Port → Port) (s : State) : (updPort p f s).free = s.free := rfl
@[simp] theorem updPort_out (p : Nat) (f : Port → Port) (s : State) : (updPort p f s).out = s.out := rfl
@[simp] theorem updPort_pwr (p : Nat) (f : Port → Port) (s : State) : (updPort p f s).pwr = s.pwr := rfl
@[simp] theorem updPort_syn (p : Nat) (f : Port → Port) (s : State) : (updPort p f s).syn = s.syn := rfl
@[simp] theorem updPort_tmb (p : Nat) (f : Port → Port) (s : State) : (updPort p f s).tmb = s.tmb := rfl
@[simp] theorem updPort_mgmt (p : Nat) (f : Port → Port) (s : State) : (updPort p f s).mgmt = s.mgmt := rfl
@[simp] theorem updPort_pods (p : Nat) (f : Port → Port) (s : State) : (updPort p f s).pods = s.pods := rfl
@[simp] theorem updPort_own (p : Nat) (f : Port → Port) (s : State) : (updPort p f s).own = s.own := rfl
@[simp] theorem updPort_fw (p : Nat) (f : Port → Port) (s : State) : (updPort p f s).fw = s.fw := rfl
@[simp] theorem updPort_host (p : Nat) (f : Port → Port) (s : State) : (updPort p f s).host = s.host := rfl
@[simp] theorem updPort_evt (p : Nat) (f : Port → Port) (s : State) : (updPort p f s).evt = s.evt := rfl
@[simp] theorem updPort_obs (p : Nat) (f : Port → Port) (s : State) : (updPort p f s).obs = s.obs := rfl
@[simp] theorem updPort_ports (p : Nat) (f : Port → Port) (s : State) : (updPort p f s).ports = tset s.ports p (f (port s p)) := rfl
@[simp] theorem updPort_lbf (p : Nat) (f : Port → Port) (s : State) : (updPort p f s).lbf = s.lbf := rfl
@[simp] theorem updPort_nbrs (p : Nat) (f : Port → Port) (s : State) : (updPort p f s).nbrs = s.nbrs := rfl
@[simp] theorem updPort_eps (p : Nat) (f : Port → Port) (s : State) : (updPort p f s).eps = s.eps := rfl
@[simp] theorem updPort_tm (p : Nat) (f : Port → Port) (s : State) : (updPort p f s).tm = s.tm := rfl
@[simp] theorem updPort_canc (p : Nat) (f : Port → Port) (s : State) : (updPort p f s).canc = s.canc := rfl
@[simp] theorem updPort_cph (p : Nat) (f : Port → Port) (s : State) : (updPort p f s).cph = s.cph := rfl
@[simp] theorem updPort_chk (p : Nat) (f : Port → Port) (s : State) : (updPort p f s).chk = s.chk := rfl
@[simp] theorem updPort_trk (p : Nat) (f : Port → Port) (s : State) : (updPort p f s).trk = s.trk := rfl
@[simp] theorem updPort_chains (p : Nat) (f : Port → Port) (s : State) : (updPort p f s).chains = s.chains := rfl
@[simp] theorem updPort_sns (p : Nat) (f : Port → Port) (s : State) : (updPort p f s).sns = s.sns := rfl
@[simp] theorem updPort_sec (p : Nat) (f : Port → Port) (s : State) : (updPort p f s).sec = s.sec := rfl
@[simp] theorem updPort_mram (p : Nat) (f : Port → Port) (s : State) : (updPort p f s).mram = s.mram := rfl
@[simp] theorem updPort_ddr (p : Nat) (f : Port → Port) (s : State) : (updPort p f s).ddr = s.ddr := rfl
@[simp] theorem updPod_part (n : Nat) (f : Pod → Pod) (s : State) : (updPod n f s).part = s.part := rfl
@[simp] theorem updPod_pending (n : Nat) (f : Pod → Pod) (s : State) : (updPod n f s).pending = s.pending := rfl
@[simp] theorem updPod_now (n : Nat) (f : Pod → Pod) (s : State) : (updPod n f s).now = s.now := rfl
@[simp] theorem updPod_free (n : Nat) (f : Pod → Pod) (s : State) : (updPod n f s).free = s.free := rfl
@[simp] theorem updPod_out (n : Nat) (f : Pod → Pod) (s : State) : (updPod n f s).out = s.out := rfl
@[simp] theorem updPod_pwr (n : Nat) (f : Pod → Pod) (s : State) : (updPod n f s).pwr = s.pwr := rfl
@[simp] theorem updPod_syn (n : Nat) (f : Pod → Pod) (s : State) : (updPod n f s).syn = s.syn := rfl
@[simp] theorem updPod_tmb (n : Nat) (f : Pod → Pod) (s : State) : (updPod n f s).tmb = s.tmb := rfl
@[simp] theorem updPod_mgmt (n : Nat) (f : Pod → Pod) (s : State) : (updPod n f s).mgmt = s.mgmt := rfl
@[simp] theorem updPod_pods (n : Nat) (f : Pod → Pod) (s : State) : (updPod n f s).pods = tset s.pods n (f (pod s n)) := rfl
@[simp] theorem updPod_own (n : Nat) (f : Pod → Pod) (s : State) : (updPod n f s).own = s.own := rfl
@[simp] theorem updPod_fw (n : Nat) (f : Pod → Pod) (s : State) : (updPod n f s).fw = s.fw := rfl
@[simp] theorem updPod_host (n : Nat) (f : Pod → Pod) (s : State) : (updPod n f s).host = s.host := rfl
@[simp] theorem updPod_evt (n : Nat) (f : Pod → Pod) (s : State) : (updPod n f s).evt = s.evt := rfl
@[simp] theorem updPod_obs (n : Nat) (f : Pod → Pod) (s : State) : (updPod n f s).obs = s.obs := rfl
@[simp] theorem updPod_ports (n : Nat) (f : Pod → Pod) (s : State) : (updPod n f s).ports = s.ports := rfl
@[simp] theorem updPod_lbf (n : Nat) (f : Pod → Pod) (s : State) : (updPod n f s).lbf = s.lbf := rfl
@[simp] theorem updPod_nbrs (n : Nat) (f : Pod → Pod) (s : State) : (updPod n f s).nbrs = s.nbrs := rfl
@[simp] theorem updPod_eps (n : Nat) (f : Pod → Pod) (s : State) : (updPod n f s).eps = s.eps := rfl
@[simp] theorem updPod_tm (n : Nat) (f : Pod → Pod) (s : State) : (updPod n f s).tm = s.tm := rfl
@[simp] theorem updPod_canc (n : Nat) (f : Pod → Pod) (s : State) : (updPod n f s).canc = s.canc := rfl
@[simp] theorem updPod_cph (n : Nat) (f : Pod → Pod) (s : State) : (updPod n f s).cph = s.cph := rfl
@[simp] theorem updPod_chk (n : Nat) (f : Pod → Pod) (s : State) : (updPod n f s).chk = s.chk := rfl
@[simp] theorem updPod_trk (n : Nat) (f : Pod → Pod) (s : State) : (updPod n f s).trk = s.trk := rfl
@[simp] theorem updPod_chains (n : Nat) (f : Pod → Pod) (s : State) : (updPod n f s).chains = s.chains := rfl
@[simp] theorem updPod_sns (n : Nat) (f : Pod → Pod) (s : State) : (updPod n f s).sns = s.sns := rfl
@[simp] theorem updPod_sec (n : Nat) (f : Pod → Pod) (s : State) : (updPod n f s).sec = s.sec := rfl
@[simp] theorem updPod_mram (n : Nat) (f : Pod → Pod) (s : State) : (updPod n f s).mram = s.mram := rfl
@[simp] theorem updPod_ddr (n : Nat) (f : Pod → Pod) (s : State) : (updPod n f s).ddr = s.ddr := rfl
@[simp] theorem setMbxLane_part (pod l : Nat) (x : MbxLane) (s : State) : (setMbxLane pod l x s).part = s.part := rfl
@[simp] theorem setMbxLane_pending (pod l : Nat) (x : MbxLane) (s : State) : (setMbxLane pod l x s).pending = s.pending := rfl
@[simp] theorem setMbxLane_now (pod l : Nat) (x : MbxLane) (s : State) : (setMbxLane pod l x s).now = s.now := rfl
@[simp] theorem setMbxLane_free (pod l : Nat) (x : MbxLane) (s : State) : (setMbxLane pod l x s).free = s.free := rfl
@[simp] theorem setMbxLane_out (pod l : Nat) (x : MbxLane) (s : State) : (setMbxLane pod l x s).out = s.out := rfl
@[simp] theorem setMbxLane_pwr (pod l : Nat) (x : MbxLane) (s : State) : (setMbxLane pod l x s).pwr = s.pwr := rfl
@[simp] theorem setMbxLane_syn (pod l : Nat) (x : MbxLane) (s : State) : (setMbxLane pod l x s).syn = s.syn := rfl
@[simp] theorem setMbxLane_tmb (pod l : Nat) (x : MbxLane) (s : State) : (setMbxLane pod l x s).tmb = s.tmb := rfl
@[simp] theorem setMbxLane_mgmt (pod l : Nat) (x : MbxLane) (s : State) : (setMbxLane pod l x s).mgmt = { s.mgmt with lanes := tset s.mgmt.lanes (3 * pod + l) x } := rfl
@[simp] theorem setMbxLane_pods (pod l : Nat) (x : MbxLane) (s : State) : (setMbxLane pod l x s).pods = s.pods := rfl
@[simp] theorem setMbxLane_own (pod l : Nat) (x : MbxLane) (s : State) : (setMbxLane pod l x s).own = s.own := rfl
@[simp] theorem setMbxLane_fw (pod l : Nat) (x : MbxLane) (s : State) : (setMbxLane pod l x s).fw = s.fw := rfl
@[simp] theorem setMbxLane_host (pod l : Nat) (x : MbxLane) (s : State) : (setMbxLane pod l x s).host = s.host := rfl
@[simp] theorem setMbxLane_evt (pod l : Nat) (x : MbxLane) (s : State) : (setMbxLane pod l x s).evt = s.evt := rfl
@[simp] theorem setMbxLane_obs (pod l : Nat) (x : MbxLane) (s : State) : (setMbxLane pod l x s).obs = s.obs := rfl
@[simp] theorem setMbxLane_ports (pod l : Nat) (x : MbxLane) (s : State) : (setMbxLane pod l x s).ports = s.ports := rfl
@[simp] theorem setMbxLane_lbf (pod l : Nat) (x : MbxLane) (s : State) : (setMbxLane pod l x s).lbf = s.lbf := rfl
@[simp] theorem setMbxLane_nbrs (pod l : Nat) (x : MbxLane) (s : State) : (setMbxLane pod l x s).nbrs = s.nbrs := rfl
@[simp] theorem setMbxLane_eps (pod l : Nat) (x : MbxLane) (s : State) : (setMbxLane pod l x s).eps = s.eps := rfl
@[simp] theorem setMbxLane_tm (pod l : Nat) (x : MbxLane) (s : State) : (setMbxLane pod l x s).tm = s.tm := rfl
@[simp] theorem setMbxLane_canc (pod l : Nat) (x : MbxLane) (s : State) : (setMbxLane pod l x s).canc = s.canc := rfl
@[simp] theorem setMbxLane_cph (pod l : Nat) (x : MbxLane) (s : State) : (setMbxLane pod l x s).cph = s.cph := rfl
@[simp] theorem setMbxLane_chk (pod l : Nat) (x : MbxLane) (s : State) : (setMbxLane pod l x s).chk = s.chk := rfl
@[simp] theorem setMbxLane_trk (pod l : Nat) (x : MbxLane) (s : State) : (setMbxLane pod l x s).trk = s.trk := rfl
@[simp] theorem setMbxLane_chains (pod l : Nat) (x : MbxLane) (s : State) : (setMbxLane pod l x s).chains = s.chains := rfl
@[simp] theorem setMbxLane_sns (pod l : Nat) (x : MbxLane) (s : State) : (setMbxLane pod l x s).sns = s.sns := rfl
@[simp] theorem setMbxLane_sec (pod l : Nat) (x : MbxLane) (s : State) : (setMbxLane pod l x s).sec = s.sec := rfl
@[simp] theorem setMbxLane_mram (pod l : Nat) (x : MbxLane) (s : State) : (setMbxLane pod l x s).mram = s.mram := rfl
@[simp] theorem setMbxLane_ddr (pod l : Nat) (x : MbxLane) (s : State) : (setMbxLane pod l x s).ddr = s.ddr := rfl
@[simp] theorem updMbxLane_part (pod l : Nat) (f : MbxLane → MbxLane) (s : State) : (updMbxLane pod l f s).part = s.part := rfl
@[simp] theorem updMbxLane_pending (pod l : Nat) (f : MbxLane → MbxLane) (s : State) : (updMbxLane pod l f s).pending = s.pending := rfl
@[simp] theorem updMbxLane_now (pod l : Nat) (f : MbxLane → MbxLane) (s : State) : (updMbxLane pod l f s).now = s.now := rfl
@[simp] theorem updMbxLane_free (pod l : Nat) (f : MbxLane → MbxLane) (s : State) : (updMbxLane pod l f s).free = s.free := rfl
@[simp] theorem updMbxLane_out (pod l : Nat) (f : MbxLane → MbxLane) (s : State) : (updMbxLane pod l f s).out = s.out := rfl
@[simp] theorem updMbxLane_pwr (pod l : Nat) (f : MbxLane → MbxLane) (s : State) : (updMbxLane pod l f s).pwr = s.pwr := rfl
@[simp] theorem updMbxLane_syn (pod l : Nat) (f : MbxLane → MbxLane) (s : State) : (updMbxLane pod l f s).syn = s.syn := rfl
@[simp] theorem updMbxLane_tmb (pod l : Nat) (f : MbxLane → MbxLane) (s : State) : (updMbxLane pod l f s).tmb = s.tmb := rfl
@[simp] theorem updMbxLane_mgmt (pod l : Nat) (f : MbxLane → MbxLane) (s : State) : (updMbxLane pod l f s).mgmt = { s.mgmt with lanes := tset s.mgmt.lanes (3 * pod + l) (f (mbxLane s pod l)) } := rfl
@[simp] theorem updMbxLane_pods (pod l : Nat) (f : MbxLane → MbxLane) (s : State) : (updMbxLane pod l f s).pods = s.pods := rfl
@[simp] theorem updMbxLane_own (pod l : Nat) (f : MbxLane → MbxLane) (s : State) : (updMbxLane pod l f s).own = s.own := rfl
@[simp] theorem updMbxLane_fw (pod l : Nat) (f : MbxLane → MbxLane) (s : State) : (updMbxLane pod l f s).fw = s.fw := rfl
@[simp] theorem updMbxLane_host (pod l : Nat) (f : MbxLane → MbxLane) (s : State) : (updMbxLane pod l f s).host = s.host := rfl
@[simp] theorem updMbxLane_evt (pod l : Nat) (f : MbxLane → MbxLane) (s : State) : (updMbxLane pod l f s).evt = s.evt := rfl
@[simp] theorem updMbxLane_obs (pod l : Nat) (f : MbxLane → MbxLane) (s : State) : (updMbxLane pod l f s).obs = s.obs := rfl
@[simp] theorem updMbxLane_ports (pod l : Nat) (f : MbxLane → MbxLane) (s : State) : (updMbxLane pod l f s).ports = s.ports := rfl
@[simp] theorem updMbxLane_lbf (pod l : Nat) (f : MbxLane → MbxLane) (s : State) : (updMbxLane pod l f s).lbf = s.lbf := rfl
@[simp] theorem updMbxLane_nbrs (pod l : Nat) (f : MbxLane → MbxLane) (s : State) : (updMbxLane pod l f s).nbrs = s.nbrs := rfl
@[simp] theorem updMbxLane_eps (pod l : Nat) (f : MbxLane → MbxLane) (s : State) : (updMbxLane pod l f s).eps = s.eps := rfl
@[simp] theorem updMbxLane_tm (pod l : Nat) (f : MbxLane → MbxLane) (s : State) : (updMbxLane pod l f s).tm = s.tm := rfl
@[simp] theorem updMbxLane_canc (pod l : Nat) (f : MbxLane → MbxLane) (s : State) : (updMbxLane pod l f s).canc = s.canc := rfl
@[simp] theorem updMbxLane_cph (pod l : Nat) (f : MbxLane → MbxLane) (s : State) : (updMbxLane pod l f s).cph = s.cph := rfl
@[simp] theorem updMbxLane_chk (pod l : Nat) (f : MbxLane → MbxLane) (s : State) : (updMbxLane pod l f s).chk = s.chk := rfl
@[simp] theorem updMbxLane_trk (pod l : Nat) (f : MbxLane → MbxLane) (s : State) : (updMbxLane pod l f s).trk = s.trk := rfl
@[simp] theorem updMbxLane_chains (pod l : Nat) (f : MbxLane → MbxLane) (s : State) : (updMbxLane pod l f s).chains = s.chains := rfl
@[simp] theorem updMbxLane_sns (pod l : Nat) (f : MbxLane → MbxLane) (s : State) : (updMbxLane pod l f s).sns = s.sns := rfl
@[simp] theorem updMbxLane_sec (pod l : Nat) (f : MbxLane → MbxLane) (s : State) : (updMbxLane pod l f s).sec = s.sec := rfl
@[simp] theorem updMbxLane_mram (pod l : Nat) (f : MbxLane → MbxLane) (s : State) : (updMbxLane pod l f s).mram = s.mram := rfl
@[simp] theorem updMbxLane_ddr (pod l : Nat) (f : MbxLane → MbxLane) (s : State) : (updMbxLane pod l f s).ddr = s.ddr := rfl
@[simp] theorem updEvtRing_part (fn : Nat) (f : EvtRing → EvtRing) (s : State) : (updEvtRing fn f s).part = s.part := rfl
@[simp] theorem updEvtRing_pending (fn : Nat) (f : EvtRing → EvtRing) (s : State) : (updEvtRing fn f s).pending = s.pending := rfl
@[simp] theorem updEvtRing_now (fn : Nat) (f : EvtRing → EvtRing) (s : State) : (updEvtRing fn f s).now = s.now := rfl
@[simp] theorem updEvtRing_free (fn : Nat) (f : EvtRing → EvtRing) (s : State) : (updEvtRing fn f s).free = s.free := rfl
@[simp] theorem updEvtRing_out (fn : Nat) (f : EvtRing → EvtRing) (s : State) : (updEvtRing fn f s).out = s.out := rfl
@[simp] theorem updEvtRing_pwr (fn : Nat) (f : EvtRing → EvtRing) (s : State) : (updEvtRing fn f s).pwr = s.pwr := rfl
@[simp] theorem updEvtRing_syn (fn : Nat) (f : EvtRing → EvtRing) (s : State) : (updEvtRing fn f s).syn = s.syn := rfl
@[simp] theorem updEvtRing_tmb (fn : Nat) (f : EvtRing → EvtRing) (s : State) : (updEvtRing fn f s).tmb = s.tmb := rfl
@[simp] theorem updEvtRing_mgmt (fn : Nat) (f : EvtRing → EvtRing) (s : State) : (updEvtRing fn f s).mgmt = s.mgmt := rfl
@[simp] theorem updEvtRing_pods (fn : Nat) (f : EvtRing → EvtRing) (s : State) : (updEvtRing fn f s).pods = s.pods := rfl
@[simp] theorem updEvtRing_own (fn : Nat) (f : EvtRing → EvtRing) (s : State) : (updEvtRing fn f s).own = s.own := rfl
@[simp] theorem updEvtRing_fw (fn : Nat) (f : EvtRing → EvtRing) (s : State) : (updEvtRing fn f s).fw = s.fw := rfl
@[simp] theorem updEvtRing_host (fn : Nat) (f : EvtRing → EvtRing) (s : State) : (updEvtRing fn f s).host = s.host := rfl
@[simp] theorem updEvtRing_evt (fn : Nat) (f : EvtRing → EvtRing) (s : State) : (updEvtRing fn f s).evt = { s.evt with rings := tset s.evt.rings fn (f (evtRing s fn)) } := rfl
@[simp] theorem updEvtRing_obs (fn : Nat) (f : EvtRing → EvtRing) (s : State) : (updEvtRing fn f s).obs = s.obs := rfl
@[simp] theorem updEvtRing_ports (fn : Nat) (f : EvtRing → EvtRing) (s : State) : (updEvtRing fn f s).ports = s.ports := rfl
@[simp] theorem updEvtRing_lbf (fn : Nat) (f : EvtRing → EvtRing) (s : State) : (updEvtRing fn f s).lbf = s.lbf := rfl
@[simp] theorem updEvtRing_nbrs (fn : Nat) (f : EvtRing → EvtRing) (s : State) : (updEvtRing fn f s).nbrs = s.nbrs := rfl
@[simp] theorem updEvtRing_eps (fn : Nat) (f : EvtRing → EvtRing) (s : State) : (updEvtRing fn f s).eps = s.eps := rfl
@[simp] theorem updEvtRing_tm (fn : Nat) (f : EvtRing → EvtRing) (s : State) : (updEvtRing fn f s).tm = s.tm := rfl
@[simp] theorem updEvtRing_canc (fn : Nat) (f : EvtRing → EvtRing) (s : State) : (updEvtRing fn f s).canc = s.canc := rfl
@[simp] theorem updEvtRing_cph (fn : Nat) (f : EvtRing → EvtRing) (s : State) : (updEvtRing fn f s).cph = s.cph := rfl
@[simp] theorem updEvtRing_chk (fn : Nat) (f : EvtRing → EvtRing) (s : State) : (updEvtRing fn f s).chk = s.chk := rfl
@[simp] theorem updEvtRing_trk (fn : Nat) (f : EvtRing → EvtRing) (s : State) : (updEvtRing fn f s).trk = s.trk := rfl
@[simp] theorem updEvtRing_chains (fn : Nat) (f : EvtRing → EvtRing) (s : State) : (updEvtRing fn f s).chains = s.chains := rfl
@[simp] theorem updEvtRing_sns (fn : Nat) (f : EvtRing → EvtRing) (s : State) : (updEvtRing fn f s).sns = s.sns := rfl
@[simp] theorem updEvtRing_sec (fn : Nat) (f : EvtRing → EvtRing) (s : State) : (updEvtRing fn f s).sec = s.sec := rfl
@[simp] theorem updEvtRing_mram (fn : Nat) (f : EvtRing → EvtRing) (s : State) : (updEvtRing fn f s).mram = s.mram := rfl
@[simp] theorem updEvtRing_ddr (fn : Nat) (f : EvtRing → EvtRing) (s : State) : (updEvtRing fn f s).ddr = s.ddr := rfl
@[simp] theorem updTrunkLane_part (n : Nat) (f : TrunkLane → TrunkLane) (s : State) : (updTrunkLane n f s).part = s.part := rfl
@[simp] theorem updTrunkLane_pending (n : Nat) (f : TrunkLane → TrunkLane) (s : State) : (updTrunkLane n f s).pending = s.pending := rfl
@[simp] theorem updTrunkLane_now (n : Nat) (f : TrunkLane → TrunkLane) (s : State) : (updTrunkLane n f s).now = s.now := rfl
@[simp] theorem updTrunkLane_free (n : Nat) (f : TrunkLane → TrunkLane) (s : State) : (updTrunkLane n f s).free = s.free := rfl
@[simp] theorem updTrunkLane_out (n : Nat) (f : TrunkLane → TrunkLane) (s : State) : (updTrunkLane n f s).out = s.out := rfl
@[simp] theorem updTrunkLane_pwr (n : Nat) (f : TrunkLane → TrunkLane) (s : State) : (updTrunkLane n f s).pwr = s.pwr := rfl
@[simp] theorem updTrunkLane_syn (n : Nat) (f : TrunkLane → TrunkLane) (s : State) : (updTrunkLane n f s).syn = s.syn := rfl
@[simp] theorem updTrunkLane_tmb (n : Nat) (f : TrunkLane → TrunkLane) (s : State) : (updTrunkLane n f s).tmb = s.tmb := rfl
@[simp] theorem updTrunkLane_mgmt (n : Nat) (f : TrunkLane → TrunkLane) (s : State) : (updTrunkLane n f s).mgmt = s.mgmt := rfl
@[simp] theorem updTrunkLane_pods (n : Nat) (f : TrunkLane → TrunkLane) (s : State) : (updTrunkLane n f s).pods = s.pods := rfl
@[simp] theorem updTrunkLane_own (n : Nat) (f : TrunkLane → TrunkLane) (s : State) : (updTrunkLane n f s).own = s.own := rfl
@[simp] theorem updTrunkLane_fw (n : Nat) (f : TrunkLane → TrunkLane) (s : State) : (updTrunkLane n f s).fw = s.fw := rfl
@[simp] theorem updTrunkLane_host (n : Nat) (f : TrunkLane → TrunkLane) (s : State) : (updTrunkLane n f s).host = s.host := rfl
@[simp] theorem updTrunkLane_evt (n : Nat) (f : TrunkLane → TrunkLane) (s : State) : (updTrunkLane n f s).evt = s.evt := rfl
@[simp] theorem updTrunkLane_obs (n : Nat) (f : TrunkLane → TrunkLane) (s : State) : (updTrunkLane n f s).obs = s.obs := rfl
@[simp] theorem updTrunkLane_ports (n : Nat) (f : TrunkLane → TrunkLane) (s : State) : (updTrunkLane n f s).ports = s.ports := rfl
@[simp] theorem updTrunkLane_lbf (n : Nat) (f : TrunkLane → TrunkLane) (s : State) : (updTrunkLane n f s).lbf = s.lbf := rfl
@[simp] theorem updTrunkLane_nbrs (n : Nat) (f : TrunkLane → TrunkLane) (s : State) : (updTrunkLane n f s).nbrs = s.nbrs := rfl
@[simp] theorem updTrunkLane_eps (n : Nat) (f : TrunkLane → TrunkLane) (s : State) : (updTrunkLane n f s).eps = s.eps := rfl
@[simp] theorem updTrunkLane_tm (n : Nat) (f : TrunkLane → TrunkLane) (s : State) : (updTrunkLane n f s).tm = s.tm := rfl
@[simp] theorem updTrunkLane_canc (n : Nat) (f : TrunkLane → TrunkLane) (s : State) : (updTrunkLane n f s).canc = s.canc := rfl
@[simp] theorem updTrunkLane_cph (n : Nat) (f : TrunkLane → TrunkLane) (s : State) : (updTrunkLane n f s).cph = s.cph := rfl
@[simp] theorem updTrunkLane_chk (n : Nat) (f : TrunkLane → TrunkLane) (s : State) : (updTrunkLane n f s).chk = s.chk := rfl
@[simp] theorem updTrunkLane_chains (n : Nat) (f : TrunkLane → TrunkLane) (s : State) : (updTrunkLane n f s).chains = s.chains := rfl
@[simp] theorem updTrunkLane_sns (n : Nat) (f : TrunkLane → TrunkLane) (s : State) : (updTrunkLane n f s).sns = s.sns := rfl
@[simp] theorem updTrunkLane_sec (n : Nat) (f : TrunkLane → TrunkLane) (s : State) : (updTrunkLane n f s).sec = s.sec := rfl
@[simp] theorem updTrunkLane_mram (n : Nat) (f : TrunkLane → TrunkLane) (s : State) : (updTrunkLane n f s).mram = s.mram := rfl
@[simp] theorem updTrunkLane_ddr (n : Nat) (f : TrunkLane → TrunkLane) (s : State) : (updTrunkLane n f s).ddr = s.ddr := rfl
@[simp] theorem updChain_part (c : Nat) (f : Chain → Chain) (s : State) : (updChain c f s).part = s.part := rfl
@[simp] theorem updChain_pending (c : Nat) (f : Chain → Chain) (s : State) : (updChain c f s).pending = s.pending := rfl
@[simp] theorem updChain_now (c : Nat) (f : Chain → Chain) (s : State) : (updChain c f s).now = s.now := rfl
@[simp] theorem updChain_free (c : Nat) (f : Chain → Chain) (s : State) : (updChain c f s).free = s.free := rfl
@[simp] theorem updChain_out (c : Nat) (f : Chain → Chain) (s : State) : (updChain c f s).out = s.out := rfl
@[simp] theorem updChain_pwr (c : Nat) (f : Chain → Chain) (s : State) : (updChain c f s).pwr = s.pwr := rfl
@[simp] theorem updChain_syn (c : Nat) (f : Chain → Chain) (s : State) : (updChain c f s).syn = s.syn := rfl
@[simp] theorem updChain_tmb (c : Nat) (f : Chain → Chain) (s : State) : (updChain c f s).tmb = s.tmb := rfl
@[simp] theorem updChain_mgmt (c : Nat) (f : Chain → Chain) (s : State) : (updChain c f s).mgmt = s.mgmt := rfl
@[simp] theorem updChain_pods (c : Nat) (f : Chain → Chain) (s : State) : (updChain c f s).pods = s.pods := rfl
@[simp] theorem updChain_own (c : Nat) (f : Chain → Chain) (s : State) : (updChain c f s).own = s.own := rfl
@[simp] theorem updChain_fw (c : Nat) (f : Chain → Chain) (s : State) : (updChain c f s).fw = s.fw := rfl
@[simp] theorem updChain_host (c : Nat) (f : Chain → Chain) (s : State) : (updChain c f s).host = s.host := rfl
@[simp] theorem updChain_evt (c : Nat) (f : Chain → Chain) (s : State) : (updChain c f s).evt = s.evt := rfl
@[simp] theorem updChain_obs (c : Nat) (f : Chain → Chain) (s : State) : (updChain c f s).obs = s.obs := rfl
@[simp] theorem updChain_ports (c : Nat) (f : Chain → Chain) (s : State) : (updChain c f s).ports = s.ports := rfl
@[simp] theorem updChain_lbf (c : Nat) (f : Chain → Chain) (s : State) : (updChain c f s).lbf = s.lbf := rfl
@[simp] theorem updChain_nbrs (c : Nat) (f : Chain → Chain) (s : State) : (updChain c f s).nbrs = s.nbrs := rfl
@[simp] theorem updChain_eps (c : Nat) (f : Chain → Chain) (s : State) : (updChain c f s).eps = s.eps := rfl
@[simp] theorem updChain_tm (c : Nat) (f : Chain → Chain) (s : State) : (updChain c f s).tm = s.tm := rfl
@[simp] theorem updChain_canc (c : Nat) (f : Chain → Chain) (s : State) : (updChain c f s).canc = s.canc := rfl
@[simp] theorem updChain_cph (c : Nat) (f : Chain → Chain) (s : State) : (updChain c f s).cph = s.cph := rfl
@[simp] theorem updChain_chk (c : Nat) (f : Chain → Chain) (s : State) : (updChain c f s).chk = s.chk := rfl
@[simp] theorem updChain_trk (c : Nat) (f : Chain → Chain) (s : State) : (updChain c f s).trk = s.trk := rfl
@[simp] theorem updChain_chains (c : Nat) (f : Chain → Chain) (s : State) : (updChain c f s).chains = tset s.chains c (f (chain s c)) := rfl
@[simp] theorem updChain_sns (c : Nat) (f : Chain → Chain) (s : State) : (updChain c f s).sns = s.sns := rfl
@[simp] theorem updChain_sec (c : Nat) (f : Chain → Chain) (s : State) : (updChain c f s).sec = s.sec := rfl
@[simp] theorem updChain_mram (c : Nat) (f : Chain → Chain) (s : State) : (updChain c f s).mram = s.mram := rfl
@[simp] theorem updChain_ddr (c : Nat) (f : Chain → Chain) (s : State) : (updChain c f s).ddr = s.ddr := rfl
@[simp] theorem updChk_part (c : Nat) (f : ChkCtx → ChkCtx) (s : State) : (updChk c f s).part = s.part := rfl
@[simp] theorem updChk_pending (c : Nat) (f : ChkCtx → ChkCtx) (s : State) : (updChk c f s).pending = s.pending := rfl
@[simp] theorem updChk_now (c : Nat) (f : ChkCtx → ChkCtx) (s : State) : (updChk c f s).now = s.now := rfl
@[simp] theorem updChk_free (c : Nat) (f : ChkCtx → ChkCtx) (s : State) : (updChk c f s).free = s.free := rfl
@[simp] theorem updChk_out (c : Nat) (f : ChkCtx → ChkCtx) (s : State) : (updChk c f s).out = s.out := rfl
@[simp] theorem updChk_pwr (c : Nat) (f : ChkCtx → ChkCtx) (s : State) : (updChk c f s).pwr = s.pwr := rfl
@[simp] theorem updChk_syn (c : Nat) (f : ChkCtx → ChkCtx) (s : State) : (updChk c f s).syn = s.syn := rfl
@[simp] theorem updChk_tmb (c : Nat) (f : ChkCtx → ChkCtx) (s : State) : (updChk c f s).tmb = s.tmb := rfl
@[simp] theorem updChk_mgmt (c : Nat) (f : ChkCtx → ChkCtx) (s : State) : (updChk c f s).mgmt = s.mgmt := rfl
@[simp] theorem updChk_pods (c : Nat) (f : ChkCtx → ChkCtx) (s : State) : (updChk c f s).pods = s.pods := rfl
@[simp] theorem updChk_own (c : Nat) (f : ChkCtx → ChkCtx) (s : State) : (updChk c f s).own = s.own := rfl
@[simp] theorem updChk_fw (c : Nat) (f : ChkCtx → ChkCtx) (s : State) : (updChk c f s).fw = s.fw := rfl
@[simp] theorem updChk_host (c : Nat) (f : ChkCtx → ChkCtx) (s : State) : (updChk c f s).host = s.host := rfl
@[simp] theorem updChk_evt (c : Nat) (f : ChkCtx → ChkCtx) (s : State) : (updChk c f s).evt = s.evt := rfl
@[simp] theorem updChk_obs (c : Nat) (f : ChkCtx → ChkCtx) (s : State) : (updChk c f s).obs = s.obs := rfl
@[simp] theorem updChk_ports (c : Nat) (f : ChkCtx → ChkCtx) (s : State) : (updChk c f s).ports = s.ports := rfl
@[simp] theorem updChk_lbf (c : Nat) (f : ChkCtx → ChkCtx) (s : State) : (updChk c f s).lbf = s.lbf := rfl
@[simp] theorem updChk_nbrs (c : Nat) (f : ChkCtx → ChkCtx) (s : State) : (updChk c f s).nbrs = s.nbrs := rfl
@[simp] theorem updChk_eps (c : Nat) (f : ChkCtx → ChkCtx) (s : State) : (updChk c f s).eps = s.eps := rfl
@[simp] theorem updChk_tm (c : Nat) (f : ChkCtx → ChkCtx) (s : State) : (updChk c f s).tm = s.tm := rfl
@[simp] theorem updChk_canc (c : Nat) (f : ChkCtx → ChkCtx) (s : State) : (updChk c f s).canc = s.canc := rfl
@[simp] theorem updChk_cph (c : Nat) (f : ChkCtx → ChkCtx) (s : State) : (updChk c f s).cph = s.cph := rfl
@[simp] theorem updChk_chk (c : Nat) (f : ChkCtx → ChkCtx) (s : State) : (updChk c f s).chk = tset s.chk c (f (chkCtx s c)) := rfl
@[simp] theorem updChk_trk (c : Nat) (f : ChkCtx → ChkCtx) (s : State) : (updChk c f s).trk = s.trk := rfl
@[simp] theorem updChk_chains (c : Nat) (f : ChkCtx → ChkCtx) (s : State) : (updChk c f s).chains = s.chains := rfl
@[simp] theorem updChk_sns (c : Nat) (f : ChkCtx → ChkCtx) (s : State) : (updChk c f s).sns = s.sns := rfl
@[simp] theorem updChk_sec (c : Nat) (f : ChkCtx → ChkCtx) (s : State) : (updChk c f s).sec = s.sec := rfl
@[simp] theorem updChk_mram (c : Nat) (f : ChkCtx → ChkCtx) (s : State) : (updChk c f s).mram = s.mram := rfl
@[simp] theorem updChk_ddr (c : Nat) (f : ChkCtx → ChkCtx) (s : State) : (updChk c f s).ddr = s.ddr := rfl
@[simp] theorem updCphRing_part (p r : Nat) (f : CphRing → CphRing) (s : State) : (updCphRing p r f s).part = s.part := rfl
@[simp] theorem updCphRing_pending (p r : Nat) (f : CphRing → CphRing) (s : State) : (updCphRing p r f s).pending = s.pending := rfl
@[simp] theorem updCphRing_now (p r : Nat) (f : CphRing → CphRing) (s : State) : (updCphRing p r f s).now = s.now := rfl
@[simp] theorem updCphRing_free (p r : Nat) (f : CphRing → CphRing) (s : State) : (updCphRing p r f s).free = s.free := rfl
@[simp] theorem updCphRing_out (p r : Nat) (f : CphRing → CphRing) (s : State) : (updCphRing p r f s).out = s.out := rfl
@[simp] theorem updCphRing_pwr (p r : Nat) (f : CphRing → CphRing) (s : State) : (updCphRing p r f s).pwr = s.pwr := rfl
@[simp] theorem updCphRing_syn (p r : Nat) (f : CphRing → CphRing) (s : State) : (updCphRing p r f s).syn = s.syn := rfl
@[simp] theorem updCphRing_tmb (p r : Nat) (f : CphRing → CphRing) (s : State) : (updCphRing p r f s).tmb = s.tmb := rfl
@[simp] theorem updCphRing_mgmt (p r : Nat) (f : CphRing → CphRing) (s : State) : (updCphRing p r f s).mgmt = s.mgmt := rfl
@[simp] theorem updCphRing_pods (p r : Nat) (f : CphRing → CphRing) (s : State) : (updCphRing p r f s).pods = s.pods := rfl
@[simp] theorem updCphRing_own (p r : Nat) (f : CphRing → CphRing) (s : State) : (updCphRing p r f s).own = s.own := rfl
@[simp] theorem updCphRing_fw (p r : Nat) (f : CphRing → CphRing) (s : State) : (updCphRing p r f s).fw = s.fw := rfl
@[simp] theorem updCphRing_host (p r : Nat) (f : CphRing → CphRing) (s : State) : (updCphRing p r f s).host = s.host := rfl
@[simp] theorem updCphRing_evt (p r : Nat) (f : CphRing → CphRing) (s : State) : (updCphRing p r f s).evt = s.evt := rfl
@[simp] theorem updCphRing_obs (p r : Nat) (f : CphRing → CphRing) (s : State) : (updCphRing p r f s).obs = s.obs := rfl
@[simp] theorem updCphRing_ports (p r : Nat) (f : CphRing → CphRing) (s : State) : (updCphRing p r f s).ports = s.ports := rfl
@[simp] theorem updCphRing_lbf (p r : Nat) (f : CphRing → CphRing) (s : State) : (updCphRing p r f s).lbf = s.lbf := rfl
@[simp] theorem updCphRing_nbrs (p r : Nat) (f : CphRing → CphRing) (s : State) : (updCphRing p r f s).nbrs = s.nbrs := rfl
@[simp] theorem updCphRing_eps (p r : Nat) (f : CphRing → CphRing) (s : State) : (updCphRing p r f s).eps = s.eps := rfl
@[simp] theorem updCphRing_tm (p r : Nat) (f : CphRing → CphRing) (s : State) : (updCphRing p r f s).tm = s.tm := rfl
@[simp] theorem updCphRing_canc (p r : Nat) (f : CphRing → CphRing) (s : State) : (updCphRing p r f s).canc = s.canc := rfl
@[simp] theorem updCphRing_chk (p r : Nat) (f : CphRing → CphRing) (s : State) : (updCphRing p r f s).chk = s.chk := rfl
@[simp] theorem updCphRing_trk (p r : Nat) (f : CphRing → CphRing) (s : State) : (updCphRing p r f s).trk = s.trk := rfl
@[simp] theorem updCphRing_chains (p r : Nat) (f : CphRing → CphRing) (s : State) : (updCphRing p r f s).chains = s.chains := rfl
@[simp] theorem updCphRing_sns (p r : Nat) (f : CphRing → CphRing) (s : State) : (updCphRing p r f s).sns = s.sns := rfl
@[simp] theorem updCphRing_sec (p r : Nat) (f : CphRing → CphRing) (s : State) : (updCphRing p r f s).sec = s.sec := rfl
@[simp] theorem updCphRing_mram (p r : Nat) (f : CphRing → CphRing) (s : State) : (updCphRing p r f s).mram = s.mram := rfl
@[simp] theorem updCphRing_ddr (p r : Nat) (f : CphRing → CphRing) (s : State) : (updCphRing p r f s).ddr = s.ddr := rfl
@[simp] theorem updFlight_part (n : Nat) (g : Flight → Flight) (s : State) : (updFlight n g s).part = s.part := by unfold updFlight; (repeat' split) <;> rfl
@[simp] theorem updFlight_pending (n : Nat) (g : Flight → Flight) (s : State) : (updFlight n g s).pending = s.pending := by unfold updFlight; (repeat' split) <;> rfl
@[simp] theorem updFlight_now (n : Nat) (g : Flight → Flight) (s : State) : (updFlight n g s).now = s.now := by unfold updFlight; (repeat' split) <;> rfl
@[simp] theorem updFlight_free (n : Nat) (g : Flight → Flight) (s : State) : (updFlight n g s).free = s.free := by unfold updFlight; (repeat' split) <;> rfl
@[simp] theorem updFlight_out (n : Nat) (g : Flight → Flight) (s : State) : (updFlight n g s).out = s.out := by unfold updFlight; (repeat' split) <;> rfl
@[simp] theorem updFlight_pwr (n : Nat) (g : Flight → Flight) (s : State) : (updFlight n g s).pwr = s.pwr := by unfold updFlight; (repeat' split) <;> rfl
@[simp] theorem updFlight_syn (n : Nat) (g : Flight → Flight) (s : State) : (updFlight n g s).syn = s.syn := by unfold updFlight; (repeat' split) <;> rfl
@[simp] theorem updFlight_tmb (n : Nat) (g : Flight → Flight) (s : State) : (updFlight n g s).tmb = s.tmb := by unfold updFlight; (repeat' split) <;> rfl
@[simp] theorem updFlight_mgmt (n : Nat) (g : Flight → Flight) (s : State) : (updFlight n g s).mgmt = s.mgmt := by unfold updFlight; (repeat' split) <;> rfl
@[simp] theorem updFlight_pods (n : Nat) (g : Flight → Flight) (s : State) : (updFlight n g s).pods = s.pods := by unfold updFlight; (repeat' split) <;> rfl
@[simp] theorem updFlight_own (n : Nat) (g : Flight → Flight) (s : State) : (updFlight n g s).own = s.own := by unfold updFlight; (repeat' split) <;> rfl
@[simp] theorem updFlight_fw (n : Nat) (g : Flight → Flight) (s : State) : (updFlight n g s).fw = s.fw := by unfold updFlight; (repeat' split) <;> rfl
@[simp] theorem updFlight_host (n : Nat) (g : Flight → Flight) (s : State) : (updFlight n g s).host = s.host := by unfold updFlight; (repeat' split) <;> rfl
@[simp] theorem updFlight_evt (n : Nat) (g : Flight → Flight) (s : State) : (updFlight n g s).evt = s.evt := by unfold updFlight; (repeat' split) <;> rfl
@[simp] theorem updFlight_obs (n : Nat) (g : Flight → Flight) (s : State) : (updFlight n g s).obs = s.obs := by unfold updFlight; (repeat' split) <;> rfl
@[simp] theorem updFlight_ports (n : Nat) (g : Flight → Flight) (s : State) : (updFlight n g s).ports = s.ports := by unfold updFlight; (repeat' split) <;> rfl
@[simp] theorem updFlight_nbrs (n : Nat) (g : Flight → Flight) (s : State) : (updFlight n g s).nbrs = s.nbrs := by unfold updFlight; (repeat' split) <;> rfl
@[simp] theorem updFlight_eps (n : Nat) (g : Flight → Flight) (s : State) : (updFlight n g s).eps = s.eps := by unfold updFlight; (repeat' split) <;> rfl
@[simp] theorem updFlight_tm (n : Nat) (g : Flight → Flight) (s : State) : (updFlight n g s).tm = s.tm := by unfold updFlight; (repeat' split) <;> rfl
@[simp] theorem updFlight_canc (n : Nat) (g : Flight → Flight) (s : State) : (updFlight n g s).canc = s.canc := by unfold updFlight; (repeat' split) <;> rfl
@[simp] theorem updFlight_cph (n : Nat) (g : Flight → Flight) (s : State) : (updFlight n g s).cph = s.cph := by unfold updFlight; (repeat' split) <;> rfl
@[simp] theorem updFlight_chk (n : Nat) (g : Flight → Flight) (s : State) : (updFlight n g s).chk = s.chk := by unfold updFlight; (repeat' split) <;> rfl
@[simp] theorem updFlight_trk (n : Nat) (g : Flight → Flight) (s : State) : (updFlight n g s).trk = s.trk := by unfold updFlight; (repeat' split) <;> rfl
@[simp] theorem updFlight_chains (n : Nat) (g : Flight → Flight) (s : State) : (updFlight n g s).chains = s.chains := by unfold updFlight; (repeat' split) <;> rfl
@[simp] theorem updFlight_sns (n : Nat) (g : Flight → Flight) (s : State) : (updFlight n g s).sns = s.sns := by unfold updFlight; (repeat' split) <;> rfl
@[simp] theorem updFlight_sec (n : Nat) (g : Flight → Flight) (s : State) : (updFlight n g s).sec = s.sec := by unfold updFlight; (repeat' split) <;> rfl
@[simp] theorem updFlight_mram (n : Nat) (g : Flight → Flight) (s : State) : (updFlight n g s).mram = s.mram := by unfold updFlight; (repeat' split) <;> rfl
@[simp] theorem updFlight_ddr (n : Nat) (g : Flight → Flight) (s : State) : (updFlight n g s).ddr = s.ddr := by unfold updFlight; (repeat' split) <;> rfl
@[simp] theorem updQueue_part (q : Nat) (f : Queue → Queue) (s : State) : (updQueue q f s).part = s.part := by unfold updQueue; (repeat' split) <;> rfl
@[simp] theorem updQueue_pending (q : Nat) (f : Queue → Queue) (s : State) : (updQueue q f s).pending = s.pending := by unfold updQueue; (repeat' split) <;> rfl
@[simp] theorem updQueue_now (q : Nat) (f : Queue → Queue) (s : State) : (updQueue q f s).now = s.now := by unfold updQueue; (repeat' split) <;> rfl
@[simp] theorem updQueue_free (q : Nat) (f : Queue → Queue) (s : State) : (updQueue q f s).free = s.free := by unfold updQueue; (repeat' split) <;> rfl
@[simp] theorem updQueue_out (q : Nat) (f : Queue → Queue) (s : State) : (updQueue q f s).out = s.out := by unfold updQueue; (repeat' split) <;> rfl
@[simp] theorem updQueue_pwr (q : Nat) (f : Queue → Queue) (s : State) : (updQueue q f s).pwr = s.pwr := by unfold updQueue; (repeat' split) <;> rfl
@[simp] theorem updQueue_syn (q : Nat) (f : Queue → Queue) (s : State) : (updQueue q f s).syn = s.syn := by unfold updQueue; (repeat' split) <;> rfl
@[simp] theorem updQueue_tmb (q : Nat) (f : Queue → Queue) (s : State) : (updQueue q f s).tmb = s.tmb := by unfold updQueue; (repeat' split) <;> rfl
@[simp] theorem updQueue_mgmt (q : Nat) (f : Queue → Queue) (s : State) : (updQueue q f s).mgmt = s.mgmt := by unfold updQueue; (repeat' split) <;> rfl
@[simp] theorem updQueue_pods (q : Nat) (f : Queue → Queue) (s : State) : (updQueue q f s).pods = s.pods := by unfold updQueue; (repeat' split) <;> rfl
@[simp] theorem updQueue_own (q : Nat) (f : Queue → Queue) (s : State) : (updQueue q f s).own = s.own := by unfold updQueue; (repeat' split) <;> rfl
@[simp] theorem updQueue_fw (q : Nat) (f : Queue → Queue) (s : State) : (updQueue q f s).fw = s.fw := by unfold updQueue; (repeat' split) <;> rfl
@[simp] theorem updQueue_host (q : Nat) (f : Queue → Queue) (s : State) : (updQueue q f s).host = s.host := by unfold updQueue; (repeat' split) <;> rfl
@[simp] theorem updQueue_evt (q : Nat) (f : Queue → Queue) (s : State) : (updQueue q f s).evt = s.evt := by unfold updQueue; (repeat' split) <;> rfl
@[simp] theorem updQueue_obs (q : Nat) (f : Queue → Queue) (s : State) : (updQueue q f s).obs = s.obs := by unfold updQueue; (repeat' split) <;> rfl
@[simp] theorem updQueue_ports (q : Nat) (f : Queue → Queue) (s : State) : (updQueue q f s).ports = s.ports := by unfold updQueue; (repeat' split) <;> rfl
@[simp] theorem updQueue_nbrs (q : Nat) (f : Queue → Queue) (s : State) : (updQueue q f s).nbrs = s.nbrs := by unfold updQueue; (repeat' split) <;> rfl
@[simp] theorem updQueue_eps (q : Nat) (f : Queue → Queue) (s : State) : (updQueue q f s).eps = s.eps := by unfold updQueue; (repeat' split) <;> rfl
@[simp] theorem updQueue_tm (q : Nat) (f : Queue → Queue) (s : State) : (updQueue q f s).tm = s.tm := by unfold updQueue; (repeat' split) <;> rfl
@[simp] theorem updQueue_canc (q : Nat) (f : Queue → Queue) (s : State) : (updQueue q f s).canc = s.canc := by unfold updQueue; (repeat' split) <;> rfl
@[simp] theorem updQueue_cph (q : Nat) (f : Queue → Queue) (s : State) : (updQueue q f s).cph = s.cph := by unfold updQueue; (repeat' split) <;> rfl
@[simp] theorem updQueue_chk (q : Nat) (f : Queue → Queue) (s : State) : (updQueue q f s).chk = s.chk := by unfold updQueue; (repeat' split) <;> rfl
@[simp] theorem updQueue_trk (q : Nat) (f : Queue → Queue) (s : State) : (updQueue q f s).trk = s.trk := by unfold updQueue; (repeat' split) <;> rfl
@[simp] theorem updQueue_chains (q : Nat) (f : Queue → Queue) (s : State) : (updQueue q f s).chains = s.chains := by unfold updQueue; (repeat' split) <;> rfl
@[simp] theorem updQueue_sns (q : Nat) (f : Queue → Queue) (s : State) : (updQueue q f s).sns = s.sns := by unfold updQueue; (repeat' split) <;> rfl
@[simp] theorem updQueue_sec (q : Nat) (f : Queue → Queue) (s : State) : (updQueue q f s).sec = s.sec := by unfold updQueue; (repeat' split) <;> rfl
@[simp] theorem updQueue_mram (q : Nat) (f : Queue → Queue) (s : State) : (updQueue q f s).mram = s.mram := by unfold updQueue; (repeat' split) <;> rfl
@[simp] theorem updQueue_ddr (q : Nat) (f : Queue → Queue) (s : State) : (updQueue q f s).ddr = s.ddr := by unfold updQueue; (repeat' split) <;> rfl
@[simp] theorem setReasm_part (n : Nat) (r : Reasm) (s : State) : (setReasm n r s).part = s.part := rfl
@[simp] theorem setReasm_pending (n : Nat) (r : Reasm) (s : State) : (setReasm n r s).pending = s.pending := rfl
@[simp] theorem setReasm_now (n : Nat) (r : Reasm) (s : State) : (setReasm n r s).now = s.now := rfl
@[simp] theorem setReasm_free (n : Nat) (r : Reasm) (s : State) : (setReasm n r s).free = s.free := rfl
@[simp] theorem setReasm_out (n : Nat) (r : Reasm) (s : State) : (setReasm n r s).out = s.out := rfl
@[simp] theorem setReasm_pwr (n : Nat) (r : Reasm) (s : State) : (setReasm n r s).pwr = s.pwr := rfl
@[simp] theorem setReasm_syn (n : Nat) (r : Reasm) (s : State) : (setReasm n r s).syn = s.syn := rfl
@[simp] theorem setReasm_tmb (n : Nat) (r : Reasm) (s : State) : (setReasm n r s).tmb = s.tmb := rfl
@[simp] theorem setReasm_mgmt (n : Nat) (r : Reasm) (s : State) : (setReasm n r s).mgmt = s.mgmt := rfl
@[simp] theorem setReasm_pods (n : Nat) (r : Reasm) (s : State) : (setReasm n r s).pods = s.pods := rfl
@[simp] theorem setReasm_own (n : Nat) (r : Reasm) (s : State) : (setReasm n r s).own = s.own := rfl
@[simp] theorem setReasm_fw (n : Nat) (r : Reasm) (s : State) : (setReasm n r s).fw = s.fw := rfl
@[simp] theorem setReasm_host (n : Nat) (r : Reasm) (s : State) : (setReasm n r s).host = s.host := rfl
@[simp] theorem setReasm_evt (n : Nat) (r : Reasm) (s : State) : (setReasm n r s).evt = s.evt := rfl
@[simp] theorem setReasm_obs (n : Nat) (r : Reasm) (s : State) : (setReasm n r s).obs = s.obs := rfl
@[simp] theorem setReasm_ports (n : Nat) (r : Reasm) (s : State) : (setReasm n r s).ports = s.ports := rfl
@[simp] theorem setReasm_lbf (n : Nat) (r : Reasm) (s : State) : (setReasm n r s).lbf = { s.lbf with reasms := tset s.lbf.reasms n r } := rfl
@[simp] theorem setReasm_nbrs (n : Nat) (r : Reasm) (s : State) : (setReasm n r s).nbrs = s.nbrs := rfl
@[simp] theorem setReasm_eps (n : Nat) (r : Reasm) (s : State) : (setReasm n r s).eps = s.eps := rfl
@[simp] theorem setReasm_tm (n : Nat) (r : Reasm) (s : State) : (setReasm n r s).tm = s.tm := rfl
@[simp] theorem setReasm_canc (n : Nat) (r : Reasm) (s : State) : (setReasm n r s).canc = s.canc := rfl
@[simp] theorem setReasm_cph (n : Nat) (r : Reasm) (s : State) : (setReasm n r s).cph = s.cph := rfl
@[simp] theorem setReasm_chk (n : Nat) (r : Reasm) (s : State) : (setReasm n r s).chk = s.chk := rfl
@[simp] theorem setReasm_trk (n : Nat) (r : Reasm) (s : State) : (setReasm n r s).trk = s.trk := rfl
@[simp] theorem setReasm_chains (n : Nat) (r : Reasm) (s : State) : (setReasm n r s).chains = s.chains := rfl
@[simp] theorem setReasm_sns (n : Nat) (r : Reasm) (s : State) : (setReasm n r s).sns = s.sns := rfl
@[simp] theorem setReasm_sec (n : Nat) (r : Reasm) (s : State) : (setReasm n r s).sec = s.sec := rfl
@[simp] theorem setReasm_mram (n : Nat) (r : Reasm) (s : State) : (setReasm n r s).mram = s.mram := rfl
@[simp] theorem setReasm_ddr (n : Nat) (r : Reasm) (s : State) : (setReasm n r s).ddr = s.ddr := rfl
@[simp] theorem updNbr_part (p st : Nat) (f : Neighbour → Neighbour) (s : State) : (updNbr p st f s).part = s.part := by unfold updNbr; (repeat' split) <;> rfl
@[simp] theorem updNbr_pending (p st : Nat) (f : Neighbour → Neighbour) (s : State) : (updNbr p st f s).pending = s.pending := by unfold updNbr; (repeat' split) <;> rfl
@[simp] theorem updNbr_now (p st : Nat) (f : Neighbour → Neighbour) (s : State) : (updNbr p st f s).now = s.now := by unfold updNbr; (repeat' split) <;> rfl
@[simp] theorem updNbr_free (p st : Nat) (f : Neighbour → Neighbour) (s : State) : (updNbr p st f s).free = s.free := by unfold updNbr; (repeat' split) <;> rfl
@[simp] theorem updNbr_out (p st : Nat) (f : Neighbour → Neighbour) (s : State) : (updNbr p st f s).out = s.out := by unfold updNbr; (repeat' split) <;> rfl
@[simp] theorem updNbr_pwr (p st : Nat) (f : Neighbour → Neighbour) (s : State) : (updNbr p st f s).pwr = s.pwr := by unfold updNbr; (repeat' split) <;> rfl
@[simp] theorem updNbr_syn (p st : Nat) (f : Neighbour → Neighbour) (s : State) : (updNbr p st f s).syn = s.syn := by unfold updNbr; (repeat' split) <;> rfl
@[simp] theorem updNbr_tmb (p st : Nat) (f : Neighbour → Neighbour) (s : State) : (updNbr p st f s).tmb = s.tmb := by unfold updNbr; (repeat' split) <;> rfl
@[simp] theorem updNbr_mgmt (p st : Nat) (f : Neighbour → Neighbour) (s : State) : (updNbr p st f s).mgmt = s.mgmt := by unfold updNbr; (repeat' split) <;> rfl
@[simp] theorem updNbr_pods (p st : Nat) (f : Neighbour → Neighbour) (s : State) : (updNbr p st f s).pods = s.pods := by unfold updNbr; (repeat' split) <;> rfl
@[simp] theorem updNbr_own (p st : Nat) (f : Neighbour → Neighbour) (s : State) : (updNbr p st f s).own = s.own := by unfold updNbr; (repeat' split) <;> rfl
@[simp] theorem updNbr_fw (p st : Nat) (f : Neighbour → Neighbour) (s : State) : (updNbr p st f s).fw = s.fw := by unfold updNbr; (repeat' split) <;> rfl
@[simp] theorem updNbr_host (p st : Nat) (f : Neighbour → Neighbour) (s : State) : (updNbr p st f s).host = s.host := by unfold updNbr; (repeat' split) <;> rfl
@[simp] theorem updNbr_evt (p st : Nat) (f : Neighbour → Neighbour) (s : State) : (updNbr p st f s).evt = s.evt := by unfold updNbr; (repeat' split) <;> rfl
@[simp] theorem updNbr_obs (p st : Nat) (f : Neighbour → Neighbour) (s : State) : (updNbr p st f s).obs = s.obs := by unfold updNbr; (repeat' split) <;> rfl
@[simp] theorem updNbr_ports (p st : Nat) (f : Neighbour → Neighbour) (s : State) : (updNbr p st f s).ports = s.ports := by unfold updNbr; (repeat' split) <;> rfl
@[simp] theorem updNbr_lbf (p st : Nat) (f : Neighbour → Neighbour) (s : State) : (updNbr p st f s).lbf = s.lbf := by unfold updNbr; (repeat' split) <;> rfl
@[simp] theorem updNbr_eps (p st : Nat) (f : Neighbour → Neighbour) (s : State) : (updNbr p st f s).eps = s.eps := by unfold updNbr; (repeat' split) <;> rfl
@[simp] theorem updNbr_tm (p st : Nat) (f : Neighbour → Neighbour) (s : State) : (updNbr p st f s).tm = s.tm := by unfold updNbr; (repeat' split) <;> rfl
@[simp] theorem updNbr_canc (p st : Nat) (f : Neighbour → Neighbour) (s : State) : (updNbr p st f s).canc = s.canc := by unfold updNbr; (repeat' split) <;> rfl
@[simp] theorem updNbr_cph (p st : Nat) (f : Neighbour → Neighbour) (s : State) : (updNbr p st f s).cph = s.cph := by unfold updNbr; (repeat' split) <;> rfl
@[simp] theorem updNbr_chk (p st : Nat) (f : Neighbour → Neighbour) (s : State) : (updNbr p st f s).chk = s.chk := by unfold updNbr; (repeat' split) <;> rfl
@[simp] theorem updNbr_trk (p st : Nat) (f : Neighbour → Neighbour) (s : State) : (updNbr p st f s).trk = s.trk := by unfold updNbr; (repeat' split) <;> rfl
@[simp] theorem updNbr_chains (p st : Nat) (f : Neighbour → Neighbour) (s : State) : (updNbr p st f s).chains = s.chains := by unfold updNbr; (repeat' split) <;> rfl
@[simp] theorem updNbr_sns (p st : Nat) (f : Neighbour → Neighbour) (s : State) : (updNbr p st f s).sns = s.sns := by unfold updNbr; (repeat' split) <;> rfl
@[simp] theorem updNbr_sec (p st : Nat) (f : Neighbour → Neighbour) (s : State) : (updNbr p st f s).sec = s.sec := by unfold updNbr; (repeat' split) <;> rfl
@[simp] theorem updNbr_mram (p st : Nat) (f : Neighbour → Neighbour) (s : State) : (updNbr p st f s).mram = s.mram := by unfold updNbr; (repeat' split) <;> rfl
@[simp] theorem updNbr_ddr (p st : Nat) (f : Neighbour → Neighbour) (s : State) : (updNbr p st f s).ddr = s.ddr := by unfold updNbr; (repeat' split) <;> rfl
@[simp] theorem updMac_part (p : Nat) (f : PortMac → PortMac) (s : State) : (updMac p f s).part = s.part := rfl
@[simp] theorem updMac_pending (p : Nat) (f : PortMac → PortMac) (s : State) : (updMac p f s).pending = s.pending := rfl
@[simp] theorem updMac_now (p : Nat) (f : PortMac → PortMac) (s : State) : (updMac p f s).now = s.now := rfl
@[simp] theorem updMac_free (p : Nat) (f : PortMac → PortMac) (s : State) : (updMac p f s).free = s.free := rfl
@[simp] theorem updMac_out (p : Nat) (f : PortMac → PortMac) (s : State) : (updMac p f s).out = s.out := rfl
@[simp] theorem updMac_pwr (p : Nat) (f : PortMac → PortMac) (s : State) : (updMac p f s).pwr = s.pwr := rfl
@[simp] theorem updMac_syn (p : Nat) (f : PortMac → PortMac) (s : State) : (updMac p f s).syn = s.syn := rfl
@[simp] theorem updMac_tmb (p : Nat) (f : PortMac → PortMac) (s : State) : (updMac p f s).tmb = s.tmb := rfl
@[simp] theorem updMac_mgmt (p : Nat) (f : PortMac → PortMac) (s : State) : (updMac p f s).mgmt = s.mgmt := rfl
@[simp] theorem updMac_pods (p : Nat) (f : PortMac → PortMac) (s : State) : (updMac p f s).pods = s.pods := rfl
@[simp] theorem updMac_own (p : Nat) (f : PortMac → PortMac) (s : State) : (updMac p f s).own = s.own := rfl
@[simp] theorem updMac_fw (p : Nat) (f : PortMac → PortMac) (s : State) : (updMac p f s).fw = s.fw := rfl
@[simp] theorem updMac_host (p : Nat) (f : PortMac → PortMac) (s : State) : (updMac p f s).host = s.host := rfl
@[simp] theorem updMac_evt (p : Nat) (f : PortMac → PortMac) (s : State) : (updMac p f s).evt = s.evt := rfl
@[simp] theorem updMac_obs (p : Nat) (f : PortMac → PortMac) (s : State) : (updMac p f s).obs = s.obs := rfl
@[simp] theorem updMac_lbf (p : Nat) (f : PortMac → PortMac) (s : State) : (updMac p f s).lbf = s.lbf := rfl
@[simp] theorem updMac_nbrs (p : Nat) (f : PortMac → PortMac) (s : State) : (updMac p f s).nbrs = s.nbrs := rfl
@[simp] theorem updMac_eps (p : Nat) (f : PortMac → PortMac) (s : State) : (updMac p f s).eps = s.eps := rfl
@[simp] theorem updMac_tm (p : Nat) (f : PortMac → PortMac) (s : State) : (updMac p f s).tm = s.tm := rfl
@[simp] theorem updMac_canc (p : Nat) (f : PortMac → PortMac) (s : State) : (updMac p f s).canc = s.canc := rfl
@[simp] theorem updMac_cph (p : Nat) (f : PortMac → PortMac) (s : State) : (updMac p f s).cph = s.cph := rfl
@[simp] theorem updMac_chk (p : Nat) (f : PortMac → PortMac) (s : State) : (updMac p f s).chk = s.chk := rfl
@[simp] theorem updMac_trk (p : Nat) (f : PortMac → PortMac) (s : State) : (updMac p f s).trk = s.trk := rfl
@[simp] theorem updMac_chains (p : Nat) (f : PortMac → PortMac) (s : State) : (updMac p f s).chains = s.chains := rfl
@[simp] theorem updMac_sns (p : Nat) (f : PortMac → PortMac) (s : State) : (updMac p f s).sns = s.sns := rfl
@[simp] theorem updMac_sec (p : Nat) (f : PortMac → PortMac) (s : State) : (updMac p f s).sec = s.sec := rfl
@[simp] theorem updMac_mram (p : Nat) (f : PortMac → PortMac) (s : State) : (updMac p f s).mram = s.mram := rfl
@[simp] theorem updMac_ddr (p : Nat) (f : PortMac → PortMac) (s : State) : (updMac p f s).ddr = s.ddr := rfl
@[simp] theorem updLine_part (p : Nat) (f : PortLine → PortLine) (s : State) : (updLine p f s).part = s.part := rfl
@[simp] theorem updLine_pending (p : Nat) (f : PortLine → PortLine) (s : State) : (updLine p f s).pending = s.pending := rfl
@[simp] theorem updLine_now (p : Nat) (f : PortLine → PortLine) (s : State) : (updLine p f s).now = s.now := rfl
@[simp] theorem updLine_free (p : Nat) (f : PortLine → PortLine) (s : State) : (updLine p f s).free = s.free := rfl
@[simp] theorem updLine_out (p : Nat) (f : PortLine → PortLine) (s : State) : (updLine p f s).out = s.out := rfl
@[simp] theorem updLine_pwr (p : Nat) (f : PortLine → PortLine) (s : State) : (updLine p f s).pwr = s.pwr := rfl
@[simp] theorem updLine_syn (p : Nat) (f : PortLine → PortLine) (s : State) : (updLine p f s).syn = s.syn := rfl
@[simp] theorem updLine_tmb (p : Nat) (f : PortLine → PortLine) (s : State) : (updLine p f s).tmb = s.tmb := rfl
@[simp] theorem updLine_mgmt (p : Nat) (f : PortLine → PortLine) (s : State) : (updLine p f s).mgmt = s.mgmt := rfl
@[simp] theorem updLine_pods (p : Nat) (f : PortLine → PortLine) (s : State) : (updLine p f s).pods = s.pods := rfl
@[simp] theorem updLine_own (p : Nat) (f : PortLine → PortLine) (s : State) : (updLine p f s).own = s.own := rfl
@[simp] theorem updLine_fw (p : Nat) (f : PortLine → PortLine) (s : State) : (updLine p f s).fw = s.fw := rfl
@[simp] theorem updLine_host (p : Nat) (f : PortLine → PortLine) (s : State) : (updLine p f s).host = s.host := rfl
@[simp] theorem updLine_evt (p : Nat) (f : PortLine → PortLine) (s : State) : (updLine p f s).evt = s.evt := rfl
@[simp] theorem updLine_obs (p : Nat) (f : PortLine → PortLine) (s : State) : (updLine p f s).obs = s.obs := rfl
@[simp] theorem updLine_lbf (p : Nat) (f : PortLine → PortLine) (s : State) : (updLine p f s).lbf = s.lbf := rfl
@[simp] theorem updLine_nbrs (p : Nat) (f : PortLine → PortLine) (s : State) : (updLine p f s).nbrs = s.nbrs := rfl
@[simp] theorem updLine_eps (p : Nat) (f : PortLine → PortLine) (s : State) : (updLine p f s).eps = s.eps := rfl
@[simp] theorem updLine_tm (p : Nat) (f : PortLine → PortLine) (s : State) : (updLine p f s).tm = s.tm := rfl
@[simp] theorem updLine_canc (p : Nat) (f : PortLine → PortLine) (s : State) : (updLine p f s).canc = s.canc := rfl
@[simp] theorem updLine_cph (p : Nat) (f : PortLine → PortLine) (s : State) : (updLine p f s).cph = s.cph := rfl
@[simp] theorem updLine_chk (p : Nat) (f : PortLine → PortLine) (s : State) : (updLine p f s).chk = s.chk := rfl
@[simp] theorem updLine_trk (p : Nat) (f : PortLine → PortLine) (s : State) : (updLine p f s).trk = s.trk := rfl
@[simp] theorem updLine_chains (p : Nat) (f : PortLine → PortLine) (s : State) : (updLine p f s).chains = s.chains := rfl
@[simp] theorem updLine_sns (p : Nat) (f : PortLine → PortLine) (s : State) : (updLine p f s).sns = s.sns := rfl
@[simp] theorem updLine_sec (p : Nat) (f : PortLine → PortLine) (s : State) : (updLine p f s).sec = s.sec := rfl
@[simp] theorem updLine_mram (p : Nat) (f : PortLine → PortLine) (s : State) : (updLine p f s).mram = s.mram := rfl
@[simp] theorem updLine_ddr (p : Nat) (f : PortLine → PortLine) (s : State) : (updLine p f s).ddr = s.ddr := rfl
@[simp] theorem updMains_part (p : Nat) (f : Mains → Mains) (s : State) : (updMains p f s).part = s.part := rfl
@[simp] theorem updMains_pending (p : Nat) (f : Mains → Mains) (s : State) : (updMains p f s).pending = s.pending := rfl
@[simp] theorem updMains_now (p : Nat) (f : Mains → Mains) (s : State) : (updMains p f s).now = s.now := rfl
@[simp] theorem updMains_free (p : Nat) (f : Mains → Mains) (s : State) : (updMains p f s).free = s.free := rfl
@[simp] theorem updMains_out (p : Nat) (f : Mains → Mains) (s : State) : (updMains p f s).out = s.out := rfl
@[simp] theorem updMains_pwr (p : Nat) (f : Mains → Mains) (s : State) : (updMains p f s).pwr = s.pwr := rfl
@[simp] theorem updMains_syn (p : Nat) (f : Mains → Mains) (s : State) : (updMains p f s).syn = s.syn := rfl
@[simp] theorem updMains_tmb (p : Nat) (f : Mains → Mains) (s : State) : (updMains p f s).tmb = s.tmb := rfl
@[simp] theorem updMains_mgmt (p : Nat) (f : Mains → Mains) (s : State) : (updMains p f s).mgmt = s.mgmt := rfl
@[simp] theorem updMains_pods (p : Nat) (f : Mains → Mains) (s : State) : (updMains p f s).pods = s.pods := rfl
@[simp] theorem updMains_own (p : Nat) (f : Mains → Mains) (s : State) : (updMains p f s).own = s.own := rfl
@[simp] theorem updMains_fw (p : Nat) (f : Mains → Mains) (s : State) : (updMains p f s).fw = s.fw := rfl
@[simp] theorem updMains_host (p : Nat) (f : Mains → Mains) (s : State) : (updMains p f s).host = s.host := rfl
@[simp] theorem updMains_evt (p : Nat) (f : Mains → Mains) (s : State) : (updMains p f s).evt = s.evt := rfl
@[simp] theorem updMains_obs (p : Nat) (f : Mains → Mains) (s : State) : (updMains p f s).obs = s.obs := rfl
@[simp] theorem updMains_lbf (p : Nat) (f : Mains → Mains) (s : State) : (updMains p f s).lbf = s.lbf := rfl
@[simp] theorem updMains_nbrs (p : Nat) (f : Mains → Mains) (s : State) : (updMains p f s).nbrs = s.nbrs := rfl
@[simp] theorem updMains_eps (p : Nat) (f : Mains → Mains) (s : State) : (updMains p f s).eps = s.eps := rfl
@[simp] theorem updMains_tm (p : Nat) (f : Mains → Mains) (s : State) : (updMains p f s).tm = s.tm := rfl
@[simp] theorem updMains_canc (p : Nat) (f : Mains → Mains) (s : State) : (updMains p f s).canc = s.canc := rfl
@[simp] theorem updMains_cph (p : Nat) (f : Mains → Mains) (s : State) : (updMains p f s).cph = s.cph := rfl
@[simp] theorem updMains_chk (p : Nat) (f : Mains → Mains) (s : State) : (updMains p f s).chk = s.chk := rfl
@[simp] theorem updMains_trk (p : Nat) (f : Mains → Mains) (s : State) : (updMains p f s).trk = s.trk := rfl
@[simp] theorem updMains_chains (p : Nat) (f : Mains → Mains) (s : State) : (updMains p f s).chains = s.chains := rfl
@[simp] theorem updMains_sns (p : Nat) (f : Mains → Mains) (s : State) : (updMains p f s).sns = s.sns := rfl
@[simp] theorem updMains_sec (p : Nat) (f : Mains → Mains) (s : State) : (updMains p f s).sec = s.sec := rfl
@[simp] theorem updMains_mram (p : Nat) (f : Mains → Mains) (s : State) : (updMains p f s).mram = s.mram := rfl
@[simp] theorem updMains_ddr (p : Nat) (f : Mains → Mains) (s : State) : (updMains p f s).ddr = s.ddr := rfl
@[simp] theorem setPmc_part (n : Nat) (c : Pmc) (s : State) : (setPmc n c s).part = s.part := rfl
@[simp] theorem setPmc_pending (n : Nat) (c : Pmc) (s : State) : (setPmc n c s).pending = s.pending := rfl
@[simp] theorem setPmc_now (n : Nat) (c : Pmc) (s : State) : (setPmc n c s).now = s.now := rfl
@[simp] theorem setPmc_free (n : Nat) (c : Pmc) (s : State) : (setPmc n c s).free = s.free := rfl
@[simp] theorem setPmc_out (n : Nat) (c : Pmc) (s : State) : (setPmc n c s).out = s.out := rfl
@[simp] theorem setPmc_pwr (n : Nat) (c : Pmc) (s : State) : (setPmc n c s).pwr = s.pwr := rfl
@[simp] theorem setPmc_syn (n : Nat) (c : Pmc) (s : State) : (setPmc n c s).syn = s.syn := rfl
@[simp] theorem setPmc_tmb (n : Nat) (c : Pmc) (s : State) : (setPmc n c s).tmb = s.tmb := rfl
@[simp] theorem setPmc_mgmt (n : Nat) (c : Pmc) (s : State) : (setPmc n c s).mgmt = s.mgmt := rfl
@[simp] theorem setPmc_pods (n : Nat) (c : Pmc) (s : State) : (setPmc n c s).pods = s.pods := rfl
@[simp] theorem setPmc_own (n : Nat) (c : Pmc) (s : State) : (setPmc n c s).own = s.own := rfl
@[simp] theorem setPmc_fw (n : Nat) (c : Pmc) (s : State) : (setPmc n c s).fw = s.fw := rfl
@[simp] theorem setPmc_host (n : Nat) (c : Pmc) (s : State) : (setPmc n c s).host = s.host := rfl
@[simp] theorem setPmc_evt (n : Nat) (c : Pmc) (s : State) : (setPmc n c s).evt = s.evt := rfl
@[simp] theorem setPmc_obs (n : Nat) (c : Pmc) (s : State) : (setPmc n c s).obs = { s.obs with ctrs := tset s.obs.ctrs n c } := rfl
@[simp] theorem setPmc_ports (n : Nat) (c : Pmc) (s : State) : (setPmc n c s).ports = s.ports := rfl
@[simp] theorem setPmc_lbf (n : Nat) (c : Pmc) (s : State) : (setPmc n c s).lbf = s.lbf := rfl
@[simp] theorem setPmc_nbrs (n : Nat) (c : Pmc) (s : State) : (setPmc n c s).nbrs = s.nbrs := rfl
@[simp] theorem setPmc_eps (n : Nat) (c : Pmc) (s : State) : (setPmc n c s).eps = s.eps := rfl
@[simp] theorem setPmc_tm (n : Nat) (c : Pmc) (s : State) : (setPmc n c s).tm = s.tm := rfl
@[simp] theorem setPmc_canc (n : Nat) (c : Pmc) (s : State) : (setPmc n c s).canc = s.canc := rfl
@[simp] theorem setPmc_cph (n : Nat) (c : Pmc) (s : State) : (setPmc n c s).cph = s.cph := rfl
@[simp] theorem setPmc_chk (n : Nat) (c : Pmc) (s : State) : (setPmc n c s).chk = s.chk := rfl
@[simp] theorem setPmc_trk (n : Nat) (c : Pmc) (s : State) : (setPmc n c s).trk = s.trk := rfl
@[simp] theorem setPmc_chains (n : Nat) (c : Pmc) (s : State) : (setPmc n c s).chains = s.chains := rfl
@[simp] theorem setPmc_sns (n : Nat) (c : Pmc) (s : State) : (setPmc n c s).sns = s.sns := rfl
@[simp] theorem setPmc_sec (n : Nat) (c : Pmc) (s : State) : (setPmc n c s).sec = s.sec := rfl
@[simp] theorem setPmc_mram (n : Nat) (c : Pmc) (s : State) : (setPmc n c s).mram = s.mram := rfl
@[simp] theorem setPmc_ddr (n : Nat) (c : Pmc) (s : State) : (setPmc n c s).ddr = s.ddr := rfl
@[simp] theorem setTxen_part (p : Nat) (level : Txen) (s : State) : (setTxen p level s).part = s.part := by unfold setTxen; (repeat' split) <;> rfl
@[simp] theorem setTxen_pending (p : Nat) (level : Txen) (s : State) : (setTxen p level s).pending = s.pending := by unfold setTxen; (repeat' split) <;> rfl
@[simp] theorem setTxen_now (p : Nat) (level : Txen) (s : State) : (setTxen p level s).now = s.now := by unfold setTxen; (repeat' split) <;> rfl
@[simp] theorem setTxen_free (p : Nat) (level : Txen) (s : State) : (setTxen p level s).free = s.free := by unfold setTxen; (repeat' split) <;> rfl
@[simp] theorem setTxen_pwr (p : Nat) (level : Txen) (s : State) : (setTxen p level s).pwr = s.pwr := by unfold setTxen; (repeat' split) <;> rfl
@[simp] theorem setTxen_syn (p : Nat) (level : Txen) (s : State) : (setTxen p level s).syn = s.syn := by unfold setTxen; (repeat' split) <;> rfl
@[simp] theorem setTxen_tmb (p : Nat) (level : Txen) (s : State) : (setTxen p level s).tmb = s.tmb := by unfold setTxen; (repeat' split) <;> rfl
@[simp] theorem setTxen_mgmt (p : Nat) (level : Txen) (s : State) : (setTxen p level s).mgmt = s.mgmt := by unfold setTxen; (repeat' split) <;> rfl
@[simp] theorem setTxen_pods (p : Nat) (level : Txen) (s : State) : (setTxen p level s).pods = s.pods := by unfold setTxen; (repeat' split) <;> rfl
@[simp] theorem setTxen_own (p : Nat) (level : Txen) (s : State) : (setTxen p level s).own = s.own := by unfold setTxen; (repeat' split) <;> rfl
@[simp] theorem setTxen_fw (p : Nat) (level : Txen) (s : State) : (setTxen p level s).fw = s.fw := by unfold setTxen; (repeat' split) <;> rfl
@[simp] theorem setTxen_host (p : Nat) (level : Txen) (s : State) : (setTxen p level s).host = s.host := by unfold setTxen; (repeat' split) <;> rfl
@[simp] theorem setTxen_evt (p : Nat) (level : Txen) (s : State) : (setTxen p level s).evt = s.evt := by unfold setTxen; (repeat' split) <;> rfl
@[simp] theorem setTxen_obs (p : Nat) (level : Txen) (s : State) : (setTxen p level s).obs = s.obs := by unfold setTxen; (repeat' split) <;> rfl
@[simp] theorem setTxen_lbf (p : Nat) (level : Txen) (s : State) : (setTxen p level s).lbf = s.lbf := by unfold setTxen; (repeat' split) <;> rfl
@[simp] theorem setTxen_nbrs (p : Nat) (level : Txen) (s : State) : (setTxen p level s).nbrs = s.nbrs := by unfold setTxen; (repeat' split) <;> rfl
@[simp] theorem setTxen_eps (p : Nat) (level : Txen) (s : State) : (setTxen p level s).eps = s.eps := by unfold setTxen; (repeat' split) <;> rfl
@[simp] theorem setTxen_tm (p : Nat) (level : Txen) (s : State) : (setTxen p level s).tm = s.tm := by unfold setTxen; (repeat' split) <;> rfl
@[simp] theorem setTxen_canc (p : Nat) (level : Txen) (s : State) : (setTxen p level s).canc = s.canc := by unfold setTxen; (repeat' split) <;> rfl
@[simp] theorem setTxen_cph (p : Nat) (level : Txen) (s : State) : (setTxen p level s).cph = s.cph := by unfold setTxen; (repeat' split) <;> rfl
@[simp] theorem setTxen_chk (p : Nat) (level : Txen) (s : State) : (setTxen p level s).chk = s.chk := by unfold setTxen; (repeat' split) <;> rfl
@[simp] theorem setTxen_trk (p : Nat) (level : Txen) (s : State) : (setTxen p level s).trk = s.trk := by unfold setTxen; (repeat' split) <;> rfl
@[simp] theorem setTxen_chains (p : Nat) (level : Txen) (s : State) : (setTxen p level s).chains = s.chains := by unfold setTxen; (repeat' split) <;> rfl
@[simp] theorem setTxen_sns (p : Nat) (level : Txen) (s : State) : (setTxen p level s).sns = s.sns := by unfold setTxen; (repeat' split) <;> rfl
@[simp] theorem setTxen_sec (p : Nat) (level : Txen) (s : State) : (setTxen p level s).sec = s.sec := by unfold setTxen; (repeat' split) <;> rfl
@[simp] theorem setTxen_mram (p : Nat) (level : Txen) (s : State) : (setTxen p level s).mram = s.mram := by unfold setTxen; (repeat' split) <;> rfl
@[simp] theorem setTxen_ddr (p : Nat) (level : Txen) (s : State) : (setTxen p level s).ddr = s.ddr := by unfold setTxen; (repeat' split) <;> rfl
@[simp] theorem updEndpoint_part (e : Nat) (f : Endpoint → Endpoint) (s : State) : (updEndpoint e f s).part = s.part := by unfold updEndpoint; (repeat' split) <;> rfl
@[simp] theorem updEndpoint_pending (e : Nat) (f : Endpoint → Endpoint) (s : State) : (updEndpoint e f s).pending = s.pending := by unfold updEndpoint; (repeat' split) <;> rfl
@[simp] theorem updEndpoint_now (e : Nat) (f : Endpoint → Endpoint) (s : State) : (updEndpoint e f s).now = s.now := by unfold updEndpoint; (repeat' split) <;> rfl
@[simp] theorem updEndpoint_free (e : Nat) (f : Endpoint → Endpoint) (s : State) : (updEndpoint e f s).free = s.free := by unfold updEndpoint; (repeat' split) <;> rfl
@[simp] theorem updEndpoint_out (e : Nat) (f : Endpoint → Endpoint) (s : State) : (updEndpoint e f s).out = s.out := by unfold updEndpoint; (repeat' split) <;> rfl
@[simp] theorem updEndpoint_pwr (e : Nat) (f : Endpoint → Endpoint) (s : State) : (updEndpoint e f s).pwr = s.pwr := by unfold updEndpoint; (repeat' split) <;> rfl
@[simp] theorem updEndpoint_syn (e : Nat) (f : Endpoint → Endpoint) (s : State) : (updEndpoint e f s).syn = s.syn := by unfold updEndpoint; (repeat' split) <;> rfl
@[simp] theorem updEndpoint_tmb (e : Nat) (f : Endpoint → Endpoint) (s : State) : (updEndpoint e f s).tmb = s.tmb := by unfold updEndpoint; (repeat' split) <;> rfl
@[simp] theorem updEndpoint_mgmt (e : Nat) (f : Endpoint → Endpoint) (s : State) : (updEndpoint e f s).mgmt = s.mgmt := by unfold updEndpoint; (repeat' split) <;> rfl
@[simp] theorem updEndpoint_pods (e : Nat) (f : Endpoint → Endpoint) (s : State) : (updEndpoint e f s).pods = s.pods := by unfold updEndpoint; (repeat' split) <;> rfl
@[simp] theorem updEndpoint_own (e : Nat) (f : Endpoint → Endpoint) (s : State) : (updEndpoint e f s).own = s.own := by unfold updEndpoint; (repeat' split) <;> rfl
@[simp] theorem updEndpoint_fw (e : Nat) (f : Endpoint → Endpoint) (s : State) : (updEndpoint e f s).fw = s.fw := by unfold updEndpoint; (repeat' split) <;> rfl
@[simp] theorem updEndpoint_host (e : Nat) (f : Endpoint → Endpoint) (s : State) : (updEndpoint e f s).host = s.host := by unfold updEndpoint; (repeat' split) <;> rfl
@[simp] theorem updEndpoint_evt (e : Nat) (f : Endpoint → Endpoint) (s : State) : (updEndpoint e f s).evt = s.evt := by unfold updEndpoint; (repeat' split) <;> rfl
@[simp] theorem updEndpoint_obs (e : Nat) (f : Endpoint → Endpoint) (s : State) : (updEndpoint e f s).obs = s.obs := by unfold updEndpoint; (repeat' split) <;> rfl
@[simp] theorem updEndpoint_ports (e : Nat) (f : Endpoint → Endpoint) (s : State) : (updEndpoint e f s).ports = s.ports := by unfold updEndpoint; (repeat' split) <;> rfl
@[simp] theorem updEndpoint_lbf (e : Nat) (f : Endpoint → Endpoint) (s : State) : (updEndpoint e f s).lbf = s.lbf := by unfold updEndpoint; (repeat' split) <;> rfl
@[simp] theorem updEndpoint_nbrs (e : Nat) (f : Endpoint → Endpoint) (s : State) : (updEndpoint e f s).nbrs = s.nbrs := by unfold updEndpoint; (repeat' split) <;> rfl
@[simp] theorem updEndpoint_tm (e : Nat) (f : Endpoint → Endpoint) (s : State) : (updEndpoint e f s).tm = s.tm := by unfold updEndpoint; (repeat' split) <;> rfl
@[simp] theorem updEndpoint_canc (e : Nat) (f : Endpoint → Endpoint) (s : State) : (updEndpoint e f s).canc = s.canc := by unfold updEndpoint; (repeat' split) <;> rfl
@[simp] theorem updEndpoint_cph (e : Nat) (f : Endpoint → Endpoint) (s : State) : (updEndpoint e f s).cph = s.cph := by unfold updEndpoint; (repeat' split) <;> rfl
@[simp] theorem updEndpoint_chk (e : Nat) (f : Endpoint → Endpoint) (s : State) : (updEndpoint e f s).chk = s.chk := by unfold updEndpoint; (repeat' split) <;> rfl
@[simp] theorem updEndpoint_trk (e : Nat) (f : Endpoint → Endpoint) (s : State) : (updEndpoint e f s).trk = s.trk := by unfold updEndpoint; (repeat' split) <;> rfl
@[simp] theorem updEndpoint_chains (e : Nat) (f : Endpoint → Endpoint) (s : State) : (updEndpoint e f s).chains = s.chains := by unfold updEndpoint; (repeat' split) <;> rfl
@[simp] theorem updEndpoint_sns (e : Nat) (f : Endpoint → Endpoint) (s : State) : (updEndpoint e f s).sns = s.sns := by unfold updEndpoint; (repeat' split) <;> rfl
@[simp] theorem updEndpoint_sec (e : Nat) (f : Endpoint → Endpoint) (s : State) : (updEndpoint e f s).sec = s.sec := by unfold updEndpoint; (repeat' split) <;> rfl
@[simp] theorem updEndpoint_mram (e : Nat) (f : Endpoint → Endpoint) (s : State) : (updEndpoint e f s).mram = s.mram := by unfold updEndpoint; (repeat' split) <;> rfl
@[simp] theorem updEndpoint_ddr (e : Nat) (f : Endpoint → Endpoint) (s : State) : (updEndpoint e f s).ddr = s.ddr := by unfold updEndpoint; (repeat' split) <;> rfl
@[simp] theorem updMap_part (p e dir m : Nat) (f : ToneMap → ToneMap) (s : State) : (updMap p e dir m f s).part = s.part := by unfold updMap; (repeat' split) <;> rfl
@[simp] theorem updMap_pending (p e dir m : Nat) (f : ToneMap → ToneMap) (s : State) : (updMap p e dir m f s).pending = s.pending := by unfold updMap; (repeat' split) <;> rfl
@[simp] theorem updMap_now (p e dir m : Nat) (f : ToneMap → ToneMap) (s : State) : (updMap p e dir m f s).now = s.now := by unfold updMap; (repeat' split) <;> rfl
@[simp] theorem updMap_free (p e dir m : Nat) (f : ToneMap → ToneMap) (s : State) : (updMap p e dir m f s).free = s.free := by unfold updMap; (repeat' split) <;> rfl
@[simp] theorem updMap_out (p e dir m : Nat) (f : ToneMap → ToneMap) (s : State) : (updMap p e dir m f s).out = s.out := by unfold updMap; (repeat' split) <;> rfl
@[simp] theorem updMap_pwr (p e dir m : Nat) (f : ToneMap → ToneMap) (s : State) : (updMap p e dir m f s).pwr = s.pwr := by unfold updMap; (repeat' split) <;> rfl
@[simp] theorem updMap_syn (p e dir m : Nat) (f : ToneMap → ToneMap) (s : State) : (updMap p e dir m f s).syn = s.syn := by unfold updMap; (repeat' split) <;> rfl
@[simp] theorem updMap_tmb (p e dir m : Nat) (f : ToneMap → ToneMap) (s : State) : (updMap p e dir m f s).tmb = s.tmb := by unfold updMap; (repeat' split) <;> rfl
@[simp] theorem updMap_mgmt (p e dir m : Nat) (f : ToneMap → ToneMap) (s : State) : (updMap p e dir m f s).mgmt = s.mgmt := by unfold updMap; (repeat' split) <;> rfl
@[simp] theorem updMap_pods (p e dir m : Nat) (f : ToneMap → ToneMap) (s : State) : (updMap p e dir m f s).pods = s.pods := by unfold updMap; (repeat' split) <;> rfl
@[simp] theorem updMap_own (p e dir m : Nat) (f : ToneMap → ToneMap) (s : State) : (updMap p e dir m f s).own = s.own := by unfold updMap; (repeat' split) <;> rfl
@[simp] theorem updMap_fw (p e dir m : Nat) (f : ToneMap → ToneMap) (s : State) : (updMap p e dir m f s).fw = s.fw := by unfold updMap; (repeat' split) <;> rfl
@[simp] theorem updMap_host (p e dir m : Nat) (f : ToneMap → ToneMap) (s : State) : (updMap p e dir m f s).host = s.host := by unfold updMap; (repeat' split) <;> rfl
@[simp] theorem updMap_evt (p e dir m : Nat) (f : ToneMap → ToneMap) (s : State) : (updMap p e dir m f s).evt = s.evt := by unfold updMap; (repeat' split) <;> rfl
@[simp] theorem updMap_obs (p e dir m : Nat) (f : ToneMap → ToneMap) (s : State) : (updMap p e dir m f s).obs = s.obs := by unfold updMap; (repeat' split) <;> rfl
@[simp] theorem updMap_ports (p e dir m : Nat) (f : ToneMap → ToneMap) (s : State) : (updMap p e dir m f s).ports = s.ports := by unfold updMap; (repeat' split) <;> rfl
@[simp] theorem updMap_lbf (p e dir m : Nat) (f : ToneMap → ToneMap) (s : State) : (updMap p e dir m f s).lbf = s.lbf := by unfold updMap; (repeat' split) <;> rfl
@[simp] theorem updMap_nbrs (p e dir m : Nat) (f : ToneMap → ToneMap) (s : State) : (updMap p e dir m f s).nbrs = s.nbrs := by unfold updMap; (repeat' split) <;> rfl
@[simp] theorem updMap_eps (p e dir m : Nat) (f : ToneMap → ToneMap) (s : State) : (updMap p e dir m f s).eps = s.eps := by unfold updMap; (repeat' split) <;> rfl
@[simp] theorem updMap_canc (p e dir m : Nat) (f : ToneMap → ToneMap) (s : State) : (updMap p e dir m f s).canc = s.canc := by unfold updMap; (repeat' split) <;> rfl
@[simp] theorem updMap_cph (p e dir m : Nat) (f : ToneMap → ToneMap) (s : State) : (updMap p e dir m f s).cph = s.cph := by unfold updMap; (repeat' split) <;> rfl
@[simp] theorem updMap_chk (p e dir m : Nat) (f : ToneMap → ToneMap) (s : State) : (updMap p e dir m f s).chk = s.chk := by unfold updMap; (repeat' split) <;> rfl
@[simp] theorem updMap_trk (p e dir m : Nat) (f : ToneMap → ToneMap) (s : State) : (updMap p e dir m f s).trk = s.trk := by unfold updMap; (repeat' split) <;> rfl
@[simp] theorem updMap_chains (p e dir m : Nat) (f : ToneMap → ToneMap) (s : State) : (updMap p e dir m f s).chains = s.chains := by unfold updMap; (repeat' split) <;> rfl
@[simp] theorem updMap_sns (p e dir m : Nat) (f : ToneMap → ToneMap) (s : State) : (updMap p e dir m f s).sns = s.sns := by unfold updMap; (repeat' split) <;> rfl
@[simp] theorem updMap_sec (p e dir m : Nat) (f : ToneMap → ToneMap) (s : State) : (updMap p e dir m f s).sec = s.sec := by unfold updMap; (repeat' split) <;> rfl
@[simp] theorem updMap_mram (p e dir m : Nat) (f : ToneMap → ToneMap) (s : State) : (updMap p e dir m f s).mram = s.mram := by unfold updMap; (repeat' split) <;> rfl
@[simp] theorem updMap_ddr (p e dir m : Nat) (f : ToneMap → ToneMap) (s : State) : (updMap p e dir m f s).ddr = s.ddr := by unfold updMap; (repeat' split) <;> rfl
@[simp] theorem setI2cPort_part (i : Nat) (x : I2cPort) (s : State) : (setI2cPort i x s).part = s.part := rfl
@[simp] theorem setI2cPort_pending (i : Nat) (x : I2cPort) (s : State) : (setI2cPort i x s).pending = s.pending := rfl
@[simp] theorem setI2cPort_now (i : Nat) (x : I2cPort) (s : State) : (setI2cPort i x s).now = s.now := rfl
@[simp] theorem setI2cPort_free (i : Nat) (x : I2cPort) (s : State) : (setI2cPort i x s).free = s.free := rfl
@[simp] theorem setI2cPort_out (i : Nat) (x : I2cPort) (s : State) : (setI2cPort i x s).out = s.out := rfl
@[simp] theorem setI2cPort_pwr (i : Nat) (x : I2cPort) (s : State) : (setI2cPort i x s).pwr = s.pwr := rfl
@[simp] theorem setI2cPort_syn (i : Nat) (x : I2cPort) (s : State) : (setI2cPort i x s).syn = s.syn := rfl
@[simp] theorem setI2cPort_tmb (i : Nat) (x : I2cPort) (s : State) : (setI2cPort i x s).tmb = s.tmb := rfl
@[simp] theorem setI2cPort_mgmt (i : Nat) (x : I2cPort) (s : State) : (setI2cPort i x s).mgmt = s.mgmt := rfl
@[simp] theorem setI2cPort_pods (i : Nat) (x : I2cPort) (s : State) : (setI2cPort i x s).pods = s.pods := rfl
@[simp] theorem setI2cPort_own (i : Nat) (x : I2cPort) (s : State) : (setI2cPort i x s).own = s.own := rfl
@[simp] theorem setI2cPort_fw (i : Nat) (x : I2cPort) (s : State) : (setI2cPort i x s).fw = s.fw := rfl
@[simp] theorem setI2cPort_host (i : Nat) (x : I2cPort) (s : State) : (setI2cPort i x s).host = s.host := rfl
@[simp] theorem setI2cPort_evt (i : Nat) (x : I2cPort) (s : State) : (setI2cPort i x s).evt = s.evt := rfl
@[simp] theorem setI2cPort_obs (i : Nat) (x : I2cPort) (s : State) : (setI2cPort i x s).obs = s.obs := rfl
@[simp] theorem setI2cPort_ports (i : Nat) (x : I2cPort) (s : State) : (setI2cPort i x s).ports = s.ports := rfl
@[simp] theorem setI2cPort_lbf (i : Nat) (x : I2cPort) (s : State) : (setI2cPort i x s).lbf = s.lbf := rfl
@[simp] theorem setI2cPort_nbrs (i : Nat) (x : I2cPort) (s : State) : (setI2cPort i x s).nbrs = s.nbrs := rfl
@[simp] theorem setI2cPort_eps (i : Nat) (x : I2cPort) (s : State) : (setI2cPort i x s).eps = s.eps := rfl
@[simp] theorem setI2cPort_tm (i : Nat) (x : I2cPort) (s : State) : (setI2cPort i x s).tm = s.tm := rfl
@[simp] theorem setI2cPort_canc (i : Nat) (x : I2cPort) (s : State) : (setI2cPort i x s).canc = s.canc := rfl
@[simp] theorem setI2cPort_cph (i : Nat) (x : I2cPort) (s : State) : (setI2cPort i x s).cph = s.cph := rfl
@[simp] theorem setI2cPort_chk (i : Nat) (x : I2cPort) (s : State) : (setI2cPort i x s).chk = s.chk := rfl
@[simp] theorem setI2cPort_trk (i : Nat) (x : I2cPort) (s : State) : (setI2cPort i x s).trk = s.trk := rfl
@[simp] theorem setI2cPort_chains (i : Nat) (x : I2cPort) (s : State) : (setI2cPort i x s).chains = s.chains := rfl
@[simp] theorem setI2cPort_sns (i : Nat) (x : I2cPort) (s : State) : (setI2cPort i x s).sns = { s.sns with i2c := tset s.sns.i2c i x } := rfl
@[simp] theorem setI2cPort_sec (i : Nat) (x : I2cPort) (s : State) : (setI2cPort i x s).sec = s.sec := rfl
@[simp] theorem setI2cPort_mram (i : Nat) (x : I2cPort) (s : State) : (setI2cPort i x s).mram = s.mram := rfl
@[simp] theorem setI2cPort_ddr (i : Nat) (x : I2cPort) (s : State) : (setI2cPort i x s).ddr = s.ddr := rfl
@[simp] theorem setPdGroup_part (g : Nat) (x : PdGroup) (s : State) : (setPdGroup g x s).part = s.part := rfl
@[simp] theorem setPdGroup_pending (g : Nat) (x : PdGroup) (s : State) : (setPdGroup g x s).pending = s.pending := rfl
@[simp] theorem setPdGroup_now (g : Nat) (x : PdGroup) (s : State) : (setPdGroup g x s).now = s.now := rfl
@[simp] theorem setPdGroup_free (g : Nat) (x : PdGroup) (s : State) : (setPdGroup g x s).free = s.free := rfl
@[simp] theorem setPdGroup_out (g : Nat) (x : PdGroup) (s : State) : (setPdGroup g x s).out = s.out := rfl
@[simp] theorem setPdGroup_pwr (g : Nat) (x : PdGroup) (s : State) : (setPdGroup g x s).pwr = s.pwr := rfl
@[simp] theorem setPdGroup_syn (g : Nat) (x : PdGroup) (s : State) : (setPdGroup g x s).syn = s.syn := rfl
@[simp] theorem setPdGroup_tmb (g : Nat) (x : PdGroup) (s : State) : (setPdGroup g x s).tmb = s.tmb := rfl
@[simp] theorem setPdGroup_mgmt (g : Nat) (x : PdGroup) (s : State) : (setPdGroup g x s).mgmt = s.mgmt := rfl
@[simp] theorem setPdGroup_pods (g : Nat) (x : PdGroup) (s : State) : (setPdGroup g x s).pods = s.pods := rfl
@[simp] theorem setPdGroup_own (g : Nat) (x : PdGroup) (s : State) : (setPdGroup g x s).own = s.own := rfl
@[simp] theorem setPdGroup_fw (g : Nat) (x : PdGroup) (s : State) : (setPdGroup g x s).fw = s.fw := rfl
@[simp] theorem setPdGroup_host (g : Nat) (x : PdGroup) (s : State) : (setPdGroup g x s).host = s.host := rfl
@[simp] theorem setPdGroup_evt (g : Nat) (x : PdGroup) (s : State) : (setPdGroup g x s).evt = s.evt := rfl
@[simp] theorem setPdGroup_obs (g : Nat) (x : PdGroup) (s : State) : (setPdGroup g x s).obs = s.obs := rfl
@[simp] theorem setPdGroup_ports (g : Nat) (x : PdGroup) (s : State) : (setPdGroup g x s).ports = s.ports := rfl
@[simp] theorem setPdGroup_lbf (g : Nat) (x : PdGroup) (s : State) : (setPdGroup g x s).lbf = s.lbf := rfl
@[simp] theorem setPdGroup_nbrs (g : Nat) (x : PdGroup) (s : State) : (setPdGroup g x s).nbrs = s.nbrs := rfl
@[simp] theorem setPdGroup_eps (g : Nat) (x : PdGroup) (s : State) : (setPdGroup g x s).eps = s.eps := rfl
@[simp] theorem setPdGroup_tm (g : Nat) (x : PdGroup) (s : State) : (setPdGroup g x s).tm = s.tm := rfl
@[simp] theorem setPdGroup_canc (g : Nat) (x : PdGroup) (s : State) : (setPdGroup g x s).canc = s.canc := rfl
@[simp] theorem setPdGroup_cph (g : Nat) (x : PdGroup) (s : State) : (setPdGroup g x s).cph = s.cph := rfl
@[simp] theorem setPdGroup_chk (g : Nat) (x : PdGroup) (s : State) : (setPdGroup g x s).chk = s.chk := rfl
@[simp] theorem setPdGroup_trk (g : Nat) (x : PdGroup) (s : State) : (setPdGroup g x s).trk = s.trk := rfl
@[simp] theorem setPdGroup_chains (g : Nat) (x : PdGroup) (s : State) : (setPdGroup g x s).chains = s.chains := rfl
@[simp] theorem setPdGroup_sns (g : Nat) (x : PdGroup) (s : State) : (setPdGroup g x s).sns = { s.sns with groups := tset s.sns.groups g x } := rfl
@[simp] theorem setPdGroup_sec (g : Nat) (x : PdGroup) (s : State) : (setPdGroup g x s).sec = s.sec := rfl
@[simp] theorem setPdGroup_mram (g : Nat) (x : PdGroup) (s : State) : (setPdGroup g x s).mram = s.mram := rfl
@[simp] theorem setPdGroup_ddr (g : Nat) (x : PdGroup) (s : State) : (setPdGroup g x s).ddr = s.ddr := rfl
@[simp] theorem setSlot_part (page slot : Nat) (k : Option Key) (s : State) : (setSlot page slot k s).part = s.part := by unfold setSlot; (repeat' split) <;> rfl
@[simp] theorem setSlot_pending (page slot : Nat) (k : Option Key) (s : State) : (setSlot page slot k s).pending = s.pending := by unfold setSlot; (repeat' split) <;> rfl
@[simp] theorem setSlot_now (page slot : Nat) (k : Option Key) (s : State) : (setSlot page slot k s).now = s.now := by unfold setSlot; (repeat' split) <;> rfl
@[simp] theorem setSlot_free (page slot : Nat) (k : Option Key) (s : State) : (setSlot page slot k s).free = s.free := by unfold setSlot; (repeat' split) <;> rfl
@[simp] theorem setSlot_out (page slot : Nat) (k : Option Key) (s : State) : (setSlot page slot k s).out = s.out := by unfold setSlot; (repeat' split) <;> rfl
@[simp] theorem setSlot_pwr (page slot : Nat) (k : Option Key) (s : State) : (setSlot page slot k s).pwr = s.pwr := by unfold setSlot; (repeat' split) <;> rfl
@[simp] theorem setSlot_syn (page slot : Nat) (k : Option Key) (s : State) : (setSlot page slot k s).syn = s.syn := by unfold setSlot; (repeat' split) <;> rfl
@[simp] theorem setSlot_tmb (page slot : Nat) (k : Option Key) (s : State) : (setSlot page slot k s).tmb = s.tmb := by unfold setSlot; (repeat' split) <;> rfl
@[simp] theorem setSlot_mgmt (page slot : Nat) (k : Option Key) (s : State) : (setSlot page slot k s).mgmt = s.mgmt := by unfold setSlot; (repeat' split) <;> rfl
@[simp] theorem setSlot_pods (page slot : Nat) (k : Option Key) (s : State) : (setSlot page slot k s).pods = s.pods := by unfold setSlot; (repeat' split) <;> rfl
@[simp] theorem setSlot_own (page slot : Nat) (k : Option Key) (s : State) : (setSlot page slot k s).own = s.own := by unfold setSlot; (repeat' split) <;> rfl
@[simp] theorem setSlot_fw (page slot : Nat) (k : Option Key) (s : State) : (setSlot page slot k s).fw = s.fw := by unfold setSlot; (repeat' split) <;> rfl
@[simp] theorem setSlot_host (page slot : Nat) (k : Option Key) (s : State) : (setSlot page slot k s).host = s.host := by unfold setSlot; (repeat' split) <;> rfl
@[simp] theorem setSlot_evt (page slot : Nat) (k : Option Key) (s : State) : (setSlot page slot k s).evt = s.evt := by unfold setSlot; (repeat' split) <;> rfl
@[simp] theorem setSlot_obs (page slot : Nat) (k : Option Key) (s : State) : (setSlot page slot k s).obs = s.obs := by unfold setSlot; (repeat' split) <;> rfl
@[simp] theorem setSlot_ports (page slot : Nat) (k : Option Key) (s : State) : (setSlot page slot k s).ports = s.ports := by unfold setSlot; (repeat' split) <;> rfl
@[simp] theorem setSlot_lbf (page slot : Nat) (k : Option Key) (s : State) : (setSlot page slot k s).lbf = s.lbf := by unfold setSlot; (repeat' split) <;> rfl
@[simp] theorem setSlot_nbrs (page slot : Nat) (k : Option Key) (s : State) : (setSlot page slot k s).nbrs = s.nbrs := by unfold setSlot; (repeat' split) <;> rfl
@[simp] theorem setSlot_eps (page slot : Nat) (k : Option Key) (s : State) : (setSlot page slot k s).eps = s.eps := by unfold setSlot; (repeat' split) <;> rfl
@[simp] theorem setSlot_tm (page slot : Nat) (k : Option Key) (s : State) : (setSlot page slot k s).tm = s.tm := by unfold setSlot; (repeat' split) <;> rfl
@[simp] theorem setSlot_canc (page slot : Nat) (k : Option Key) (s : State) : (setSlot page slot k s).canc = s.canc := by unfold setSlot; (repeat' split) <;> rfl
@[simp] theorem setSlot_chk (page slot : Nat) (k : Option Key) (s : State) : (setSlot page slot k s).chk = s.chk := by unfold setSlot; (repeat' split) <;> rfl
@[simp] theorem setSlot_trk (page slot : Nat) (k : Option Key) (s : State) : (setSlot page slot k s).trk = s.trk := by unfold setSlot; (repeat' split) <;> rfl
@[simp] theorem setSlot_chains (page slot : Nat) (k : Option Key) (s : State) : (setSlot page slot k s).chains = s.chains := by unfold setSlot; (repeat' split) <;> rfl
@[simp] theorem setSlot_sns (page slot : Nat) (k : Option Key) (s : State) : (setSlot page slot k s).sns = s.sns := by unfold setSlot; (repeat' split) <;> rfl
@[simp] theorem setSlot_sec (page slot : Nat) (k : Option Key) (s : State) : (setSlot page slot k s).sec = s.sec := by unfold setSlot; (repeat' split) <;> rfl
@[simp] theorem setSlot_mram (page slot : Nat) (k : Option Key) (s : State) : (setSlot page slot k s).mram = s.mram := by unfold setSlot; (repeat' split) <;> rfl
@[simp] theorem setSlot_ddr (page slot : Nat) (k : Option Key) (s : State) : (setSlot page slot k s).ddr = s.ddr := by unfold setSlot; (repeat' split) <;> rfl

end Sys2Proof.Machine
end

