-- ==== Sys2Proof/Laws/Report.lean ====
section
/-! SUPPORT. What reporting leaves unchanged: events, counters, trace, records and messages touch only their own state (the mailbox lanes,
the event rings, the counters, the trace and the outputs). -/

namespace Sys2Proof.Machine

/-- Everything that reporting leaves unchanged. -/
structure Calm where
  part : Part
  pending : List Instr
  now : Nat
  free : Nat
  pwr : Power
  syn : Synths
  tmb : Timebase
  pods : Table Pod
  own : Owners
  fw : Firewall
  ports : Table Port
  lbf : LinkBuf
  nbrs : Table Neighbour
  eps : Table Endpoint
  tm : ToneMaps
  canc : Canceller
  cph : Cipher
  chk : Table ChkCtx
  trk : Trunk
  chains : Table Chain
  sns : Sensing
  sec : Sec
  mram : Mram
  ddr : List Host.Cell
  linkUp : Bool
  vfEnable : Bool
  numVfs : Nat
  bmeOff : List Nat
  msix : Table MsixEntry

/-- What reporting leaves unchanged, of a state. -/
def State.calm (s : State) : Calm :=
  { part := s.part, pending := s.pending, now := s.now, free := s.free, pwr := s.pwr, syn := s.syn, tmb := s.tmb, pods := s.pods, own := s.own, fw := s.fw, ports := s.ports, lbf := s.lbf, nbrs := s.nbrs, eps := s.eps, tm := s.tm, canc := s.canc, cph := s.cph, chk := s.chk, trk := s.trk, chains := s.chains, sns := s.sns, sec := s.sec, mram := s.mram, ddr := s.ddr,
    linkUp := s.host.linkUp, vfEnable := s.host.vfEnable, numVfs := s.host.numVfs, bmeOff := s.host.bmeOff, msix := s.host.msix }

@[simp] theorem calm_mk (x : State) out mgmt evt obs :
    (State.mk x.part x.pending x.now x.free out x.pwr x.syn x.tmb mgmt x.pods x.own x.fw x.host evt obs x.ports x.lbf x.nbrs x.eps x.tm x.canc x.cph x.chk x.trk x.chains x.sns x.sec x.mram x.ddr).calm = x.calm := rfl

@[simp] theorem calm_mk_host (x : State) out mgmt evt obs p d :
    (State.mk x.part x.pending x.now x.free out x.pwr x.syn x.tmb mgmt x.pods x.own x.fw (HostIf.mk x.host.linkUp x.host.vfEnable x.host.numVfs x.host.bmeOff x.host.msix p d) evt obs x.ports x.lbf x.nbrs x.eps x.tm x.canc x.cph x.chk x.trk x.chains x.sns x.sec x.mram x.ddr).calm = x.calm := rfl

/-- The calm of a choice between two states. -/
@[simp] theorem calm_ite (p : Prop) [Decidable p] (a b : State) :
    (if p then a else b).calm = if p then a.calm else b.calm := by split <;> rfl

/-- The calm of a choice, as a rule to apply. -/
theorem calm_if {s a b : State} {p : Prop} [Decidable p] (ha : a.calm = s.calm) (hb : b.calm = s.calm) :
    (if p then a else b).calm = s.calm := by split <;> assumption

/-- A fold of operations that leave the calm leaves it. -/
@[simp] theorem foldl_calm {α : Type} (f : State → α → State) (h : ∀ s x, (f s x).calm = s.calm) (l : List α) (s : State) :
    (l.foldl f s).calm = s.calm := by
  induction l generalizing s with
  | nil => rfl
  | cons x l ih => rw [List.foldl_cons, ih, h]

/-- The first part of a pair that an operation answers. -/
theorem calm_of_pair {β : Type} {s t : State} {p : State × β} {b : β} (h : p = (t, b)) (k : p.1.calm = s.calm) :
    t.calm = s.calm := by rw [h] at k; exact k

@[simp] theorem emit_calm (o : Output) (s : State) :
    (emit o s).calm = s.calm := by
  simp [emit]

@[simp] theorem setMbxLane_calm (pod l : Nat) (x : MbxLane) (s : State) :
    (setMbxLane pod l x s).calm = s.calm := by
  simp [setMbxLane]

@[simp] theorem updMbxLane_calm (pod l : Nat) (f : MbxLane → MbxLane) (s : State) :
    (updMbxLane pod l f s).calm = s.calm := by
  simp [updMbxLane]

@[simp] theorem bump_calm (id n : Nat) (s : State) :
    (bump id n s).calm = s.calm := by
  unfold bump; (repeat' split) <;> simp <;> (repeat' split) <;> simp

@[simp] theorem pmcCount_calm (code : Nat) (a : Attr) (n : Nat) (s : State) :
    (pmcCount code a n s).1.calm = s.calm := by
  simp [pmcCount]

@[simp] theorem sendMsix_calm (fn v : Nat) (s : State) :
    (sendMsix fn v s).calm = s.calm := by
  unfold sendMsix; (repeat' split) <;> simp

theorem ddrAccept_calm (type : Nat) (payload : List Word) (s : State) (t : State) (h : (ddrAccept type payload s) = some t) :
    t.calm = s.calm := by
  unfold ddrAccept at h
  simp only [] at h
  split at h
  · cases h; simp
  · split at h
    · split at h
      · cases h
      · cases h; simp
    · cases h

@[simp] theorem portAccept_calm (type : Nat) (payload : List Word) (s : State) :
    (portAccept type payload s).calm = s.calm := by
  simp [portAccept]

@[simp] theorem ddrDrop_calm (source : Nat) (s : State) :
    (ddrDrop source s).calm = s.calm := by
  simp [ddrDrop]

@[simp] theorem ddrFeed_calm (source type : Nat) (payload : List Word) (s : State) :
    (ddrFeed source type payload s).calm = s.calm := by
  unfold ddrFeed
  simp only []
  split
  · rename_i s' h
    obtain ⟨u, hu, ht⟩ := Option.bind_eq_some_iff.1 h
    rw [ddrAccept_calm _ _ _ _ ht]
    split at hu
    · cases hu; rfl
    · obtain ⟨w, hw, rfl⟩ := Option.map_eq_some_iff.1 hu
      simpa using ddrAccept_calm _ _ _ _ hw
  · simp

@[simp] theorem portFeed_calm (source type : Nat) (payload : List Word) (s : State) :
    (portFeed source type payload s).calm = s.calm := by
  unfold portFeed; (repeat' split) <;> simp <;> (repeat' split) <;> simp

@[simp] theorem traceFeed_calm (source type : Nat) (payload : List Word) (s : State) :
    (traceFeed source type payload s).calm = s.calm := by
  unfold traceFeed; (repeat' split) <;> simp <;> (repeat' split) <;> simp

@[simp] theorem traceTime_calm (s : State) :
    (traceTime s).calm = s.calm := by
  unfold traceTime; (repeat' split) <;> simp <;> (repeat' split) <;> simp

@[simp] theorem updEvtRing_calm (fn : Nat) (f : EvtRing → EvtRing) (s : State) :
    (updEvtRing fn f s).calm = s.calm := by
  simp [updEvtRing]

@[simp] theorem ringDrop_calm (fn : Nat) (s : State) :
    (ringDrop fn s).calm = s.calm := by
  simp [ringDrop]

@[simp] theorem noteRec_calm (r : EventRec) (s : State) :
    (noteRec r s).calm = s.calm := by
  simp [noteRec]

@[simp] theorem routeRec_calm (r : EventRec) (s : State) :
    (routeRec r s).1.calm = s.calm := by
  unfold routeRec; (repeat' split) <;> simp <;> (repeat' split) <;> simp

@[simp] theorem accumulate_calm (r : EventRec) (s : State) :
    (accumulate r s).calm = s.calm := by
  simp [accumulate]

@[simp] theorem startWindow_calm (source cause : Nat) (s : State) :
    (startWindow source cause s).calm = s.calm := by
  unfold startWindow; (repeat' split) <;> simp <;> (repeat' split) <;> simp

@[simp] theorem issueF_calm  (z0 : Nat) (z1 : EventRec) (z2 : State) :
    (issueF z0 z1 z2).calm = z2.calm := by
  induction z0 generalizing z1 z2 with
  | zero => simp [issueF]
  | succ f ih =>
    unfold issueF
    split
    rename_i s faulted ovf h
    have k : s.calm = z2.calm := by simpa using calm_of_pair h (routeRec_calm _ _)
    refine (foldl_calm _ ?_ _ _).trans ?_
    · intro s x
      simp only []
      split <;> simp [ih]
    · simp only []
      split
      · split <;> simp [ih, k]
      · exact k

@[simp] theorem issueRec_calm (r : EventRec) (s : State) :
    (issueRec r s).calm = s.calm := by
  simp [issueRec]

@[simp] theorem raiseRec_calm (r : EventRec) (s : State) :
    (raiseRec r s).calm = s.calm := by
  unfold raiseRec; (repeat' split) <;> simp

@[simp] theorem raise_calm (source cause arg0 arg1 : Nat) (s : State) :
    (raise source cause arg0 arg1 s).calm = s.calm := by
  simp [raise]

@[simp] theorem raiseSys_calm (e cause arg0 arg1 : Nat) (s : State) :
    (raiseSys e cause arg0 arg1 s).calm = s.calm := by
  simp [raiseSys]

@[simp] theorem raisePort_calm (p e cause arg0 arg1 : Nat) (s : State) :
    (raisePort p e cause arg0 arg1 s).calm = s.calm := by
  simp [raisePort]

@[simp] theorem raiseTrunk_calm (n e cause arg0 arg1 : Nat) (s : State) :
    (raiseTrunk n e cause arg0 arg1 s).calm = s.calm := by
  simp [raiseTrunk]

@[simp] theorem raiseSense_calm (e cause arg0 arg1 : Nat) (s : State) :
    (raiseSense e cause arg0 arg1 s).calm = s.calm := by
  simp [raiseSense]

@[simp] theorem count_calm (code : Nat) (a : Attr) (n : Nat) (s : State) :
    (count code a n s).calm = s.calm := by
  unfold count
  split
  rename_i u ovf h
  exact (foldl_calm _ (fun _ _ => raiseSys_calm ..) _ _).trans (calm_of_pair h (pmcCount_calm _ _ _ _))

@[simp] theorem hostWrite_calm (fn addr : Nat) (data : Bytes) (s : State) :
    (hostWrite fn addr data s).calm = s.calm := by
  simp [hostWrite]

@[simp] theorem deliverVector_calm (fn : Nat) (s : State) :
    (deliverVector fn s).calm = s.calm := by
  unfold deliverVector; (repeat' split) <;> simp <;> (repeat' split) <;> simp

@[simp] theorem ringPut_calm (r : RingAt) (prod : Nat) (data : Bytes) (s : State) :
    (ringPut r prod data s).calm = s.calm := by
  unfold ringPut; (repeat' split) <;> simp <;> (repeat' split) <;> simp

@[simp] theorem ringWrite_calm (r : RingAt) (prod cons : Nat) (data : Bytes) (consumer : Option Nat) (s : State) :
    (ringWrite r prod cons data consumer s).1.calm = s.calm := by
  unfold ringWrite; (repeat' split) <;> simp <;> (repeat' split) <;> simp

@[simp] theorem flushWindows_calm (source : Nat) (s : State) :
    (flushWindows source s).calm = s.calm := by
  unfold flushWindows; (repeat' split) <;> (try simp) <;> (apply foldl_calm; intro s x; (repeat' split) <;> simp)

@[simp] theorem resetSource_calm (source : Nat) (s : State) :
    (resetSource source s).calm = s.calm := by
  simp [resetSource]

@[simp] theorem resetSources_calm (l : List Nat) (s : State) :
    (resetSources l s).calm = s.calm := by
  unfold resetSources; (repeat' split) <;> (try simp) <;> (apply foldl_calm; intro s x; (repeat' split) <;> simp)

@[simp] theorem mbxFault_calm (pod l : Nat) (s : State) :
    (mbxFault pod l s).calm = s.calm := by
  simp [mbxFault]

theorem writeRecord_calm (pod l : Nat) (r : Bytes) (raiseIt : Bool) (s : State) (t : State) (h : (writeRecord pod l r raiseIt s) = some t) :
    t.calm = s.calm := by
  unfold writeRecord at h; (repeat' split at h) <;> simp at h <;> (try subst h) <;> simp

@[simp] theorem postRecord_calm (pod l : Nat) (r : Bytes) (raiseIt : Bool) (s : State) :
    (postRecord pod l r raiseIt s).calm = s.calm := by
  unfold postRecord
  simp only []
  split
  · simp
  · split
    · rename_i h; exact writeRecord_calm _ _ _ _ _ _ h
    · simp

@[simp] theorem writeResponse_calm (c : Caller) (resp : Bytes) (s : State) :
    (writeResponse c resp s).1.calm = s.calm := by
  unfold writeResponse; (repeat' split) <;> (try simp) <;> (apply foldl_calm; intro s x; (repeat' split) <;> simp)

@[simp] theorem forget_calm (c : Caller) (s : State) :
    (forget c s).calm = s.calm := by
  simp [forget]

@[simp] theorem completeNow_calm (c : Caller) (st : Status) (resp : Bytes) (s : State) :
    (completeNow c st resp s).calm = s.calm := by
  unfold completeNow; simp only []; (repeat' split) <;> (try (rename_i heq; have e := congrArg (fun p => p.1.calm) heq; simp at e)) <;> simp_all

@[simp] theorem mirrorConfig_calm (k : Cmd) (st : Status) (s : State) :
    (mirrorConfig k st s).calm = s.calm := by
  unfold mirrorConfig; (repeat' split) <;> simp

@[simp] theorem mirrorHeld_calm (c : Caller) (st : Status) (s : State) :
    (mirrorHeld c st s).calm = s.calm := by
  unfold mirrorHeld; (repeat' split) <;> simp

@[simp] theorem complete_calm (c : Caller) (st : Status) (resp : Bytes) (s : State) :
    (complete c st resp s).calm = s.calm := by
  unfold complete; (repeat' split) <;> simp <;> (repeat' split) <;> simp

@[simp] theorem completeStatus_calm (c : Caller) (st : Status) (s : State) :
    (completeStatus c st s).calm = s.calm := by
  simp [completeStatus]

@[simp] theorem deliverNotice_calm (c : Caller) (n : Notice) (s : State) :
    (deliverNotice c n s).calm = s.calm := by
  simp [deliverNotice]

@[simp] theorem notify_calm (pod l code : Nat) (body : Bytes) (s : State) :
    (notify pod l code body s).calm = s.calm := by
  unfold notify; (repeat' split) <;> simp <;> (repeat' split) <;> simp

@[simp] theorem answer_calm (st : Status) (s : State) :
    (answer st s).1.calm = s.calm := by
  simp [answer]

@[simp] theorem hold_calm (fm : Form) (c : Caller) (req : Bytes) (committed : Bool) (s : State) :
    (hold fm c req committed s).calm = s.calm := by
  simp [hold]

@[simp] theorem putWaiting_calm (fm : Form) (c : Caller) (req : Bytes) (s : State) :
    (putWaiting fm c req s).calm = s.calm := by
  unfold putWaiting; (repeat' split) <;> simp

@[simp] theorem bump_part (id n : Nat) (s : State) : (bump id n s).part = s.part :=
  congrArg Calm.part (bump_calm id n s)
@[simp] theorem bump_pending (id n : Nat) (s : State) : (bump id n s).pending = s.pending :=
  congrArg Calm.pending (bump_calm id n s)
@[simp] theorem bump_now (id n : Nat) (s : State) : (bump id n s).now = s.now :=
  congrArg Calm.now (bump_calm id n s)
@[simp] theorem bump_free (id n : Nat) (s : State) : (bump id n s).free = s.free :=
  congrArg Calm.free (bump_calm id n s)
@[simp] theorem bump_pwr (id n : Nat) (s : State) : (bump id n s).pwr = s.pwr :=
  congrArg Calm.pwr (bump_calm id n s)
@[simp] theorem bump_syn (id n : Nat) (s : State) : (bump id n s).syn = s.syn :=
  congrArg Calm.syn (bump_calm id n s)
@[simp] theorem bump_tmb (id n : Nat) (s : State) : (bump id n s).tmb = s.tmb :=
  congrArg Calm.tmb (bump_calm id n s)
@[simp] theorem bump_pods (id n : Nat) (s : State) : (bump id n s).pods = s.pods :=
  congrArg Calm.pods (bump_calm id n s)
@[simp] theorem bump_own (id n : Nat) (s : State) : (bump id n s).own = s.own :=
  congrArg Calm.own (bump_calm id n s)
@[simp] theorem bump_fw (id n : Nat) (s : State) : (bump id n s).fw = s.fw :=
  congrArg Calm.fw (bump_calm id n s)
@[simp] theorem bump_ports (id n : Nat) (s : State) : (bump id n s).ports = s.ports :=
  congrArg Calm.ports (bump_calm id n s)
@[simp] theorem bump_lbf (id n : Nat) (s : State) : (bump id n s).lbf = s.lbf :=
  congrArg Calm.lbf (bump_calm id n s)
@[simp] theorem bump_nbrs (id n : Nat) (s : State) : (bump id n s).nbrs = s.nbrs :=
  congrArg Calm.nbrs (bump_calm id n s)
@[simp] theorem bump_eps (id n : Nat) (s : State) : (bump id n s).eps = s.eps :=
  congrArg Calm.eps (bump_calm id n s)
@[simp] theorem bump_tm (id n : Nat) (s : State) : (bump id n s).tm = s.tm :=
  congrArg Calm.tm (bump_calm id n s)
@[simp] theorem bump_canc (id n : Nat) (s : State) : (bump id n s).canc = s.canc :=
  congrArg Calm.canc (bump_calm id n s)
@[simp] theorem bump_cph (id n : Nat) (s : State) : (bump id n s).cph = s.cph :=
  congrArg Calm.cph (bump_calm id n s)
@[simp] theorem bump_chk (id n : Nat) (s : State) : (bump id n s).chk = s.chk :=
  congrArg Calm.chk (bump_calm id n s)
@[simp] theorem bump_trk (id n : Nat) (s : State) : (bump id n s).trk = s.trk :=
  congrArg Calm.trk (bump_calm id n s)
@[simp] theorem bump_chains (id n : Nat) (s : State) : (bump id n s).chains = s.chains :=
  congrArg Calm.chains (bump_calm id n s)
@[simp] theorem bump_sns (id n : Nat) (s : State) : (bump id n s).sns = s.sns :=
  congrArg Calm.sns (bump_calm id n s)
@[simp] theorem bump_sec (id n : Nat) (s : State) : (bump id n s).sec = s.sec :=
  congrArg Calm.sec (bump_calm id n s)
@[simp] theorem bump_mram (id n : Nat) (s : State) : (bump id n s).mram = s.mram :=
  congrArg Calm.mram (bump_calm id n s)
@[simp] theorem bump_ddr (id n : Nat) (s : State) : (bump id n s).ddr = s.ddr :=
  congrArg Calm.ddr (bump_calm id n s)
@[simp] theorem count_part (code : Nat) (a : Attr) (n : Nat) (s : State) : (count code a n s).part = s.part :=
  congrArg Calm.part (count_calm code a n s)
@[simp] theorem count_pending (code : Nat) (a : Attr) (n : Nat) (s : State) : (count code a n s).pending = s.pending :=
  congrArg Calm.pending (count_calm code a n s)
@[simp] theorem count_now (code : Nat) (a : Attr) (n : Nat) (s : State) : (count code a n s).now = s.now :=
  congrArg Calm.now (count_calm code a n s)
@[simp] theorem count_free (code : Nat) (a : Attr) (n : Nat) (s : State) : (count code a n s).free = s.free :=
  congrArg Calm.free (count_calm code a n s)
@[simp] theorem count_pwr (code : Nat) (a : Attr) (n : Nat) (s : State) : (count code a n s).pwr = s.pwr :=
  congrArg Calm.pwr (count_calm code a n s)
@[simp] theorem count_syn (code : Nat) (a : Attr) (n : Nat) (s : State) : (count code a n s).syn = s.syn :=
  congrArg Calm.syn (count_calm code a n s)
@[simp] theorem count_tmb (code : Nat) (a : Attr) (n : Nat) (s : State) : (count code a n s).tmb = s.tmb :=
  congrArg Calm.tmb (count_calm code a n s)
@[simp] theorem count_pods (code : Nat) (a : Attr) (n : Nat) (s : State) : (count code a n s).pods = s.pods :=
  congrArg Calm.pods (count_calm code a n s)
@[simp] theorem count_own (code : Nat) (a : Attr) (n : Nat) (s : State) : (count code a n s).own = s.own :=
  congrArg Calm.own (count_calm code a n s)
@[simp] theorem count_fw (code : Nat) (a : Attr) (n : Nat) (s : State) : (count code a n s).fw = s.fw :=
  congrArg Calm.fw (count_calm code a n s)
@[simp] theorem count_ports (code : Nat) (a : Attr) (n : Nat) (s : State) : (count code a n s).ports = s.ports :=
  congrArg Calm.ports (count_calm code a n s)
@[simp] theorem count_lbf (code : Nat) (a : Attr) (n : Nat) (s : State) : (count code a n s).lbf = s.lbf :=
  congrArg Calm.lbf (count_calm code a n s)
@[simp] theorem count_nbrs (code : Nat) (a : Attr) (n : Nat) (s : State) : (count code a n s).nbrs = s.nbrs :=
  congrArg Calm.nbrs (count_calm code a n s)
@[simp] theorem count_eps (code : Nat) (a : Attr) (n : Nat) (s : State) : (count code a n s).eps = s.eps :=
  congrArg Calm.eps (count_calm code a n s)
@[simp] theorem count_tm (code : Nat) (a : Attr) (n : Nat) (s : State) : (count code a n s).tm = s.tm :=
  congrArg Calm.tm (count_calm code a n s)
@[simp] theorem count_canc (code : Nat) (a : Attr) (n : Nat) (s : State) : (count code a n s).canc = s.canc :=
  congrArg Calm.canc (count_calm code a n s)
@[simp] theorem count_cph (code : Nat) (a : Attr) (n : Nat) (s : State) : (count code a n s).cph = s.cph :=
  congrArg Calm.cph (count_calm code a n s)
@[simp] theorem count_chk (code : Nat) (a : Attr) (n : Nat) (s : State) : (count code a n s).chk = s.chk :=
  congrArg Calm.chk (count_calm code a n s)
@[simp] theorem count_trk (code : Nat) (a : Attr) (n : Nat) (s : State) : (count code a n s).trk = s.trk :=
  congrArg Calm.trk (count_calm code a n s)
@[simp] theorem count_chains (code : Nat) (a : Attr) (n : Nat) (s : State) : (count code a n s).chains = s.chains :=
  congrArg Calm.chains (count_calm code a n s)
@[simp] theorem count_sns (code : Nat) (a : Attr) (n : Nat) (s : State) : (count code a n s).sns = s.sns :=
  congrArg Calm.sns (count_calm code a n s)
@[simp] theorem count_sec (code : Nat) (a : Attr) (n : Nat) (s : State) : (count code a n s).sec = s.sec :=
  congrArg Calm.sec (count_calm code a n s)
@[simp] theorem count_mram (code : Nat) (a : Attr) (n : Nat) (s : State) : (count code a n s).mram = s.mram :=
  congrArg Calm.mram (count_calm code a n s)
@[simp] theorem count_ddr (code : Nat) (a : Attr) (n : Nat) (s : State) : (count code a n s).ddr = s.ddr :=
  congrArg Calm.ddr (count_calm code a n s)
@[simp] theorem raise_part (source cause arg0 arg1 : Nat) (s : State) : (raise source cause arg0 arg1 s).part = s.part :=
  congrArg Calm.part (raise_calm source cause arg0 arg1 s)
@[simp] theorem raise_pending (source cause arg0 arg1 : Nat) (s : State) : (raise source cause arg0 arg1 s).pending = s.pending :=
  congrArg Calm.pending (raise_calm source cause arg0 arg1 s)
@[simp] theorem raise_now (source cause arg0 arg1 : Nat) (s : State) : (raise source cause arg0 arg1 s).now = s.now :=
  congrArg Calm.now (raise_calm source cause arg0 arg1 s)
@[simp] theorem raise_free (source cause arg0 arg1 : Nat) (s : State) : (raise source cause arg0 arg1 s).free = s.free :=
  congrArg Calm.free (raise_calm source cause arg0 arg1 s)
@[simp] theorem raise_pwr (source cause arg0 arg1 : Nat) (s : State) : (raise source cause arg0 arg1 s).pwr = s.pwr :=
  congrArg Calm.pwr (raise_calm source cause arg0 arg1 s)
@[simp] theorem raise_syn (source cause arg0 arg1 : Nat) (s : State) : (raise source cause arg0 arg1 s).syn = s.syn :=
  congrArg Calm.syn (raise_calm source cause arg0 arg1 s)
@[simp] theorem raise_tmb (source cause arg0 arg1 : Nat) (s : State) : (raise source cause arg0 arg1 s).tmb = s.tmb :=
  congrArg Calm.tmb (raise_calm source cause arg0 arg1 s)
@[simp] theorem raise_pods (source cause arg0 arg1 : Nat) (s : State) : (raise source cause arg0 arg1 s).pods = s.pods :=
  congrArg Calm.pods (raise_calm source cause arg0 arg1 s)
@[simp] theorem raise_own (source cause arg0 arg1 : Nat) (s : State) : (raise source cause arg0 arg1 s).own = s.own :=
  congrArg Calm.own (raise_calm source cause arg0 arg1 s)
@[simp] theorem raise_fw (source cause arg0 arg1 : Nat) (s : State) : (raise source cause arg0 arg1 s).fw = s.fw :=
  congrArg Calm.fw (raise_calm source cause arg0 arg1 s)
@[simp] theorem raise_ports (source cause arg0 arg1 : Nat) (s : State) : (raise source cause arg0 arg1 s).ports = s.ports :=
  congrArg Calm.ports (raise_calm source cause arg0 arg1 s)
@[simp] theorem raise_lbf (source cause arg0 arg1 : Nat) (s : State) : (raise source cause arg0 arg1 s).lbf = s.lbf :=
  congrArg Calm.lbf (raise_calm source cause arg0 arg1 s)
@[simp] theorem raise_nbrs (source cause arg0 arg1 : Nat) (s : State) : (raise source cause arg0 arg1 s).nbrs = s.nbrs :=
  congrArg Calm.nbrs (raise_calm source cause arg0 arg1 s)
@[simp] theorem raise_eps (source cause arg0 arg1 : Nat) (s : State) : (raise source cause arg0 arg1 s).eps = s.eps :=
  congrArg Calm.eps (raise_calm source cause arg0 arg1 s)
@[simp] theorem raise_tm (source cause arg0 arg1 : Nat) (s : State) : (raise source cause arg0 arg1 s).tm = s.tm :=
  congrArg Calm.tm (raise_calm source cause arg0 arg1 s)
@[simp] theorem raise_canc (source cause arg0 arg1 : Nat) (s : State) : (raise source cause arg0 arg1 s).canc = s.canc :=
  congrArg Calm.canc (raise_calm source cause arg0 arg1 s)
@[simp] theorem raise_cph (source cause arg0 arg1 : Nat) (s : State) : (raise source cause arg0 arg1 s).cph = s.cph :=
  congrArg Calm.cph (raise_calm source cause arg0 arg1 s)
@[simp] theorem raise_chk (source cause arg0 arg1 : Nat) (s : State) : (raise source cause arg0 arg1 s).chk = s.chk :=
  congrArg Calm.chk (raise_calm source cause arg0 arg1 s)
@[simp] theorem raise_trk (source cause arg0 arg1 : Nat) (s : State) : (raise source cause arg0 arg1 s).trk = s.trk :=
  congrArg Calm.trk (raise_calm source cause arg0 arg1 s)
@[simp] theorem raise_chains (source cause arg0 arg1 : Nat) (s : State) : (raise source cause arg0 arg1 s).chains = s.chains :=
  congrArg Calm.chains (raise_calm source cause arg0 arg1 s)
@[simp] theorem raise_sns (source cause arg0 arg1 : Nat) (s : State) : (raise source cause arg0 arg1 s).sns = s.sns :=
  congrArg Calm.sns (raise_calm source cause arg0 arg1 s)
@[simp] theorem raise_sec (source cause arg0 arg1 : Nat) (s : State) : (raise source cause arg0 arg1 s).sec = s.sec :=
  congrArg Calm.sec (raise_calm source cause arg0 arg1 s)
@[simp] theorem raise_mram (source cause arg0 arg1 : Nat) (s : State) : (raise source cause arg0 arg1 s).mram = s.mram :=
  congrArg Calm.mram (raise_calm source cause arg0 arg1 s)
@[simp] theorem raise_ddr (source cause arg0 arg1 : Nat) (s : State) : (raise source cause arg0 arg1 s).ddr = s.ddr :=
  congrArg Calm.ddr (raise_calm source cause arg0 arg1 s)
@[simp] theorem raiseSys_part (e cause arg0 arg1 : Nat) (s : State) : (raiseSys e cause arg0 arg1 s).part = s.part :=
  congrArg Calm.part (raiseSys_calm e cause arg0 arg1 s)
@[simp] theorem raiseSys_pending (e cause arg0 arg1 : Nat) (s : State) : (raiseSys e cause arg0 arg1 s).pending = s.pending :=
  congrArg Calm.pending (raiseSys_calm e cause arg0 arg1 s)
@[simp] theorem raiseSys_now (e cause arg0 arg1 : Nat) (s : State) : (raiseSys e cause arg0 arg1 s).now = s.now :=
  congrArg Calm.now (raiseSys_calm e cause arg0 arg1 s)
@[simp] theorem raiseSys_free (e cause arg0 arg1 : Nat) (s : State) : (raiseSys e cause arg0 arg1 s).free = s.free :=
  congrArg Calm.free (raiseSys_calm e cause arg0 arg1 s)
@[simp] theorem raiseSys_pwr (e cause arg0 arg1 : Nat) (s : State) : (raiseSys e cause arg0 arg1 s).pwr = s.pwr :=
  congrArg Calm.pwr (raiseSys_calm e cause arg0 arg1 s)
@[simp] theorem raiseSys_syn (e cause arg0 arg1 : Nat) (s : State) : (raiseSys e cause arg0 arg1 s).syn = s.syn :=
  congrArg Calm.syn (raiseSys_calm e cause arg0 arg1 s)
@[simp] theorem raiseSys_tmb (e cause arg0 arg1 : Nat) (s : State) : (raiseSys e cause arg0 arg1 s).tmb = s.tmb :=
  congrArg Calm.tmb (raiseSys_calm e cause arg0 arg1 s)
@[simp] theorem raiseSys_pods (e cause arg0 arg1 : Nat) (s : State) : (raiseSys e cause arg0 arg1 s).pods = s.pods :=
  congrArg Calm.pods (raiseSys_calm e cause arg0 arg1 s)
@[simp] theorem raiseSys_own (e cause arg0 arg1 : Nat) (s : State) : (raiseSys e cause arg0 arg1 s).own = s.own :=
  congrArg Calm.own (raiseSys_calm e cause arg0 arg1 s)
@[simp] theorem raiseSys_fw (e cause arg0 arg1 : Nat) (s : State) : (raiseSys e cause arg0 arg1 s).fw = s.fw :=
  congrArg Calm.fw (raiseSys_calm e cause arg0 arg1 s)
@[simp] theorem raiseSys_ports (e cause arg0 arg1 : Nat) (s : State) : (raiseSys e cause arg0 arg1 s).ports = s.ports :=
  congrArg Calm.ports (raiseSys_calm e cause arg0 arg1 s)
@[simp] theorem raiseSys_lbf (e cause arg0 arg1 : Nat) (s : State) : (raiseSys e cause arg0 arg1 s).lbf = s.lbf :=
  congrArg Calm.lbf (raiseSys_calm e cause arg0 arg1 s)
@[simp] theorem raiseSys_nbrs (e cause arg0 arg1 : Nat) (s : State) : (raiseSys e cause arg0 arg1 s).nbrs = s.nbrs :=
  congrArg Calm.nbrs (raiseSys_calm e cause arg0 arg1 s)
@[simp] theorem raiseSys_eps (e cause arg0 arg1 : Nat) (s : State) : (raiseSys e cause arg0 arg1 s).eps = s.eps :=
  congrArg Calm.eps (raiseSys_calm e cause arg0 arg1 s)
@[simp] theorem raiseSys_tm (e cause arg0 arg1 : Nat) (s : State) : (raiseSys e cause arg0 arg1 s).tm = s.tm :=
  congrArg Calm.tm (raiseSys_calm e cause arg0 arg1 s)
@[simp] theorem raiseSys_canc (e cause arg0 arg1 : Nat) (s : State) : (raiseSys e cause arg0 arg1 s).canc = s.canc :=
  congrArg Calm.canc (raiseSys_calm e cause arg0 arg1 s)
@[simp] theorem raiseSys_cph (e cause arg0 arg1 : Nat) (s : State) : (raiseSys e cause arg0 arg1 s).cph = s.cph :=
  congrArg Calm.cph (raiseSys_calm e cause arg0 arg1 s)
@[simp] theorem raiseSys_chk (e cause arg0 arg1 : Nat) (s : State) : (raiseSys e cause arg0 arg1 s).chk = s.chk :=
  congrArg Calm.chk (raiseSys_calm e cause arg0 arg1 s)
@[simp] theorem raiseSys_trk (e cause arg0 arg1 : Nat) (s : State) : (raiseSys e cause arg0 arg1 s).trk = s.trk :=
  congrArg Calm.trk (raiseSys_calm e cause arg0 arg1 s)
@[simp] theorem raiseSys_chains (e cause arg0 arg1 : Nat) (s : State) : (raiseSys e cause arg0 arg1 s).chains = s.chains :=
  congrArg Calm.chains (raiseSys_calm e cause arg0 arg1 s)
@[simp] theorem raiseSys_sns (e cause arg0 arg1 : Nat) (s : State) : (raiseSys e cause arg0 arg1 s).sns = s.sns :=
  congrArg Calm.sns (raiseSys_calm e cause arg0 arg1 s)
@[simp] theorem raiseSys_sec (e cause arg0 arg1 : Nat) (s : State) : (raiseSys e cause arg0 arg1 s).sec = s.sec :=
  congrArg Calm.sec (raiseSys_calm e cause arg0 arg1 s)
@[simp] theorem raiseSys_mram (e cause arg0 arg1 : Nat) (s : State) : (raiseSys e cause arg0 arg1 s).mram = s.mram :=
  congrArg Calm.mram (raiseSys_calm e cause arg0 arg1 s)
@[simp] theorem raiseSys_ddr (e cause arg0 arg1 : Nat) (s : State) : (raiseSys e cause arg0 arg1 s).ddr = s.ddr :=
  congrArg Calm.ddr (raiseSys_calm e cause arg0 arg1 s)
@[simp] theorem raisePort_part (p e cause arg0 arg1 : Nat) (s : State) : (raisePort p e cause arg0 arg1 s).part = s.part :=
  congrArg Calm.part (raisePort_calm p e cause arg0 arg1 s)
@[simp] theorem raisePort_pending (p e cause arg0 arg1 : Nat) (s : State) : (raisePort p e cause arg0 arg1 s).pending = s.pending :=
  congrArg Calm.pending (raisePort_calm p e cause arg0 arg1 s)
@[simp] theorem raisePort_now (p e cause arg0 arg1 : Nat) (s : State) : (raisePort p e cause arg0 arg1 s).now = s.now :=
  congrArg Calm.now (raisePort_calm p e cause arg0 arg1 s)
@[simp] theorem raisePort_free (p e cause arg0 arg1 : Nat) (s : State) : (raisePort p e cause arg0 arg1 s).free = s.free :=
  congrArg Calm.free (raisePort_calm p e cause arg0 arg1 s)
@[simp] theorem raisePort_pwr (p e cause arg0 arg1 : Nat) (s : State) : (raisePort p e cause arg0 arg1 s).pwr = s.pwr :=
  congrArg Calm.pwr (raisePort_calm p e cause arg0 arg1 s)
@[simp] theorem raisePort_syn (p e cause arg0 arg1 : Nat) (s : State) : (raisePort p e cause arg0 arg1 s).syn = s.syn :=
  congrArg Calm.syn (raisePort_calm p e cause arg0 arg1 s)
@[simp] theorem raisePort_tmb (p e cause arg0 arg1 : Nat) (s : State) : (raisePort p e cause arg0 arg1 s).tmb = s.tmb :=
  congrArg Calm.tmb (raisePort_calm p e cause arg0 arg1 s)
@[simp] theorem raisePort_pods (p e cause arg0 arg1 : Nat) (s : State) : (raisePort p e cause arg0 arg1 s).pods = s.pods :=
  congrArg Calm.pods (raisePort_calm p e cause arg0 arg1 s)
@[simp] theorem raisePort_own (p e cause arg0 arg1 : Nat) (s : State) : (raisePort p e cause arg0 arg1 s).own = s.own :=
  congrArg Calm.own (raisePort_calm p e cause arg0 arg1 s)
@[simp] theorem raisePort_fw (p e cause arg0 arg1 : Nat) (s : State) : (raisePort p e cause arg0 arg1 s).fw = s.fw :=
  congrArg Calm.fw (raisePort_calm p e cause arg0 arg1 s)
@[simp] theorem raisePort_ports (p e cause arg0 arg1 : Nat) (s : State) : (raisePort p e cause arg0 arg1 s).ports = s.ports :=
  congrArg Calm.ports (raisePort_calm p e cause arg0 arg1 s)
@[simp] theorem raisePort_lbf (p e cause arg0 arg1 : Nat) (s : State) : (raisePort p e cause arg0 arg1 s).lbf = s.lbf :=
  congrArg Calm.lbf (raisePort_calm p e cause arg0 arg1 s)
@[simp] theorem raisePort_nbrs (p e cause arg0 arg1 : Nat) (s : State) : (raisePort p e cause arg0 arg1 s).nbrs = s.nbrs :=
  congrArg Calm.nbrs (raisePort_calm p e cause arg0 arg1 s)
@[simp] theorem raisePort_eps (p e cause arg0 arg1 : Nat) (s : State) : (raisePort p e cause arg0 arg1 s).eps = s.eps :=
  congrArg Calm.eps (raisePort_calm p e cause arg0 arg1 s)
@[simp] theorem raisePort_tm (p e cause arg0 arg1 : Nat) (s : State) : (raisePort p e cause arg0 arg1 s).tm = s.tm :=
  congrArg Calm.tm (raisePort_calm p e cause arg0 arg1 s)
@[simp] theorem raisePort_canc (p e cause arg0 arg1 : Nat) (s : State) : (raisePort p e cause arg0 arg1 s).canc = s.canc :=
  congrArg Calm.canc (raisePort_calm p e cause arg0 arg1 s)
@[simp] theorem raisePort_cph (p e cause arg0 arg1 : Nat) (s : State) : (raisePort p e cause arg0 arg1 s).cph = s.cph :=
  congrArg Calm.cph (raisePort_calm p e cause arg0 arg1 s)
@[simp] theorem raisePort_chk (p e cause arg0 arg1 : Nat) (s : State) : (raisePort p e cause arg0 arg1 s).chk = s.chk :=
  congrArg Calm.chk (raisePort_calm p e cause arg0 arg1 s)
@[simp] theorem raisePort_trk (p e cause arg0 arg1 : Nat) (s : State) : (raisePort p e cause arg0 arg1 s).trk = s.trk :=
  congrArg Calm.trk (raisePort_calm p e cause arg0 arg1 s)
@[simp] theorem raisePort_chains (p e cause arg0 arg1 : Nat) (s : State) : (raisePort p e cause arg0 arg1 s).chains = s.chains :=
  congrArg Calm.chains (raisePort_calm p e cause arg0 arg1 s)
@[simp] theorem raisePort_sns (p e cause arg0 arg1 : Nat) (s : State) : (raisePort p e cause arg0 arg1 s).sns = s.sns :=
  congrArg Calm.sns (raisePort_calm p e cause arg0 arg1 s)
@[simp] theorem raisePort_sec (p e cause arg0 arg1 : Nat) (s : State) : (raisePort p e cause arg0 arg1 s).sec = s.sec :=
  congrArg Calm.sec (raisePort_calm p e cause arg0 arg1 s)
@[simp] theorem raisePort_mram (p e cause arg0 arg1 : Nat) (s : State) : (raisePort p e cause arg0 arg1 s).mram = s.mram :=
  congrArg Calm.mram (raisePort_calm p e cause arg0 arg1 s)
@[simp] theorem raisePort_ddr (p e cause arg0 arg1 : Nat) (s : State) : (raisePort p e cause arg0 arg1 s).ddr = s.ddr :=
  congrArg Calm.ddr (raisePort_calm p e cause arg0 arg1 s)
@[simp] theorem raiseTrunk_part (n e cause arg0 arg1 : Nat) (s : State) : (raiseTrunk n e cause arg0 arg1 s).part = s.part :=
  congrArg Calm.part (raiseTrunk_calm n e cause arg0 arg1 s)
@[simp] theorem raiseTrunk_pending (n e cause arg0 arg1 : Nat) (s : State) : (raiseTrunk n e cause arg0 arg1 s).pending = s.pending :=
  congrArg Calm.pending (raiseTrunk_calm n e cause arg0 arg1 s)
@[simp] theorem raiseTrunk_now (n e cause arg0 arg1 : Nat) (s : State) : (raiseTrunk n e cause arg0 arg1 s).now = s.now :=
  congrArg Calm.now (raiseTrunk_calm n e cause arg0 arg1 s)
@[simp] theorem raiseTrunk_free (n e cause arg0 arg1 : Nat) (s : State) : (raiseTrunk n e cause arg0 arg1 s).free = s.free :=
  congrArg Calm.free (raiseTrunk_calm n e cause arg0 arg1 s)
@[simp] theorem raiseTrunk_pwr (n e cause arg0 arg1 : Nat) (s : State) : (raiseTrunk n e cause arg0 arg1 s).pwr = s.pwr :=
  congrArg Calm.pwr (raiseTrunk_calm n e cause arg0 arg1 s)
@[simp] theorem raiseTrunk_syn (n e cause arg0 arg1 : Nat) (s : State) : (raiseTrunk n e cause arg0 arg1 s).syn = s.syn :=
  congrArg Calm.syn (raiseTrunk_calm n e cause arg0 arg1 s)
@[simp] theorem raiseTrunk_tmb (n e cause arg0 arg1 : Nat) (s : State) : (raiseTrunk n e cause arg0 arg1 s).tmb = s.tmb :=
  congrArg Calm.tmb (raiseTrunk_calm n e cause arg0 arg1 s)
@[simp] theorem raiseTrunk_pods (n e cause arg0 arg1 : Nat) (s : State) : (raiseTrunk n e cause arg0 arg1 s).pods = s.pods :=
  congrArg Calm.pods (raiseTrunk_calm n e cause arg0 arg1 s)
@[simp] theorem raiseTrunk_own (n e cause arg0 arg1 : Nat) (s : State) : (raiseTrunk n e cause arg0 arg1 s).own = s.own :=
  congrArg Calm.own (raiseTrunk_calm n e cause arg0 arg1 s)
@[simp] theorem raiseTrunk_fw (n e cause arg0 arg1 : Nat) (s : State) : (raiseTrunk n e cause arg0 arg1 s).fw = s.fw :=
  congrArg Calm.fw (raiseTrunk_calm n e cause arg0 arg1 s)
@[simp] theorem raiseTrunk_ports (n e cause arg0 arg1 : Nat) (s : State) : (raiseTrunk n e cause arg0 arg1 s).ports = s.ports :=
  congrArg Calm.ports (raiseTrunk_calm n e cause arg0 arg1 s)
@[simp] theorem raiseTrunk_lbf (n e cause arg0 arg1 : Nat) (s : State) : (raiseTrunk n e cause arg0 arg1 s).lbf = s.lbf :=
  congrArg Calm.lbf (raiseTrunk_calm n e cause arg0 arg1 s)
@[simp] theorem raiseTrunk_nbrs (n e cause arg0 arg1 : Nat) (s : State) : (raiseTrunk n e cause arg0 arg1 s).nbrs = s.nbrs :=
  congrArg Calm.nbrs (raiseTrunk_calm n e cause arg0 arg1 s)
@[simp] theorem raiseTrunk_eps (n e cause arg0 arg1 : Nat) (s : State) : (raiseTrunk n e cause arg0 arg1 s).eps = s.eps :=
  congrArg Calm.eps (raiseTrunk_calm n e cause arg0 arg1 s)
@[simp] theorem raiseTrunk_tm (n e cause arg0 arg1 : Nat) (s : State) : (raiseTrunk n e cause arg0 arg1 s).tm = s.tm :=
  congrArg Calm.tm (raiseTrunk_calm n e cause arg0 arg1 s)
@[simp] theorem raiseTrunk_canc (n e cause arg0 arg1 : Nat) (s : State) : (raiseTrunk n e cause arg0 arg1 s).canc = s.canc :=
  congrArg Calm.canc (raiseTrunk_calm n e cause arg0 arg1 s)
@[simp] theorem raiseTrunk_cph (n e cause arg0 arg1 : Nat) (s : State) : (raiseTrunk n e cause arg0 arg1 s).cph = s.cph :=
  congrArg Calm.cph (raiseTrunk_calm n e cause arg0 arg1 s)
@[simp] theorem raiseTrunk_chk (n e cause arg0 arg1 : Nat) (s : State) : (raiseTrunk n e cause arg0 arg1 s).chk = s.chk :=
  congrArg Calm.chk (raiseTrunk_calm n e cause arg0 arg1 s)
@[simp] theorem raiseTrunk_trk (n e cause arg0 arg1 : Nat) (s : State) : (raiseTrunk n e cause arg0 arg1 s).trk = s.trk :=
  congrArg Calm.trk (raiseTrunk_calm n e cause arg0 arg1 s)
@[simp] theorem raiseTrunk_chains (n e cause arg0 arg1 : Nat) (s : State) : (raiseTrunk n e cause arg0 arg1 s).chains = s.chains :=
  congrArg Calm.chains (raiseTrunk_calm n e cause arg0 arg1 s)
@[simp] theorem raiseTrunk_sns (n e cause arg0 arg1 : Nat) (s : State) : (raiseTrunk n e cause arg0 arg1 s).sns = s.sns :=
  congrArg Calm.sns (raiseTrunk_calm n e cause arg0 arg1 s)
@[simp] theorem raiseTrunk_sec (n e cause arg0 arg1 : Nat) (s : State) : (raiseTrunk n e cause arg0 arg1 s).sec = s.sec :=
  congrArg Calm.sec (raiseTrunk_calm n e cause arg0 arg1 s)
@[simp] theorem raiseTrunk_mram (n e cause arg0 arg1 : Nat) (s : State) : (raiseTrunk n e cause arg0 arg1 s).mram = s.mram :=
  congrArg Calm.mram (raiseTrunk_calm n e cause arg0 arg1 s)
@[simp] theorem raiseTrunk_ddr (n e cause arg0 arg1 : Nat) (s : State) : (raiseTrunk n e cause arg0 arg1 s).ddr = s.ddr :=
  congrArg Calm.ddr (raiseTrunk_calm n e cause arg0 arg1 s)
@[simp] theorem raiseSense_part (e cause arg0 arg1 : Nat) (s : State) : (raiseSense e cause arg0 arg1 s).part = s.part :=
  congrArg Calm.part (raiseSense_calm e cause arg0 arg1 s)
@[simp] theorem raiseSense_pending (e cause arg0 arg1 : Nat) (s : State) : (raiseSense e cause arg0 arg1 s).pending = s.pending :=
  congrArg Calm.pending (raiseSense_calm e cause arg0 arg1 s)
@[simp] theorem raiseSense_now (e cause arg0 arg1 : Nat) (s : State) : (raiseSense e cause arg0 arg1 s).now = s.now :=
  congrArg Calm.now (raiseSense_calm e cause arg0 arg1 s)
@[simp] theorem raiseSense_free (e cause arg0 arg1 : Nat) (s : State) : (raiseSense e cause arg0 arg1 s).free = s.free :=
  congrArg Calm.free (raiseSense_calm e cause arg0 arg1 s)
@[simp] theorem raiseSense_pwr (e cause arg0 arg1 : Nat) (s : State) : (raiseSense e cause arg0 arg1 s).pwr = s.pwr :=
  congrArg Calm.pwr (raiseSense_calm e cause arg0 arg1 s)
@[simp] theorem raiseSense_syn (e cause arg0 arg1 : Nat) (s : State) : (raiseSense e cause arg0 arg1 s).syn = s.syn :=
  congrArg Calm.syn (raiseSense_calm e cause arg0 arg1 s)
@[simp] theorem raiseSense_tmb (e cause arg0 arg1 : Nat) (s : State) : (raiseSense e cause arg0 arg1 s).tmb = s.tmb :=
  congrArg Calm.tmb (raiseSense_calm e cause arg0 arg1 s)
@[simp] theorem raiseSense_pods (e cause arg0 arg1 : Nat) (s : State) : (raiseSense e cause arg0 arg1 s).pods = s.pods :=
  congrArg Calm.pods (raiseSense_calm e cause arg0 arg1 s)
@[simp] theorem raiseSense_own (e cause arg0 arg1 : Nat) (s : State) : (raiseSense e cause arg0 arg1 s).own = s.own :=
  congrArg Calm.own (raiseSense_calm e cause arg0 arg1 s)
@[simp] theorem raiseSense_fw (e cause arg0 arg1 : Nat) (s : State) : (raiseSense e cause arg0 arg1 s).fw = s.fw :=
  congrArg Calm.fw (raiseSense_calm e cause arg0 arg1 s)
@[simp] theorem raiseSense_ports (e cause arg0 arg1 : Nat) (s : State) : (raiseSense e cause arg0 arg1 s).ports = s.ports :=
  congrArg Calm.ports (raiseSense_calm e cause arg0 arg1 s)
@[simp] theorem raiseSense_lbf (e cause arg0 arg1 : Nat) (s : State) : (raiseSense e cause arg0 arg1 s).lbf = s.lbf :=
  congrArg Calm.lbf (raiseSense_calm e cause arg0 arg1 s)
@[simp] theorem raiseSense_nbrs (e cause arg0 arg1 : Nat) (s : State) : (raiseSense e cause arg0 arg1 s).nbrs = s.nbrs :=
  congrArg Calm.nbrs (raiseSense_calm e cause arg0 arg1 s)
@[simp] theorem raiseSense_eps (e cause arg0 arg1 : Nat) (s : State) : (raiseSense e cause arg0 arg1 s).eps = s.eps :=
  congrArg Calm.eps (raiseSense_calm e cause arg0 arg1 s)
@[simp] theorem raiseSense_tm (e cause arg0 arg1 : Nat) (s : State) : (raiseSense e cause arg0 arg1 s).tm = s.tm :=
  congrArg Calm.tm (raiseSense_calm e cause arg0 arg1 s)
@[simp] theorem raiseSense_canc (e cause arg0 arg1 : Nat) (s : State) : (raiseSense e cause arg0 arg1 s).canc = s.canc :=
  congrArg Calm.canc (raiseSense_calm e cause arg0 arg1 s)
@[simp] theorem raiseSense_cph (e cause arg0 arg1 : Nat) (s : State) : (raiseSense e cause arg0 arg1 s).cph = s.cph :=
  congrArg Calm.cph (raiseSense_calm e cause arg0 arg1 s)
@[simp] theorem raiseSense_chk (e cause arg0 arg1 : Nat) (s : State) : (raiseSense e cause arg0 arg1 s).chk = s.chk :=
  congrArg Calm.chk (raiseSense_calm e cause arg0 arg1 s)
@[simp] theorem raiseSense_trk (e cause arg0 arg1 : Nat) (s : State) : (raiseSense e cause arg0 arg1 s).trk = s.trk :=
  congrArg Calm.trk (raiseSense_calm e cause arg0 arg1 s)
@[simp] theorem raiseSense_chains (e cause arg0 arg1 : Nat) (s : State) : (raiseSense e cause arg0 arg1 s).chains = s.chains :=
  congrArg Calm.chains (raiseSense_calm e cause arg0 arg1 s)
@[simp] theorem raiseSense_sns (e cause arg0 arg1 : Nat) (s : State) : (raiseSense e cause arg0 arg1 s).sns = s.sns :=
  congrArg Calm.sns (raiseSense_calm e cause arg0 arg1 s)
@[simp] theorem raiseSense_sec (e cause arg0 arg1 : Nat) (s : State) : (raiseSense e cause arg0 arg1 s).sec = s.sec :=
  congrArg Calm.sec (raiseSense_calm e cause arg0 arg1 s)
@[simp] theorem raiseSense_mram (e cause arg0 arg1 : Nat) (s : State) : (raiseSense e cause arg0 arg1 s).mram = s.mram :=
  congrArg Calm.mram (raiseSense_calm e cause arg0 arg1 s)
@[simp] theorem raiseSense_ddr (e cause arg0 arg1 : Nat) (s : State) : (raiseSense e cause arg0 arg1 s).ddr = s.ddr :=
  congrArg Calm.ddr (raiseSense_calm e cause arg0 arg1 s)
@[simp] theorem hostWrite_part (fn addr : Nat) (data : Bytes) (s : State) : (hostWrite fn addr data s).part = s.part :=
  congrArg Calm.part (hostWrite_calm fn addr data s)
@[simp] theorem hostWrite_pending (fn addr : Nat) (data : Bytes) (s : State) : (hostWrite fn addr data s).pending = s.pending :=
  congrArg Calm.pending (hostWrite_calm fn addr data s)
@[simp] theorem hostWrite_now (fn addr : Nat) (data : Bytes) (s : State) : (hostWrite fn addr data s).now = s.now :=
  congrArg Calm.now (hostWrite_calm fn addr data s)
@[simp] theorem hostWrite_free (fn addr : Nat) (data : Bytes) (s : State) : (hostWrite fn addr data s).free = s.free :=
  congrArg Calm.free (hostWrite_calm fn addr data s)
@[simp] theorem hostWrite_pwr (fn addr : Nat) (data : Bytes) (s : State) : (hostWrite fn addr data s).pwr = s.pwr :=
  congrArg Calm.pwr (hostWrite_calm fn addr data s)
@[simp] theorem hostWrite_syn (fn addr : Nat) (data : Bytes) (s : State) : (hostWrite fn addr data s).syn = s.syn :=
  congrArg Calm.syn (hostWrite_calm fn addr data s)
@[simp] theorem hostWrite_tmb (fn addr : Nat) (data : Bytes) (s : State) : (hostWrite fn addr data s).tmb = s.tmb :=
  congrArg Calm.tmb (hostWrite_calm fn addr data s)
@[simp] theorem hostWrite_pods (fn addr : Nat) (data : Bytes) (s : State) : (hostWrite fn addr data s).pods = s.pods :=
  congrArg Calm.pods (hostWrite_calm fn addr data s)
@[simp] theorem hostWrite_own (fn addr : Nat) (data : Bytes) (s : State) : (hostWrite fn addr data s).own = s.own :=
  congrArg Calm.own (hostWrite_calm fn addr data s)
@[simp] theorem hostWrite_fw (fn addr : Nat) (data : Bytes) (s : State) : (hostWrite fn addr data s).fw = s.fw :=
  congrArg Calm.fw (hostWrite_calm fn addr data s)
@[simp] theorem hostWrite_ports (fn addr : Nat) (data : Bytes) (s : State) : (hostWrite fn addr data s).ports = s.ports :=
  congrArg Calm.ports (hostWrite_calm fn addr data s)
@[simp] theorem hostWrite_lbf (fn addr : Nat) (data : Bytes) (s : State) : (hostWrite fn addr data s).lbf = s.lbf :=
  congrArg Calm.lbf (hostWrite_calm fn addr data s)
@[simp] theorem hostWrite_nbrs (fn addr : Nat) (data : Bytes) (s : State) : (hostWrite fn addr data s).nbrs = s.nbrs :=
  congrArg Calm.nbrs (hostWrite_calm fn addr data s)
@[simp] theorem hostWrite_eps (fn addr : Nat) (data : Bytes) (s : State) : (hostWrite fn addr data s).eps = s.eps :=
  congrArg Calm.eps (hostWrite_calm fn addr data s)
@[simp] theorem hostWrite_tm (fn addr : Nat) (data : Bytes) (s : State) : (hostWrite fn addr data s).tm = s.tm :=
  congrArg Calm.tm (hostWrite_calm fn addr data s)
@[simp] theorem hostWrite_canc (fn addr : Nat) (data : Bytes) (s : State) : (hostWrite fn addr data s).canc = s.canc :=
  congrArg Calm.canc (hostWrite_calm fn addr data s)
@[simp] theorem hostWrite_cph (fn addr : Nat) (data : Bytes) (s : State) : (hostWrite fn addr data s).cph = s.cph :=
  congrArg Calm.cph (hostWrite_calm fn addr data s)
@[simp] theorem hostWrite_chk (fn addr : Nat) (data : Bytes) (s : State) : (hostWrite fn addr data s).chk = s.chk :=
  congrArg Calm.chk (hostWrite_calm fn addr data s)
@[simp] theorem hostWrite_trk (fn addr : Nat) (data : Bytes) (s : State) : (hostWrite fn addr data s).trk = s.trk :=
  congrArg Calm.trk (hostWrite_calm fn addr data s)
@[simp] theorem hostWrite_chains (fn addr : Nat) (data : Bytes) (s : State) : (hostWrite fn addr data s).chains = s.chains :=
  congrArg Calm.chains (hostWrite_calm fn addr data s)
@[simp] theorem hostWrite_sns (fn addr : Nat) (data : Bytes) (s : State) : (hostWrite fn addr data s).sns = s.sns :=
  congrArg Calm.sns (hostWrite_calm fn addr data s)
@[simp] theorem hostWrite_sec (fn addr : Nat) (data : Bytes) (s : State) : (hostWrite fn addr data s).sec = s.sec :=
  congrArg Calm.sec (hostWrite_calm fn addr data s)
@[simp] theorem hostWrite_mram (fn addr : Nat) (data : Bytes) (s : State) : (hostWrite fn addr data s).mram = s.mram :=
  congrArg Calm.mram (hostWrite_calm fn addr data s)
@[simp] theorem hostWrite_ddr (fn addr : Nat) (data : Bytes) (s : State) : (hostWrite fn addr data s).ddr = s.ddr :=
  congrArg Calm.ddr (hostWrite_calm fn addr data s)
@[simp] theorem notify_part (pod l code : Nat) (body : Bytes) (s : State) : (notify pod l code body s).part = s.part :=
  congrArg Calm.part (notify_calm pod l code body s)
@[simp] theorem notify_pending (pod l code : Nat) (body : Bytes) (s : State) : (notify pod l code body s).pending = s.pending :=
  congrArg Calm.pending (notify_calm pod l code body s)
@[simp] theorem notify_now (pod l code : Nat) (body : Bytes) (s : State) : (notify pod l code body s).now = s.now :=
  congrArg Calm.now (notify_calm pod l code body s)
@[simp] theorem notify_free (pod l code : Nat) (body : Bytes) (s : State) : (notify pod l code body s).free = s.free :=
  congrArg Calm.free (notify_calm pod l code body s)
@[simp] theorem notify_pwr (pod l code : Nat) (body : Bytes) (s : State) : (notify pod l code body s).pwr = s.pwr :=
  congrArg Calm.pwr (notify_calm pod l code body s)
@[simp] theorem notify_syn (pod l code : Nat) (body : Bytes) (s : State) : (notify pod l code body s).syn = s.syn :=
  congrArg Calm.syn (notify_calm pod l code body s)
@[simp] theorem notify_tmb (pod l code : Nat) (body : Bytes) (s : State) : (notify pod l code body s).tmb = s.tmb :=
  congrArg Calm.tmb (notify_calm pod l code body s)
@[simp] theorem notify_pods (pod l code : Nat) (body : Bytes) (s : State) : (notify pod l code body s).pods = s.pods :=
  congrArg Calm.pods (notify_calm pod l code body s)
@[simp] theorem notify_own (pod l code : Nat) (body : Bytes) (s : State) : (notify pod l code body s).own = s.own :=
  congrArg Calm.own (notify_calm pod l code body s)
@[simp] theorem notify_fw (pod l code : Nat) (body : Bytes) (s : State) : (notify pod l code body s).fw = s.fw :=
  congrArg Calm.fw (notify_calm pod l code body s)
@[simp] theorem notify_ports (pod l code : Nat) (body : Bytes) (s : State) : (notify pod l code body s).ports = s.ports :=
  congrArg Calm.ports (notify_calm pod l code body s)
@[simp] theorem notify_lbf (pod l code : Nat) (body : Bytes) (s : State) : (notify pod l code body s).lbf = s.lbf :=
  congrArg Calm.lbf (notify_calm pod l code body s)
@[simp] theorem notify_nbrs (pod l code : Nat) (body : Bytes) (s : State) : (notify pod l code body s).nbrs = s.nbrs :=
  congrArg Calm.nbrs (notify_calm pod l code body s)
@[simp] theorem notify_eps (pod l code : Nat) (body : Bytes) (s : State) : (notify pod l code body s).eps = s.eps :=
  congrArg Calm.eps (notify_calm pod l code body s)
@[simp] theorem notify_tm (pod l code : Nat) (body : Bytes) (s : State) : (notify pod l code body s).tm = s.tm :=
  congrArg Calm.tm (notify_calm pod l code body s)
@[simp] theorem notify_canc (pod l code : Nat) (body : Bytes) (s : State) : (notify pod l code body s).canc = s.canc :=
  congrArg Calm.canc (notify_calm pod l code body s)
@[simp] theorem notify_cph (pod l code : Nat) (body : Bytes) (s : State) : (notify pod l code body s).cph = s.cph :=
  congrArg Calm.cph (notify_calm pod l code body s)
@[simp] theorem notify_chk (pod l code : Nat) (body : Bytes) (s : State) : (notify pod l code body s).chk = s.chk :=
  congrArg Calm.chk (notify_calm pod l code body s)
@[simp] theorem notify_trk (pod l code : Nat) (body : Bytes) (s : State) : (notify pod l code body s).trk = s.trk :=
  congrArg Calm.trk (notify_calm pod l code body s)
@[simp] theorem notify_chains (pod l code : Nat) (body : Bytes) (s : State) : (notify pod l code body s).chains = s.chains :=
  congrArg Calm.chains (notify_calm pod l code body s)
@[simp] theorem notify_sns (pod l code : Nat) (body : Bytes) (s : State) : (notify pod l code body s).sns = s.sns :=
  congrArg Calm.sns (notify_calm pod l code body s)
@[simp] theorem notify_sec (pod l code : Nat) (body : Bytes) (s : State) : (notify pod l code body s).sec = s.sec :=
  congrArg Calm.sec (notify_calm pod l code body s)
@[simp] theorem notify_mram (pod l code : Nat) (body : Bytes) (s : State) : (notify pod l code body s).mram = s.mram :=
  congrArg Calm.mram (notify_calm pod l code body s)
@[simp] theorem notify_ddr (pod l code : Nat) (body : Bytes) (s : State) : (notify pod l code body s).ddr = s.ddr :=
  congrArg Calm.ddr (notify_calm pod l code body s)
@[simp] theorem mirrorConfig_part (k : Cmd) (st : Status) (s : State) : (mirrorConfig k st s).part = s.part :=
  congrArg Calm.part (mirrorConfig_calm k st s)
@[simp] theorem mirrorConfig_pending (k : Cmd) (st : Status) (s : State) : (mirrorConfig k st s).pending = s.pending :=
  congrArg Calm.pending (mirrorConfig_calm k st s)
@[simp] theorem mirrorConfig_now (k : Cmd) (st : Status) (s : State) : (mirrorConfig k st s).now = s.now :=
  congrArg Calm.now (mirrorConfig_calm k st s)
@[simp] theorem mirrorConfig_free (k : Cmd) (st : Status) (s : State) : (mirrorConfig k st s).free = s.free :=
  congrArg Calm.free (mirrorConfig_calm k st s)
@[simp] theorem mirrorConfig_pwr (k : Cmd) (st : Status) (s : State) : (mirrorConfig k st s).pwr = s.pwr :=
  congrArg Calm.pwr (mirrorConfig_calm k st s)
@[simp] theorem mirrorConfig_syn (k : Cmd) (st : Status) (s : State) : (mirrorConfig k st s).syn = s.syn :=
  congrArg Calm.syn (mirrorConfig_calm k st s)
@[simp] theorem mirrorConfig_tmb (k : Cmd) (st : Status) (s : State) : (mirrorConfig k st s).tmb = s.tmb :=
  congrArg Calm.tmb (mirrorConfig_calm k st s)
@[simp] theorem mirrorConfig_pods (k : Cmd) (st : Status) (s : State) : (mirrorConfig k st s).pods = s.pods :=
  congrArg Calm.pods (mirrorConfig_calm k st s)
@[simp] theorem mirrorConfig_own (k : Cmd) (st : Status) (s : State) : (mirrorConfig k st s).own = s.own :=
  congrArg Calm.own (mirrorConfig_calm k st s)
@[simp] theorem mirrorConfig_fw (k : Cmd) (st : Status) (s : State) : (mirrorConfig k st s).fw = s.fw :=
  congrArg Calm.fw (mirrorConfig_calm k st s)
@[simp] theorem mirrorConfig_ports (k : Cmd) (st : Status) (s : State) : (mirrorConfig k st s).ports = s.ports :=
  congrArg Calm.ports (mirrorConfig_calm k st s)
@[simp] theorem mirrorConfig_lbf (k : Cmd) (st : Status) (s : State) : (mirrorConfig k st s).lbf = s.lbf :=
  congrArg Calm.lbf (mirrorConfig_calm k st s)
@[simp] theorem mirrorConfig_nbrs (k : Cmd) (st : Status) (s : State) : (mirrorConfig k st s).nbrs = s.nbrs :=
  congrArg Calm.nbrs (mirrorConfig_calm k st s)
@[simp] theorem mirrorConfig_eps (k : Cmd) (st : Status) (s : State) : (mirrorConfig k st s).eps = s.eps :=
  congrArg Calm.eps (mirrorConfig_calm k st s)
@[simp] theorem mirrorConfig_tm (k : Cmd) (st : Status) (s : State) : (mirrorConfig k st s).tm = s.tm :=
  congrArg Calm.tm (mirrorConfig_calm k st s)
@[simp] theorem mirrorConfig_canc (k : Cmd) (st : Status) (s : State) : (mirrorConfig k st s).canc = s.canc :=
  congrArg Calm.canc (mirrorConfig_calm k st s)
@[simp] theorem mirrorConfig_cph (k : Cmd) (st : Status) (s : State) : (mirrorConfig k st s).cph = s.cph :=
  congrArg Calm.cph (mirrorConfig_calm k st s)
@[simp] theorem mirrorConfig_chk (k : Cmd) (st : Status) (s : State) : (mirrorConfig k st s).chk = s.chk :=
  congrArg Calm.chk (mirrorConfig_calm k st s)
@[simp] theorem mirrorConfig_trk (k : Cmd) (st : Status) (s : State) : (mirrorConfig k st s).trk = s.trk :=
  congrArg Calm.trk (mirrorConfig_calm k st s)
@[simp] theorem mirrorConfig_chains (k : Cmd) (st : Status) (s : State) : (mirrorConfig k st s).chains = s.chains :=
  congrArg Calm.chains (mirrorConfig_calm k st s)
@[simp] theorem mirrorConfig_sns (k : Cmd) (st : Status) (s : State) : (mirrorConfig k st s).sns = s.sns :=
  congrArg Calm.sns (mirrorConfig_calm k st s)
@[simp] theorem mirrorConfig_sec (k : Cmd) (st : Status) (s : State) : (mirrorConfig k st s).sec = s.sec :=
  congrArg Calm.sec (mirrorConfig_calm k st s)
@[simp] theorem mirrorConfig_mram (k : Cmd) (st : Status) (s : State) : (mirrorConfig k st s).mram = s.mram :=
  congrArg Calm.mram (mirrorConfig_calm k st s)
@[simp] theorem mirrorConfig_ddr (k : Cmd) (st : Status) (s : State) : (mirrorConfig k st s).ddr = s.ddr :=
  congrArg Calm.ddr (mirrorConfig_calm k st s)
@[simp] theorem complete_part (c : Caller) (st : Status) (resp : Bytes) (s : State) : (complete c st resp s).part = s.part :=
  congrArg Calm.part (complete_calm c st resp s)
@[simp] theorem complete_pending (c : Caller) (st : Status) (resp : Bytes) (s : State) : (complete c st resp s).pending = s.pending :=
  congrArg Calm.pending (complete_calm c st resp s)
@[simp] theorem complete_now (c : Caller) (st : Status) (resp : Bytes) (s : State) : (complete c st resp s).now = s.now :=
  congrArg Calm.now (complete_calm c st resp s)
@[simp] theorem complete_free (c : Caller) (st : Status) (resp : Bytes) (s : State) : (complete c st resp s).free = s.free :=
  congrArg Calm.free (complete_calm c st resp s)
@[simp] theorem complete_pwr (c : Caller) (st : Status) (resp : Bytes) (s : State) : (complete c st resp s).pwr = s.pwr :=
  congrArg Calm.pwr (complete_calm c st resp s)
@[simp] theorem complete_syn (c : Caller) (st : Status) (resp : Bytes) (s : State) : (complete c st resp s).syn = s.syn :=
  congrArg Calm.syn (complete_calm c st resp s)
@[simp] theorem complete_tmb (c : Caller) (st : Status) (resp : Bytes) (s : State) : (complete c st resp s).tmb = s.tmb :=
  congrArg Calm.tmb (complete_calm c st resp s)
@[simp] theorem complete_pods (c : Caller) (st : Status) (resp : Bytes) (s : State) : (complete c st resp s).pods = s.pods :=
  congrArg Calm.pods (complete_calm c st resp s)
@[simp] theorem complete_own (c : Caller) (st : Status) (resp : Bytes) (s : State) : (complete c st resp s).own = s.own :=
  congrArg Calm.own (complete_calm c st resp s)
@[simp] theorem complete_fw (c : Caller) (st : Status) (resp : Bytes) (s : State) : (complete c st resp s).fw = s.fw :=
  congrArg Calm.fw (complete_calm c st resp s)
@[simp] theorem complete_ports (c : Caller) (st : Status) (resp : Bytes) (s : State) : (complete c st resp s).ports = s.ports :=
  congrArg Calm.ports (complete_calm c st resp s)
@[simp] theorem complete_lbf (c : Caller) (st : Status) (resp : Bytes) (s : State) : (complete c st resp s).lbf = s.lbf :=
  congrArg Calm.lbf (complete_calm c st resp s)
@[simp] theorem complete_nbrs (c : Caller) (st : Status) (resp : Bytes) (s : State) : (complete c st resp s).nbrs = s.nbrs :=
  congrArg Calm.nbrs (complete_calm c st resp s)
@[simp] theorem complete_eps (c : Caller) (st : Status) (resp : Bytes) (s : State) : (complete c st resp s).eps = s.eps :=
  congrArg Calm.eps (complete_calm c st resp s)
@[simp] theorem complete_tm (c : Caller) (st : Status) (resp : Bytes) (s : State) : (complete c st resp s).tm = s.tm :=
  congrArg Calm.tm (complete_calm c st resp s)
@[simp] theorem complete_canc (c : Caller) (st : Status) (resp : Bytes) (s : State) : (complete c st resp s).canc = s.canc :=
  congrArg Calm.canc (complete_calm c st resp s)
@[simp] theorem complete_cph (c : Caller) (st : Status) (resp : Bytes) (s : State) : (complete c st resp s).cph = s.cph :=
  congrArg Calm.cph (complete_calm c st resp s)
@[simp] theorem complete_chk (c : Caller) (st : Status) (resp : Bytes) (s : State) : (complete c st resp s).chk = s.chk :=
  congrArg Calm.chk (complete_calm c st resp s)
@[simp] theorem complete_trk (c : Caller) (st : Status) (resp : Bytes) (s : State) : (complete c st resp s).trk = s.trk :=
  congrArg Calm.trk (complete_calm c st resp s)
@[simp] theorem complete_chains (c : Caller) (st : Status) (resp : Bytes) (s : State) : (complete c st resp s).chains = s.chains :=
  congrArg Calm.chains (complete_calm c st resp s)
@[simp] theorem complete_sns (c : Caller) (st : Status) (resp : Bytes) (s : State) : (complete c st resp s).sns = s.sns :=
  congrArg Calm.sns (complete_calm c st resp s)
@[simp] theorem complete_sec (c : Caller) (st : Status) (resp : Bytes) (s : State) : (complete c st resp s).sec = s.sec :=
  congrArg Calm.sec (complete_calm c st resp s)
@[simp] theorem complete_mram (c : Caller) (st : Status) (resp : Bytes) (s : State) : (complete c st resp s).mram = s.mram :=
  congrArg Calm.mram (complete_calm c st resp s)
@[simp] theorem complete_ddr (c : Caller) (st : Status) (resp : Bytes) (s : State) : (complete c st resp s).ddr = s.ddr :=
  congrArg Calm.ddr (complete_calm c st resp s)
@[simp] theorem completeStatus_part (c : Caller) (st : Status) (s : State) : (completeStatus c st s).part = s.part :=
  congrArg Calm.part (completeStatus_calm c st s)
@[simp] theorem completeStatus_pending (c : Caller) (st : Status) (s : State) : (completeStatus c st s).pending = s.pending :=
  congrArg Calm.pending (completeStatus_calm c st s)
@[simp] theorem completeStatus_now (c : Caller) (st : Status) (s : State) : (completeStatus c st s).now = s.now :=
  congrArg Calm.now (completeStatus_calm c st s)
@[simp] theorem completeStatus_free (c : Caller) (st : Status) (s : State) : (completeStatus c st s).free = s.free :=
  congrArg Calm.free (completeStatus_calm c st s)
@[simp] theorem completeStatus_pwr (c : Caller) (st : Status) (s : State) : (completeStatus c st s).pwr = s.pwr :=
  congrArg Calm.pwr (completeStatus_calm c st s)
@[simp] theorem completeStatus_syn (c : Caller) (st : Status) (s : State) : (completeStatus c st s).syn = s.syn :=
  congrArg Calm.syn (completeStatus_calm c st s)
@[simp] theorem completeStatus_tmb (c : Caller) (st : Status) (s : State) : (completeStatus c st s).tmb = s.tmb :=
  congrArg Calm.tmb (completeStatus_calm c st s)
@[simp] theorem completeStatus_pods (c : Caller) (st : Status) (s : State) : (completeStatus c st s).pods = s.pods :=
  congrArg Calm.pods (completeStatus_calm c st s)
@[simp] theorem completeStatus_own (c : Caller) (st : Status) (s : State) : (completeStatus c st s).own = s.own :=
  congrArg Calm.own (completeStatus_calm c st s)
@[simp] theorem completeStatus_fw (c : Caller) (st : Status) (s : State) : (completeStatus c st s).fw = s.fw :=
  congrArg Calm.fw (completeStatus_calm c st s)
@[simp] theorem completeStatus_ports (c : Caller) (st : Status) (s : State) : (completeStatus c st s).ports = s.ports :=
  congrArg Calm.ports (completeStatus_calm c st s)
@[simp] theorem completeStatus_lbf (c : Caller) (st : Status) (s : State) : (completeStatus c st s).lbf = s.lbf :=
  congrArg Calm.lbf (completeStatus_calm c st s)
@[simp] theorem completeStatus_nbrs (c : Caller) (st : Status) (s : State) : (completeStatus c st s).nbrs = s.nbrs :=
  congrArg Calm.nbrs (completeStatus_calm c st s)
@[simp] theorem completeStatus_eps (c : Caller) (st : Status) (s : State) : (completeStatus c st s).eps = s.eps :=
  congrArg Calm.eps (completeStatus_calm c st s)
@[simp] theorem completeStatus_tm (c : Caller) (st : Status) (s : State) : (completeStatus c st s).tm = s.tm :=
  congrArg Calm.tm (completeStatus_calm c st s)
@[simp] theorem completeStatus_canc (c : Caller) (st : Status) (s : State) : (completeStatus c st s).canc = s.canc :=
  congrArg Calm.canc (completeStatus_calm c st s)
@[simp] theorem completeStatus_cph (c : Caller) (st : Status) (s : State) : (completeStatus c st s).cph = s.cph :=
  congrArg Calm.cph (completeStatus_calm c st s)
@[simp] theorem completeStatus_chk (c : Caller) (st : Status) (s : State) : (completeStatus c st s).chk = s.chk :=
  congrArg Calm.chk (completeStatus_calm c st s)
@[simp] theorem completeStatus_trk (c : Caller) (st : Status) (s : State) : (completeStatus c st s).trk = s.trk :=
  congrArg Calm.trk (completeStatus_calm c st s)
@[simp] theorem completeStatus_chains (c : Caller) (st : Status) (s : State) : (completeStatus c st s).chains = s.chains :=
  congrArg Calm.chains (completeStatus_calm c st s)
@[simp] theorem completeStatus_sns (c : Caller) (st : Status) (s : State) : (completeStatus c st s).sns = s.sns :=
  congrArg Calm.sns (completeStatus_calm c st s)
@[simp] theorem completeStatus_sec (c : Caller) (st : Status) (s : State) : (completeStatus c st s).sec = s.sec :=
  congrArg Calm.sec (completeStatus_calm c st s)
@[simp] theorem completeStatus_mram (c : Caller) (st : Status) (s : State) : (completeStatus c st s).mram = s.mram :=
  congrArg Calm.mram (completeStatus_calm c st s)
@[simp] theorem completeStatus_ddr (c : Caller) (st : Status) (s : State) : (completeStatus c st s).ddr = s.ddr :=
  congrArg Calm.ddr (completeStatus_calm c st s)
@[simp] theorem hold_part (fm : Form) (c : Caller) (req : Bytes) (b : Bool) (s : State) : (hold fm c req b s).part = s.part :=
  congrArg Calm.part (hold_calm fm c req b s)
@[simp] theorem hold_pending (fm : Form) (c : Caller) (req : Bytes) (b : Bool) (s : State) : (hold fm c req b s).pending = s.pending :=
  congrArg Calm.pending (hold_calm fm c req b s)
@[simp] theorem hold_now (fm : Form) (c : Caller) (req : Bytes) (b : Bool) (s : State) : (hold fm c req b s).now = s.now :=
  congrArg Calm.now (hold_calm fm c req b s)
@[simp] theorem hold_free (fm : Form) (c : Caller) (req : Bytes) (b : Bool) (s : State) : (hold fm c req b s).free = s.free :=
  congrArg Calm.free (hold_calm fm c req b s)
@[simp] theorem hold_pwr (fm : Form) (c : Caller) (req : Bytes) (b : Bool) (s : State) : (hold fm c req b s).pwr = s.pwr :=
  congrArg Calm.pwr (hold_calm fm c req b s)
@[simp] theorem hold_syn (fm : Form) (c : Caller) (req : Bytes) (b : Bool) (s : State) : (hold fm c req b s).syn = s.syn :=
  congrArg Calm.syn (hold_calm fm c req b s)
@[simp] theorem hold_tmb (fm : Form) (c : Caller) (req : Bytes) (b : Bool) (s : State) : (hold fm c req b s).tmb = s.tmb :=
  congrArg Calm.tmb (hold_calm fm c req b s)
@[simp] theorem hold_pods (fm : Form) (c : Caller) (req : Bytes) (b : Bool) (s : State) : (hold fm c req b s).pods = s.pods :=
  congrArg Calm.pods (hold_calm fm c req b s)
@[simp] theorem hold_own (fm : Form) (c : Caller) (req : Bytes) (b : Bool) (s : State) : (hold fm c req b s).own = s.own :=
  congrArg Calm.own (hold_calm fm c req b s)
@[simp] theorem hold_fw (fm : Form) (c : Caller) (req : Bytes) (b : Bool) (s : State) : (hold fm c req b s).fw = s.fw :=
  congrArg Calm.fw (hold_calm fm c req b s)
@[simp] theorem hold_ports (fm : Form) (c : Caller) (req : Bytes) (b : Bool) (s : State) : (hold fm c req b s).ports = s.ports :=
  congrArg Calm.ports (hold_calm fm c req b s)
@[simp] theorem hold_lbf (fm : Form) (c : Caller) (req : Bytes) (b : Bool) (s : State) : (hold fm c req b s).lbf = s.lbf :=
  congrArg Calm.lbf (hold_calm fm c req b s)
@[simp] theorem hold_nbrs (fm : Form) (c : Caller) (req : Bytes) (b : Bool) (s : State) : (hold fm c req b s).nbrs = s.nbrs :=
  congrArg Calm.nbrs (hold_calm fm c req b s)
@[simp] theorem hold_eps (fm : Form) (c : Caller) (req : Bytes) (b : Bool) (s : State) : (hold fm c req b s).eps = s.eps :=
  congrArg Calm.eps (hold_calm fm c req b s)
@[simp] theorem hold_tm (fm : Form) (c : Caller) (req : Bytes) (b : Bool) (s : State) : (hold fm c req b s).tm = s.tm :=
  congrArg Calm.tm (hold_calm fm c req b s)
@[simp] theorem hold_canc (fm : Form) (c : Caller) (req : Bytes) (b : Bool) (s : State) : (hold fm c req b s).canc = s.canc :=
  congrArg Calm.canc (hold_calm fm c req b s)
@[simp] theorem hold_cph (fm : Form) (c : Caller) (req : Bytes) (b : Bool) (s : State) : (hold fm c req b s).cph = s.cph :=
  congrArg Calm.cph (hold_calm fm c req b s)
@[simp] theorem hold_chk (fm : Form) (c : Caller) (req : Bytes) (b : Bool) (s : State) : (hold fm c req b s).chk = s.chk :=
  congrArg Calm.chk (hold_calm fm c req b s)
@[simp] theorem hold_trk (fm : Form) (c : Caller) (req : Bytes) (b : Bool) (s : State) : (hold fm c req b s).trk = s.trk :=
  congrArg Calm.trk (hold_calm fm c req b s)
@[simp] theorem hold_chains (fm : Form) (c : Caller) (req : Bytes) (b : Bool) (s : State) : (hold fm c req b s).chains = s.chains :=
  congrArg Calm.chains (hold_calm fm c req b s)
@[simp] theorem hold_sns (fm : Form) (c : Caller) (req : Bytes) (b : Bool) (s : State) : (hold fm c req b s).sns = s.sns :=
  congrArg Calm.sns (hold_calm fm c req b s)
@[simp] theorem hold_sec (fm : Form) (c : Caller) (req : Bytes) (b : Bool) (s : State) : (hold fm c req b s).sec = s.sec :=
  congrArg Calm.sec (hold_calm fm c req b s)
@[simp] theorem hold_mram (fm : Form) (c : Caller) (req : Bytes) (b : Bool) (s : State) : (hold fm c req b s).mram = s.mram :=
  congrArg Calm.mram (hold_calm fm c req b s)
@[simp] theorem hold_ddr (fm : Form) (c : Caller) (req : Bytes) (b : Bool) (s : State) : (hold fm c req b s).ddr = s.ddr :=
  congrArg Calm.ddr (hold_calm fm c req b s)
@[simp] theorem putWaiting_part (fm : Form) (c : Caller) (req : Bytes) (s : State) : (putWaiting fm c req s).part = s.part :=
  congrArg Calm.part (putWaiting_calm fm c req s)
@[simp] theorem putWaiting_pending (fm : Form) (c : Caller) (req : Bytes) (s : State) : (putWaiting fm c req s).pending = s.pending :=
  congrArg Calm.pending (putWaiting_calm fm c req s)
@[simp] theorem putWaiting_now (fm : Form) (c : Caller) (req : Bytes) (s : State) : (putWaiting fm c req s).now = s.now :=
  congrArg Calm.now (putWaiting_calm fm c req s)
@[simp] theorem putWaiting_free (fm : Form) (c : Caller) (req : Bytes) (s : State) : (putWaiting fm c req s).free = s.free :=
  congrArg Calm.free (putWaiting_calm fm c req s)
@[simp] theorem putWaiting_pwr (fm : Form) (c : Caller) (req : Bytes) (s : State) : (putWaiting fm c req s).pwr = s.pwr :=
  congrArg Calm.pwr (putWaiting_calm fm c req s)
@[simp] theorem putWaiting_syn (fm : Form) (c : Caller) (req : Bytes) (s : State) : (putWaiting fm c req s).syn = s.syn :=
  congrArg Calm.syn (putWaiting_calm fm c req s)
@[simp] theorem putWaiting_tmb (fm : Form) (c : Caller) (req : Bytes) (s : State) : (putWaiting fm c req s).tmb = s.tmb :=
  congrArg Calm.tmb (putWaiting_calm fm c req s)
@[simp] theorem putWaiting_pods (fm : Form) (c : Caller) (req : Bytes) (s : State) : (putWaiting fm c req s).pods = s.pods :=
  congrArg Calm.pods (putWaiting_calm fm c req s)
@[simp] theorem putWaiting_own (fm : Form) (c : Caller) (req : Bytes) (s : State) : (putWaiting fm c req s).own = s.own :=
  congrArg Calm.own (putWaiting_calm fm c req s)
@[simp] theorem putWaiting_fw (fm : Form) (c : Caller) (req : Bytes) (s : State) : (putWaiting fm c req s).fw = s.fw :=
  congrArg Calm.fw (putWaiting_calm fm c req s)
@[simp] theorem putWaiting_ports (fm : Form) (c : Caller) (req : Bytes) (s : State) : (putWaiting fm c req s).ports = s.ports :=
  congrArg Calm.ports (putWaiting_calm fm c req s)
@[simp] theorem putWaiting_lbf (fm : Form) (c : Caller) (req : Bytes) (s : State) : (putWaiting fm c req s).lbf = s.lbf :=
  congrArg Calm.lbf (putWaiting_calm fm c req s)
@[simp] theorem putWaiting_nbrs (fm : Form) (c : Caller) (req : Bytes) (s : State) : (putWaiting fm c req s).nbrs = s.nbrs :=
  congrArg Calm.nbrs (putWaiting_calm fm c req s)
@[simp] theorem putWaiting_eps (fm : Form) (c : Caller) (req : Bytes) (s : State) : (putWaiting fm c req s).eps = s.eps :=
  congrArg Calm.eps (putWaiting_calm fm c req s)
@[simp] theorem putWaiting_tm (fm : Form) (c : Caller) (req : Bytes) (s : State) : (putWaiting fm c req s).tm = s.tm :=
  congrArg Calm.tm (putWaiting_calm fm c req s)
@[simp] theorem putWaiting_canc (fm : Form) (c : Caller) (req : Bytes) (s : State) : (putWaiting fm c req s).canc = s.canc :=
  congrArg Calm.canc (putWaiting_calm fm c req s)
@[simp] theorem putWaiting_cph (fm : Form) (c : Caller) (req : Bytes) (s : State) : (putWaiting fm c req s).cph = s.cph :=
  congrArg Calm.cph (putWaiting_calm fm c req s)
@[simp] theorem putWaiting_chk (fm : Form) (c : Caller) (req : Bytes) (s : State) : (putWaiting fm c req s).chk = s.chk :=
  congrArg Calm.chk (putWaiting_calm fm c req s)
@[simp] theorem putWaiting_trk (fm : Form) (c : Caller) (req : Bytes) (s : State) : (putWaiting fm c req s).trk = s.trk :=
  congrArg Calm.trk (putWaiting_calm fm c req s)
@[simp] theorem putWaiting_chains (fm : Form) (c : Caller) (req : Bytes) (s : State) : (putWaiting fm c req s).chains = s.chains :=
  congrArg Calm.chains (putWaiting_calm fm c req s)
@[simp] theorem putWaiting_sns (fm : Form) (c : Caller) (req : Bytes) (s : State) : (putWaiting fm c req s).sns = s.sns :=
  congrArg Calm.sns (putWaiting_calm fm c req s)
@[simp] theorem putWaiting_sec (fm : Form) (c : Caller) (req : Bytes) (s : State) : (putWaiting fm c req s).sec = s.sec :=
  congrArg Calm.sec (putWaiting_calm fm c req s)
@[simp] theorem putWaiting_mram (fm : Form) (c : Caller) (req : Bytes) (s : State) : (putWaiting fm c req s).mram = s.mram :=
  congrArg Calm.mram (putWaiting_calm fm c req s)
@[simp] theorem putWaiting_ddr (fm : Form) (c : Caller) (req : Bytes) (s : State) : (putWaiting fm c req s).ddr = s.ddr :=
  congrArg Calm.ddr (putWaiting_calm fm c req s)
@[simp] theorem forget_part (c : Caller) (s : State) : (forget c s).part = s.part :=
  congrArg Calm.part (forget_calm c s)
@[simp] theorem forget_pending (c : Caller) (s : State) : (forget c s).pending = s.pending :=
  congrArg Calm.pending (forget_calm c s)
@[simp] theorem forget_now (c : Caller) (s : State) : (forget c s).now = s.now :=
  congrArg Calm.now (forget_calm c s)
@[simp] theorem forget_free (c : Caller) (s : State) : (forget c s).free = s.free :=
  congrArg Calm.free (forget_calm c s)
@[simp] theorem forget_pwr (c : Caller) (s : State) : (forget c s).pwr = s.pwr :=
  congrArg Calm.pwr (forget_calm c s)
@[simp] theorem forget_syn (c : Caller) (s : State) : (forget c s).syn = s.syn :=
  congrArg Calm.syn (forget_calm c s)
@[simp] theorem forget_tmb (c : Caller) (s : State) : (forget c s).tmb = s.tmb :=
  congrArg Calm.tmb (forget_calm c s)
@[simp] theorem forget_pods (c : Caller) (s : State) : (forget c s).pods = s.pods :=
  congrArg Calm.pods (forget_calm c s)
@[simp] theorem forget_own (c : Caller) (s : State) : (forget c s).own = s.own :=
  congrArg Calm.own (forget_calm c s)
@[simp] theorem forget_fw (c : Caller) (s : State) : (forget c s).fw = s.fw :=
  congrArg Calm.fw (forget_calm c s)
@[simp] theorem forget_ports (c : Caller) (s : State) : (forget c s).ports = s.ports :=
  congrArg Calm.ports (forget_calm c s)
@[simp] theorem forget_lbf (c : Caller) (s : State) : (forget c s).lbf = s.lbf :=
  congrArg Calm.lbf (forget_calm c s)
@[simp] theorem forget_nbrs (c : Caller) (s : State) : (forget c s).nbrs = s.nbrs :=
  congrArg Calm.nbrs (forget_calm c s)
@[simp] theorem forget_eps (c : Caller) (s : State) : (forget c s).eps = s.eps :=
  congrArg Calm.eps (forget_calm c s)
@[simp] theorem forget_tm (c : Caller) (s : State) : (forget c s).tm = s.tm :=
  congrArg Calm.tm (forget_calm c s)
@[simp] theorem forget_canc (c : Caller) (s : State) : (forget c s).canc = s.canc :=
  congrArg Calm.canc (forget_calm c s)
@[simp] theorem forget_cph (c : Caller) (s : State) : (forget c s).cph = s.cph :=
  congrArg Calm.cph (forget_calm c s)
@[simp] theorem forget_chk (c : Caller) (s : State) : (forget c s).chk = s.chk :=
  congrArg Calm.chk (forget_calm c s)
@[simp] theorem forget_trk (c : Caller) (s : State) : (forget c s).trk = s.trk :=
  congrArg Calm.trk (forget_calm c s)
@[simp] theorem forget_chains (c : Caller) (s : State) : (forget c s).chains = s.chains :=
  congrArg Calm.chains (forget_calm c s)
@[simp] theorem forget_sns (c : Caller) (s : State) : (forget c s).sns = s.sns :=
  congrArg Calm.sns (forget_calm c s)
@[simp] theorem forget_sec (c : Caller) (s : State) : (forget c s).sec = s.sec :=
  congrArg Calm.sec (forget_calm c s)
@[simp] theorem forget_mram (c : Caller) (s : State) : (forget c s).mram = s.mram :=
  congrArg Calm.mram (forget_calm c s)
@[simp] theorem forget_ddr (c : Caller) (s : State) : (forget c s).ddr = s.ddr :=
  congrArg Calm.ddr (forget_calm c s)
@[simp] theorem ringPut_part (r : RingAt) (prod : Nat) (data : Bytes) (s : State) : (ringPut r prod data s).part = s.part :=
  congrArg Calm.part (ringPut_calm r prod data s)
@[simp] theorem ringPut_pending (r : RingAt) (prod : Nat) (data : Bytes) (s : State) : (ringPut r prod data s).pending = s.pending :=
  congrArg Calm.pending (ringPut_calm r prod data s)
@[simp] theorem ringPut_now (r : RingAt) (prod : Nat) (data : Bytes) (s : State) : (ringPut r prod data s).now = s.now :=
  congrArg Calm.now (ringPut_calm r prod data s)
@[simp] theorem ringPut_free (r : RingAt) (prod : Nat) (data : Bytes) (s : State) : (ringPut r prod data s).free = s.free :=
  congrArg Calm.free (ringPut_calm r prod data s)
@[simp] theorem ringPut_pwr (r : RingAt) (prod : Nat) (data : Bytes) (s : State) : (ringPut r prod data s).pwr = s.pwr :=
  congrArg Calm.pwr (ringPut_calm r prod data s)
@[simp] theorem ringPut_syn (r : RingAt) (prod : Nat) (data : Bytes) (s : State) : (ringPut r prod data s).syn = s.syn :=
  congrArg Calm.syn (ringPut_calm r prod data s)
@[simp] theorem ringPut_tmb (r : RingAt) (prod : Nat) (data : Bytes) (s : State) : (ringPut r prod data s).tmb = s.tmb :=
  congrArg Calm.tmb (ringPut_calm r prod data s)
@[simp] theorem ringPut_pods (r : RingAt) (prod : Nat) (data : Bytes) (s : State) : (ringPut r prod data s).pods = s.pods :=
  congrArg Calm.pods (ringPut_calm r prod data s)
@[simp] theorem ringPut_own (r : RingAt) (prod : Nat) (data : Bytes) (s : State) : (ringPut r prod data s).own = s.own :=
  congrArg Calm.own (ringPut_calm r prod data s)
@[simp] theorem ringPut_fw (r : RingAt) (prod : Nat) (data : Bytes) (s : State) : (ringPut r prod data s).fw = s.fw :=
  congrArg Calm.fw (ringPut_calm r prod data s)
@[simp] theorem ringPut_ports (r : RingAt) (prod : Nat) (data : Bytes) (s : State) : (ringPut r prod data s).ports = s.ports :=
  congrArg Calm.ports (ringPut_calm r prod data s)
@[simp] theorem ringPut_lbf (r : RingAt) (prod : Nat) (data : Bytes) (s : State) : (ringPut r prod data s).lbf = s.lbf :=
  congrArg Calm.lbf (ringPut_calm r prod data s)
@[simp] theorem ringPut_nbrs (r : RingAt) (prod : Nat) (data : Bytes) (s : State) : (ringPut r prod data s).nbrs = s.nbrs :=
  congrArg Calm.nbrs (ringPut_calm r prod data s)
@[simp] theorem ringPut_eps (r : RingAt) (prod : Nat) (data : Bytes) (s : State) : (ringPut r prod data s).eps = s.eps :=
  congrArg Calm.eps (ringPut_calm r prod data s)
@[simp] theorem ringPut_tm (r : RingAt) (prod : Nat) (data : Bytes) (s : State) : (ringPut r prod data s).tm = s.tm :=
  congrArg Calm.tm (ringPut_calm r prod data s)
@[simp] theorem ringPut_canc (r : RingAt) (prod : Nat) (data : Bytes) (s : State) : (ringPut r prod data s).canc = s.canc :=
  congrArg Calm.canc (ringPut_calm r prod data s)
@[simp] theorem ringPut_cph (r : RingAt) (prod : Nat) (data : Bytes) (s : State) : (ringPut r prod data s).cph = s.cph :=
  congrArg Calm.cph (ringPut_calm r prod data s)
@[simp] theorem ringPut_chk (r : RingAt) (prod : Nat) (data : Bytes) (s : State) : (ringPut r prod data s).chk = s.chk :=
  congrArg Calm.chk (ringPut_calm r prod data s)
@[simp] theorem ringPut_trk (r : RingAt) (prod : Nat) (data : Bytes) (s : State) : (ringPut r prod data s).trk = s.trk :=
  congrArg Calm.trk (ringPut_calm r prod data s)
@[simp] theorem ringPut_chains (r : RingAt) (prod : Nat) (data : Bytes) (s : State) : (ringPut r prod data s).chains = s.chains :=
  congrArg Calm.chains (ringPut_calm r prod data s)
@[simp] theorem ringPut_sns (r : RingAt) (prod : Nat) (data : Bytes) (s : State) : (ringPut r prod data s).sns = s.sns :=
  congrArg Calm.sns (ringPut_calm r prod data s)
@[simp] theorem ringPut_sec (r : RingAt) (prod : Nat) (data : Bytes) (s : State) : (ringPut r prod data s).sec = s.sec :=
  congrArg Calm.sec (ringPut_calm r prod data s)
@[simp] theorem ringPut_mram (r : RingAt) (prod : Nat) (data : Bytes) (s : State) : (ringPut r prod data s).mram = s.mram :=
  congrArg Calm.mram (ringPut_calm r prod data s)
@[simp] theorem ringPut_ddr (r : RingAt) (prod : Nat) (data : Bytes) (s : State) : (ringPut r prod data s).ddr = s.ddr :=
  congrArg Calm.ddr (ringPut_calm r prod data s)

end Sys2Proof.Machine
end

