-- ==== Sys2Proof/Laws/RunCmd.lean ====
section
/-! SUPPORT. What runCmd does with a command that may start, by what its own meaning replies. -/

namespace Sys2Proof.Machine

variable {fm : Form} {c : Caller} {req : Bytes} {body : State → State × Reply} {s t : State}

/-- A command that may start and is well formed runs its own meaning. -/
theorem runCmd_starts (h : mayStart s c fm.code fm.names = true) (w : fm.wellFormed = true) (p : fm.pod0 = true → c.pod = 0) :
    runCmd fm c req body s = match body s with
      | (s', .done st resp) => complete c st resp (mirrorConfig { caller := c, code := fm.code, req := req } st s')
      | (s', .held) => hold fm c req true s'
      | (s', .open_) => hold fm c req false s'
      | (s', .untaken) => forget c s'
      | (s', .wait) => putWaiting fm c req s' := by
  simp only [mayStart, Bool.and_eq_true, Bool.not_eq_true', decide_eq_true_eq] at h
  obtain ⟨⟨⟨⟨⟨⟨⟨⟨⟨⟨h1, h2⟩, h3⟩, h4⟩, h5⟩, h6⟩, h7⟩, h8⟩, h9⟩, h10⟩, h11⟩ := h
  have e1 : ¬ ((!s.mgmt.ready || !fnExists s c.pod || decide (c.lane > 2) || (pod s c.pod).resetting ||
      (!c.gone && laneHeld s c.pod c.lane) || standbyStops s c) = true) := by
    have : ¬ c.lane > 2 := by omega
    cases hg : c.gone <;> simp_all
  have e5 : ¬ ((fm.pod0 && c.pod != 0) = true) := by
    cases hp : fm.pod0
    · simp
    · simp [p hp]
  have e6 : ¬ ((behindWaiting s c || fm.names.any (busyResource s c) || namesPodInReset s c fm.names) = true) := by
    rw [h9, h10, h11]; exact Bool.false_ne_true
  unfold runCmd
  rw [if_neg e1, if_neg (by rw [h7]; exact Bool.false_ne_true), if_neg (by rw [h8]; exact Bool.false_ne_true),
    if_neg (by rw [w]; exact Bool.false_ne_true), if_neg e5, if_neg e6]
  all_goals
    rcases body s with ⟨u, r⟩
    cases r <;> rfl

/-- It completes at once. -/
theorem runCmd_done {st : Status} {resp : Bytes} (h : mayStart s c fm.code fm.names = true) (w : fm.wellFormed = true)
    (p : fm.pod0 = true → c.pod = 0) (hb : body s = (t, .done st resp)) :
    runCmd fm c req body s = complete c st resp (mirrorConfig { caller := c, code := fm.code, req := req } st t) := by
  rw [runCmd_starts h w p, hb]

/-- It goes on, past its commit point. -/
theorem runCmd_held (h : mayStart s c fm.code fm.names = true) (w : fm.wellFormed = true) (p : fm.pod0 = true → c.pod = 0)
    (hb : body s = (t, .held)) : runCmd fm c req body s = hold fm c req true t := by
  rw [runCmd_starts h w p, hb]

/-- It goes on, its commit point still to come. -/
theorem runCmd_open {s t : State} (h : mayStart s c fm.code fm.names = true) (w : fm.wellFormed = true) (p : fm.pod0 = true → c.pod = 0)
    (hb : body s = (t, .open_)) : runCmd fm c req body s = hold fm c req false t := by
  rw [runCmd_starts h w p, hb]

end Sys2Proof.Machine
end

