-- ==== Sys2Proof/Laws/Table.lean ====
section
/-! SUPPORT. Sparse tables: an entry put reads back, every other entry reads as before. -/

namespace Sys2Proof.Machine

variable {α : Type}

/-- The entry put at a key. -/
@[simp] theorem tget_tset_self (d : α) (t : Table α) (i : Nat) (x : α) : tget d (tset t i x) i = x := by
  induction t with
  | nil => simp [tset, tget]
  | cons e t ih =>
    obtain ⟨k, v⟩ := e
    unfold tset
    split
    · simp [tget]
    · split
      · simp [tget]
      · simp [tget, *]

/-- Every other entry. -/
theorem tget_tset_other (d : α) (t : Table α) {i j : Nat} (x : α) (h : j ≠ i) : tget d (tset t i x) j = tget d t j := by
  induction t with
  | nil => simp [tset, tget, Ne.symm h]
  | cons e t ih =>
    obtain ⟨k, v⟩ := e
    unfold tset
    split
    · simp [tget, Ne.symm h]
    · split
      · rename_i hk
        subst hk
        simp [tget, Ne.symm h]
      · simp [tget, ih]

/-- The entry of a key taken away reads as the default. -/
@[simp] theorem tget_tdel_self (d : α) (t : Table α) (i : Nat) : tget d (tdel t i) i = d := by
  induction t with
  | nil => rfl
  | cons e t ih =>
    obtain ⟨k, v⟩ := e
    unfold tdel
    split
    · exact ih
    · simp [tget, *]

/-- Every other entry stays. -/
theorem tget_tdel_other (d : α) (t : Table α) {i j : Nat} (h : j ≠ i) : tget d (tdel t i) j = tget d t j := by
  induction t with
  | nil => rfl
  | cons e t ih =>
    obtain ⟨k, v⟩ := e
    unfold tdel
    split
    · rename_i hk
      subst hk
      simp [tget, Ne.symm h, ih]
    · simp [tget, ih]

end Sys2Proof.Machine
end

