-- ==== Sys2Proof/Tests/Slice0.lean ====
section
/-! SUPPORT. Tests of the model, and a state and operands that meet the hypotheses of every statement. -/

namespace Sys2Proof

open Machine

set_option maxRecDepth 8000
set_option Elab.async false

/-- What a command meets outside when nothing goes wrong. -/
def Tests.io0 : CmdIo :=
  { readFails := false, consumer := none, data := none, drvfltLow := false, image := none, tamperActive := 0 }

/-- A command of pod 0 on its normal lane, its response inline. -/
def Tests.pod0 : Caller := { pod := 0, lane := 1, tag := 7, respAddr := 0, respMax := 0, raise := false, gone := false, io := Tests.io0 }

/-- A running device whose firmware takes commands, the host link up. -/
def Tests.up : State :=
  { State.reset with pwr.phase := .running, mgmt.fwState := .running, mgmt.ready := true, host.linkUp := true,
                     syn.aLock := true, syn.bLock := true }

/-! ### Well-formedness: each check refuses an ill-formed command -/

theorem test_wf_port : (Instr.txenRise 128).wellFormed .gnz5120 = false ∧ (Instr.txenRise 32).wellFormed .gnz5032 = false ∧
    (Instr.txenRise 127).wellFormed .gnz5120 = true ∧ (Instr.cancellerDisengagedTimeout 0 128).wellFormed .gnz5120 = false := by decide

theorem test_wf_trunk_lane : (Instr.lofEntry 8).wellFormed .gnz5120 = false ∧ (Instr.lofEntry 2).wellFormed .gnz5032 = false ∧
    (Instr.lofEntry 7).wellFormed .gnz5120 = true := by decide

theorem test_wf_function : (Instr.evtRingFaultClear 65).wellFormed .gnz5120 = false ∧
    (Instr.vfFunctionLevelReset 0).wellFormed .gnz5120 = false ∧ (Instr.podResetComplete 65).wellFormed .gnz5120 = false ∧
    (Instr.podResetComplete 64).wellFormed .gnz5120 = true := by decide

theorem test_wf_mailbox_lane : (Instr.mbxDoorbell 0 3 1).wellFormed .gnz5120 = false ∧ (Instr.mbxFaultClear 65 0).wellFormed .gnz5120 = false ∧
    (Instr.mbxDoorbell 64 2 1).wellFormed .gnz5120 = true := by decide

theorem test_wf_cipher_ring : (Instr.cphRingDoorbell 0 4 1).wellFormed .gnz5120 = false ∧
    (Instr.cphRingDoorbell 64 3 1).wellFormed .gnz5120 = true ∧ (Instr.maskReseed 4).wellFormed .gnz5120 = false := by decide

theorem test_wf_tile_lane_chain : (Instr.paceMonitorUpdate 20 0 0 0 0).wellFormed .gnz5120 = false ∧
    (Instr.paceMonitorUpdate 4 0 0 0 0).wellFormed .gnz5032 = false ∧ (Instr.txFifoLowWater 512).wellFormed .gnz5120 = false ∧
    (Instr.bankSwapEffect ⟨552, 0⟩).wellFormed .gnz5120 = false ∧ (Instr.bankSwapEffect ⟨128, 0⟩).wellFormed .gnz5032 = false := by decide

theorem test_wf_sensing : (Instr.scanFrameStart 8 []).wellFormed .gnz5120 = false ∧ (Instr.clampFlagChange 96 true).wellFormed .gnz5120 = false ∧
    (Instr.chargeReset 32 0).wellFormed .gnz5120 = false ∧
    (Instr.pdClusterClose 16 none).wellFormed .gnz5120 = false ∧ (Instr.i2cTransferStart 2).wellFormed .gnz5120 = false := by decide

theorem test_wf_other : (Instr.tamperQualify 7).wellFormed .gnz5120 = false ∧ (Instr.evtSrcCfgWrite 1536 0).wellFormed .gnz5120 = false ∧
    (Instr.pmcValueWrite 256 0 0).wellFormed .gnz5120 = false ∧ (Instr.msixVectorUnmask 1 16).wellFormed .gnz5120 = false ∧
    (Instr.msixVectorUnmask 0 1024).wellFormed .gnz5120 = false ∧ (Instr.chkContextWrite 1024 0 0).wellFormed .gnz5120 = false ∧
    (Instr.apertureAccess 1 false 4294967295 2 []).wellFormed .gnz5120 = false := by decide

/-- An ill-formed command faults. -/
theorem test_fault_port : exec (.txenRise 128) Tests.up = .fault .absentResource := by rfl

/-- The table gives no row any bits. -/
theorem test_decode_none : decodeTableWord 64 0 = none ∧ Tests.up.withFetchWord 64 0 = Tests.up := ⟨rfl, rfl⟩

/-! ### Worked examples and tables of the manual -/

/-- R330: the check column, over the nine bytes "123456789". -/
theorem test_crc_presets : [1, 2, 3, 4].map (fun n => (crcPreset n).map (fun a => crc a [49, 50, 51, 52, 53, 54, 55, 56, 57])) =
    [some 0xCBF43926, some 0xE3069283, some 0x29B1, some 0x6C40DF5F0B497347] := by decide +kernel

/-- 05, the worked example after R149: 1,500 octets at rate 5/6, two streams, guard 768. -/
theorem test_frame_duration : cwFor 1500 2 = 0 ∧ codedBits 1500 2 0 = 14880 ∧ bodySymbols 1500 2 0 26144 2 0 1 = 1 ∧
    frameSamples false 0 2 1 1 = 27008 := by decide +kernel

/-- R149: frames without a body. -/
theorem test_frame_without_body : frameSamples false 1 1 1 0 = 10880 ∧ frameSamples true 1 1 1 0 = 53120 := by decide

/-- 08, the worked example of the escalation: 80 octets at the robust rate in Leek form, 231 carriers, ×4 and ×8. -/
theorem test_leek_symbols : codedBits 80 0 0 = 2800 ∧ bodySymbols 80 0 0 231 1 0 4 = 49 ∧ bodySymbols 80 0 0 231 1 0 8 = 97 := by decide +kernel

/-- 06, the worked example after R163: a half period of 10 ms that starts at 2.469134 ms. -/
theorem test_cycle_slots : [500000, 1850000, 4500000].map (slotOf { half := 1280000000, phase := 1234567 }) = [6, 0, 5] := by decide +kernel

/-- 07, the worked example after R186: the start moves by 4,288 samples. -/
theorem test_grid_delay : gridDelay { Tests.up with canc.pairs := [(128 * 40 + 41, {})] } 40
    (5120 + 5632 * (1 + ceCount 2)) 1000000 = 4288 := by decide +kernel

/-- 11, the worked example after R302: the hardware nonce of page 5, slot 3. -/
theorem test_nonce : nonceBytes { Tests.up with cph.instanceId := 0x00A1 } 5 3 0x0123456700000000 ≠ [] ∧
    nonceBytes { Tests.up with cph.instanceId := 0x00A1 } 5 3 0x01234567 =
      [0x05, 0x03, 0x00, 0xA1, 0x00, 0x00, 0x00, 0x00, 0x01, 0x23, 0x45, 0x67] := by decide +kernel

/-- 14, the example after R385: the instant of the second of four enabled voltage positions lies 52 us after the frame's start. -/
theorem test_scan_instant : instantHalfUs ⟨0xF0, 200, [4, 5, 6, 7].map (fun p => (p, { settleUs := 2, conv := 2 }))⟩ 5 = 104 := by decide +kernel

/-- R590: 8-bit serial numbers; exactly half the circle apart is not newer. -/
theorem test_serial : serialNewer 8 3 0xFF = true ∧ serialNewer 8 0x80 0 = false ∧ serialNewer 8 0 0x80 = false ∧ serialNewer 8 0 0 = false := by
  decide

/-- R7: mailbox fields little-endian, line fields most significant first. -/
theorem test_byte_order : leBytes 4 0x01020304 = [4, 3, 2, 1] ∧ beBytes 2 0x0102 = [1, 2] ∧ rd [0, 4, 3, 2, 1] 1 4 = 0x01020304 := by decide

/-- R8: lane 343 is port 85, and the GNZ5032 does not have it. -/
theorem test_lane_343 : 343 / 4 = 85 ∧ Part.hasChain .gnz5032 343 = false ∧ Part.hasChain .gnz5120 343 = true := by decide

/-- R52: a regulator read at 771 mV is asked for 775 mV at the loop's start. -/
theorem test_avs_start : (match exec (.avsLoopStart 771)
      { Tests.up with pwr.tiles := (List.range 20).map (fun n => (n, { slack := 50, valid := true })) } with
    | .next t => t.pwr.avs.vReq | _ => 0) = 775 := by decide +kernel

/-- R559: SIZE_LOG2 6 does not enable a ring; it faults. -/
theorem test_ring_size : (match exec (.evtRingEnable 0 true) { Tests.up with evt.rings := [(0, { sizeLog2 := 6 })] } with
    | .next t => ((evtRing t 0).enable, (evtRing t 0).fault) | _ => (true, false)) = (false, true) := by decide +kernel

/-- R115: a chain at its reset configuration passes the sample on, scaled to 32 bits. -/
theorem test_chain_identity : roundEven (chainSample 0 {} 0 {} (-5)).2.1 14 = -5 * 65536 := by decide +kernel

/-- An empty queue lets one sample period pass (log 2). -/
theorem test_idle : (match step Tests.up with
    | .next t => t.now | _ => 0) = 1 := by decide +kernel

theorem witness_PaceMonitorPublishes : Running Tests.up ∧ Tests.up.part.hasTile 19 = true ∧ (255 : Nat) < 256 := by decide +kernel

/-- A running device whose 20 tiles have published a slack. -/
def Tests.paced (slack : BitVec 16) : State :=
  { Tests.up with pwr.tiles := (List.range 20).map (fun n => (n, { slack := slack, valid := true })) }

theorem witness_AdaptiveVoltageLoop_start : Running (Tests.paced 0) ∧ (Tests.paced 0).pwr.avs.started = false ∧
    (∀ n ∈ tilesOf (Tests.paced 0), (tile (Tests.paced 0) n).valid = true) ∧ (Tests.paced 0).pwr.avs.vCap < 65536 := by decide +kernel

/-- The same with the loop started, a request of 700 mV awaiting its check. -/
def Tests.looping (slack : BitVec 16) : State :=
  { Tests.paced slack with pwr.avs.started := true, pwr.avs.vReq := 700, pwr.avs.checks := [200] }

theorem witness_AdaptiveVoltageLoop_period : Running (Tests.looping 40) ∧ (Tests.looping 40).pwr.avs.started = true ∧
    leastTile (Tests.looping 40) (tilesOf (Tests.looping 40)) = some 0 ∧ slackOf (Tests.looping 40) 0 < 41 ∧
    (Tests.looping 40).pwr.avs.vReq.toNat ≤ (Tests.looping 40).pwr.avs.vCap ∧
    ((Tests.looping 40).pwr.avs.fault = true → (Tests.looping 40).pwr.avs.vReq.toNat + 10 ≤ min (Tests.looping 40).pwr.avs.vCap 900) := by decide +kernel

theorem witness_AdaptiveVoltageLoop_checks : Running (Tests.looping 40) ∧ (Tests.looping 40).pwr.avs.started = true ∧
    (Tests.looping 40).pwr.avs.checks = 200 :: [] ∧ pageOpen Tests.up 0 = true := by decide +kernel

/-- A request for port 0 and profile Full-band; the same bytes set no cap. -/
def Tests.cap : Bytes := leBytes 2 700 ++ zeros 6

theorem witness_PowerCommands_cap : mayStart Tests.up Tests.pod0 0x0E04 [] = true ∧ shaped Tests.cap 8 [(2, 6)] = true ∧ Tests.pod0.pod = 0 ∧
    600 ≤ rd Tests.cap 0 2 ∧ rd Tests.cap 0 2 ≤ 900 ∧ rd Tests.cap 0 2 % 5 = 0 := by decide +kernel

/-- Port 0 of a running device, open. -/
def Tests.open0 (x : Port) : State := { Tests.up with ports := [(0, { x with line.mode := .three })] }

theorem witness_PowerCommands_profile : mayStart Tests.up Tests.pod0 0x0E03 [.port 0] = true ∧ shaped (zeros 8) 8 [(4, 4)] = true ∧
    profileOf (rd (zeros 8) 2 1) (rd (zeros 8) 3 1) = some .fullBand ∧ rd (zeros 8) 0 2 < Tests.up.part.ports ∧
    isOpen Tests.up (rd (zeros 8) 0 2) = false ∧ mayStart (Tests.open0 {}) Tests.pod0 0x0E03 [.port 0] = true ∧
    isOpen (Tests.open0 {}) 0 = true ∧ (port (Tests.open0 {}) 0).line.nextProfile = none := by decide +kernel

/-- The waveform of an empty frame on four lanes. -/
def Tests.wave0 : Wave :=
  { fc := 0, body := [], loading := [], feedback := [], sounding := 0, chive := false, mask := 0, level := 0, atten := [0, 0, 0, 0],
    lanes := 15 }

/-- A frame on the line. -/
def Tests.tx0 : Tx :=
  { kind := 0, cls := 1, dest := 5, ackReq := false, attempt := 0, firstSeq := 0, mapId := 0, leek := some 2, flights := [1],
    queue := 0, body := [], startAt := 0, endAt := 0, symbols := 1, symLen := 1, bodyOff := 0, wave := Tests.wave0 }

theorem witness_PowerCommands_alarms : 3 < Tests.up.part.lanes ∧ (port (Tests.open0 { mac.tx := some Tests.tx0 }) (3 / 4)).mac.tx.isSome = true ∧
    (200 : Nat) ≤ 200 ∧ { Tests.up with trk.pair.role := .active : State }.trk.pair.role = .active := by decide +kernel

theorem witness_DeviceResetCauses : Tests.up.pwr.phase ≠ .resetPhase ∧ (1000 : Nat) ≤ 1000 ∧ (17 : Nat) % 16 ≠ 0 ∧ Running Tests.up ∧
    Tests.up.host.linkUp = true ∧ State.reset.pwr.phase = .resetPhase ∧ (999 : Nat) < 1000 := by decide +kernel

theorem witness_DeviceResetCauses_command : mayStart Tests.up Tests.pod0 0x1203 [] = true ∧ shaped (zeros 8) 8 [(0, 8)] = true ∧
    Tests.pod0.pod = 0 ∧ Running Tests.up ∧ Tests.up.trk.pair.role ≠ .active ∧ Tests.pod0.gone = false := by decide +kernel

/-- A sound image in slot 0, selected. -/
def Tests.boot : BootView :=
  { selA := some (1, 0), selB := none, img0 := some { magicOk := true, version := 0x0104, stateFormat := 1, length := 4096, secver := 0, keyIndex := 0, sigOk := true },
    img1 := none, entropyPass := true, badCeilings := [], badRecords := [], badLins := [] }

theorem witness_StartUpReachesReady : State.reset.pwr.phase = .resetPhase ∧ State.reset.mgmt.ready = false ∧ State.reset.sec.bootOk = false ∧
    (bootChoice State.reset Tests.boot).isSome = true ∧ bootChoice State.reset { Tests.boot with img0 := none } = none := by decide +kernel

/-- A device in standby, port 3 a Chive port with wake enabled, every wake source enabled, endpoint 5 admitted on port 3. -/
def Tests.asleep : State :=
  { State.reset with
      pwr.phase := .standby
      pwr.chive := [(3, true)]
      pwr.wakeN := some 0
      pwr.order := some { lane := 1, flags := 6, wakeClass := 0, chiveEvery := 4, wakeAt := 0, recordAt := some 0 }
      eps := [(5, { state := .reachable, port := 3 })] }

/-- A wake frame control: class 1 data in Leek x8 from endpoint 5 to the device. -/
def Tests.wakeFc : Nat := packFc { mode := 2, rx := devAddr, tx := 5, cls := 1, units := 1 }

theorem witness_StandbyAndWake_entry :
    let s := { Tests.asleep with pwr.phase := .running }
    Running s ∧ s.pwr.order.map (·.recordAt) = some (some 0) ∧ s.pwr.order.map (·.wake) = some none := by decide +kernel

theorem witness_StandbyAndWake_frame : Tests.asleep.pwr.phase = .standby ∧ allStopped Tests.asleep = false ∧ 3 < Tests.asleep.part.ports ∧
    tget false Tests.asleep.pwr.chive 3 = true ∧ fcValid Tests.wakeFc = true ∧ fcReserved (parseFc Tests.wakeFc) = false ∧
    (parseFc Tests.wakeFc).fcType = 0 ∧ (parseFc Tests.wakeFc).kind ≤ 1 ∧ (parseFc Tests.wakeFc).mode = 2 ∧
    (parseFc Tests.wakeFc).rx = devAddr ∧ 0 ≤ (parseFc Tests.wakeFc).cls ∧ isNeighbour Tests.asleep 3 (parseFc Tests.wakeFc).tx = true := by
  decide +kernel

theorem witness_StandbyAndWake_sources : Tests.asleep.pwr.order.map (fun o => (bit o.flags 1, bit o.flags 2, o.recordAt, o.chiveEvery)) =
    some (true, true, some 0, 4) ∧ Tests.asleep.pwr.wakeN = some 0 ∧ thas Tests.asleep.pwr.chive 3 = true ∧
    (port Tests.asleep 3).mac.beaconSeq.toNat + chiveSteps Tests.asleep (port Tests.asleep 3) 4 < 65536 := by decide

/-- Requests: standby without discard woken by WAKE_IN_N, the same with discard, and port 0 a Chive port. -/
def Tests.sleepReq (flags : Nat) : Bytes := leBytes 1 flags ++ [0, 1] ++ zeros 13

theorem witness_StandbyCommands_order : mayStart Tests.up Tests.pod0 0x1201 [] = true ∧ shaped (Tests.sleepReq 2) 16 [(3, 5)] = true ∧
    shaped (Tests.sleepReq 3) 16 [(3, 5)] = true ∧ Tests.pod0.pod = 0 ∧ rd (Tests.sleepReq 3) 0 1 ≤ 7 ∧ rd (Tests.sleepReq 3) 1 1 ≤ 3 ∧
    1 ≤ rd (Tests.sleepReq 3) 2 1 ∧ rd (Tests.sleepReq 3) 2 1 ≤ 4 ∧ bit (rd (Tests.sleepReq 2) 0 1) 0 = false ∧
    bit (rd (Tests.sleepReq 3) 0 1) 0 = true ∧ bit (rd (Tests.sleepReq 3) 0 1) 2 = false ∧ isPaired Tests.up = false ∧
    anyWake Tests.up 2 = true ∧ Tests.up.lbf.flights = [] := by decide +kernel

theorem witness_StandbyCommands_apply :
    let s := { Tests.up with mram.standby := some (capture [] Tests.up), pwr.waking := true, pwr.setValid := true }
    s.mram.standby.isSome = true ∧ s.pwr.waking = true ∧ s.mgmt.ready = true ∧ s.pwr.setValid = true := by decide +kernel

theorem witness_StandbyCommands_chive : mayStart Tests.up Tests.pod0 0x1202 [.port 0] = true ∧ shaped (leBytes 3 0x30000 ++ zeros 5) 8 [(3, 5)] = true ∧
    rd (leBytes 3 0x30000 ++ zeros 5) 0 2 = 0 ∧ bit (rd (leBytes 3 0x30000 ++ zeros 5) 2 1) 0 = true ∧ Tests.up.pwr.chive.length < 16 ∧
    bit (rd (zeros 8) 2 1) 0 = false := by decide +kernel

/-- port.open of port 0, three-phase, the times in range. -/
def Tests.openReq : Bytes := zeros 12 ++ leBytes 2 2000 ++ leBytes 2 500 ++ zeros 8

/-- A calibration in which every lane passes. -/
def Tests.calOk : CalResult := { pass := 15, apertures := [0, 0, 0, 0] }

theorem witness_PortOpens_open : mayStart Tests.up Tests.pod0 0x0101 [.port 0] = true ∧ shaped Tests.openReq 24 [(17, 7)] = true ∧
    rd Tests.openReq 0 2 < Tests.up.part.ports ∧ openOk Tests.openReq = true ∧ mayPort Tests.up Tests.pod0 0 = true ∧
    isOpen Tests.up 0 = false ∧ allStopped Tests.up = false ∧ calibrations Tests.up < 32 ∧ (port Tests.up 0).line.stopped = false := by
  decide +kernel

theorem witness_PortOpens_end :
    let s := fun (k : Cal) => { Tests.up with ports := [(0, { line.cal := k })] }
    0 < (s .none).part.ports ∧ (s .none).mgmt.fwState = .running ∧ (port (s (.opening Tests.pod0 Tests.openReq)) 0).line.cal =
      .opening Tests.pod0 Tests.openReq ∧ (port (s (.reopening Tests.openReq)) 0).line.cal = .reopening Tests.openReq ∧
    lanePassed Tests.calOk 0 = true ∧ lanePassed Tests.calOk 3 = true ∧ lanePassed { Tests.calOk with pass := 14 } 0 = false := by
  decide +kernel

theorem witness_PortOpens_close : mayStart (Tests.open0 {}) Tests.pod0 0x0102 [.port 0] = true ∧ shaped (zeros 8) 8 [(3, 5)] = true ∧
    rd (zeros 8) 0 2 < (Tests.open0 {}).part.ports ∧ rd (zeros 8) 2 1 ≤ 1 ∧ mayPort (Tests.open0 {}) Tests.pod0 0 = true ∧
    isOpen (Tests.open0 {}) 0 = true ∧ portTx (Tests.open0 {}) 0 = 0 ∧ (port (Tests.open0 {}) 0).mac.tx = none ∧
    (port (Tests.open0 {}) 0).mac.awaiting = none ∧ (port (Tests.open0 { mac.tx := some Tests.tx0 }) 0).mac.tx.isSome = true := by
  decide +kernel

theorem witness_Calibration_command : mayStart (Tests.open0 {}) Tests.pod0 0x0103 [.port 0] = true ∧ shaped (zeros 8) 8 [(2, 6)] = true ∧
    mayPort (Tests.open0 {}) Tests.pod0 0 = true ∧ isOpen (Tests.open0 {}) 0 = true ∧ allStopped (Tests.open0 {}) = false ∧
    calibrations (Tests.open0 {}) < 32 ∧ rd (zeros 8) 0 2 < (Tests.open0 {}).part.ports := by decide +kernel

theorem witness_Calibration_phases :
    let s := fun (k : Cal) => Tests.open0 { line.cal := k }
    (port (s (.waitIdle Tests.pod0)) 0).line.cal = .waitIdle Tests.pod0 ∧ (port (s (.waitIdle Tests.pod0)) 0).mac.tx = none ∧
    (port (s (.waitIdle Tests.pod0)) 0).mac.awaiting = none ∧ (port (s (.waitIdle Tests.pod0)) 0).mac.rx = none ∧
    (port (s (.waitIdle Tests.pod0)) 0).mac.ackDue = none ∧ (port (s (.running Tests.pod0)) 0).line.cal = .running Tests.pod0 := by
  decide +kernel

/-- lane.gain of lane 3 of port 0: fixed at 36 dB, attenuation 63. -/
def Tests.gainReq : Bytes := [0, 0, 3, 1, 72, 63, 0, 0]

theorem witness_Calibration_gain : mayStart (Tests.open0 {}) Tests.pod0 0x0104 [.port 0] = true ∧ shaped Tests.gainReq 8 [(6, 2)] = true ∧
    rd Tests.gainReq 0 2 = 0 ∧ rd Tests.gainReq 2 1 ≤ 3 ∧ rd Tests.gainReq 3 1 = 1 ∧ rd Tests.gainReq 5 1 ≤ 63 ∧
    -24 ≤ rdInt Tests.gainReq 4 1 ∧ rdInt Tests.gainReq 4 1 ≤ 72 ∧ (port (Tests.open0 {}) 0).line.mode ≠ .single := by decide +kernel

theorem witness_Calibration_rearm :
    let s := Tests.open0 { line.latched := true }
    mayStart s Tests.pod0 0x0105 [.port 0] = true ∧ Tests.pod0.io.drvfltLow = false ∧ (port s 0).line.latched = true := by decide +kernel

theorem witness_LineDriver_txen :
    let s := Tests.open0 { mac.tx := some Tests.tx0, line.frameGainEnd := some 7 }
    let u := Tests.open0 { line.txSpans := [(0, 10)], line.txen := .high }
    0 < s.part.ports ∧ (port s 0).mac.tx.map (·.startAt) = some 0 ∧ (port s 0).mac.tx = some Tests.tx0 ∧ mayTransmit s 0 = true ∧
    (port s 0).line.frameGainEnd = some 7 ∧ s.part.hasChain 551 = true ∧ s.now < { Tests.tx0 with endAt := 9 }.endAt ∧
    0 < u.part.ports ∧ (port u 0).line.txSpans = (0, 10) :: [] ∧ (port u 0).line.txen = .high ∧ (port u 0).mac.tx = none ∧
    nextTxStart u 0 = none ∧ mayTransmit u 0 = true ∧
    nextTxStart (Tests.open0 { mac.beaconing := true, mac.beaconAt := 5, mac.nextBeacon := 0 }) 0 = some 5 ∧
    Running s ∧ isOpen s 0 = true ∧ (port s 0).line.stopped = false ∧ 3 < s.part.lanes ∧
    (port (Tests.open0 { line.stopped := true }) 0).line.stopped = true := by decide +kernel

theorem witness_Synthesizers_reference : Running { Tests.up with syn.refHold := true } ∧ Tests.up.syn.refHold = false ∧
    { Tests.up with syn.refHold := true : State }.syn.refHold = true ∧ Running Tests.up ∧ Tests.up.syn.aFailed = false ∧
    synthPorts Tests.up .a = some (0, 63) ∧ synthPorts Tests.up .b = some (64, 127) ∧ Tests.up.syn.bFailed = false ∧
    Tests.up.syn.adoption = none := by decide +kernel

theorem witness_Synthesizers_rebalance :
    let s := { Tests.up with syn.ownerLo := 2, now := secs 1 }
    mayStart s Tests.pod0 0x0106 [] = true ∧ shaped (zeros 8) 8 [(0, 8)] = true ∧ adopted s = some (0, 63, .a) ∧
    allStopped s = false ∧ s.syn.adoption = none ∧ s.syn.refHold = false ∧ s.syn.aGoodSince + secs 1 ≤ s.now := by decide +kernel

theorem witness_Synthesizers_adoption :
    ({ Tests.up with syn.adoption := some ⟨0, 63, .b, 0, none⟩ } : State).syn.adoption = some ⟨0, 63, .b, 0, none⟩ := rfl

/-- An open port with a contention state. -/
def Tests.contending (k : Contend) (cls : Nat) : State :=
  Tests.open0 { mac := { contend := k, cls := cls, bc := some 3, idleSlots := 16, holdOff := some 9 } }

theorem witness_Contention_slots : 0 < Tests.up.part.ports ∧ mayExchange (Tests.contending .prs0 3) 0 = true ∧
    (port (Tests.contending .prs0 3) 0).mac.contend = .prs0 ∧ 2 ≤ (port (Tests.contending .prs0 3) 0).mac.cls ∧
    (port (Tests.contending .prs0 1) 0).mac.cls ≤ 1 ∧ mayExchange (Tests.contending .prs1 1) 0 = true ∧
    (port (Tests.contending .prs1 1) 0).mac.contend = .prs1 ∧ (port (Tests.contending .prs1 1) 0).mac.cls % 2 = 1 ∧
    (port (Tests.contending .prs1 0) 0).mac.cls % 2 = 0 ∧ (port (Tests.contending .prs0 4) 0).mac.cls = 4 ∧
    readyClass (advanceTo 0 (Tests.contending .prs0 4)) 0 = none := by decide +kernel

theorem witness_Contention_backoff : (port (Tests.contending .backoff 1) 0).mac.contend = .backoff ∧
    (port (Tests.contending .backoff 1) 0).mac.bc = some 3 ∧ 16 ≤ (port (Tests.contending .backoff 1) 0).mac.idleSlots ∧
    (port (Tests.contending .idle 1) 0).mac.holdOff = some 9 ∧ (port (Tests.contending .idle 1) 0).mac.rx = none ∧
    (port (Tests.contending .idle 1) 0).mac.tx = none ∧ (port (Tests.open0 { mac.tx := some Tests.tx0 }) 0).mac.tx.isSome = true := by
  decide +kernel

/-- A class 1 frame of 64 bytes for endpoint 5, staged at port 0, and its acknowledgement. -/
def Tests.frame1 : Flight := { port := 0, pod := 0, cls := 1, final := 5, len := 64, data := zeros 64, enqueued := true, inShare := true, inBacking := true }

/-- Port 0 open with the frame at the head of its queue, endpoint 5 reached directly, the back-off run out. -/
def Tests.ready : State :=
  { Tests.open0 { line.plcLanes := 15, mac := { contend := .backoff, cls := 1, bc := some 0, head := some (queueOf Tests.frame1, 1) } } with
      lbf.flights := [(1, Tests.frame1)]
      lbf.queues := [(queueOf Tests.frame1, { flights := [1] })]
      eps := [(5, { state := .reachable, port := 0, parent := devAddr, depth := 1 })] }

theorem witness_Frames_start :
    (port Tests.ready 0).mac.contend = .backoff ∧ (port Tests.ready 0).mac.bc = some 0 ∧ mayExchange Tests.ready 0 = true ∧
    (port Tests.ready 0).mac.tx = none ∧ (port Tests.ready 0).mac.rx = none ∧
    (port Tests.ready 0).mac.head = some (queueOf Tests.frame1, 1) ∧
    let u := advanceTo 0 Tests.ready
    queueReady u (queueOf Tests.frame1) = true ∧ (queue u (queueOf Tests.frame1)).flights.head? = some 1 ∧
    let v := scheduleStage 1 u
    let a := alignedStart v 0 v.now (fmtOf v (flight v 1) 5)
    hopOf v (flight v 1) = some 5 ∧ (aggregate v (queueOf Tests.frame1) 1 5).head? = some 1 ∧ a.1 ≤ opportunity ∧
    exchangeFits v 0 5 a.1 a.2 (octetsOf v [1]) (copiesLeft v 1) = true := by decide +kernel

theorem witness_Frames_leave :
    let s := { Tests.ready with lbf.queues := [] }
    queueReady (advanceTo 0 s) (queueOf Tests.frame1) = false ∧ (port s 0).mac.head = some (queueOf Tests.frame1, 1) ∧
    (port (Tests.contending .backoff 1) 0).mac.head = none ∧ (port (Tests.contending .backoff 1) 0).mac.cls ≠ 2 := by decide +kernel

theorem witness_Frames_sound :
    let s := { Tests.contending .backoff 2 with
      tm.links := [(5, { sound := [(0, 4, 1)] })]
      eps := [(5, { state := .reachable, port := 0, parent := devAddr, depth := 1 })] }
    soundDue (advanceTo 0 s) 0 = some (5, 4, 1, 0) ∧ (port s 0).mac.beaconing = false ∧ (port s 0).mac.head = none ∧
    (port s 0).mac.cls = 2 ∧ gridDelay (advanceTo 0 s) 0 (5120 + 5632) 0 = 0 := by decide +kernel

theorem witness_Frames_end : (port (Tests.open0 { mac.tx := some { Tests.tx0 with ackReq := true } }) 0).mac.tx.isSome = true := by
  decide +kernel

/-- The acknowledgement of the exchange below. -/
def Tests.ackFc : Nat := packFc { fcType := 1, kind := 3, mode := 2, streams := 1, guard := 1, mapId := 15, cls := 1, tx := 5, rx := devAddr, units := 1 }

theorem witness_Frames_ack :
    let tx := { Tests.tx0 with ackReq := true }
    let s := Tests.open0 { mac.awaiting := some tx }
    (port s 0).mac.awaiting = some tx ∧ fcValid Tests.ackFc = true ∧ fcReserved (parseFc Tests.ackFc) = false ∧
    fcCombines (parseFc Tests.ackFc) = true ∧ kindOk (parseFc Tests.ackFc) = true ∧ ackMatches tx (parseFc Tests.ackFc) = true ∧
    (parseFc Tests.ackFc).mode = modeCode tx.leek ∧
    tx.endAt ≤ us 60 ∧ (ackWindow s 0 tx).1 ≤ us 60 ∧ us 60 ≤ (ackWindow s 0 tx).2 := by decide +kernel

/-- A frame being received on port 0, its frame control decoded or not. -/
def Tests.receiving (fc : Option Nat) : State :=
  { Tests.open0 { line.plcLanes := 15, mac.rx := some { startAt := 0, leek := true, time := 0, quality := 0, fc := fc, endAt := 10 } } with
      eps := [(5, { state := .reachable, port := 0 })] }

/-- A sounding-free data frame of no symbols is malformed; one in Leek x8 whose symbols fit 16 octets is not. -/
def Tests.dataFc (symbols : Nat) : Nat :=
  packFc { mode := 2, streams := 1, guard := 1, mapId := 15, cls := 1, tx := 5, rx := devAddr, units := 1, ackReq := true, octets := 16,
           symbols := symbols }

theorem witness_Received_preamble : hears (Tests.open0 {}) 0 = true := by decide +kernel

theorem witness_Received_control : (port (Tests.receiving none) 0).mac.rx.map (·.fc) = some none ∧ fcValid 0 = false ∧
    fcValid (Tests.dataFc 0) = true ∧ (malformed (Tests.receiving none) 0 (parseFc (Tests.dataFc 0)) ||
      noMap (Tests.receiving none) 0 (parseFc (Tests.dataFc 0))) = true := by decide +kernel

/-- The symbols of 16 octets in Leek x8. -/
def Tests.leekSymbols : Nat := bodySymbols 16 0 0 (loadsIn 0 true false 1 []).sum 1 0 8

theorem witness_Received_good : malformed (Tests.receiving none) 0 (parseFc (Tests.dataFc Tests.leekSymbols)) = false ∧
    noMap (Tests.receiving none) 0 (parseFc (Tests.dataFc Tests.leekSymbols)) = false ∧
    fcValid (Tests.dataFc Tests.leekSymbols) = true ∧ (parseFc (Tests.dataFc Tests.leekSymbols)).fcType = 0 ∧
    (parseFc (Tests.dataFc Tests.leekSymbols)).kind ≤ 1 ∧ (parseFc (Tests.dataFc Tests.leekSymbols)).rx = devAddr := by decide +kernel

/-- A unit with no payload and a good check. -/
def Tests.unit0 : Bytes := zeros 12 ++ leBytes 4 (crc32 (zeros 12))

theorem witness_Received_body : (parseFc (Tests.dataFc 0)).ackReq = true ∧ (parseFc (Tests.dataFc 0)).rx = devAddr ∧
    leadingUnits 0 (splitUnits (parseFc (Tests.dataFc 0)).units (Tests.unit0.take (parseFc (Tests.dataFc 0)).octets)) ≠ [] := by
  decide +kernel

theorem witness_Received_ack :
    let s := Tests.open0 { mac.ackDue := some { due := 5, dest := 5, cls := 1, units := 1, attempt := 0, firstSeq := 0, leek := none } }
    (port s 0).mac.ackDue.isSome = true ∧ mayTransmit s 0 = true ∧ (port s 0).mac.tx = none ∧
    mayTransmit { s with pwr.phase := .standby } 0 = false := by decide +kernel

theorem witness_Beacons_start :
    let s := Tests.open0 { mac.beaconing := true }
    0 < s.part.ports ∧ Running s ∧ isOpen s 0 = true ∧ (port s 0).mac.beaconing = true ∧ mayTransmit s 0 = true ∧
    (port s 0).mac.tx = none ∧ (port s 0).line.closing = none ∧ (port s 0).line.cal = .none := by decide +kernel

/-- mac.configure of port 0, and phy.configure of port 0 with nothing masked. -/
def Tests.macReq : Bytes := [0, 0, 7, 7, 7, 15, 7, 16, 1, 0, 0, 0, 1, 0, 0, 0]
def Tests.phyReq : Bytes := [0, 0, 0, 3, 7, 0, 0, 0] ++ zeros 208

theorem witness_Beacons_mac : mayStart (Tests.open0 {}) Tests.pod0 0x0601 [.port 0] = true ∧ shaped Tests.macReq 16 [(13, 3)] = true ∧
    rd Tests.macReq 0 2 = 0 ∧ (∀ k, k < 4 → 1 ≤ rd Tests.macReq (2 + k) 1 ∧ rd Tests.macReq (2 + k) 1 ≤ 15) ∧ rd Tests.macReq 6 1 ≤ 7 ∧
    rd Tests.macReq 7 1 ≤ 16 ∧ rd Tests.macReq 12 1 ≤ 1 ∧ isOpen (Tests.open0 {}) 0 = true ∧ (port (Tests.open0 {}) 0).mac.next = none ∧
    mayStart Tests.up Tests.pod0 0x0601 [.port 0] = true ∧ isOpen Tests.up 0 = false := by decide +kernel

theorem witness_Beacons_neighbour :
    let s := { Tests.open0 {} with eps := [(5, { state := .reachable, port := 0 })], nbrs := [(5, { degraded := true })] }
    let req := fun (clear : BitVec 8) => [0, 0, 5, 0, clear, 0, 0, 0]
    mayStart s Tests.pod0 0x0602 [.port 0, .endpoint 5] = true ∧ shaped (req 0) 8 [(5, 3)] = true ∧ shaped (req 1) 8 [(5, 3)] = true ∧
    rd (req 1) 0 2 = 0 ∧ rd (req 1) 2 2 = 5 ∧ mayPort s Tests.pod0 0 = true ∧ isNeighbour s 0 5 = true ∧ rd (req 0) 4 1 = 0 ∧
    rd (req 1) 4 1 = 1 ∧ (nbr s 0 5).degraded = true := by decide +kernel

theorem witness_Beacons_phy : mayStart (Tests.open0 {}) Tests.pod0 0x0301 [.port 0] = true ∧
    shaped Tests.phyReq 216 [(6, 2), (212, 4)] = true ∧ rd Tests.phyReq 0 2 = 0 ∧ rdInt Tests.phyReq 2 1 = 0 ∧ rd Tests.phyReq 3 1 = 3 ∧
    rd Tests.phyReq 4 1 = 7 ∧ rd Tests.phyReq 5 1 = 0 ∧ rd Tests.phyReq 8 204 < 2 ^ 1624 ∧ 64 ≤ unmaskedLeek (rd Tests.phyReq 8 204) ∧
    (port (Tests.open0 {}) 0).nextPhy = none := by decide +kernel

/-- An open port whose mains tracker stands in a state, its last crossing one half cycle of 50 Hz before the next. -/
def Tests.mains (st : MainsState) (run : Nat) : State :=
  { Tests.open0 { mains := { state := st, run := run, lastCross := some 0, lastGap := 5000000 } } with
      eps := [(5, { state := .reachable, port := 0 })]
      tm.cache := [5]
      tm.maps := [(mapKey 0 5 1 2, { valid := true })] }

theorem witness_Mains_crossing : isOpen (Tests.mains .acquiring 7) 0 = true ∧ (port (Tests.mains .acquiring 7) 0).mains.force = false ∧
    (port (Tests.mains .acquiring 7) 0).mains.lastCross = some 0 ∧ halfInRange (5000000 - 0) = true ∧
    100 * (max (5000000 - 0) (port (Tests.mains .acquiring 7) 0).mains.lastGap - min (5000000 - 0) (port (Tests.mains .acquiring 7) 0).mains.lastGap) ≤
      (port (Tests.mains .acquiring 7) 0).mains.lastGap ∧ 7 ≤ (port (Tests.mains .acquiring 7) 0).mains.run ∧
    (port (Tests.mains .acquiring 7) 0).mains.state = .acquiring ∧ (port (Tests.mains .cycleFree 15) 0).mains.state = .cycleFree ∧
    15 ≤ (port (Tests.mains .cycleFree 15) 0).mains.run ∧
    nearPrediction (port { Tests.mains .locked 0 with ports := [(0, { mains := { state := .locked, half := 5000000 * 256 } })] } 0).mains 5000000 = true ∧
    nearPrediction (port (Tests.mains .locked 0) 0).mains 5000000 = false ∧ 0 < (Tests.mains .acquiring 7).part.ports := by decide +kernel

theorem witness_Mains_prefetch : mainsLocked (port (Tests.mains .locked 0) 0).mains = true ∧ (Tests.mains .locked 0).tm.cache = [5] ∧
    isNeighbour (Tests.mains .locked 0) 0 5 = true ∧
    (getMap (Tests.mains .locked 0) 0 5 1 ((slotOf (port (Tests.mains .locked 0) 0).mains (Tests.mains .locked 0).now + 2) % 8)).valid = true ∧
    isOpen (Tests.mains .locked 0) 0 = true := by decide +kernel

theorem witness_Mains_status : mayStart (Tests.mains .locked 0) Tests.pod0 0x0404 [.port 0] = true ∧ shaped (zeros 8) 8 [(2, 6)] = true ∧
    mayPort (Tests.mains .locked 0) Tests.pod0 (rd (zeros 8) 0 2) = true := by decide +kernel

/-- A map of one stream, 2 bits on every carrier, and the TM_MAP that carries it: port 0 in single-phase. -/
def Tests.mapMsg : Bytes := [0x11, 8, 1, 1, 0, 0, 0, 0] ++ List.replicate 812 0x22
def Tests.single : State :=
  { Tests.up with
      ports := [(0, { line.mode := .single, line.plcLanes := 9 })]
      eps := [(5, { state := .reachable, port := 0 })]
      tm.links := [(5, { sent := [(8, { generation := 1 })], requested := [8], exempt := [8],
                          estimates := [(estimateKey 8 1 0, List.replicate 1624 3000)] })] }

theorem witness_ToneMap_received : isOpen Tests.single 0 = true ∧ isNeighbour Tests.single 0 5 = true ∧
    tmMapOk (port Tests.single 0) Tests.mapMsg = true ∧ mapPermitted (port Tests.single 0) { streams := 1, loading := List.replicate 812 0x22 } = true ∧
    (getMap Tests.single 0 5 1 (rd Tests.mapMsg 1 1)).valid = false ∧ tmMapOk (port Tests.single 0) [] = false := by decide +kernel

theorem witness_ToneMap_others :
    (mapLink Tests.single 0 5).sent.find? (fun x => x.1 == rd [0x12, 8, 1, 0] 1 1) = some (8, { generation := 1 }) ∧
    ({ generation := 1 } : ToneMap).generation.toNat = rd [0x12, 8, 1, 0] 2 1 ∧ rd [0x12, 8, 1, 0] 3 1 = 0 ∧
    bit (rd [0x10, 1, 0, 1] 1 1) 0 = true ∧ mapIds (rdBe [0x10, 1, 0, 1] 2 2) = [0] ∧ rd [0x13, 0, 1, 0] 3 1 = 0 ∧ rd [0x13, 0, 1, 1] 3 1 = 1 := by decide +kernel

/-- Port 0 in single-phase with every carrier masked but the lowest eight. -/
def Tests.few : State :=
  { Tests.single with ports := [(0, { line.mode := .single, line.plcLanes := 9, phy.mask := 2 ^ 1624 - 2 ^ 8 })] }

theorem witness_ToneMap_refresh :
    silent Tests.few = false ∧ (mapLink Tests.few 0 5).requested.contains 8 = true ∧ (mapLink Tests.few 0 5).exempt.contains 8 = true ∧
    estimateOld Tests.few 0 5 8 = false ∧ (mapLink Tests.few 0 5).stale.contains 7 = false ∧
    ((bestLoading (port Tests.few 0).phy.mask (mapMargin (port Tests.few 0) (getMap Tests.few 0 5 0 8)) (mapLink Tests.few 0 5)
      (estimateSlots (port Tests.few 0).mains 8) (streamLimit (port Tests.few 0))).map
        (fun c => decide (36 * unmaskedCount (port Tests.few 0).phy.mask ≤ c.bits))) = some true := by decide +kernel

/-- tonemap.configure of port 0 with the lane source and a margin of 24 half decibels. -/
def Tests.tmReq : Bytes := [0, 0, 24, 2] ++ leBytes 2 3600 ++ leBytes 2 0xFFFF ++ zeros 8

theorem witness_ToneMapCommands_configure : mayStart Tests.single Tests.pod0 0x0401 [.port 0] = true ∧ shaped Tests.tmReq 16 [(8, 8)] = true ∧
    rd Tests.tmReq 0 2 = 0 ∧ rd Tests.tmReq 2 1 ≤ 24 ∧ rd Tests.tmReq 3 1 ≤ 3 ∧ 1 ≤ rd Tests.tmReq 4 2 ∧ rd Tests.tmReq 4 2 ≤ 3600 ∧
    mayPort Tests.single Tests.pod0 0 = true ∧ bit (rd Tests.tmReq 3 1) 1 = true ∧ rd Tests.tmReq 6 2 = 0xFFFF ∧ isOpen Tests.single 0 = true ∧
    isOpen Tests.up 0 = false := by decide +kernel

theorem witness_ToneMapCommands_refresh :
    let req : Bytes := [0, 0, 5, 0, 3, 0, 0, 0]
    mayStart Tests.single Tests.pod0 0x0402 [.port 0, .endpoint 5] = true ∧ shaped req 8 [(5, 3)] = true ∧ rd req 0 2 = 0 ∧ rd req 2 2 = 5 ∧
    rd req 4 1 = 3 ∧ (mapLink Tests.single 0 5).refreshRx = [] ∧ (mapLink Tests.single 0 5).refreshTx = [] ∧
    isNeighbour Tests.single 0 5 = true := by decide +kernel

theorem witness_ToneMapCommands_read :
    let s := { Tests.single with tm.maps := [(mapKey 0 5 1 8, { valid := true })] }
    let req : Bytes := [0, 0, 5, 0, 1, 8, 0, 0]
    mayStart s Tests.pod0 0x0403 [.port 0, .endpoint 5] = true ∧ shaped req 8 [(6, 2)] = true ∧ rd req 0 2 = 0 ∧ rd req 2 2 = 5 ∧
    rd req 4 1 = 1 ∧ rd req 5 1 = 8 ∧ (getMap s 0 5 1 8).valid = true := by decide +kernel

/-- Ports 0 and 1 open for the canceller, 1 an aggressor of 0 in a state with a gain of 6 dB: both in the FIR, at a cause that has gone. -/
def Tests.pair (st : CancState) : State :=
  { Tests.up with
      ports := [(0, { line.mode := .three, phy.guardAllowed := 2 }), (1, { line.mode := .three, phy.guardAllowed := 2 })]
      canc.guardX := 1
      canc.pairs := [(pairKey 0 1, { state := st, counted := 4096, echoGain := 24, causes := [(0, 0)] })]
      canc.surveys := [(0, { candidates := [1], maxAggressors := 1, minCoupling := 160, ends := 0 })] }

/-- A robust frame on its way from port 1, its first body symbol on a grid point; port 0 hears none, or one of the same form. -/
def Tests.gridFc : Nat := packFc { mode := 0, streams := 1, guard := 1, mapId := 15, symbols := 4000, octets := 1 }

def Tests.onGrid (heard : Bool) : State :=
  let w := { Tests.wave0 with fc := Tests.gridFc }
  let at_ := 4864 * 20 - waveBody w
  { Tests.pair .engaged with
      ports := [(0, { line.mode := .three, phy.guardAllowed := 2,
                      mac.heard := if heard then some ⟨at_, false, 0, 0, some Tests.gridFc, at_ + 5000000, []⟩ else none }),
                (1, { line.mode := .three, phy.guardAllowed := 2, mac.tx := some { Tests.tx0 with startAt := at_, wave := w } })] }

theorem witness_Canceller_symbol :
    gridPoint (Tests.onGrid false) (4864 * 20) = 4864 * 20 ∧ nearGrid (Tests.onGrid false) (4864 * 20) 64 = true ∧
    receiving (Tests.onGrid false) 0 (4864 * 20) = false ∧ coveredTx (Tests.onGrid false) 0 (4864 * 20) = none ∧
    (coveredTx (Tests.onGrid false) 1 (4864 * 20)).isSome = true ∧ coveredRx (Tests.onGrid true) 0 (4864 * 20) = true ∧
    coveredRx (Tests.onGrid true) 1 (4864 * 20) = false ∧ (Tests.onGrid true).canc.rxBins = [] ∧
    (Tests.onGrid true).canc.leaving = [] := by
  decide +kernel

theorem witness_Canceller_events : (((Tests.pair .training).canc.surveys.find? (fun e => e.1 == 0)).map (·.2)).isSome = true ∧
    (cancPair (Tests.pair .training) 0 1).map (·.state) = some .training ∧ (Tests.pair .training).canc.leaving.contains 0 = false ∧
    silent (Tests.pair .training) = false ∧ pairCauses (Tests.pair .suspended) 0 1 = [] ∧
    thas { Tests.pair .suspended with canc.surveys := [] }.canc.surveys 0 = false ∧
    1 < (Tests.pair .training).part.ports ∧ (cancPair (Tests.pair .disengaged) 0 1).map (·.state) = some .disengaged ∧
    (cancPair (Tests.pair .suspended) 0 1).map (·.causes) = some [(0, 0)] ∧
    (cancPair (Tests.pair .suspended) 0 1).map (fun x => (pairGains x).1) = some 24 ∧
    (pairCauses { Tests.pair .suspended with ports := [(0, { line.mode := .three, line.stopped := true })] } 0 1).contains 0 = true ∧
    (cancPair (Tests.pair .engaged) 0 1).map (·.counted) = some 4096 := by
  decide +kernel

/-- canceller.configure of port 0: no pairs, or candidate 1 with and without a survey. -/
def Tests.cancReq (flags n first : Nat) : Bytes :=
  [0, 0] ++ leBytes 1 flags ++ leBytes 1 n ++ [8, 160, 0, 0] ++ leBytes 2 first ++ List.replicate 30 0xFF

theorem witness_CancellerCommands_configure :
    let s := { Tests.pair .training with canc.surveys := [] }
    mayStart s Tests.pod0 0x0501 [.port 0] = true ∧ cancPort s 0 = true ∧ thas s.canc.surveys 0 = false ∧
    shaped (Tests.cancReq 1 1 1) 40 [(6, 2)] = true ∧ rd (Tests.cancReq 1 1 1) 0 2 = 0 ∧ rd (Tests.cancReq 1 1 1) 2 1 = 1 ∧
    rd (Tests.cancReq 3 1 1) 2 1 = 3 ∧ rd (Tests.cancReq 0 0 0xFFFF) 2 1 = 0 ∧ rd (Tests.cancReq 0 0 0xFFFF) 3 1 = 0 ∧
    rd (Tests.cancReq 1 1 1) 3 1 ≤ 16 ∧ 1 ≤ rd (Tests.cancReq 1 1 1) 4 1 ∧ rd (Tests.cancReq 1 1 1) 4 1 ≤ 8 ∧
    20 ≤ rd (Tests.cancReq 1 1 1) 5 1 ∧ rd (Tests.cancReq 1 1 1) 5 1 ≤ 160 ∧
    (∀ i, i < 16 → if i < 1 then rd (Tests.cancReq 1 1 1) (8 + 2 * i) 2 ≤ 127 else rd (Tests.cancReq 1 1 1) (8 + 2 * i) 2 = 0xFFFF) ∧
    (∀ i, i < 16 → rd (Tests.cancReq 0 0 0xFFFF) (8 + 2 * i) 2 = 0xFFFF) := by decide +kernel

theorem witness_CancellerCommands_others : mayStart Tests.up Tests.pod0 0x0502 [] = true ∧ shaped (zeros 8) 8 [(1, 7)] = true ∧
    Tests.up.canc.pairs = [] ∧ rd (zeros 8) 0 1 ≤ 2 ∧ mayStart Tests.up Tests.pod0 0x0503 [.port 0] = true ∧
    shaped (zeros 8) 8 [(2, 6)] = true ∧ rd (zeros 8) 0 2 < Tests.up.part.ports ∧ mayPort Tests.up Tests.pod0 0 = true := by decide +kernel

/-- Port 0 with one endpoint, 5, whose link to the device is known both ways, and a pending version that it owes an answer for. -/
def Tests.tree (pending : Bool) : State :=
  { Tests.up with
      ports := [(0, { line.mode := .three
                      topo := { computeDue := true
                                links := [⟨5, 0x4000, 50000, 0⟩, ⟨0x4000, 5, 50000, 0⟩]
                                snapshot := [((5, 0x4000), 100)]
                                pending := if pending then some ⟨1, [(5, devAddr)], [5], [5], [5], 8⟩ else none } })]
      eps := [(5, { state := if pending then .unreachable else .joining, port := 0, unreachable := 16, joinParent := some devAddr })] }

theorem witness_Trees_compute : (port (Tests.tree false) 0).topo.computeDue = true ∧ silent (Tests.tree false) = false ∧
    (port (Tests.tree false) 0).topo.pending = none ∧ (candidate (Tests.tree false) 0).parents ≠ activeParents (Tests.tree false) 0 ∧
    (∃ e ∈ (candidate (Tests.tree false) 0).parents,
      tget 0xFFFF (candidate (Tests.tree false) 0).parents e.1 ≠ tget 0xFFFF (activeParents (Tests.tree false) 0) e.1) ∧
    (port (Tests.tree true) 0).topo.pending.isSome = true ∧ (port Tests.up 0).topo.pending = none ∧
    (candidate Tests.up 0).parents = activeParents Tests.up 0 := by decide +kernel

theorem witness_Trees_messages : isOpen (Tests.tree true) 0 = true ∧ isNeighbour (Tests.tree true) 0 5 = true ∧
    (port (Tests.tree true) 0).topo.pending = some ⟨1, [(5, devAddr)], [5], [5], [5], 8⟩ ∧ rd [0x43, 1, 0, 0] 1 1 = (1 : BitVec 8).toNat ∧
    rd [0x43, 1, 0, 0] 2 1 = 0 ∧ rd [0x43, 1, 1, 0] 2 1 = 1 ∧ rd ([0x41, 1] ++ zeros 10) 1 1 = 1 ∧ 12 ≤ ([0x41, 1] ++ zeros 10 : Bytes).length ∧
    rdBe ([0x41, 1] ++ zeros 10) 4 2 ≠ 5 ∧ rdBe ([0x41, 1] ++ zeros 10) 4 2 ≤ devAddr ∧ 14 ≤ (zeros 14).length ∧
    (Tests.tree true).mram.registry = [] := by decide +kernel

theorem witness_Trees_join :
    let s := { Tests.tree true with mram.registry := [{ eui := 0, endpoint := 6, port := 0, pod := 3, owner := 0 }] }
    (s.mram.registry.find? (fun r => r.eui == rdBe (zeros 14) 4 8)).map (fun r => (r.endpoint, r.port, r.pod)) = some (6, 0, 3) ∧
    s.mgmt.fwState = .running ∧ (endpoint s 6).state = .free ∧ (s.eps.filter (fun x => x.2.state != .free)).length < 16384 ∧
    (members s 0).length < 1024 := by decide +kernel

theorem witness_Trees_hold : (endpoint (Tests.tree true) 5).state = .unreachable ∧
    (port (Tests.tree true) (endpoint (Tests.tree true) 5).port).topo.cfg.unreachHold ≤ (endpoint (Tests.tree true) 5).unreachable := by
  decide +kernel

/-- topology.configure of port 0; endpoint.admit of endpoint 5 to port 0 for pod 3. -/
def Tests.topoReq : Bytes := [0, 0, 7, 64, 100, 3, 0, 4]
def Tests.admitReq : Bytes := [5, 0, 0, 0, 3, 0, 0, 0] ++ zeros 8

theorem witness_TopologyCommands_configure : mayStart Tests.up Tests.pod0 0x0701 [.port 0] = true ∧ Tests.topoReq.length = 8 ∧
    rd Tests.topoReq 0 2 = 0 ∧ rd Tests.topoReq 2 1 ≤ 7 ∧ 1 ≤ rd Tests.topoReq 3 1 ∧ rd Tests.topoReq 3 1 ≤ 64 ∧ rd Tests.topoReq 4 1 ≤ 100 ∧
    1 ≤ rd Tests.topoReq 5 1 ∧ rd Tests.topoReq 5 1 ≤ 3 ∧ 1 ≤ rd Tests.topoReq 6 2 ∧ rd Tests.topoReq 6 2 ≤ 1024 := by decide +kernel

theorem witness_TopologyCommands_table :
    let s := { Tests.tree true with eps := [] }
    mayStart s Tests.pod0 0x0702 [.endpoint 5] = true ∧ shaped Tests.admitReq 16 [(5, 3)] = true ∧ rd Tests.admitReq 0 2 = 5 ∧
    rd Tests.admitReq 2 2 = 0 ∧ rd Tests.admitReq 4 1 = 3 ∧ (endpoint s 5).state = .free ∧ isOpen s 0 = true ∧ (members s 0).length < 1024 ∧
    (endpoint (Tests.tree true) 5).state ≠ .free ∧ (endpoint (Tests.tree true) 5).eui = rd Tests.admitReq 8 8 ∧
    (endpoint (Tests.tree true) 5).port = 0 ∧ mayStart (Tests.tree true) Tests.pod0 0x0703 [.endpoint 5] = true ∧
    shaped [5, 0, 0, 0, 0, 0, 0, 0] 8 [(2, 6)] = true ∧ rd [5, 0, 0, 0, 0, 0, 0, 0] 0 2 = 5 ∧ (Tests.tree true).lbf.flights = [] ∧
    mayStart (Tests.tree true) Tests.pod0 0x0704 [.endpoint 5] = true := by decide +kernel

/-- Endpoint 5 of pod 0 on open port 0 with transmit key slot 1, a key there, and one frame that waits for its seal. -/
def Tests.sealing : State :=
  { Tests.open0 {} with
      eps := [(5, { state := .reachable, port := 0, txSlot := some 1, rxSlot := some 1, parent := devAddr, depth := 1 })]
      cph.slots := [(1, { bytes := zeros 16, usage := 1 })]
      cph.entropy := { healthy := true, passed := true }
      mram.ceilings := [(0, 16777216)]
      lbf.flights := [(1, { port := 0, pod := 0, cls := 1, final := 5, len := 92, sealer := .mailbox Tests.pod0, txSlot := 1 })] }

/-- frame.submit of 64 bytes of class 1 to endpoint 5. -/
def Tests.submitReq : Bytes := [5, 0, 1, 0, 64, 0, 0, 0] ++ zeros 8

theorem witness_FramesEnter_submit : mayStart Tests.sealing Tests.pod0 0x0803 [] = true ∧ Tests.submitReq.length = 16 ∧
    rd Tests.submitReq 0 2 = 5 ∧ rd Tests.submitReq 2 1 = 1 ∧ rd Tests.submitReq 3 1 = 0 ∧ rd Tests.submitReq 4 2 = 64 ∧
    rd Tests.submitReq 6 2 = 0 ∧ rd Tests.submitReq 8 8 % 8 = 0 ∧ submitStop Tests.sealing 0 5 1 0 64 St.badParam = none ∧
    let h := fun (s : State) => submission s 0 5 1 0 64 (.mailbox Tests.pod0) .none Tests.submitReq
    stopCause Tests.sealing (h Tests.sealing) = none ∧ (freeFlight Tests.sealing 0).isSome = true ∧
    let full := { Tests.sealing with ports := [(0, { line.mode := .three, queueLimit := 1 })] }
    stopCause full (h full) = some 1 := by decide +kernel

theorem witness_FramesEnter_held :
    let h := submission Tests.sealing 0 5 1 0 64 (.mailbox Tests.pod0) .none Tests.submitReq
    let s := { Tests.sealing with lbf.held := [h] }
    s.lbf.held[0]? = some h ∧ (s.lbf.held.take 0).any (fun g => sameHeld h g || sameFlow h g) = false ∧ mayTakeHeld s h = true ∧ admitCause s h = none ∧ (freeFlight s h.port).isSome = true := by
  decide +kernel

theorem witness_FramesEnter_seal : thas Tests.sealing.lbf.flights 1 = true ∧ (flight Tests.sealing 1).enqueued = false ∧
    Tests.sealing.cph.entropy.passed = true ∧ sealTurn Tests.sealing (flight Tests.sealing 1) = true ∧
    (flight Tests.sealing 1).sealer ≠ .engine ∧ (slotKey Tests.sealing 0 1).isSome = true ∧ bit (1 : BitVec 8).toNat 0 = true ∧
    (tget {} Tests.sealing.cph.pages 0).failed = false ∧ (tget {} Tests.sealing.cph.pages 0).counter < ceilingOf Tests.sealing 0 ∧
    slotKey { Tests.sealing with cph.slots := [] } 0 1 = none := by decide +kernel

theorem witness_FramesEnter_staging :
    let s := { Tests.ready with lbf.flights := [(1, { Tests.frame1 with inShare := false })] }
    (eligibleQueues s 0).find? (fun q => (marked s q).any (fun n => !(flight s n).inShare && !(flight s n).heldPoison)) =
      some (queueOf Tests.frame1) ∧ marked s (queueOf Tests.frame1) = [1] ∧ thas s.lbf.flights 1 = true ∧ (flight s 1).backPoison = false ∧
    shareRoom s 0 false (cellsOf 64) = true := by decide +kernel

/-- A unit received from endpoint 5, and the ring of pod 0 on. -/
def Tests.unitFrom (ready : Bool) : Reasm :=
  { port := 0, ep := 5, cls := 1, seq := 0, data := zeros 64, time := 0, quality := 0, ready := ready }
def Tests.opening (rxSlot : Option Nat) : State :=
  { Tests.sealing with
      eps := [(5, { state := .reachable, port := 0, rxSlot := rxSlot })]
      lbf.reasms := [(2, Tests.unitFrom false), (3, Tests.unitFrom true)]
      lbf.pods := [(0, { rxEnable := true })] }

theorem witness_Units_open : reasm (Tests.opening none) 2 = some (Tests.unitFrom false) ∧ (Tests.opening none).cph.entropy.passed = true ∧
    (endpoint (Tests.opening none) 5).state ≠ .free ∧ (pod (Tests.opening none) 0).resetting = false ∧
    ((uplinkSlot (Tests.opening none) 0 0).map (·.2)).getD false = false ∧ (endpoint (Tests.opening (some 0xFF)) 5).rxSlot = some 0xFF ∧
    (endpoint (Tests.opening (some 2)) 5).rxSlot = some 2 ∧ slotKey (Tests.opening (some 2)) 0 2 = none := by decide +kernel

/-- A TSI page whose slot 0 carries the sealed uplink of port 0. -/
theorem witness_Units_sealed : ((uplinkSlot { Tests.opening none with trk.page0.entries := [(0, { txType := 1, txFlags := 1, txArg := 0, txPod := allPods })] } 0 0).map (·.2)).getD false = true := by
  decide +kernel

theorem witness_Units_ring : reasm (Tests.opening none) 3 = some (Tests.unitFrom true) ∧ (podLbf (Tests.opening none) 0).rxEnable = true ∧
    olderUnit (Tests.opening none) (Tests.unitFrom true) = false ∧ uplinkSlot (Tests.opening none) 0 0 = none ∧
    (Tests.opening none).mgmt.fwState = .running ∧ hostOk (Tests.opening none) 0 = true ∧
    (rxEntry (Tests.unitFrom true) 0).length ≤ ringFree ⟨0, 0, 0, (podLbf (Tests.opening none) 0).rxLog2⟩ (0, 0) := by decide +kernel

/-- The requests that set the buffers. -/
def Tests.ringReq : Bytes := [1] ++ zeros 23 ++ [16] ++ zeros 7
def Tests.withConsumer : Caller := { Tests.pod0 with io := { Tests.io0 with consumer := some 0 } }

theorem witness_Units_commands : mayStart Tests.up Tests.pod0 0x0801 [.port 0] = true ∧ shaped [0, 0, 16, 0, 1, 0, 0, 0] 8 [(6, 2)] = true ∧
    rd [0, 0, 16, 0, 1, 0, 0, 0] 2 2 = 16 ∧ rd [0, 0, 16, 0, 1, 0, 0, 0] 4 2 = 1 ∧ mayStart Tests.up Tests.pod0 0x0802 [.pod 1] = true ∧
    shaped [1, 0, 0, 0, 0, 0, 0, 0] 8 [(1, 3)] = true ∧ rd [1, 0, 0, 0, 0, 0, 0, 0] 4 4 ≤ Tests.up.part.framesInFlight ∧
    mayStart Tests.up Tests.withConsumer 0x0804 [] = true ∧ shaped Tests.ringReq 32 [(1, 7), (25, 7)] = true ∧ rd Tests.ringReq 0 1 = 1 ∧
    (podLbf Tests.up 0).rxEnable = false ∧ rd Tests.ringReq 8 8 % 4096 = 0 ∧ rd Tests.ringReq 16 8 % 64 = 0 ∧ rd Tests.ringReq 24 1 = 16 ∧
    Tests.withConsumer.io.consumer = some 0 := by decide +kernel

/-- Ring 0 of pod 0 on, with a descriptor waiting: AES-CTR of 16 bytes with a nonce of its own, key slot 1. -/
def Tests.ringOn : State :=
  { Tests.sealing with cph.rings := [(0, { enable := true, prod := 1, sizeLog2 := 6, cmplLog2 := 6 })] }
def Tests.ctrDesc : Bytes := [0x22, 1, 0, 16, 16] ++ zeros 59
def Tests.ioGood : DescIo := { descFails := false, readFails := false, data := zeros 16 }

theorem witness_Cipher_ring : pageOpen Tests.ringOn 0 = true ∧ 6 ≤ (cphRing Tests.ringOn 0 0).sizeLog2.toNat ∧
    (cphRing Tests.ringOn 0 0).sizeLog2.toNat ≤ 16 ∧ 6 ≤ (cphRing Tests.ringOn 0 0).cmplLog2.toNat ∧ (cphRing Tests.ringOn 0 0).cmplLog2.toNat ≤ 16 ∧
    16 < ({ sizeLog2 := 17 } : CphRing).sizeLog2.toNat := by decide +kernel

theorem witness_Cipher_take : (cphRing Tests.ringOn 0 0).enable = true ∧ (cphRing Tests.ringOn 0 0).fault = false ∧
    (cphRing Tests.ringOn 0 0).prod ≠ (cphRing Tests.ringOn 0 0).cons ∧ (cphRing Tests.ringOn 0 0).held = false ∧
    Tests.ringOn.cph.entropy.passed = true ∧ (pod Tests.ringOn 0).resetting = false ∧ ringRoom (cphRing Tests.ringOn 0 0) 1 = true ∧
    (parseDesc Tests.ctrDesc).frame = false ∧ descOk Tests.ctrDesc = true ∧ heldJob (parseDesc Tests.ctrDesc) = false ∧
    Tests.ringOn.cph.jobs = [] ∧ descOk (zeros 63) = false := by decide +kernel

theorem witness_Cipher_job :
    let j : Job := { pod := 0, ring := 0, idx := 0, desc := Tests.ctrDesc, data := zeros 16, aad := [], flight := none,
                     key := some { bytes := zeros 16, usage := 8 } }
    let s := { Tests.ringOn with cph.jobs := [j] }
    s.cph.jobs = [j] ∧ j.key = some { bytes := zeros 16, usage := 8 } ∧ j.ended = none ∧ hostOk s 0 = true := by decide +kernel

/-- key.load of slot 1: a 128-bit key for frames, not persisted. -/
def Tests.keyReq (persist : Nat) : Bytes := [1, 0, 1] ++ leBytes 1 persist ++ leBytes 2 24 ++ zeros 42
def Tests.keyed : State := { Tests.sealing with sec.lifecycle := 2, cph.slots := [(0, { bytes := zeros 32, usage := 0 })] }

/-- What the unwrapping gives is not in the model, so the witness holds for any key-wrap that opens the blob. -/
theorem witness_Keys_load : mayStart Tests.keyed Tests.pod0 0x0901 [.keySlot 1] = true ∧ shaped (Tests.keyReq 0) 48 [(6, 2)] = true ∧
    shaped (Tests.keyReq 1) 48 [(6, 2)] = true ∧ Tests.keyed.sec.lifecycle = 2 ∧ Tests.keyed.sec.tamper = false ∧ rd (Tests.keyReq 0) 0 1 = 1 ∧
    rd (Tests.keyReq 0) 1 1 = 0 ∧ rd (Tests.keyReq 0) 2 1 = 1 ∧ rd (Tests.keyReq 1) 3 1 = 1 ∧ rd (Tests.keyReq 0) 4 2 = 24 ∧
    (slice (Tests.keyReq 0) (8 + 24) (40 - 24)).any (· != 0) = false ∧ slotKey Tests.keyed 0 0 = some { bytes := zeros 32, usage := 0 } ∧
    keyRecord Tests.keyed 0 1 = none := by decide +kernel

theorem witness_Keys_others : mayStart Tests.keyed Tests.pod0 0x0902 [.keySlot 1] = true ∧ shaped [1, 0, 0, 0, 0, 0, 0, 0] 8 [(1, 7)] = true ∧
    mayStart Tests.keyed Tests.pod0 0x0903 [.endpoint 5] = true ∧ shaped [5, 0, 1, 0xFF, 0, 0, 0, 0] 8 [(4, 4)] = true ∧
    rd [5, 0, 1, 0xFF, 0, 0, 0, 0] 0 2 = 5 ∧ rd [5, 0, 1, 0xFF, 0, 0, 0, 0] 3 1 = 0xFF ∧ (endpoint Tests.keyed 5).state ≠ .free ∧
    (endpoint Tests.keyed 5).pod = 0 ∧ mayStart Tests.keyed Tests.pod0 0x0903 [.endpoint 0x7FFF] = true ∧
    rd [0xFF, 0x7F, 1, 0xFF, 0, 0, 0, 0] 0 2 = 0x7FFF ∧ mayStart Tests.keyed Tests.pod0 0x0904 [] = true ∧
    shaped (zeros 8) 8 [(2, 6)] = true := by decide +kernel

theorem witness_Keys_entropy :
    let s := { Tests.keyed with cph.blocks := [(0, 2 ^ 16)] }
    s.cph.entropy.healthy = true ∧ 2 ^ 16 ≤ tget 0 s.cph.blocks 0 ∧ tget 0 s.cph.blocks 0 < 2 ^ 17 ∧ Running s ∧ Running Tests.up ∧ Tests.up.cph.entropy.healthy = false := by
  decide +kernel

/-- A device with context 0 of pod 0, bound or idle, and requests for it. -/
def Tests.checks (b : Option (Nat × Bool)) : State :=
  { Tests.sealing with
      chk := [(0, { pod := 0, window := some 0, bound := b })]
      pods := [(0, { windows := [(0, { base := 0, size := 4096, read := true, write := true })] })] }
def Tests.dmaReq : Bytes := [0, 0, 6, 0, 0, 0, 0, 0] ++ zeros 8 ++ leBytes 8 8 ++ leBytes 8 64

theorem witness_Check_writes : pageOpen (Tests.checks none) 0 = true ∧ (chkCtx (Tests.checks none) 0).bound = none ∧
    (chkCtx (Tests.checks none) 0).dma = none ∧ (chkCtx (Tests.checks (some (5, true))) 0).bound.isSome = true := by decide +kernel

theorem witness_Check_commands : mayStart (Tests.checks none) Tests.pod0 0x0A01 [.context 0] = true ∧ shaped (zeros 8) 8 [(4, 4)] = true ∧
    (Tests.checks none).chk.any (fun e => e.1 != 0 && e.2.pod == 0 && e.2.window == some 0) = false ∧
    mayStart (Tests.checks none) Tests.pod0 0x0A02 [.context 0, .endpoint 5] = true ∧ shaped [0, 0, 5, 0, 1, 0, 0, 0] 8 [(6, 2)] = true ∧
    rd [0, 0, 5, 0, 1, 0, 0, 0] 2 2 = 5 ∧ rd [0, 0, 5, 0, 1, 0, 0, 0] 4 1 = 1 ∧ rd [0, 0, 5, 0, 1, 0, 0, 0] 5 1 = 0 ∧
    rd [0, 0, 5, 0, 1, 1, 0, 0] 5 1 = 1 ∧ (endpoint (Tests.checks none) 5).state ≠ .free ∧
    (endpoint (Tests.checks none) 5).pod = (chkCtx (Tests.checks none) 0).pod ∧ ctxBad (chkCtx (Tests.checks none) 0) true = false ∧
    boundStreams (Tests.checks none) < 256 ∧ (chkCtx (Tests.checks (some (5, true))) 0).bound = some (5, true) := by decide +kernel

theorem witness_Check_dma : mayStart (Tests.checks none) Tests.pod0 0x0A03 [.context 0] = true ∧ shaped Tests.dmaReq 32 [(3, 5)] = true ∧
    (Tests.checks none).part = .gnz5120 ∧ rd Tests.dmaReq 2 1 = 6 ∧ rd Tests.dmaReq 16 8 = 8 ∧ rd Tests.dmaReq 24 8 % 8 = 0 ∧
    ctxBad (chkCtx (Tests.checks none) 0) false = false ∧ dmaJobs (Tests.checks none) < 4 ∧ dmaDenied (Tests.checks none) 0 Tests.dmaReq = none ∧
    Memory.wf (Tests.checks none).ddr = true ∧ bit (rd Tests.dmaReq 2 1) 2 = true ∧
    (chkCtx { Tests.checks none with chk := [(0, { dma := some { caller := Tests.pod0, req := Tests.dmaReq } })] } 0).dma.isSome = true := by
  decide +kernel

theorem witness_LaneChainOutputs : Tests.up.part.hasChain 5 = true ∧ isLaneChain 5 = true ∧ positionRuns Tests.up 5 0 = true ∧
    (position (chain Tests.up 5) 0).ready = [] ∧ (chain Tests.up 5).halved = tapHalved Tests.up 5 ∧
    (7 + 1) % 2 ^ (chain Tests.up 5).cfg.k = 0 ∧
    primed (chain Tests.up 5) 0 (chainSample 5 (chain Tests.up 5) 0 (position (chain Tests.up 5) 0) 100).1 = true ∧
    primed { chain Tests.up 5 with bank0 := { h := [1, 1] } } 0
      (chainSample 5 { chain Tests.up 5 with bank0 := { h := [1, 1] } } 0 (position (chain Tests.up 5) 0) 100).1 = false := by decide +kernel

/-- A chain.configure request for lane chain 0 with the settings of reset. -/
def Tests.chainReq : Bytes := [0, 0, 0, 3, 2, 0, 0, 14, 12, 0, 0, 0] ++ zeros 52

theorem witness_ChainCommands_configure : mayStart Tests.up Tests.pod0 0x0201 [.chain 0] = true ∧ rd Tests.chainReq 0 2 = 0 ∧
    shaped Tests.chainReq 64 [(12, 4), (33, 15)] = true ∧ mayChain Tests.up Tests.pod0 0 = true ∧
    chainCfgOk Tests.up.part 0 Tests.chainReq = true ∧ (parseChainCfg Tests.chainReq).dest = .none := by decide +kernel

/-- A chain.loadbank request for bank 1 of chain 0: one coefficient, its delay the centroid (mode 0) or given (mode 1). -/
def Tests.bankReq (mode : Nat) : Bytes := leBytes 4 0x01010000 ++ leBytes 1 mode ++ zeros 11 ++ [0, 0, 64, 0]

theorem witness_ChainCommands_loadbank : mayStart Tests.up Tests.pod0 0x0202 [.chain 0] = true ∧
    (∀ m ≤ 1, shaped (Tests.bankReq m) (16 + 4 * rd (Tests.bankReq m) 3 1) [(5, 3), (12, 4)] = true) ∧
    bits (rd (Tests.bankReq 0) 16 4) 24 8 = 0 ∧ bit (rd (Tests.bankReq 0) 16 4) 23 = false ∧ rd (Tests.bankReq 1) 8 4 ≤ (1 - 1) * 1024 ∧
    centroid [toSigned 24 (rd (Tests.bankReq 0) 16 4)] = some 0 ∧ (chain Tests.up 0).active ≠ (1 == 1) ∧
    (chain Tests.up 0).swap = none := by decide +kernel

theorem witness_ChainCommands_swap : mayStart Tests.up Tests.pod0 0x0203 ((List.range (min 552 1)).map (fun i => Resource.chain (0 + i))) = true ∧
    shaped ([0, 0, 1, 0] ++ zeros 12) 16 [(4, 4)] = true ∧ rd ([0, 0, 1, 0] ++ zeros 12) 2 2 = 1 ∧ rd ([0, 0, 1, 0] ++ zeros 12) 8 8 = 0 ∧
    (∀ i < 1, Tests.up.part.hasChain (0 + i) = true ∧ mayChain Tests.up Tests.pod0 (0 + i) = true ∧ (chain Tests.up (0 + i)).swap = none) := by
  decide +kernel

theorem witness_ChainCommands_threshold : mayStart Tests.up Tests.pod0 0x0204 [.chain 0] = true ∧
    shaped ([0, 0, 0, 0, 1, 1] ++ zeros 10) 16 [(6, 2)] = true ∧ Tests.up.part.hasChain 0 = true ∧ mayChain Tests.up Tests.pod0 0 = true ∧
    rd ([0, 0, 0, 0, 1, 1] ++ zeros 10) 2 1 < positionCount 0 ∧ rd ([0, 0, 0, 0, 1, 1] ++ zeros 10) 4 1 ≤ 2 ∧
    1 ≤ rd ([0, 0, 0, 0, 1, 1] ++ zeros 10) 5 1 ∧ rd ([0, 0, 0, 0, 1, 1] ++ zeros 10) 12 4 < 2 ^ 31 ∧
    swapReady { Tests.up with chains := [(0, { swap := some 5 })] } 0 5 (2 ^ 40) = true ∧
    swapReady { Tests.up with chains := [(0, { swap := some (2 ^ 40) })] } 0 (2 ^ 40) 0 = false := by decide +kernel

/-- A running device: converter 0 scans its four voltage inputs, converter 1 waits to; charge input 3 resets by its switch. -/
def Tests.sensing : State :=
  { Tests.up with
      syn.ownerLo := 0x0FFFFFFF
      sns := { converters := [(0, { scan := { enables := 0xF0, periodUs := 250 } }), (1, { next := some ({ enables := 0xF0, periodUs := 250 }, 9) })]
               charges := [(3, { mode := 3, cmCheck := true, cmLo := -5, cmHi := 5 })] } }
/-- A sense.configure request for converter 2: positions 4 to 7 every 250 us. -/
def Tests.scanReq : Bytes := [2, 0xF0, 0, 0] ++ leBytes 4 250 ++
  ((List.range 8).map (fun _ => [1, 0, 0, 0, 0, 1] ++ zeros 10)).flatten

theorem witness_Sensing_rows : Running Tests.sensing ∧ converterRuns Tests.sensing (544 + 0) = true ∧ (converter Tests.sensing 0).next = none ∧
    (converter Tests.sensing 0).scan.enables ≠ 0 ∧ converterRuns Tests.sensing (544 + 1) = true ∧
    (converter Tests.sensing 1).next.isSome = true ∧ (charge Tests.sensing 3).mode = 3 ∧ 1792 ≤ (-1792 : Int).natAbs ∧
    converterRuns Tests.sensing (512 + 3) = true ∧ (input Tests.sensing 95).clamp ≠ true ∧
    cmWindow Tests.sensing 35 = some (1, -5, 5) ∧ (input Tests.sensing 35).commonMode ≠ (decide ((6 : Int) < -5) || decide ((6 : Int) > 5)) ∧
    1 ≤ (input Tests.sensing 35).cmRun + 1 ∧
    cmWindow { Tests.sensing with sns.charges := [(3, { cmCheck := true, cmQ := 2, cmLo := -5, cmHi := 5 })] } 35 = some (2, -5, 5) := by
  decide +kernel

theorem witness_Sensing_configure : mayStart Tests.sensing Tests.pod0 0x0C01 [.converter 2, .chain (544 + 2)] = true ∧ rd Tests.scanReq 0 1 = 2 ∧
    shaped Tests.scanReq 136 ((2, 2) :: (List.range 8).map (fun p => (18 + 16 * p, 6))) = true ∧
    mayName Tests.pod0 (tget 0 Tests.sensing.own.converters 2) = true ∧ scanInRange Tests.scanReq (parseScan Tests.scanReq) = true ∧
    scanBreaksMains Tests.sensing 2 (parseScan Tests.scanReq) = false ∧ scanInvalid (parseScan Tests.scanReq) = false := by decide +kernel

theorem witness_Sensing_charge : mayStart Tests.sensing Tests.pod0 0x0C02 [.chain (512 + 31)] = true ∧
    shaped ([31, 3, 3, 1, 1] ++ zeros 11) 16 [(5, 1), (10, 6)] = true ∧ rd ([31, 3, 3, 1, 1] ++ zeros 11) 0 1 = 31 ∧
    rd ([31, 3, 3, 1, 1] ++ zeros 11) 3 1 = 1 ∧ rdInt ([31, 3, 3, 1, 1] ++ zeros 11) 6 2 = 0 ∧ rdInt ([31, 3, 3, 1, 1] ++ zeros 11) 8 2 = 0 := by
  decide +kernel

theorem witness_Sensing_lincoef : mayStart Tests.sensing Tests.pod0 0x0C03 [.chain (chainOfInput 95).1] = true ∧
    shaped ([95] ++ zeros 103) 104 [(3, 5)] = true ∧ rd ([95] ++ zeros 103) 0 1 = 95 ∧
    (∀ i < 24, bits (BitVec.ofNat 32 (rd ([95] ++ zeros 103) (8 + 4 * i) 4)).toNat 23 8 ≠ 255) ∧
    linSourceOk Tests.sensing 95 0 0 = true := by decide +kernel

theorem witness_Sensing_assign : (∀ k < 4, mayStart Tests.sensing Tests.pod0 0x0C07 (senseNames k 1 ++ [.pod 64]) = true) ∧
    (∀ k < 4, shaped (leBytes 1 k ++ [1, 64] ++ zeros 5) 8 [(3, 5)] = true ∧ 1 < [8, 32, 16, 2].getD k 0) ∧
    (∀ v < 4, isMainsSource Tests.sensing (4 * 1 + v) = false) := by decide +kernel

/-- A running device whose group 0 takes pulses from lane chain 0, one of them waiting in the group. -/
def Tests.pulsed (minSources : Nat) : State :=
  { Tests.up with
      chains := [(0, { positions := [(0, { since := 100, sinceRate := 100 })] })]
      sns.groups := [(0, { enable := true, minSources := minSources
                           sources := [{ chain := 0, polarity := 0, level := 10, positionMm := 0, delayPs := 0 }]
                           pulses := [{ source := 0, arrival := 5, peak := 10, charge := 10, early := false, txActive := false,
                                        saturated := false, quality := 3 }] })] }
def Tests.pulse0 : PdPulse := { window := List.replicate 32 10, pre := List.replicate 8 0 }

theorem witness_PulsesFormClusters_pulse : (pdGroup (Tests.pulsed 1) 0).enable = true ∧ ((pdGroup (Tests.pulsed 1) 0).sources[0]?).isSome = true ∧
    Tests.pulse0.window.length = 32 ∧ (10 : Int) ≤ (Tests.pulse0.window.head?).getD 0 ∧
    contrib (chain (Tests.pulsed 1) 0) 0 + 32 * 2 ^ (chain (Tests.pulsed 1) 0).cfg.k ≤ (position (chain (Tests.pulsed 1) 0) 0).since ∧
    32 * 2 ^ (chain (Tests.pulsed 1) 0).cfg.k ≤ (position (chain (Tests.pulsed 1) 0) 0).sinceRate ∧
    (∀ e ∈ (pdGroup (Tests.pulsed 1) 0).deadUntil, e.1 ≠ 0) := by decide +kernel

theorem witness_PulsesFormClusters_close : (splitCluster (pdGroup (Tests.pulsed 1) 0)).1 ≠ [] ∧
    (pdGroup (Tests.pulsed 1) 0).minSources ≤ (firstOfEach (splitCluster (pdGroup (Tests.pulsed 1) 0)).1).1.length ∧
    (firstOfEach (splitCluster (pdGroup (Tests.pulsed 2) 0)).1).1.length < (pdGroup (Tests.pulsed 2) 0).minSources := by decide +kernel

/-- A pd.configure request for group 15 with one source, chain 0. -/
def Tests.pdReq : Bytes := [15, 1, 1, 1] ++ leBytes 4 100 ++ leBytes 4 50000 ++ zeros 20 ++ [16] ++ zeros 15 ++ [0, 0, 2, 0, 1] ++ zeros 251

theorem witness_PulsesFormClusters_configure :
    let s := { Tests.pulsed 1 with sns := {} }
    mayStart s { Tests.pod0 with io := { Tests.io0 with consumer := some 64 } } 0x0C04 [.group 15] = true ∧ rd Tests.pdReq 0 1 = 15 ∧
    shaped Tests.pdReq 304 ((33, 15) :: (List.range 16).map (fun i => (51 + 16 * i, 1))) = true ∧
    bit (rd Tests.pdReq 1 1) 0 = true ∧ pdInRange s.part (parsePd Tests.pdReq) = true ∧
    (∀ x ∈ (parsePd Tests.pdReq).sources, chainOwner s x.chain = tget 0 s.own.groups 15) ∧ hostOk s (tget 0 s.own.groups 15) = true ∧
    shaped ([15] ++ zeros 303) 304 ((33, 15) :: (List.range 16).map (fun i => (51 + 16 * i, 1))) = true ∧
    bit (rd ([15] ++ zeros 303) 1 1) 0 = false := by decide +kernel

/-- A transfer on I2C port 1, started or not, with the losses it has met; its caller's command executes. -/
def Tests.i2c (started : Bool) (losses : Nat) : State :=
  { Tests.up with sns.i2c := [(1, { started := started
                                    current := some { caller := Tests.pod0, address := 80, written := [1], retryLimit := 1, readLen := 0,
                                                      timeoutMs := 5, queuedAt := 0, losses := losses } })] }

theorem witness_I2cTransfersRun : mayStart Tests.up Tests.pod0 0x0C05 [.i2c 1] = true ∧ shaped ([1, 2] ++ zeros 6) 8 [(2, 6)] = true ∧
    mayName Tests.pod0 (tget 0 Tests.up.own.i2c 1) = true ∧ mayStart Tests.up Tests.pod0 0x0C06 [.i2c 1] = true ∧
    shaped ([1, 80, 1, 15, 0, 0, 1, 0] ++ zeros 64) 72 [] = true ∧ rd ([1, 80, 1, 15, 0, 0, 1, 0] ++ zeros 64) 6 2 = 1 ∧
    (i2cPort Tests.up 1).current = none ∧ ((i2cPort (Tests.i2c false 0) 1).current.map (·.losses)) = some 0 ∧
    ((i2cPort (Tests.i2c false 0) 1).current.map (·.recovered)) = some false ∧ ({ { caller := Tests.pod0, address := 80, written := [1], retryLimit := 1, readLen := 0, timeoutMs := 5, queuedAt := 0, losses := 0 : I2cJob } with recovered := true }).recovered = true ∧
    (i2cPort (Tests.i2c false 0) 1).started = false ∧ (i2cPort (Tests.i2c true 0) 1).started = true ∧
    ((i2cPort (Tests.i2c true 0) 1).current.map (fun j => decide (j.losses < j.retryLimit))) = some true ∧
    ((i2cPort (Tests.i2c true 1) 1).current.map (fun j => decide (j.retryLimit ≤ j.losses))) = some true := by decide +kernel

/-- Trunk lane 7 of a running device in a record of its own. -/
def Tests.trunk (l : TrunkLane) : State := { Tests.up with trk.lanes := [(7, l)] }
def Tests.skeluz : TrunkLane := { cfg := { mode := .skeluz }, cwLock := true }

theorem witness_TrunkLaneDefects_frame : 7 < Tests.up.part.trunkLanes ∧ isSkeluz (Tests.trunk Tests.skeluz) 7 = true ∧
    (trunkLane (Tests.trunk Tests.skeluz) 7).inFrame = false ∧ (trunkLane (Tests.trunk Tests.skeluz) 7).cwLock = true ∧
    (trunkLane (Tests.trunk { Tests.skeluz with inFrame := true }) 7).inFrame = true ∧
    (trunkLane (Tests.trunk Tests.skeluz) 7).cfg.mode ≠ .off ∧ (trunkLane (Tests.trunk Tests.skeluz) 7).cwLock ≠ false ∧
    (trunkLane (Tests.trunk { Tests.skeluz with cwLock := false }) 7).cwLock ≠ true ∧ (trunkLane (Tests.trunk Tests.skeluz) 7).los = false := by
  decide +kernel

theorem witness_TrunkLaneDefects_loss : (trunkLane (Tests.trunk { Tests.skeluz with los := true, goodSince := some 4 }) 7).goodSince = some 4 ∧
    (trunkLane (Tests.trunk { Tests.skeluz with los := true, goodSince := some 4 }) 7).los = true ∧
    (trunkLane (Tests.trunk { Tests.skeluz with oofSince := some 4 }) 7).oofSince = some 4 ∧
    (trunkLane (Tests.trunk { Tests.skeluz with lof := true, inFrame := true }) 7).lof = true ∧
    (trunkLane (Tests.trunk { Tests.skeluz with sd := true }) 7).sd = true ∧ (trunkLane (Tests.trunk Tests.skeluz) 7).lof = false ∧
    isMember (tsiEntry Tests.up.part (activePage Tests.up) (64 * 7 + 63)) = false := by decide +kernel

/-- A lane in frame, and one in Ethernet mode. -/
def Tests.inFrame : TrunkLane := { Tests.skeluz with inFrame := true }
def Tests.ether : TrunkLane := { cfg := { mode := .ethernet, ethFlags := 2 }, cwLock := true }

theorem witness_TrunkCarries_frames : Running (Tests.trunk Tests.inFrame) ∧ (Tests.trunk Tests.inFrame).trk.pair.next = none ∧
    (Tests.trunk Tests.inFrame).trk.pair.failFrom = none ∧ (Tests.trunk Tests.inFrame).pwr.sysResetFrame = none ∧
    isSkeluz (Tests.trunk Tests.inFrame) 7 = true ∧ (∀ n < Tests.up.part.trunkLanes, isSkeluz Tests.up n = false) ∧
    (trunkLane (Tests.trunk Tests.inFrame) 7).inFrame = true ∧ (trunkLane (Tests.trunk Tests.inFrame) 7).los = false := by decide +kernel

theorem witness_TrunkCarries_chunks : (trunkLane (Tests.trunk Tests.ether) 7).cfg.mode = .ethernet ∧
    (trunkLane (Tests.trunk Tests.ether) 7).pauseUntil ≤ (Tests.trunk Tests.ether).now ∧ (trunkLane (Tests.trunk Tests.ether) 7).los = false ∧
    (tget {} (trunkLane (Tests.trunk Tests.ether) 7).slots 63).ais = false ∧
    bit (trunkLane (Tests.trunk Tests.ether) 7).cfg.ethFlags.toNat 1 = true := by decide +kernel

/-- A running device with endpoint 5 on port 0, slot 448 mapped to the port in both directions, sealed, and a unit ready for it. -/
def Tests.mapped : State :=
  { Tests.sealing with
      eps := [(5, { state := .reachable, port := 0, parent := devAddr, depth := 1 })]
      lbf := { reasms := [(2, Tests.unitFrom true)] }
      trk.lanes := [(7, Tests.inFrame)]
      trk.page0 := { entries := [(448, { txType := 1, txFlags := 1, rxType := 1, rxFlags := 1 })] } }

theorem witness_TrunkCarries_uplink : reasm Tests.mapped 2 = some (Tests.unitFrom true) ∧
    uplinkSlot Tests.mapped (Tests.unitFrom true).port (Tests.unitFrom true).pod = some (448, true) ∧ (Tests.unitFrom true).ready = true ∧
    olderUnit Tests.mapped (Tests.unitFrom true) = false ∧ (trunkLane Tests.mapped (448 / 64)).cfg.mode ≠ .off := by decide +kernel

/-- A feed packet of 64 bytes for endpoint 5, of pod 0 or another. -/
def Tests.feed (pod_ : Nat) : Bytes := packet 2 0 5 1 pod_ (zeros 64)

theorem witness_TrunkCarries_feed : 448 < Tests.mapped.part.slots ∧ Running Tests.mapped ∧ slotFailed Tests.mapped 448 = false ∧
    (tsiEntry Tests.mapped.part (activePage Tests.mapped) 448).rxType = 1 ∧ packetOk (Tests.feed 0) = true ∧ packetOk (Tests.feed 9) = true ∧
    feedAllowed Tests.mapped 0 0 5 = true ∧ feedAllowed Tests.mapped 0 9 5 = false ∧ isFixed (activePage Tests.mapped) 448 = false ∧
    rdBe (Tests.feed 9) 7 1 = 9 ∧ bit (tsiEntry Tests.mapped.part (activePage Tests.mapped) 448).rxFlags 0 = true ∧
    (feedSealed 0 0 5 1 (slice (Tests.feed 0) 8 64) Tests.mapped).isSome = true := by decide +kernel

/-- A tsi.write request: one entry, that of slot 255 a feed of port 0. -/
def Tests.tsiReq : Bytes := [255, 0, 1, 0] ++ zeros 4 ++ [0, 0, 0, 0, 0, 1, 0, 0] ++ zeros 8
def Tests.trunkReq : Bytes := [7, 1, 0, 0, 4, 0] ++ zeros 26

theorem witness_SlotInterchange_write : mayStart Tests.up Tests.pod0 0x0B02 [.tsiPage] = true ∧ tsiWriteShape Tests.tsiReq = true ∧
    rd Tests.tsiReq 0 2 = 255 ∧ rd Tests.tsiReq 2 2 = 1 ∧ 255 + 1 ≤ Tests.up.part.slots ∧ commitPending Tests.up = false ∧
    entryInRange Tests.up.part (parseEntry (slice Tests.tsiReq (8 + 16 * 0) 16)) = true ∧
    entriesAllowed Tests.up (standbyPage Tests.up)
      { standbyPage Tests.up with entries := tset (standbyPage Tests.up).entries 255 (parseEntry (slice Tests.tsiReq 8 16)) } 255 1 = true := by
  decide +kernel

theorem witness_SlotInterchange_others : mayStart Tests.up Tests.pod0 0x0B03 [.tsiPage] = true ∧ shaped ([1] ++ zeros 7) 8 [(1, 7)] = true ∧
    mayStart Tests.up Tests.pod0 0x0B04 [.tsiPage] = true ∧ shaped (zeros 8) 8 [(0, 8)] = true ∧ Tests.up.trk.pair.role ≠ .standby ∧
    mayStart Tests.up Tests.pod0 0x0B05 [.tsiPage] = true ∧ shaped [1, 0, 0, 0, 32, 0, 0, 0] 8 [(1, 1), (6, 2)] = true ∧
    { Tests.up with trk.commitAt := some 3 : State }.trk.commitAt = some 3 ∧ { Tests.up with trk.copying := true : State }.trk.copying = true ∧
    mayStart Tests.up Tests.pod0 0x0B01 [.trunkLane 7] = true ∧ shaped Tests.trunkReq 32 [(12, 4), (22, 2), (30, 2)] = true ∧
    rd Tests.trunkReq 0 1 = 7 ∧ rd Tests.trunkReq 4 1 = 4 ∧ (parseTrunkCfg Tests.trunkReq).asymPs.natAbs ≤ 1000000 ∧ isPaired Tests.up = false ∧
    (parseTrunkCfg Tests.trunkReq).mode ≠ (trunkLane Tests.up 7).cfg.mode := by decide +kernel

/-- A paired device of a role, its mirror link in frame. -/
def Tests.paired (x : Pair) : State :=
  { Tests.up with trk.lanes := [(6, Tests.inFrame), (7, Tests.inFrame)], trk.pair := x, nbrs := [(5, { nextSeq := [(1, 4000)] })] }

theorem witness_Pair_configure : (mayStart (Tests.paired {}) Tests.pod0 0x0B06 (.tsiPage :: (Tests.paired {}).part.mirrorLanes.map Resource.trunkLane)) = true ∧
    shaped ([2, 1] ++ zeros 6) 8 [(2, 6)] = true ∧ (∀ n ∈ (Tests.paired {}).part.mirrorLanes, isSkeluz (Tests.paired {}) n = true) ∧
    Running (Tests.paired { next := some (.standby, true, 0) }) ∧ 0 ≤ frameDue (Tests.paired {}) ∧
    (Tests.paired { next := some (.active, true, 0) }).pwr.sysResetFrame = none ∧ onMirrorLink (Tests.paired {}) 511 = true := by decide +kernel

theorem witness_Pair_rows : mirrorDown (Tests.paired { role := .standby }) = false ∧ pairUp (Tests.paired { role := .standby }) = true ∧
    (Tests.paired { role := .standby, peerReady := true, failingRun := 1 }).trk.pair.takeover = none ∧
    pairUp (Tests.paired { role := .active, mirrorLost := some 3, peerReady := true }) = true ∧
    (Tests.paired { role := .standby, auto := true, mirrorLost := some 3, peerReady := true, hbLost := true }).trk.pair.planned = none ∧
    (Tests.paired { role := .standby, takeover := some 9 }).trk.pair.takeover = some 9 ∧
    (mayStart (Tests.paired { role := .active, peerReady := true }) Tests.pod0 0x0B07 [.tsiPage]) = true ∧
    isPaired (Tests.paired { role := .active, peerReady := true }) = true ∧
    (Tests.paired { role := .failing, planned := some 9 }).trk.pair.planned = some 9 ∧
    (Tests.paired { role := .active, planned := some 9 }).trk.pair.planned = some 9 := by decide +kernel

/-- A running device with a timebase of its own. -/
def Tests.timed (t : Timebase) : State := { Tests.up with tmb := t }

theorem witness_References_pps : Running (Tests.timed {}) ∧ (Tests.timed {}).tmb.ppsQual = false ∧
    (localSpan {} 0 500000000 - 2 ^ 32).natAbs * 1000000 ≤ 2 * 2 ^ 32 ∧ 4 ≤ (Tests.timed { ppsLast := some 0, ppsRun := 3 }).tmb.ppsRun + 1 ∧
    (Tests.timed { ppsQual := true, ppsLast := some 0 }).tmb.ppsQual = true ∧
    (localSpan {} 0 1000000000 - 2 * 2 ^ 32).natAbs * 10000 ≤ 2 ^ 32 ∧ 2 ^ 32 < (localSpan {} 0 750000000 - 2 ^ 32).natAbs * 10000 ∧
    2 ^ 32 < (localSpan {} 0 750000000 - 2 * 2 ^ 32).natAbs * 10000 := by decide +kernel

theorem witness_References_others : (Tests.timed { nextCfg := some {} }).tmb.nextCfg = some {} ∧
    (Tests.timed { holdoverFrom := some 0 }).tmb.selected = .none ∧
    (let s := Tests.timed { selected := .host, hostSet := true, ppsQual := true, cfg := { flags := 4 } }
     refOf 1 ≠ .none ∧ bit s.tmb.cfg.flags.toNat 2 = true ∧ refQual s (refOf 1) = true ∧
      refOf 1 ∈ (refOrder s.tmb.cfg).takeWhile (· != s.tmb.selected) ∧ s.tmb.selected ∈ refOrder s.tmb.cfg) ∧
    (Tests.timed { step := some ⟨.host, 5, some 7⟩ }).tmb.step = some ⟨.host, 5, some 7⟩ ∧
    (Tests.timed { ppsOut := true }).tmb.ppsOut = true ∧ (Tests.timed {}).tmb.ppsOut = false := by decide +kernel

def Tests.tmbReq : Bytes := [63, 7, 7, 0] ++ leBytes 4 86400 ++ zeros 4 ++ [1, 0, 0, 0]

theorem witness_TimebaseCommands : mayStart Tests.up Tests.pod0 0x0D01 [] = true ∧ shaped Tests.tmbReq 16 [(3, 1), (14, 2)] = true ∧
    rd Tests.tmbReq 0 1 = 63 ∧ 7 < Tests.up.part.trunkLanes ∧ rd Tests.tmbReq 4 4 = 86400 ∧ (rdInt Tests.tmbReq 8 4).natAbs = 0 ∧
    rd Tests.tmbReq 12 2 = 1 ∧ mayStart Tests.up Tests.pod0 0x0D02 [] = true ∧ shaped (zeros 16) 16 [(1, 7)] = true ∧
    stepWaits Tests.up = false ∧ Tests.up.tmb.selected = .none ∧ Tests.up.tmb.valid = false ∧
    oneMs > (tmbNow (Tests.timed { valid := true }) - BitVec.ofNat 64 (rd (zeros 16) 8 8)).toInt.natAbs ∧
    shaped ([1] ++ zeros 15) 16 [(1, 7)] = true ∧ stepWaits (Tests.timed { selected := .pps }) = false ∧
    stepWaits (Tests.timed { seconds := some 1 }) = true ∧ mayStart (Tests.timed { seconds := some 1 }) Tests.pod0 0x0D02 [] = true := by
  decide +kernel

/-- A running device with lane 1 of pod 0 in a record of its own. -/
def Tests.lane1 (x : MbxLane) : State := { Tests.up with mgmt.lanes := [(1, x)] }
def Tests.lane : MbxLane := { sizeLog2 := 12, cmplLog2 := 4, enable := true, prod := 1 }

theorem witness_Mailbox_lane : validLane 0 1 = true ∧ pageOpen (Tests.lane1 Tests.lane) 0 = true ∧ (mbxLane (Tests.lane1 Tests.lane) 0 1).kept = [] ∧
    4 ≤ (mbxLane (Tests.lane1 Tests.lane) 0 1).sizeLog2.toNat ∧ (mbxLane (Tests.lane1 { Tests.lane with cmplLog2 := 13 }) 0 1).cmplLog2.toNat > 12 ∧
    hostOk (Tests.lane1 { Tests.lane with kept := [([], true)] }) 0 = true := by decide +kernel

/-- A descriptor of fw.info. -/
def Tests.desc (code : Nat) : Bytes := leBytes 2 code ++ [0, 0, 8, 0] ++ zeros 58

theorem witness_Mailbox_take : mayTake (Tests.lane1 Tests.lane) 0 1 = true ∧ hostOk (Tests.lane1 Tests.lane) 0 = true ∧
    standbyStops (Tests.lane1 Tests.lane) (descCaller 0 1 (Tests.desc 0x0E05) Tests.io0) = false ∧ (Tests.desc 0x0E05).length = 64 ∧
    (commandOf (rd (Tests.desc 0x0E08) 0 2)).isNone = true ∧
    (match startTaken 0 1 (Tests.desc 0x0E05) [] Tests.io0 (Tests.lane1 Tests.lane) with
     | .next u => !laneHeld u 0 1 | _ => false) = true := by decide +kernel

theorem witness_Mailbox_wait :
    let k : Cmd := { caller := Tests.pod0, code := 0x0E05, req := zeros 8 }
    let s := { Tests.up with mgmt.waiting := [k] }
    s.mgmt.waiting.find? (fun k => sameCaller Tests.pod0 k.caller) = some k ∧
    mayStart s { k.caller with io := Tests.pod0.io } 0x0E05 [] = true ∧ shaped k.req 8 [(0, 8)] = true := by decide +kernel

theorem witness_Mailbox_listen : mayStart (Tests.lane1 Tests.lane) Tests.pod0 0x0E02 [] = true ∧
    (mbxLane (Tests.lane1 Tests.lane) 0 1).queued = [] ∧ (mbxLane (Tests.lane1 Tests.lane) 0 1).listens.length < 8 ∧
    (mbxLane (Tests.lane1 { Tests.lane with queued := [⟨5, []⟩] }) 0 1).queued = [⟨5, []⟩] ∧
    mayStart (Tests.lane1 { Tests.lane with queued := [⟨5, []⟩] }) Tests.pod0 0x0E02 [] = true ∧
    (mbxLane (Tests.lane1 { Tests.lane with listens := [Tests.pod0] }) 0 1).listens = [Tests.pod0] ∧
    64 ≤ (mbxLane (Tests.lane1 { Tests.lane with queued := List.replicate 64 ⟨5, []⟩ }) 0 1).queued.length ∧
    mayStart Tests.up Tests.pod0 0x0E01 [.pod 64] = true ∧ shaped [64, 4, 32, 64, 0, 0, 0, 0] 8 [(4, 4)] = true := by decide +kernel

theorem witness_Firmware_shed : Tests.up.mgmt.fwState = .running ∧ Tests.up.mgmt.shedding = false ∧
    ([230, 255, 230, 230] : List Nat).length = 4 ∧ (∀ x ∈ ([230, 255, 230, 230] : List Nat), 0xE6 ≤ x ∧ x < 256) ∧
    { Tests.up with mgmt.shedding := true : State }.mgmt.shedding = true ∧ (∀ x ∈ ([0, 178, 178, 178] : List Nat), x < 0xB3) ∧
    Tests.up.mgmt.waiting.length < 128 := by decide +kernel

theorem witness_Firmware_restart : Running { Tests.up with mgmt.jumped := true : State } ∧ Tests.up.mgmt.fwState ≠ .halted ∧
    (Tests.up.mgmt.restartTimes.filter (fun t => decide (Tests.up.now < t + secs 10))).length < 3 ∧
    3 ≤ (([0, 0, 0] : List Nat).filter (fun t => decide (Tests.up.now < t + secs 10))).length ∧
    { Tests.up with mgmt.fwState := .restarting : State }.mgmt.fwState = .restarting := by decide +kernel

def Tests.image : ImageView :=
  { magicOk := true, version := 0x0105, stateFormat := 0, length := 4096, secver := 0, keyIndex := 0, sigOk := true }
def Tests.withImage : Caller := { Tests.pod0 with io := { Tests.io0 with image := some Tests.image, data := some (zeros 256) } }
def Tests.updating : State := { Tests.up with mgmt.updating := some 0 }

theorem witness_FirmwareImages : mayStart Tests.up Tests.withImage 0x0E05 [] = true ∧ shaped (zeros 8) 8 [(0, 8)] = true ∧
    mayStart Tests.up Tests.withImage 0x0E06 [.image] = true ∧ shaped (zeros 24) 24 [(1, 3), (12, 4)] = true ∧ Tests.up.mgmt.updating = none ∧
    mayStart Tests.updating Tests.withImage 0x0E06 [.image] = true ∧
    shaped ([1] ++ zeros 7 ++ leBytes 4 256 ++ zeros 12) 24 [(1, 3), (12, 4)] = true ∧
    rd ([1] ++ zeros 7 ++ leBytes 4 256 ++ zeros 12) 8 4 = 256 ∧ Tests.withImage.io.data = some (zeros 256) ∧
    shaped ([2] ++ zeros 7 ++ leBytes 4 4096 ++ zeros 12) 24 [(1, 3), (12, 4)] = true ∧
    rd ([2] ++ zeros 7 ++ leBytes 4 4096 ++ zeros 12) 8 4 = Tests.image.length ∧ imageOk Tests.updating Tests.image = true ∧
    imageOk Tests.updating { Tests.image with sigOk := false } = false ∧ mayStart Tests.up Tests.withImage 0x0E07 [.image] = true ∧
    (flashSlot Tests.up Tests.up.mgmt.nextSlot).torn = false ∧ Tests.image.stateFormat = Tests.up.mgmt.stateFormat.toNat := by decide +kernel

/-- Endpoint 5 owned by pod 0 for services, with a schedule, an operation, an asset and a reply of it waiting. -/
def Tests.reply : Bytes := [4, 1, 0, 9, 0, 0, 0, 0]
def Tests.serving : State :=
  { Tests.up with
      eps := [(5, { state := .reachable, port := 0, eui := 77, txSlot := some 1, rxSlot := some 1 })]
      mram.registry := [{ eui := 77, endpoint := 5, port := 0, pod := 0, owner := 0 }]
      mgmt.schedules := [(3, { owner := 0, lane := 1, periodS := 60, first := 5, count := 1, query := [], nextAt := 0,
                               collecting := some 4, collectEnd := 9, asked := [5], replies := [] })]
      mgmt.shedOps := [{ owner := 0, first := 5, count := 1, body := [], executeAt := 0, confirmMs := 10, executed := false, reqId := 0,
                         replied := [] }]
      mgmt.assets := [(5, { owner := 0, kind := 1, reassertS := 1, lossS := 1, body := [], nextAt := 0, lastReply := 0, awaitFirst := true, unanswered := true,
                            reqId := 9 })]
      lbf.reasms := [(2, { Tests.unitFrom true with data := Tests.reply, opened := true })] }

theorem witness_Services_registry : mayStart Tests.up Tests.pod0 0x1401 [.endpoint 5] = true ∧
    (∀ m ≤ 1, shaped (zeros 8 ++ [5, 0] ++ zeros 4 ++ leBytes 1 m ++ [0]) 16 [(15, 1)] = true ∧
      rd (zeros 8 ++ [5, 0] ++ zeros 4 ++ leBytes 1 m ++ [0]) 14 1 = m) ∧ registryLatest Tests.up = [] := by decide +kernel

theorem witness_Services_meter : mayStart Tests.serving Tests.pod0 0x1402 [] = true ∧
    (∀ m ≤ 1, let r := [7] ++ leBytes 1 m ++ [1, 0, 60, 0, 0, 0, 5, 0, 1, 0, 0, 0, 0, 0]
      r.length = 16 + rd r 12 2 ∧ reservedZero r [(3, 1), (14, 2)] = true ∧ rd r 1 1 = m ∧ rd r 8 2 = 5 ∧ rd r 10 2 = 1) ∧
    ownedRange Tests.serving 0 5 1 ≠ [] ∧ Tests.serving.mgmt.schedules.length < 256 ∧
    ((schedule Tests.serving 3).map (·.collecting.isSome)) = some true ∧ Tests.serving.mgmt.fwState = .running := by decide +kernel

theorem witness_Services_shed : mayStart Tests.serving Tests.pod0 0x1403 [] = true ∧
    (let r : Bytes := [5, 0, 1, 0, 0, 0, 10, 0] ++ zeros 8
     r.length = 16 + rd r 4 2 ∧ rd r 0 2 = 5 ∧ rd r 2 2 = 1 ∧ rd r 6 2 = 10) ∧
    (Tests.serving.mgmt.shedOps.filter (fun o => o.owner == 0)).length < 4 ∧ (Tests.serving.mgmt.shedOps[0]?.map (·.executed)) = some false ∧
    ({ Tests.serving with mgmt.shedOps := Tests.serving.mgmt.shedOps.map (fun o => { o with executed := true }) : State }.mgmt.shedOps[0]?.map
      (·.executed)) = some true := by decide +kernel

theorem witness_Services_dispatch : mayStart Tests.serving Tests.pod0 0x1404 [.endpoint 5] = true ∧
    (let r : Bytes := [5, 0, 1, 0, 1, 0, 1, 0] ++ zeros 8
     r.length = 16 + rd r 8 2 ∧ reservedZero r [(10, 6)] = true ∧ rd r 2 1 = 1 ∧ rd r 4 2 = 1 ∧ rd r 6 2 = 1) ∧
    serviceOwner Tests.serving 5 = some 0 ∧ Tests.serving.mgmt.assets.length < 4096 ∧ (asset Tests.serving 5).isSome = true ∧
    ((Tests.serving.lbf.reasms.find? (fun e => e.2.ep == 5 && e.2.pod == 0 && e.2.ready && e.2.opened && e.2.data == Tests.reply)).map (·.1)) = some 2 ∧
    isReply Tests.reply = true ∧ rdBe Tests.reply 2 2 = 9 := by decide +kernel

/-- A running device in Operational with four virtual functions, pod 2 in reset or not. -/
def Tests.vfs (resetting : Bool) : State :=
  { Tests.up with
      sec.lifecycle := 2
      host := { linkUp := true, vfEnable := true, numVfs := 4 }
      pods := [(2, { resetting := resetting, resetCallers := if resetting then [Tests.pod0] else [] })] }

theorem witness_Pods_start : mayStart (Tests.vfs false) Tests.pod0 0x0F01 [] = true ∧ shaped ([2] ++ zeros 7) 8 [(1, 7)] = true ∧
    rd ([2] ++ zeros 7) 0 1 = 2 ∧ (pod (Tests.vfs false) 2).resetting = false ∧ fnExists (Tests.vfs false) 2 = true ∧
    1 < (Tests.vfs false).host.numVfs ∧ (Tests.vfs false).host.vfEnable = true ∧ Running (Tests.vfs false) := by decide +kernel

theorem witness_Pods_complete : (pod (Tests.vfs true) 2).resetting = true ∧ (Tests.vfs true).mgmt.fwState ≠ .restarting ∧
    (pod (Tests.vfs true) 2).resetCallers ≠ [] ∧
    (∀ c ∈ (pod (Tests.vfs true) 2).resetCallers, c.pod ≠ 2 ∧ c.lane ≤ 2) := by decide +kernel

/-- Pod 2 with window 0 of 2 MiB for reading and writing, a write of it in flight. -/
def Tests.windowed (resetting : Bool) : State :=
  { Tests.vfs false with
      pods := [(2, { resetting := resetting, windows := [(0, { base := 0, size := 2 ^ 21, read := true, write := true })] })]
      fw.inFlight := [{ id := 0, pod := 2, epoch := 0, write := some (16, [7]), read := none },
                      { id := 1, pod := 2, epoch := 0, write := none, read := some (16, 1) }] }

theorem witness_Accesses_check : fnExists (Tests.windowed false) 2 = true ∧ Running (Tests.windowed false) ∧
    (pod (Tests.windowed false) 2).resetting = false ∧ (window (Tests.windowed false) 2 (8 / 2 ^ 29)).write = true ∧
    8 % 2 ^ 29 + 8 ≤ (window (Tests.windowed false) 2 (8 / 2 ^ 29)).size ∧
    ¬ (2 ^ 21 % 2 ^ 29 + 8 ≤ (window (Tests.windowed false) 2 (2 ^ 21 / 2 ^ 29)).size) ∧ (pod (Tests.windowed true) 2).resetting = true ∧
    ((Tests.windowed false).fw.inFlight.find? (fun x => x.id == 0)).map (·.write) = some (some (16, [7])) ∧
    ((Tests.windowed false).fw.inFlight.find? (fun x => x.id == 1)).map (·.read) = some (some (16, 1)) := by decide +kernel

def Tests.windowReq : Bytes := [3, 7, 3] ++ zeros 5 ++ leBytes 8 (2 ^ 21) ++ leBytes 8 (2 ^ 21)

theorem witness_Accesses_commands : mayStart (Tests.windowed false) Tests.pod0 0x0F03 [.pod 3] = true ∧ shaped Tests.windowReq 24 [(3, 5)] = true ∧
    rd Tests.windowReq 0 1 = 3 ∧ rd Tests.windowReq 1 1 = 7 ∧ rd Tests.windowReq 2 1 = 3 ∧ rd Tests.windowReq 8 8 = 2 ^ 21 ∧
    rd Tests.windowReq 16 8 = 2 ^ 21 ∧ 2 ^ 21 + 2 ^ 21 ≤ reservedFrom (Tests.windowed false).part ∧ oldAccesses (Tests.windowed false) = 0 ∧
    windowConflict (Tests.windowed false) 3 (2 ^ 21) (2 ^ 21) = false ∧
    mayStart (Tests.windowed false) Tests.pod0 0x0F02 [.port 127, .pod 64] = true ∧ shaped [127, 0, 64, 0, 0, 0, 0, 0] 8 [(3, 5)] = true ∧
    127 < (Tests.windowed false).part.ports ∧ isOpen (Tests.windowed false) 127 = false := by decide +kernel

theorem witness_OwnershipAcrossResets : Tests.up.pwr.phase ≠ .resetPhase ∧ Running Tests.up ∧ Tests.up.host.linkUp = true ∧
    (match exec .watchdogExpiry Tests.up with
     | .next _ => true | _ => false) = true ∧
    (match exec (.podReset Tests.pod0 [1, 0, 0, 0, 0, 0, 0, 0]) Tests.up with
     | .next _ => true | _ => false) = true := by decide +kernel

theorem witness_OwnershipAcrossResets_reset : ∃ t, exec .pf0FunctionLevelReset Tests.up = .next t ∧ t.pwr.phase = .resetPhase ∧ t.pods = [] :=
  ⟨_, rfl, by decide +kernel, by decide +kernel⟩

/-- A running device with one journaled write. -/
def Tests.journal (t : JTarget) : State := { Tests.up with mram.journal := [{ target := t, slot := some (64 * 64 + 63, { bytes := [], usage := 1 }) }] }

theorem witness_Writes_commit : Running (Tests.journal .storeGen) ∧
    ((Tests.journal (.keyRecord 9 none)).mram.journal.head?.map (·.target)) = some (.keyRecord 9 none) ∧
    ((Tests.journal (.registry [])).mram.journal.head?.map (·.target)) = some (.registry []) ∧
    ((Tests.journal (.ceiling 0 5)).mram.journal.head?.map (·.target)) = some (.ceiling 0 5) ∧
    ((Tests.journal (.lin 95 {})).mram.journal.head?.map (·.target)) = some (.lin 95 {}) := by decide +kernel

theorem witness_Writes_lifecycle : (∀ n < 3, mayStart { Tests.up with sec.lifecycle := n } Tests.pod0 0x1001 [] = true ∧
      shaped (leBytes 1 (n + 1) ++ zeros 7) 8 [(1, 7)] = true ∧ rd (leBytes 1 (n + 1) ++ zeros 7) 0 1 = n + 1) ∧
    mayStart Tests.up Tests.pod0 0x1002 [] = true ∧ shaped ([2] ++ zeros 7) 8 [(2, 6)] = true ∧
    Tests.up.sec.revoked ||| BitVec.ofNat 4 2 ≠ 15 ∧ bit 2 Tests.up.sec.runKey = false ∧ Tests.up.sec.minSecver ≤ 0 ∧ 0 ≤ Tests.up.sec.runSecver := by
  decide +kernel

theorem witness_Writes_keys : mayStart Tests.keyed Tests.pod0 0x1003 [.keySlot (64 * 64)] = true ∧
    shaped ([64] ++ zeros 47) 48 [(1, 7)] = true ∧ rd ([64] ++ zeros 47) 0 1 = 64 ∧ Tests.keyed.sec.lifecycle = 2 ∧ Tests.keyed.sec.tamper = false ∧
    slotKey Tests.keyed 0 0 = some { bytes := zeros 32, usage := 0 } ∧ mayStart Tests.keyed Tests.pod0 0x1004 [.keySlot (64 * 0)] = true ∧
    (zeros 96).length = 96 ∧ mayStart Tests.keyed Tests.pod0 0x1005 [.keySlot (64 * 0)] = true ∧ shaped (zeros 8) 8 [(0, 8)] = true ∧
    mayStart Tests.keyed Tests.pod0 0x1006 [] = true := by decide +kernel

def Tests.provisioned : State := { Tests.up with sec.lifecycle := 2, sec.cfg.modes := 0xFF, sec.observeUntil := some 9, sec.tamper := true }

theorem witness_Tamper_rows : sourceOn Tests.provisioned 0 = true ∧ sourceOn Tests.provisioned 6 = true ∧ Tests.provisioned.sec.lifecycle ≠ 3 ∧
    Tests.provisioned.pwr.phase = .running ∧ bits Tests.provisioned.sec.cfg.modes.toNat (2 * 3) 2 = 3 ∧
    Tests.provisioned.sec.observeUntil = some 9 := by decide +kernel

/-- The pattern drawn is itself one that comes back. -/
theorem witness_Tamper_pattern : ∃ r, r = Config.freeNat Tests.provisioned.free % 65536 := ⟨_, rfl⟩

theorem witness_Tamper_commands : mayStart Tests.provisioned Tests.pod0 0x1007 [] = true ∧
    shaped [0xFF, 0, 1, 1, 1, 100, 0, 0] 8 [(1, 1), (6, 2)] = true ∧
    (∀ k < 4, 1 ≤ rd [0xFF, 0, 1, 1, 1, 100, 0, 0] (2 + k) 1 ∧ rd [0xFF, 0, 1, 1, 1, 100, 0, 0] (2 + k) 1 ≤ 100) ∧
    mayStart Tests.provisioned Tests.pod0 0x1008 [] = true ∧ shaped (zeros 8) 8 [(0, 8)] = true ∧ Tests.pod0.io.tamperActive % 128 = 0 ∧
    mayStart Tests.provisioned Tests.pod0 0x1009 [] = true ∧ shaped (zeros 8) 8 [(1, 3)] = true ∧
    shaped ([1, 0, 0, 0, 1] ++ zeros 99) 104 [(1, 3)] = true ∧ rd ([1, 0, 0, 0, 1] ++ zeros 99) 4 4 = 1 ∧
    shaped ([2] ++ zeros 7) 8 [(1, 3)] = true := by decide +kernel

/-- A running device with one programmable counter. -/
def Tests.counting (x : Pmc) : State := { Tests.up with obs.ctrs := [(255, x)] }

theorem witness_CountersAndSnapshots : pageOpen (Tests.counting { ovfIrq := true, assigned := 3 }) 0 = true ∧
    (pmc (Tests.counting { ovfIrq := true, assigned := 3 }) 255).assigned ≠ 0 ∧
    (pmc (Tests.counting { ovfIrq := true, assigned := 3 }) 255).ovfIrq = true ∧ (2 ^ 64 - 1) + 1 ≥ 2 ^ 64 ∧
    Tests.up.obs.snapPending = none ∧ ({ Tests.up with obs.snapPending := some 5 } : State).obs.snapPending.isSome = true ∧
    pageOpen { Tests.up with obs.snapPending := some 5 } 0 = true ∧
    mayStart Tests.up Tests.pod0 0x1101 [] = true ∧ shaped [0, 64, 15, 0, 255, 0, 0, 0] 8 [(6, 2)] = true ∧
    shaped [0, 64, 15, 1, 255, 0, 0, 0] 8 [(6, 2)] = true ∧ rd [0, 64, 15, 0, 255, 0, 0, 0] 4 2 = 255 ∧
    Tests.up.obs.slots.find? (fun e => e.1 == 16 * 64 + 15) = none ∧ (pmc Tests.up 255).assigned = 0 := by decide +kernel

/-- A request of pmc.configure for counter 5, with a port filter or without. -/
def Tests.pmcReq (event port : Nat) : Bytes :=
  [5, 0, 7, 15] ++ leBytes 2 event ++ leBytes 2 port ++ [0xFF, 3] ++ zeros 6 ++ [0xFF, 0xFF, 0xFF, 0xFF] ++ zeros 12

theorem witness_CountersAndSnapshots_configure : mayStart Tests.up Tests.pod0 0x1102 [] = true ∧
    shaped (Tests.pmcReq 0x10 127) 32 [(10, 6)] = true ∧ rd (Tests.pmcReq 0x10 127) 6 2 = 127 ∧
    rd (Tests.pmcReq 0x10 127) 16 4 = 0xFFFFFFFF ∧ rd (Tests.pmcReq 0x10 127) 9 1 = 3 ∧
    (pmcOf (Tests.pmcReq 0x10 127) (pmc Tests.up 5)).invalid = true ∧ (pmcOf (Tests.pmcReq 1 127) (pmc Tests.up 5)).invalid = false ∧
    shaped (Tests.pmcReq 1 127) 32 [(10, 6)] = true := by decide +kernel

/-- A running device whose DDR trace sink is in stop mode, 1 MiB. -/
def Tests.tracing (ring : List TraceRec) : State := { Tests.up with obs.ddrMode := 2, obs.ring := ring }

/-- A trace ring of n words. -/
def Tests.fullRing (n : Nat) : List TraceRec := [⟨List.replicate n 0⟩]

theorem Tests.fullRing_bytes (n : Nat) : ringBytes (Tests.fullRing n) = 8 * n := by simp [Tests.fullRing, ringBytes, traceBytes]

theorem witness_TraceAndTags_time : Tests.up.obs.ddrMode = 0 ∧ Tests.up.obs.portRate = 0 ∧
    (Tests.tracing []).obs.ddrMode = 2 ∧ (Tests.tracing []).obs.portRate = 0 ∧ (Tests.tracing []).obs.trcFull = false ∧
    (Tests.tracing []).obs.ddrSink.lossCount = 0 ∧ ringBytes (Tests.tracing []).obs.ring + 16 ≤ 2 ^ (Tests.tracing []).obs.ddrM * 2 ^ 20 ∧
    ({ Tests.up with obs.portRate := 1, obs.portWords := 512 } : State).obs.portRate ≠ 0 := by decide +kernel

theorem witness_TraceAndTags_full : 2 ^ (Tests.tracing (Tests.fullRing 131072)).obs.ddrM * 2 ^ 20 <
    ringBytes (Tests.tracing (Tests.fullRing 131072)).obs.ring + 16 := by
  show 2 ^ 0 * 2 ^ 20 < ringBytes (Tests.fullRing 131072) + 16
  rw [Tests.fullRing_bytes]; decide

theorem witness_TraceAndTags_commands : mayStart Tests.up Tests.pod0 0x1103 [] = true ∧ mayStart Tests.up Tests.pod0 0x1104 [] = true ∧
    mayStart Tests.up Tests.pod0 0x1105 [] = true ∧ shaped [0xFF, 0xFF, 15, 20, 24, 1, 0, 0] 8 [(6, 2)] = true ∧
    rd [0xFF, 0xFF, 15, 20, 24, 1, 0, 0] 0 2 = 0xFFFF ∧ rd [31, 0, 15, 20, 24, 1, 0, 0] 0 2 < Tests.up.part.ports ∧
    shaped [11, 15, 2, 8, 3, 0, 0, 0] 8 [(5, 3)] = true ∧ bit (rd [11, 15, 2, 8, 3, 0, 0, 0] 0 1) 2 = false ∧
    shaped [0, 0, 0, 0, 0, 0, 0, 0] 8 [(0, 8)] = true ∧ Tests.up.obs.ddrMode = 0 ∧ Tests.up.obs.ddrSink.lossCount = 0 := by decide +kernel

/-- A running device with lane 0's chip of trunk lane 0 routed to pod 0's ring, in a state of its own. -/
def Tests.routed (c : EvtCfg) (g : EvtRing) : State := { Tests.up with evt.cfg := [(1024, c)], evt.rings := [(0, g)] }
def Tests.openRing : EvtRing := { enable := true, sizeLog2 := 7 }

theorem witness_EventsAreIssued : Running Tests.up ∧ causeOk 1024 2 = true ∧ causeOk 1024 3 = false ∧ sourceExists Tests.up 1024 = true ∧
    openWindow Tests.up 1024 2 = none ∧
    openWindow { Tests.up with evt.windows := [{ source := 1024, cause := 2, ends := 9, acc := none }] } 1024 2 ≠ none ∧
    (evtCfg Tests.up 1024).enable = false ∧ (evtCfg (Tests.routed { enable := true } Tests.openRing) 1024).enable = true ∧
    bit (evtCfg (Tests.routed { enable := true } Tests.openRing) 1024).causeMask.toNat 1 = true ∧
    2 ^ (7 : Nat) ≤ ((evtRing (Tests.routed { enable := true } { Tests.openRing with prod := 128 }) 0).prod - 0).toNat ∧
    ((evtRing (Tests.routed { enable := true } { Tests.openRing with prod := 127 }) 0).prod - 0).toNat < 2 ^ (7 : Nat) ∧
    hostOk (Tests.routed { enable := true } Tests.openRing) 0 = true ∧ (Tests.routed { enable := true } Tests.openRing).obs.ctrs = [] ∧
    hostOk { Tests.routed { enable := true } Tests.openRing with host.linkUp := false } 0 = false := by decide +kernel

theorem witness_EventRoutingAndVectors : pageOpen Tests.up 0 = true ∧ sourceExists Tests.up 1407 = true ∧
    sourceExists { Tests.up with part := .gnz5032 } 256 = false ∧ pageOpen { Tests.up with part := .gnz5032 } 0 = true ∧
    (decide (9 ≤ bits (9 * 2 ^ 46) 46 10) && (bits (9 * 2 ^ 46) 56 7 == 0)) = true ∧
    (decide (9 ≤ bits (8 * 2 ^ 46) 46 10)) = false ∧
    mayStart Tests.up Tests.pod0 0x1301 [] = true ∧ shaped [127, 5, 1, 255, 9, 0, 255, 0] 8 [(7, 1)] = true ∧
    sourceExists Tests.up (rd [127, 5, 1, 255, 9, 0, 255, 0] 0 2) = true ∧
    (evtRing Tests.up 0).sizeLog2.toNat < 7 ∧ (evtRing (Tests.routed {} Tests.openRing) 0).sizeLog2.toNat = 7 ∧
    pageOpen (Tests.routed {} Tests.openRing) 0 = true ∧ (evtRing (Tests.routed {} { Tests.openRing with sizeLog2 := 17 }) 0).sizeLog2.toNat > 16 := by
  decide +kernel

/-- A running device with one virtual function, whose pod 1 owns port 0. -/
def Tests.oneVf : State := { Tests.up with host.vfEnable := true, host.numVfs := 1, own.ports := [(0, 1)] }

theorem witness_EventRoutingAndVectors_tenant : mayStart Tests.oneVf { Tests.pod0 with pod := 1 } 0x1301 [] = true ∧
    sourceExists Tests.oneVf 8 = true ∧ sourceOwner Tests.oneVf 0 = 1 ∧ sourceOwner Tests.oneVf 8 ≠ 1 ∧
    rd [0, 0, 1, 15, 9, 0, 255, 0] 3 1 = 15 ∧ pageOpen Tests.oneVf 1 = true := by decide +kernel

theorem witness_EventRoutingAndVectors_vectors : pageOpen Tests.up 0 = true ∧ hostOk Tests.up 0 = true ∧
    ({ Tests.up with host.msixPending := [1023] } : State).host.msixPending.contains (1024 * 0 + 1023) = true ∧
    Tests.up.host.msixPending.contains 1023 = false ∧
    (tget {} ({ Tests.up with host.deferral := [(0, { admitAt := some 4, admitDue := true, deliverAt := some 5, deliverDue := true })] } : State).host.deferral 0).admitAt = some 4 ∧
    bit (msixEntry { Tests.up with host.msix := [(7, { ctrl := 0 }), (8, { ctrl := 0 })] } 0 7).ctrl.toNat 0 = false ∧
    bit (msixEntry { Tests.up with host.msix := [(7, { ctrl := 0 }), (8, { ctrl := 0 })] } 0 8).ctrl.toNat 0 = false := by decide +kernel

theorem witness_PendingBitsRecordIssues : pageOpen Tests.up 0 = true ∧ Running Tests.up ∧ causeOk 1432 1 = true ∧
    sourceExists Tests.up 1432 = true ∧ openWindow Tests.up 1432 1 = none ∧ (evtCfg Tests.up 1432).enable = false ∧
    bit (tget 0 ({ Tests.up with evt.pending := [(23, 3)] } : State).evt.pending 23).toNat 1 = true := by decide +kernel

theorem witness_RegisterAccess : pageOpen Tests.up 0 = true ∧ isMsix (regAt Tests.up 0 0x1FFFF8) = false ∧
    regAt Tests.up 0 0x1FFFF8 = none ∧ regAt Tests.up 0 0x30 = some (.sys 6) ∧ regPresent Tests.up (.sys 6) = true ∧
    regAt Tests.up 0 0x1FFFFF = none ∧ regAt Tests.oneVf 1 0xFFF8 = none ∧ pageOpen Tests.oneVf 1 = true ∧
    regAt { Tests.up with part := .gnz5032 } 0 (0x60400 + 8 * 127) = some (.lbfPort 127) ∧
    regPresent { Tests.up with part := .gnz5032 } (.lbfPort 127) = false ∧ isMsix (some (.lbfPort 127)) = false ∧
    pageOpen { Tests.up with part := .gnz5032 } 0 = true := by decide +kernel

theorem witness_RegisterAccess_fence : answers { Tests.oneVf with pods := [(1, { resetting := true })] } 1 = true ∧
    (pod { Tests.oneVf with pods := [(1, { resetting := true })] } 1).resetting = true ∧
    regAt { Tests.oneVf with pods := [(1, { resetting := true })] } 1 0x3008 ≠ some (.podStatus 1) := by decide +kernel

theorem witness_StepRunsTheFrontCommand : ({ Tests.up with pending := [.snapshotArm] } : State).pending = [.snapshotArm] ∧
    Tests.up.pending = [] := by decide +kernel

theorem witness_StepKeepsInvariant : ({ Tests.up with ddr := [(4, 1), (9, 7)], pending := [.snapshotArm], sec.lifecycle := 3, sec.tap := Tap.of 3 } : State).Inv :=
  ⟨by decide +kernel, by decide, rfl⟩

theorem witness_FusesOnlyBlow : (match exec .snapshotArm Tests.up with
    | .next _ => true | _ => false) = true := by decide +kernel

theorem witness_SafeRunsNeverStop : ({ Tests.up with pending := [.snapshotArm, .chiveBeacon 127] } : State).safe ∧
    (Instr.chiveBeacon 128).wellFormed Tests.up.part = false ∧ (Instr.chiveBeacon 127).wellFormed Tests.up.part = true := by
  refine ⟨?_, by decide, by decide⟩
  intro c h
  simp at h
  rcases h with rfl | rfl <;> decide

theorem witness_DdrOnlyByItsWriters : (match exec .snapshotArm Tests.up with
    | .next _ => true | _ => false) = true := by decide +kernel

theorem witness_DdrReadsWhatWasWritten : Memory.wf [(4, 1), (9, 7)] = true ∧ Memory.wf Tests.up.ddr = true := by decide +kernel

end Sys2Proof
end

section
/-! How a command can end (R1, R2): with a next state, or with the fault of a resource that the part lacks. -/

namespace Sys2Proof.Machine

/-- An outcome that is a next state. -/
def Proceeds (o : Out) : Prop := ∃ t, o = .next t

theorem proceeds_next (t : State) : Proceeds (.next t) := ⟨t, rfl⟩

/-- A choice between two outcomes proceeds where both do. -/
theorem proceeds_if {p : Prop} [Decidable p] {a b : Out} (ha : Proceeds a) (hb : Proceeds b) : Proceeds (if p then a else b) := by
  split <;> assumption

theorem proceeds_if_next {p : Prop} [Decidable p] {t u : State} : Proceeds (if p then .next t else .next u) :=
  proceeds_if (proceeds_next t) (proceeds_next u)

/-- An outcome that is a next state where the resource a command names exists, and the fault of an absent resource where it does not. -/
structure FaultsUnless (ok : Bool) (o : Out) : Prop where
  fault : ok = false → o = .fault .absentResource
  proceeds : ok = true → Proceeds o

/-- A command that names no resource. -/
theorem FaultsUnless.of_proceeds {o : Out} (h : Proceeds o) : FaultsUnless true o := ⟨nofun, fun _ => h⟩

/-- The shape of the commands' meanings: the check of the resource first, and a next state behind it. -/
theorem faultsUnless_if {ok : Bool} {p : Prop} [Decidable p] {o : Out} (h : ok = true ↔ ¬ p) (ho : Proceeds o) :
    FaultsUnless ok (if p then .fault .absentResource else o) := by
  cases ok
  · exact ⟨fun _ => if_pos (by simpa using h), nofun⟩
  · exact ⟨nofun, fun _ => by rwa [if_neg (h.mp rfl)]⟩

/-! ### The checks of a resource -/

section
variable {o : Out} (ho : Proceeds o)
include ho

theorem faultsUnless_not {b : Bool} : FaultsUnless b (if !b then .fault .absentResource else o) :=
  faultsUnless_if (by simp) ho

/-- A number below a bound: a port, a lane, an input, a context and so on. -/
theorem faultsUnless_ge {n m : Nat} : FaultsUnless (decide (n < m)) (if n ≥ m then .fault .absentResource else o) :=
  faultsUnless_if (by simp) ho

/-- A function with a register page (R463, R561). -/
theorem faultsUnless_page {fn : Nat} : FaultsUnless (hasPage fn) (if fn > 64 then .fault .absentResource else o) :=
  faultsUnless_if (by simp [hasPage]) ho

/-- A tenant's pod (R463). -/
theorem faultsUnless_tenant {n : Nat} : FaultsUnless (hasTenant n) (if n = 0 || n > 64 then .fault .absentResource else o) :=
  faultsUnless_if (by simp [hasTenant]; omega) ho

/-- The two ports of a canceller pair. -/
theorem faultsUnless_ports {p : Part} {v a : Nat} :
    FaultsUnless (hasPort p v && hasPort p a) (if v ≥ p.ports || a ≥ p.ports then .fault .absentResource else o) :=
  faultsUnless_if (by simp [hasPort]) ho

end

/-! ### The shared operations that check their resource -/

theorem onLane_faultsUnless (n : Nat) (s : State) (f : State → State) : FaultsUnless (hasTrunkLane s.part n) (onLane n s f) := by
  unfold onLane
  rw [← ite_not]
  exact faultsUnless_if (by simp [hasTrunkLane]) (proceeds_next _)

theorem onPort_faultsUnless (p : Nat) (s : State) (f : State → State) : FaultsUnless (hasPort s.part p) (onPort p s f) :=
  faultsUnless_ge proceeds_if_next

theorem fromEndpoint_faultsUnless (p e : Nat) (s : State) (f : State → State) :
    FaultsUnless (hasPort s.part p) (fromEndpoint p e s f) := onPort_faultsUnless ..

theorem onPage_faultsUnless (fn : Nat) (s : State) (f : State → State) : FaultsUnless (hasPage fn) (onPage fn s f) :=
  faultsUnless_page (proceeds_next _)

theorem onLaneRegs_faultsUnless (pod_ lane : Nat) (s : State) (f : State → State) :
    FaultsUnless (hasMbxLane pod_ lane) (onLaneRegs pod_ lane s f) := faultsUnless_not (proceeds_next _)

theorem onRingRegs_faultsUnless (pod_ ring : Nat) (s : State) (f : State → State) :
    FaultsUnless (hasRing pod_ ring) (onRingRegs pod_ ring s f) := by
  unfold onRingRegs
  rw [← ite_not]
  exact faultsUnless_if (by simp [hasRing, validRing]) (proceeds_next _)

/-- Closing a port that has gone idle leaves the fault of a port that the part lacks. -/
theorem closing_faultsUnless {p : Nat} {ok : Bool} {o : Out} (h : FaultsUnless ok o) : FaultsUnless ok (closing p o) where
  fault e := by rw [h.fault e]; rfl
  proceeds e := by
    obtain ⟨t, rfl⟩ := h.proceeds e
    exact proceeds_next _

/-! ### The commands whose meaning branches further

Every branch behind the check of the resource is a next state. -/

theorem endTransmit_faultsUnless (port_ : Nat) (s : State) : FaultsUnless (hasPort s.part port_) (endTransmit port_ s) := by
  unfold endTransmit
  refine faultsUnless_ge ?_
  dsimp only
  (repeat' split) <;> exact proceeds_next _

theorem ackReceived_faultsUnless (port_ fc start : Nat) (s : State) :
    FaultsUnless (hasPort s.part port_) (ackReceived port_ fc start s) := by
  unfold ackReceived
  refine faultsUnless_ge ?_
  dsimp only
  (repeat' split) <;> exact proceeds_next _

theorem ackWindowClose_faultsUnless (port_ : Nat) (s : State) :
    FaultsUnless (hasPort s.part port_) (ackWindowClose port_ s) := by
  unfold ackWindowClose
  refine faultsUnless_ge ?_
  dsimp only
  split <;> exact proceeds_next _

theorem execMsixVectorUnmask_faultsUnless (fn vector : Nat) (s : State) :
    FaultsUnless (hasPage fn && decide (vector < if fn = 0 then 1024 else 16)) (execMsixVectorUnmask fn vector s) :=
  faultsUnless_if (by simp [hasPage]) proceeds_if_next

theorem execApertureAccess_faultsUnless (pod_ : Nat) (write : Bool) (offset len : Nat) (data : Bytes) (s : State) :
    FaultsUnless (hasTenant pod_ && decide (offset + len ≤ 2 ^ 32)) (execApertureAccess pod_ write offset len data s) :=
  faultsUnless_if (by simp [hasTenant]; omega) (proceeds_if (proceeds_next _) (proceeds_if (proceeds_next _) proceeds_if_next))

theorem execChiveBeacon_faultsUnless (port_ : Nat) (s : State) :
    FaultsUnless (hasPort s.part port_) (execChiveBeacon port_ s) := by
  unfold execChiveBeacon
  refine faultsUnless_ge ?_
  dsimp only
  (repeat' split) <;> exact proceeds_next _

theorem execTxenRise_faultsUnless (port_ : Nat) (s : State) :
    FaultsUnless (hasPort s.part port_) (execTxenRise port_ s) := by
  unfold execTxenRise
  refine faultsUnless_ge ?_
  dsimp only
  (repeat' split) <;> exact proceeds_next _

theorem execTxenFall_faultsUnless (port_ : Nat) (s : State) :
    FaultsUnless (hasPort s.part port_) (execTxenFall port_ s) := by
  unfold execTxenFall
  refine faultsUnless_ge ?_
  dsimp only
  (repeat' split) <;> exact proceeds_next _

theorem execSynthFailure_proceeds (synth : Synth) (s : State) :
    Proceeds (execSynthFailure synth s) := by
  unfold execSynthFailure
  dsimp only
  (repeat' split) <;> exact proceeds_next _

theorem execSynthAdoptionComplete_proceeds (lost : Nat) (s : State) :
    Proceeds (execSynthAdoptionComplete lost s) := by
  unfold execSynthAdoptionComplete
  dsimp only
  (repeat' split) <;> exact proceeds_next _

theorem execCalibrationStart_faultsUnless (port_ : Nat) (s : State) :
    FaultsUnless (hasPort s.part port_) (execCalibrationStart port_ s) := by
  unfold execCalibrationStart
  refine faultsUnless_ge ?_
  dsimp only
  (repeat' split) <;> exact proceeds_next _

theorem execCalibrationComplete_faultsUnless (port_ : Nat) (result : CalResult) (s : State) :
    FaultsUnless (hasPort s.part port_) (execCalibrationComplete port_ result s) := by
  unfold execCalibrationComplete
  refine faultsUnless_ge ?_
  dsimp only
  (repeat' split) <;> exact proceeds_next _

theorem execAgcFrameGainRelease_faultsUnless (port_ : Nat) (s : State) :
    FaultsUnless (hasPort s.part port_) (execAgcFrameGainRelease port_ s) := by
  unfold execAgcFrameGainRelease
  refine faultsUnless_ge ?_
  (repeat' split) <;> exact proceeds_next _

theorem execFrameControlReceived_faultsUnless (port_ fc : Nat) (s : State) :
    FaultsUnless (hasPort s.part port_) (execFrameControlReceived port_ fc s) := by
  unfold execFrameControlReceived
  refine faultsUnless_ge ?_
  split
  · exact proceeds_next _
  · exact proceeds_if (proceeds_next _) (proceeds_if (proceeds_next _) (proceeds_if (proceeds_next _) proceeds_if_next))

theorem execFrameBodyDecoded_faultsUnless (port_ : Nat) (body : RxBody) (s : State) :
    FaultsUnless (hasPort s.part port_) (execFrameBodyDecoded port_ body s) := by
  unfold execFrameBodyDecoded
  refine faultsUnless_ge ?_
  split
  · exact proceeds_next _
  · split
    · exact proceeds_next _
    · exact proceeds_if_next

theorem execAckTransmit_faultsUnless (port_ : Nat) (s : State) :
    FaultsUnless (hasPort s.part port_) (execAckTransmit port_ s) := by
  unfold execAckTransmit
  refine faultsUnless_ge ?_
  dsimp only
  (repeat' split) <;> exact proceeds_next _

theorem execPrsSlot_faultsUnless (port_ : Nat) (heard heardFrame : Bool) (s : State) :
    FaultsUnless (hasPort s.part port_) (execPrsSlot port_ heard heardFrame s) :=
  faultsUnless_ge (proceeds_if (proceeds_next _) (proceeds_if (proceeds_next _) (proceeds_if (proceeds_next _)
    (proceeds_if (proceeds_next _) proceeds_if_next))))

theorem execUndecodableHoldOffEnd_faultsUnless (port_ : Nat) (s : State) :
    FaultsUnless (hasPort s.part port_) (execUndecodableHoldOffEnd port_ s) := by
  unfold execUndecodableHoldOffEnd
  refine faultsUnless_ge ?_
  dsimp only
  (repeat' split) <;> exact proceeds_next _

theorem execFrameTransmitStart_faultsUnless (port_ units : Nat) (reads : TxReads) (s : State) :
    FaultsUnless (hasPort s.part port_) (execFrameTransmitStart port_ units reads s) := by
  unfold execFrameTransmitStart
  refine faultsUnless_ge ?_
  dsimp only
  (repeat' split) <;> exact proceeds_next _

theorem execZeroCrossing_faultsUnless (port_ edge : Nat) (s : State) :
    FaultsUnless (hasPort s.part port_) (execZeroCrossing port_ edge s) := by
  unfold execZeroCrossing
  refine faultsUnless_ge ?_
  dsimp only
  (repeat' split) <;> exact proceeds_next _

theorem execCancellerSurveyEnd_faultsUnless (victim : Nat) (ties : List Nat) (s : State) :
    FaultsUnless (hasPort s.part victim) (execCancellerSurveyEnd victim ties s) := by
  unfold execCancellerSurveyEnd
  refine faultsUnless_ge ?_
  dsimp only
  (repeat' split) <;> exact proceeds_next _

theorem execCancellerSymbol_faultsUnless (victim aggressor : Nat) (sym : CancSymbol) (s : State) :
    FaultsUnless (hasPort s.part victim && hasPort s.part aggressor) (execCancellerSymbol victim aggressor sym s) := by
  unfold execCancellerSymbol
  refine faultsUnless_ports ?_
  dsimp only
  (repeat' split) <;> exact proceeds_next _

theorem execCancellerStateChange_faultsUnless (victim aggressor was goal : Nat) (s : State) :
    FaultsUnless (hasPort s.part victim && hasPort s.part aggressor) (execCancellerStateChange victim aggressor was goal s) := by
  unfold execCancellerStateChange
  refine faultsUnless_ports ?_
  dsimp only
  (repeat' split) <;> exact proceeds_next _

theorem execCancellerDisengagedTimeout_faultsUnless (victim aggressor : Nat) (s : State) :
    FaultsUnless (hasPort s.part victim && hasPort s.part aggressor) (execCancellerDisengagedTimeout victim aggressor s) := by
  unfold execCancellerDisengagedTimeout
  refine faultsUnless_ports ?_
  (repeat' split) <;> exact proceeds_next _

theorem execCancellerSuspendLong_faultsUnless (victim aggressor : Nat) (s : State) :
    FaultsUnless (hasPort s.part victim && hasPort s.part aggressor) (execCancellerSuspendLong victim aggressor s) := by
  unfold execCancellerSuspendLong
  refine faultsUnless_ports ?_
  dsimp only
  (repeat' split) <;> exact proceeds_next _

theorem execTreeComputation_faultsUnless (port_ : Nat) (s : State) :
    FaultsUnless (hasPort s.part port_) (execTreeComputation port_ s) :=
  faultsUnless_ge (proceeds_if (proceeds_next _) (proceeds_if (proceeds_next _) proceeds_if_next))

theorem execPendingVersionTimeout_faultsUnless (port_ : Nat) (s : State) :
    FaultsUnless (hasPort s.part port_) (execPendingVersionTimeout port_ s) := by
  unfold execPendingVersionTimeout
  refine faultsUnless_ge ?_
  (repeat' split) <;> exact proceeds_next _

theorem execHeldSubmissionAdmit_proceeds (idx : Nat) (s : State) :
    Proceeds (execHeldSubmissionAdmit idx s) := by
  unfold execHeldSubmissionAdmit
  (repeat' split) <;> exact proceeds_next _

theorem execFrameSeal_proceeds (flight_ : Nat) (plaintext : Option Bytes) (s : State) :
    Proceeds (execFrameSeal flight_ plaintext s) := by
  unfold execFrameSeal
  dsimp only
  (repeat' split) <;> exact proceeds_next _

theorem execStaging_faultsUnless (port_ : Nat) (ddrFail : Bool) (s : State) :
    FaultsUnless (hasPort s.part port_) (execStaging port_ ddrFail s) := by
  unfold execStaging
  refine faultsUnless_ge ?_
  dsimp only
  (repeat' split) <;> exact proceeds_next _

theorem execUplinkOpen_proceeds (flight_ : Nat) (poison : Bool) (s : State) :
    Proceeds (execUplinkOpen flight_ poison s) := by
  unfold execUplinkOpen
  split
  · exact proceeds_next _
  · refine proceeds_if (proceeds_next _) (proceeds_if (proceeds_next _) (proceeds_if (proceeds_next _)
      (proceeds_if (proceeds_next _) (proceeds_if (proceeds_next _) ?_))))
    split
    · exact proceeds_next _
    · dsimp only
      split
      · exact proceeds_next _
      · refine proceeds_if (proceeds_next _) (proceeds_if (proceeds_next _) ?_)
        split <;> exact proceeds_next _

theorem execRxRingWrite_proceeds (flight_ : Nat) (consumer : Option Nat) (s : State) :
    Proceeds (execRxRingWrite flight_ consumer s) := by
  unfold execRxRingWrite
  dsimp only
  (repeat' split) <;> exact proceeds_next _

theorem execCipherDescriptorTake_faultsUnless (pod_ ring : Nat) (desc : Bytes) (io : DescIo) (s : State) :
    FaultsUnless (hasRing pod_ ring) (execCipherDescriptorTake pod_ ring desc io s) := by
  unfold execCipherDescriptorTake
  refine faultsUnless_if (by simp [hasRing]) (proceeds_if (proceeds_next _) (proceeds_if (proceeds_next _) (proceeds_if (proceeds_next _)
    (proceeds_if (proceeds_next _) (proceeds_if ?_ (proceeds_if (proceeds_next _) proceeds_if_next))))))
  dsimp only
  split
  · exact proceeds_next _
  · split <;> exact proceeds_next _

theorem execCipherJobComplete_proceeds (pod_ ring idx : Nat) (s : State) :
    Proceeds (execCipherJobComplete pod_ ring idx s) := by
  unfold execCipherJobComplete
  dsimp only
  (repeat' split) <;> exact proceeds_next _

theorem execChkDmaComplete_proceeds (ctx : Nat) (ddrFail : Bool) (s : State) :
    Proceeds (execChkDmaComplete ctx ddrFail s) := by
  unfold execChkDmaComplete
  dsimp only
  (repeat' split) <;> exact proceeds_next _

theorem execBankSwapEffect_faultsUnless (swap : BankSwap) (s : State) :
    FaultsUnless (s.part.hasChain swap.chain) (execBankSwapEffect swap s) := by
  unfold execBankSwapEffect
  refine faultsUnless_not ?_
  dsimp only
  (repeat' split) <;> exact proceeds_next _

theorem execScanFrameStart_faultsUnless (conv : Nat) (codes : List ScanCode) (s : State) :
    FaultsUnless (decide (conv < 8)) (execScanFrameStart conv codes s) := by
  unfold execScanFrameStart
  refine faultsUnless_ge ?_
  dsimp only
  (repeat' split) <;> exact proceeds_next _

theorem execCommonModeFlagChange_faultsUnless (input_ : Nat) (cmMv : Int) (s : State) :
    FaultsUnless (decide (input_ < 96)) (execCommonModeFlagChange input_ cmMv s) := by
  unfold execCommonModeFlagChange
  refine faultsUnless_ge ?_
  dsimp only
  (repeat' split) <;> exact proceeds_next _

theorem execPdPulseWindowEnd_faultsUnless (group source : Nat) (pulse : PdPulse) (s : State) :
    FaultsUnless (decide (group < 16)) (execPdPulseWindowEnd group source pulse s) := by
  unfold execPdPulseWindowEnd
  refine faultsUnless_ge ?_
  dsimp only
  (repeat' split) <;> exact proceeds_next _

theorem execPdClusterClose_faultsUnless (group : Nat) (consumer : Option Nat) (s : State) :
    FaultsUnless (decide (group < 16)) (execPdClusterClose group consumer s) := by
  unfold execPdClusterClose
  refine faultsUnless_ge ?_
  dsimp only
  (repeat' split) <;> exact proceeds_next _

theorem execI2cTransferStart_faultsUnless (port : Nat) (s : State) :
    FaultsUnless (decide (port < 2)) (execI2cTransferStart port s) := by
  unfold execI2cTransferStart
  refine faultsUnless_ge ?_
  dsimp only
  (repeat' split) <;> exact proceeds_next _

theorem execI2cArbitrationLoss_faultsUnless (port : Nat) (s : State) :
    FaultsUnless (decide (port < 2)) (execI2cArbitrationLoss port s) := by
  unfold execI2cArbitrationLoss
  refine faultsUnless_ge ?_
  dsimp only
  (repeat' split) <;> exact proceeds_next _

theorem execI2cSclTimeout_faultsUnless (held : BusHeld) (s : State) :
    FaultsUnless (decide (held.port < 2)) (execI2cSclTimeout held s) := by
  unfold execI2cSclTimeout
  refine faultsUnless_ge ?_
  dsimp only
  (repeat' split) <;> exact proceeds_next _

theorem execI2cBusNotFreeTimeout_faultsUnless (port : Nat) (s : State) :
    FaultsUnless (decide (port < 2)) (execI2cBusNotFreeTimeout port s) := by
  unfold execI2cBusNotFreeTimeout
  refine faultsUnless_ge ?_
  (repeat' split) <;> exact proceeds_next _

theorem execCheckedAccessRetire_proceeds (id : Nat) (s : State) :
    Proceeds (execCheckedAccessRetire id s) := by
  unfold execCheckedAccessRetire
  (repeat' split) <;> exact proceeds_next _

theorem execJournaledWriteCommit_proceeds (s : State) :
    Proceeds (execJournaledWriteCommit s) := by
  unfold execJournaledWriteCommit
  dsimp only
  (repeat' split) <;> exact proceeds_next _

theorem execObserveExpiry_proceeds (s : State) :
    Proceeds (execObserveExpiry s) := by
  unfold execObserveExpiry
  (repeat' split) <;> exact proceeds_next _

theorem execAdmitVectorDeferred_proceeds (fn : Nat) (s : State) :
    Proceeds (execAdmitVectorDeferred fn s) := by
  unfold execAdmitVectorDeferred
  dsimp only
  (repeat' split) <;> exact proceeds_next _

theorem execDeliveryVectorDeferred_proceeds (fn : Nat) (s : State) :
    Proceeds (execDeliveryVectorDeferred fn s) := by
  unfold execDeliveryVectorDeferred
  dsimp only
  (repeat' split) <;> exact proceeds_next _

theorem execPortOpenCalibrationEnd_faultsUnless (port_ : Nat) (result : CalResult) (s : State) :
    FaultsUnless (hasPort s.part port_) (execPortOpenCalibrationEnd port_ result s) := by
  unfold execPortOpenCalibrationEnd
  refine faultsUnless_ge ?_
  dsimp only
  (repeat' split) <;> exact proceeds_next _

/-! ### The commands that start a command by its code (R438 to R442, R370, R592) -/

theorem settime_proceeds (c : Caller) (req : Bytes) (s : State) : Proceeds (settime c req s) := proceeds_if_next

theorem fwUpdate_proceeds (c : Caller) (req : Bytes) (s : State) : Proceeds (fwUpdate c req s) := by
  unfold fwUpdate
  split <;> exact proceeds_next _

theorem secObserve_proceeds (c : Caller) (req : Bytes) (s : State) : Proceeds (secObserve c req s) := by
  unfold secObserve
  split <;> exact proceeds_next _

/-- A command that always answers a next state. -/
def Command.Runs (k : Command) : Prop := ∀ c req s, Proceeds (k.run c req s)

theorem lineCommands_run : ∀ k ∈ lineCommands, k.Runs := by
  simp only [lineCommands, List.forall_mem_cons, List.not_mem_nil, false_imp_iff, implies_true, and_true]
  and_intros <;> exact fun _ _ _ => proceeds_next _

theorem linkCommands_run : ∀ k ∈ linkCommands, k.Runs := by
  simp only [linkCommands, List.forall_mem_cons, List.not_mem_nil, false_imp_iff, implies_true, and_true]
  and_intros <;> exact fun _ _ _ => proceeds_next _

theorem trunkCommands_run : ∀ k ∈ trunkCommands, k.Runs := by
  simp only [trunkCommands, List.forall_mem_cons, List.not_mem_nil, false_imp_iff, implies_true, and_true]
  refine ⟨?_, ?_, ?_, ?_, ?_, ?_, ?_, ?_, ?_, ?_, ?_, ?_, ?_, ?_, ?_, settime_proceeds⟩ <;> exact fun _ _ _ => proceeds_next _

theorem systemCommands_run : ∀ k ∈ systemCommands, k.Runs := by
  simp only [systemCommands, List.forall_mem_cons, List.not_mem_nil, false_imp_iff, implies_true, and_true]
  refine ⟨?_, ?_, ?_, ?_, ?_, fwUpdate_proceeds, ?_, ?_, ?_, ?_, ?_, ?_, ?_, ?_, ?_, ?_, ?_, ?_, secObserve_proceeds, ?_, ?_, ?_, ?_, ?_,
    ?_, ?_, ?_, ?_, ?_, ?_, ?_, ?_⟩ <;> exact fun _ _ _ => proceeds_next _

theorem commandOf_runs {code : Nat} {k : Command} (h : commandOf code = some k) : k.Runs := by
  have m := List.mem_of_find?_eq_some h
  simp only [List.mem_append] at m
  rcases m with ((m | m) | m) | m
  · exact lineCommands_run k m
  · exact linkCommands_run k m
  · exact trunkCommands_run k m
  · exact systemCommands_run k m

theorem startTaken_proceeds (pod_ lane : Nat) (d request : Bytes) (io : CmdIo) (s : State) :
    Proceeds (startTaken pod_ lane d request io s) := by
  unfold startTaken
  dsimp only
  split
  · exact proceeds_next _
  · exact proceeds_if (proceeds_next _) (commandOf_runs ‹_› ..)

theorem execMbxDescriptorTake_faultsUnless (pod_ lane : Nat) (desc request : Bytes) (descFails : Bool) (io : CmdIo) (s : State) :
    FaultsUnless (hasMbxLane pod_ lane) (execMbxDescriptorTake pod_ lane desc request descFails io s) := by
  unfold execMbxDescriptorTake
  refine faultsUnless_not (proceeds_if (proceeds_next _) (proceeds_if (proceeds_next _) ?_))
  split
  · exact proceeds_if (proceeds_next _) (startTaken_proceeds ..)
  · exact startTaken_proceeds ..

theorem execCommandWaitEnd_proceeds (caller : Caller) (s : State) : Proceeds (execCommandWaitEnd caller s) := by
  unfold execCommandWaitEnd
  split
  · exact proceeds_next _
  · split
    · exact proceeds_next _
    · exact commandOf_runs ‹_› ..

theorem applyMirror_proceeds (r : MirrorRec) (s : State) : Proceeds (applyMirror r s) := by
  cases r with
  | endpoint => exact proceeds_if_next
  | config _ code req =>
    unfold applyMirror
    dsimp only
    split
    · exact proceeds_if (commandOf_runs ‹_› ..) (proceeds_next _)
    · exact proceeds_next _
  | _ => exact proceeds_next _

theorem execMirrorRecordReceive_proceeds (record : MirrorRec) (s : State) : Proceeds (execMirrorRecordReceive record s) :=
  proceeds_if (proceeds_next _) (applyMirror_proceeds ..)

end Sys2Proof.Machine
end

section
/-! What exec does at every command, in two tables: it faults exactly where the command is not well formed, and it keeps what no
command undoes. -/

namespace Sys2Proof.Machine

/-- A command faults, for an absent resource, exactly when it is not well formed on the part; otherwise it answers a next state. The
commands not listed name no resource and answer a next state without a choice of outcomes. -/
theorem exec_faultsUnless (i : Instr) (s : State) : FaultsUnless (i.wellFormed s.part) (exec i s) := by
  cases i with
  | pcieInterfaceReset => exact .of_proceeds proceeds_if_next
  | pcieLinkUp => exact .of_proceeds proceeds_if_next
  | vfFunctionLevelReset => exact faultsUnless_tenant proceeds_if_next
  | vfDisable => exact .of_proceeds proceeds_if_next
  | podResetComplete => exact faultsUnless_tenant proceeds_if_next
  | chiveBeacon => exact execChiveBeacon_faultsUnless ..
  | wakeFrame => exact faultsUnless_ge (proceeds_next _)
  | paceMonitorUpdate => exact faultsUnless_not proceeds_if_next
  | txFifoLowWater => exact faultsUnless_ge (proceeds_next _)
  | txFifoUnderflow => exact faultsUnless_ge proceeds_if_next
  | rxFifoOverflow => exact faultsUnless_not (proceeds_next _)
  | drvfltQualify => exact faultsUnless_ge (proceeds_if (proceeds_next _) proceeds_if_next)
  | driverAutoRearm => exact faultsUnless_ge (proceeds_next _)
  | txenRise => exact execTxenRise_faultsUnless ..
  | txenFall => exact execTxenFall_faultsUnless ..
  | referenceLost => exact .of_proceeds proceeds_if_next
  | referenceReturn => exact .of_proceeds proceeds_if_next
  | synthFailure => exact .of_proceeds (execSynthFailure_proceeds ..)
  | synthAdoptionComplete => exact .of_proceeds (execSynthAdoptionComplete_proceeds ..)
  | calibrationStart => exact execCalibrationStart_faultsUnless ..
  | calibrationComplete => exact execCalibrationComplete_faultsUnless ..
  | agcFrameGainRelease => exact execAgcFrameGainRelease_faultsUnless ..
  | preambleDetect => exact faultsUnless_ge proceeds_if_next
  | frameControlReceived => exact execFrameControlReceived_faultsUnless ..
  | frameBodyDecoded => exact execFrameBodyDecoded_faultsUnless ..
  | ackTransmit => exact execAckTransmit_faultsUnless ..
  | ackReceived => exact closing_faultsUnless (ackReceived_faultsUnless ..)
  | ackWindowClose => exact closing_faultsUnless (ackWindowClose_faultsUnless ..)
  | prsSlot => exact execPrsSlot_faultsUnless ..
  | backoffSlotEnd => exact faultsUnless_ge (proceeds_if (proceeds_next _) proceeds_if_next)
  | idleRestart => exact faultsUnless_ge proceeds_if_next
  | undecodableHoldOffEnd => exact execUndecodableHoldOffEnd_faultsUnless ..
  | frameTransmitStart => exact execFrameTransmitStart_faultsUnless ..
  | frameTransmitEnd => exact closing_faultsUnless (endTransmit_faultsUnless ..)
  | beaconStart => exact faultsUnless_ge (proceeds_if (proceeds_next _) proceeds_if_next)
  | zeroCrossing => exact execZeroCrossing_faultsUnless ..
  | mainsAcquireTimeout => exact faultsUnless_ge proceeds_if_next
  | predictedCrossingMiss => exact faultsUnless_ge proceeds_if_next
  | slotBoundaryPrefetch => rw [exec_slotBoundaryPrefetch]; exact onPort_faultsUnless ..
  | tmMapReceived => rw [exec_tmMapReceived]; exact fromEndpoint_faultsUnless ..
  | tmMapAckReceived => rw [exec_tmMapAckReceived]; exact fromEndpoint_faultsUnless ..
  | tmRequestReceived => rw [exec_tmRequestReceived]; exact fromEndpoint_faultsUnless ..
  | tmInvalidateReceived => rw [exec_tmInvalidateReceived]; exact fromEndpoint_faultsUnless ..
  | tonemapPeriodicRefresh => rw [exec_tonemapPeriodicRefresh]; exact onPort_faultsUnless ..
  | estimateStale => rw [exec_estimateStale]; exact onPort_faultsUnless ..
  | cancellerSurveyEnd => exact execCancellerSurveyEnd_faultsUnless ..
  | cancellerSymbol => exact execCancellerSymbol_faultsUnless ..
  | cancellerStateChange => exact execCancellerStateChange_faultsUnless ..
  | cancellerDisengagedTimeout => exact execCancellerDisengagedTimeout_faultsUnless ..
  | cancellerSuspendLong => exact execCancellerSuspendLong_faultsUnless ..
  | treeComputation => exact execTreeComputation_faultsUnless ..
  | tpRouteAckReceived => rw [exec_tpRouteAckReceived]; exact fromEndpoint_faultsUnless ..
  | pendingVersionTimeout => exact execPendingVersionTimeout_faultsUnless ..
  | tpLinkReportReceived => rw [exec_tpLinkReportReceived]; exact fromEndpoint_faultsUnless ..
  | tpJoinReceived => rw [exec_tpJoinReceived]; exact onPort_faultsUnless ..
  | unreachableHoldExpiry => exact .of_proceeds proceeds_if_next
  | heldSubmissionAdmit => exact .of_proceeds (execHeldSubmissionAdmit_proceeds ..)
  | frameSeal => exact .of_proceeds (execFrameSeal_proceeds ..)
  | staging => exact execStaging_faultsUnless ..
  | uplinkOpen => exact .of_proceeds (execUplinkOpen_proceeds ..)
  | rxRingWrite => rw [exec_rxRingWrite]; exact .of_proceeds (execRxRingWrite_proceeds ..)
  | cipherDescriptorTake => exact execCipherDescriptorTake_faultsUnless ..
  | cipherJobComplete => exact .of_proceeds (execCipherJobComplete_proceeds ..)
  | maskReseed => exact faultsUnless_ge proceeds_if_next
  | entropyRetest => exact .of_proceeds (proceeds_if (proceeds_next _) proceeds_if_next)
  | chkDmaComplete => exact .of_proceeds (execChkDmaComplete_proceeds ..)
  | chainOutput => exact faultsUnless_not proceeds_if_next
  | bankSwapEffect => exact execBankSwapEffect_faultsUnless ..
  | scanFrameStart => exact execScanFrameStart_faultsUnless ..
  | chargeReset => exact faultsUnless_ge proceeds_if_next
  | clampFlagChange => exact faultsUnless_ge proceeds_if_next
  | commonModeFlagChange => exact execCommonModeFlagChange_faultsUnless ..
  | pdPulseWindowEnd => exact execPdPulseWindowEnd_faultsUnless ..
  | pdClusterClose => rw [exec_pdClusterClose]; exact execPdClusterClose_faultsUnless ..
  | i2cTransferStart => exact execI2cTransferStart_faultsUnless ..
  | i2cArbitrationLoss => exact execI2cArbitrationLoss_faultsUnless ..
  | i2cSclTimeout => exact execI2cSclTimeout_faultsUnless ..
  | i2cBusNotFreeTimeout => exact execI2cBusNotFreeTimeout_faultsUnless ..
  | trunkFrameReceive => rw [exec_trunkFrameReceive]; exact onLane_faultsUnless ..
  | fasMissingOof => rw [exec_fasMissingOof]; exact onLane_faultsUnless ..
  | codewordLockChange => rw [exec_codewordLockChange]; exact onLane_faultsUnless ..
  | losEntry => rw [exec_losEntry]; exact onLane_faultsUnless ..
  | losExit => rw [exec_losExit]; exact onLane_faultsUnless ..
  | lofEntry => rw [exec_lofEntry]; exact onLane_faultsUnless ..
  | lofExit => rw [exec_lofExit]; exact onLane_faultsUnless ..
  | sdEvaluation => rw [exec_sdEvaluation]; exact onLane_faultsUnless ..
  | slotDefectChange => rw [exec_slotDefectChange]; exact onLane_faultsUnless ..
  | trunkFifoShortfall => rw [exec_trunkFifoShortfall]; exact onLane_faultsUnless ..
  | feedPacketReceive => exact faultsUnless_ge (proceeds_if (proceeds_next _) proceeds_if_next)
  | ethernetChunkSend => rw [exec_ethernetChunkSend]; exact onLane_faultsUnless ..
  | ethernetChunkReceive => rw [exec_ethernetChunkReceive]; exact onLane_faultsUnless ..
  | ethernetChunkTimeout => rw [exec_ethernetChunkTimeout]; exact onLane_faultsUnless ..
  | pauseReceived => rw [exec_pauseReceived]; exact onLane_faultsUnless ..
  | mirrorRecordReceive => exact .of_proceeds (execMirrorRecordReceive_proceeds ..)
  | mbxDoorbell => exact onLaneRegs_faultsUnless ..
  | mbxDescriptorTake => exact execMbxDescriptorTake_faultsUnless ..
  | mbxLaneEnable => exact onLaneRegs_faultsUnless ..
  | mbxFaultClear => rw [exec_mbxFaultClear]; exact onLaneRegs_faultsUnless ..
  | mbxCmplConsUpdate => exact onLaneRegs_faultsUnless ..
  | commandWaitEnd => exact .of_proceeds (execCommandWaitEnd_proceeds ..)
  | notificationPost => exact faultsUnless_not (proceeds_next _)
  | apertureAccess => exact execApertureAccess_faultsUnless ..
  | checkedAccessRetire => exact .of_proceeds (execCheckedAccessRetire_proceeds ..)
  | journaledWriteCommit => exact .of_proceeds (execJournaledWriteCommit_proceeds ..)
  | tamperQualify => exact faultsUnless_ge (proceeds_next _)
  | tamperLoopPattern => exact faultsUnless_ge (proceeds_if (proceeds_next _) proceeds_if_next)
  | observeExpiry => exact .of_proceeds (execObserveExpiry_proceeds ..)
  | admitVectorDeferred => exact .of_proceeds (execAdmitVectorDeferred_proceeds ..)
  | deliveryVectorDeferred => exact .of_proceeds (execDeliveryVectorDeferred_proceeds ..)
  | evtSrcCfgWrite => exact faultsUnless_ge (proceeds_next _)
  | evtRingEnable => exact onPage_faultsUnless ..
  | evtRingFaultClear => exact onPage_faultsUnless ..
  | cphRingDoorbell => exact onRingRegs_faultsUnless ..
  | cphRingEnable => exact onRingRegs_faultsUnless ..
  | cphRingFaultClear => exact onRingRegs_faultsUnless ..
  | cphCmplConsUpdate => exact onRingRegs_faultsUnless ..
  | chkContextWrite => exact faultsUnless_ge (proceeds_next _)
  | pmcValueWrite => exact faultsUnless_ge (proceeds_next _)
  | pmcCfgWrite => exact faultsUnless_ge (proceeds_next _)
  | registerWrite => exact faultsUnless_page (proceeds_next _)
  | readClear => exact faultsUnless_page (proceeds_next _)
  | fasFoundInFrame => rw [exec_fasFoundInFrame]; exact onLane_faultsUnless ..
  | vfEnable => exact .of_proceeds proceeds_if_next
  | msixVectorUnmask => exact execMsixVectorUnmask_faultsUnless ..
  | i2cTransferEnd => exact faultsUnless_ge (proceeds_next _)
  | portOpenCalibrationEnd => exact execPortOpenCalibrationEnd_faultsUnless ..
  | _ => exact .of_proceeds (proceeds_next _)

/-- Every command leaves the part and the queue, keeps DDR canonical and takes no fuse back (R485). -/
theorem exec_kept (i : Instr) (s : State) : KeptOut s (exec i s) := by
  cases i with
  | powerOn => exact execPowerOn_kept ..
  | sysResetNLow => exact execSysResetNLow_kept ..
  | brownOut => exact execBrownOut_kept ..
  | pf0FunctionLevelReset => exact execPf0FunctionLevelReset_kept ..
  | resetRelease => exact .of_keeps (execResetRelease_keeps ..)
  | pcieInterfaceReset kind => exact .of_keeps (execPcieInterfaceReset_keeps kind s)
  | pcieLinkUp => exact .of_keeps (execPcieLinkUp_keeps ..)
  | vfFunctionLevelReset => exact .of_keeps (execVfFunctionLevelReset_keeps ..)
  | vfDisable => exact .of_keeps (execVfDisable_keeps ..)
  | podResetComplete => exact execPodResetComplete_kept ..
  | standbyEntry => exact execStandbyEntry_kept ..
  | chiveBeacon => exact .of_keeps (execChiveBeacon_keeps ..)
  | wakeFrame => exact execWakeFrame_kept ..
  | wakeInNLow => exact execWakeInNLow_kept ..
  | wakeTimer => exact execWakeTimer_kept ..
  | standbySetApply => exact .of_keeps (execStandbySetApply_keeps ..)
  | pcieWakeRelease => exact .of_keeps (execPcieWakeRelease_keeps ..)
  | paceMonitorUpdate => exact .of_keeps (execPaceMonitorUpdate_keeps ..)
  | avsLoopStart => exact .of_keeps (execAvsLoopStart_keeps ..)
  | avsLoopPeriod => exact .of_keeps (execAvsLoopPeriod_keeps ..)
  | avsResponseTimeout => exact .of_keeps (execAvsResponseTimeout_keeps ..)
  | avsSettleCheck => exact .of_keeps (execAvsSettleCheck_keeps ..)
  | txFifoLowWater => exact .of_keeps (execTxFifoLowWater_keeps ..)
  | txFifoUnderflow => exact .of_keeps (execTxFifoUnderflow_keeps ..)
  | rxFifoOverflow => exact .of_keeps (execRxFifoOverflow_keeps ..)
  | coreUndervoltage => exact .of_keeps (execCoreUndervoltage_keeps ..)
  | drvfltQualify => exact .of_keeps (execDrvfltQualify_keeps ..)
  | driverAutoRearm => exact .of_keeps (execDriverAutoRearm_keeps ..)
  | txenRise => exact .of_keeps (execTxenRise_keeps ..)
  | txenFall => exact .of_keeps (execTxenFall_keeps ..)
  | referenceLost => exact .of_keeps (execReferenceLost_keeps ..)
  | referenceReturn => exact .of_keeps (execReferenceReturn_keeps ..)
  | synthFailure => exact .of_keeps (execSynthFailure_keeps ..)
  | synthAdoptionComplete => exact .of_keeps (execSynthAdoptionComplete_keeps ..)
  | calibrationStart => exact .of_keeps (execCalibrationStart_keeps ..)
  | calibrationComplete => exact .of_keeps (execCalibrationComplete_keeps ..)
  | agcFrameGainRelease => exact .of_keeps (execAgcFrameGainRelease_keeps ..)
  | preambleDetect => exact .of_keeps (execPreambleDetect_keeps ..)
  | frameControlReceived => exact .of_keeps (execFrameControlReceived_keeps ..)
  | frameBodyDecoded => exact .of_keeps (execFrameBodyDecoded_keeps ..)
  | ackTransmit => exact .of_keeps (execAckTransmit_keeps ..)
  | ackReceived => exact .of_keeps (execAckReceived_keeps ..)
  | ackWindowClose => exact .of_keeps (execAckWindowClose_keeps ..)
  | prsSlot => exact .of_keeps (execPrsSlot_keeps ..)
  | backoffSlotEnd => exact .of_keeps (execBackoffSlotEnd_keeps ..)
  | idleRestart => exact .of_keeps (execIdleRestart_keeps ..)
  | undecodableHoldOffEnd => exact .of_keeps (execUndecodableHoldOffEnd_keeps ..)
  | frameTransmitStart => exact .of_keeps (execFrameTransmitStart_keeps ..)
  | frameTransmitEnd => exact .of_keeps (execFrameTransmitEnd_keeps ..)
  | beaconStart => exact .of_keeps (execBeaconStart_keeps ..)
  | zeroCrossing => exact .of_keeps (execZeroCrossing_keeps ..)
  | mainsAcquireTimeout => exact .of_keeps (execMainsAcquireTimeout_keeps ..)
  | predictedCrossingMiss => exact .of_keeps (execPredictedCrossingMiss_keeps ..)
  | slotBoundaryPrefetch => exact .of_keeps (execSlotBoundaryPrefetch_keeps ..)
  | tmMapReceived => exact .of_keeps (execTmMapReceived_keeps ..)
  | tmMapAckReceived => exact .of_keeps (execTmMapAckReceived_keeps ..)
  | tmRequestReceived => exact .of_keeps (execTmRequestReceived_keeps ..)
  | tmInvalidateReceived => exact .of_keeps (execTmInvalidateReceived_keeps ..)
  | tonemapPeriodicRefresh => exact .of_keeps (execTonemapPeriodicRefresh_keeps ..)
  | estimateStale => exact .of_keeps (execEstimateStale_keeps ..)
  | cancellerSurveyEnd => exact .of_keeps (execCancellerSurveyEnd_keeps ..)
  | cancellerSymbol => exact .of_keeps (execCancellerSymbol_keeps ..)
  | cancellerStateChange => exact .of_keeps (execCancellerStateChange_keeps ..)
  | cancellerDisengagedTimeout => exact .of_keeps (execCancellerDisengagedTimeout_keeps ..)
  | cancellerSuspendLong => exact .of_keeps (execCancellerSuspendLong_keeps ..)
  | treeComputation => exact .of_keeps (execTreeComputation_keeps ..)
  | tpRouteAckReceived => exact .of_keeps (execTpRouteAckReceived_keeps ..)
  | pendingVersionTimeout => exact .of_keeps (execPendingVersionTimeout_keeps ..)
  | tpLinkReportReceived => exact .of_keeps (execTpLinkReportReceived_keeps ..)
  | tpJoinReceived => exact .of_keeps (execTpJoinReceived_keeps ..)
  | unreachableHoldExpiry => exact .of_keeps (execUnreachableHoldExpiry_keeps ..)
  | heldSubmissionAdmit => exact .of_keeps (execHeldSubmissionAdmit_keeps ..)
  | frameSeal => exact .of_keeps (execFrameSeal_keeps ..)
  | staging => exact .of_keeps (execStaging_keeps ..)
  | uplinkOpen => exact .of_keeps (execUplinkOpen_keeps ..)
  | rxRingWrite => rw [exec_rxRingWrite]; exact .of_keeps (execRxRingWrite_keeps ..)
  | cipherDescriptorTake => exact .of_keeps (execCipherDescriptorTake_keeps ..)
  | cipherJobComplete => exact .of_keeps (execCipherJobComplete_keeps ..)
  | maskReseed => exact .of_keeps (execMaskReseed_keeps ..)
  | entropyHealthFail => exact .of_keeps (execEntropyHealthFail_keeps ..)
  | entropyRetest => exact .of_keeps (execEntropyRetest_keeps ..)
  | chkDmaComplete => exact execChkDmaComplete_kept ..
  | chainOutput => exact .of_keeps (execChainOutput_keeps ..)
  | bankSwapEffect => exact .of_keeps (execBankSwapEffect_keeps ..)
  | scanFrameStart => exact .of_keeps (execScanFrameStart_keeps ..)
  | chargeReset => exact .of_keeps (execChargeReset_keeps ..)
  | clampFlagChange => exact .of_keeps (execClampFlagChange_keeps ..)
  | commonModeFlagChange => exact .of_keeps (execCommonModeFlagChange_keeps ..)
  | dieTempUpdate => exact .of_keeps (execDieTempUpdate_keeps ..)
  | pdPulseWindowEnd => exact .of_keeps (execPdPulseWindowEnd_keeps ..)
  | pdClusterClose => rw [exec_pdClusterClose]; exact .of_keeps (execPdClusterClose_keeps ..)
  | i2cTransferStart => exact .of_keeps (execI2cTransferStart_keeps ..)
  | i2cArbitrationLoss => exact .of_keeps (execI2cArbitrationLoss_keeps ..)
  | i2cSclTimeout => exact .of_keeps (execI2cSclTimeout_keeps ..)
  | i2cBusNotFreeTimeout => exact .of_keeps (execI2cBusNotFreeTimeout_keeps ..)
  | trunkFrameTransmit => exact execTrunkFrameTransmit_kept ..
  | trunkFrameReceive => exact .of_keeps (execTrunkFrameReceive_keeps ..)
  | fasMissingOof => exact .of_keeps (execFasMissingOof_keeps ..)
  | codewordLockChange => exact .of_keeps (execCodewordLockChange_keeps ..)
  | losEntry => exact .of_keeps (execLosEntry_keeps ..)
  | losExit => exact .of_keeps (execLosExit_keeps ..)
  | lofEntry => exact .of_keeps (execLofEntry_keeps ..)
  | lofExit => exact .of_keeps (execLofExit_keeps ..)
  | sdEvaluation => exact .of_keeps (execSdEvaluation_keeps ..)
  | slotDefectChange => exact .of_keeps (execSlotDefectChange_keeps ..)
  | trunkFifoShortfall => exact .of_keeps (execTrunkFifoShortfall_keeps ..)
  | feedPacketReceive => exact .of_keeps (execFeedPacketReceive_keeps ..)
  | trunkUplinkPacket => exact .of_keeps (execTrunkUplinkPacket_keeps ..)
  | ethernetChunkSend => exact .of_keeps (execEthernetChunkSend_keeps ..)
  | ethernetChunkReceive => exact .of_keeps (execEthernetChunkReceive_keeps ..)
  | ethernetChunkTimeout => exact .of_keeps (execEthernetChunkTimeout_keeps ..)
  | pauseReceived => exact .of_keeps (execPauseReceived_keeps ..)
  | tsiCommitBoundary => exact .of_keeps (execTsiCommitBoundary_keeps ..)
  | tsiCopyDone => exact .of_keeps (execTsiCopyDone_keeps ..)
  | mirrorRecordReceive => exact execMirrorRecordReceive_kept ..
  | peerReadySet => exact .of_keeps (execPeerReadySet_keeps ..)
  | peerFailingDetect => exact .of_keeps (execPeerFailingDetect_keeps ..)
  | pairTakeover => exact .of_keeps (execPairTakeover_keeps ..)
  | takeoverBoundary => exact .of_keeps (execTakeoverBoundary_keeps ..)
  | plannedSwitchBoundary => exact .of_keeps (execPlannedSwitchBoundary_keeps ..)
  | heartbeatLoss => exact .of_keeps (execHeartbeatLoss_keeps ..)
  | mirrorLinkLossTimeout => exact .of_keeps (execMirrorLinkLossTimeout_keeps ..)
  | ppsEdge => exact .of_keeps (execPpsEdge_keeps ..)
  | ppsEdgeMissing => exact .of_keeps (execPpsEdgeMissing_keeps ..)
  | timebaseRenewal => exact .of_keeps (execTimebaseRenewal_keeps ..)
  | holdoverExpiry => exact .of_keeps (execHoldoverExpiry_keeps ..)
  | revertiveDisplace => exact .of_keeps (execRevertiveDisplace_keeps ..)
  | timeStep => exact .of_keeps (execTimeStep_keeps ..)
  | ppsOutEdge => exact .of_keeps (execPpsOutEdge_keeps ..)
  | mbxDoorbell => exact .of_keeps (execMbxDoorbell_keeps ..)
  | mbxDescriptorTake => exact execMbxDescriptorTake_kept ..
  | mbxLaneEnable => exact .of_keeps (execMbxLaneEnable_keeps ..)
  | mbxFaultClear => exact .of_keeps (execMbxFaultClear_keeps ..)
  | mbxCmplConsUpdate => exact .of_keeps (execMbxCmplConsUpdate_keeps ..)
  | commandWaitEnd => exact execCommandWaitEnd_kept ..
  | sheddingEntry => exact .of_keeps (execSheddingEntry_keeps ..)
  | sheddingExit => exact .of_keeps (execSheddingExit_keeps ..)
  | notificationPost => exact .of_keeps (execNotificationPost_keeps ..)
  | watchdogExpiry => exact .of_keeps (execWatchdogExpiry_keeps ..)
  | processorFault => exact .of_keeps (execProcessorFault_keeps ..)
  | firmwareRestartComplete => exact .of_keeps (execFirmwareRestartComplete_keeps ..)
  | meterPeriod => exact .of_keeps (execMeterPeriod_keeps ..)
  | meterCollectionEnd => exact .of_keeps (execMeterCollectionEnd_keeps ..)
  | serviceReplyReceived => exact .of_keeps (execServiceReplyReceived_keeps ..)
  | loadShedExecute => exact .of_keeps (execLoadShedExecute_keeps ..)
  | loadShedConfirm => exact .of_keeps (execLoadShedConfirm_keeps ..)
  | dispatchReassert => exact .of_keeps (execDispatchReassert_keeps ..)
  | dispatchLoss => exact .of_keeps (execDispatchLoss_keeps ..)
  | apertureAccess => exact .of_keeps (execApertureAccess_keeps ..)
  | checkedAccessRetire => exact execCheckedAccessRetire_kept ..
  | journaledWriteCommit => exact .of_keeps (execJournaledWriteCommit_keeps ..)
  | tamperQualify => exact .of_keeps (execTamperQualify_keeps ..)
  | tamperLoopPattern => exact .of_keeps (execTamperLoopPattern_keeps ..)
  | observeExpiry => exact .of_keeps (execObserveExpiry_keeps ..)
  | snapshotLatch => exact .of_keeps (execSnapshotLatch_keeps ..)
  | traceTimeRecord => exact .of_keeps (execTraceTimeRecord_keeps ..)
  | traceSyncWord => exact .of_keeps (execTraceSyncWord_keeps ..)
  | eventRecordIssue => exact .of_keeps (execEventRecordIssue_keeps ..)
  | coalesceWindowClose => exact .of_keeps (execCoalesceWindowClose_keeps ..)
  | admitVectorDeferred => exact .of_keeps (execAdmitVectorDeferred_keeps ..)
  | deliveryVectorDeferred => exact .of_keeps (execDeliveryVectorDeferred_keeps ..)
  | evtSrcCfgWrite => exact .of_keeps (execEvtSrcCfgWrite_keeps ..)
  | evtRingEnable => exact .of_keeps (execEvtRingEnable_keeps ..)
  | evtRingFaultClear => exact .of_keeps (execEvtRingFaultClear_keeps ..)
  | cphRingDoorbell => exact .of_keeps (execCphRingDoorbell_keeps ..)
  | cphRingEnable => exact .of_keeps (execCphRingEnable_keeps ..)
  | cphRingFaultClear => exact .of_keeps (execCphRingFaultClear_keeps ..)
  | cphCmplConsUpdate => exact .of_keeps (execCphCmplConsUpdate_keeps ..)
  | avsFaultClear => exact .of_keeps (execAvsFaultClear_keeps ..)
  | chkContextWrite => exact .of_keeps (execChkContextWrite_keeps ..)
  | pmcValueWrite => exact .of_keeps (execPmcValueWrite_keeps ..)
  | pmcCfgWrite => exact .of_keeps (execPmcCfgWrite_keeps ..)
  | snapshotArm => exact .of_keeps (execSnapshotArm_keeps ..)
  | registerWrite => exact .of_keeps (execRegisterWrite_keeps ..)
  | readClear => exact .of_keeps (execReadClear_keeps ..)
  | portOpen => exact .of_keeps (execPortOpen_keeps ..)
  | portClose => exact .of_keeps (execPortClose_keeps ..)
  | laneCalibrate => exact .of_keeps (execLaneCalibrate_keeps ..)
  | laneGain => exact .of_keeps (execLaneGain_keeps ..)
  | driverRearm => exact .of_keeps (execDriverRearm_keeps ..)
  | synthRebalance => exact .of_keeps (execSynthRebalance_keeps ..)
  | chainConfigure => exact .of_keeps (execChainConfigure_keeps ..)
  | chainLoadbank => exact .of_keeps (execChainLoadbank_keeps ..)
  | chainSwap => exact .of_keeps (execChainSwap_keeps ..)
  | chainThreshold => exact .of_keeps (execChainThreshold_keeps ..)
  | phyConfigure => exact .of_keeps (execPhyConfigure_keeps ..)
  | tonemapConfigure => exact .of_keeps (execTonemapConfigure_keeps ..)
  | tonemapRefresh => exact .of_keeps (execTonemapRefresh_keeps ..)
  | tonemapRead => exact .of_keeps (execTonemapRead_keeps ..)
  | mainsStatus => exact .of_keeps (execMainsStatus_keeps ..)
  | cancellerConfigure => exact .of_keeps (execCancellerConfigure_keeps ..)
  | cancellerSetguard => exact .of_keeps (execCancellerSetguard_keeps ..)
  | cancellerStatus => exact .of_keeps (execCancellerStatus_keeps ..)
  | macConfigure => exact .of_keeps (execMacConfigure_keeps ..)
  | macNeighbour => exact .of_keeps (execMacNeighbour_keeps ..)
  | topologyConfigure => exact .of_keeps (execTopologyConfigure_keeps ..)
  | endpointAdmit => exact .of_keeps (execEndpointAdmit_keeps ..)
  | endpointRemove => exact .of_keeps (execEndpointRemove_keeps ..)
  | topologyRead => exact .of_keeps (execTopologyRead_keeps ..)
  | bufferConfigure => exact .of_keeps (execBufferConfigure_keeps ..)
  | bufferQuota => exact .of_keeps (execBufferQuota_keeps ..)
  | frameSubmit => exact .of_keeps (execFrameSubmit_keeps ..)
  | rxRing => exact .of_keeps (execRxRing_keeps ..)
  | keyLoad => exact .of_keeps (execKeyLoad_keeps ..)
  | keyClear => exact .of_keeps (execKeyClear_keeps ..)
  | cipherBind => exact .of_keeps (execCipherBind_keeps ..)
  | cipherConfigure => exact .of_keeps (execCipherConfigure_keeps ..)
  | chkAssign => exact .of_keeps (execChkAssign_keeps ..)
  | chkBind => exact .of_keeps (execChkBind_keeps ..)
  | chkDma => exact .of_keeps (execChkDma_keeps ..)
  | trunkConfigure => exact .of_keeps (execTrunkConfigure_keeps ..)
  | tsiWrite => exact .of_keeps (execTsiWrite_keeps ..)
  | tsiMode => exact .of_keeps (execTsiMode_keeps ..)
  | tsiCommit => exact .of_keeps (execTsiCommit_keeps ..)
  | tsiRead => exact .of_keeps (execTsiRead_keeps ..)
  | pairConfigure => exact .of_keeps (execPairConfigure_keeps ..)
  | pairSwitch => exact .of_keeps (execPairSwitch_keeps ..)
  | senseConfigure => exact .of_keeps (execSenseConfigure_keeps ..)
  | senseCharge => exact .of_keeps (execSenseCharge_keeps ..)
  | senseLincoef => exact .of_keeps (execSenseLincoef_keeps ..)
  | pdConfigure => exact .of_keeps (execPdConfigure_keeps ..)
  | i2cConfigure => exact .of_keeps (execI2cConfigure_keeps ..)
  | i2cTransfer => exact .of_keeps (execI2cTransfer_keeps ..)
  | senseAssign => exact .of_keeps (execSenseAssign_keeps ..)
  | timebaseConfigure => exact .of_keeps (execTimebaseConfigure_keeps ..)
  | timebaseSettimeFull => exact .of_keeps (execTimebaseSettimeFull_keeps ..)
  | timebaseSettimeSeconds => exact .of_keeps (execTimebaseSettimeSeconds_keeps ..)
  | mbxCredits => exact .of_keeps (execMbxCredits_keeps ..)
  | mbxListen => exact .of_keeps (execMbxListen_keeps ..)
  | profileSet => exact .of_keeps (execProfileSet_keeps ..)
  | powerSetcap => exact .of_keeps (execPowerSetcap_keeps ..)
  | fwInfo => exact .of_keeps (execFwInfo_keeps ..)
  | fwUpdateBegin => exact .of_keeps (execFwUpdateBegin_keeps ..)
  | fwUpdateWrite => exact .of_keeps (execFwUpdateWrite_keeps ..)
  | fwUpdateFinish => exact .of_keeps (execFwUpdateFinish_keeps ..)
  | fwActivate => exact .of_keeps (execFwActivate_keeps ..)
  | podReset => exact .of_keeps (execPodReset_keeps ..)
  | podAssign => exact .of_keeps (execPodAssign_keeps ..)
  | podWindow => exact .of_keeps (execPodWindow_keeps ..)
  | secLifecycle => exact execSecLifecycle_kept ..
  | secRevoke => exact execSecRevoke_kept ..
  | kekInstall => exact .of_keeps (execKekInstall_keeps ..)
  | kekAgree => exact .of_keeps (execKekAgree_keeps ..)
  | kekClear => exact .of_keeps (execKekClear_keeps ..)
  | secIdentity => exact .of_keeps (execSecIdentity_keeps ..)
  | secTamperConfigure => exact .of_keeps (execSecTamperConfigure_keeps ..)
  | secTamperClear => exact .of_keeps (execSecTamperClear_keeps ..)
  | secObserveChallenge => exact .of_keeps (execSecObserveChallenge_keeps ..)
  | secObserveToken => exact .of_keeps (execSecObserveToken_keeps ..)
  | secObserveEnd => exact .of_keeps (execSecObserveEnd_keeps ..)
  | pmcAssign => exact .of_keeps (execPmcAssign_keeps ..)
  | pmcConfigure => exact .of_keeps (execPmcConfigure_keeps ..)
  | tagConfigure => exact .of_keeps (execTagConfigure_keeps ..)
  | trcConfigure => exact .of_keeps (execTrcConfigure_keeps ..)
  | trcRead => exact .of_keeps (execTrcRead_keeps ..)
  | pwrStandby => exact .of_keeps (execPwrStandby_keeps ..)
  | chiveConfigure => exact .of_keeps (execChiveConfigure_keeps ..)
  | sysReset => exact execSysReset_kept ..
  | evtRoute => exact .of_keeps (execEvtRoute_keeps ..)
  | svcRegistrySet => exact .of_keeps (execSvcRegistrySet_keeps ..)
  | svcMeterSchedule => exact .of_keeps (execSvcMeterSchedule_keeps ..)
  | svcLoadShed => exact .of_keeps (execSvcLoadShed_keeps ..)
  | svcDispatchSet => exact .of_keeps (execSvcDispatchSet_keeps ..)
  | fasFoundInFrame => exact .of_keeps (execFasFoundInFrame_keeps ..)
  | vfEnable => exact .of_keeps (execVfEnable_keeps ..)
  | msixVectorUnmask => exact .of_keeps (execMsixVectorUnmask_keeps ..)
  | i2cTransferEnd => exact .of_keeps (execI2cTransferEnd_keeps ..)
  | portOpenCalibrationEnd => exact .of_keeps (execPortOpenCalibrationEnd_keeps ..)

theorem kept_of_exec {i : Instr} {s t : State} (h : exec i s = .next t) : Kept s t := by
  have k := exec_kept i s
  rwa [h] at k

theorem exec_of_wellFormed {i : Instr} {s : State} (h : i.wellFormed s.part = true) : ∃ t, exec i s = .next t :=
  (exec_faultsUnless i s).proceeds h

theorem exec_of_not_wellFormed {i : Instr} {s : State} (h : i.wellFormed s.part = false) : exec i s = .fault .absentResource :=
  (exec_faultsUnless i s).fault h

/-! ### A step -/

theorem step_of_empty {s : State} (h : s.pending = []) : step s = .next { s with now := s.now + 1 } := by
  unfold step
  rw [h]

theorem step_of_cons {s : State} {c : Instr} {rest : List Instr} (h : s.pending = c :: rest) :
    step s = exec c { s with pending := rest } := by
  unfold step
  rw [h]

/-- A state with the part and a tail of the queue of a safe one is safe. -/
theorem State.safe_of_suffix {s t : State} (h : s.safe) (part : t.part = s.part) (queue : t.pending <:+ s.pending) : t.safe :=
  fun c m => part ▸ h c (queue.mem m)

theorem step_of_safe {s : State} (h : s.safe) : ∃ t, step s = .next t ∧ t.safe := by
  cases e : s.pending with
  | nil => exact ⟨_, step_of_empty e, State.safe_of_suffix h rfl (List.suffix_refl _)⟩
  | cons c rest =>
    obtain ⟨t, ht⟩ := exec_of_wellFormed (i := c) (s := { s with pending := rest }) (h c (by simp [e]))
    have k := kept_of_exec ht
    exact ⟨t, (step_of_cons e).trans ht, State.safe_of_suffix h k.part (by rw [k.pending, e]; exact List.suffix_cons c rest)⟩

end Sys2Proof.Machine
end

section
/-! The obligations of the scope of the part. -/

namespace Sys2Proof

open Machine

/-- Settles O58: from the outcome of exec at every command, and the part and queue that every command leaves. -/
theorem safeRunsNeverStop : Obligations.SafeRunsNeverStop :=
  ⟨fun _ _ => ⟨exec_of_not_wellFormed, exec_of_wellFormed⟩, fun _ => step_of_safe⟩

end Sys2Proof
end

section
/-! Accesses to BAR0 (R9, R10, R12, R472, R561, R562): the checks of an access in their order, and what a good one does. -/

namespace Sys2Proof.Machine

/-! ### Which accesses reach a page -/

theorem pageOpen_iff {s : State} {fn : Nat} : pageOpen s fn = true ↔ answers s fn = true ∧ (pod s fn).resetting = false := by
  simp [pageOpen, answers]

theorem badAccess_iff {off size : Nat} :
    badAccess off size = true ↔ ¬ (size = 32 ∧ off % 4 = 0) ∧ ¬ (size = 64 ∧ off % 8 = 0) := by
  simp [badAccess, imp_iff_not_or]

theorem badAccess_word {off : Nat} (h : off % 8 = 0) : badAccess off 64 = false := by simp [badAccess, h]

theorem badAccess_half {off : Nat} (h : off % 4 = 0) : badAccess off 32 = false := by simp [badAccess, h]

section
variable {s : State} {fn off : Nat} (page : fn ≤ 64) (up : answers s fn = true) (inBar : off < barSize fn)
include page up inBar

theorem exec_readClear_inBar (size : Nat) : exec (.readClear fn off size) s = .next (readBar fn off size s) := by
  simp [execReadClear, page, up, inBar]

theorem exec_registerWrite_inBar (size v : Nat) : exec (.registerWrite fn off size v) s = .next (writeBar fn off size v s) := by
  simp [execRegisterWrite, page, up, inBar]

end

/-! ### Reads of a page -/

section
variable {s : State} {fn off size : Nat} {r : Reg}

theorem readBar_bad (bad : badAccess off size = true) (m : isMsix (regAt s fn off) = false) :
    readBar fn off size s = emit (.regRead fn off 0) (raiseSys 0 4 fn off s) := by
  simp [readBar, bad, m]

/-- A fenced page (R472). -/
theorem readBar_fenced (good : badAccess off size = false) (f : fn ≠ 0) (h : readFenced s fn (regAt s fn off) = true) :
    readBar fn off size s = emit (.regRead fn off 0) s := by
  simp [readBar, good, f, h]

theorem readFenced_of_open (h : (pod s fn).resetting = false) (r : Option Reg) : readFenced s fn r = false := by
  simp [readFenced, h]

/-- POD_STATUS alone answers behind the fence (R472). -/
theorem readFenced_of_resetting (h : (pod s fn).resetting = true) {r : Option Reg} (hr : r ≠ some (.podStatus fn)) :
    readFenced s fn r = true := by
  unfold readFenced
  rw [h, Bool.true_and]
  split
  · simpa using hr
  · rfl

theorem readBar_none (good : badAccess off size = false) (h : (pod s fn).resetting = false) (hr : regAt s fn off = none) :
    readBar fn off size s = emit (.regRead fn off 0) (raiseSys 0 2 fn off s) := by
  simp [readBar, good, readFenced_of_open h, hr]

theorem readBar_absent (good : badAccess off size = false) (h : (pod s fn).resetting = false) (hr : regAt s fn off = some r)
    (a : regPresent s r = false) : readBar fn off size s = emit (.regRead fn off 0) s := by
  simp [readBar, good, readFenced_of_open h, hr, a]

theorem readBar_present (good : badAccess off size = false) (h : (pod s fn).resetting = false) (hr : regAt s fn off = some r)
    (p : regPresent s r = true) :
    readBar fn off size s = readClears (spanOf off size)
      (emit (.regRead fn off (bits (regValue s r).toNat (spanOf off size).lo ((spanOf off size).hi - (spanOf off size).lo))) s) r := by
  simp [readBar, good, readFenced_of_open h, hr, p]

/-- A 64-bit read returns the whole value. -/
theorem readBar_word (al : off % 8 = 0) (h : (pod s fn).resetting = false) (hr : regAt s fn off = some r)
    (p : regPresent s r = true) :
    readBar fn off 64 s = readClears ⟨0, 64⟩ (emit (.regRead fn off (regValue s r).toNat) s) r := by
  rw [readBar_present (badAccess_word al) h hr p]
  simp [spanOf, bits, Nat.mod_eq_of_lt (regValue s r).isLt]

/-- A 32-bit read of the low half returns the low half. -/
theorem readBar_lowHalf (al : off % 8 = 0) (h : (pod s fn).resetting = false) (hr : regAt s fn off = some r)
    (p : regPresent s r = true) :
    readBar fn off 32 s = readClears ⟨0, 32⟩ (emit (.regRead fn off ((regValue s r).toNat % 2 ^ 32)) s) r := by
  have low : off / 4 % 2 = 0 := by omega
  rw [readBar_present (badAccess_half (by omega)) h hr p]
  simp [spanOf, bits, low]

end

/-! ### What the clearing of RC fields leaves unchanged -/

@[simp] theorem readClears_out (x : Span) (s : State) (r : Reg) : (readClears x s r).out = s.out := by
  unfold readClears
  split <;> (repeat' split) <;> simp

@[simp] theorem readClears_now (x : Span) (s : State) (r : Reg) : (readClears x s r).now = s.now := by
  unfold readClears
  split <;> (repeat' split) <;> simp

@[simp] theorem readClears_ddr (x : Span) (s : State) (r : Reg) : (readClears x s r).ddr = s.ddr :=
  congrArg Kernel.ddr (readClears_kernel x s r)

@[simp] theorem readClears_windows (x : Span) (s : State) (r : Reg) : (readClears x s r).evt.windows = s.evt.windows := by
  unfold readClears
  split <;> (repeat' split) <;> simp

/-! ### Writes to a page -/

section
variable {s : State} {fn off : Nat}

theorem writeBar_bad {size : Nat} (bad : badAccess off size = true) (m : isMsix (regAt s fn off) = false) (v : Nat) :
    writeBar fn off size v s = raiseSys 0 4 fn off s := by
  simp [writeBar, bad, m]

theorem writeBar_half (al : off % 4 = 0) (m : isMsix (regAt s fn off) = false) (v : Nat) :
    writeBar fn off 32 v s = raiseSys 0 1 fn off s := by
  simp [writeBar, badAccess_half al, m]

/-- A fenced page (R472). -/
theorem writeBar_fenced (al : off % 8 = 0) (h : (pod s fn).resetting = true) (v : Nat) : writeBar fn off 64 v s = s := by
  simp [writeBar, badAccess_word al, h]

theorem writeBar_none (al : off % 8 = 0) (h : (pod s fn).resetting = false) (hr : regAt s fn off = none) (v : Nat) :
    writeBar fn off 64 v s = raiseSys 0 2 fn off s := by
  simp [writeBar, badAccess_word al, h, hr]

theorem writeBar_some {r : Reg} (al : off % 8 = 0) (h : (pod s fn).resetting = false) (hr : regAt s fn off = some r)
    (m : isMsix (some r) = false) (v : Nat) :
    writeBar fn off 64 v s = if regPresent s r then writeReg r (v % 2 ^ 64) s else s := by
  unfold writeBar
  rw [badAccess_word al, h, hr]
  cases r with
  | msix => cases m
  | _ => rfl

end

end Sys2Proof.Machine
end

section
/-! The obligation of the register accesses (O53), by its three parts: a page that takes accesses, a fenced page, and the examples. -/

namespace Sys2Proof

open Machine

/-! ### A page that takes accesses -/

section
variable {s : State} {fn off : Nat} (page : fn ≤ 64) (isOpen : pageOpen s fn = true) (inBar : off < barSize fn)
include page isOpen inBar

theorem access_bad (m : isMsix (regAt s fn off) = false) {size : Nat} (half : ¬ (size = 32 ∧ off % 4 = 0))
    (word : ¬ (size = 64 ∧ off % 8 = 0)) (v : Nat) :
    exec (.readClear fn off size) s = .next (emit (.regRead fn off 0) (raiseSys 0 4 fn off s)) ∧
    exec (.registerWrite fn off size v) s = .next (raiseSys 0 4 fn off s) := by
  have up := (pageOpen_iff.mp isOpen).1
  have bad := badAccess_iff.mpr ⟨half, word⟩
  rw [exec_readClear_inBar page up inBar, exec_registerWrite_inBar page up inBar, readBar_bad bad m, writeBar_bad bad m]
  exact ⟨rfl, rfl⟩

theorem write_half (m : isMsix (regAt s fn off) = false) (al : off % 4 = 0) (v : Nat) :
    exec (.registerWrite fn off 32 v) s = .next (raiseSys 0 1 fn off s) := by
  rw [exec_registerWrite_inBar page (pageOpen_iff.mp isOpen).1 inBar, writeBar_half al m]

theorem access_none (al : off % 8 = 0) (hr : regAt s fn off = none) (v : Nat) :
    exec (.readClear fn off 64) s = .next (emit (.regRead fn off 0) (raiseSys 0 2 fn off s)) ∧
    exec (.registerWrite fn off 64 v) s = .next (raiseSys 0 2 fn off s) := by
  obtain ⟨up, calm⟩ := pageOpen_iff.mp isOpen
  rw [exec_readClear_inBar page up inBar, exec_registerWrite_inBar page up inBar, readBar_none (badAccess_word al) calm hr,
    writeBar_none al calm hr]
  exact ⟨rfl, rfl⟩

section
variable {r : Reg} (al : off % 8 = 0) (hr : regAt s fn off = some r)
include al hr

theorem access_absent (m : isMsix (some r) = false) (a : regPresent s r = false) (v : Nat) :
    exec (.readClear fn off 64) s = .next (emit (.regRead fn off 0) s) ∧ exec (.registerWrite fn off 64 v) s = .next s := by
  obtain ⟨up, calm⟩ := pageOpen_iff.mp isOpen
  rw [exec_readClear_inBar page up inBar, exec_registerWrite_inBar page up inBar, readBar_absent (badAccess_word al) calm hr a,
    writeBar_some al calm hr m, a]
  exact ⟨rfl, rfl⟩

theorem read_word (p : regPresent s r = true) :
    exec (.readClear fn off 64) s = .next (readClears ⟨0, 64⟩ (emit (.regRead fn off (regValue s r).toNat) s) r) := by
  obtain ⟨up, calm⟩ := pageOpen_iff.mp isOpen
  rw [exec_readClear_inBar page up inBar, readBar_word al calm hr p]

theorem read_lowHalf (p : regPresent s r = true) :
    exec (.readClear fn off 32) s =
      .next (readClears ⟨0, 32⟩ (emit (.regRead fn off ((regValue s r).toNat % 2 ^ 32)) s) r) := by
  obtain ⟨up, calm⟩ := pageOpen_iff.mp isOpen
  rw [exec_readClear_inBar page up inBar, readBar_lowHalf al calm hr p]

theorem write_word (m : isMsix (some r) = false) (p : regPresent s r = true) (v : Nat) :
    exec (.registerWrite fn off 64 v) s = .next (writeReg r (v % 2 ^ 64) s) := by
  obtain ⟨up, calm⟩ := pageOpen_iff.mp isOpen
  rw [exec_registerWrite_inBar page up inBar, writeBar_some al calm hr m, if_pos p]

end
end

/-! ### A tenant's page behind the fence of its pod's reset (R472) -/

theorem access_fenced {s : State} {fn off : Nat} (tenant : 1 ≤ fn) (page : fn ≤ 64) (up : answers s fn = true)
    (fence : (pod s fn).resetting = true) (inBar : off < 0x10000) (al : off % 8 = 0) (hr : regAt s fn off ≠ some (.podStatus fn))
    (v : Nat) :
    exec (.readClear fn off 64) s = .next (emit (.regRead fn off 0) s) ∧ exec (.registerWrite fn off 64 v) s = .next s := by
  have nz : fn ≠ 0 := by omega
  have inBar : off < barSize fn := by rwa [barSize, if_neg nz]
  rw [exec_readClear_inBar page up inBar, exec_registerWrite_inBar page up inBar,
    readBar_fenced (badAccess_word al) nz (readFenced_of_resetting fence hr), writeBar_fenced al fence]
  exact ⟨rfl, rfl⟩

/-! ### The examples: SYS_RESET_STATUS, TRC_STATUS and EVT_RING_IDX at their offsets (R561) -/

theorem regAt_resetStatus (s : State) : regAt s 0 0x30 = some (.sys 6) := rfl

theorem regAt_trcStatus (s : State) : regAt s 0 0x1C0000 = some .trcStatus := rfl

theorem regAt_evtRingIdx (s : State) : regAt s 0 0x145008 = some (.evtRing 0 1) := rfl

section
variable {s : State} (isOpen : pageOpen s 0 = true)
include isOpen

/-- Written 1s clear the sticky bits of SYS_RESET_STATUS, and nothing else changes (R532). -/
theorem write_resetStatus {v : Nat} (hv : v < 2 ^ 64) :
    exec (.registerWrite 0 0x30 64 v) s = .next
      { s with
          pwr.pcieResetSeen := s.pwr.pcieResetSeen && !bit v 2
          pwr.brownoutSeen := s.pwr.brownoutSeen && !bit v 1
          pwr.resetSeen := s.pwr.resetSeen && !bit v 0 } := by
  rw [write_word (by decide) isOpen (by decide) (by decide) (regAt_resetStatus s) rfl rfl, Nat.mod_eq_of_lt hv]
  rfl

/-- A 64-bit read of TRC_STATUS covers LOST and clears it (R12, R521). -/
theorem read_trcStatus : exec (.readClear 0 0x1C0000 64) s = .next
    { s with
        obs.trcLost := 0
        out := s.out ++ [.regRead 0 0x1C0000 (trcValue s.obs).toNat] } :=
  read_word (by decide) isOpen (by decide) (by decide) (regAt_trcStatus s) rfl

/-- A 32-bit read of its low half does not cover LOST. -/
theorem read_trcStatus_lowHalf :
    exec (.readClear 0 0x1C0000 32) s = .next (emit (.regRead 0 0x1C0000 ((trcValue s.obs).toNat % 2 ^ 32)) s) :=
  read_lowHalf (by decide) isOpen (by decide) (by decide) (regAt_trcStatus s) rfl

/-- EVT_RING_IDX takes CONS from its high half and keeps PROD (R559). -/
theorem write_evtRingIdx {v : Nat} (hv : v < 2 ^ 64) : exec (.registerWrite 0 0x145008 64 v) s = .next
    { s with evt.rings := tset s.evt.rings 0 { evtRing s 0 with cons := BitVec.ofNat 32 (v / 2 ^ 32) } } := by
  have cons : bits v 32 32 = v / 2 ^ 32 := Nat.mod_eq_of_lt (by omega)
  rw [write_word (by decide) isOpen (by decide) (by decide) (regAt_evtRingIdx s) rfl rfl, Nat.mod_eq_of_lt hv, ← cons]
  rfl

end

/-- Settles O53, from the accesses to an open page, to a fenced page and to the three example registers. -/
theorem registerAccess : Obligations.RegisterAccess := by
  refine ⟨fun s fn off page isOpen inBar m => ⟨?_, ?_, ?_, ?_⟩, ?_, ?_⟩
  · exact fun size v half word => access_bad page isOpen inBar m half word v
  · exact fun v al => write_half page isOpen inBar m al v
  · exact fun al hr v => access_none page isOpen inBar al hr v
  · intro r v al hr
    rw [hr] at m
    exact ⟨fun a => access_absent page isOpen inBar al hr m a v, fun p =>
      ⟨⟨_, read_word page isOpen inBar al hr p, by simp, by simp, by simp, by simp⟩, write_word page isOpen inBar al hr m p v⟩⟩
  · exact fun s fn off v tenant page up fence inBar al hr => access_fenced tenant page up fence inBar al hr v
  · exact fun s v isOpen hv =>
      ⟨write_resetStatus isOpen hv, read_trcStatus isOpen, read_trcStatus_lowHalf isOpen, write_evtRingIdx isOpen hv⟩

end Sys2Proof
end

section
/-! What the operations on frames in flight (R266 to R283) leave of the link buffers and of the nonce counters, and what they change:
tables, tags, ring records, admission, queues and release. -/

namespace Sys2Proof.Machine

/-! ### Whether a table lists a key -/

@[simp] theorem thas_tset_self {α : Type} (t : Table α) (i : Nat) (x : α) : thas (tset t i x) i = true := by
  induction t with
  | nil => simp [tset, thas]
  | cons e t ih =>
    unfold tset
    split
    · simp [thas]
    · split <;> simp [thas, ih]

@[simp] theorem thas_tdel_self {α : Type} (t : Table α) (i : Nat) : thas (tdel t i) i = false := by
  induction t with
  | nil => rfl
  | cons e t ih =>
    unfold tdel
    split
    · exact ih
    · simp [thas, *]

/-! ### Tags touch only their own state (R514 to R516) -/

@[simp] theorem tagCheck_lbf (kind p ident idx : Nat) (s : State) : (tagCheck kind p ident idx s).lbf = s.lbf := rfl
@[simp] theorem tagCheck_cph (kind p ident idx : Nat) (s : State) : (tagCheck kind p ident idx s).cph = s.cph := rfl

@[simp] theorem traceFeed_lbf (source type : Nat) (payload : List Word) (s : State) :
    (traceFeed source type payload s).lbf = s.lbf := congrArg Calm.lbf (traceFeed_calm source type payload s)

@[simp] theorem tagEnd_lbf (kind p ident : Nat) (retired escalated : Bool) (attempts : Nat) (s : State) :
    (tagEnd kind p ident retired escalated attempts s).lbf = s.lbf := by
  unfold tagEnd
  split <;> simp

@[simp] theorem drawTag_lbf (k : Nat) (s : State) : (drawTag k s).2.lbf = s.lbf := rfl

@[simp] theorem tagStart_lbf (kind p ident pod_ : Nat) (s : State) : (tagStart kind p ident pod_ s).lbf = s.lbf := by
  have draw := drawTag_lbf (if kind ≤ 2 then (tagCfg s p).kf else (tagCfg s p).ks) s
  unfold tagStart
  dsimp only
  split
  · rfl
  · split
    · rename_i u drawn
      rwa [drawn] at draw
    · rename_i u drawn
      rw [drawn] at draw
      split <;> simpa using draw

/-! ### Records of a cipher ring leave the frames and the nonce counters (R318, R319) -/

@[simp] theorem updCphRing_pages (p r : Nat) (f : CphRing → CphRing) (s : State) : (updCphRing p r f s).cph.pages = s.cph.pages := rfl

@[simp] theorem cphFault_lbf (p r : Nat) (st : Status) (s : State) : (cphFault p r st s).lbf = s.lbf := rfl
@[simp] theorem cphFault_pages (p r : Nat) (st : Status) (s : State) : (cphFault p r st s).cph.pages = s.cph.pages := rfl

@[simp] theorem sendMsix_lbf (fn v : Nat) (s : State) : (sendMsix fn v s).lbf = s.lbf := congrArg Calm.lbf (sendMsix_calm fn v s)
@[simp] theorem sendMsix_cph (fn v : Nat) (s : State) : (sendMsix fn v s).cph = s.cph := congrArg Calm.cph (sendMsix_calm fn v s)

@[simp] theorem cphRecord_lbf (p r kind : Nat) (e : JobEnd) (tag : Nat) (raiseIt : Bool) (s : State) :
    (cphRecord p r kind e tag raiseIt s).lbf = s.lbf := by
  unfold cphRecord
  split
  · rfl
  · cases raiseIt <;> simp

@[simp] theorem cphRecord_pages (p r kind : Nat) (e : JobEnd) (tag : Nat) (raiseIt : Bool) (s : State) :
    (cphRecord p r kind e tag raiseIt s).cph.pages = s.cph.pages := by
  unfold cphRecord
  split
  · rfl
  · cases raiseIt <;> simp

@[simp] theorem flushRing_lbf (p r n : Nat) (s : State) : (flushRing p r n s).lbf = s.lbf := by
  induction n generalizing s with
  | zero => rfl
  | succ n ih =>
    unfold flushRing
    split
    · rfl
    · split
      · rfl
      · simp [ih]

@[simp] theorem flushRing_pages (p r n : Nat) (s : State) : (flushRing p r n s).cph.pages = s.cph.pages := by
  induction n generalizing s with
  | zero => rfl
  | succ n ih =>
    unfold flushRing
    split
    · rfl
    · split
      · rfl
      · simp [ih]

@[simp] theorem endJob_lbf (p r idx : Nat) (e : JobEnd) (s : State) : (endJob p r idx e s).lbf = s.lbf := by
  simp [endJob]

@[simp] theorem endJob_pages (p r idx : Nat) (e : JobEnd) (s : State) : (endJob p r idx e s).cph.pages = s.cph.pages := by
  simp [endJob]

/-- Telling a submitter how its seal ended leaves the frames (R292, R318). -/
@[simp] theorem sealEnds_lbf (n : Nat) (f : Flight) (st : Status) (nonce : Bytes) (bytes : Nat) (s : State) :
    (sealEnds n f st nonce bytes s).lbf = s.lbf := by
  unfold sealEnds
  cases f.sealer with
  | none => rfl
  | engine => rfl
  | mailbox c => dsimp only; split <;> simp [mbxFault]
  | ring r tag raiseIt =>
    dsimp only
    split
    · rfl
    · split <;> split <;> simp

/-- It leaves the nonce counters too. -/
@[simp] theorem sealEnds_pages (n : Nat) (f : Flight) (st : Status) (nonce : Bytes) (bytes : Nat) (s : State) :
    (sealEnds n f st nonce bytes s).cph.pages = s.cph.pages := by
  unfold sealEnds
  cases f.sealer with
  | none => rfl
  | engine => rfl
  | mailbox c => dsimp only; split <;> simp [mbxFault]
  | ring r tag raiseIt =>
    dsimp only
    split
    · rfl
    · split <;> split <;> simp

/-! ### Frames and queues -/

theorem flight_of_lbf {s t : State} (h : t.lbf = s.lbf) (n : Nat) : flight t n = flight s n := by
  rw [flight, h, flight]

theorem queue_of_lbf {s t : State} (h : t.lbf = s.lbf) (q : Nat) : queue t q = queue s q := by
  rw [queue, h, queue]

@[simp] theorem setFlight_flights (n : Nat) (f : Flight) (s : State) :
    (setFlight n f s).lbf.flights = tset s.lbf.flights n f := rfl
@[simp] theorem setFlight_held (n : Nat) (f : Flight) (s : State) : (setFlight n f s).lbf.held = s.lbf.held := rfl
@[simp] theorem setFlight_cph (n : Nat) (f : Flight) (s : State) : (setFlight n f s).cph = s.cph := rfl

@[simp] theorem updQueue_flights (q : Nat) (f : Queue → Queue) (s : State) : (updQueue q f s).lbf.flights = s.lbf.flights := rfl
@[simp] theorem updQueue_queues (q : Nat) (f : Queue → Queue) (s : State) :
    (updQueue q f s).lbf.queues = tset s.lbf.queues q (f (queue s q)) := rfl
@[simp] theorem updQueue_held (q : Nat) (f : Queue → Queue) (s : State) : (updQueue q f s).lbf.held = s.lbf.held := rfl

theorem updFlight_of_listed {n : Nat} {s : State} (listed : thas s.lbf.flights n = true) (g : Flight → Flight) :
    updFlight n g s = setFlight n (g (flight s n)) s := if_pos listed

theorem flight_updFlight {n : Nat} {s : State} (listed : thas s.lbf.flights n = true) (g : Flight → Flight) :
    flight (updFlight n g s) n = g (flight s n) := by
  rw [updFlight_of_listed listed]
  simp [flight]

/-! ### Admission (R276, R277) -/

@[simp] theorem notePeaks_flights (p : Nat) (s : State) : (notePeaks p s).lbf.flights = s.lbf.flights := rfl
@[simp] theorem notePeaks_held (p : Nat) (s : State) : (notePeaks p s).lbf.held = s.lbf.held := rfl

@[simp] theorem cacheTouch_lbf (e : Nat) (s : State) : (cacheTouch e s).lbf = s.lbf := by
  unfold cacheTouch
  split
  · rfl
  · split
    · rfl
    · dsimp only
      split <;> rfl

/-- The frame that a submission becomes at its admission. -/
def Held.toFlight (s : State) (h : Held) : Flight :=
  { port := h.port, pod := h.pod, cls := h.cls, final := h.final, len := h.len, data := h.data, sealer := h.sealer, route := h.route,
    engine := h.engine, mgmt := h.mgmt, order := s.lbf.count, txSlot := txSlotOf s h.pod h.final }

@[simp] theorem admitFlight_flights (n : Nat) (h : Held) (s : State) :
    (admitFlight n h s).lbf.flights = tset s.lbf.flights n (h.toFlight s) := by
  unfold admitFlight
  dsimp only
  split <;> split <;> simp [Held.toFlight]

@[simp] theorem admitFlight_held (n : Nat) (h : Held) (s : State) : (admitFlight n h s).lbf.held = s.lbf.held := by
  unfold admitFlight
  dsimp only
  split <;> split <;> simp

theorem flight_admitFlight (n : Nat) (h : Held) (s : State) : flight (admitFlight n h s) n = h.toFlight s := by
  simp [flight]

@[simp] theorem admitVector_lbf (fn : Nat) (s : State) : (admitVector fn s).lbf = s.lbf := by
  unfold admitVector
  dsimp only
  split
  · split <;> simp
  · simp

/-- A submission that is held joins the held ones with its cause; no frame changes (R276). -/
theorem holdSubmission_lbf (h : Held) (k : Nat) (s : State) :
    (holdSubmission h k s).lbf.held = s.lbf.held ++ [{ h with cause := k }] ∧ (holdSubmission h k s).lbf.flights = s.lbf.flights := by
  unfold holdSubmission
  dsimp only
  split
  · simp
  · split <;> simp [updPodLbf]

/-- The pod of a submission that is no engine's reads that one is blocked, and why (R277). -/
theorem podLbf_holdSubmission {h : Held} (host : h.engine = false) (k : Nat) (s : State) :
    (podLbf (holdSubmission h k s) h.pod).blockedSeen = true ∧
      (podLbf (holdSubmission h k s) h.pod).blockCause = BitVec.ofNat 4 k := by
  unfold holdSubmission
  dsimp only
  rw [if_neg (by simp [host])]
  split <;> simp [podLbf, updPodLbf]

/-! ### A sealed frame joins its queue (R274, R278) -/

/-- The frame in its queue is the one sealed, with its payload and its place. -/
theorem flight_enqueueFlight (n : Nat) (data : Bytes) (s : State) : ∃ share back, flight (enqueueFlight n data s) n =
    { flight s n with data := data, len := data.length, enqueued := true, sealer := .none, inShare := share, inBacking := back } := by
  unfold enqueueFlight
  dsimp only
  split <;> simp [flight]

theorem mem_queue_enqueueFlight (n : Nat) (data : Bytes) (s : State) :
    n ∈ (queue (enqueueFlight n data s) (queueOf (flight s n))).flights := by
  unfold enqueueFlight
  dsimp only
  split <;> simp [queue, queueOf]

@[simp] theorem thas_enqueueFlight (n : Nat) (data : Bytes) (s : State) : thas (enqueueFlight n data s).lbf.flights n = true := by
  unfold enqueueFlight
  dsimp only
  split <;> simp

@[simp] theorem enqueueFlight_held (n : Nat) (data : Bytes) (s : State) : (enqueueFlight n data s).lbf.held = s.lbf.held := by
  unfold enqueueFlight
  dsimp only
  split <;> simp

@[simp] theorem enqueueFlight_cph (n : Nat) (data : Bytes) (s : State) : (enqueueFlight n data s).cph = s.cph := by
  unfold enqueueFlight
  dsimp only
  split <;> simp

/-! ### Release (R279) -/

@[simp] theorem postOutcome_lbf (n : Nat) (f : Flight) (st : Status) (s : State) : (postOutcome n f st s).lbf = s.lbf := by
  unfold postOutcome
  split
  · rfl
  · split <;> simp

@[simp] theorem thas_releaseFlight (n : Nat) (st : Status) (s : State) : thas (releaseFlight n st s).lbf.flights n = false := by
  unfold releaseFlight
  split
  · rename_i absent
    simpa using absent
  · dsimp only
    split <;> simp

/-- A frame whose seal fails is gone (R280, R292). -/
@[simp] theorem thas_failSeal (n : Nat) (st : Status) (s : State) : thas (failSeal n st s).lbf.flights n = false := by
  unfold failSeal
  split
  · rename_i absent
    simpa using absent
  · simp

end Sys2Proof.Machine
end

section
/-! The rows of a frame's way into its queue and its share: frame.submit (R291, R292), HELD_SUBMISSION_ADMIT (R36, R276), FRAME_SEAL
(R304) and STAGING (R275). -/

namespace Sys2Proof.Machine

/-! ### frame.submit -/

section
variable {s : State} {c : Caller} {req : Bytes} (start : mayStart s c 0x0803 [] = true) (size : req.length = 16)
  (target : (rd req 0 2 < 16384 ∧ rd req 6 2 = 0) ∨ rd req 0 2 = 0x7FFF) (cls : rd req 2 1 ≤ 3) (flags : rd req 3 1 ≤ 1)
  (len : rd req 4 2 ≠ 0) (aligned : rd req 8 8 % 8 = 0)
  (stop : submitStop s c.pod (rd req 0 2) (rd req 2 1) (rd req 6 2) (rd req 4 2) St.badParam = none)

/-- The submission that a frame.submit makes (R291). -/
def submitted (s : State) (c : Caller) (req : Bytes) : Held :=
  submission s c.pod (rd req 0 2) (rd req 2 1) (rd req 6 2) (rd req 4 2) (.mailbox c)
    (if rd req 3 1 = 1 then .notice c.lane else .none) req

include target cls flags len aligned stop

/-- A request in form reaches admission. -/
theorem frameSubmitBody_inForm : frameSubmitBody c req s =
    match stopCause s (submitted s c req), freeFlight s (submitted s c req).port with
    | none, some n => (admitFlight n (submitted s c req) s, .open_)
    | cause, _ => (holdSubmission (submitted s c req) (cause.getD 2) s, .untaken) := by
  have form : ¬ (((decide (rd req 0 2 ≥ 16384) && rd req 0 2 != 0x7FFF) || decide (rd req 2 1 > 3) || decide (rd req 3 1 > 1)
      || decide (rd req 4 2 = 0) || (rd req 0 2 != 0x7FFF && rd req 6 2 != 0) || rd req 8 8 % 8 != 0) = true) := by
    simp only [Bool.or_eq_true, Bool.and_eq_true, decide_eq_true_eq, bne_iff_ne]
    omega
  unfold frameSubmitBody
  dsimp only
  rw [if_neg form, stop]
  rfl

include start size

theorem execFrameSubmit_admits {n : Nat} (free : stopCause s (submitted s c req) = none)
    (number : freeFlight s (submitted s c req).port = some n) :
    execFrameSubmit c req s = GoesOn c 0x0803 req [] false (admitFlight n (submitted s c req) s) := by
  have body : frameSubmitBody c req s = (admitFlight n (submitted s c req) s, .open_) := by
    rw [frameSubmitBody_inForm target cls flags len aligned stop, free, number]
  unfold execFrameSubmit
  rw [runCmd_open start (by simp [size]) (by simp) body, size]
  rfl

theorem execFrameSubmit_holds {k : Nat} (cause : stopCause s (submitted s c req) = some k) :
    execFrameSubmit c req s = .next (forget c (holdSubmission (submitted s c req) k s)) := by
  have body : frameSubmitBody c req s = (holdSubmission (submitted s c req) k s, .untaken) := by
    rw [frameSubmitBody_inForm target cls flags len aligned stop, cause]
    rfl
  unfold execFrameSubmit
  rw [runCmd_starts start (by simp [size]) (by simp), body]

end

/-! ### HELD_SUBMISSION_ADMIT -/

/-- What the mechanism of an admitted submission does leaves the frame its place and its class (R292, R311, R593). -/
theorem flight_admitted (n : Nat) (h : Held) (s : State) :
    (flight (admitted n h s) n).port = (flight s n).port ∧ (flight (admitted n h s) n).pod = (flight s n).pod ∧
      (flight (admitted n h s) n).final = (flight s n).final ∧ (flight (admitted n h s) n).cls = (flight s n).cls := by
  unfold admitted
  cases h.sealer with
  | none =>
    obtain ⟨share, back, e⟩ := flight_enqueueFlight n h.data s
    simp [e]
  | engine => simp
  | ring r tag raiseIt => simp [flight, takeSeal]
  | mailbox c => dsimp only; split <;> simp [flight]

theorem thas_admitted {n : Nat} {s : State} (listed : thas s.lbf.flights n = true) (h : Held) :
    thas (admitted n h s).lbf.flights n = true := by
  unfold admitted
  cases h.sealer with
  | none => simp
  | engine => exact listed
  | ring r tag raiseIt => exact listed
  | mailbox c => dsimp only; split <;> simpa using listed

@[simp] theorem admitted_held (n : Nat) (h : Held) (s : State) : (admitted n h s).lbf.held = s.lbf.held := by
  unfold admitted
  cases h.sealer with
  | none => simp
  | engine => rfl
  | ring r tag raiseIt => rfl
  | mailbox c => dsimp only; split <;> simp

/-- The first submission of its source and of its flow is admitted once its descriptor may be taken and every check passes. -/
theorem execHeldSubmissionAdmit_admits {s : State} {i n : Nat} {h : Held} (at_ : s.lbf.held[i]? = some h)
    (first : (s.lbf.held.take i).any (fun g => sameHeld h g || sameFlow h g) = false) (take : mayTakeHeld s h = true)
    (free : admitCause s h = none) (number : freeFlight s h.port = some n) :
    execHeldSubmissionAdmit i s = .next (admitted n h (admitFlight n h { s with lbf.held := s.lbf.held.eraseIdx i })) := by
  unfold execHeldSubmissionAdmit
  rw [at_]
  dsimp only
  rw [first, take, free, number]
  rfl

/-! ### FRAME_SEAL -/

@[simp] theorem raiseCeiling_lbf (page : Nat) (s : State) : (raiseCeiling page s).lbf = s.lbf := by
  unfold raiseCeiling
  dsimp only
  split <;> rfl

@[simp] theorem raiseCeiling_cph (page : Nat) (s : State) : (raiseCeiling page s).cph = s.cph := by
  unfold raiseCeiling
  dsimp only
  split <;> rfl

/-- Below the persisted ceiling a page issues its count, once (R300, R302). -/
theorem takeNonce_issues {s : State} {page : Nat} (sound : (tget {} s.cph.pages page).failed = false)
    (below : (tget {} s.cph.pages page).counter < ceilingOf s page) :
    ∃ t, takeNonce page s = (.issued (tget {} s.cph.pages page).counter, t) ∧ t.lbf = s.lbf ∧
      (tget {} t.cph.pages page).counter = (tget {} s.cph.pages page).counter + 1 := by
  unfold takeNonce
  dsimp only
  rw [if_neg (by simp [sound]), if_pos below]
  refine ⟨_, rfl, ?_⟩
  split <;> simp

@[simp] theorem protect_lbf (p e : Nat) (u : Bytes) (s : State) : (protect p e u s).2.lbf = s.lbf := by
  unfold protect
  split <;> rfl

@[simp] theorem protect_cph (p e : Nat) (u : Bytes) (s : State) : (protect p e u s).2.cph = s.cph := by
  unfold protect
  split <;> rfl

@[simp] theorem pipeUse_lbf (pipe bytes p : Nat) (host : Bool) (s : State) : (pipeUse pipe bytes p host s).lbf = s.lbf := by
  simp [pipeUse]

@[simp] theorem pipeUse_pages (pipe bytes p : Nat) (host : Bool) (s : State) :
    (pipeUse pipe bytes p host s).cph.pages = s.cph.pages := by
  simp [pipeUse]

section
variable {s : State} {n : Nat} (listed : thas s.lbf.flights n = true) (waits : (flight s n).enqueued = false)
  (entropy : s.cph.entropy.passed = true) (turn : sealTurn s (flight s n) = true)

include listed waits entropy turn

/-- The seal of a frame whose turn it is passes the guards of its row. -/
theorem sealGuards :
    ¬ ((!thas s.lbf.flights n || (flight s n).enqueued || !s.cph.entropy.passed || !sealTurn s (flight s n)) = true) := by
  simp [listed, waits, entropy, turn]

/-- A read of the plaintext that fails fails the seal (R292, R319). -/
theorem execFrameSeal_unread (host : (flight s n).sealer ≠ .engine) :
    execFrameSeal n none s = .next (failSeal n St.dmaFault s) := by
  unfold execFrameSeal
  dsimp only
  rw [if_neg (sealGuards listed waits entropy turn)]
  cases h : (flight s n).sealer with
  | engine => exact absurd h host
  | _ => rfl

/-- A slot without a key fails the seal (R304). -/
theorem execFrameSeal_keyless (pt : Bytes) (empty : slotKey s (flight s n).pod (flight s n).txSlot = none) :
    ∃ u, execFrameSeal n (some pt) s = .next (failSeal n St.keyEmpty u) := by
  unfold execFrameSeal
  dsimp only
  rw [if_neg (sealGuards listed waits entropy turn), empty]
  cases (flight s n).sealer <;> exact ⟨_, rfl⟩

/-- With a key for frames and a nonce the frame joins its queue, sealed, and its submitter is told (R304). -/
theorem execFrameSeal_seals (pt : Bytes) {k : Key} (key : slotKey s (flight s n).pod (flight s n).txSlot = some k)
    (frames : bit k.usage.toNat 0 = true) (sound : (tget {} s.cph.pages (flight s n).pod).failed = false)
    (below : (tget {} s.cph.pages (flight s n).pod).counter < ceilingOf s (flight s n).pod) :
    ∃ u payload nonce len, execFrameSeal n (some pt) s =
        .next (sealEnds n (flight s n) St.ok nonce len (enqueueFlight n payload u)) ∧
      queueOf (flight u n) = queueOf (flight s n) ∧
      (tget {} u.cph.pages (flight s n).pod).counter = (tget {} s.cph.pages (flight s n).pod).counter + 1 := by
  obtain ⟨v, issued, lbf, counter⟩ := takeNonce_issues sound below
  have there : thas v.lbf.flights n = true := by rw [lbf]; exact listed
  have same : flight v n = flight s n := flight_of_lbf lbf n
  unfold execFrameSeal
  dsimp only
  rw [if_neg (sealGuards listed waits entropy turn), key]
  cases (flight s n).sealer
  all_goals
    dsimp only
    rw [if_neg (by simp [frames]), issued]
    refine ⟨_, _, _, _, rfl, ?_, by simp [counter]⟩
    rw [flight_updFlight (by simpa using there)]
    simp [queueOf, flight, lbf]

end

/-! ### STAGING -/

/-- A frame that its share has room for enters it at once, a PC3 frame keeping its backing slot (R274, R275). -/
theorem stageFlight_fits {s : State} {n : Nat} (listed : thas s.lbf.flights n = true) (out : (flight s n).inShare = false)
    (good : (flight s n).backPoison = false)
    (room : shareRoom s (flight s n).port ((flight s n).cls == 3) (cellsOf (flight s n).len) = true) :
    flight (stageFlight n false s) n = { flight s n with inShare := true, inBacking := (flight s n).cls == 3 } := by
  have made : ∀ l, makeRoom (flight s n).port ((flight s n).cls == 3) (cellsOf (flight s n).len) l s = s := fun l => by
    cases l with
    | nil => rfl
    | cons m l => exact if_pos room
  unfold stageFlight
  dsimp only
  rw [if_neg (by simp [out, listed]), if_neg (by simp [good]), made, if_pos room]
  exact flight_updFlight listed _

/-- The first eligible queue with a marked frame outside the share is staged: where that frame is its only one, that frame is. -/
theorem execStaging_single {s : State} {p q n : Nat} (present : p < s.part.ports)
    (first : (eligibleQueues s p).find? (fun q =>
      (marked s q).any (fun n => !(flight s n).inShare && !(flight s n).heldPoison)) = some q)
    (single : marked s q = [n]) (ddrFail : Bool) : execStaging p ddrFail s = .next (stageFlight n ddrFail s) := by
  unfold execStaging
  dsimp only
  rw [if_neg (by omega), first]
  dsimp only
  rw [single]
  rfl

end Sys2Proof.Machine
end

section
/-! The obligation of the frames that enter and are staged (O23), by its four rows. -/

namespace Sys2Proof

open Machine

/-- A held submission that is admitted leaves the held ones and is a frame in flight with its place and class (R276). -/
theorem heldSubmissionAdmit_next {s : State} {i n : Nat} {h : Held} (at_ : s.lbf.held[i]? = some h)
    (first : (s.lbf.held.take i).any (fun g => sameHeld h g || sameFlow h g) = false) (take : mayTakeHeld s h = true)
    (free : admitCause s h = none) (number : freeFlight s h.port = some n) :
    ∃ t, exec (.heldSubmissionAdmit i) s = .next t ∧ t.lbf.held = s.lbf.held.eraseIdx i ∧ thas t.lbf.flights n = true ∧
      (flight t n).port = h.port ∧ (flight t n).pod = h.pod ∧ (flight t n).final = h.final ∧ (flight t n).cls = h.cls := by
  refine ⟨_, execHeldSubmissionAdmit_admits at_ first take free number, by simp, thas_admitted (by simp) h, ?_⟩
  simpa [flight_admitFlight, Held.toFlight] using flight_admitted n h (admitFlight n h { s with lbf.held := s.lbf.held.eraseIdx i })

section
variable {s : State} {n : Nat} (listed : thas s.lbf.flights n = true) (waits : (flight s n).enqueued = false)
  (entropy : s.cph.entropy.passed = true) (turn : sealTurn s (flight s n) = true)
include listed waits entropy turn

/-- A frame that is sealed is in its queue, one nonce of its pod's page used (R300, R304). -/
theorem frameSeal_seals (pt : Bytes) (k : Key) (key : slotKey s (flight s n).pod (flight s n).txSlot = some k)
    (frames : bit k.usage.toNat 0 = true) (sound : (tget {} s.cph.pages (flight s n).pod).failed = false)
    (below : (tget {} s.cph.pages (flight s n).pod).counter < ceilingOf s (flight s n).pod) :
    ∃ t, exec (.frameSeal n (some pt)) s = .next t ∧ (flight t n).enqueued = true ∧
      n ∈ (queue t (queueOf (flight s n))).flights ∧
      (tget {} t.cph.pages (flight s n).pod).counter = (tget {} s.cph.pages (flight s n).pod).counter + 1 := by
  obtain ⟨u, payload, nonce, len, sealed, place, counter⟩ :=
    execFrameSeal_seals listed waits entropy turn pt key frames sound below
  refine ⟨_, sealed, ?_, ?_, by simpa using counter⟩
  · obtain ⟨share, back, queued⟩ := flight_enqueueFlight n payload u
    rw [flight_of_lbf (sealEnds_lbf ..), queued]
  · rw [queue_of_lbf (sealEnds_lbf ..), ← place]
    exact mem_queue_enqueueFlight n payload u

theorem frameSeal_unread (host : (flight s n).sealer ≠ .engine) :
    ∃ t, exec (.frameSeal n none) s = .next t ∧ thas t.lbf.flights n = false :=
  ⟨_, execFrameSeal_unread listed waits entropy turn host, thas_failSeal ..⟩

theorem frameSeal_keyless (pt : Bytes) (empty : slotKey s (flight s n).pod (flight s n).txSlot = none) :
    ∃ t, exec (.frameSeal n (some pt)) s = .next t ∧ thas t.lbf.flights n = false := by
  obtain ⟨u, failed⟩ := execFrameSeal_keyless listed waits entropy turn pt empty
  exact ⟨_, failed, thas_failSeal ..⟩

end

/-- Settles O23: frame.submit and the two rows after it from what admission and the queues do, STAGING from the one frame it stages. -/
theorem framesEnterAndAreStaged : Obligations.FramesEnterAndAreStaged := by
  refine ⟨?_, ?_, ?_, ?_⟩
  · intro s c req start size target cls flags len aligned stop
    refine ⟨fun n free number => execFrameSubmit_admits start size target cls flags len aligned stop free number, fun k cause => ?_⟩
    obtain ⟨held, flights⟩ := holdSubmission_lbf (submitted s c req) k s
    obtain ⟨seen, why⟩ := podLbf_holdSubmission (h := submitted s c req) rfl k s
    exact ⟨_, execFrameSubmit_holds start size target cls flags len aligned stop cause, held, flights, seen, why⟩
  · intro s i n h at_ first take free number
    exact heldSubmissionAdmit_next at_ first take free number
  · intro s n listed waits entropy turn
    exact ⟨frameSeal_seals listed waits entropy turn, frameSeal_unread listed waits entropy turn,
      frameSeal_keyless listed waits entropy turn⟩
  · rintro s p q n present wants alone listed out good rfl room
    refine ⟨_, execStaging_single present wants alone false, ?_⟩
    rw [stageFlight_fits listed out good room]
    exact ⟨rfl, rfl⟩

end Sys2Proof
end

section
/-! PACE_MONITOR_UPDATE (R48): the tile it publishes, and what it leaves. -/

namespace Sys2Proof.Machine

/-- What a pace monitor publishes of its tile (R48): FIFO_PEAK holds the highest occupancy of a lane tile, SHORT what has ever been short. -/
def published (s : State) (n pace : Nat) (slack : Int) (demand peak : Nat) : Pace :=
  { pace := BitVec.ofNat 16 pace, slack := BitVec.ofInt 16 slack, demand := BitVec.ofNat 16 demand,
    fifoPeak := BitVec.ofNat 8 (if n < 16 then max (tile s n).fifoPeak.toNat (peak % 256) else 0),
    short := (tile s n).short || decide (slack < 0), valid := true }

/-- The time that a lane tile's slack has been negative is counted (R505). -/
def countShort (s : State) : State :=
  match s.pwr.negSince with
  | some since => count 0x0012 {} (s.now - since) s
  | none => s

@[simp] theorem countShort_calm (s : State) : (countShort s).calm = s.calm := by
  unfold countShort
  split
  · exact count_calm ..
  · rfl

/-- The tile is published, the loop's clock set once every monitor is valid, and the count of negative slack begun or ended. -/
def publish (n : Nat) (x : Pace) (s : State) : State :=
  let calibrated := (tilesOf s).all (fun n => (tile s n).valid)
  let s := { s with pwr.tiles := tset s.pwr.tiles n x }
  let s := if !calibrated && (tilesOf s).all (fun n => (tile s n).valid) then { s with pwr.avs.commandAt := s.now } else s
  let negative := s.pwr.tiles.any (fun e => decide (e.1 < 16) && decide (e.2.slack.toInt < 0))
  { s with pwr.negSince := if negative then some s.now else none }

theorem publish_tiles (n : Nat) (x : Pace) (s : State) : (publish n x s).pwr.tiles = tset s.pwr.tiles n x := by
  unfold publish
  dsimp only
  split <;> rfl

/-- It changes the power alone. -/
theorem publish_others (n : Nat) (x : Pace) (s : State) : { publish n x s with pwr := s.pwr } = s := by
  unfold publish
  dsimp only
  split <;> rfl

theorem execPaceMonitorUpdate_publishes {s : State} {n : Nat} (run : Running s) (present : s.part.hasTile n = true) (pace : Nat)
    (slack : Int) (demand peak : Nat) : execPaceMonitorUpdate n pace slack demand peak s =
      .next (publish n (published s n pace slack demand peak) (countShort s)) := by
  unfold execPaceMonitorUpdate
  rw [if_neg (by simp [present]), if_neg (by simp [show s.pwr.phase = .running from run])]
  rfl

/-- Each tile after the update. -/
theorem tile_publish (n : Nat) (x : Pace) (s : State) :
    tile (publish n x (countShort s)) n = x ∧ ∀ m, m ≠ n → tile (publish n x (countShort s)) m = tile s m := by
  have power : (countShort s).pwr = s.pwr := congrArg Calm.pwr (countShort_calm s)
  refine ⟨?_, fun m h => ?_⟩
  · rw [tile, publish_tiles, tget_tset_self]
  · rw [tile, publish_tiles, tget_tset_other _ _ _ h, power, tile]

theorem published_fifoPeak_lane {s : State} {n peak : Nat} (lane : n < 16) (fits : peak < 256) (pace : Nat) (slack : Int) (demand : Nat) :
    (tile s n).fifoPeak.toNat ≤ (published s n pace slack demand peak).fifoPeak.toNat ∧
      peak ≤ (published s n pace slack demand peak).fifoPeak.toNat := by
  have before := (tile s n).fifoPeak.isLt
  simp only [published, lane, if_true, BitVec.toNat_ofNat]
  omega

theorem published_fifoPeak_shared {s : State} {n : Nat} (shared : 16 ≤ n) (pace : Nat) (slack : Int) (demand peak : Nat) :
    (published s n pace slack demand peak).fifoPeak = 0 := by
  simp [published, Nat.not_lt.mpr shared]

end Sys2Proof.Machine
end

section
/-! The obligation of the pace monitors (O1). -/

namespace Sys2Proof

open Machine

/-- Settles O1: from the tile that is published, and the power being all that changes beside the counters. -/
theorem paceMonitorPublishes : Obligations.PaceMonitorPublishes := by
  intro s n pace slack demand peak run present fits
  obtain ⟨own, others⟩ := tile_publish n (published s n pace slack demand peak) s
  have calm : ({ publish n (published s n pace slack demand peak) (countShort s) with pwr := (countShort s).pwr } : State).calm = s.calm := by
    rw [publish_others, countShort_calm]
  refine ⟨_, execPaceMonitorUpdate_publishes run present pace slack demand peak, ?_⟩
  rw [own]
  exact ⟨rfl, rfl, rfl, rfl, rfl, fun lane => published_fifoPeak_lane lane fits .., fun shared => published_fifoPeak_shared shared ..,
    others, congrArg Calm.syn calm, congrArg Calm.tmb calm, congrArg Calm.ports calm, congrArg Calm.pods calm,
    fun a => congrArg (memGet · a) (congrArg Calm.ddr calm), congrArg Calm.mram calm⟩

end Sys2Proof
end

section
/-! The adaptive-voltage loop (R50 to R56): what its shared operations leave, and its rows. -/

namespace Sys2Proof.Machine

variable {s : State}

/-! ### Shared operations -/

@[simp] theorem roleFailing_pwr (s : State) : (roleFailing s).pwr = s.pwr := by
  unfold roleFailing
  split
  · exact (raiseTrunk_pwr ..).trans rfl
  · rfl

@[simp] theorem roleFailing_now (s : State) : (roleFailing s).now = s.now := by
  unfold roleFailing
  split
  · exact (raiseTrunk_now ..).trans rfl
  · rfl

@[simp] theorem checkAvsFailing_pwr (s : State) : (checkAvsFailing s).pwr = s.pwr := by
  unfold checkAvsFailing
  split
  · exact roleFailing_pwr s
  · rfl

@[simp] theorem checkAvsFailing_now (s : State) : (checkAvsFailing s).now = s.now := by
  unfold checkAvsFailing
  split
  · exact roleFailing_now s
  · rfl

@[simp] theorem avsFault_avs (s : State) : (avsFault s).pwr.avs = { s.pwr.avs with fault := true } := by
  rw [avsFault, checkAvsFailing_pwr, raiseSys_pwr]

@[simp] theorem avsFault_now (s : State) : (avsFault s).now = s.now := by
  rw [avsFault, checkAvsFailing_now, raiseSys_now]

/-- What derating leaves of the loop: all but the device factor and the halving of the taps (R34, R56). -/
structure Derated (s t : State) : Prop where
  now : t.now = s.now
  avs : ∃ f on, t.pwr.avs = { s.pwr.avs with fPlc := f, tapsHalved := on }

@[simp] theorem setHalved_avs (on : Bool) (s : State) : (setHalved on s).pwr.avs = { s.pwr.avs with tapsHalved := on } := by
  unfold setHalved
  split
  · rename_i h
    rw [← h]
  · rw [raiseSys_pwr]

@[simp] theorem setHalved_now (on : Bool) (s : State) : (setHalved on s).now = s.now := by
  unfold setHalved
  split
  · rfl
  · exact raiseSys_now ..

@[simp] theorem setFactor_avs (f : Nat) (s : State) : (setFactor f s).pwr.avs = { s.pwr.avs with fPlc := BitVec.ofNat 16 f } := rfl

@[simp] theorem setFactor_now (f : Nat) (s : State) : (setFactor f s).now = s.now := rfl

theorem derate_derated (emergency : Bool) (s : State) : Derated s (derate emergency s) := by
  unfold derate
  split
  · exact ⟨rfl, _, _, rfl⟩
  · dsimp only
    split
    · exact ⟨by simp, _, _, by rw [setFactor_avs, setHalved_avs]⟩
    · exact ⟨by simp, _, _, by rw [setFactor_avs, setHalved_avs]⟩

/-! ### Rows -/

/-- The loop starts with the measured voltage, rounded up to 5 mV and held to V_cap (R52). -/
theorem execAvsLoopStart_starts (run : Running s) (stopped : s.pwr.avs.started = false)
    (valid : ∀ n ∈ tilesOf s, (tile s n).valid = true) (v : Nat) :
    execAvsLoopStart v s = .next (noteLimit (requestVolts (min (ceilDiv v 5 * 5) s.pwr.avs.vCap)
      { s with pwr.avs.started := true, pwr.avs.periodAt := s.now, pwr.avs.commandAt := s.now, pwr.avs.vMeas := BitVec.ofNat 16 v,
               pwr.avs.calm := 0 })) := by
  unfold execAvsLoopStart
  rw [if_neg]
  simpa [show s.pwr.phase = .running from run, stopped] using valid

/-- On thin slack the loop wants 10 mV more, held to V_cap and 900 mV (R52, R53). -/
theorem nextVolts_thin {a : Avs} {slack : Int} (thin : slack < 41) (below : a.vReq.toNat ≤ a.vCap)
    (faulty : a.fault = true → a.vReq.toNat + 10 ≤ min a.vCap 900) :
    nextVolts a slack = min (a.vReq.toNat + 10) (min a.vCap 900) := by
  have keep : ¬(a.fault && decide (min (a.vReq.toNat + 10) (min a.vCap 900) < a.vReq.toNat)) = true := by
    simp only [Bool.and_eq_true, decide_eq_true_eq]
    rintro ⟨fault, down⟩
    have := faulty fault
    omega
  simp only [nextVolts, if_neg (Nat.not_lt.mpr below), if_pos thin, if_neg keep]

/-- The read of the voltage at a loop period, and the count of calm periods (R52). -/
def readPeriod (v n : Nat) (s : State) : State :=
  let s := advanceTo (s.pwr.avs.periodAt + us 100) s
  { s with
    pwr.avs.periodAt := s.now
    pwr.avs.commandAt := s.now
    pwr.avs.vMeas := BitVec.ofNat 16 v
    pwr.avs.calm := if slackOf s n > 82 then s.pwr.avs.calm + 1 else 0 }

/-- The voltage is requested where it is not the one requested last (R50). -/
def wantVolts (v : Nat) (s : State) : State := if v = s.pwr.avs.vReq.toNat then s else requestVolts v s

theorem wantVolts_vReq {v : Nat} (fits : v < 65536) (s : State) : (wantVolts v s).pwr.avs.vReq.toNat = v := by
  unfold wantVolts
  split
  · exact Eq.symm ‹_›
  · exact Nat.mod_eq_of_lt fits

@[simp] theorem wantVolts_vMeas (v : Nat) (s : State) : (wantVolts v s).pwr.avs.vMeas = s.pwr.avs.vMeas := by
  unfold wantVolts
  split <;> rfl

@[simp] theorem wantVolts_now (v : Nat) (s : State) : (wantVolts v s).now = s.now := by
  unfold wantVolts
  split <;> rfl

theorem execAvsLoopPeriod_runs {n : Nat} (run : Running s) (started : s.pwr.avs.started = true)
    (least : leastTile s (tilesOf s) = some n) (v : Nat) : execAvsLoopPeriod v s = .next (derate false (noteLimit (checkAvsFailing
      (wantVolts (nextVolts (readPeriod v n s).pwr.avs (slackOf s n)) (readPeriod v n s))))) := by
  unfold execAvsLoopPeriod
  rw [if_neg (by simp [show s.pwr.phase = .running from run, started]), least]
  rfl

theorem execAvsLoopPeriod_thin {n : Nat} (run : Running s) (started : s.pwr.avs.started = true)
    (least : leastTile s (tilesOf s) = some n) (thin : slackOf s n < 41) (below : s.pwr.avs.vReq.toNat ≤ s.pwr.avs.vCap)
    (faulty : s.pwr.avs.fault = true → s.pwr.avs.vReq.toNat + 10 ≤ min s.pwr.avs.vCap 900) (v : Nat) :
    ∃ t, execAvsLoopPeriod v s = .next t ∧ t.pwr.avs.vReq.toNat = min (s.pwr.avs.vReq.toNat + 10) (min s.pwr.avs.vCap 900) ∧
      t.pwr.avs.vMeas = BitVec.ofNat 16 v ∧ t.now = max s.now (s.pwr.avs.periodAt + us 100) := by
  have volts : nextVolts (readPeriod v n s).pwr.avs (slackOf s n) = min (s.pwr.avs.vReq.toNat + 10) (min s.pwr.avs.vCap 900) :=
    nextVolts_thin thin below faulty
  refine ⟨_, execAvsLoopPeriod_runs run started least v, ?_⟩
  rw [volts]
  generalize limits : noteLimit (checkAvsFailing (wantVolts _ _)) = u
  obtain ⟨now, f, on, avs⟩ := derate_derated false u
  rw [avs, now, ← limits]
  refine ⟨?_, ?_, ?_⟩
  · simp only [noteLimit, checkAvsFailing_pwr]
    exact wantVolts_vReq (by omega) _
  · simp only [noteLimit, checkAvsFailing_pwr, wantVolts_vMeas]
    rfl
  · simp only [noteLimit, checkAvsFailing_now, wantVolts_now]
    rfl

/-- A lost answer latches AVS_FAULT (R54). -/
theorem execAvsResponseTimeout_faults (run : Running s) (started : s.pwr.avs.started = true) :
    execAvsResponseTimeout s = .next (avsFault (advanceTo (s.pwr.avs.commandAt + us 50) s)) := by
  unfold execAvsResponseTimeout
  rw [if_neg (by simp [show s.pwr.phase = .running from run, started])]

/-- The oldest request is checked 200 us after it (R54). -/
theorem execAvsSettleCheck_checks {due : Nat} {later : List Nat} (run : Running s) (checks : s.pwr.avs.checks = due :: later) (v : Nat) :
    ∃ t, execAvsSettleCheck v s = .next t ∧ t.pwr.avs = { s.pwr.avs with
      checks := later, vMeas := BitVec.ofNat 16 v,
      fault := s.pwr.avs.fault || decide (((v : Int) - s.pwr.avs.vReq.toNat).natAbs > 15) } ∧ t.now = max s.now due := by
  unfold execAvsSettleCheck
  rw [if_neg (by simp [show s.pwr.phase = .running from run]), checks]
  by_cases wrong : ((v : Int) - s.pwr.avs.vReq.toNat).natAbs > 15
  · exact ⟨_, congrArg Host.Outcome.next (if_pos wrong), by simp [wrong]⟩
  · exact ⟨_, congrArg Host.Outcome.next (if_neg wrong), by simp [wrong]⟩

end Sys2Proof.Machine
end

section
/-! The obligation of the adaptive-voltage loop (O2), by its five rows. -/

namespace Sys2Proof

open Machine

/-- Settles O2: each row of the loop from what it requests, records or latches. -/
theorem adaptiveVoltageLoop : Obligations.AdaptiveVoltageLoop := by
  refine ⟨?_, ?_, ?_, ?_, ?_⟩
  · intro s v run stopped valid cap
    have fits : min (ceilDiv v 5 * 5) s.pwr.avs.vCap < 65536 := by omega
    exact ⟨_, execAvsLoopStart_starts run stopped valid v, rfl, rfl, Nat.mod_eq_of_lt fits, rfl⟩
  · exact fun s v n run started least thin below faulty => execAvsLoopPeriod_thin run started least thin below faulty v
  · exact fun s run started => ⟨_, execAvsResponseTimeout_faults run started, by simp⟩
  · intro s v due later run checks
    obtain ⟨t, checked, avs, now⟩ := execAvsSettleCheck_checks run checks v
    exact ⟨t, checked, by rw [avs], by rw [avs], now, by rw [avs]⟩
  · exact fun s isOpen => congrArg Host.Outcome.next (if_pos isOpen)

end Sys2Proof
end

section
/-! Operations that tell, count and move frames (events, counters, trace, messages, records, tags, releases): the time, and the line side
and medium access of every port, stay as they are, and what has left the device only grows. -/

namespace Sys2Proof.Machine

/-- The time and every port's line side and medium access are as before; what has left the device is still there, in its order. -/
structure Quiet (s t : State) : Prop where
  now : t.now = s.now
  out : s.out <+: t.out
  line : ∀ q, (port t q).line = (port s q).line
  mac : ∀ q, (port t q).mac = (port s q).mac

namespace Quiet

theorem refl (s : State) : Quiet s s := ⟨rfl, ⟨[], List.append_nil _⟩, fun _ => rfl, fun _ => rfl⟩

theorem trans {s t u : State} (a : Quiet s t) (b : Quiet t u) : Quiet s u :=
  ⟨b.now.trans a.now, a.out.trans b.out, fun q => (b.line q).trans (a.line q), fun q => (b.mac q).trans (a.mac q)⟩

theorem of_ports {s t : State} (now : t.now = s.now) (ports : t.ports = s.ports) (out : s.out <+: t.out) : Quiet s t :=
  ⟨now, out, fun q => by rw [port, ports, port], fun q => by rw [port, ports, port]⟩

/-- An update of fields that are none of these. -/
theorem of_same {s t : State} (now : t.now = s.now) (ports : t.ports = s.ports) (out : t.out = s.out) : Quiet s t :=
  of_ports now ports (out ▸ ⟨[], List.append_nil _⟩)

theorem of_calm {s t : State} (h : t.calm = s.calm) (out : t.out = s.out) : Quiet s t :=
  of_same (congrArg Calm.now h) (congrArg Calm.ports h) out

/-- The same, then an operation. -/
theorem after {s t u : State} (b : Quiet t u) (now : t.now = s.now) (ports : t.ports = s.ports) (out : t.out = s.out) : Quiet s u :=
  (of_same now ports out).trans b

theorem ite {s a b : State} {p : Prop} [Decidable p] (ha : Quiet s a) (hb : Quiet s b) : Quiet s (if p then a else b) := by
  split <;> assumption

theorem foldl {α : Type} {f : State → α → State} (h : ∀ s x, Quiet s (f s x)) (l : List α) (s : State) : Quiet s (l.foldl f s) := by
  induction l generalizing s with
  | nil => exact refl s
  | cons x l ih => exact (h s x).trans (ih _)

/-- The first part of a pair that an operation answers. -/
theorem of_fst {β : Type} {s t : State} {a : State × β} {b : β} (h : a = (t, b)) (k : Quiet s a.1) : Quiet s t := by
  rwa [h] at k

/-- The second part of one. -/
theorem of_snd {β : Type} {s t : State} {a : β × State} {b : β} (h : a = (b, t)) (k : Quiet s a.2) : Quiet s t := by
  rwa [h] at k

end Quiet

/-! ### Outputs, counters and messages -/

theorem emit_quiet (o : Output) (s : State) : Quiet s (emit o s) := .of_ports rfl rfl ⟨[o], rfl⟩

theorem bump_quiet (id n : Nat) (s : State) : Quiet s (bump id n s) := .of_calm (bump_calm ..) (by unfold bump; dsimp only; split <;> rfl)

theorem pmcCount_quiet (code : Nat) (a : Attr) (n : Nat) (s : State) : Quiet s (pmcCount code a n s).1 := .of_same rfl rfl rfl

theorem sendMsix_quiet (fn v : Nat) (s : State) : Quiet s (sendMsix fn v s) :=
  .ite (.refl s) (.ite (.of_same rfl rfl rfl) (emit_quiet ..))

/-! ### Trace -/

theorem ddrAccept_quiet {type : Nat} {payload : List Word} {s t : State} (h : ddrAccept type payload s = some t) : Quiet s t := by
  refine .of_calm (ddrAccept_calm _ _ _ _ h) ?_
  unfold ddrAccept at h
  dsimp only at h
  split at h
  · cases h; rfl
  · split at h
    · split at h <;> cases h
      rfl
    · cases h

theorem portAccept_quiet (type : Nat) (payload : List Word) (s : State) : Quiet s (portAccept type payload s) :=
  .after (emit_quiet ..) rfl rfl rfl

theorem ddrDrop_quiet (source : Nat) (s : State) : Quiet s (ddrDrop source s) := .after (bump_quiet ..) rfl rfl rfl

theorem ddrFeed_quiet (source type : Nat) (payload : List Word) (s : State) : Quiet s (ddrFeed source type payload s) := by
  unfold ddrFeed
  dsimp only
  split
  · rename_i t h
    obtain ⟨u, loss, accepted⟩ := Option.bind_eq_some_iff.mp h
    refine .trans ?_ (ddrAccept_quiet accepted)
    split at loss
    · cases loss; exact .refl s
    · obtain ⟨v, lossRecord, rfl⟩ := Option.map_eq_some_iff.mp loss
      exact (ddrAccept_quiet lossRecord).trans (.of_same rfl rfl rfl)
  · exact ddrDrop_quiet ..

theorem portFeed_quiet (source type : Nat) (payload : List Word) (s : State) : Quiet s (portFeed source type payload s) :=
  .ite (.after (bump_quiet ..) rfl rfl rfl) (.ite (portAccept_quiet ..)
    (.after ((portAccept_quiet ..).trans (portAccept_quiet ..)) rfl rfl rfl))

theorem traceFeed_quiet (source type : Nat) (payload : List Word) (s : State) : Quiet s (traceFeed source type payload s) :=
  .trans (.ite (ddrFeed_quiet ..) (.refl s)) (.ite (portFeed_quiet ..) (.refl _))

/-! ### Events -/

theorem noteRec_quiet (r : EventRec) (s : State) : Quiet s (noteRec r s) :=
  .after ((emit_quiet ..).trans (traceFeed_quiet ..)) rfl rfl rfl

theorem updEvtRing_quiet (fn : Nat) (f : EvtRing → EvtRing) (s : State) : Quiet s (updEvtRing fn f s) := .of_same rfl rfl rfl

theorem ringDrop_quiet (fn : Nat) (s : State) : Quiet s (ringDrop fn s) := updEvtRing_quiet ..

theorem routeRec_quiet (r : EventRec) (s : State) : Quiet s (routeRec r s).1 := by
  unfold routeRec
  dsimp only
  split
  · exact .refl s
  · split
    · exact ringDrop_quiet ..
    · split
      · exact (updEvtRing_quiet ..).trans (ringDrop_quiet ..)
      · exact (emit_quiet ..).trans ((updEvtRing_quiet ..).trans ((pmcCount_quiet ..).trans (sendMsix_quiet ..)))

theorem accumulate_quiet (r : EventRec) (s : State) : Quiet s (accumulate r s) := .of_same rfl rfl rfl

theorem startWindow_quiet (source cause : Nat) (s : State) : Quiet s (startWindow source cause s) :=
  .ite (.refl s) (.of_same rfl rfl rfl)

theorem issueF_quiet (depth : Nat) (r : EventRec) (s : State) : Quiet s (issueF depth r s) := by
  induction depth generalizing r s with
  | zero => exact noteRec_quiet r s
  | succ d ih =>
    unfold issueF
    split
    rename_i u faulted ovf routed
    have told : Quiet s u := (noteRec_quiet r s).trans (.of_fst routed (routeRec_quiet ..))
    have again (src c a : Nat) (u : State) : Quiet u (match openWindow u src c with
        | some _ => accumulate (newRec src c a 0 u) u
        | none => startWindow src c (issueF d (newRec src c a 0 u) u)) := by
      split
      · exact accumulate_quiet ..
      · exact (ih ..).trans (startWindow_quiet ..)
    exact told.trans (.trans (.ite (again ..) (.refl u)) (.foldl (fun u n => again ..) ovf _))

theorem raiseRec_quiet (r : EventRec) (s : State) : Quiet s (raiseRec r s) := by
  unfold raiseRec
  split
  · exact .refl s
  · split
    · exact accumulate_quiet ..
    · exact (issueF_quiet ..).trans (startWindow_quiet ..)

theorem raise_quiet (source cause arg0 arg1 : Nat) (s : State) : Quiet s (raise source cause arg0 arg1 s) := raiseRec_quiet ..

theorem raiseSys_quiet (e cause arg0 arg1 : Nat) (s : State) : Quiet s (raiseSys e cause arg0 arg1 s) := raise_quiet ..

theorem raisePort_quiet (p e cause arg0 arg1 : Nat) (s : State) : Quiet s (raisePort p e cause arg0 arg1 s) := raise_quiet ..

theorem raiseTrunk_quiet (n e cause arg0 arg1 : Nat) (s : State) : Quiet s (raiseTrunk n e cause arg0 arg1 s) := raise_quiet ..

theorem count_quiet (code : Nat) (a : Attr) (n : Nat) (s : State) : Quiet s (count code a n s) := by
  unfold count
  split
  rename_i u ovf counted
  exact (Quiet.of_fst counted (pmcCount_quiet ..)).trans (.foldl (fun _ _ => raiseSys_quiet ..) ovf u)

theorem hostWrite_quiet (fn addr : Nat) (data : Bytes) (s : State) : Quiet s (hostWrite fn addr data s) :=
  (emit_quiet ..).trans (count_quiet ..)

theorem parityFail_quiet (area unit_ : Nat) (slot : Bool) (s : State) : Quiet s (parityFail area unit_ slot s) :=
  .after (.trans (.ite (.refl _) (bump_quiet ..)) (raiseSys_quiet ..)) rfl rfl rfl

/-! ### The mailbox -/

theorem updMbxLane_quiet (n l : Nat) (f : MbxLane → MbxLane) (s : State) : Quiet s (updMbxLane n l f s) := .of_same rfl rfl rfl

theorem mbxFault_quiet (n l : Nat) (s : State) : Quiet s (mbxFault n l s) := updMbxLane_quiet ..

theorem writeRecord_quiet {n l : Nat} {r : Bytes} {raiseIt : Bool} {s t : State} (h : writeRecord n l r raiseIt s = some t) :
    Quiet s t := by
  unfold writeRecord at h
  split at h
  · cases h
  · cases h
    exact (hostWrite_quiet ..).trans ((updMbxLane_quiet ..).trans (.ite (sendMsix_quiet ..) (.refl _)))

theorem postRecord_quiet (n l : Nat) (r : Bytes) (raiseIt : Bool) (s : State) : Quiet s (postRecord n l r raiseIt s) := by
  unfold postRecord
  dsimp only
  split
  · exact updMbxLane_quiet ..
  · split
    · rename_i t written
      exact writeRecord_quiet written
    · exact (mbxFault_quiet ..).trans (updMbxLane_quiet ..)

theorem writeResponse_quiet (c : Caller) (resp : Bytes) (s : State) : Quiet s (writeResponse c resp s).1 := by
  unfold writeResponse
  split
  · exact .refl s
  · split
    · exact hostWrite_quiet ..
    · exact mbxFault_quiet ..

theorem forget_quiet (c : Caller) (s : State) : Quiet s (forget c s) := .of_same rfl rfl rfl

theorem completeNow_quiet (c : Caller) (st : Status) (resp : Bytes) (s : State) : Quiet s (completeNow c st resp s) :=
  (writeResponse_quiet ..).trans ((forget_quiet ..).trans ((postRecord_quiet ..).trans
    (.ite (.trans (updMbxLane_quiet ..) ((bump_quiet ..).trans (count_quiet ..))) (.refl _))))

theorem mirrorConfig_quiet (k : Cmd) (st : Status) (s : State) : Quiet s (mirrorConfig k st s) := .ite (emit_quiet ..) (.refl s)

theorem mirrorHeld_quiet (c : Caller) (st : Status) (s : State) : Quiet s (mirrorHeld c st s) := by
  unfold mirrorHeld
  split
  · exact mirrorConfig_quiet ..
  · exact .refl s

theorem complete_quiet (c : Caller) (st : Status) (resp : Bytes) (s : State) : Quiet s (complete c st resp s) := by
  refine (mirrorHeld_quiet c st s).trans ?_
  unfold complete
  dsimp only
  split
  · exact forget_quiet ..
  · split
    · exact completeNow_quiet ..
    · exact .of_same rfl rfl rfl
    · exact .refl _
    · exact .refl _

theorem completeStatus_quiet (c : Caller) (st : Status) (s : State) : Quiet s (completeStatus c st s) := complete_quiet ..

theorem deliverNotice_quiet (c : Caller) (n : Notice) (s : State) : Quiet s (deliverNotice c n s) :=
  (writeResponse_quiet ..).trans ((updMbxLane_quiet ..).trans (postRecord_quiet ..))

theorem notify_quiet (n l code : Nat) (body : Bytes) (s : State) : Quiet s (notify n l code body s) := by
  unfold notify
  dsimp only
  split
  · exact updMbxLane_quiet ..
  · split
    · exact (updMbxLane_quiet ..).trans (deliverNotice_quiet ..)
    · exact .ite (updMbxLane_quiet ..) (updMbxLane_quiet ..)

/-! ### Tags and the records of a cipher ring -/

theorem tagCheck_quiet (kind p ident idx : Nat) (s : State) : Quiet s (tagCheck kind p ident idx s) := .of_same rfl rfl rfl

theorem tagEnd_quiet (kind p ident : Nat) (retired escalated : Bool) (attempts : Nat) (s : State) :
    Quiet s (tagEnd kind p ident retired escalated attempts s) := by
  unfold tagEnd
  split
  · exact .refl s
  · exact .after (traceFeed_quiet ..) rfl rfl rfl

theorem endSymbolTags_quiet (kind p last : Nat) (s : State) : Quiet s (endSymbolTags kind p last s) :=
  .foldl (fun _ _ => (tagCheck_quiet ..).trans (tagEnd_quiet ..)) _ s

theorem updCphRing_quiet (p r : Nat) (f : CphRing → CphRing) (s : State) : Quiet s (updCphRing p r f s) := .of_same rfl rfl rfl

theorem cphRecord_quiet (p r kind : Nat) (e : JobEnd) (tag : Nat) (raiseIt : Bool) (s : State) :
    Quiet s (cphRecord p r kind e tag raiseIt s) :=
  .ite (updCphRing_quiet ..) ((hostWrite_quiet ..).trans ((updCphRing_quiet ..).trans (.ite (sendMsix_quiet ..) (.refl _))))

/-! ### Frames -/

theorem updFlight_quiet (n : Nat) (g : Flight → Flight) (s : State) : Quiet s (updFlight n g s) := .ite (.of_same rfl rfl rfl) (.refl s)

theorem updQueue_quiet (q : Nat) (f : Queue → Queue) (s : State) : Quiet s (updQueue q f s) := .of_same rfl rfl rfl

theorem postOutcome_quiet (n : Nat) (f : Flight) (st : Status) (s : State) : Quiet s (postOutcome n f st s) := by
  unfold postOutcome
  split
  · exact .refl s
  · split
    · exact .refl s
    · exact notify_quiet ..
    · exact (updCphRing_quiet ..).trans (cphRecord_quiet ..)

theorem releaseFlight_quiet (n : Nat) (st : Status) (s : State) : Quiet s (releaseFlight n st s) :=
  .ite (.refl s) (.after ((updQueue_quiet ..).trans (.trans (.ite (.refl _) (count_quiet ..))
    ((tagCheck_quiet ..).trans ((tagEnd_quiet ..).trans (postOutcome_quiet ..))))) rfl rfl rfl)

theorem retireFlight_quiet (n : Nat) (st : Status) (s : State) : Quiet s (retireFlight n st s) :=
  .ite (updFlight_quiet ..) (releaseFlight_quiet ..)

theorem rewindQueue_quiet (p : Nat) (tx : Tx) (s : State) : Quiet s (rewindQueue p tx s) := by
  unfold rewindQueue
  split
  · exact .refl s
  · exact (updQueue_quiet ..).trans (count_quiet ..)

/-! ### Management messages of the device's engines (R593) -/

@[simp] theorem port_updPort_self (p : Nat) (f : Port → Port) (s : State) : port (updPort p f s) p = f (port s p) := tget_tset_self ..

theorem port_updPort_other {p q : Nat} (h : q ≠ p) (f : Port → Port) (s : State) : port (updPort p f s) q = port s q :=
  tget_tset_other _ _ _ h

/-- An update of a port beside its line side and its medium access. -/
theorem updPort_quiet {p : Nat} {f : Port → Port} {s : State} (line : (f (port s p)).line = (port s p).line)
    (mac : (f (port s p)).mac = (port s p).mac) : Quiet s (updPort p f s) where
  now := rfl
  out := ⟨[], List.append_nil _⟩
  line q := by
    by_cases h : q = p
    · rw [h, port_updPort_self, line]
    · rw [port_updPort_other h]
  mac q := by
    by_cases h : q = p
    · rw [h, port_updPort_self, mac]
    · rw [port_updPort_other h]

theorem notePeaks_quiet (p : Nat) (s : State) : Quiet s (notePeaks p s) := by
  unfold notePeaks
  exact .after (updPort_quiet rfl rfl) rfl rfl rfl

theorem tagStart_quiet (kind p ident pod_ : Nat) (s : State) : Quiet s (tagStart kind p ident pod_ s) := by
  have drawn (k : Nat) : Quiet s (drawTag k s).2 := .of_same rfl rfl rfl
  unfold tagStart
  dsimp only
  split
  · exact .refl s
  · split
    · rename_i u draw
      exact .of_snd draw (drawn _)
    · rename_i u draw
      refine .trans (.of_snd draw (drawn _)) (.ite ?_ ?_)
      · exact (bump_quiet ..).trans (count_quiet ..)
      · exact .after (bump_quiet ..) rfl rfl rfl

theorem cacheTouch_quiet (e : Nat) (s : State) : Quiet s (cacheTouch e s) := by
  refine .ite (.of_same rfl rfl rfl) (.ite (.of_same rfl rfl rfl) ?_)
  dsimp only
  split
  · exact .refl s
  · exact .of_same rfl rfl rfl

theorem admitFlight_quiet (n : Nat) (h : Held) (s : State) : Quiet s (admitFlight n h s) :=
  .after ((notePeaks_quiet ..).trans ((count_quiet ..).trans (.trans
    (.ite (.refl _) ((tagStart_quiet ..).trans (tagCheck_quiet ..))) (.ite (cacheTouch_quiet ..) (.refl _))))) rfl rfl rfl

theorem enqueueFlight_quiet (n : Nat) (data : Bytes) (s : State) : Quiet s (enqueueFlight n data s) :=
  .after ((updQueue_quiet ..).trans ((tagCheck_quiet ..).trans (.ite (tagCheck_quiet ..) (.refl _)))) rfl rfl rfl

theorem admitVector_quiet (fn : Nat) (s : State) : Quiet s (admitVector fn s) :=
  .ite (.of_same rfl rfl rfl) (.after (sendMsix_quiet ..) rfl rfl rfl)

theorem holdSubmission_quiet (h : Held) (cause : Nat) (s : State) : Quiet s (holdSubmission h cause s) :=
  .after ((count_quiet ..).trans (.ite (.refl _)
    (.after (.ite (admitVector_quiet ..) (.refl _)) rfl rfl rfl))) rfl rfl rfl

theorem engineSend_quiet (p final : Nat) (msg : Bytes) (s : State) : Quiet s (engineSend p final msg s) := by
  unfold engineSend
  split
  · exact .refl s
  · dsimp only
    split
    · exact (admitFlight_quiet ..).trans (enqueueFlight_quiet ..)
    · exact holdSubmission_quiet ..

theorem updMap_quiet (p e dir m : Nat) (f : ToneMap → ToneMap) (s : State) : Quiet s (updMap p e dir m f s) := .of_same rfl rfl rfl

theorem invalidate_quiet (p e dir : Nat) (ids : List Nat) (s : State) : Quiet s (invalidate p e dir ids s) :=
  .foldl (fun s _ => .ite (updMap_quiet ..) (.refl s)) ids s

theorem mapAckEnds_quiet (f : Flight) (h : Nat) (s : State) : Quiet s (mapAckEnds f h s) := .of_same rfl rfl rfl

theorem mapAckLost_quiet (f : Flight) (h : Nat) (s : State) : Quiet s (mapAckLost f h s) := by
  unfold mapAckLost
  split
  · exact .refl s
  · exact .ite ((mapAckEnds_quiet ..).trans ((invalidate_quiet ..).trans (engineSend_quiet ..))) (.refl s)

theorem retireFrame_quiet (n : Nat) (st : Status) (s : State) : Quiet s (retireFrame n st s) := by
  refine (retireFlight_quiet n st s).trans ?_
  unfold retireFrame
  dsimp only
  split
  · exact .refl _
  · split
    · exact mapAckLost_quiet ..
    · exact .refl _

theorem leaveExchange_quiet (n : Nat) (s : State) : Quiet s (leaveExchange n s) := by
  unfold leaveExchange
  dsimp only
  split
  · exact .refl s
  · refine (updFlight_quiet ..).trans (.ite (releaseFlight_quiet ..) ?_)
    split
    · exact retireFrame_quiet ..
    · exact .refl _

/-! ### The canceller's pairs and the counters of a transmission -/

theorem updPair_quiet (v a : Nat) (f : CancPair → CancPair) (s : State) : Quiet s (updPair v a f s) := by
  unfold updPair
  split
  · exact .of_same rfl rfl rfl
  · exact .refl s

theorem setCanc_quiet (v a : Nat) (st : CancState) (s : State) : Quiet s (setCanc v a st s) := by
  unfold setCanc
  split
  · exact .refl s
  · exact (updPair_quiet ..).trans (.ite (.trans (raisePort_quiet ..) (.of_same rfl rfl rfl)) (.refl _))

theorem cancSuspend_quiet (p cause : Nat) (s : State) : Quiet s (cancSuspend p cause s) :=
  .foldl (fun _ _ => (updPair_quiet ..).trans (.ite (updPair_quiet ..) (setCanc_quiet ..))) _ s

theorem countTx_quiet (p : Nat) (tx : Tx) (stop : Nat) (s : State) : Quiet s (countTx p tx stop s) :=
  (bump_quiet ..).trans ((bump_quiet ..).trans ((Quiet.foldl (fun _ _ => bump_quiet ..) _ _).trans (endSymbolTags_quiet ..)))

end Sys2Proof.Machine
end

section
/-! What breaking off a port's transmission leaves (R57, R74, R213), and what closing the port does after it (R72, R87): the time and the
port's record of driver faults stay, and a port that sends nothing goes on sending nothing. -/

namespace Sys2Proof.Machine

/-- The time and a port's record of driver faults are as before, and what has left the device is still there; where the port sent
nothing, it still does not. -/
structure FaultsStay (p : Nat) (s t : State) : Prop where
  now : t.now = s.now
  out : s.out <+: t.out
  low : (port t p).line.drvfltLow = (port s p).line.drvfltLow
  times : (port t p).line.faultTimes = (port s p).line.faultTimes
  latched : (port t p).line.latched = (port s p).line.latched
  idle : (port s p).mac.tx = none → (port t p).mac.tx = none

namespace FaultsStay

variable {p : Nat} {s t u : State}

theorem refl (p : Nat) (s : State) : FaultsStay p s s := ⟨rfl, ⟨[], List.append_nil _⟩, rfl, rfl, rfl, id⟩

theorem trans (a : FaultsStay p s t) (b : FaultsStay p t u) : FaultsStay p s u :=
  ⟨b.now.trans a.now, a.out.trans b.out, b.low.trans a.low, b.times.trans a.times, b.latched.trans a.latched, b.idle ∘ a.idle⟩

theorem of_quiet (h : Quiet s t) : FaultsStay p s t :=
  ⟨h.now, h.out, by rw [h.line], by rw [h.line], by rw [h.line], fun e => by rw [h.mac, e]⟩

/-- An update of the port that leaves its record of faults and starts no transmission. -/
theorem of_updPort {f : Port → Port} (low : (f (port s p)).line.drvfltLow = (port s p).line.drvfltLow)
    (times : (f (port s p)).line.faultTimes = (port s p).line.faultTimes)
    (latched : (f (port s p)).line.latched = (port s p).line.latched)
    (idle : (port s p).mac.tx = none → (f (port s p)).mac.tx = none) : FaultsStay p s (updPort p f s) :=
  ⟨rfl, ⟨[], List.append_nil _⟩, by rw [port_updPort_self, low], by rw [port_updPort_self, times], by rw [port_updPort_self, latched],
    by rwa [port_updPort_self]⟩

end FaultsStay

@[simp] theorem line_updLine_self (p : Nat) (f : PortLine → PortLine) (s : State) : (port (updLine p f s) p).line = f (port s p).line := by
  simp [updLine]

@[simp] theorem mac_updLine_self (p : Nat) (f : PortLine → PortLine) (s : State) : (port (updLine p f s) p).mac = (port s p).mac := by
  simp [updLine]

@[simp] theorem mac_updMac_self (p : Nat) (f : PortMac → PortMac) (s : State) : (port (updMac p f s) p).mac = f (port s p).mac := by
  simp [updMac]

@[simp] theorem line_updMac_self (p : Nat) (f : PortMac → PortMac) (s : State) : (port (updMac p f s) p).line = (port s p).line := by
  simp [updMac]

/-- TXEN takes the level (R72). -/
@[simp] theorem setTxen_txen (p : Nat) (level : Txen) (s : State) : (port (setTxen p level s) p).line.txen = level := by
  unfold setTxen
  split
  · assumption
  · exact congrArg PortLine.txen (line_updLine_self p (fun l => { l with txen := level }) s)

/-! ### Breaking off -/

theorem updMac_stays {p : Nat} {f : PortMac → PortMac} {s : State} (h : (port s p).mac.tx = none → (f (port s p).mac).tx = none) :
    FaultsStay p s (updMac p f s) := .of_updPort rfl rfl rfl h

theorem updLine_stays {p : Nat} {f : PortLine → PortLine} {s : State}
    (low : (f (port s p).line).drvfltLow = (port s p).line.drvfltLow)
    (times : (f (port s p).line).faultTimes = (port s p).line.faultTimes)
    (latched : (f (port s p).line).latched = (port s p).line.latched) : FaultsStay p s (updLine p f s) :=
  .of_updPort low times latched id

theorem setTxen_stays (p : Nat) (level : Txen) (s : State) : FaultsStay p s (setTxen p level s) := by
  unfold setTxen
  split
  · exact .refl p s
  · exact .trans (updLine_stays rfl rfl rfl) (.of_quiet (emit_quiet ..))

theorem cutSpan_stays (p : Nat) (s : State) : FaultsStay p s (cutSpan p s) := by
  unfold cutSpan
  exact updLine_stays rfl rfl rfl

/-- What a port has put on the line of a transmission up to now is counted, and its span ends (R27, R504). -/
def cutTx (p : Nat) (s : State) : State :=
  match (port s p).mac.tx with
  | some tx => cutSpan p (countTx p tx s.now s)
  | none => s

theorem cutTx_stays (p : Nat) (s : State) : FaultsStay p s (cutTx p s) := by
  unfold cutTx
  split
  · exact .trans (.of_quiet (countTx_quiet ..)) (cutSpan_stays ..)
  · exact .refl p s

/-- The frames of a transmission or an exchange that is given up leave it, their queue rewound (R221, R223). -/
def giveUp (p : Nat) (o : Option Tx) (s : State) : State :=
  match o with
  | none => s
  | some tx =>
    if tx.flights.isEmpty then s
    else tx.flights.foldl (fun s n => leaveExchange n (updFlight n (fun f => { f with stageSent := f.stageSent - 1 }) s))
      (rewindQueue p tx s)

theorem giveUp_quiet (p : Nat) (o : Option Tx) (s : State) : Quiet s (giveUp p o s) := by
  unfold giveUp
  split
  · exact .refl s
  · exact .ite (.refl s) ((rewindQueue_quiet ..).trans (.foldl (fun _ _ => (updFlight_quiet ..).trans (leaveExchange_quiet ..)) _ _))

theorem abandonTx_eq (p : Nat) (s : State) : ∃ bc : PortMac → Option Nat, abandonTx p s =
    giveUp p (port s p).mac.awaiting (giveUp p (port s p).mac.tx
      (updMac p (fun m => { m with tx := none, awaiting := none, ackEnd := none, bc := bc m }) (cutTx p s))) := ⟨_, rfl⟩

/-- Giving up the transmission (R37, R57, R74). -/
theorem abandonTx_stays (p : Nat) (s : State) : FaultsStay p s (abandonTx p s) := by
  obtain ⟨bc, e⟩ := abandonTx_eq p s
  rw [e]
  exact (cutTx_stays p s).trans (.trans (updMac_stays fun _ => rfl) (.of_quiet ((giveUp_quiet ..).trans (giveUp_quiet ..))))

/-- Nothing of it is left on the line. -/
theorem abandonTx_tx (p : Nat) (s : State) : (port (abandonTx p s) p).mac.tx = none := by
  obtain ⟨bc, e⟩ := abandonTx_eq p s
  rw [e, (giveUp_quiet ..).mac, (giveUp_quiet ..).mac, mac_updMac_self]

theorem enterPeriod_stays (p : Nat) (s : State) : FaultsStay p s (enterPeriod p s) := by
  unfold enterPeriod
  split
  · refine updMac_stays ?_
    exact id
  · refine updMac_stays ?_
    exact id

theorem startContention_stays (p start : Nat) (s : State) : FaultsStay p s (startContention p start s) := by
  unfold startContention
  dsimp only
  split
  · refine .trans (updMac_stays ?_) (enterPeriod_stays ..)
    exact id
  · refine updMac_stays ?_
    exact id

theorem midScale_quiet (lane to_ : Nat) (s : State) : Quiet s (midScale lane to_ s) := .ite (.refl s) (emit_quiet ..)

/-- A transmission that breaks off (R57, R74). -/
theorem breakTx_stays (p : Nat) (lanes : List Nat) (s : State) : FaultsStay p s (breakTx p lanes s) := by
  unfold breakTx
  split
  · exact .refl p s
  · exact .trans (.of_quiet (.foldl (fun s k => midScale_quiet ..) lanes s)) ((abandonTx_stays ..).trans (startContention_stays ..))

theorem breakTx_tx (p : Nat) (lanes : List Nat) (s : State) : (port (breakTx p lanes s) p).mac.tx = none := by
  unfold breakTx
  split
  · assumption
  · exact (startContention_stays ..).idle (abandonTx_tx ..)

/-- A lane of it goes to mid-scale up to the transmission's scheduled end. -/
theorem breakTx_midScale {p lane : Nat} {s : State} {tx : Tx} (h : (port s p).mac.tx = some tx) (ahead : s.now < tx.endAt) :
    .midScale lane s.now tx.endAt ∈ (breakTx p [lane] s).out := by
  have told : Output.midScale lane s.now tx.endAt ∈ (midScale lane tx.endAt s).out := by
    simp [midScale, Nat.not_le.mpr ahead]
  have after : FaultsStay p (midScale lane tx.endAt s) (breakTx p [lane] s) := by
    unfold breakTx
    rw [h]
    exact (abandonTx_stays ..).trans (startContention_stays ..)
  exact after.out.subset told

/-! ### Closing -/

theorem settleSettings_stays (p : Nat) (s : State) : FaultsStay p s (settleSettings p s) := .of_updPort rfl rfl rfl id

theorem shutPort_stays (p : Nat) (s : State) : FaultsStay p s (shutPort p s) :=
  (setTxen_stays ..).trans (.trans (.of_updPort rfl rfl rfl id) ((updMac_stays fun _ => rfl).trans ((settleSettings_stays ..).trans
    (.of_quiet ((cancSuspend_quiet ..).trans (.after (raisePort_quiet ..) rfl rfl rfl))))))

theorem closeWhenIdle_stays (p : Nat) (s : State) : FaultsStay p s (closeWhenIdle p s) := by
  unfold closeWhenIdle finishClose
  dsimp only
  split
  · split
    · exact .refl p s
    · exact (shutPort_stays ..).trans (.of_quiet (completeStatus_quiet ..))
  · exact .refl p s

end Sys2Proof.Machine
end

section
/-! The rows of the line driver and the lane FIFOs: TXEN_RISE and TXEN_FALL (R73), DRVFLT_QUALIFY (R74, R75, R80), DRIVER_AUTO_REARM
(R75), TX_FIFO_UNDERFLOW (R57, R282), RX_FIFO_OVERFLOW (R58, R101) and AGC_FRAME_GAIN_RELEASE (R66). -/

namespace Sys2Proof.Machine

variable {s : State} {p : Nat}

/-! ### TXEN -/

/-- TXEN rises for the transmission on the line, else for the next one scheduled. -/
theorem execTxenRise_rises {start : Nat} (present : p < s.part.ports) (may : mayTransmit s p = true)
    (next : (port s p).mac.tx.map (·.startAt) = some start ∨ (port s p).mac.tx = none ∧ nextTxStart s p = some start) :
    execTxenRise p s = .next (setTxen p .high (advanceTo (start - (port s p).line.leadNs / 2) s)) := by
  unfold execTxenRise
  rw [if_neg (Nat.not_le.mpr present)]
  rcases next with sending | ⟨idle, planned⟩
  · obtain ⟨tx, onLine, rfl⟩ := Option.map_eq_some_iff.mp sending
    simp [onLine, may, nsTicks]
  · simp [idle, planned, may, nsTicks]

/-- TXEN falls where the next transmission would not raise it within 1 us. -/
theorem execTxenFall_falls {a b : Nat} {rest : List (Nat × Nat)} (present : p < s.part.ports)
    (spans : (port s p).line.txSpans = (a, b) :: rest) (high : (port s p).line.txen = .high) (idle : (port s p).mac.tx = none)
    (far : ∀ r, nextTxStart s p = some r → b + (port s p).line.tailNs / 2 + us 1 ≤ r - (port s p).line.leadNs / 2) :
    execTxenFall p s = .next (setTxen p .low (advanceTo (b + (port s p).line.tailNs / 2) s)) := by
  unfold execTxenFall
  rw [if_neg (Nat.not_le.mpr present)]
  dsimp only
  rw [spans]
  dsimp only
  rw [if_neg]
  · rfl
  · simp only [high, idle]
    cases next : nextTxStart s p with
    | none => simp
    | some r =>
      have later : decide (r - nsTicks (port s p).line.leadNs < b + nsTicks (port s p).line.tailNs + us 1) = false :=
        decide_eq_false (Nat.not_lt.mpr (far r next))
      simp [later]

/-! ### Driver faults -/

/-- The times of a port's qualified faults within the last second (R75). -/
def recentFaults (s : State) (p : Nat) : List Nat := (port s p).line.faultTimes.filter (fun x => decide (s.now < x + secs 1))

/-- The times of its automatic re-arms within the last second (R75). -/
def recentRearms (s : State) (p : Nat) : List Nat := (port s p).line.rearmTimes.filter (fun x => decide (s.now < x + secs 1))

/-- A qualified fault turns the driver off and ends the transmission, and the fourth within 1 s latches (R74, R75). -/
theorem driverFault_line (p : Nat) (s : State) :
    (port (driverFault p s) p).line.driverOff = true ∧ (port (driverFault p s) p).mac.tx = none ∧
      (port (driverFault p s) p).line.drvfltLow = (port s p).line.drvfltLow ∧
      (port (driverFault p s) p).line.latched = ((port s p).line.latched || decide (3 ≤ (recentFaults s p).length)) := by
  have ended : FaultsStay p s (closeWhenIdle p (breakTx p (lanesOf s p) (setTxen p (txenIdle s) s))) :=
    (setTxen_stays ..).trans ((breakTx_stays ..).trans (closeWhenIdle_stays ..))
  have idle : (port (closeWhenIdle p (breakTx p (lanesOf s p) (setTxen p (txenIdle s) s))) p).mac.tx = none :=
    (closeWhenIdle_stays ..).idle (breakTx_tx ..)
  unfold driverFault
  generalize closeWhenIdle p (breakTx p (lanesOf s p) (setTxen p (txenIdle s) s)) = u at ended idle
  extract_lets n quiet l times latch v w
  have told : Quiet v (if latch then raisePort p 1 2 noArg noArg w else w) :=
    (raisePort_quiet ..).trans (.ite (raisePort_quiet ..) (.refl _))
  have recent : times = recentFaults s p ++ [s.now] := by
    simp only [times, l, quiet, recentFaults, ended.now, ended.times]
  have latched : l.latched = (port s p).line.latched := ended.latched
  have fourth : (l.latched || latch) = ((port s p).line.latched || decide (3 ≤ (recentFaults s p).length)) := by
    simp only [latch, latched, recent, List.length_append, List.length_singleton]
    cases (port s p).line.latched <;> simp
  rw [told.line, told.mac]
  simp only [v, line_updLine_self, mac_updLine_self]
  exact ⟨trivial, idle, ended.low, fourth⟩

theorem isOpen_updLine {f : PortLine → PortLine} (mode : (f (port s p).line).mode = (port s p).line.mode) :
    isOpen (updLine p f s) p = isOpen s p := by
  simp [isOpen, mode]

section
variable (present : p < s.part.ports)
include present

/-- On a stopped port the fault is kept for later (R80). -/
theorem execDrvfltQualify_stopped (run : Running s) (opened : isOpen s p = true) (stopped : (port s p).line.stopped = true) :
    execDrvfltQualify p s = .next (updLine p (fun l => { l with lateFault := true })
      (updLine p (fun l => { l with drvfltLow := true }) s)) := by
  unfold execDrvfltQualify
  simp [Nat.not_le.mpr present, isOpen_updLine, opened, stopped, show s.pwr.phase = .running from run]

theorem execDrvfltQualify_runs (run : Running s) (opened : isOpen s p = true) (going : (port s p).line.stopped = false) :
    execDrvfltQualify p s = .next (driverFault p (updLine p (fun l => { l with drvfltLow := true }) s)) := by
  unfold execDrvfltQualify
  simp [Nat.not_le.mpr present, isOpen_updLine, opened, going, show s.pwr.phase = .running from run]

/-- The driver comes on again unless it is latched or was re-armed three times in the last second (R75). -/
theorem execDriverAutoRearm_line : ∃ t, execDriverAutoRearm p s = .next t ∧ (port t p).line.drvfltLow = false ∧
    (port t p).line.driverOff =
      ((port s p).line.driverOff && ((port s p).line.latched || decide (3 ≤ (recentRearms s p).length))) := by
  unfold execDriverAutoRearm
  rw [if_neg (Nat.not_le.mpr present)]
  refine ⟨_, rfl, ?_, ?_⟩
  · rw [line_updLine_self]
  · rw [line_updLine_self]
    have few : decide ((recentRearms s p).length < 3) = !decide (3 ≤ (recentRearms s p).length) :=
      (decide_eq_decide.mpr Nat.not_le.symm).trans decide_not
    show ((port s p).line.driverOff && !((port s p).line.driverOff && !(port s p).line.latched
      && decide ((recentRearms s p).length < 3))) = _
    rw [few]
    cases (port s p).line.driverOff <;> simp

end

/-! ### The lane FIFOs -/

/-- A lane that falls short ends the transmission, at mid-scale to its scheduled end (R57). -/
theorem execTxFifoUnderflow_ends {lane : Nat} {tx : Tx} (parity : Bool) (present : lane < s.part.lanes)
    (sending : (port s (lane / 4)).mac.tx = some tx) :
    ∃ t, execTxFifoUnderflow ⟨lane, parity⟩ s = .next t ∧ (port t (lane / 4)).mac.tx = none ∧
      (s.now < tx.endAt → .midScale lane s.now tx.endAt ∈ t.out) := by
  unfold execTxFifoUnderflow
  dsimp only
  rw [if_neg (Nat.not_le.mpr present), if_neg (by simp [sending])]
  refine ⟨_, rfl, ?_⟩
  have told (u : State) : Quiet u (if parity then raisePort (lane / 4) 1 4 lane (txFlight s (lane / 4)) (parityFail 2 lane false u)
      else raisePort (lane / 4) 1 3 lane (txFlight s (lane / 4)) u) :=
    .ite ((parityFail_quiet ..).trans (raisePort_quiet ..)) (raisePort_quiet ..)
  have after := (FaultsStay.of_quiet (p := lane / 4) (told (breakTx (lane / 4) [lane] s))).trans (closeWhenIdle_stays ..)
  exact ⟨after.idle (breakTx_tx ..), fun ahead => after.out.subset (breakTx_midScale sending ahead)⟩

theorem execRxFifoOverflow_gap {lane : Nat} (lost : Nat) (run : Running s) (present : s.part.hasChain lane = true) :
    execRxFifoOverflow lane lost s = .next (raiseSys 6 1 lane 0 (chainGap lane lost
      (if isLaneChain lane then
        eraseRx (lane / 4) (s.now - if isPrecision lane then 0 else lost * sampleTicks lane (chain s lane).halved) s.now s
      else s))) := by
  unfold execRxFifoOverflow
  simp [present, show s.pwr.phase = .running from run]

/-! ### Frame gains -/

/-- A change of a port's gain settings notes the lanes it changes, and changes nothing else (R68). -/
theorem regain_eq (f : PortLine → PortLine) (l : PortLine) : ∃ changed, regain f l = { f l with gainChanged := changed } := ⟨_, rfl⟩

/-- With no gains held for a frame, a lane listens at its fixed or its automatic gain (R66). -/
theorem gainOf_listening {l : PortLine} (h : l.frameGain = none) (k : Nat) :
    gainOf l k = if bit l.agcFixed.toNat k then l.fixedGain.getD k 0 else l.listenGain.getD k 0 := by
  unfold gainOf
  rw [h]

theorem execAgcFrameGainRelease_listens {e : Nat} (present : p < s.part.ports) (held : (port s p).line.frameGainEnd = some e) :
    ∃ t, execAgcFrameGainRelease p s = .next t ∧ t.now = max s.now e ∧ (port t p).line.frameGain = none ∧
      (port t p).line.frameGainEnd = none ∧
      ∀ k, gainOf (port t p).line k = if bit (port s p).line.agcFixed.toNat k then (port s p).line.fixedGain.getD k 0
        else (port s p).line.listenGain.getD k 0 := by
  unfold execAgcFrameGainRelease
  rw [if_neg (Nat.not_le.mpr present), held]
  refine ⟨_, rfl, rfl, ?_⟩
  rw [line_updLine_self]
  obtain ⟨changed, listens⟩ := regain_eq (fun l => { l with frameGain := none, frameGainEnd := none }) (port s p).line
  have line : regain (fun l => { l with frameGain := none, frameGainEnd := none }) (port (advanceTo e s) p).line = _ := listens
  rw [line]
  exact ⟨rfl, rfl, fun k => gainOf_listening rfl k⟩

end Sys2Proof.Machine
end

section
/-! The obligation of the line driver and the lane FIFOs (O10), by its seven rows. -/

namespace Sys2Proof

open Machine

/-- Settles O10: each row from what it does to its port. -/
theorem lineDriverAndFifos : Obligations.LineDriverAndFifos := by
  refine ⟨?_, ?_, ?_, ?_, ?_, ?_, ?_⟩
  · intro s p start present may next
    exact ⟨_, execTxenRise_rises present may next, by simp, by simp⟩
  · intro s p a b rest present spans high idle far
    exact ⟨_, execTxenFall_falls present spans high idle far, by simp, by simp⟩
  · intro s p present run opened
    cases stopped : (port s p).line.stopped with
    | true => exact ⟨_, execDrvfltQualify_stopped present run opened stopped, by simp, fun _ => by simp, nofun⟩
    | false =>
      obtain ⟨off, ended, low, latched⟩ := driverFault_line p (updLine p (fun l => { l with drvfltLow := true }) s)
      refine ⟨_, execDrvfltQualify_runs present run opened stopped, ?_, nofun, fun _ => ⟨off, ended, ?_⟩⟩
      · simpa using low
      · rw [latched, recentFaults, line_updLine_self]
        rfl
  · exact fun s p present => execDriverAutoRearm_line present
  · exact fun s lane parity tx present sending => execTxFifoUnderflow_ends parity present sending
  · exact fun s lane lost run present => execRxFifoOverflow_gap lost run present
  · exact fun s p e present held => execAgcFrameGainRelease_listens present held

end Sys2Proof
end

section
/-! The values of the registers right after reset. The tables of the indexed resources are empty, so that each register of an array reads
as its first one does, whose value is then computed. -/

namespace Sys2Proof.Machine

/-! ### The loop, the pods and the link buffers -/

theorem paceTile_reset (n : Nat) : regValue State.reset (.paceTile n) = 0 :=
  Eq.trans (b := regValue State.reset (.paceTile 0)) rfl (by decide +kernel)

theorem mbxCredits_reset (n : Nat) : regValue State.reset (.mbxCredits n) = 0x100802 :=
  Eq.trans (b := regValue State.reset (.mbxCredits 0)) rfl (by decide +kernel)

theorem admitStatus_reset (n : Nat) : regValue State.reset (.admitStatus n) = 0x200000000000 :=
  Eq.trans (b := regValue State.reset (.admitStatus 0)) rfl (by decide +kernel)

theorem lbfPort_reset (p : Nat) : regValue State.reset (.lbfPort p) = 0x1C000000000 :=
  Eq.trans (b := regValue State.reset (.lbfPort 0)) rfl (by decide +kernel)

theorem lbfQueue_reset (q : Nat) : regValue State.reset (.lbfQueue q) = 0 :=
  Eq.trans (b := regValue State.reset (.lbfQueue 0)) rfl (by decide +kernel)

/-! ### Lanes, rings, contexts and trunk lanes -/

theorem mbxValue_reset (p l k : Nat) : mbxValue State.reset p l k = mbxValue State.reset 0 0 k := by
  unfold mbxValue
  split <;> rfl

theorem cphValue_reset (n r k : Nat) : cphValue State.reset n r k = cphValue State.reset 0 0 k := by
  unfold cphValue
  split <;> rfl

theorem mbx_reset (p l : Nat) : ∀ k, k < 5 → regValue State.reset (.mbx p l k) = 0 := by
  have first : ∀ k, k < 5 → mbxValue State.reset 0 0 k = 0 := by decide +kernel
  exact fun k h => (mbxValue_reset p l k).trans (first k h)

theorem cph_reset (n r : Nat) : ∀ k, k < 5 → regValue State.reset (.cph n r k) = 0 := by
  have first : ∀ k, k < 5 → cphValue State.reset 0 0 k = 0 := by decide +kernel
  exact fun k h => (cphValue_reset n r k).trans (first k h)

theorem ctx_reset (c : Nat) : ∀ k, k < 8 → regValue State.reset (.ctx c k) =
    [0x7C0100000000, 0x04C11DB7, 0xFFFFFFFF, 0xFFFFFFFF, 0, 0, 0, 0].getD k 0 := by
  have fresh : ∀ k, k < 8 → ctxValue {} k = [0x7C0100000000, 0x04C11DB7, 0xFFFFFFFF, 0xFFFFFFFF, 0, 0, 0, 0].getD k 0 := by
    decide +kernel
  exact fresh

theorem trk_reset (n : Nat) : ∀ k, k < 7 → regValue State.reset (.trk n k) = 0 := by
  have fresh : ∀ k, k < 7 → trkValue {} k = 0 := by decide +kernel
  exact fresh

/-! ### Events and counters -/

theorem evtSource_reset (n : Nat) : regValue State.reset (.evtSource n) = 0x00024000000000FF :=
  Eq.trans (b := regValue State.reset (.evtSource 0)) rfl (by decide +kernel)

theorem evtRing_reset (n : Nat) : ∀ k, k < 3 → regValue State.reset (.evtRing n k) = 0 := by
  have fresh : ∀ k, k < 3 → evtRingValue {} k = 0 := by decide +kernel
  exact fresh

theorem counterCfg_reset (n : Nat) : regValue State.reset (.counter n 1) = 0x00000000FC000000 :=
  Eq.trans (b := regValue State.reset (.counter 0 1)) rfl (by decide +kernel)

theorem snap_reset : ∀ k, k < 3 → regValue State.reset (.snap k) = 0 := by decide +kernel

/-- The status registers and logs that read zero. -/
theorem status_reset : ∀ r ∈ ([.sys 2, .sys 3, .sys 4, .sys 5, .standbyStatus, .fwStatus, .podFwStatus, .denyLog, .entropy, .lbfDevice,
    .parityLog, .tsi, .compliance, .die, .fixOvf, .trcStatus, .tmb 1 true, .tmb 2 true, .tmb 3 true, .tmb 4 true, .tmb 5 true] : List Reg),
    regValue State.reset r = 0 := by decide +kernel

/-! ### The invariant (R483, R484) -/

theorem inv_reset : State.Inv State.reset where
  ddr := rfl
  lifecycle := Nat.zero_le 3
  tap := rfl

end Sys2Proof.Machine
end

section
/-! The obligation of the reset values (O55). -/

namespace Sys2Proof

open Machine

/-- Settles O55: register by register, and the invariant of the state they belong to. -/
theorem resetValues : Obligations.ResetValues :=
  ⟨⟨rfl, rfl, rfl, rfl, by decide +kernel, rfl, rfl, status_reset _ (by decide), mbx_reset, evtSource_reset, status_reset,
    by decide +kernel, paceTile_reset, mbxCredits_reset, fun n _ => admitStatus_reset n, lbfPort_reset, lbfQueue_reset, cph_reset, ctx_reset,
    trk_reset, evtRing_reset, counterCfg_reset, fun _ => rfl, snap_reset, status_reset _ (by decide), fun _ => rfl, rfl, rfl, rfl, rfl,
    rfl, rfl, rfl⟩, inv_reset⟩

end Sys2Proof
end

section
/-! How a command that starts answers, in the terms of the statements (R439, R443). -/

namespace Sys2Proof.Machine

variable {s t : State} {c : Caller} {req : Bytes} {code : Nat} {wf pod0 : Bool} {names : List Resource} {body : State → State × Reply}
  (start : mayStart s c code names = true) (form : wf = true) (sender : pod0 = true → c.pod = 0)
include start form sender

theorem runCmd_answers {st : Status} {resp : Bytes} (b : body s = (t, .done st resp)) :
    (.next (runCmd ⟨code, wf, pod0, names⟩ c req body s) : Out) = Answers c code req st resp t :=
  congrArg _ (runCmd_done start form sender b)

theorem runCmd_holds (b : body s = (t, .held)) :
    runCmd ⟨code, wf, pod0, names⟩ c req body s = hold ⟨code, wf, pod0, names⟩ c req true t :=
  runCmd_held start form sender b

theorem runCmd_goesOn (b : body s = (t, .held)) :
    (.next (runCmd ⟨code, wf, pod0, names⟩ c req body s) : Out) = GoesOn c code req names true t :=
  congrArg _ (runCmd_holds start form sender b)

end Sys2Proof.Machine
end

section
/-! What the delivery of a chain's blocks and its gaps (R101, R103, R106) leave: the time, the ports, the synthesizers and the state of
power. -/

namespace Sys2Proof.Machine

/-- The time, the ports, the synthesizers and the state of power are as before. -/
structure Aside (s t : State) : Prop where
  now : t.now = s.now
  ports : t.ports = s.ports
  syn : t.syn = s.syn
  pwr : t.pwr = s.pwr

namespace Aside

variable {s t u : State}

theorem refl (s : State) : Aside s s := ⟨rfl, rfl, rfl, rfl⟩

theorem trans (a : Aside s t) (b : Aside t u) : Aside s u :=
  ⟨b.now.trans a.now, b.ports.trans a.ports, b.syn.trans a.syn, b.pwr.trans a.pwr⟩

theorem of_calm (h : t.calm = s.calm) : Aside s t :=
  ⟨congrArg Calm.now h, congrArg Calm.ports h, congrArg Calm.syn h, congrArg Calm.pwr h⟩

theorem ite {a b : State} {p : Prop} [Decidable p] (ha : Aside s a) (hb : Aside s b) : Aside s (if p then a else b) := by
  split <;> assumption

theorem foldl {α : Type} {f : State → α → State} (h : ∀ s x, Aside s (f s x)) (l : List α) (s : State) : Aside s (l.foldl f s) := by
  induction l generalizing s with
  | nil => exact refl s
  | cons x l ih => exact (h s x).trans (ih _)

theorem port (h : Aside s t) (p : Nat) : Machine.port t p = Machine.port s p := by rw [Machine.port, h.ports, Machine.port]

end Aside

theorem updPosition_aside (c p : Nat) (f : Position → Position) (s : State) : Aside s (updPosition c p f s) := ⟨rfl, rfl, rfl, rfl⟩

theorem blockDropped_aside (c p : Nat) (s : State) : Aside s (blockDropped c p s) :=
  .trans (updPosition_aside ..) (.ite (.of_calm (count_calm ..)) (.refl _))

theorem blockDelivered_aside (c p : Nat) (s : State) : Aside s (blockDelivered c p s) := updPosition_aside ..

/-- A write to a chain's ring in host memory, its offsets noted. -/
theorem ringWritten_aside (r : RingAt) (prod cons : Nat) (data : Bytes) (consumer : Option Nat) (c : Nat) (f : Chain → Chain)
    (s : State) : Aside s (updChain c f (ringWrite r prod cons data consumer s).1) :=
  .trans (.of_calm (ringWrite_calm r prod cons data consumer s)) ⟨rfl, rfl, rfl, rfl⟩

theorem deliverBlock_aside (c p : Nat) (b : Block) (consumer : Option Nat) (s : State) :
    Aside s (deliverBlock c p b consumer s) := by
  unfold deliverBlock
  dsimp only
  split
  · exact blockDropped_aside ..
  · exact .ite (.trans (ringWritten_aside ..) (blockDelivered_aside ..)) (.trans (ringWritten_aside ..) (blockDropped_aside ..))
  · exact .ite ⟨rfl, rfl, rfl, rfl⟩ (blockDropped_aside ..)

theorem deliverReady_aside (c p : Nat) (consumer : Option Nat) (s : State) : Aside s (deliverReady c p consumer s) :=
  .trans (updPosition_aside ..) (.foldl (fun _ _ => deliverBlock_aside ..) _ _)

theorem closeBlock_aside (c p : Nat) (s : State) : Aside s (closeBlock c p s) := by
  unfold closeBlock
  split
  · exact .refl s
  · exact .trans (updPosition_aside ..) (.ite (.refl _) (deliverReady_aside ..))

theorem closeBlocks_aside (c : Nat) (s : State) : Aside s (closeBlocks c s) := .foldl (fun _ _ => closeBlock_aside ..) _ s

theorem chainGap_aside (c lost : Nat) (s : State) : Aside s (chainGap c lost s) :=
  (closeBlocks_aside c s).trans (.trans (.foldl (fun _ _ => updPosition_aside ..) _ _) (.ite (.of_calm (bump_calm ..)) (.refl _)))

theorem tapsStop_aside (p : Nat) (s : State) : Aside s (tapsStop p s) := .foldl (fun _ _ => closeBlocks_aside ..) _ s

theorem tapsResume_aside (p from_ : Nat) (s : State) : Aside s (tapsResume p from_ s) := .foldl (fun _ _ => chainGap_aside ..) _ s

/-! ### The loopback of a port (R69) -/

/-- Its closing changes the calibration of the port alone. -/
theorem loopback_aside (p : Nat) (cal : Cal) (s : State) :
    Aside (updLine p (fun l => { l with cal := cal, calAt := s.now }) s) (loopback p cal s) := tapsStop_aside ..

/-- Its opening ends that calibration. -/
theorem loopbackEnds_aside (p : Nat) (s : State) : Aside (updLine p (fun l => { l with cal := .none }) s) (loopbackEnds p s) :=
  tapsResume_aside ..

end Sys2Proof.Machine
end

section
/-! The rows and commands of calibration, gains and the driver's re-arm (R71, R75, R87). -/

namespace Sys2Proof.Machine

/-! ### Ports -/

theorem port_of_calm {s t : State} (h : t.calm = s.calm) (p : Nat) : port t p = port s p := by
  rw [port, show t.ports = s.ports from congrArg Calm.ports h, port]

/-- An answer leaves the ports as the command's meaning left them. -/
theorem answers_ports (c : Caller) (code : Nat) (req : Bytes) (st : Status) (resp : Bytes) (u : State) :
    ∃ t, Answers c code req st resp u = .next t ∧ ∀ q, port t q = port u q :=
  ⟨_, rfl, port_of_calm ((complete_calm ..).trans (mirrorConfig_calm ..))⟩

theorem port_updLine_other {p q : Nat} (h : q ≠ p) (f : PortLine → PortLine) (s : State) : port (updLine p f s) q = port s q :=
  port_updPort_other h ..

/-- A contention period touches the medium access alone (R213). -/
@[simp] theorem line_startContention (p start : Nat) (s : State) : (port (startContention p start s) p).line = (port s p).line := by
  unfold startContention enterPeriod
  dsimp only
  split
  · split <;> simp
  · simp

/-! ### Bits of a register -/

theorem bit_eq_testBit (v i : Nat) : bit v i = v.testBit i := by
  rw [bit, Nat.testBit_eq_decide_div_mod_eq]
  rfl

theorem bit_or_twoPow {w k : Nat} (h : k < w) (x : BitVec w) : bit (x ||| BitVec.ofNat w (2 ^ k)).toNat k = true := by
  rw [bit_eq_testBit, BitVec.testBit_toNat, BitVec.getLsbD_or, BitVec.getLsbD_ofNat, Nat.testBit_two_pow_self, decide_eq_true h,
    Bool.and_true, Bool.or_true]

theorem bit_andNot_twoPow {w k : Nat} (h : k < w) (x : BitVec w) : bit (x &&& ~~~(BitVec.ofNat w (2 ^ k))).toNat k = false := by
  rw [bit_eq_testBit, BitVec.testBit_toNat, BitVec.getLsbD_and, BitVec.getLsbD_not, BitVec.getLsbD_ofNat, Nat.testBit_two_pow_self,
    decide_eq_true h, Bool.and_true, Bool.not_true, Bool.and_false, Bool.and_false]

/-! ### Calibration -/

section
variable {s : State} {p : Nat} {c : Caller}

/-- lane.calibrate waits for the beacon boundary (R71). -/
theorem laneCalibrateBody_waits {req : Bytes} (present : rd req 0 2 < s.part.ports) (may : mayPort s c (rd req 0 2) = true)
    (opened : isOpen s (rd req 0 2) = true) (clock : allStopped s = false) (few : calibrations s < 32) :
    laneCalibrateBody c req s = (updLine (rd req 0 2) (fun l => { l with cal := .waitBeacon c }) s, .held) := by
  unfold laneCalibrateBody
  dsimp only
  rw [if_neg (Nat.not_le.mpr present), if_neg (by simp [may]), if_neg (by simp [opened, clock]), if_neg (Nat.not_le.mpr few)]

/-- On an idle medium the loopback closes and contention ends (R71). -/
theorem execCalibrationStart_runs (present : p < s.part.ports) (waits : (port s p).line.cal = .waitIdle c)
    (tx : (port s p).mac.tx = none) (awaiting : (port s p).mac.awaiting = none) (rx : (port s p).mac.rx = none)
    (due : (port s p).mac.ackDue = none) :
    ∃ t, execCalibrationStart p s = .next t ∧ (port t p).line.cal = .running c ∧ (port t p).line.calAt = s.now ∧
      (port t p).mac.contend = .idle ∧ (port t p).mac.holdOff = none := by
  have told (u : State) : Quiet u (raisePort p 7 4 (clockOf s p) 0 (cancSuspend p 1 u)) :=
    (cancSuspend_quiet ..).trans (raisePort_quiet ..)
  unfold execCalibrationStart
  rw [if_neg (Nat.not_le.mpr present)]
  dsimp only
  rw [waits]
  dsimp only
  rw [if_neg (by simp [tx, awaiting, rx, due])]
  refine ⟨_, rfl, ?_⟩
  rw [(told _).line, (told _).mac, line_updMac_self, mac_updMac_self, (loopback_aside ..).port, line_updLine_self]
  exact ⟨rfl, rfl, rfl, rfl⟩

/-- The corrections measured apply where every lane that carries PLC passes (R71, R87). -/
theorem execCalibrationComplete_applies (present : p < s.part.ports) (runs : (port s p).line.cal = .running c) (r : CalResult) :
    ∃ t, execCalibrationComplete p r s = .next t ∧ (port t p).line.cal = .none ∧
      (port t p).line.apertures = if (bitPositions 4 (port s p).line.plcLanes.toNat).all (lanePassed r) then aperturesOf r
        else (port s p).line.apertures := by
  have ended : (port (loopbackEnds p s) p).line = { (port s p).line with cal := .none } := by
    rw [(loopbackEnds_aside p s).port, line_updLine_self]
  unfold execCalibrationComplete
  rw [if_neg (Nat.not_le.mpr present)]
  dsimp only
  rw [runs]
  dsimp only
  refine ⟨_, rfl, ?_⟩
  rw [(complete_quiet ..).line, line_startContention, ended]
  split
  · rw [line_updLine_self, ended]
    exact ⟨rfl, rfl⟩
  · rw [ended]
    exact ⟨rfl, rfl⟩

end

/-! ### Gains and the re-arm -/

section
variable {s : State} {c : Caller} {req : Bytes}

/-- What lane.gain sets of a port's line: a lane's attenuation, its fixed gain, and whether it is fixed (R87). -/
def gainPut (req : Bytes) (l : PortLine) : PortLine :=
  { l with agcFixed := if rd req 3 1 = 1 then l.agcFixed ||| BitVec.ofNat 4 (2 ^ rd req 2 1)
             else l.agcFixed &&& ~~~(BitVec.ofNat 4 (2 ^ rd req 2 1)),
           fixedGain := l.fixedGain.set (rd req 2 1) (rdInt req 4 1), txAtten := l.txAtten.set (rd req 2 1) (rd req 5 1) }

/-- The lane is fixed as asked. -/
theorem bit_gainPut (lane : rd req 2 1 ≤ 3) (l : PortLine) :
    bit (gainPut req l).agcFixed.toNat (rd req 2 1) = (rd req 3 1 == 1) := by
  have lane : rd req 2 1 < 4 := by omega
  unfold gainPut
  split
  · rename_i fixed
    rw [bit_or_twoPow lane, fixed]
    rfl
  · rename_i automatic
    rw [bit_andNot_twoPow lane, beq_eq_false_iff_ne.mpr automatic]

theorem laneGainBody_sets (present : rd req 0 2 < s.part.ports) (lane : rd req 2 1 ≤ 3) (mode : rd req 3 1 ≤ 1)
    (atten : rd req 5 1 ≤ 63) (range : rd req 3 1 = 1 → -24 ≤ rdInt req 4 1 ∧ rdInt req 4 1 ≤ 72)
    (may : mayPort s c (rd req 0 2) = true) (opened : isOpen s (rd req 0 2) = true)
    (used : (port s (rd req 0 2)).line.mode = .single → rd req 2 1 ≠ 1 ∧ rd req 2 1 ≠ 2) :
    laneGainBody c req s =
      (updLine (rd req 0 2) (regain (gainPut req)) s, .done St.ok (statusResp St.ok)) := by
  have form : ¬ ((decide (rd req 0 2 ≥ s.part.ports) || decide (rd req 2 1 > 3) || decide (rd req 3 1 > 1) || decide (rd req 5 1 > 63)
      || (rd req 3 1 == 1 && (decide (rdInt req 4 1 < -24) || decide (rdInt req 4 1 > 72)))) = true) := by
    simp only [Bool.or_eq_true, Bool.and_eq_true, decide_eq_true_eq, beq_iff_eq]
    omega
  have lanes : ¬ ((decide ((port s (rd req 0 2)).line.mode = .single) && (decide (rd req 2 1 = 1) || decide (rd req 2 1 = 2))) = true) := by
    simp only [Bool.or_eq_true, Bool.and_eq_true, decide_eq_true_eq]
    rintro ⟨single, other⟩
    obtain ⟨notB, notC⟩ := used single
    omega
  unfold laneGainBody
  dsimp only
  rw [if_neg form, if_neg (by simp [may]), if_neg (by simp [opened]), if_neg lanes]
  rfl

/-- driver.rearm clears the latch and the history of faults, and turns the driver on (R75). -/
theorem driverRearmBody_rearms (present : rd req 0 2 < s.part.ports) (may : mayPort s c (rd req 0 2) = true)
    (high : c.io.drvfltLow = false) (latched : (port s (rd req 0 2)).line.latched = true) :
    driverRearmBody c req s = (updLine (rd req 0 2) (fun l =>
      { l with latched := false, driverOff := false, faultTimes := [], rearmTimes := [], drvfltLow := false }) s,
      .done St.ok (statusResp St.ok)) := by
  unfold driverRearmBody
  dsimp only
  rw [if_neg (Nat.not_le.mpr present), if_neg (by simp [may]), if_neg (by simp [high, latched])]
  rfl

end

end Sys2Proof.Machine
end

section
/-! The obligation of calibration and gains (O9), by its five rows. -/

namespace Sys2Proof

open Machine

/-- Settles O9: each row and command from what it does to its port. -/
theorem calibrationAndGain : Obligations.CalibrationAndGain := by
  refine ⟨?_, ?_, ?_, ?_, ?_⟩
  · intro s c req start form present may opened clock few
    exact runCmd_goesOn start form (by simp) (laneCalibrateBody_waits present may opened clock few)
  · intro s p c present waits tx awaiting rx due
    exact execCalibrationStart_runs present waits tx awaiting rx due
  · intro s p c r present runs
    exact execCalibrationComplete_applies present runs r
  · intro s c req start form present lane mode atten range may opened used
    obtain ⟨t, answered, ports⟩ := answers_ports c 0x0104 req St.ok (statusResp St.ok) (updLine (rd req 0 2) (regain (gainPut req)) s)
    obtain ⟨changed, put⟩ := regain_eq (gainPut req) (port s (rd req 0 2)).line
    have line : (port t (rd req 0 2)).line = { gainPut req (port s (rd req 0 2)).line with gainChanged := changed } := by
      rw [ports, line_updLine_self, put]
    refine ⟨t, .trans (runCmd_answers start form (by simp)
      (laneGainBody_sets present lane mode atten range may opened used)) answered, ?_, ?_, ?_, fun q other => ?_⟩
    · rw [line]
      rfl
    · rw [line]
      rfl
    · rw [line]
      exact bit_gainPut lane _
    · rw [ports, port_updLine_other other]
  · intro s c req start form present may high latched
    exact runCmd_answers start form (by simp) (driverRearmBody_rearms present may high latched)

end Sys2Proof
end

section
/-! How a port opens (R59, R84, R86, R538) and closes (R72, R87, R280). -/

namespace Sys2Proof.Machine

/-! ### Releases and failed seals leave every port's line side and medium access (R279, R280, R318) -/

theorem cphFault_quiet (p r : Nat) (st : Status) (s : State) : Quiet s (cphFault p r st s) := updCphRing_quiet ..

theorem flushRing_quiet (p r n : Nat) (s : State) : Quiet s (flushRing p r n s) := by
  induction n generalizing s with
  | zero => exact .refl s
  | succ n ih =>
    unfold flushRing
    split
    · exact .refl s
    · split
      · exact .refl s
      · exact .after ((updCphRing_quiet ..).trans ((cphRecord_quiet ..).trans (ih _))) rfl rfl rfl

theorem endJob_quiet (p r idx : Nat) (e : JobEnd) (s : State) : Quiet s (endJob p r idx e s) := .after (flushRing_quiet ..) rfl rfl rfl

theorem sealEnds_quiet (n : Nat) (f : Flight) (st : Status) (nonce : Bytes) (bytes : Nat) (s : State) :
    Quiet s (sealEnds n f st nonce bytes s) := by
  unfold sealEnds
  cases f.sealer with
  | none => exact .refl s
  | engine => exact .refl s
  | mailbox c => exact (complete_quiet ..).trans (.ite (mbxFault_quiet ..) (.refl _))
  | ring r tag raiseIt =>
    dsimp only
    split
    · exact .refl s
    · exact .trans (.ite (.refl s) (updCphRing_quiet ..)) ((endJob_quiet ..).trans (.ite (cphFault_quiet ..) (.refl _)))

theorem failSeal_quiet (n : Nat) (st : Status) (s : State) : Quiet s (failSeal n st s) :=
  .ite (.refl s) ((releaseFlight_quiet ..).trans (sealEnds_quiet ..))

theorem discardPort_quiet (p : Nat) (st : Status) (s : State) : Quiet s (discardPort p st s) :=
  .trans (.foldl (fun _ _ => .ite (retireFlight_quiet ..) (failSeal_quiet ..)) _ s) (.of_same rfl rfl rfl)

/-! ### Closing -/

/-- A port that closes is off the line, and beacons no more (R72, R87). -/
theorem shutPort_closes (p : Nat) (s : State) :
    (port (shutPort p s) p).line.mode = .closed ∧ (port (shutPort p s) p).line.txen = .released ∧
      (port (shutPort p s) p).mac.beaconing = false ∧ (port (shutPort p s) p).line.closing = none := by
  unfold shutPort
  extract_lets a b m settled suspended maps gone
  have told : Quiet settled (raisePort p 7 3 (clockOf gone p) 0 gone) :=
    (cancSuspend_quiet ..).trans (.after (raisePort_quiet ..) rfl rfl rfl)
  rw [told.line, told.mac]
  simp [settled, settleSettings, m, b, a]

section
variable {p : Nat} {s : State} {c : Caller} (closing : (port s p).line.closing = some c)
include closing

/-- Once nothing is on the line and no exchange runs, a port that is closing closes. -/
theorem closeWhenIdle_closes (tx : (port s p).mac.tx = none) (awaiting : (port s p).mac.awaiting = none) :
    isOpen (closeWhenIdle p s) p = false ∧ (port (closeWhenIdle p s) p).line.txen = .released ∧
      (port (closeWhenIdle p s) p).mac.beaconing = false ∧ (port (closeWhenIdle p s) p).line.closing = none := by
  obtain ⟨mode, txen, beaconing, none⟩ := shutPort_closes p s
  have shut : closeWhenIdle p s = completeStatus c St.ok (shutPort p s) := by
    unfold closeWhenIdle finishClose
    simp [tx, awaiting, closing]
  rw [shut, isOpen, port_of_calm (completeStatus_calm ..), mode]
  exact ⟨rfl, txen, beaconing, none⟩

end

theorem closeWhenIdle_busy {p : Nat} {s : State} (tx : (port s p).mac.tx.isSome = true) : closeWhenIdle p s = s := by
  have sending : (port s p).mac.tx.isNone = false := by rw [← Option.not_isSome, tx]; rfl
  unfold closeWhenIdle
  simp [sending]

theorem closeWhenIdle_open {p : Nat} {s : State} (h : (port s p).line.closing = none) : closeWhenIdle p s = s := by
  unfold closeWhenIdle finishClose
  simp [h]

/-- port.close notes that the port is closing, its frames discarded where it asks so (R87, R280). -/
theorem portCloseBody_holds {s : State} {c : Caller} {req : Bytes} (present : rd req 0 2 < s.part.ports) (flags : rd req 2 1 ≤ 1)
    (may : mayPort s c (rd req 0 2) = true) (opened : isOpen s (rd req 0 2) = true)
    (free : bit (rd req 2 1) 0 = true ∨ portTx s (rd req 0 2) = 0) :
    ∃ u, portCloseBody c req s = (updLine (rd req 0 2) (fun l => { l with closing := some c }) u, .held) ∧ Quiet s u := by
  have empty : ¬ ((!isOpen s (rd req 0 2) || (!bit (rd req 2 1) 0 && decide (portTx s (rd req 0 2) > 0))) = true) := by
    rcases free with discard | none
    · simp [opened, discard]
    · simp [opened, none]
  unfold portCloseBody
  dsimp only
  rw [if_neg (by simp; omega), if_neg (by simp [may]), if_neg empty]
  exact ⟨_, rfl, .ite (discardPort_quiet ..) (.refl s)⟩

theorem execPortClose_closing {s : State} {c : Caller} {req : Bytes} (start : mayStart s c 0x0102 [.port (rd req 0 2)] = true)
    (form : shaped req 8 [(3, 5)] = true) (present : rd req 0 2 < s.part.ports) (flags : rd req 2 1 ≤ 1)
    (may : mayPort s c (rd req 0 2) = true) (opened : isOpen s (rd req 0 2) = true)
    (free : bit (rd req 2 1) 0 = true ∨ portTx s (rd req 0 2) = 0) :
    ∃ u, execPortClose c req s = .next (closeWhenIdle (rd req 0 2) u) ∧
      (port u (rd req 0 2)).line = { (port s (rd req 0 2)).line with closing := some c } ∧
      (port u (rd req 0 2)).mac = (port s (rd req 0 2)).mac := by
  obtain ⟨u, body, quiet⟩ := portCloseBody_holds present flags may opened free
  unfold execPortClose
  rw [runCmd_holds start form (by simp) body]
  refine ⟨_, rfl, ?_⟩
  rw [port_of_calm (hold_calm ..), line_updLine_self, mac_updLine_self, quiet.line, quiet.mac]
  exact ⟨rfl, rfl⟩

/-! ### Opening -/

/-- port.open closes the loopback for its calibration (R69, R86). -/
theorem portOpenBody_calibrates {s : State} {c : Caller} {req : Bytes} (present : rd req 0 2 < s.part.ports) (ok : openOk req = true)
    (may : mayPort s c (rd req 0 2) = true) (closed : isOpen s (rd req 0 2) = false) (clock : allStopped s = false)
    (few : calibrations s < 32) (going : (port s (rd req 0 2)).line.stopped = false) :
    portOpenBody c req s = (loopback (rd req 0 2) (.opening c req) s, .held) := by
  unfold portOpenBody
  dsimp only
  rw [if_neg (by simp [ok, present]), if_neg (by simp [may]), if_neg (by simp [closed, clock]), if_neg (by simp [few, going])]

/-- A port's line but for what its driver and its listen gains change: TXEN, the listen gains, DRVFLT and its history. -/
def PortLine.steady (l : PortLine) : PortLine :=
  { l with txen := .low, listenGain := [], gainChanged := 0, drvfltLow := false, driverOff := false, faultTimes := [], latched := false }

/-- A port's medium access is as before, and so is its line but for its driver and its listen gains. -/
structure Steady (p : Nat) (s t : State) : Prop where
  line : (port t p).line.steady = (port s p).line.steady
  mac : (port t p).mac = (port s p).mac

namespace Steady

variable {p : Nat} {s t u : State}

theorem refl (p : Nat) (s : State) : Steady p s s := ⟨rfl, rfl⟩

theorem trans (a : Steady p s t) (b : Steady p t u) : Steady p s u := ⟨b.line.trans a.line, b.mac.trans a.mac⟩

theorem cal (h : Steady p s t) : (port t p).line.cal = (port s p).line.cal := (congrArg PortLine.cal h.line :)

theorem of_quiet (h : Quiet s t) : Steady p s t := ⟨by rw [h.line], h.mac p⟩

theorem of_updLine {f : PortLine → PortLine} (h : (f (port s p).line).steady = (port s p).line.steady) : Steady p s (updLine p f s) :=
  ⟨by rw [line_updLine_self, h], mac_updLine_self ..⟩

end Steady

/-- The history of the port's driver faults stays too. -/
structure Tuned (p : Nat) (s t : State) : Prop extends Steady p s t where
  latched : (port t p).line.latched = (port s p).line.latched
  times : (port t p).line.faultTimes = (port s p).line.faultTimes

namespace Tuned

variable {p : Nat} {s t u : State}

theorem refl (p : Nat) (s : State) : Tuned p s s := ⟨.refl p s, rfl, rfl⟩

theorem trans (a : Tuned p s t) (b : Tuned p t u) : Tuned p s u :=
  ⟨a.toSteady.trans b.toSteady, b.latched.trans a.latched, b.times.trans a.times⟩

theorem of_quiet (h : Quiet s t) : Tuned p s t := ⟨.of_quiet h, by rw [h.line], by rw [h.line]⟩

theorem of_updLine {f : PortLine → PortLine} (h : (f (port s p).line).steady = (port s p).line.steady)
    (latched : (f (port s p).line).latched = (port s p).line.latched)
    (times : (f (port s p).line).faultTimes = (port s p).line.faultTimes) : Tuned p s (updLine p f s) :=
  ⟨.of_updLine h, by rw [line_updLine_self, latched], by rw [line_updLine_self, times]⟩

theorem foldl {α : Type} {f : State → α → State} (h : ∀ s x, Tuned p s (f s x)) (l : List α) (s : State) : Tuned p s (l.foldl f s) := by
  induction l generalizing s with
  | nil => exact refl p s
  | cons x l ih => exact (h s x).trans (ih _)

end Tuned

theorem setTxen_tuned (p : Nat) (level : Txen) (s : State) : Tuned p s (setTxen p level s) := by
  unfold setTxen
  split
  · exact .refl p s
  · exact .trans (.of_updLine rfl rfl rfl) (.of_quiet (emit_quiet ..))

theorem listenBoundary_tuned (p : Nat) (s : State) : Tuned p s (listenBoundary p s) := by
  refine .foldl (fun u k => ?_) _ s
  split
  · exact .refl p u
  · exact .trans (t := (freshNat u).2) (.of_quiet (.of_same rfl rfl rfl)) (.of_updLine rfl rfl rfl)

theorem cancChange_quiet (v a : Nat) (st : CancState) (s : State) : Quiet s (cancChange v a st s) :=
  (raisePort_quiet ..).trans (.of_same rfl rfl rfl)

theorem cancRemove_quiet (p : Nat) (s : State) : Quiet s (cancRemove p s) :=
  .after (.foldl (fun _ _ => cancChange_quiet ..) _ _) rfl rfl rfl

theorem updMains_quiet (p : Nat) (f : Mains → Mains) (s : State) : Quiet s (updMains p f s) := updPort_quiet rfl rfl

/-- A port that has gone on line as a port.open's request and the result of its calibration ask, its beacons starting at a time, with
nothing on the line (R59, R66, R73, R84, R86, R226; that the first beacon is due at once is log 138). -/
structure Opened (req : Bytes) (r : CalResult) (at_ : Nat) (x : Port) : Prop where
  mode : x.line.mode = (openMode (rd req 2 1 == 1) (calPassOf r)).1
  plcLanes : x.line.plcLanes = BitVec.ofNat 4 (openMode (rd req 2 1 == 1) (calPassOf r)).2
  apertures : x.line.apertures = aperturesOf r
  fixedGain : x.line.fixedGain = gainsAt req 4
  leadNs : x.line.leadNs = rd req 12 2
  tailNs : x.line.tailNs = rd req 14 2
  closing : x.line.closing = none
  beaconing : x.mac.beaconing = true
  beaconAt : x.mac.beaconAt = at_
  tx : x.mac.tx = none

theorem Opened.of_steady {req : Bytes} {r : CalResult} {at_ p : Nat} {s t : State} (o : Opened req r at_ (port s p))
    (h : Steady p s t) : Opened req r at_ (port t p) where
  mode := (congrArg PortLine.mode h.line).trans o.mode
  plcLanes := (congrArg PortLine.plcLanes h.line).trans o.plcLanes
  apertures := (congrArg PortLine.apertures h.line).trans o.apertures
  fixedGain := (congrArg PortLine.fixedGain h.line).trans o.fixedGain
  leadNs := (congrArg PortLine.leadNs h.line).trans o.leadNs
  tailNs := (congrArg PortLine.tailNs h.line).trans o.tailNs
  closing := (congrArg PortLine.closing h.line).trans o.closing
  beaconing := (congrArg PortMac.beaconing h.mac).trans o.beaconing
  beaconAt := (congrArg PortMac.beaconAt h.mac).trans o.beaconAt
  tx := (congrArg PortMac.tx h.mac).trans o.tx

/-- A port opens three-phase or single-phase. -/
theorem openMode_open (single : Bool) (pass : Nat) : (openMode single pass).1 ≠ .closed := by
  unfold openMode
  split <;> simp

theorem Opened.isOpen {req : Bytes} {r : CalResult} {at_ p : Nat} {s : State} (o : Opened req r at_ (port s p)) :
    Machine.isOpen s p = true := by
  rw [Machine.isOpen, o.mode]
  exact bne_iff_ne.mpr (openMode_open _ _)

/-- The port goes on line: opened as asked, without a driver fault, its calibration as it was. -/
theorem openPort_opens (p : Nat) (req : Bytes) (r : CalResult) (s : State) :
    Opened req r s.now (port (openPort p req r s) p) ∧ (port (openPort p req r s) p).line.latched = false ∧
      (port (openPort p req r s) p).line.faultTimes = [] ∧ (port (openPort p req r s) p).line.cal = (port s p).line.cal := by
  unfold openPort
  extract_lets m old onLine beacons mains told listens
  have tuned : Tuned p beacons (if m.1 != old.lastMode || (port listens p).phy.guardAllowed.toNat != 2 ^ listens.canc.guardX then
      cancRemove p listens else listens) :=
    (Tuned.of_quiet (.trans (updMains_quiet ..) (.ite (raisePort_quiet ..) (.refl _)))).trans ((setTxen_tuned ..).trans
      ((listenBoundary_tuned ..).trans (.of_quiet (.ite (cancRemove_quiet ..) (.refl _)))))
  have opened : Opened req r s.now (port beacons p) := by
    constructor <;> simp [beacons, onLine, m]
  refine ⟨opened.of_steady tuned.toSteady, tuned.latched.trans ?_, tuned.times.trans ?_, tuned.cal.trans ?_⟩ <;>
    simp [beacons, onLine]

/-! ### A driver fault on a port with nothing on the line (R74, R75) -/

section
variable {p : Nat} {s : State} (tx : (port s p).mac.tx = none) (closing : (port s p).line.closing = none)
include tx closing

/-- It turns the driver off, and neither ends a transmission nor closes the port. -/
theorem driverFault_steady : Steady p s (driverFault p s) := by
  have low := setTxen_tuned p (txenIdle s) s
  have idle : closeWhenIdle p (breakTx p (lanesOf s p) (setTxen p (txenIdle s) s)) = setTxen p (txenIdle s) s := by
    have still : breakTx p (lanesOf s p) (setTxen p (txenIdle s) s) = setTxen p (txenIdle s) s := by
      unfold breakTx
      rw [low.mac, tx]
    rw [still, closeWhenIdle_open ((congrArg PortLine.closing low.line).trans closing)]
  unfold driverFault
  dsimp only
  rw [idle]
  exact low.toSteady.trans (.trans (.of_updLine rfl) (.of_quiet (.ite ((raisePort_quiet ..).trans (raisePort_quiet ..)) (raisePort_quiet ..))))

end

/-- The first fault of a port does not latch. -/
theorem driverFault_first {p : Nat} {s : State} (latched : (port s p).line.latched = false) (times : (port s p).line.faultTimes = []) :
    (port (driverFault p s) p).line.latched = false := by
  obtain ⟨-, -, -, latch⟩ := driverFault_line p s
  rw [latch, latched, recentFaults, times]
  rfl

/-- A port that has opened stays so through the DRVFLT found on it (R75). -/
theorem opened_driver {p at_ : Nat} {req : Bytes} {r : CalResult} {s : State} (opened : Opened req r at_ (port s p))
    (latched : (port s p).line.latched = false) (times : (port s p).line.faultTimes = []) (low : Bool) :
    let t := if low then driverFault p s else s
    Opened req r at_ (port t p) ∧ (port t p).line.latched = false ∧ (port t p).line.cal = (port s p).line.cal ∧
      (low = true → (port t p).line.driverOff = true) := by
  cases low with
  | false => exact ⟨opened, latched, rfl, nofun⟩
  | true =>
    have steady := driverFault_steady opened.tx opened.closing
    exact ⟨opened.of_steady steady, driverFault_first latched times, steady.cal, fun _ => (driverFault_line p s).1⟩

section
variable {s : State} {p : Nat} {c : Caller} {req : Bytes} (present : p < s.part.ports) (run : s.mgmt.fwState = .running)
include present run

section
variable (cal : (port s p).line.cal = .opening c req)
include cal

/-- Where lane A or D fails the command ends, the port closed (R86). -/
theorem execPortOpenCalibrationEnd_fails {r : CalResult} (failed : lanePassed r 0 = false ∨ lanePassed r 3 = false) :
    execPortOpenCalibrationEnd p r s = .next (complete c St.calFailed (openResp St.calFailed r) (loopbackEnds p s)) := by
  unfold execPortOpenCalibrationEnd
  rw [if_neg (Nat.not_le.mpr present), cal]
  dsimp only
  rw [if_neg (by simp [run]), if_pos (by simpa using failed)]

/-- Where they pass the port opens; a DRVFLT that is low turns the driver off (R75, R86). -/
theorem execPortOpenCalibrationEnd_opens {r : CalResult} (a : lanePassed r 0 = true) (d : lanePassed r 3 = true) :
    ∃ t, execPortOpenCalibrationEnd p r s = .next t ∧ Opened req r s.now (port t p) ∧ (port t p).line.latched = false ∧
      (port t p).line.cal = .none ∧ (c.io.drvfltLow = true → (port t p).line.driverOff = true) := by
  have ends := loopbackEnds_aside p s
  obtain ⟨opened, latched, times, ended⟩ := openPort_opens p req r (loopbackEnds p s)
  rw [ends.now] at opened
  rw [ends.port, line_updLine_self] at ended
  unfold execPortOpenCalibrationEnd
  rw [if_neg (Nat.not_le.mpr present), cal]
  dsimp only
  rw [if_neg (by simp [run]), if_neg (by simp [a, d])]
  have told : Tuned p (openPort p req r (loopbackEnds p s))
      (updLine p (fun l => { l with drvfltLow := c.io.drvfltLow }) (openPort p req r (loopbackEnds p s))) := .of_updLine rfl rfl rfl
  obtain ⟨still, sound, same, off⟩ := opened_driver (opened.of_steady told.toSteady) (told.latched.trans latched)
    (told.times.trans times) c.io.drvfltLow
  refine ⟨_, rfl, ?_⟩
  rw [port_of_calm (complete_calm ..)]
  exact ⟨still, sound, same.trans (told.cal.trans ended), off⟩

end

/-! ### The ports of the standby set (R538) -/

end

theorem isOpen_loopback (p : Nat) (cal : Cal) (s : State) (q : Nat) : isOpen (loopback p cal s) q = isOpen s q := by
  rw [isOpen, (loopback_aside p cal s).port]
  by_cases h : q = p
  · rw [h, line_updLine_self]
    rfl
  · rw [port_updLine_other h]
    rfl

/-- The next ports of the standby set start their calibrations: none of them opens by it, and no failure is told. -/
theorem startReopens_keeps (s : State) :
    (∀ q, isOpen (startReopens s) q = isOpen s q) ∧ (startReopens s).pwr.restoreFail = s.pwr.restoreFail := by
  have each (l : Table Bytes) (u : State) : (∀ q, isOpen (l.foldl (fun s e => loopback e.1 (.reopening e.2) s) u) q = isOpen u q) ∧
      (l.foldl (fun s e => loopback e.1 (.reopening e.2) s) u).pwr.restoreFail = u.pwr.restoreFail := by
    induction l generalizing u with
    | nil => exact ⟨fun _ => rfl, rfl⟩
    | cons e l ih =>
      obtain ⟨opens, told⟩ := ih (loopback e.1 (.reopening e.2) u)
      have power : (loopback e.1 (.reopening e.2) u).pwr = u.pwr := (loopback_aside e.1 (.reopening e.2) u).pwr
      simp only [List.foldl_cons]
      exact ⟨fun q => (opens q).trans (isOpen_loopback ..), told.trans (congrArg Power.restoreFail power)⟩
  exact each _ _

theorem execPortOpenCalibrationEnd_reopens {s : State} {p : Nat} {req : Bytes} (present : p < s.part.ports)
    (run : s.mgmt.fwState = .running) (cal : (port s p).line.cal = .reopening req) (r : CalResult) :
    ∃ t, execPortOpenCalibrationEnd p r s = .next t ∧ (lanePassed r 0 = true → lanePassed r 3 = true → isOpen t p = true) ∧
      ((lanePassed r 0 = false ∨ lanePassed r 3 = false) → t.pwr.restoreFail = true) := by
  unfold execPortOpenCalibrationEnd
  rw [if_neg (Nat.not_le.mpr present), cal]
  dsimp only
  rw [if_neg (by simp [run])]
  refine ⟨_, rfl, fun a d => ?_, fun failed => ?_⟩
  · obtain ⟨opened, latched, times, -⟩ := openPort_opens p req r (loopbackEnds p s)
    unfold reopenEnds
    rw [(startReopens_keeps _).1, if_pos (by simp [a, d])]
    exact (opened_driver opened latched times _).1.isOpen
  · unfold reopenEnds
    have bad : ¬ ((lanePassed r 0 && lanePassed r 3) = true) := by rcases failed with f | f <;> simp [f]
    rw [(startReopens_keeps _).2, if_neg bad]
    simp

end Sys2Proof.Machine
end

section
/-! The obligation of opening and closing a port (O8), by its four rows. -/

namespace Sys2Proof

open Machine

/-- Settles O8: port.open and the end of its calibration from how a port opens, port.close from how one closes. -/
theorem portOpensAndCloses : Obligations.PortOpensAndCloses := by
  refine ⟨?_, ?_, ?_, ?_⟩
  · intro s c req start form present ok may closed clock few going
    exact runCmd_goesOn start form (by simp) (portOpenBody_calibrates present ok may closed clock few going)
  · intro s p r c req present run cal
    refine ⟨fun a d => ?_, execPortOpenCalibrationEnd_fails present run cal⟩
    obtain ⟨t, next, opened, latched, ended, off⟩ := execPortOpenCalibrationEnd_opens present run cal a d
    exact ⟨t, next, opened.isOpen, opened.mode, opened.plcLanes, opened.apertures, opened.fixedGain, opened.leadNs, opened.tailNs, latched,
      ended, opened.beaconing, opened.beaconAt, off⟩
  · intro s p r req present run cal
    exact execPortOpenCalibrationEnd_reopens present run cal r
  · intro s c req start form present flags may opened free
    obtain ⟨u, next, line, mac⟩ := execPortClose_closing start form present flags may opened free
    have closing : (port u (rd req 0 2)).line.closing = some c := by rw [line]
    refine ⟨_, next, fun tx awaiting => closeWhenIdle_closes closing (by rw [mac, tx]) (by rw [mac, awaiting]), fun tx => ?_⟩
    rw [closeWhenIdle_busy (by rw [mac, tx])]
    exact ⟨by rw [isOpen, line]; exact opened, closing⟩

end Sys2Proof
end

section
/-! What the stop of a port, the end of its transmission and its release of frames leave: the synthesizers, and which ports stand still
(R77 to R81). -/

namespace Sys2Proof.Machine

/-- The synthesizers are as before, and so is which ports stand still for them. -/
structure Clocked (s t : State) : Prop where
  syn : t.syn = s.syn
  stopped : ∀ q, (port t q).line.stopped = (port s q).line.stopped

namespace Clocked

variable {s t u : State}

theorem refl (s : State) : Clocked s s := ⟨rfl, fun _ => rfl⟩

theorem trans (a : Clocked s t) (b : Clocked t u) : Clocked s u :=
  ⟨b.syn.trans a.syn, fun q => (b.stopped q).trans (a.stopped q)⟩

theorem of_aside (h : Aside s t) : Clocked s t := ⟨h.syn, fun q => by rw [h.port]⟩

theorem of_calm (h : t.calm = s.calm) : Clocked s t := .of_aside (.of_calm h)

theorem of_same (ports : t.ports = s.ports) (syn : t.syn = s.syn) : Clocked s t :=
  ⟨syn, fun q => by rw [port, ports, ← port]⟩

/-- A change of the state that leaves both, after one that is clocked. -/
theorem after (a : Clocked s t) (ports : u.ports = t.ports) (syn : u.syn = t.syn) : Clocked s u := a.trans (.of_same ports syn)

theorem ite {a b : State} {p : Prop} [Decidable p] (ha : Clocked s a) (hb : Clocked s b) : Clocked s (if p then a else b) := by
  split <;> assumption

theorem foldl {α : Type} {f : State → α → State} (h : ∀ s x, Clocked s (f s x)) (l : List α) (s : State) : Clocked s (l.foldl f s) := by
  induction l generalizing s with
  | nil => exact refl s
  | cons x l ih => exact (h s x).trans (ih _)

/-- An update of a port that leaves whether it stands still. -/
theorem of_updPort {p : Nat} {f : Port → Port} (h : (f (port s p)).line.stopped = (port s p).line.stopped) :
    Clocked s (updPort p f s) where
  syn := updPort_syn ..
  stopped q := by
    by_cases e : q = p
    · rw [e, port_updPort_self, h]
    · rw [port_updPort_other e]

end Clocked

/-! ### Frames, tags and records -/

theorem tagCheck_clocked (kind p ident idx : Nat) (s : State) : Clocked s (tagCheck kind p ident idx s) := .of_same rfl rfl

theorem tagEnd_clocked (kind p ident : Nat) (retired escalated : Bool) (attempts : Nat) (s : State) :
    Clocked s (tagEnd kind p ident retired escalated attempts s) := by
  unfold tagEnd
  split
  · exact .refl s
  · exact .of_calm (traceFeed_calm ..)

theorem endSymbolTags_clocked (kind p last : Nat) (s : State) : Clocked s (endSymbolTags kind p last s) :=
  .foldl (fun _ _ => (tagCheck_clocked ..).trans (tagEnd_clocked ..)) _ s

theorem countTx_clocked (p : Nat) (tx : Tx) (stop : Nat) (s : State) : Clocked s (countTx p tx stop s) :=
  .trans (.of_calm (bump_calm ..)) (.trans (.of_calm (bump_calm ..))
    (.trans (.foldl (fun _ _ => .of_calm (bump_calm ..)) _ _) (endSymbolTags_clocked ..)))

theorem updCphRing_clocked (p r : Nat) (f : CphRing → CphRing) (s : State) : Clocked s (updCphRing p r f s) := .of_same rfl rfl

theorem cphRecord_clocked (p r kind : Nat) (e : JobEnd) (tag : Nat) (raiseIt : Bool) (s : State) :
    Clocked s (cphRecord p r kind e tag raiseIt s) :=
  .ite (updCphRing_clocked ..) (.trans (.of_calm (hostWrite_calm ..))
    ((updCphRing_clocked ..).trans (.ite (.of_calm (sendMsix_calm ..)) (.refl _))))

theorem updFlight_clocked (n : Nat) (f : Flight → Flight) (s : State) : Clocked s (updFlight n f s) :=
  .ite (.of_same rfl rfl) (.refl s)

theorem updQueue_clocked (q : Nat) (f : Queue → Queue) (s : State) : Clocked s (updQueue q f s) := .of_same rfl rfl

theorem postOutcome_clocked (n : Nat) (f : Flight) (st : Status) (s : State) : Clocked s (postOutcome n f st s) := by
  unfold postOutcome
  split
  · exact .refl s
  · split
    · exact .refl s
    · exact .of_calm (notify_calm ..)
    · exact (updCphRing_clocked ..).trans (cphRecord_clocked ..)

theorem releaseFlight_clocked (n : Nat) (st : Status) (s : State) : Clocked s (releaseFlight n st s) :=
  .ite (.refl s) (.trans (t := { s with lbf.flights := tdel s.lbf.flights n }) (.of_same rfl rfl) ((updQueue_clocked ..).trans (.trans
    (.ite (.refl _) (.of_calm (count_calm ..))) ((tagCheck_clocked ..).trans ((tagEnd_clocked ..).trans (postOutcome_clocked ..))))))

theorem retireFlight_clocked (n : Nat) (st : Status) (s : State) : Clocked s (retireFlight n st s) :=
  .ite (updFlight_clocked ..) (releaseFlight_clocked ..)

theorem rewindQueue_clocked (p : Nat) (tx : Tx) (s : State) : Clocked s (rewindQueue p tx s) := by
  unfold rewindQueue
  split
  · exact .refl s
  · exact (updQueue_clocked ..).trans (.of_calm (count_calm ..))

theorem drawTag_clocked (k : Nat) (s : State) : Clocked s (drawTag k s).2 := .of_same rfl rfl

theorem tagStart_clocked (kind p ident pod_ : Nat) (s : State) : Clocked s (tagStart kind p ident pod_ s) := by
  unfold tagStart
  dsimp only
  split
  · exact .refl s
  · have drawn := drawTag_clocked (if kind ≤ 2 then (tagCfg s p).kf else (tagCfg s p).ks) s
    split
    · rename_i u draw
      rwa [draw] at drawn
    · rename_i u draw
      rw [draw] at drawn
      refine drawn.trans (.ite (.trans (.of_calm (bump_calm ..)) (.of_calm (count_calm ..))) ?_)
      exact .trans (.of_same rfl rfl) (.of_calm (bump_calm ..))

theorem cacheTouch_clocked (e : Nat) (s : State) : Clocked s (cacheTouch e s) := by
  refine .ite (.of_same rfl rfl) (.ite (.of_same rfl rfl) ?_)
  dsimp only
  split
  · exact .refl s
  · exact .of_same rfl rfl

theorem notePeaks_clocked (p : Nat) (s : State) : Clocked s (notePeaks p s) := by
  unfold notePeaks
  extract_lets n peak t
  have peak : Clocked s t := .of_same rfl rfl
  exact peak.trans (.of_updPort rfl)

theorem setFlight_clocked (n : Nat) (f : Flight) (s : State) : Clocked s (setFlight n f s) := .of_same rfl rfl

theorem admitFlight_clocked (n : Nat) (h : Held) (s : State) : Clocked s (admitFlight n h s) :=
  .trans (t := { s with lbf.count := s.lbf.count + 1 }) (.of_same rfl rfl) ((setFlight_clocked ..).trans
    ((notePeaks_clocked ..).trans (.trans (.of_calm (count_calm ..)) (.trans
      (.ite (.refl _) ((tagStart_clocked ..).trans (tagCheck_clocked ..))) (.ite (cacheTouch_clocked ..) (.refl _))))))

theorem enqueueFlight_clocked (n : Nat) (data : Bytes) (s : State) : Clocked s (enqueueFlight n data s) :=
  (setFlight_clocked ..).trans ((updQueue_clocked ..).trans ((tagCheck_clocked ..).trans (.ite (tagCheck_clocked ..) (.refl _))))

theorem admitVector_clocked (fn : Nat) (s : State) : Clocked s (admitVector fn s) :=
  .ite (.of_same rfl rfl) (.trans (.of_same rfl rfl) (.of_calm (sendMsix_calm ..)))

theorem updPodLbf_clocked (p : Nat) (f : PodLbf → PodLbf) (s : State) : Clocked s (updPodLbf p f s) := .of_same rfl rfl

theorem holdSubmission_clocked (h : Held) (cause : Nat) (s : State) : Clocked s (holdSubmission h cause s) :=
  .trans (t := { s with lbf.held := s.lbf.held ++ [{ h with cause := cause }] }) (.of_same rfl rfl)
    (.trans (.of_calm (count_calm ..)) (.ite (.refl _) ((updPodLbf_clocked ..).trans (.ite (admitVector_clocked ..) (.refl _)))))

theorem engineSend_clocked (p final : Nat) (msg : Bytes) (s : State) : Clocked s (engineSend p final msg s) := by
  unfold engineSend
  split
  · exact .refl s
  · dsimp only
    split
    · exact (admitFlight_clocked ..).trans (enqueueFlight_clocked ..)
    · exact holdSubmission_clocked ..

theorem updMap_clocked (p e dir m : Nat) (f : ToneMap → ToneMap) (s : State) : Clocked s (updMap p e dir m f s) := .of_same rfl rfl

theorem mapAckEnds_clocked (f : Flight) (h : Nat) (s : State) : Clocked s (mapAckEnds f h s) := .of_same rfl rfl

theorem invalidate_clocked (p e dir : Nat) (ids : List Nat) (s : State) : Clocked s (invalidate p e dir ids s) :=
  .foldl (fun s _ => .ite (updMap_clocked ..) (.refl s)) ids s

theorem mapAckLost_clocked (f : Flight) (h : Nat) (s : State) : Clocked s (mapAckLost f h s) := by
  unfold mapAckLost
  split
  · exact .refl s
  · exact .ite ((mapAckEnds_clocked ..).trans ((invalidate_clocked ..).trans (engineSend_clocked ..))) (.refl s)

theorem retireFrame_clocked (n : Nat) (st : Status) (s : State) : Clocked s (retireFrame n st s) := by
  refine (retireFlight_clocked n st s).trans ?_
  unfold retireFrame
  dsimp only
  split
  · exact .refl _
  · split
    · exact mapAckLost_clocked ..
    · exact .refl _

theorem leaveExchange_clocked (n : Nat) (s : State) : Clocked s (leaveExchange n s) := by
  unfold leaveExchange
  dsimp only
  split
  · exact .refl s
  · refine (updFlight_clocked ..).trans (.ite (releaseFlight_clocked ..) ?_)
    split
    · exact retireFrame_clocked ..
    · exact .refl _

theorem giveUp_clocked (p : Nat) (o : Option Tx) (s : State) : Clocked s (giveUp p o s) := by
  unfold giveUp
  split
  · exact .refl s
  · exact .ite (.refl s) ((rewindQueue_clocked ..).trans
      (.foldl (fun _ _ => (updFlight_clocked ..).trans (leaveExchange_clocked ..)) _ _))

/-! ### The canceller's pairs -/

theorem updPair_clocked (v a : Nat) (f : CancPair → CancPair) (s : State) : Clocked s (updPair v a f s) := by
  unfold updPair
  split
  · exact .of_same rfl rfl
  · exact .refl s

theorem setCanc_clocked (v a : Nat) (st : CancState) (s : State) : Clocked s (setCanc v a st s) := by
  unfold setCanc
  split
  · exact .refl s
  · exact (updPair_clocked ..).trans (.ite (.trans (.of_calm (raisePort_calm ..)) (.of_same rfl rfl)) (.refl _))

theorem cancSuspend_clocked (p cause : Nat) (s : State) : Clocked s (cancSuspend p cause s) :=
  .foldl (fun _ _ => (updPair_clocked ..).trans (.ite (updPair_clocked ..) (setCanc_clocked ..))) _ s

/-! ### A port's transmission and its close -/

theorem updMac_clocked (p : Nat) (f : PortMac → PortMac) (s : State) : Clocked s (updMac p f s) := .of_updPort rfl

theorem updLine_clocked {p : Nat} {f : PortLine → PortLine} {s : State}
    (h : (f (port s p).line).stopped = (port s p).line.stopped) : Clocked s (updLine p f s) := .of_updPort h

theorem setTxen_clocked (p : Nat) (level : Txen) (s : State) : Clocked s (setTxen p level s) :=
  .ite (.refl s) (.trans (updLine_clocked rfl) (.of_calm (emit_calm ..)))

theorem cutTx_clocked (p : Nat) (s : State) : Clocked s (cutTx p s) := by
  unfold cutTx
  split
  · exact (countTx_clocked ..).trans (updLine_clocked rfl)
  · exact .refl s

theorem abandonTx_clocked (p : Nat) (s : State) : Clocked s (abandonTx p s) := by
  obtain ⟨bc, e⟩ := abandonTx_eq p s
  rw [e]
  exact (cutTx_clocked ..).trans ((updMac_clocked ..).trans ((giveUp_clocked ..).trans (giveUp_clocked ..)))

theorem enterPeriod_clocked (p : Nat) (s : State) : Clocked s (enterPeriod p s) := by
  unfold enterPeriod
  split <;> exact updMac_clocked ..

theorem startContention_clocked (p start : Nat) (s : State) : Clocked s (startContention p start s) :=
  (updMac_clocked ..).trans (.ite (enterPeriod_clocked ..) (.refl _))

theorem midScale_clocked (lane to_ : Nat) (s : State) : Clocked s (midScale lane to_ s) := .ite (.refl s) (.of_calm (emit_calm ..))

theorem breakTx_clocked (p : Nat) (lanes : List Nat) (s : State) : Clocked s (breakTx p lanes s) := by
  unfold breakTx
  split
  · exact .refl s
  · exact .trans (.foldl (fun _ _ => midScale_clocked ..) lanes s) ((abandonTx_clocked ..).trans (startContention_clocked ..))

theorem settleSettings_clocked (p : Nat) (s : State) : Clocked s (settleSettings p s) := .of_updPort rfl

theorem shutPort_clocked (p : Nat) (s : State) : Clocked s (shutPort p s) := by
  unfold shutPort
  extract_lets raised closed quiet settled suspended maps gone
  have line : Clocked raised closed := updLine_clocked rfl
  have filtered : Clocked suspended gone := .of_same rfl rfl
  exact (setTxen_clocked ..).trans (line.trans ((updMac_clocked ..).trans ((settleSettings_clocked ..).trans
    ((cancSuspend_clocked ..).trans (filtered.trans (.of_calm (raisePort_calm ..)))))))

theorem closeWhenIdle_clocked (p : Nat) (s : State) : Clocked s (closeWhenIdle p s) := by
  refine .ite ?_ (.refl s)
  unfold finishClose
  split
  · exact .refl s
  · exact (shutPort_clocked ..).trans (.of_calm (completeStatus_calm ..))

theorem driverFault_clocked (p : Nat) (s : State) : Clocked s (driverFault p s) := by
  refine (setTxen_clocked p (txenIdle s) s).trans ((breakTx_clocked p (lanesOf s p) _).trans ((closeWhenIdle_clocked p _).trans ?_))
  refine .trans (updLine_clocked rfl) (.trans (.of_calm (raisePort_calm ..)) (.ite (.of_calm (raisePort_calm ..)) (.refl _)))

/-! ### The stop of a port and its return to work (R78, R79) -/

/-- A calibration that the stop of its port breaks off ends with the status of the stop. -/
def calStops (p : Nat) (st : Status) (s : State) : State :=
  match (port s p).line.cal with
  | .none => s
  | .opening c _ => completeStatus c st s
  | .reopening _ => raiseSys 23 1 0 0 { s with pwr.restoreFail := true }
  | .waitBeacon c => completeStatus c st s
  | .waitIdle c => completeStatus c st s
  | .running c => completeStatus c st s

theorem calStops_syn (p : Nat) (st : Status) (s : State) : (calStops p st s).syn = s.syn := by
  unfold calStops
  split <;> simp

theorem stopPort_syn (p : Nat) (st : Status) (s : State) : (stopPort p st s).syn = s.syn := by
  have raised (t : State) : Clocked t (if isOpen t p then setTxen p (txenIdle t) t else t) := .ite (setTxen_clocked ..) (.refl t)
  have ended (t : State) : (raisePort p 7 1 0 0 (closeWhenIdle p (cancSuspend p 0 t))).syn = t.syn :=
    ((cancSuspend_clocked p 0 t).trans ((closeWhenIdle_clocked ..).trans (.of_calm (raisePort_calm ..)))).syn
  calc (stopPort p st s).syn
    _ = (abandonTx p (if isOpen (calStops p st s) p then setTxen p (txenIdle (calStops p st s)) (calStops p st s)
          else calStops p st s)).syn := (ended _).trans (((tapsStop_aside ..).syn.trans (updLine_syn ..)).trans (updMac_syn ..))
    _ = s.syn := ((raised _).trans (abandonTx_clocked ..)).syn.trans (calStops_syn ..)

theorem sensingStops_aside (s : State) : Aside s (sensingStops s) := .foldl (fun _ _ => closeBlocks_aside ..) _ s

theorem roleFailing_syn (s : State) : (roleFailing s).syn = s.syn := by
  unfold roleFailing pairEvent heartbeat
  split <;> simp

theorem foldl_syn {α : Type} {f : State → α → State} (h : ∀ s x, (f s x).syn = s.syn) (l : List α) (s : State) :
    (l.foldl f s).syn = s.syn := by
  induction l generalizing s with
  | nil => rfl
  | cons x l ih => exact (ih _).trans (h s x)

/-- Of a move the synthesizers take the adoption and the owners of its ports (R78). -/
theorem startMove_syn (first last : Nat) (to_ : Synth) (caller : Option Caller) (s : State) :
    ∃ now lo hi, (startMove first last to_ caller s).syn =
      { s.syn with adoption := some ⟨first, last, to_, now, caller⟩, ownerLo := lo, ownerHi := hi } := by
  unfold startMove
  extract_lets stopped sensed k
  have kept : sensed.syn = s.syn := by
    have ports : stopped.syn = s.syn := foldl_syn (fun _ _ => stopPort_syn ..) _ s
    refine Eq.trans ?_ ports
    unfold sensed
    split
    · exact (sensingStops_aside _).syn
    · rfl
  exact ⟨_, _, _, congrArg (fun x : Synths =>
    { x with adoption := some ⟨first, last, to_, sensed.now, caller⟩, ownerLo := if first = 0 then k else sensed.syn.ownerLo,
             ownerHi := if last ≥ 64 then k else sensed.syn.ownerHi }) kept⟩

/-- Both have failed, and none clocks a port. -/
def Synths.halted (x : Synths) : Synths :=
  { x with adoption := none, ownerLo := 0, ownerHi := 0, aFailed := true, bFailed := true, aLock := false, bLock := false }

theorem stopAll_syn (s : State) : (stopAll s).syn = s.syn.halted := by
  unfold stopAll
  extract_lets running stopped told sensed synths halted
  have caller : told.syn = stopped.syn := by
    unfold told
    split <;> simp
  have kept : sensed.syn = s.syn :=
    (sensingStops_aside told).syn.trans (caller.trans (foldl_syn (fun _ _ => stopPort_syn ..) _ s))
  clear_value sensed
  rw [roleFailing_syn, raiseSys_syn, ← kept]
  rfl

theorem remeasure_clocked (p : Nat) (s : State) : Clocked s (remeasure p s) :=
  .foldl (fun s _ => .trans (t := (freshNat s).2) (.of_same rfl rfl) (updLine_clocked rfl)) _ s

theorem resumePort_clocked (p lost : Nat) (s : State) :
    Clocked (updLine p (fun l => { l with stopped := false, lateFault := false }) (remeasure p s)) (resumePort p lost s) :=
  .trans (.of_aside (.foldl (fun _ _ => chainGap_aside ..) _ _))
    (.trans (.of_calm (raisePort_calm ..)) (.ite (driverFault_clocked ..) (.refl _)))

theorem resumePort_syn (p lost : Nat) (s : State) : (resumePort p lost s).syn = s.syn :=
  (resumePort_clocked p lost s).syn.trans ((updLine_syn ..).trans (remeasure_clocked p s).syn)

/-- A port that returns runs. -/
theorem resumePort_runs (p lost : Nat) (s : State) : (port (resumePort p lost s) p).line.stopped = false := by
  rw [(resumePort_clocked p lost s).stopped, line_updLine_self]

/-- A port that runs goes on when another one returns. -/
theorem resumePort_goesOn {q : Nat} (p lost : Nat) {s : State} (h : (port s q).line.stopped = false) :
    (port (resumePort p lost s) q).line.stopped = false := by
  by_cases e : q = p
  · rw [e, resumePort_runs]
  · rw [(resumePort_clocked p lost s).stopped, port_updLine_other e, (remeasure_clocked p s).stopped, h]

theorem resumePorts_run {q lost : Nat} {l : List Nat} {s : State} (h : (port s q).line.stopped = false ∨ q ∈ l) :
    (port (l.foldl (fun s p => resumePort p lost s) s) q).line.stopped = false := by
  induction l generalizing s with
  | nil => simpa using h
  | cons p l ih =>
    refine ih ?_
    rcases h with runs | returns
    · exact .inl (resumePort_goesOn p lost runs)
    · rcases List.mem_cons.mp returns with rfl | later
      · exact .inl (resumePort_runs ..)
      · exact .inr later

theorem mem_portRange {first last p : Nat} : p ∈ portRange first last ↔ first ≤ p ∧ p ≤ last := by
  simp [portRange, and_comm]

theorem satAdd_toNat {w : Nat} (x : BitVec w) (k : Nat) : (satAdd x k).toNat = min (2 ^ w - 1) (x.toNat + k) := by
  unfold satAdd
  split
  · rw [BitVec.toNat_allOnes]
    omega
  · rw [BitVec.toNat_ofNat, Nat.mod_eq_of_lt (by omega)]
    omega

/-! ### The failure of a synthesizer (R78, R80) -/

/-- The synthesizers with one of them failed, its lock taken. -/
def Synths.withFailed (x : Synths) (since : Nat) : Synth → Synths
  | .a => { x with aFailed := true, aLock := false, aGoodSince := since }
  | .b => { x with bFailed := true, bLock := false, bGoodSince := since }

theorem markFailed_syn (y : Synth) (s : State) : ∃ since, (markFailed y s).syn = s.syn.withFailed since y := by
  cases y <;> exact ⟨_, rfl⟩

/-- The failure of a synthesizer does not change whose ports it clocks. -/
theorem synthPorts_markFailed (x y : Synth) (s : State) : synthPorts (markFailed x s) y = synthPorts s y := by
  cases x <;> rfl

def Synths.failed (x : Synths) : Synth → Bool
  | .a => x.aFailed
  | .b => x.bFailed

def Synths.locked (x : Synths) : Synth → Bool
  | .a => x.aLock
  | .b => x.bLock

def otherSynth : Synth → Synth
  | .a => .b
  | .b => .a

/-- With one synthesizer failed, whether both are is up to the other. -/
theorem allStopped_withFailed {s : State} {x : Synths} {since : Nat} {y : Synth} (h : s.syn = x.withFailed since y) :
    allStopped s = x.failed (otherSynth y) := by
  cases y <;> simp [allStopped, h, Synths.withFailed, Synths.failed, otherSynth]

theorem withFailed_self (x : Synths) (since : Nat) (y : Synth) :
    (x.withFailed since y).failed y = true ∧ (x.withFailed since y).locked y = false := by
  cases y <;> exact ⟨rfl, rfl⟩

theorem withFailed_other (x : Synths) (since : Nat) (y : Synth) :
    (x.withFailed since y).adoption = x.adoption ∧ (x.withFailed since y).failed (otherSynth y) = x.failed (otherSynth y) := by
  cases y <;> exact ⟨rfl, rfl⟩

/-- A move of ports changes neither which synthesizers have failed nor which are locked. -/
theorem moved_failed (x : Synths) (y : Synth) (m : Option Adoption) (lo hi : BitVec 2) :
    ({ x with adoption := m, ownerLo := lo, ownerHi := hi } : Synths).failed y = x.failed y ∧
      ({ x with adoption := m, ownerLo := lo, ownerHi := hi } : Synths).locked y = x.locked y := by
  cases y <;> exact ⟨rfl, rfl⟩

theorem halted_failed (x : Synths) (y : Synth) : x.halted.failed y = true ∧ x.halted.locked y = false := by
  cases y <;> exact ⟨rfl, rfl⟩

/-- The state in which the failure of a synthesizer has been noted and told. -/
def failureTold (y : Synth) (s : State) : State := raiseSys 5 1 (synthCode y) (rangeArg (synthPorts s y)) (markFailed y s)

theorem failureTold_syn (y : Synth) (s : State) : ∃ since, (failureTold y s).syn = s.syn.withFailed since y := by
  unfold failureTold
  rw [raiseSys_syn]
  exact markFailed_syn y s

section
variable {y : Synth} {s : State} {a b : Nat} (run : Running s) (sound : s.syn.failed y = false) (ports : synthPorts s y = some (a, b))
include run sound ports

/-- A failure that leaves no synthesizer, or comes while ports move, stops all ports; else the other one takes them. -/
theorem execSynthFailure_eq : execSynthFailure y s =
    .next (if s.syn.failed (otherSynth y) || s.syn.adoption.isSome then stopAll (failureTold y s)
      else startMove a b (otherSynth y) none (failureTold y s)) := by
  obtain ⟨since, syn⟩ := failureTold_syn y s
  have both : allStopped (failureTold y s) = s.syn.failed (otherSynth y) := allStopped_withFailed syn
  have moving : (failureTold y s).syn.adoption = s.syn.adoption := by rw [syn, (withFailed_other ..).1]
  have told : raiseSys 5 1 (synthCode y) (rangeArg (synthPorts (markFailed y s) y)) (markFailed y s) = failureTold y s := by
    rw [synthPorts_markFailed, failureTold]
  rw [← both, ← moving]
  cases y <;>
  · rw [Synths.failed] at sound
    unfold execSynthFailure
    dsimp only
    rw [told, synthPorts_markFailed, ports, if_neg (Bool.eq_false_iff.mp sound), if_neg (by simp [run]), if_neg (by simp [run])]
    split <;> rfl

/-- Where a synthesizer is left, it takes the ports of the one that failed; where none is, or while ports move, all ports stop. -/
theorem execSynthFailure_hands : ∃ t, execSynthFailure y s = .next t ∧ t.syn.failed y = true ∧ t.syn.locked y = false ∧
    (s.syn.failed (otherSynth y) = false → s.syn.adoption = none →
      t.syn.adoption.map (fun x => (x.first, x.last, x.owner)) = some (a, b, otherSynth y) ∧ t.syn.failed (otherSynth y) = false) ∧
    (s.syn.failed (otherSynth y) = true ∨ s.syn.adoption.isSome = true →
      t.syn.failed (otherSynth y) = true ∧ t.syn.ownerLo = 0 ∧ t.syn.ownerHi = 0 ∧ t.syn.adoption = none) := by
  obtain ⟨since, syn⟩ := failureTold_syn y s
  obtain ⟨failed, locked⟩ := withFailed_self s.syn since y
  refine ⟨_, execSynthFailure_eq run sound ports, ?_⟩
  split
  · rename_i halts
    rw [stopAll_syn]
    refine ⟨(halted_failed ..).1, (halted_failed ..).2, fun other still => ?_, fun _ => ⟨(halted_failed ..).1, rfl, rfl, rfl⟩⟩
    simp [other, still] at halts
  · rename_i moves
    obtain ⟨now, lo, hi, moved⟩ := startMove_syn a b (otherSynth y) none (failureTold y s)
    rw [moved, syn]
    refine ⟨(moved_failed ..).1.trans failed, (moved_failed ..).2.trans locked, fun other _ => ⟨rfl, ?_⟩, fun h => ?_⟩
    · rw [(moved_failed ..).1, (withFailed_other ..).2, other]
    · exact absurd (by simpa using h) moves

end

/-! ### The end of an adoption and a rebalance (R78, R79, R81) -/

theorem execSynthAdoptionComplete_returns {s : State} {a : Adoption} (lost : Nat) (h : s.syn.adoption = some a) :
    ∃ t, execSynthAdoptionComplete lost s = .next t ∧ t.syn.adoption = none ∧ t.syn.adoptCount = satAdd s.syn.adoptCount 1 ∧
      ∀ p, a.first ≤ p → p ≤ a.last → (port t p).line.stopped = false := by
  unfold execSynthAdoptionComplete
  rw [h]
  dsimp -zeta only
  extract_lets synths ended returned sensed arg synths' sound
  have runs : ∀ p, a.first ≤ p → p ≤ a.last → (port returned p).line.stopped = false := fun p lo hi =>
    resumePorts_run (.inr (mem_portRange.mpr ⟨lo, hi⟩))
  have syn : returned.syn = ended.syn := foldl_syn (fun _ _ => resumePort_syn ..) _ _
  have gaps : Aside returned sensed := .ite (.foldl (fun _ _ => chainGap_aside ..) _ _) (.refl _)
  have still : sensed.syn.adoption = none := by rw [gaps.syn, syn]; rfl
  have counted : sensed.syn.adoptCount = satAdd s.syn.adoptCount 1 := by rw [gaps.syn, syn]; rfl
  have run : ∀ p, a.first ≤ p → p ≤ a.last → (port sensed p).line.stopped = false := fun p lo hi => by
    rw [gaps.port, runs p lo hi]
  clear_value sensed
  split
  · exact ⟨_, rfl, by rw [raiseSys_syn, still], by rw [raiseSys_syn, counted],
      fun p lo hi => by rw [port_of_calm (raiseSys_calm ..), run p lo hi]⟩
  · have kept : sound.syn.adoption = sensed.syn.adoption ∧ sound.syn.adoptCount = sensed.syn.adoptCount ∧
        sound.ports = sensed.ports := by
      unfold sound
      split <;> exact ⟨rfl, rfl, rfl⟩
    obtain ⟨adoption, count, ports⟩ := kept
    refine ⟨_, rfl, ?_, ?_, fun p lo hi => ?_⟩
    · rw [completeStatus_syn, raiseSys_syn, adoption, still]
    · rw [completeStatus_syn, raiseSys_syn, count, counted]
    · rw [port_of_calm (completeStatus_calm ..), port_of_calm (raiseSys_calm ..), port, ports, ← port, run p lo hi]

theorem synthRebalanceBody_moves {s : State} {c : Caller} {a b : Nat} {y : Synth}
    (good : (match y with | .a => s.syn.aGoodSince | .b => s.syn.bGoodSince) + secs 1 ≤ s.now) (away : adopted s = some (a, b, y))
    (clocked : allStopped s = false) (still : s.syn.adoption = none) (sound : s.syn.refHold = false) :
    synthRebalanceBody c s = (startMove a b y (some c) s, .held) := by
  unfold synthRebalanceBody
  rw [away]
  dsimp only
  rw [if_neg]
  cases y <;> simp_all

end Sys2Proof.Machine
end

section
/-! The obligation of the synthesizers (R77 to R81). -/

namespace Sys2Proof

open Machine

/-- Settles O11: REF_HOLD comes and goes with the reference; a synthesizer's failure gives its ports to the one left, or stops them all;
the end of an adoption and a rebalance bring the ports back to work. -/
theorem synthesizersAdoptAndReturn : Obligations.SynthesizersAdoptAndReturn := by
  unfold Obligations.SynthesizersAdoptAndReturn
  refine ⟨fun s run held => ?_, fun s run held => ?_, fun s a b run sound ports => ?_, fun s a b run sound ports => ?_,
    fun s a lost h => ?_, fun s c req a b y start form pod0 away clocked still held good => ?_⟩
  · exact ⟨_, if_neg (by simp [run, held]), raiseSys_syn ..⟩
  · exact ⟨_, if_neg (by simp [run, held]), raiseSys_syn ..⟩
  · exact execSynthFailure_hands (y := .a) run sound ports
  · exact execSynthFailure_hands (y := .b) run sound ports
  · obtain ⟨t, step, none, count, run⟩ := execSynthAdoptionComplete_returns lost h
    exact ⟨t, step, none, count ▸ satAdd_toNat .., run⟩
  · exact runCmd_goesOn start form (fun _ => pod0) (synthRebalanceBody_moves good away clocked still held)

end Sys2Proof
end

section
/-! The stages of a lane chain from its sample to its output (R91 to R101): what the sample changes of the chain, and what the delivery of
its blocks (R103) leaves. -/

namespace Sys2Proof.Machine

/-! ### What an output is made of -/

/-- What a chain is set to: all of it but its positions and the offsets of its ring. -/
def Chain.settings (ch : Chain) : Chain := { ch with positions := [], ring := {} }

/-- What the stages of a position have made of its samples, and its latest output. -/
def Position.signal (ps : Position) : Position :=
  { fir := ps.fir, since := ps.since, acc := ps.acc, latest := ps.latest, latestAt := ps.latestAt }

section
variable {a b : Chain} (h : a.settings = b.settings)
include h

theorem cfg_of_settings : a.cfg = b.cfg := (congrArg Chain.cfg h :)

theorem halved_of_settings : a.halved = b.halved := (congrArg Chain.halved h :)

theorem banks_of_settings : a.bank0 = b.bank0 ∧ a.bank1 = b.bank1 :=
  ⟨(congrArg Chain.bank0 h :), (congrArg Chain.bank1 h :)⟩

theorem chainSample_of_settings (c p : Nat) (ps : Position) (v : Int) : chainSample c a p ps v = chainSample c b p ps v :=
  (congrArg (fun ch => chainSample c ch p ps v) h :)

theorem groupDelay_of_settings (p : Nat) : groupDelay a p = groupDelay b p := (congrArg (fun ch => groupDelay ch p) h :)

theorem primed_of_settings {p : Nat} {x y : Position} (since : x.since = y.since) : primed a p x = primed b p y := by
  have counted : primed b p x = primed b p y := by unfold primed; rw [since]
  exact (congrArg (fun ch => primed ch p x) h :).trans counted

end

@[simp] theorem chain_updChain_self (c : Nat) (f : Chain → Chain) (s : State) : chain (updChain c f s) c = f (chain s c) :=
  tget_tset_self ..

theorem chain_updChain_other {c d : Nat} (h : d ≠ c) (f : Chain → Chain) (s : State) : chain (updChain c f s) d = chain s d :=
  tget_tset_other _ _ _ h

@[simp] theorem position_updPosition_self (c p : Nat) (f : Position → Position) (s : State) :
    position (chain (updPosition c p f s) c) p = f (position (chain s c) p) := by
  rw [updPosition, chain_updChain_self, position, tget_tset_self]

@[simp] theorem settings_updPosition (c p : Nat) (f : Position → Position) (s : State) :
    (chain (updPosition c p f s) c).settings = (chain s c).settings := by
  rw [updPosition, chain_updChain_self]
  rfl

/-- The settings of a chain, the signal of one of its positions and every other chain are as before. -/
structure ChainKept (c p : Nat) (s t : State) : Prop where
  settings : (chain t c).settings = (chain s c).settings
  signal : (position (chain t c) p).signal = (position (chain s c) p).signal
  others : ∀ d, d ≠ c → chain t d = chain s d

namespace ChainKept

variable {c p : Nat} {s t u : State}

theorem refl (c p : Nat) (s : State) : ChainKept c p s s := ⟨rfl, rfl, fun _ _ => rfl⟩

theorem trans (a : ChainKept c p s t) (b : ChainKept c p t u) : ChainKept c p s u :=
  ⟨b.settings.trans a.settings, b.signal.trans a.signal, fun d h => (b.others d h).trans (a.others d h)⟩

theorem of_chains (h : t.chains = s.chains) : ChainKept c p s t := by
  have same (d : Nat) : chain t d = chain s d := by rw [chain, h, ← chain]
  exact ⟨by rw [same], by rw [same], fun d _ => same d⟩

theorem of_calm (h : t.calm = s.calm) : ChainKept c p s t := of_chains (congrArg Calm.chains h)

theorem ite {a b : State} {q : Prop} [Decidable q] (ha : ChainKept c p s a) (hb : ChainKept c p s b) :
    ChainKept c p s (if q then a else b) := by
  split <;> assumption

end ChainKept

section
variable (c p : Nat) (s : State)

theorem updPosition_kept {f : Position → Position} (h : (f (position (chain s c) p)).signal = (position (chain s c) p).signal) :
    ChainKept c p s (updPosition c p f s) :=
  ⟨settings_updPosition .., by rw [position_updPosition_self, h], fun _ other => chain_updChain_other other ..⟩

/-- A write of the offsets of the chain's ring. -/
theorem ringAt_kept (r : RingOff) : ChainKept c p s (updChain c (fun ch => { ch with ring := r }) s) :=
  ⟨by rw [chain_updChain_self]; rfl, by rw [chain_updChain_self]; rfl, fun _ other => chain_updChain_other other ..⟩

theorem blockDelivered_kept : ChainKept c p s (blockDelivered c p s) := updPosition_kept _ _ _ rfl

theorem blockDropped_kept : ChainKept c p s (blockDropped c p s) :=
  .trans (updPosition_kept _ _ _ rfl) (.ite (.of_calm (count_calm ..)) (.refl ..))

theorem deliverBlock_kept (b : Block) (consumer : Option Nat) : ChainKept c p s (deliverBlock c p b consumer s) := by
  have written (r : RingAt) (prod cons : Nat) (data : Bytes) (off : RingOff) :
      ChainKept c p s (updChain c (fun ch => { ch with ring := off }) (ringWrite r prod cons data consumer s).1) :=
    .trans (.of_calm (ringWrite_calm ..)) (ringAt_kept ..)
  unfold deliverBlock
  dsimp only
  split
  · exact blockDropped_kept ..
  · exact .ite (.trans (written ..) (blockDelivered_kept ..)) (.trans (written ..) (blockDropped_kept ..))
  · exact .ite ((blockDelivered_kept ..).trans (.of_chains rfl)) (blockDropped_kept ..)

theorem comparatorEvent_kept (i : Nat) (enter : Bool) (cause : Nat) (value : Int) (at_ : Word) (q : Nat) :
    ChainKept c p s (comparatorEvent c p i enter cause value at_ q s) := .of_calm (raiseRec_calm ..)

theorem setComparator_kept (i : Nat) (x : Comparator) : ChainKept c p s (setComparator c p i x s) := by
  refine updPosition_kept _ _ _ ?_
  split <;> rfl

theorem evaluate_kept (i : Nat) (y : Int) (at_ : Word) (q : Nat) : ChainKept c p s (evaluate c p i y at_ q s) := by
  refine .ite (.refl ..) (.trans (.ite (comparatorEvent_kept ..) (.refl ..)) (.ite (setComparator_kept ..) (.ite ?_ ?_)))
  · exact (setComparator_kept ..).trans (comparatorEvent_kept ..)
  · exact setComparator_kept ..

theorem appendOutput_kept (y : Int) (flags : Nat) (consumer : Option Nat) : ChainKept c p s (appendOutput c p y flags consumer s) := by
  unfold appendOutput
  split
  · exact .refl ..
  · exact .ite (.trans (updPosition_kept _ _ _ rfl) (deliverBlock_kept ..)) (updPosition_kept _ _ _ rfl)

/-- What follows an output: its comparators and its block. -/
theorem outputTold_kept (y z : Int) (at_ : Word) (q flags : Nat) (consumer : Option Nat) :
    ChainKept c p s (appendOutput c p z flags consumer (evaluate c p 1 y at_ q (evaluate c p 0 y at_ q s))) :=
  (evaluate_kept ..).trans ((evaluate_kept ..).trans (appendOutput_kept ..))

end

/-! ### The output of a group (R96, R98) -/

/-- What the corrected time and the tap rate of a lane chain rest on: the timebase, the state of power, the apertures and the profile of
its port, and the chain's settings. -/
structure TapKept (c : Nat) (s t : State) : Prop where
  settings : (chain t c).settings = (chain s c).settings
  tmb : t.tmb = s.tmb
  pwr : t.pwr = s.pwr
  apertures : (port t (c / 4)).line.apertures = (port s (c / 4)).line.apertures
  profile : (port t (c / 4)).line.profile = (port s (c / 4)).line.profile

theorem not_isPrecision_of_lane {c : Nat} (lane : isLaneChain c = true) : isPrecision c = false := by
  simp only [isLaneChain, decide_eq_true_eq] at lane
  simp only [isPrecision, decide_eq_false_iff_not]
  omega

namespace TapKept

variable {c : Nat} {s t u : State}

theorem refl (c : Nat) (s : State) : TapKept c s s := ⟨rfl, rfl, rfl, rfl, rfl⟩

theorem trans (a : TapKept c s t) (b : TapKept c t u) : TapKept c s u :=
  ⟨b.settings.trans a.settings, b.tmb.trans a.tmb, b.pwr.trans a.pwr, b.apertures.trans a.apertures, b.profile.trans a.profile⟩

theorem of_updPosition (p : Nat) (f : Position → Position) (s : State) : TapKept c s (updPosition c p f s) :=
  ⟨settings_updPosition .., rfl, rfl, rfl, rfl⟩

theorem tapHalved_eq (h : TapKept c s t) : tapHalved t c = tapHalved s c := by
  have profile : (tget (Port.init (c / 4)) t.ports (c / 4)).line.profile = (tget (Port.init (c / 4)) s.ports (c / 4)).line.profile :=
    h.profile
  unfold tapHalved
  rw [h.pwr, profile]

theorem correctedTime_eq (lane : isLaneChain c = true) (h : TapKept c s t) (p n : Nat) : correctedTime t c p n = correctedTime s c p n := by
  have aperture : apertureOf t c = apertureOf s c := by
    have apertures : (tget (Port.init (c / 4)) t.ports (c / 4)).line.apertures =
        (tget (Port.init (c / 4)) s.ports (c / 4)).line.apertures := h.apertures
    unfold apertureOf
    rw [apertures]
  unfold correctedTime
  dsimp only
  rw [not_isPrecision_of_lane lane, groupDelay_of_settings h.settings, halved_of_settings h.settings, aperture, h.tmb]
  rfl

end TapKept

section
variable {c : Nat} (lane : isLaneChain c = true) (p : Nat) (s : State)
include lane

/-- A lane chain has no linearisation stage (R97). -/
theorem linStage_lane (y : Int) (at_ : Word) : linStage s c p y at_ = (s, y, false, false) := by
  unfold linStage
  simp [lane]

theorem openBlock_kept (at_ : Word) : ChainKept c p s (openBlock c p at_ s) := by
  unfold openBlock
  dsimp only
  split
  · exact .refl ..
  · rw [if_pos lane]
    exact updPosition_kept _ _ _ rfl

/-- An emitted output is the accumulator, shifted, rounded and held to 32 bits, at the corrected time. -/
theorem chainEmit_outputs (n : Nat) (x : Int) (sat beyond tx gain : Bool) (consumer : Option Nat) :
    (chain (chainEmit c p n x sat beyond tx gain consumer s) c).settings = (chain s c).settings ∧
    (position (chain (chainEmit c p n x sat beyond tx gain consumer s) c) p).signal = { (position (chain s c) p).signal with
      latest := clampSigned 32 (roundEven x (chain s c).cfg.shift), latestAt := correctedTime s c p n } ∧
    ∀ d, d ≠ c → chain (chainEmit c p n x sat beyond tx gain consumer s) d = chain s d := by
  have opened := openBlock_kept lane p s (correctedTime s c p n)
  unfold chainEmit
  dsimp only
  rw [linStage_lane lane]
  dsimp only
  generalize openBlock c p (correctedTime s c p n) s = u at opened
  refine ⟨(outputTold_kept ..).settings.trans ((settings_updPosition ..).trans opened.settings), (outputTold_kept ..).signal.trans ?_,
    fun d other => ((outputTold_kept ..).others d other).trans ((chain_updChain_other other ..).trans (opened.others d other))⟩
  rw [position_updPosition_self, ← opened.signal]
  rfl

/-- The last sample of a group all of whose contributors follow the last gap gives its output (R96, R101). -/
theorem endGroup_outputs {n : Nat} (consumer : Option Nat) (last : (n + 1) % 2 ^ (chain s c).cfg.k = 0)
    (ready : primed (chain s c) p (position (chain s c) p) = true) (rate : (chain s c).halved = tapHalved s c) :
    (chain (endGroup c p n consumer s) c).settings = (chain s c).settings ∧
    (position (chain (endGroup c p n consumer s) c) p).signal = { (position (chain s c) p).signal with
      latest := clampSigned 32 (roundEven (position (chain s c) p).acc (chain s c).cfg.shift), latestAt := correctedTime s c p n } ∧
    ∀ d, d ≠ c → chain (endGroup c p n consumer s) d = chain s d := by
  unfold endGroup
  dsimp only
  rw [if_neg (by simp [last, ready, rate, lane])]
  obtain ⟨settings, signal, others⟩ := chainEmit_outputs lane p (updPosition c p (fun ps => { ps with sat := false }) s) n
    (position (chain s c) p).acc (position (chain s c) p).sat
    ((position (chain s c) p).overs.any (contributes (chain s c) p n))
    (txDuring s c ((n + 1 - (contrib (chain s c) p + groupSpan (chain s c))) * sampleTicks c (chain s c).halved)
      (n * sampleTicks c (chain s c).halved))
    ((position (chain s c) p).gains.any (contributes (chain s c) p n)) consumer
  refine ⟨settings.trans (settings_updPosition ..), signal.trans ?_,
    fun d other => (others d other).trans (chain_updChain_other other ..)⟩
  rw [position_updPosition_self, TapKept.correctedTime_eq lane (.of_updPosition ..), cfg_of_settings (settings_updPosition ..)]
  rfl

end

/-- Before its last sample, or while a contributor precedes the last gap, a group gives none. -/
theorem endGroup_goesOn {c p n : Nat} {s : State} (consumer : Option Nat)
    (h : (n + 1) % 2 ^ (chain s c).cfg.k ≠ 0 ∨ primed (chain s c) p (position (chain s c) p) = false) :
    endGroup c p n consumer s = s := by
  refine if_pos ?_
  rcases h with early | unprimed
  · simp [early]
  · simp [unprimed]

/-- A sample goes through the stages and joins the accumulator of its group (R94, R95). -/
theorem enterSample_signal (c p n : Nat) (v : Int) (beyond gain : Bool) (s : State) :
    let g := chainSample c (chain s c) p (position (chain s c) p) v
    (position (chain (enterSample c p n v beyond gain s) c) p).signal = { (position (chain s c) p).signal with
      fir := g.1.fir, since := (position (chain s c) p).since + 1,
      acc := if n % 2 ^ (chain s c).cfg.k = 0 ∨ (chain s c).cfg.average = false then g.2.1
        else (position (chain s c) p).acc + g.2.1 } := by
  intro g
  have acc : (if n % 2 ^ (chain s c).cfg.k = 0 then g.2.1 else if (chain s c).cfg.average then g.1.acc + g.2.1 else g.2.1) =
      if n % 2 ^ (chain s c).cfg.k = 0 ∨ (chain s c).cfg.average = false then g.2.1
        else (position (chain s c) p).acc + g.2.1 := by
    by_cases first : n % 2 ^ (chain s c).cfg.k = 0
    · simp [first]
    · cases sums : (chain s c).cfg.average <;> simp [first]
      rfl
  unfold enterSample
  dsimp only
  rw [position_updPosition_self, ← acc]
  rfl

theorem enterSample_kept (c p n : Nat) (v : Int) (beyond gain : Bool) (s : State) :
    TapKept c s (enterSample c p n v beyond gain s) ∧ ∀ d, d ≠ c → chain (enterSample c p n v beyond gain s) d = chain s d :=
  ⟨by unfold enterSample; exact .of_updPosition .., fun _ other => by unfold enterSample; exact chain_updChain_other other ..⟩

/-! ### The sample of a tap (R65, R68, R504) -/

/-- What comes before a sample's stages: the chain's configuration, positions and tap rate, every other chain, and what its input and its
corrected time rest on are as before. -/
structure Untaken (c p : Nat) (s t : State) : Prop where
  tap : TapKept c s t
  position : position (chain t c) p = position (chain s c) p
  line : (port t (c / 4)).line = (port s (c / 4)).line
  others : ∀ d, d ≠ c → chain t d = chain s d

namespace Untaken

variable {c p : Nat} {s t u : State}

theorem trans (a : Untaken c p s t) (b : Untaken c p t u) : Untaken c p s u :=
  ⟨a.tap.trans b.tap, b.position.trans a.position, b.line.trans a.line, fun d h => (b.others d h).trans (a.others d h)⟩

theorem ite {a b : State} {q : Prop} [Decidable q] (ha : Untaken c p s a) (hb : Untaken c p s b) :
    Untaken c p s (if q then a else b) := by
  split <;> assumption

theorem of_line (chains : t.chains = s.chains) (tmb : t.tmb = s.tmb) (pwr : t.pwr = s.pwr)
    (line : (port t (c / 4)).line = (port s (c / 4)).line) : Untaken c p s t := by
  have same (d : Nat) : chain t d = chain s d := by rw [chain, chains, ← chain]
  exact ⟨⟨by rw [same], tmb, pwr, by rw [line], by rw [line]⟩, by rw [same], line, fun d _ => same d⟩

theorem of_same (chains : t.chains = s.chains) (tmb : t.tmb = s.tmb) (pwr : t.pwr = s.pwr) (ports : t.ports = s.ports) :
    Untaken c p s t := of_line chains tmb pwr (by rw [port, ports, ← port])

theorem of_calm (h : t.calm = s.calm) : Untaken c p s t :=
  of_same (congrArg Calm.chains h) (congrArg Calm.tmb h) (congrArg Calm.pwr h) (congrArg Calm.ports h)

end Untaken

/-- With no block that waits there is none to deliver. -/
theorem deliverReady_untaken {c p : Nat} (consumer : Option Nat) {s : State} (h : (position (chain s c) p).ready = []) :
    Untaken c p s (deliverReady c p consumer s) := by
  unfold deliverReady
  dsimp only
  rw [h, List.foldl_nil]
  refine ⟨.of_updPosition .., ?_, rfl, fun _ other => chain_updChain_other other ..⟩
  rw [position_updPosition_self, ← h]

theorem takeRate_inForce {c p : Nat} {s : State} (h : (chain s c).halved = tapHalved s c) : takeRate c p s = s := by
  unfold takeRate
  simp [h]

theorem eraseRx_untaken (c p q from_ to_ : Nat) (s : State) : Untaken c p s (eraseRx q from_ to_ s) := by
  refine .of_line rfl rfl rfl ?_
  by_cases own : c / 4 = q
  · rw [own, eraseRx, line_updMac_self]
  · exact congrArg Port.line (port_updPort_other own ..)

/-- The counters of a lane's sample, high of its converter's codes over range, and the symbols that those erase. -/
def countSample (c n high : Nat) (s : State) : State :=
  let ticks := sampleTicks c (tapHalved s c)
  let counted := bump (1024 + 4 * c + 1) high (bump (1024 + 4 * c) 1 s)
  if high > 0 then eraseRx (c / 4) (n * ticks) ((n + 1) * ticks - 1) counted else counted

theorem countSample_untaken (c p n high : Nat) (s : State) : Untaken c p s (countSample c n high s) := by
  have counted : Untaken c p s (bump (1024 + 4 * c + 1) high (bump (1024 + 4 * c) 1 s)) :=
    .trans (.of_calm (bump_calm ..)) (.of_calm (bump_calm ..))
  exact .ite (counted.trans (eraseRx_untaken ..)) counted

/-- The change of gain that a sample takes with it: what its port is about to report is all that it changes. -/
theorem takeGainChange_kept (c : Nat) (s : State) :
    TapKept c s (takeGainChange c s).1 ∧ (takeGainChange c s).1.chains = s.chains := by
  unfold takeGainChange
  dsimp only
  split
  · exact ⟨.refl .., rfl⟩
  · split
    · exact ⟨⟨rfl, rfl, rfl, by rw [port, tget_tset_self, port], by rw [port, tget_tset_self, port]⟩, rfl⟩
    · exact ⟨.refl .., rfl⟩

theorem inputWord_lane {c : Nat} (lane : isLaneChain c = true) (p : Nat) (s : State) (x : TapSample) :
    (inputWord s c p x).1 = clampSigned 16 (tapSample (port s (c / 4)).line (c % 4) x) := by
  unfold inputWord
  rw [if_pos lane]

/-- A sample of a lane chain in a sound word goes through its stages and ends its group. -/
theorem takeSample_sound {c p n : Nat} (x : TapSample) (consumer : Option Nat) {s : State} (lane : isLaneChain c = true)
    (rate : (chain s c).halved = tapHalved s c) :
    ∃ u beyond gain, takeSample c p consumer s (n, x, 0) =
        endGroup c p n consumer (enterSample c p n (clampSigned 16 (tapSample (port s (c / 4)).line (c % 4) x)) beyond gain u) ∧
      TapKept c s u ∧ position (chain u c) p = position (chain s c) p ∧ ∀ d, d ≠ c → chain u d = chain s d := by
  have untaken := countSample_untaken c p n (overCodes x + 0) s
  obtain ⟨tap, chains⟩ := takeGainChange_kept c (countSample c n (overCodes x + 0) s)
  have same (d : Nat) : chain (takeGainChange c (countSample c n (overCodes x + 0) s)).1 d =
      chain (countSample c n (overCodes x + 0) s) d := by rw [chain, chains, ← chain]
  refine ⟨_, (inputWord (countSample c n (overCodes x + 0) s) c p x).2,
    (takeGainChange c (countSample c n (overCodes x + 0) s)).2, ?_, untaken.tap.trans tap,
    (congrArg (position · p) (same c)).trans untaken.position, fun d other => (same d).trans (untaken.others d other)⟩
  unfold takeSample
  dsimp only
  rw [takeRate_inForce rate, ite_self, if_pos lane, if_neg (by simp), ← untaken.line, ← inputWord_lane lane p]
  rfl

/-- The accumulator of a position once a sample's stages have given y: a group's first sample starts it, and so does each where the chain
does not average (R95). -/
def accumulated (ch : Chain) (ps : Position) (n : Nat) (y : Int) : Int :=
  if n % 2 ^ ch.cfg.k = 0 ∨ ch.cfg.average = false then y else ps.acc + y

/-- CHAIN_OUTPUT of one sample of a lane chain takes it through the stages and into the accumulator, and then ends its group. -/
theorem execChainOutput_enters {s : State} {c n : Nat} (x : TapSample) (consumer : Option Nat) (has : s.part.hasChain c = true)
    (lane : isLaneChain c = true) (runs : positionRuns s c 0 = true) (served : (position (chain s c) 0).ready = [])
    (rate : (chain s c).halved = tapHalved s c) :
    let ps := position (chain s c) 0
    let g := chainSample c (chain s c) 0 ps (clampSigned 16 (tapSample (port s (c / 4)).line (c % 4) x))
    ∃ w, execChainOutput c 0 n [x] [] consumer s = .next (endGroup c 0 n consumer w) ∧ TapKept c s w ∧
      (position (chain w c) 0).signal =
        { ps.signal with fir := g.1.fir, since := ps.since + 1, acc := accumulated (chain s c) ps n g.2.1 } ∧
      ∀ e, e ≠ c → chain w e = chain s e := by
  intro ps g
  let d := deliverReady c 0 consumer (advanceTo (n * sampleTicks c (tapHalved s c)) s)
  have delivered : Untaken c 0 s d := .trans (t := advanceTo (n * sampleTicks c (tapHalved s c)) s) (.of_same rfl rfl rfl rfl)
    (deliverReady_untaken consumer served)
  have step : execChainOutput c 0 n [x] [] consumer s = .next (takeSample c 0 consumer d (n, x, 0)) := by
    unfold execChainOutput
    simp [has, runs, not_isPrecision_of_lane lane, d]
  obtain ⟨u, beyond, gain, taken, tap, pos, others⟩ := takeSample_sound (p := 0) (n := n) x consumer (s := d) lane (by
    rw [halved_of_settings delivered.tap.settings, delivered.tap.tapHalved_eq, rate])
  rw [taken, delivered.line] at step
  have settings : (chain u c).settings = (chain s c).settings := tap.settings.trans delivered.tap.settings
  obtain ⟨kept, away⟩ := enterSample_kept c 0 n (clampSigned 16 (tapSample (port s (c / 4)).line (c % 4) x)) beyond gain u
  refine ⟨_, step, delivered.tap.trans (tap.trans kept), ?_, fun e other =>
    (away e other).trans ((others e other).trans (delivered.others e other))⟩
  have entered := enterSample_signal c 0 n (clampSigned 16 (tapSample (port s (c / 4)).line (c % 4) x)) beyond gain u
  rwa [pos.trans delivered.position, chainSample_of_settings settings, cfg_of_settings settings] at entered

end Sys2Proof.Machine
end

section
/-! The obligation of the lane chains' outputs (R88 to R101). -/

namespace Sys2Proof

open Machine

/-- Settles O28: a sample of a lane chain goes through the stages into its group's accumulator, and the last one of a group that is primed
gives the output. -/
theorem laneChainOutputs : Obligations.LaneChainOutputs := by
  unfold Obligations.LaneChainOutputs
  intro s c n x consumer has lane runs served rate ch ps g acc
  obtain ⟨w, step, tap, entered, others⟩ := execChainOutput_enters (n := n) x consumer has lane runs served rate
  have ready : primed (chain w c) 0 (position (chain w c) 0) = primed ch 0 g.1 :=
    primed_of_settings tap.settings (congrArg Position.since entered :)
  have cfg : (chain w c).cfg = ch.cfg := cfg_of_settings tap.settings
  have sum : (position (chain w c) 0).acc = acc := (congrArg Position.acc entered :)
  refine ⟨_, step, ?_⟩
  by_cases ends : (n + 1) % 2 ^ ch.cfg.k = 0 ∧ primed ch 0 g.1 = true
  · obtain ⟨last, prime⟩ := ends
    obtain ⟨settings, signal, kept⟩ := endGroup_outputs lane 0 w consumer (by rw [cfg, last]) (ready.trans prime)
      (by rw [halved_of_settings tap.settings, tap.tapHalved_eq, rate])
    rw [sum, cfg, tap.correctedTime_eq lane, entered] at signal
    obtain ⟨bank0, bank1⟩ := banks_of_settings (settings.trans tap.settings)
    refine ⟨fun _ _ => ⟨(congrArg Position.latest signal :), (congrArg Position.latestAt signal :)⟩, fun h => ?_,
      (congrArg Position.fir signal :), (congrArg Position.acc signal :), (congrArg Position.since signal :),
      (cfg_of_settings settings).trans cfg, bank0, bank1, fun e other => (kept e other).trans (others e other)⟩
    simp [last, prime] at h
  · have early : (n + 1) % 2 ^ ch.cfg.k ≠ 0 ∨ primed ch 0 g.1 = false := by
      rw [← Bool.not_eq_true, ← not_and_or]
      exact ends
    rw [endGroup_goesOn consumer (by rwa [cfg, ready])]
    obtain ⟨bank0, bank1⟩ := banks_of_settings tap.settings
    exact ⟨fun last prime => absurd ⟨last, prime⟩ ends, fun _ => (congrArg Position.latest entered :),
      (congrArg Position.fir entered :), sum, (congrArg Position.since entered :), cfg, bank0, bank1, others⟩

end Sys2Proof
end

section
/-! How a reception goes: its preamble (R62, R66), its frame control (R150, R213), its body (R140, R209, R224) and its acknowledgement
(R217). -/

namespace Sys2Proof.Machine

/-! ### What a reception notes of its symbols and its neighbour leaves every port's line side and medium access -/

theorem tagSymbols_quiet (kind p len : Nat) (n first : Nat) (s : State) : Quiet s (tagSymbols kind p first len n s) := by
  induction n generalizing first s with
  | zero => exact .refl s
  | succ n ih => exact (tagStart_quiet ..).trans (ih ..)

theorem heartbeat_quiet (on : Bool) (s : State) : Quiet s (heartbeat on s) := emit_quiet ..

theorem roleFailing_quiet (s : State) : Quiet s (roleFailing s) :=
  .ite (.after ((heartbeat_quiet ..).trans (raiseTrunk_quiet ..)) rfl rfl rfl) (.refl s)

theorem ddrError_quiet (s : State) : Quiet s (ddrError s) := by
  unfold ddrError
  split
  rename_i v u drawn
  have draw : Quiet s u := .of_snd drawn (.of_same rfl rfl rfl)
  exact .ite (draw.trans (.after (roleFailing_quiet _) rfl rfl rfl)) (draw.trans (.of_same rfl rfl rfl))

theorem mapReadFails_quiet (p h id dir : Nat) (s : State) : Quiet s (mapReadFails p h id dir s) :=
  .ite (.refl s) ((invalidate_quiet ..).trans ((ddrError_quiet ..).trans (raiseSys_quiet ..)))

theorem updLink_quiet (p e : Nat) (f : MapLink → MapLink) (s : State) : Quiet s (updLink p e f s) := .of_same rfl rfl rfl

theorem requestMaps_quiet (p e : Nat) (ids : List Nat) (exempt : Bool) (s : State) : Quiet s (requestMaps p e ids exempt s) :=
  updLink_quiet ..

theorem noteSyndrome_quiet (p e id : Nat) (s : State) (flag : Bool) : Quiet s (noteSyndrome p e id s flag) :=
  .ite ((updMap_quiet ..).trans (requestMaps_quiet ..)) (updMap_quiet ..)

theorem noteSyndromes_quiet (p e id : Nat) (flags : List Bool) (s : State) : Quiet s (noteSyndromes p e id flags s) :=
  (bump_quiet ..).trans (.ite (.refl _) (.foldl (fun _ _ => noteSyndrome_quiet ..) _ _))

theorem noteEstimates_quiet (p e at_ : Nat) (snr : List SnrObs) (s : State) : Quiet s (noteEstimates p e at_ snr s) :=
  .ite (.refl s) (updLink_quiet ..)

theorem updTopo_quiet (p : Nat) (f : Topo → Topo) (s : State) : Quiet s (updTopo p f s) := updPort_quiet rfl rfl

theorem reportDir_quiet (p src dst rate : Nat) (s : State) : Quiet s (reportDir p src dst rate s) := by
  unfold reportDir
  exact updTopo_quiet ..

theorem observe_quiet (p e at_ : Nat) (leek : Option Nat) (snr : List SnrObs) (s : State) : Quiet s (observe p e at_ leek snr s) := by
  have reported (u : State) : Quiet u (match ownRate u p e with
      | some r => reportDir p e devAddr r u
      | none => if (mapLink u p e).leekRate = 0 then u else reportDir p e devAddr (mapLink u p e).leekRate u) := by
    split
    · exact reportDir_quiet ..
    · exact .ite (.refl u) (reportDir_quiet ..)
  unfold observe
  dsimp only
  split
  · exact .refl s
  · refine (noteEstimates_quiet p e at_ snr s).trans (.trans ?_ (reported _))
    split
    · exact updLink_quiet ..
    · exact .refl _

theorem updNbr_quiet (p e : Nat) (f : Neighbour → Neighbour) (s : State) : Quiet s (updNbr p e f s) := .of_same rfl rfl rfl

theorem noteOffset_quiet (p e : Nat) (offset : Int) (s : State) : Quiet s (noteOffset p e offset s) :=
  .ite (.refl s) ((updNbr_quiet ..).trans (.ite (.refl _) ((updNbr_quiet ..).trans (engineSend_quiet ..))))

/-! ### A unit that is taken leaves them too (R224, R310) -/

theorem mirrorSend_quiet (r : MirrorRec) (s : State) : Quiet s (mirrorSend r s) := .ite (emit_quiet ..) (.refl s)

theorem mirrorSeq_quiet (p e cls : Nat) (s : State) : Quiet s (mirrorSeq p e cls s) := mirrorSend_quiet ..

theorem setReasm_quiet (n : Nat) (r : Reasm) (s : State) : Quiet s (setReasm n r s) := .of_same rfl rfl rfl

theorem takeReasm_quiet (r : Reasm) (s : State) : Quiet s (takeReasm r s).1 := by
  unfold takeReasm
  dsimp only
  split
  · exact .after ((setReasm_quiet ..).trans (notePeaks_quiet ..)) rfl rfl rfl
  · have overrun : Quiet s (updPort r.port (fun x => { x with rxOverrun := true }) s) := updPort_quiet rfl rfl
    exact overrun.trans (.after (raisePort_quiet ..) rfl rfl rfl)

/-- What the verification of a unit notes, it notes in the stream's check context. -/
theorem verifyUnit_quiet (ep : Nat) (data : Bytes) (poisoned : Bool) (s : State) : Quiet s (verifyUnit ep data poisoned s).2 := by
  unfold verifyUnit
  split
  · exact .refl s
  · dsimp only
    split
    · exact .of_same rfl rfl rfl
    · split
      · exact .of_same rfl rfl rfl
      · split
        · exact .of_same rfl rfl rfl
        · split <;> exact .of_same rfl rfl rfl

theorem releaseReasm_quiet (n : Nat) (s : State) : Quiet s (releaseReasm n s) := .of_same rfl rfl rfl

theorem dropReasm_quiet (n : Nat) (s : State) : Quiet s (dropReasm n s) := by
  unfold dropReasm
  split
  · exact (releaseReasm_quiet ..).trans (tagEnd_quiet ..)
  · exact .refl s

theorem reasmPoison_quiet (n : Nat) (r : Reasm) (s : State) : Quiet s (reasmPoison n r s) :=
  .ite (parityFail_quiet ..) ((parityFail_quiet ..).trans (ddrError_quiet ..))

theorem countSecurity_quiet (p src : Nat) (s : State) : Quiet s (countSecurity p src s) := .of_same rfl rfl rfl

theorem acceptData_quiet (p origin cls seq src : Nat) (payload : Bytes) (poisoned : Bool) (rx : Rx) (s : State) :
    Quiet s (acceptData p origin cls seq src payload poisoned rx s) := by
  unfold acceptData
  extract_lets e r
  have taken := takeReasm_quiet r s
  split
  · rename_i u full
    exact .of_fst full taken
  · rename_i u n held
    refine (Quiet.of_fst held taken).trans ?_
    extract_lets started t0 stamped told
    have checked : Quiet u told := (tagStart_quiet ..).trans (.after
      ((tagCheck_quiet ..).trans ((tagCheck_quiet ..).trans (tagCheck_quiet ..))) rfl rfl rfl)
    have verified := verifyUnit_quiet origin payload poisoned told
    refine checked.trans ?_
    split <;> rename_i v read <;> refine (Quiet.of_snd read verified).trans ?_
    · exact .refl _
    · exact (setReasm_quiet ..).trans (tagCheck_quiet ..)
    · exact dropReasm_quiet ..
    · exact .ite ((reasmPoison_quiet ..).trans ((dropReasm_quiet ..).trans (raisePort_quiet ..)))
        ((dropReasm_quiet ..).trans ((count_quiet ..).trans ((countSecurity_quiet ..).trans (raisePort_quiet ..))))

theorem acceptUnit_quiet (p : Nat) (f : Fc) (rx : Rx) (u : Bytes) (poisoned : Bool) (s : State) :
    Quiet s (acceptUnit p f rx u poisoned s) :=
  .ite (.refl s) ((updNbr_quiet ..).trans ((bump_quiet ..).trans ((bump_quiet ..).trans ((mirrorSeq_quiet ..).trans
    (.ite (.refl _) (acceptData_quiet ..))))))

/-! ### The preamble -/

/-- A lane's gain while a frame's gains are held. -/
theorem gainOf_held {l : PortLine} {gains : List Int} (h : l.frameGain = some gains) (k : Nat) : gainOf l k = gains.getD k 0 := by
  rw [gainOf, h]

theorem getD_map_range {n k : Nat} (f : Nat → Int) (h : k < n) : ((List.range n).map f).getD k 0 = f k := by
  simp [h]

theorem execPreambleDetect_opens {s : State} {p : Nat} (leek : Bool) (gains : List Int) (start : Nat) (present : p < s.part.ports)
    (hears : hears s p = true) :
    ∃ t, execPreambleDetect p leek ⟨start, gains⟩ s = .next t ∧
      (port t p).mac.rx.map (fun x => (x.startAt, x.leek, x.fc)) = some (max s.now start, leek, none) ∧ (port t p).mac.contend = .idle ∧
      (port t p).line.frameGain.isSome = true ∧
      ∀ k, k < 4 → gainOf (port t p).line k = if bit (port s p).line.agcFixed.toNat k then gainOf (port s p).line k
        else clampGain (gains.getD k (gainOf (port s p).line k)) := by
  unfold execPreambleDetect
  rw [if_neg (by omega), if_neg (by simp [hears])]
  refine ⟨_, rfl, ?_⟩
  rw [mac_updLine_self, mac_updMac_self, line_updLine_self]
  exact ⟨rfl, rfl, rfl, fun k small => (gainOf_held rfl k).trans (getD_map_range _ small)⟩

/-! ### The frame control -/

/-- What the check of a frame control reads: the tone maps, and the port's phy settings, mode and PLC lanes. -/
structure SameCheck (p : Nat) (s t : State) : Prop where
  tm : t.tm = s.tm
  phy : (port t p).phy = (port s p).phy
  mode : (port t p).line.mode = (port s p).line.mode
  lanes : (port t p).line.plcLanes = (port s p).line.plcLanes

namespace SameCheck

variable {p : Nat} {s t : State} (h : SameCheck p s t) (f : Fc)
include h

theorem rxMap_eq : rxMap t p f = rxMap s p f := by
  unfold rxMap getMap
  rw [h.tm]

theorem noMap_eq : noMap t p f = noMap s p f := by rw [noMap, noMap, h.rxMap_eq]

theorem malformed_eq : malformed t p f = malformed s p f := by
  have count : modeCount (port t p) = modeCount (port s p) := by rw [modeCount, modeCount, h.mode, h.lanes]
  have agrees : mapAgrees t p f = mapAgrees s p f := by rw [mapAgrees, mapAgrees, h.rxMap_eq]
  have symbols : symbolsOk t p f = symbolsOk s p f := by rw [symbolsOk, symbolsOk, h.rxMap_eq, h.phy]
  rw [malformed, malformed, count, agrees, symbols, h.noMap_eq]

end SameCheck

theorem port_busyUntil (p stop : Nat) (rx : Rx) (s : State) : port (busyUntil p rx stop s) p =
    { port s p with line := { (port s p).line with frameGainEnd := some (stop + us 2) } } := by
  rw [busyUntil, port_of_calm (bump_calm ..), updLine, port_updPort_self]

/-- The frame control as it is kept for what overlaps it changes nothing that its check reads. -/
theorem heard_sameCheck (p stop now : Nat) (rx : Rx) (heard : PortMac → PortMac) (s : State) :
    SameCheck p s (updMac p heard (busyUntil p rx stop (advanceTo now s))) := by
  refine ⟨?_, ?_, ?_, ?_⟩
  · exact (bump_tm ..).trans rfl
  all_goals rw [updMac, port_updPort_self, port_busyUntil]; rfl

/-- After a frame control that cannot be decoded, contention waits. -/
theorem holdOffAfter_mac (p stop : Nat) (s : State) :
    (port (holdOffAfter p stop s) p).mac.rx = none ∧ (port (holdOffAfter p stop s) p).mac.holdOff = some (stop + us 190) := by
  rw [holdOffAfter, mac_updMac_self]
  exact ⟨rfl, rfl⟩

section
variable {s : State} {p fc : Nat} {rx : Rx} (present : p < s.part.ports) (receives : (port s p).mac.rx = some rx) (fresh : rx.fc = none)
include present receives fresh

theorem execFrameControlReceived_fails (bad : fcValid fc = false) :
    ∃ t, execFrameControlReceived p fc s = .next t ∧ (port t p).mac.rx = none ∧
      (port t p).mac.holdOff = some (rx.startAt + ackLen rx.leek + us 190) := by
  unfold execFrameControlReceived
  rw [if_neg (by omega), receives]
  dsimp only
  rw [if_neg (by simp [fresh]), if_pos (by simp [bad])]
  exact ⟨_, rfl, holdOffAfter_mac ..⟩

theorem execFrameControlReceived_refuses (valid : fcValid fc = true) (bad : malformed s p (parseFc fc) || noMap s p (parseFc fc)) :
    ∃ t, execFrameControlReceived p fc s = .next t ∧ (port t p).mac.rx = none ∧
      (port t p).mac.holdOff = some (rx.startAt + impliedLen rx.leek (parseFc fc) + us 190) := by
  unfold execFrameControlReceived
  rw [if_neg (by omega), receives]
  dsimp only
  rw [if_neg (by simp [fresh]), if_neg (by simp [valid]), (heard_sameCheck ..).malformed_eq, (heard_sameCheck ..).noMap_eq, if_pos bad]
  exact ⟨_, rfl, holdOffAfter_mac ..⟩

theorem execFrameControlReceived_reads (valid : fcValid fc = true) (sound : malformed s p (parseFc fc) = false)
    (held : noMap s p (parseFc fc) = false) :
    ∃ t, execFrameControlReceived p fc s = .next t ∧ (port t p).mac.rx =
      if ((parseFc fc).kind ≤ 1 || (parseFc fc).kind == 4) && ((parseFc fc).rx == devAddr || (parseFc fc).rx == allAddr) then
        some { rx with fc := some fc, endAt := rx.startAt + impliedLen rx.leek (parseFc fc) }
      else none := by
  unfold execFrameControlReceived
  rw [if_neg (by omega), receives]
  dsimp only
  rw [if_neg (by simp [fresh]), if_neg (by simp [valid]), (heard_sameCheck ..).malformed_eq, (heard_sameCheck ..).noMap_eq,
    if_neg (by simp [sound, held])]
  split
  · exact ⟨_, rfl, by rw [mac_updMac_self]⟩
  · refine ⟨_, rfl, ?_⟩
    have noted (u v : State) (q : Prop) [Decidable q] (h : Quiet u v) : (port (if q then v else u) p).mac = (port u p).mac :=
      (Quiet.ite h (.refl u)).mac p
    rw [noted _ _ _ (observe_quiet ..), mac_updMac_self]

end

/-! ### The body -/

theorem allErased_none {rx : Rx} (h : rx.erased = []) (first len n : Nat) : allErased rx first len n = false := by
  unfold allErased
  cases n with
  | zero => rfl
  | succ n => simpa [h] using ⟨0, Nat.zero_le n⟩

/-- The end of a body leaves no reception; with its map read, an acknowledgement asked of the device is owed for the leading sound
units. -/
theorem execFrameBodyDecoded_ends {s : State} {p fc : Nat} {rx : Rx} (body : RxBody) (present : p < s.part.ports)
    (receives : (port s p).mac.rx = some rx) (control : rx.fc = some fc) :
    ∃ t, execFrameBodyDecoded p body s = .next t ∧ (port t p).mac.rx = none ∧ t.now = max s.now rx.endAt ∧
      let units := leadingUnits 0 (splitUnits (parseFc fc).units (body.data.take (parseFc fc).octets))
      ((parseFc fc).ackReq = true → (parseFc fc).rx = devAddr → body.mapFail = false → rx.erased = [] → units ≠ [] →
        (port t p).mac.ackDue.map (fun a => (a.due, a.dest, a.units)) =
          some (rx.endAt + us 60, (parseFc fc).tx, units.length)) := by
  unfold execFrameBodyDecoded
  rw [if_neg (by omega), receives]
  dsimp -zeta only
  rw [control]
  dsimp -zeta only
  extract_lets f ended off len tagged lost noted leek seen read ack owed units
  have told : Quiet ended tagged := (tagSymbols_quiet ..).trans (endSymbolTags_quiet ..)
  have endedMac : (port ended p).mac.rx = none := congrArg PortMac.rx (mac_updMac_self ..)
  split
  · rename_i fails
    have failed : Quiet ended (mapReadFails p f.tx f.mapId 0 tagged) := told.trans (mapReadFails_quiet ..)
    exact ⟨_, rfl, by rw [failed.mac, endedMac], failed.now, fun _ _ sound => by simp [sound] at fails⟩
  · have observed : Quiet ended seen :=
      told.trans ((noteSyndromes_quiet ..).trans (.ite ((observe_quiet ..).trans (noteOffset_quiet ..)) (.refl _)))
    have taken : Quiet owed (read.foldl (fun s u => acceptUnit p f rx u.2 (body.poison.contains u.1) s) owed) :=
      .foldl (fun _ _ => acceptUnit_quiet ..) _ _
    have owing : owed.now = seen.now ∧ (port owed p).mac.rx = (port seen p).mac.rx := by
      unfold owed
      split
      · exact ⟨rfl, by rw [mac_updMac_self]⟩
      · exact ⟨rfl, rfl⟩
    refine ⟨_, rfl, by rw [taken.mac, owing.2, observed.mac, endedMac], taken.now.trans (owing.1.trans observed.now),
      fun asked ours _ whole sound => ?_⟩
    have kept : lost = false := allErased_none whole ..
    have all : read = units := by
      unfold read
      rw [kept]
      rfl
    have due : (port owed p).mac.ackDue = some ack := by
      unfold owed
      rw [if_pos (by simp [f, asked, ours, all, sound]), mac_updMac_self]
    rw [taken.mac, due, ← all]
    rfl

/-! ### The acknowledgement -/

/-- A transmission that starts is on the line; the time and an acknowledgement that is owed stay. -/
theorem startTx_sends (p : Nat) (tx : Tx) (s : State) : (port (startTx p tx s) p).mac.tx = some tx ∧
    (port (startTx p tx s) p).mac.ackDue = (port s p).mac.ackDue ∧ (startTx p tx s).now = s.now := by
  have tagged := tagSymbols_quiet 3 p tx.symLen tx.symbols (tx.startAt + tx.bodyOff)
  have raised : (port (setTxen p .high s) p).mac = (port s p).mac := (setTxen_tuned p .high s).mac
  unfold startTx
  dsimp only
  rw [(tagged _).mac, (tagged _).now, (emit_quiet ..).mac, mac_updLine_self, mac_updMac_self, raised]
  exact ⟨rfl, rfl, setTxen_now ..⟩

theorem mayTransmit_ackTaken (s : State) (p due : Nat) :
    mayTransmit (updMac p (fun m => { m with ackDue := none }) (advanceTo due s)) p = mayTransmit s p := by
  unfold mayTransmit isOpen
  rw [line_updMac_self]
  rfl

theorem execAckTransmit_sends {s : State} {p : Nat} {a : AckDue} (present : p < s.part.ports) (owed : (port s p).mac.ackDue = some a) :
    ∃ t, execAckTransmit p s = .next t ∧ (port t p).mac.ackDue = none ∧ t.now = max s.now a.due ∧
      (mayTransmit s p = true → (port s p).mac.tx = none →
        (port t p).mac.tx.map (fun x => (x.kind, x.dest, x.startAt)) = some (3, a.dest, a.due)) ∧
      (mayTransmit s p = false → (port t p).mac.tx = (port s p).mac.tx) := by
  unfold execAckTransmit
  rw [if_neg (by omega), owed]
  dsimp only
  rw [mayTransmit_ackTaken, mac_updMac_self]
  split
  · rename_i kept
    refine ⟨_, rfl, by rw [mac_updMac_self], rfl, fun may idle => ?_, fun _ => by rw [mac_updMac_self]; rfl⟩
    change (!mayTransmit s p || (port s p).mac.tx.isSome) = true at kept
    simp [may, idle] at kept
  · rename_i sends
    obtain ⟨_, due, now⟩ := startTx_sends p _ _
    refine ⟨_, rfl, due.trans ?_, now, fun _ _ => by rw [(startTx_sends ..).1]; rfl, fun stays => ?_⟩
    · exact congrArg PortMac.ackDue (mac_updMac_self p (fun m => { m with ackDue := none }) (advanceTo a.due s))
    · simp [stays] at sends

end Sys2Proof.Machine
end

section
/-! The obligation of the frames received (R62, R66, R130, R150, R209, R213, R217, R224). -/

namespace Sys2Proof

open Machine

/-- Settles O14: a preamble opens a reception, its frame control ends it or waits for the body, the body's end owes the acknowledgement,
and the acknowledgement goes out. -/
theorem receivedFrames : Obligations.ReceivedFrames := by
  unfold Obligations.ReceivedFrames
  refine ⟨fun s p start leek gains present hears => execPreambleDetect_opens leek gains start present hears,
    fun s p fc rx present receives fresh => ⟨execFrameControlReceived_fails present receives fresh,
      execFrameControlReceived_refuses present receives fresh, fun valid sound held => ?_⟩,
    fun s p fc rx body present receives control => execFrameBodyDecoded_ends body present receives control,
    fun s p a present owed => execAckTransmit_sends present owed⟩
  obtain ⟨t, step, rest⟩ := execFrameControlReceived_reads present receives fresh valid sound held
  refine ⟨t, step, fun mine => ?_, fun other => ?_⟩
  · rw [rest, if_pos (by simpa using mine)]
  · rw [rest, if_neg]
    simp only [Bool.and_eq_true, Bool.or_eq_true, decide_eq_true_eq, beq_iff_eq]
    rintro ⟨kind, to_⟩
    omega

end Sys2Proof
end

section
/-! The chain commands and the exchange of a chain's banks (R110 to R114): what a command leaves of the chain it names and of the others. -/

namespace Sys2Proof.Machine

/-! ### Settings and blocks that stay -/

/-- The settings of a chain and every other chain are as before. -/
structure SettingsKept (c : Nat) (s t : State) : Prop where
  settings : (chain t c).settings = (chain s c).settings
  others : ∀ d, d ≠ c → chain t d = chain s d

namespace SettingsKept

variable {c : Nat} {s t u : State}

theorem refl (c : Nat) (s : State) : SettingsKept c s s := ⟨rfl, fun _ _ => rfl⟩

theorem trans (a : SettingsKept c s t) (b : SettingsKept c t u) : SettingsKept c s u :=
  ⟨b.settings.trans a.settings, fun d h => (b.others d h).trans (a.others d h)⟩

theorem of_kept {p : Nat} (h : ChainKept c p s t) : SettingsKept c s t := ⟨h.settings, h.others⟩

theorem of_chains (h : t.chains = s.chains) : SettingsKept c s t := of_kept (ChainKept.of_chains (p := 0) h)

theorem of_updPosition (c p : Nat) (f : Position → Position) (s : State) : SettingsKept c s (updPosition c p f s) :=
  ⟨settings_updPosition .., fun _ other => chain_updChain_other other ..⟩

theorem ite {a b : State} {q : Prop} [Decidable q] (ha : SettingsKept c s a) (hb : SettingsKept c s b) :
    SettingsKept c s (if q then a else b) := by
  split <;> assumption

theorem foldl {α : Type} {f : State → α → State} (h : ∀ s x, SettingsKept c s (f s x)) (l : List α) (s : State) :
    SettingsKept c s (l.foldl f s) := by
  induction l generalizing s with
  | nil => exact refl c s
  | cons x l ih => exact (h s x).trans (ih _)

end SettingsKept

/-- The block that a position of a chain fills. -/
def blockAt (s : State) (c p : Nat) : Option Block := (position (chain s c) p).block

theorem blockAt_of_chains {s t : State} (h : t.chains = s.chains) (c p : Nat) : blockAt t c p = blockAt s c p := by
  rw [blockAt, chain, h, ← chain, blockAt]

theorem blockAt_updPosition_self (c p : Nat) (f : Position → Position) (s : State) :
    blockAt (updPosition c p f s) c p = (f (position (chain s c) p)).block :=
  congrArg Position.block (position_updPosition_self ..)

theorem blockAt_updPosition_other {p q : Nat} (h : q ≠ p) (c : Nat) (f : Position → Position) (s : State) :
    blockAt (updPosition c p f s) c q = blockAt s c q := by
  rw [blockAt, updPosition, chain_updChain_self, position, tget_tset_other _ _ _ h, ← position, blockAt]

/-- Every position of a chain still fills the block it filled. -/
structure BlocksKept (c : Nat) (s t : State) : Prop where
  blocks : ∀ p, blockAt t c p = blockAt s c p

namespace BlocksKept

variable {c : Nat} {s t u : State}

theorem refl (c : Nat) (s : State) : BlocksKept c s s := ⟨fun _ => rfl⟩

theorem trans (a : BlocksKept c s t) (b : BlocksKept c t u) : BlocksKept c s u := ⟨fun p => (b.blocks p).trans (a.blocks p)⟩

theorem of_chains (h : t.chains = s.chains) : BlocksKept c s t := ⟨blockAt_of_chains h c⟩

theorem of_calm (h : t.calm = s.calm) : BlocksKept c s t := of_chains (congrArg Calm.chains h)

theorem of_updPosition {p : Nat} {f : Position → Position} (h : (f (position (chain s c) p)).block = (position (chain s c) p).block) :
    BlocksKept c s (updPosition c p f s) := ⟨fun q => by
  by_cases same : q = p
  · rw [same, blockAt_updPosition_self, h, blockAt]
  · rw [blockAt_updPosition_other same]⟩

theorem ite {a b : State} {q : Prop} [Decidable q] (ha : BlocksKept c s a) (hb : BlocksKept c s b) :
    BlocksKept c s (if q then a else b) := by
  split <;> assumption

theorem foldl {α : Type} {f : State → α → State} (h : ∀ s x, BlocksKept c s (f s x)) (l : List α) (s : State) :
    BlocksKept c s (l.foldl f s) := by
  induction l generalizing s with
  | nil => exact refl c s
  | cons x l ih => exact (h s x).trans (ih _)

end BlocksKept

/-! ### Delivery and closing (R103, R106) -/

section
variable (c p : Nat) (s : State)

theorem blockDelivered_blocks : BlocksKept c s (blockDelivered c p s) := .of_updPosition rfl

theorem blockDropped_blocks : BlocksKept c s (blockDropped c p s) :=
  .trans (.of_updPosition rfl) (.ite (.of_calm (count_calm ..)) (.refl ..))

/-- The delivery of a closed block leaves the blocks being filled. -/
theorem deliverBlock_blocks (b : Block) (consumer : Option Nat) : BlocksKept c s (deliverBlock c p b consumer s) := by
  have written (r : RingAt) (prod cons : Nat) (data : Bytes) (off : RingOff) :
      BlocksKept c s (updChain c (fun ch => { ch with ring := off }) (ringWrite r prod cons data consumer s).1) :=
    .trans (.of_calm (ringWrite_calm ..)) ⟨fun q => by rw [blockAt, chain_updChain_self]; rfl⟩
  unfold deliverBlock
  dsimp only
  split
  · exact blockDropped_blocks ..
  · exact .ite (.trans (written ..) (blockDelivered_blocks ..)) (.trans (written ..) (blockDropped_blocks ..))
  · exact .ite ((blockDelivered_blocks ..).trans (.of_chains rfl)) (blockDropped_blocks ..)

theorem deliverReady_blocks (consumer : Option Nat) : BlocksKept c s (deliverReady c p consumer s) :=
  .trans (.of_updPosition rfl) (.foldl (fun _ _ => deliverBlock_blocks ..) _ _)

theorem deliverReady_settings (consumer : Option Nat) : SettingsKept c s (deliverReady c p consumer s) :=
  .trans (.of_updPosition ..) (.foldl (fun _ _ => .of_kept (deliverBlock_kept ..)) _ _)

theorem closeBlock_settings : SettingsKept c s (closeBlock c p s) := by
  unfold closeBlock
  split
  · exact .refl ..
  · exact .ite (.of_updPosition ..) (.trans (.of_updPosition ..) (deliverReady_settings ..))

theorem closeBlocks_settings : SettingsKept c s (closeBlocks c s) := .foldl (fun _ _ => closeBlock_settings ..) _ s

/-- A closed block is filled no more, and every other position goes on with its own. -/
theorem blockAt_closeBlock (q : Nat) : blockAt (closeBlock c p s) c q = if q = p then none else blockAt s c q := by
  have taken (b : Block) : blockAt (updPosition c p (fun ps => { ps with block := none, ready := ps.ready ++ [b] }) s) c q =
      if q = p then none else blockAt s c q := by
    split
    · rename_i same
      rw [same, blockAt_updPosition_self]
    · rename_i other
      rw [blockAt_updPosition_other other]
  unfold closeBlock
  split
  · rename_i idle
    split
    · rename_i same
      rw [same, blockAt, idle]
    · rfl
  · rename_i b _
    dsimp only
    split
    · exact taken b
    · exact ((deliverReady_blocks ..).blocks q).trans (taken b)

/-- Closing the blocks of a list of positions closes theirs. -/
theorem blockAt_closeEach {q : Nat} {l : List Nat} (h : q ∈ l ∨ blockAt s c q = none) :
    blockAt (l.foldl (fun s p => closeBlock c p s) s) c q = none := by
  induction l generalizing s with
  | nil => exact h.resolve_left (List.not_mem_nil)
  | cons p l ih =>
    refine ih _ ?_
    rw [blockAt_closeBlock]
    rcases h with listed | idle
    · rcases List.mem_cons.mp listed with first | later
      · exact .inr (if_pos first)
      · exact .inl later
    · exact .inr (by rw [idle, ite_self])

/-- The default stands where a table lists nothing. -/
theorem tget_of_not_listed {α : Type} (d : α) {t : Table α} {i : Nat} (h : i ∉ t.map (·.1)) : tget d t i = d := by
  induction t with
  | nil => rfl
  | cons e t ih =>
    obtain ⟨first, rest⟩ := List.ne_and_not_mem_of_not_mem_cons h
    exact (if_neg (Ne.symm first)).trans (ih rest)

/-- No position of a chain fills a block once the chain's blocks are closed. -/
theorem blockAt_closeBlocks (q : Nat) : blockAt (closeBlocks c s) c q = none := by
  refine blockAt_closeEach c s ?_
  by_cases listed : q ∈ positionsOf s c
  · exact .inl listed
  · exact .inr (congrArg Position.block (tget_of_not_listed ({} : Position) listed))

/-! ### The restart (R102, R114) -/

theorem setComparator_settings (i : Nat) (x : Comparator) : SettingsKept c s (setComparator c p i x s) := .of_updPosition ..

theorem restartComparators_settings : SettingsKept c s (restartComparators c p s) := by
  refine .foldl (fun s i => ?_) _ s
  exact .ite (.trans (setComparator_settings ..) (.of_kept (comparatorEvent_kept c p _ ..))) (setComparator_settings ..)

/-- A restart cancels the pending swap of its chain and leaves the rest of its settings. -/
theorem restartChain_settings :
    (chain (restartChain c s) c).settings = Chain.settings { chain s c with swap := none } ∧
      ∀ d, d ≠ c → chain (restartChain c s) d = chain s d := by
  have restarted : SettingsKept c (updChain c (fun ch => { ch with swap := none }) s) (restartChain c s) :=
    .foldl (fun _ _ => (restartComparators_settings ..).trans (.of_updPosition ..)) _ _
  refine ⟨restarted.settings.trans ?_, fun d other => (restarted.others d other).trans (chain_updChain_other other ..)⟩
  rw [chain_updChain_self]

end

/-! ### BANK_SWAP_EFFECT (R114) -/

section
variable {s : State} {n first due : Nat} (has : s.part.hasChain n = true) (pending : (chain s n).swap = some due)
include has pending

theorem execBankSwapEffect_waits (ready : swapReady s n due first = false) : execBankSwapEffect ⟨n, first⟩ s = .next s := by
  unfold execBankSwapEffect
  simp [has, pending, ready]

/-- The banks of the chain change their roles, no swap is left pending, and every block is closed. -/
theorem execBankSwapEffect_exchanges (ready : swapReady s n due first = true) :
    ∃ t, execBankSwapEffect ⟨n, first⟩ s = .next t ∧
      (chain t n).settings = Chain.settings { chain s n with active := !(chain s n).active, swap := none } ∧
      ∀ p, blockAt t n p = none := by
  let a := if isPrecision n then s else advanceTo (first * sampleTicks n (chain s n).halved) s
  let u := closeBlocks n a
  let v := updChain n (fun ch => { ch with active := !ch.active, swap := none }) u
  let owe := fun (s : State) (p : Nat) => updPosition n p (fun ps => { ps with owed := ps.owed ||| 256 }) s
  have advanced : SettingsKept n s a := .ite (.refl ..) (.of_chains rfl)
  have closed : SettingsKept n s u := advanced.trans (closeBlocks_settings ..)
  have owed : SettingsKept n v ((List.range (positionCount n)).foldl owe v) := .foldl (fun _ _ => .of_updPosition ..) _ _
  have blocks : BlocksKept n v ((List.range (positionCount n)).foldl owe v) :=
    .foldl (fun _ _ => .of_updPosition rfl) _ _
  refine ⟨(List.range (positionCount n)).foldl owe v, ?_, owed.settings.trans ?_, fun p => (blocks.blocks p).trans ?_⟩
  · unfold execBankSwapEffect
    simp only [has, pending, ready, Bool.not_true, Bool.false_eq_true, if_false]
    rfl
  · rw [chain_updChain_self]
    exact (congrArg (fun ch : Chain => { ch with active := !ch.active, swap := none }) closed.settings :)
  · rw [blockAt, chain_updChain_self]
    exact blockAt_closeBlocks ..

end

/-! ### The commands (R110 to R114) -/

/-- An answer leaves the chains as the command's meaning left them. -/
theorem answers_chains (c : Caller) (code : Nat) (req : Bytes) (st : Status) (resp : Bytes) (u : State) :
    ∃ t, Answers c code req st resp u = .next t ∧ ∀ d, chain t d = chain u d :=
  ⟨_, rfl, fun d => by rw [chain, complete_chains, mirrorConfig_chains, ← chain]⟩

section
variable {s : State} {c : Caller} {req : Bytes}

theorem hasChain_of_chainCfgOk {part : Part} {n : Nat} (ok : chainCfgOk part n req = true) : part.hasChain n = true := by
  unfold chainCfgOk at ok
  simp only [Bool.and_eq_true] at ok
  simp only [ok]

/-- chain.configure restarts the chain and sets its configuration (R111, R114). -/
theorem chainConfigureBody_configures (may : mayChain s c (rd req 0 2) = true) (ok : chainCfgOk s.part (rd req 0 2) req = true)
    (slot : (parseChainCfg req).dest = .trunk → slotCarries s (rd req 0 2) (parseChainCfg req) = true)
    (ring : (parseChainCfg req).dest = .ring → c.io.consumer.isSome = true ∧ hostOk s (chainOwner s (rd req 0 2)) = true) :
    ∃ u resp, chainConfigureBody c req s = (u, .done St.ok resp) ∧
      (chain u (rd req 0 2)).settings = Chain.settings { chain s (rd req 0 2) with cfg := parseChainCfg req, swap := none } ∧
      ∀ d, d ≠ rd req 0 2 → chain u d = chain s d := by
  have slotOk : ¬ ((decide ((parseChainCfg req).dest = .trunk) && !slotCarries s (rd req 0 2) (parseChainCfg req)) = true) := by
    simpa using slot
  have ringOk : ¬ ((decide ((parseChainCfg req).dest = .ring) &&
      (c.io.consumer.isNone || !hostOk s (chainOwner s (rd req 0 2)))) = true) := by
    simpa [Option.isSome_iff_ne_none] using ring
  unfold chainConfigureBody
  dsimp only
  rw [if_neg (by simp [hasChain_of_chainCfgOk ok]), if_neg (by simp [may]), if_neg (by simp [ok]), if_neg slotOk, if_neg ringOk]
  refine ⟨_, _, rfl, ?_⟩
  generalize told : (if (parseChainCfg req).dest = .ring then _ else _ : State) = v
  have delivered : SettingsKept (rd req 0 2) s
      ((positionsOf s (rd req 0 2)).foldl (fun s p => deliverReady (rd req 0 2) p none s) s) :=
    .foldl (fun _ _ => deliverReady_settings ..) _ s
  have kept : SettingsKept (rd req 0 2) s v := told ▸ .ite (delivered.trans (.of_chains (by simp))) delivered
  obtain ⟨settings, others⟩ := restartChain_settings (rd req 0 2) v
  refine ⟨?_, fun d other => (chain_updChain_other other ..).trans ((others d other).trans (kept.others d other))⟩
  rw [chain_updChain_self]
  exact (congrArg (fun ch : Chain => { ch with cfg := parseChainCfg req }) settings :).trans
    (congrArg (fun ch : Chain => { ch with cfg := parseChainCfg req, swap := none }) kept.settings :)

/-- The coefficients of chain.loadbank, h[0] first (R99). -/
def loadedCoefs (req : Bytes) : List Int := (List.range (rd req 3 1)).map (fun i => toSigned 24 (rd req (16 + 4 * i) 4))

/-- chain.loadbank sets the inactive bank and answers its delay (R99). -/
theorem chainLoadbankBody_loads {g : Nat} (has : s.part.hasChain (rd req 0 2) = true) (may : mayChain s c (rd req 0 2) = true)
    (bank : rd req 2 1 ≤ 1) (nonempty : 1 ≤ rd req 3 1) (most : rd req 3 1 ≤ 128) (mode : rd req 4 1 ≤ 1)
    (delay : rd req 8 4 ≤ (rd req 3 1 - 1) * 1024)
    (signed : ∀ i < rd req 3 1, bits (rd req (16 + 4 * i) 4) 24 8 = if bit (rd req (16 + 4 * i) 4) 23 then 255 else 0)
    (declared : rd req 4 1 = 1 → g = rd req 8 4)
    (derived : rd req 4 1 = 0 → centroid (loadedCoefs req) = some g)
    (inactive : (chain s (rd req 0 2)).active ≠ (rd req 2 1 == 1)) (idle : (chain s (rd req 0 2)).swap = none) :
    let b : Bank := { h := loadedCoefs req, g3 := g }
    chainLoadbankBody c req s =
      (updChain (rd req 0 2) (fun ch => if rd req 2 1 = 1 then { ch with bank1 := b } else { ch with bank0 := b }) s,
        .done St.ok (leBytes 2 St.ok.toNat ++ zeros 2 ++ leBytes 4 g)) := by
  intro b
  have fields : ¬ ((decide (rd req 2 1 > 1) || decide (rd req 3 1 < 1) || decide (rd req 3 1 > 128) || decide (rd req 4 1 > 1)
      || !((List.range (rd req 3 1)).map (fun i => rd req (16 + 4 * i) 4)).all
        (fun v => bits v 24 8 == (if bit v 23 then 255 else 0))
      || decide (rd req 8 4 > (rd req 3 1 - 1) * 1024)) = true) := by
    have extended : ((List.range (rd req 3 1)).map (fun i => rd req (16 + 4 * i) 4)).all
        (fun v => bits v 24 8 == (if bit v 23 then 255 else 0)) = true := by
      simpa using signed
    rw [extended]
    simp only [Bool.or_eq_true, decide_eq_true_eq, Bool.not_true, Bool.false_eq_true, or_false]
    omega
  have delayed : (if rd req 4 1 = 1 then some (rd req 8 4) else centroid (loadedCoefs req)) = some g := by
    split
    · rename_i one
      rw [declared one]
    · exact derived (by omega)
  unfold chainLoadbankBody
  dsimp only
  rw [if_neg (by simp [has]), if_neg (by simp [may]), if_neg fields, if_neg (by simp [inactive, idle]), List.map_map,
    show (List.range (rd req 3 1)).map (toSigned 24 ∘ fun i => rd req (16 + 4 * i) 4) = loadedCoefs req from rfl, delayed]

/-- A swap made pending on each chain of a list. -/
theorem chain_swapEach (t : Nat) (l : List Nat) (s : State) (d : Nat) :
    chain (l.foldl (fun s i => updChain i (fun ch => { ch with swap := some t }) s) s) d =
      if d ∈ l then { chain s d with swap := some t } else chain s d := by
  induction l generalizing s with
  | nil => rfl
  | cons i l ih =>
    rw [List.foldl_cons, ih]
    by_cases same : d = i
    · subst same
      simp
    · simp [chain_updChain_other same, same]

/-- chain.swap makes a swap pending on each chain of its range (R114). -/
theorem chainSwapBody_pends (nonempty : 1 ≤ rd req 2 2) (most : rd req 2 2 ≤ 552)
    (each : ∀ i < rd req 2 2, s.part.hasChain (rd req 0 2 + i) = true ∧ mayChain s c (rd req 0 2 + i) = true ∧
      (chain s (rd req 0 2 + i)).swap = none)
    (near : rd req 8 8 = 0 ∨ serialNewer 64 (rd req 8 8) ((tmbNow s).toNat + 10 * 2 ^ 32) = false) :
    ∃ u resp, chainSwapBody c req s = (u, .done St.pending resp) ∧
      ∀ d, chain u d = if rd req 0 2 ≤ d ∧ d < rd req 0 2 + rd req 2 2
        then { chain s d with swap := some (swapTime s (rd req 8 8)) } else chain s d := by
  have range (d : Nat) : d ∈ (List.range (rd req 2 2)).map (· + rd req 0 2) ↔ rd req 0 2 ≤ d ∧ d < rd req 0 2 + rd req 2 2 := by
    simp only [List.mem_map, List.mem_range]
    exact ⟨fun ⟨i, below, sum⟩ => by omega, fun ⟨least, below⟩ => ⟨d - rd req 0 2, by omega, by omega⟩⟩
  have chains : ∀ d ∈ (List.range (rd req 2 2)).map (· + rd req 0 2), s.part.hasChain d = true ∧ mayChain s c d = true ∧
      (chain s d).swap = none := fun d listed => by
    obtain ⟨least, below⟩ := (range d).mp listed
    have named := each (d - rd req 0 2) (by omega)
    rwa [Nat.add_sub_cancel' least] at named
  have time : ¬ ((rd req 8 8 != 0 && serialNewer 64 (rd req 8 8) ((tmbNow s).toNat + 10 * 2 ^ 32)) = true) := by
    rcases near with now | ahead
    · simp [now]
    · simp only [ahead, Bool.and_false, Bool.false_eq_true, not_false_eq_true]
  unfold chainSwapBody
  dsimp only
  generalize (List.range (rd req 2 2)).map (· + rd req 0 2) = cs at range chains
  have present : cs.all s.part.hasChain = true := List.all_eq_true.mpr fun d listed => (chains d listed).1
  have named : cs.all (mayChain s c) = true := List.all_eq_true.mpr fun d listed => (chains d listed).2.1
  have idle : ¬ (cs.any (fun i => (chain s i).swap.isSome) = true) := by
    simpa using fun d listed => (chains d listed).2.2
  rw [if_neg (by simp [present]; omega), if_neg (by simp [named]), if_neg time, if_neg idle]
  exact ⟨_, _, rfl, fun d => by rw [chain_swapEach]; simp only [range]⟩

theorem chain_comparatorEvent (n p i : Nat) (enter : Bool) (cause : Nat) (value : Int) (at_ : Word) (q : Nat) (s : State) (d : Nat) :
    chain (comparatorEvent n p i enter cause value at_ q s) d = chain s d := by
  rw [chain, comparatorEvent, show (raiseRec _ s).chains = s.chains from congrArg Calm.chains (raiseRec_calm ..), ← chain]

/-- What chain.threshold makes of a comparator (R97): its run restarts, a change of its settings is to be reported, and one switched off is
inactive. -/
def thresholdPut (req : Bytes) (x : Comparator) : Comparator :=
  { x with mode := rd req 4 1, q := rd req 5 1, level := rdInt req 8 4, hyst := rd req 12 4, run := 0,
           report := x.report || x.q != rd req 5 1 || x.level != rdInt req 8 4 || x.hyst != rd req 12 4,
           active := x.active && rd req 4 1 != 0 }

@[simp] theorem comparator_setComparator (n p i : Nat) (x : Comparator) (s : State) :
    comparator (position (chain (setComparator n p i x s) n) p) i = x := by
  rw [setComparator, position_updPosition_self, comparator]
  split <;> rfl

/-- chain.threshold sets a comparator (R97). -/
theorem chainThresholdBody_sets (has : s.part.hasChain (rd req 0 2) = true) (may : mayChain s c (rd req 0 2) = true)
    (pos : rd req 2 1 < positionCount (rd req 0 2)) (which : rd req 3 1 ≤ 1) (mode : rd req 4 1 ≤ 2) (run : 1 ≤ rd req 5 1)
    (hyst : rd req 12 4 < 2 ^ 31) :
    ∃ u, chainThresholdBody c req s = answer St.ok u ∧
      comparator (position (chain u (rd req 0 2)) (rd req 2 1)) (rd req 3 1) =
        thresholdPut req (comparator (position (chain s (rd req 0 2)) (rd req 2 1)) (rd req 3 1)) := by
  have fields : ¬ ((decide (rd req 2 1 ≥ positionCount (rd req 0 2)) || decide (rd req 3 1 > 1) || decide (rd req 4 1 > 2)
      || decide (rd req 5 1 < 1) || decide (rd req 12 4 ≥ 2 ^ 31)) = true) := by
    simp only [Bool.or_eq_true, decide_eq_true_eq]
    omega
  unfold chainThresholdBody
  dsimp only
  rw [if_neg (by simp [has]), if_neg (by simp [may]), if_neg fields]
  split
  · rename_i leaves
    obtain ⟨off, _⟩ := (Bool.and_eq_true _ _).mp leaves
    refine ⟨_, rfl, ?_⟩
    rw [chain_comparatorEvent, comparator_setComparator]
    simp [thresholdPut, of_decide_eq_true off]
  · rename_i stays
    refine ⟨_, rfl, ?_⟩
    have active (x : Comparator) (h : ¬ ((decide (rd req 4 1 = 0) && x.active) = true)) : x.active = (x.active && rd req 4 1 != 0) := by
      cases on : x.active
      · rfl
      · simpa [on] using h
    rw [comparator_setComparator, thresholdPut, ← active _ stays]

end

end Sys2Proof.Machine
end

section
/-! The obligation of the chain commands (R97, R99, R111, R113, R114). -/

namespace Sys2Proof

open Machine

/-- Settles O29: each command from what its meaning makes of the chains it names, and BANK_SWAP_EFFECT from the settings it leaves. -/
theorem chainCommands : Obligations.ChainCommands := by
  unfold Obligations.ChainCommands
  refine ⟨?_, ?_, ?_, ?_, ?_⟩
  · intro s c req start form may ok slot ring
    obtain ⟨u, resp, body, settings, others⟩ := chainConfigureBody_configures may ok slot ring
    obtain ⟨t, answered, chains⟩ := answers_chains c 0x0201 req St.ok resp u
    rw [← chains] at settings
    obtain ⟨bank0, bank1⟩ := banks_of_settings settings
    exact ⟨t, (runCmd_answers start form (by simp) body).trans answered, cfg_of_settings settings, (congrArg Chain.swap settings :),
      bank0, bank1, fun d other => (chains d).trans (others d other)⟩
  · intro s c req g start form has may bank nonempty most mode delay signed declared derived inactive idle
    exact runCmd_answers start form (by simp)
      (chainLoadbankBody_loads has may bank nonempty most mode delay signed declared derived inactive idle)
  · intro s c req start form nonempty most each near
    obtain ⟨u, resp, body, swaps⟩ := chainSwapBody_pends nonempty most each near
    obtain ⟨t, answered, chains⟩ := answers_chains c 0x0203 req St.pending resp u
    refine ⟨t, (runCmd_answers start form (by simp) body).trans answered, fun i below => ?_, fun d outside => ?_⟩
    · rw [chains, swaps, if_pos (by omega)]
      simp [swapTime]
    · rw [chains, swaps, if_neg (by omega)]
  · intro s c req start form has may pos which mode run hyst
    obtain ⟨u, body, put⟩ := chainThresholdBody_sets has may pos which mode run hyst
    obtain ⟨t, answered, chains⟩ := answers_chains c 0x0204 req St.ok (statusResp St.ok) u
    refine ⟨t, (runCmd_answers start form (by simp) body).trans answered, ?_⟩
    rw [chains, put]
    exact ⟨rfl, rfl, rfl, rfl, rfl, fun off => by simp [thresholdPut, off], fun on => by simp [thresholdPut, on]⟩
  · intro s n first due has pending
    refine ⟨execBankSwapEffect_waits has pending, fun ready => ?_⟩
    obtain ⟨t, step, settings, closed⟩ := execBankSwapEffect_exchanges has pending ready
    obtain ⟨bank0, bank1⟩ := banks_of_settings settings
    exact ⟨t, step, (congrArg Chain.active settings :), (congrArg Chain.swap settings :), bank0, bank1,
      (congrArg Chain.cfg settings :), fun p _ => closed p⟩

end Sys2Proof
end

section
/-! The state of power and of the trunk and every port's PHY settings (R155), which operations that tell, count and move frames, tone maps
and the canceller's pairs leave as they are. -/

namespace Sys2Proof.Machine

/-- The state of power and of the trunk, and each port's PHY settings, in force and waiting. -/
structure Setup where
  pwr : Power
  trk : Trunk
  phy : Nat → PhyCfg
  nextPhy : Nat → Option PhyCfg

def State.setup (s : State) : Setup :=
  { pwr := s.pwr, trk := s.trk, phy := fun q => (port s q).phy, nextPhy := fun q => (port s q).nextPhy }

theorem setup_of_same {s t : State} (pwr : t.pwr = s.pwr) (trk : t.trk = s.trk) (ports : t.ports = s.ports) : t.setup = s.setup := by
  unfold State.setup port
  rw [pwr, trk, ports]

theorem setup_of_calm {s t : State} (h : t.calm = s.calm) : t.setup = s.setup :=
  setup_of_same (congrArg Calm.pwr h) (congrArg Calm.trk h) (congrArg Calm.ports h)

theorem setup_if {s a b : State} {p : Prop} [Decidable p] (ha : a.setup = s.setup) (hb : b.setup = s.setup) :
    (if p then a else b).setup = s.setup := by split <;> assumption

theorem foldl_setup {α : Type} {f : State → α → State} (h : ∀ s x, (f s x).setup = s.setup) (l : List α) (s : State) :
    (l.foldl f s).setup = s.setup := by
  induction l generalizing s with
  | nil => rfl
  | cons x l ih => exact (ih _).trans (h s x)

/-- An update of a port beside its PHY settings. -/
theorem updPort_setup {p : Nat} {f : Port → Port} {s : State} (phy : (f (port s p)).phy = (port s p).phy)
    (nextPhy : (f (port s p)).nextPhy = (port s p).nextPhy) : (updPort p f s).setup = s.setup := by
  have same (q : Nat) : (port (updPort p f s) q).phy = (port s q).phy ∧ (port (updPort p f s) q).nextPhy = (port s q).nextPhy := by
    by_cases h : q = p
    · rw [h, port_updPort_self]
      exact ⟨phy, nextPhy⟩
    · rw [port_updPort_other h]
      exact ⟨rfl, rfl⟩
  exact congrArg₂ (Setup.mk s.pwr s.trk) (funext fun q => (same q).1) (funext fun q => (same q).2)

theorem updMac_setup (p : Nat) (f : PortMac → PortMac) (s : State) : (updMac p f s).setup = s.setup := updPort_setup rfl rfl

theorem updLine_setup (p : Nat) (f : PortLine → PortLine) (s : State) : (updLine p f s).setup = s.setup := updPort_setup rfl rfl

/-! ### Tags and counters -/

theorem emit_setup (o : Output) (s : State) : (emit o s).setup = s.setup := rfl

theorem bump_setup (id n : Nat) (s : State) : (bump id n s).setup = s.setup := setup_of_calm (bump_calm ..)

theorem count_setup (code : Nat) (a : Attr) (n : Nat) (s : State) : (count code a n s).setup = s.setup := setup_of_calm (count_calm ..)

theorem raisePort_setup (p e cause arg0 arg1 : Nat) (s : State) : (raisePort p e cause arg0 arg1 s).setup = s.setup :=
  setup_of_calm (raisePort_calm ..)

theorem tagCheck_setup (kind p ident idx : Nat) (s : State) : (tagCheck kind p ident idx s).setup = s.setup := rfl

theorem tagEnd_setup (kind p ident : Nat) (retired escalated : Bool) (attempts : Nat) (s : State) :
    (tagEnd kind p ident retired escalated attempts s).setup = s.setup := by
  unfold tagEnd
  split
  · rfl
  · exact setup_of_calm (traceFeed_calm ..)

theorem endSymbolTags_setup (kind p last : Nat) (s : State) : (endSymbolTags kind p last s).setup = s.setup :=
  foldl_setup (fun _ _ => (tagEnd_setup ..).trans (tagCheck_setup ..)) _ s

theorem countTx_setup (p : Nat) (tx : Tx) (stop : Nat) (s : State) : (countTx p tx stop s).setup = s.setup :=
  (endSymbolTags_setup ..).trans ((foldl_setup (fun _ _ => bump_setup ..) _ _).trans ((bump_setup ..).trans (bump_setup ..)))

theorem tagStart_setup (kind p ident pod_ : Nat) (s : State) : (tagStart kind p ident pod_ s).setup = s.setup := by
  unfold tagStart
  dsimp only
  split
  · rfl
  · have drawn : (drawTag (if kind ≤ 2 then (tagCfg s p).kf else (tagCfg s p).ks) s).2.setup = s.setup := rfl
    split <;> rename_i u draw <;> rw [draw] at drawn
    · exact drawn
    · exact .trans (b := u.setup) (setup_if ((count_setup ..).trans (bump_setup ..)) (bump_setup ..)) drawn

theorem tagSymbols_setup (kind p len : Nat) (n first : Nat) (s : State) : (tagSymbols kind p first len n s).setup = s.setup := by
  induction n generalizing first s with
  | zero => rfl
  | succ n ih => exact (ih ..).trans (tagStart_setup ..)

/-! ### Frames -/

theorem updCphRing_setup (p r : Nat) (f : CphRing → CphRing) (s : State) : (updCphRing p r f s).setup = s.setup := rfl

theorem cphRecord_setup (p r kind : Nat) (e : JobEnd) (tag : Nat) (raiseIt : Bool) (s : State) :
    (cphRecord p r kind e tag raiseIt s).setup = s.setup :=
  setup_if rfl ((setup_if (setup_of_calm (sendMsix_calm ..)) rfl).trans ((updCphRing_setup ..).trans (setup_of_calm (hostWrite_calm ..))))

theorem updFlight_setup (n : Nat) (g : Flight → Flight) (s : State) : (updFlight n g s).setup = s.setup := setup_if rfl rfl

theorem postOutcome_setup (n : Nat) (f : Flight) (st : Status) (s : State) : (postOutcome n f st s).setup = s.setup := by
  unfold postOutcome
  split
  · rfl
  · split
    · rfl
    · exact setup_of_calm (notify_calm ..)
    · exact cphRecord_setup ..

theorem releaseFlight_setup (n : Nat) (st : Status) (s : State) : (releaseFlight n st s).setup = s.setup :=
  setup_if rfl ((postOutcome_setup ..).trans ((tagEnd_setup ..).trans (setup_if rfl (count_setup ..))))

theorem retireFlight_setup (n : Nat) (st : Status) (s : State) : (retireFlight n st s).setup = s.setup :=
  setup_if (updFlight_setup ..) (releaseFlight_setup ..)

theorem rewindQueue_setup (p : Nat) (tx : Tx) (s : State) : (rewindQueue p tx s).setup = s.setup := by
  unfold rewindQueue
  split
  · rfl
  · exact count_setup ..

theorem cacheTouch_setup (e : Nat) (s : State) : (cacheTouch e s).setup = s.setup := by
  refine setup_if rfl (setup_if rfl ?_)
  dsimp only
  split <;> rfl

theorem notePeaks_setup (p : Nat) (s : State) : (notePeaks p s).setup = s.setup := by
  unfold notePeaks
  exact updPort_setup rfl rfl

theorem setFlight_setup (n : Nat) (f : Flight) (s : State) : (setFlight n f s).setup = s.setup := rfl

theorem admitFlight_setup (n : Nat) (h : Held) (s : State) : (admitFlight n h s).setup = s.setup :=
  (setup_if (cacheTouch_setup ..) rfl).trans ((setup_if rfl ((tagCheck_setup ..).trans (tagStart_setup ..))).trans
    ((count_setup ..).trans ((notePeaks_setup ..).trans (setFlight_setup n _ { s with lbf.count := s.lbf.count + 1 }))))

theorem enqueueFlight_setup (n : Nat) (data : Bytes) (s : State) : (enqueueFlight n data s).setup = s.setup :=
  setup_if rfl rfl

theorem admitVector_setup (fn : Nat) (s : State) : (admitVector fn s).setup = s.setup :=
  setup_if rfl (setup_of_calm (sendMsix_calm ..))

theorem holdSubmission_setup (h : Held) (cause : Nat) (s : State) : (holdSubmission h cause s).setup = s.setup :=
  .trans (setup_if rfl (setup_if (admitVector_setup ..) rfl)) (count_setup ..)

theorem engineSend_setup (p final : Nat) (msg : Bytes) (s : State) : (engineSend p final msg s).setup = s.setup := by
  unfold engineSend
  split
  · rfl
  · dsimp only
    split
    · exact (enqueueFlight_setup ..).trans (admitFlight_setup ..)
    · exact holdSubmission_setup ..

theorem updMap_setup (p e dir m : Nat) (f : ToneMap → ToneMap) (s : State) : (updMap p e dir m f s).setup = s.setup := rfl

theorem invalidate_setup (p e dir : Nat) (ids : List Nat) (s : State) : (invalidate p e dir ids s).setup = s.setup :=
  foldl_setup (fun _ _ => setup_if (updMap_setup ..) rfl) ids s

theorem mapAckLost_setup (f : Flight) (h : Nat) (s : State) : (mapAckLost f h s).setup = s.setup := by
  unfold mapAckLost
  split
  · rfl
  · exact setup_if ((engineSend_setup ..).trans (invalidate_setup ..)) rfl

theorem retireFrame_setup (n : Nat) (st : Status) (s : State) : (retireFrame n st s).setup = s.setup := by
  refine .trans ?_ (retireFlight_setup n st s)
  unfold retireFrame
  dsimp only
  split
  · rfl
  · split
    · exact mapAckLost_setup ..
    · rfl

theorem leaveExchange_setup (n : Nat) (s : State) : (leaveExchange n s).setup = s.setup := by
  unfold leaveExchange
  dsimp only
  split
  · rfl
  · refine .trans (setup_if (releaseFlight_setup ..) ?_) (updFlight_setup ..)
    split
    · exact retireFrame_setup ..
    · rfl

theorem giveUp_setup (p : Nat) (o : Option Tx) (s : State) : (giveUp p o s).setup = s.setup := by
  unfold giveUp
  split
  · rfl
  · exact setup_if rfl ((foldl_setup (fun _ _ => (leaveExchange_setup ..).trans (updFlight_setup ..)) _ _).trans (rewindQueue_setup ..))

/-! ### The canceller's pairs -/

theorem updPair_setup (v a : Nat) (f : CancPair → CancPair) (s : State) : (updPair v a f s).setup = s.setup := by
  unfold updPair
  split <;> rfl

theorem cancChange_setup (v a : Nat) (st : CancState) (s : State) : (cancChange v a st s).setup = s.setup := raisePort_setup ..

theorem setCanc_setup (v a : Nat) (st : CancState) (s : State) : (setCanc v a st s).setup = s.setup := by
  unfold setCanc
  split
  · rfl
  · exact (setup_if (cancChange_setup ..) rfl).trans (updPair_setup ..)

theorem cancSuspend_setup (p cause : Nat) (s : State) : (cancSuspend p cause s).setup = s.setup :=
  foldl_setup (fun _ _ => (setup_if (updPair_setup ..) (setCanc_setup ..)).trans (updPair_setup ..)) _ s

theorem cancRemove_setup (p : Nat) (s : State) : (cancRemove p s).setup = s.setup :=
  foldl_setup (fun _ _ => cancChange_setup ..) _ _

end Sys2Proof.Machine
end

section
/-! What applies at a port's beacon boundary (R33, R155, R159, R226), and what the boundary leaves: the time does not go back, and the port
may send as before. -/

namespace Sys2Proof.Machine

/-- The time, what has left the device, every port's line side, medium access and PHY settings, and the state of power and of the trunk are
as before. -/
structure Tended (s t : State) : Prop extends Quiet s t where
  setup : t.setup = s.setup

namespace Tended

variable {s t u : State}

theorem refl (s : State) : Tended s s := ⟨.refl s, rfl⟩

theorem trans (a : Tended s t) (b : Tended t u) : Tended s u := ⟨a.toQuiet.trans b.toQuiet, b.setup.trans a.setup⟩

/-- An update of fields that are none of these. -/
theorem of_same (now : t.now = s.now) (ports : t.ports = s.ports) (out : t.out = s.out) (pwr : t.pwr = s.pwr) (trk : t.trk = s.trk) :
    Tended s t := ⟨.of_same now ports out, setup_of_same pwr trk ports⟩

/-- The same, after an operation. -/
theorem thenSame (a : Tended s t) (now : u.now = t.now) (ports : u.ports = t.ports) (out : u.out = t.out) (pwr : u.pwr = t.pwr)
    (trk : u.trk = t.trk) : Tended s u := a.trans (.of_same now ports out pwr trk)

theorem ite {a b : State} {p : Prop} [Decidable p] (ha : Tended s a) (hb : Tended s b) : Tended s (if p then a else b) := by
  split <;> assumption

theorem foldl {α : Type} {f : State → α → State} (h : ∀ s x, Tended s (f s x)) (l : List α) (s : State) : Tended s (l.foldl f s) :=
  ⟨.foldl (fun s x => (h s x).toQuiet) l s, foldl_setup (fun s x => (h s x).setup) l s⟩

end Tended

theorem raisePort_tended (p e cause arg0 arg1 : Nat) (s : State) : Tended s (raisePort p e cause arg0 arg1 s) :=
  ⟨raisePort_quiet .., raisePort_setup ..⟩

theorem mirrorSend_tended (r : MirrorRec) (s : State) : Tended s (mirrorSend r s) := ⟨mirrorSend_quiet .., setup_if rfl rfl⟩

/-! ### Tone maps (R165, R172) -/

theorem invalidate_tended (p e dir : Nat) (ids : List Nat) (s : State) : Tended s (invalidate p e dir ids s) :=
  ⟨invalidate_quiet .., invalidate_setup ..⟩

theorem tmRequest_tended (p e : Nat) (maps : List Nat) (sound : Bool) (slots : Nat) (s : State) :
    Tended s (tmRequest p e maps sound slots s) := ⟨engineSend_quiet .., engineSend_setup ..⟩

theorem requestMaps_tended (p e : Nat) (ids : List Nat) (exempt : Bool) (s : State) : Tended s (requestMaps p e ids exempt s) :=
  ⟨requestMaps_quiet .., rfl⟩

theorem updMap_tended (p e dir m : Nat) (f : ToneMap → ToneMap) (s : State) : Tended s (updMap p e dir m f s) := ⟨updMap_quiet .., rfl⟩

theorem dropMaps_tended (p : Nat) (bad : ToneMap → Bool) (mask : Bool) (s : State) : Tended s (dropMaps p bad mask s) := by
  unfold dropMaps
  extract_lets own theirs invalidOwn invalid asked
  have invalidated : Tended s invalid :=
    .trans (.foldl (fun _ _ => (invalidate_tended ..).trans ((updMap_tended ..).trans (requestMaps_tended ..))) own s)
      (.foldl (fun _ _ => invalidate_tended ..) theirs invalidOwn)
  exact .ite (invalidated.trans (.foldl (fun _ _ => tmRequest_tended ..) asked invalid)) invalidated

theorem oldSlotMaps_tended (p : Nat) (s : State) : Tended s (oldSlotMaps p s) := .of_same rfl rfl rfl rfl rfl

/-! ### The canceller's pairs (R197, R203) -/

theorem cancChange_tended (v a : Nat) (st : CancState) (s : State) : Tended s (cancChange v a st s) :=
  ⟨cancChange_quiet .., cancChange_setup ..⟩

theorem cancRemove_tended (p : Nat) (s : State) : Tended s (cancRemove p s) := ⟨cancRemove_quiet .., cancRemove_setup ..⟩

theorem cancSuspend_tended (p cause : Nat) (s : State) : Tended s (cancSuspend p cause s) := ⟨cancSuspend_quiet .., cancSuspend_setup ..⟩

theorem dropPairs_tended (f : Nat → Bool) (s : State) : Tended s (dropPairs f s) := by
  unfold dropPairs
  extract_lets hit canc dropped
  have unlisted : Tended s dropped := .of_same rfl rfl rfl rfl rfl
  exact unlisted.trans (.foldl (fun _ _ => cancChange_tended ..) hit dropped)

theorem replacePairs_tended (v : Nat) (as : List Nat) (st : CancState) (s : State) : Tended s (replacePairs v as st s) :=
  (dropPairs_tended (fun k => k / 128 == v) s).trans
    (.foldl (f := fun s a => { s with canc.pairs := tset s.canc.pairs (pairKey v a) (newPair s v a st) })
      (fun _ _ => .of_same rfl rfl rfl rfl rfl) as _)

theorem symbolBoundary_tended (v : Nat) (s : State) : Tended s (symbolBoundary v s) :=
  .ite (.thenSame (dropPairs_tended ..) rfl rfl rfl rfl rfl) (.refl s)

theorem cancBoundary_tended (v : Nat) (s : State) : Tended s (cancBoundary v s) := by
  refine (symbolBoundary_tended v s).trans ?_
  unfold cancBoundary
  extract_lets u
  split
  · exact .refl u
  · rename_i canc unqueued _ named survey _
    extract_lets met
    have taken : Tended u unqueued := .of_same rfl rfl rfl rfl rfl
    refine taken.trans ?_
    split
    · exact replacePairs_tended ..
    · exact .thenSame (replacePairs_tended ..) rfl rfl rfl rfl rfl

/-! ### The mains tracker and the topology engine (R159, R241, R262) -/

theorem updMains_tended (p : Nat) (f : Mains → Mains) (s : State) : Tended s (updMains p f s) :=
  ⟨updMains_quiet .., updPort_setup rfl rfl⟩

theorem updTopo_tended (p : Nat) (f : Topo → Topo) (s : State) : Tended s (updTopo p f s) := ⟨updTopo_quiet .., updPort_setup rfl rfl⟩

theorem mainsBoundary_tended (p : Nat) (s : State) : Tended s (mainsBoundary p s) := by
  unfold mainsBoundary
  dsimp only
  split
  · exact (updMains_tended ..).trans (.ite (raisePort_tended ..) (.refl _))
  · split
    · exact .refl s
    · exact (updMains_tended ..).trans ((Tended.ite (oldSlotMaps_tended ..) (.refl _)).trans (raisePort_tended ..))

theorem topoReport_tended (p : Nat) (s : State) : Tended s (topoReport p s) :=
  .ite (.refl s) ((updTopo_tended ..).trans ((raisePort_tended ..).trans
    (.foldl (fun _ _ => ⟨notify_quiet .., setup_of_calm (notify_calm ..)⟩) _ _)))

theorem purgeReports_tended (p : Nat) (s : State) : Tended s (purgeReports p s) := by
  unfold purgeReports
  exact updTopo_tended ..

theorem topoBoundary_tended (p : Nat) (s : State) : Tended s (topoBoundary p s) := by
  unfold topoBoundary
  extract_lets told begun noted
  have notes : Tended s noted :=
    (topoReport_tended p s).trans ((updTopo_tended ..).trans ((purgeReports_tended p begun).trans (updTopo_tended ..)))
  exact .thenSame notes rfl rfl rfl rfl rfl

theorem periodBoundary_tended (p : Nat) (s : State) : Tended s (periodBoundary p s) := by
  have counted : Tended s (updPort p (fun x => { x with tmSent := 0 }) s) := ⟨updPort_quiet rfl rfl, updPort_setup rfl rfl⟩
  exact .thenSame counted rfl rfl rfl rfl rfl

/-! ### What the boundary and its beacon leave -/

/-- What of a port's line decides whether the port may send (R71 to R75, R78, R87). -/
def PortLine.gate (l : PortLine) : PortLine :=
  { mode := l.mode, closing := l.closing, stopped := l.stopped, driverOff := l.driverOff, latched := l.latched, cal := l.cal }

/-- The time has not gone back, and whether a port may send is as before. -/
structure MaySend (p : Nat) (s t : State) : Prop where
  now : s.now ≤ t.now
  gate : (port t p).line.gate = (port s p).line.gate
  pwr : t.pwr = s.pwr
  trk : t.trk = s.trk

namespace MaySend

variable {p : Nat} {s t u : State}

theorem trans (a : MaySend p s t) (b : MaySend p t u) : MaySend p s u :=
  ⟨a.now.trans b.now, b.gate.trans a.gate, b.pwr.trans a.pwr, b.trk.trans a.trk⟩

theorem cal (h : MaySend p s t) : (port t p).line.cal = (port s p).line.cal := (congrArg PortLine.cal h.gate :)

theorem isOpen_eq (h : MaySend p s t) : isOpen t p = isOpen s p := (congrArg (fun l => PortLine.mode l != .closed) h.gate :)

theorem mayTransmit_eq (h : MaySend p s t) : mayTransmit t p = mayTransmit s p := by
  have closing : (port t p).line.closing = (port s p).line.closing := (congrArg PortLine.closing h.gate :)
  have stopped : (port t p).line.stopped = (port s p).line.stopped := (congrArg PortLine.stopped h.gate :)
  have driverOff : (port t p).line.driverOff = (port s p).line.driverOff := (congrArg PortLine.driverOff h.gate :)
  have latched : (port t p).line.latched = (port s p).line.latched := (congrArg PortLine.latched h.gate :)
  unfold mayTransmit silent
  dsimp only
  rw [h.isOpen_eq, closing, stopped, driverOff, latched, h.cal, h.pwr, h.trk]

/-- With no calibration under way the port may start exchanges where it might send. -/
theorem mayExchange_of_idle (h : MaySend p s t) (may : mayTransmit s p = true) (idle : (port s p).line.cal = .none) :
    mayExchange t p = true := by
  rw [mayExchange, h.mayTransmit_eq, may, h.cal, idle]
  rfl

end MaySend

/-- What of a port's medium access its beacon boundary sets (R226, R238). -/
def PortMac.period (m : PortMac) : PortMac := { cfg := m.cfg, next := m.next, beaconSeq := m.beaconSeq, beaconAt := m.beaconAt }

/-- The port may send as before, and its settings and its beacon period are as before. -/
structure SamePeriod (p : Nat) (s t : State) : Prop extends MaySend p s t where
  period : (port t p).mac.period = (port s p).mac.period
  phy : (port t p).phy = (port s p).phy
  nextPhy : (port t p).nextPhy = (port s p).nextPhy

namespace SamePeriod

variable {p : Nat} {s t u : State}

theorem of_setup (now : s.now ≤ t.now) (gate : (port t p).line.gate = (port s p).line.gate)
    (period : (port t p).mac.period = (port s p).mac.period) (setup : t.setup = s.setup) : SamePeriod p s t :=
  ⟨⟨now, gate, congrArg Setup.pwr setup, congrArg Setup.trk setup⟩, period, congrArg (Setup.phy · p) setup,
    congrArg (Setup.nextPhy · p) setup⟩

theorem of_tended (h : Tended s t) : SamePeriod p s t := .of_setup h.now.ge (by rw [h.line]) (by rw [h.mac]) h.setup

theorem refl (p : Nat) (s : State) : SamePeriod p s s := .of_tended (.refl s)

theorem trans (a : SamePeriod p s t) (b : SamePeriod p t u) : SamePeriod p s u :=
  ⟨a.toMaySend.trans b.toMaySend, b.period.trans a.period, b.phy.trans a.phy, b.nextPhy.trans a.nextPhy⟩

theorem ite {a b : State} {q : Prop} [Decidable q] (ha : SamePeriod p s a) (hb : SamePeriod p s b) :
    SamePeriod p s (if q then a else b) := by split <;> assumption

theorem foldl {α : Type} {f : State → α → State} (h : ∀ s x, SamePeriod p s (f s x)) (l : List α) (s : State) :
    SamePeriod p s (l.foldl f s) := by
  induction l generalizing s with
  | nil => exact refl p s
  | cons x l ih => exact (h s x).trans (ih _)

theorem of_updLine {f : PortLine → PortLine} (gate : (f (port s p).line).gate = (port s p).line.gate) : SamePeriod p s (updLine p f s) :=
  .of_setup (Nat.le_refl _) (by rw [line_updLine_self, gate]) (by rw [mac_updLine_self]) (updLine_setup ..)

theorem of_updMac {f : PortMac → PortMac} (period : (f (port s p).mac).period = (port s p).mac.period) : SamePeriod p s (updMac p f s) :=
  .of_setup (Nat.le_refl _) (by rw [line_updMac_self]) (by rw [mac_updMac_self, period]) (updMac_setup ..)

theorem of_advanceTo (p at_ : Nat) (s : State) : SamePeriod p s (advanceTo at_ s) := .of_setup (Nat.le_max_left ..) rfl rfl rfl

end SamePeriod

theorem profileBoundary_samePeriod (p : Nat) (s : State) : SamePeriod p s (profileBoundary p s) :=
  .trans (.of_updLine rfl) (.ite (.of_tended (cancSuspend_tended ..)) (.refl ..))

theorem listenBoundary_samePeriod (p : Nat) (s : State) : SamePeriod p s (listenBoundary p s) := by
  refine .foldl (fun u k => .ite (.refl p u) ?_) _ s
  have drawn : Tended u (freshNat u).2 := .of_same rfl rfl rfl rfl rfl
  exact .trans (.of_tended drawn) (.of_updLine rfl)

theorem dropRx_samePeriod (p : Nat) (s : State) : SamePeriod p s (dropRx p s) :=
  .ite (.refl p s) (.trans (.of_updMac rfl) (.of_updLine rfl))

/-- The transmission that the beacon cuts off (R223, R230). -/
theorem abandonTx_samePeriod (p : Nat) (s : State) : SamePeriod p s (abandonTx p s) := by
  have cut : SamePeriod p s (cutTx p s) := by
    unfold cutTx
    split
    · exact .trans (.of_tended ⟨countTx_quiet .., countTx_setup ..⟩) (.of_updLine rfl)
    · exact .refl p s
  obtain ⟨bc, e⟩ := abandonTx_eq p s
  rw [e]
  exact cut.trans (.trans (.of_updMac rfl) (.trans (.of_tended ⟨giveUp_quiet .., giveUp_setup ..⟩)
    (.of_tended ⟨giveUp_quiet .., giveUp_setup ..⟩)))

theorem startTx_samePeriod (p : Nat) (tx : Tx) (s : State) : SamePeriod p s (startTx p tx s) := by
  have raised : SamePeriod p s (setTxen p .high s) :=
    .ite (.refl p s) (.trans (.of_updLine rfl) (.of_tended ⟨emit_quiet .., emit_setup ..⟩))
  exact raised.trans (.trans (.of_updMac rfl) (.trans (.of_updLine rfl)
    (.of_tended ⟨(emit_quiet ..).trans (tagSymbols_quiet ..), (tagSymbols_setup ..).trans (emit_setup ..)⟩)))

theorem sendBeacon_samePeriod (p start next : Nat) (s : State) : SamePeriod p s (sendBeacon p start next s) := by
  unfold sendBeacon
  extract_lets fm at_ body fc tx
  have told (u : State) : SamePeriod p u (bump 3083 1 u) := .of_tended ⟨bump_quiet .., bump_setup ..⟩
  exact .trans (.of_advanceTo ..) (.trans (startTx_samePeriod ..) (told _))

/-- A beacon is on the line as a frame of kind 2 to every station (R227). -/
theorem sendBeacon_tx (p start next : Nat) (s : State) :
    (port (sendBeacon p start next s) p).mac.tx.map (fun x => (x.kind, x.dest)) = some (2, allAddr) := by
  unfold sendBeacon
  extract_lets fm at_ body fc tx
  rw [(bump_quiet ..).mac, (startTx_sends ..).1]
  rfl

/-! ### The boundary (R33, R155, R159, R226) -/

/-- The PHY settings that waited are in force (R155). -/
theorem phyBoundary_applies (p : Nat) (s : State) : MaySend p s (phyBoundary p s) ∧
    (port (phyBoundary p s) p).mac = (port s p).mac ∧
    (port (phyBoundary p s) p).phy = (port s p).nextPhy.getD (port s p).phy ∧ (port (phyBoundary p s) p).nextPhy = none := by
  unfold phyBoundary
  split
  · rename_i none
    exact ⟨(SamePeriod.refl p s).toMaySend, rfl, by rw [none]; rfl, none⟩
  · rename_i cfg waits
    extract_lets old applied dropped
    have drop : Tended applied dropped := .ite (.refl _) (dropMaps_tended ..)
    have all : Tended applied (if cfg.guardAllowed.toNat = 2 ^ dropped.canc.guardX then dropped else cancRemove p dropped) :=
      drop.trans (.ite (.refl _) (cancRemove_tended ..))
    have put : port applied p = { port s p with phy := cfg, nextPhy := none } := port_updPort_self ..
    obtain ⟨send, -, phy, nextPhy⟩ := SamePeriod.of_tended (p := p) all
    have begun : MaySend p s applied := ⟨Nat.le_refl _, by rw [put], rfl, rfl⟩
    refine ⟨begun.trans send, ?_, ?_, ?_⟩
    · rw [all.mac, put]
    · rw [phy, put, waits]
      rfl
    · rw [nextPhy, put]

/-- The boundary puts the settings that waited in force and begins the period at a time; a calibration that waited for it waits for an idle
medium. -/
theorem boundary_applies (p at_ : Nat) (s : State) :
    s.now ≤ (boundary p at_ s).now ∧ ((port s p).line.cal = .none → MaySend p s (boundary p at_ s)) ∧
    (port (boundary p at_ s) p).mac.period = { (port s p).mac.period with
      cfg := (port s p).mac.next.getD (port s p).mac.cfg, next := none, beaconSeq := (port s p).mac.beaconSeq + 1, beaconAt := at_ } ∧
    (port (boundary p at_ s) p).phy = (port s p).nextPhy.getD (port s p).phy ∧ (port (boundary p at_ s) p).nextPhy = none := by
  unfold boundary
  extract_lets told turned profiled dropped ended
  have topo : SamePeriod p s told := .of_tended (topoBoundary_tended ..)
  obtain ⟨phySends, phyMac, phy, nextPhy⟩ := phyBoundary_applies p turned
  have turnedPort : port turned p = { port told p with mac := { (port told p).mac with
      cfg := (port told p).mac.next.getD (port told p).mac.cfg, next := none, beaconSeq := (port told p).mac.beaconSeq + 1,
      beaconAt := at_, waitBeacon := false } } := port_updPort_self ..
  have turnedSends : MaySend p s turned := topo.toMaySend.trans ⟨Nat.le_refl _, by rw [turnedPort], rfl, rfl⟩
  have rest : SamePeriod p (phyBoundary p turned) ended :=
    .trans (.of_tended (mainsBoundary_tended ..)) (.trans (profileBoundary_samePeriod ..)
      (.trans (.of_tended ((dropMaps_tended ..).trans ((cancBoundary_tended ..).trans (periodBoundary_tended ..))))
        (listenBoundary_samePeriod ..)))
  have endedSends : MaySend p s ended := turnedSends.trans (phySends.trans rest.toMaySend)
  refine ⟨endedSends.now, fun idle => endedSends.trans ?_, ?_, ?_, ?_⟩
  · have endedIdle : (port ended p).line.cal = .none := endedSends.cal.trans idle
    exact (SamePeriod.of_updLine (by unfold PortLine.gate; rw [endedIdle])).toMaySend
  · rw [mac_updLine_self, rest.period, phyMac, turnedPort, (topoBoundary_tended p s).mac]
    rfl
  · rw [updLine, port_updPort_self, rest.phy, phy, turnedPort, topo.phy, topo.nextPhy]
  · rw [updLine, port_updPort_self, rest.nextPhy, nextPhy]

end Sys2Proof.Machine
end

section
/-! BEACON_START (R226, R230): the boundary's changes apply, and the beacon goes on the line where the port may send. -/

namespace Sys2Proof.Machine

/-- A transmission that the beacon cuts off takes no port.close with it where none waits for its end (R87, R223). -/
theorem cutOff_samePeriod {p : Nat} {s : State} (stays : (port s p).mac.tx = none ∨ (port s p).line.closing = none) :
    SamePeriod p s (if (port s p).mac.tx.isSome = true then closeWhenIdle p (abandonTx p s) else s) := by
  split
  · rename_i sending
    have cut := abandonTx_samePeriod p s
    have goesOn : (port s p).line.closing = none := stays.resolve_left fun none => by simp [none] at sending
    have closing : (port (abandonTx p s) p).line.closing = none := (congrArg PortLine.closing cut.gate :).trans goesOn
    rwa [closeWhenIdle_open closing]
  · exact .refl p s

theorem execBeaconStart_turns {s : State} {p : Nat} (present : p < s.part.ports) (running : Running s) (opened : isOpen s p = true)
    (beaconing : (port s p).mac.beaconing = true) (stays : (port s p).mac.tx = none ∨ (port s p).line.closing = none) :
    ∃ t, execBeaconStart p s = .next t ∧ (port t p).mac.beaconSeq = (port s p).mac.beaconSeq + 1 ∧
      (port t p).mac.beaconAt = nextStart s p ∧ nextStart s p ≤ t.now ∧
      (port t p).mac.cfg = (port s p).mac.next.getD (port s p).mac.cfg ∧ (port t p).mac.next = none ∧
      (port t p).phy = (port s p).nextPhy.getD (port s p).phy ∧ (port t p).nextPhy = none ∧
      (mayTransmit s p = true → (port s p).line.cal = .none →
        (port t p).mac.tx.map (fun x => (x.kind, x.dest)) = some (2, allAddr)) := by
  unfold execBeaconStart
  rw [if_neg (by omega), if_neg (by simp [opened, beaconing, running])]
  extract_lets at_ started cut
  have sinceStart : SamePeriod p started cut := cutOff_samePeriod stays
  have due : at_ ≤ cut.now := (Nat.le_max_right s.now at_).trans sinceStart.now
  have before : SamePeriod p s cut := .trans (.of_advanceTo ..) sinceStart
  rw [if_neg (by simp [before.isOpen_eq, opened])]
  rename_i turned skipped next scheduled mirrored
  obtain ⟨now, sends, period, phy, nextPhy⟩ := boundary_applies p at_ cut
  have told : SamePeriod p turned mirrored := .trans (.of_updMac rfl) (.of_tended (mirrorSend_tended ..))
  have sent : SamePeriod p turned (if skipped = true then mirrored
      else sendBeacon p at_ next (updMac p (fun m => { m with holdOff := none }) (dropRx p mirrored))) :=
    .ite told (told.trans (.trans (dropRx_samePeriod ..) (.trans (.of_updMac rfl) (sendBeacon_samePeriod ..))))
  have periods := sent.period.trans period
  refine ⟨_, rfl, ?_, ?_, due.trans (now.trans sent.now), ?_, ?_, ?_, ?_, fun may idle => ?_⟩
  · exact (congrArg PortMac.beaconSeq periods :).trans (congrArg (fun m => PortMac.beaconSeq m + 1) before.period :)
  · exact (congrArg PortMac.beaconAt periods :)
  · exact (congrArg PortMac.cfg periods :).trans (congrArg (fun m => m.next.getD (PortMac.cfg m)) before.period :)
  · exact (congrArg PortMac.next periods :)
  · rw [sent.phy, phy, before.phy, before.nextPhy]
  · rw [sent.nextPhy, nextPhy]
  · have idleCut : (port cut p).line.cal = .none := before.cal.trans idle
    have on : skipped = false := by
      have may := (before.toMaySend.trans (sends idleCut)).mayExchange_of_idle may idle
      simp [skipped, beaconOmitted, turned, may]
    rw [if_neg (by simp [on]), sendBeacon_tx]

end Sys2Proof.Machine
end

section
/-! mac.configure (R238), mac.neighbour (R232, R239) and phy.configure (R153, R155). -/

namespace Sys2Proof.Machine

variable {s : State} {c : Caller} {req : Bytes}

/-! ### mac.configure -/

/-- The settings that a mac.configure carries (R238). -/
def macSettings (req : Bytes) : MacCfg :=
  { retry := [rd req 2 1, rd req 3 1, rd req 4 1, rd req 5 1], beaconSlot := rd req 6 1, leekEvery := rd req 7 1,
    networkId := rd req 8 4, alternate := bit (rd req 12 1) 0 }

/-- They apply at once on a closed port, and wait for the beacon boundary on an open one. -/
theorem macConfigureBody_sets (present : rd req 0 2 < s.part.ports)
    (retries : ∀ k, k < 4 → 1 ≤ rd req (2 + k) 1 ∧ rd req (2 + k) 1 ≤ 15) (slot : rd req 6 1 ≤ 7) (every : rd req 7 1 ≤ 16) (flags : rd req 12 1 ≤ 1) :
    (isOpen s (rd req 0 2) = false → macConfigureBody req s =
      (updMac (rd req 0 2) (fun m => { m with cfg := macSettings req }) s, .done St.ok (statusResp St.ok))) ∧
    (isOpen s (rd req 0 2) = true → (port s (rd req 0 2)).mac.next = none → macConfigureBody req s =
      (updMac (rd req 0 2) (fun m => { m with next := some (macSettings req) }) s, .done St.pending (statusResp St.pending))) := by
  have fields : ¬ ((decide (rd req 0 2 ≥ s.part.ports)
      || [rd req 2 1, rd req 3 1, rd req 4 1, rd req 5 1].any (fun l => decide (l < 1) || decide (l > 15))
      || decide (rd req 6 1 > 7) || decide (rd req 7 1 > 16) || decide (rd req 12 1 > 1)) = true) := by
    have pc0 : 1 ≤ rd req 2 1 ∧ rd req 2 1 ≤ 15 := retries 0 (by omega)
    have pc1 : 1 ≤ rd req 3 1 ∧ rd req 3 1 ≤ 15 := retries 1 (by omega)
    have pc2 : 1 ≤ rd req 4 1 ∧ rd req 4 1 ≤ 15 := retries 2 (by omega)
    have pc3 : 1 ≤ rd req 5 1 ∧ rd req 5 1 ≤ 15 := retries 3 (by omega)
    simp only [List.any_cons, List.any_nil, Bool.or_eq_true, Bool.or_false, decide_eq_true_eq]
    omega
  unfold macConfigureBody
  dsimp only
  rw [if_neg fields]
  refine ⟨fun closed => ?_, fun opened free => ?_⟩
  · rw [if_pos (by simp [closed])]
    rfl
  · rw [if_neg (by simp [opened]), if_neg (by simp [free])]
    rfl

/-! ### mac.neighbour -/

@[simp] theorem leBytes_length (n v : Nat) : (leBytes n v).length = n := by
  induction n generalizing v with
  | zero => rfl
  | succ n ih => rw [leBytes, List.length_cons, ih]

theorem nbr_of_same {t : State} (h : t.nbrs = s.nbrs) (p e : Nat) : nbr t p e = nbr s p e := by rw [nbr, h, nbr]

@[simp] theorem nbr_updNbr_self (p e : Nat) (f : Neighbour → Neighbour) (s : State) : nbr (updNbr p e f s) p e = f (nbr s p e) :=
  tget_tset_self ..

theorem mirrorSend_nbrs (r : MirrorRec) (s : State) : (mirrorSend r s).nbrs = s.nbrs := by
  unfold mirrorSend
  split <;> rfl

/-- A neighbour that is cleared (R232), its event and its mirror record told. -/
def clearedNbr (p e : Nat) (s : State) : State :=
  mirrorNbr p e (raisePort p 3 2 e noArg (updNbr p e (fun x => { x with degraded := false, counter := 127 }) s))

theorem nbr_clearedNbr (p e : Nat) (s : State) : nbr (clearedNbr p e s) p e = { nbr s p e with degraded := false, counter := 127 } := by
  unfold clearedNbr mirrorNbr
  rw [nbr_of_same (mirrorSend_nbrs ..), nbr_of_same (raisePort_nbrs ..), nbr_updNbr_self]

/-- mac.neighbour answers 40 bytes, with the neighbour cleared where pod 0 asks for it and it is degraded. -/
theorem macNeighbourBody_answers (present : rd req 0 2 < s.part.ports) (ep : rd req 2 2 < 16384) (flags : rd req 4 1 ≤ 1)
    (may : mayPort s c (rd req 0 2) = true) (neighbour : isNeighbour s (rd req 0 2) (rd req 2 2) = true) :
    ∃ resp, resp.length = 40 ∧ macNeighbourBody c req s =
      (if (rd req 4 1 == 1 && c.pod == 0 && (nbr s (rd req 0 2) (rd req 2 2)).degraded) = true
        then clearedNbr (rd req 0 2) (rd req 2 2) s else s, .done St.ok resp) := by
  unfold macNeighbourBody
  dsimp only
  rw [if_neg (by simp; omega), if_neg (by simp [may]), if_neg (by simp [neighbour])]
  exact ⟨_, by simp, rfl⟩

/-! ### phy.configure -/

/-- The settings that a phy.configure carries (R153). -/
def phySettings (req : Bytes) : PhyCfg :=
  { txLevel := rdInt req 2 1, maxStreams := rd req 3 1, guardAllowed := BitVec.ofNat 3 (rd req 4 1), refresh := rd req 5 1,
    mask := rd req 8 204 }

/-- Its response: the status and the unmasked carriers of either kind (R153). -/
def phyResp (req : Bytes) (st : Status) : Bytes :=
  leBytes 2 st.toNat ++ leBytes 2 (unmaskedCount (rd req 8 204)) ++ leBytes 2 (unmaskedLeek (rd req 8 204)) ++ zeros 2

/-- The settings apply at once on a closed port, and wait for the beacon boundary on an open one. -/
theorem phyConfigureBody_sets (present : rd req 0 2 < s.part.ports) (least : -80 ≤ rdInt req 2 1) (most : rdInt req 2 1 ≤ 0)
    (stream : 1 ≤ rd req 3 1) (streams : rd req 3 1 ≤ 3) (guard : rd req 4 1 ≠ 0) (guards : rd req 4 1 ≤ 7) (refresh : rd req 5 1 ≤ 3)
    (mask : rd req 8 204 < 2 ^ 1624) (enough : 64 ≤ unmaskedLeek (rd req 8 204)) :
    (isOpen s (rd req 0 2) = false → phyConfigureBody req s =
      (updPort (rd req 0 2) (fun x => { x with phy := phySettings req }) s, .done St.ok (phyResp req St.ok))) ∧
    (isOpen s (rd req 0 2) = true → (port s (rd req 0 2)).nextPhy = none → phyConfigureBody req s =
      (updPort (rd req 0 2) (fun x => { x with nextPhy := some (phySettings req) }) s,
        .done St.pending (phyResp req St.pending))) := by
  have fields : ¬ ((decide (rd req 0 2 ≥ s.part.ports) || decide (rdInt req 2 1 > 0) || decide (rdInt req 2 1 < -80)
      || decide (rd req 3 1 < 1) || decide (rd req 3 1 > 3) || decide (rd req 4 1 = 0) || decide (rd req 4 1 > 7)
      || decide (rd req 5 1 > 3) || decide (rd req 8 204 ≥ 2 ^ 1624)) = true) := by
    generalize 2 ^ 1624 = size at mask ⊢
    simp only [Bool.or_eq_true, decide_eq_true_eq]
    omega
  unfold phyConfigureBody
  dsimp only
  rw [if_neg fields, if_neg (Nat.not_lt.mpr enough)]
  refine ⟨fun closed => ?_, fun opened free => ?_⟩
  · rw [if_pos (by simp [closed])]
    rfl
  · rw [if_neg (by simp [opened]), if_neg (by simp [free])]
    rfl

end Sys2Proof.Machine
end

section
/-! The obligation of the beacon's boundary and the MAC and PHY commands (O15), by its four parts. -/

namespace Sys2Proof

open Machine

/-- Settles O15: BEACON_START from what its boundary applies, and each command from what its meaning makes of the port or neighbour it
names. -/
theorem beaconsAndMacCommands : Obligations.BeaconsAndMacCommands := by
  unfold Obligations.BeaconsAndMacCommands
  refine ⟨fun s p present running opened beaconing stays => execBeaconStart_turns present running opened beaconing stays, ?_, ?_, ?_⟩
  · intro s c req start form pod0 present retries slot every flags
    obtain ⟨closed, opened⟩ := macConfigureBody_sets present retries slot every flags
    exact ⟨fun shut => runCmd_answers start form (fun _ => pod0) (closed shut),
      fun open_ free => runCmd_answers start form (fun _ => pod0) (opened open_ free)⟩
  · intro s c req start form present ep may neighbour
    refine ⟨fun read => ?_, fun clear pod0 degraded => ?_⟩
    · obtain ⟨resp, length, body⟩ := macNeighbourBody_answers present ep (by omega) may neighbour
      rw [if_neg (by simp [read])] at body
      exact ⟨resp, length, runCmd_answers start form (by simp) body⟩
    · obtain ⟨resp, _, body⟩ := macNeighbourBody_answers present ep (by omega) may neighbour
      rw [if_pos (by simp [clear, pod0, degraded])] at body
      refine ⟨_, runCmd_answers start form (by simp) body, ?_⟩
      rw [nbr_of_same ((complete_nbrs ..).trans (mirrorConfig_nbrs ..)), nbr_clearedNbr]
      exact ⟨rfl, rfl⟩
  · intro s c req start form pod0 present least most stream streams guard guards refresh mask enough
    obtain ⟨closed, opened⟩ := phyConfigureBody_sets present least most stream streams guard guards refresh mask enough
    exact ⟨fun shut => runCmd_answers start form (fun _ => pod0) (closed shut),
      fun open_ free => runCmd_answers start form (fun _ => pod0) (opened open_ free)⟩

end Sys2Proof
end

section
/-! How an exchange starts and ends: FRAME_TRANSMIT_START (R170, R216, R220), FRAME_TRANSMIT_END (R121, R213), ACK_RECEIVED (R218, R219)
and ACK_WINDOW_CLOSE (R213, R219). -/

namespace Sys2Proof.Machine

/-! ### What an outcome notes leaves every port's line side and medium access (R174, R221, R222, R231, R234) -/

theorem mirrorNbr_quiet (p e : Nat) (s : State) : Quiet s (mirrorNbr p e s) := mirrorSend_quiet ..

theorem nbrFails_quiet (p e n : Nat) (s : State) : Quiet s (nbrFails p e n s) :=
  (updNbr_quiet ..).trans (.trans (.ite (raisePort_quiet ..) (.refl _)) (mirrorNbr_quiet ..))

theorem nbrWorks_quiet (p e n : Nat) (s : State) : Quiet s (nbrWorks p e n s) :=
  (updNbr_quiet ..).trans (.trans (.ite (raisePort_quiet ..) (.refl _)) (mirrorNbr_quiet ..))

theorem measureDelay_quiet (p e : Nat) (ns : Int) (s : State) : Quiet s (measureDelay p e ns s) := by
  unfold measureDelay
  exact updNbr_quiet ..

theorem tmRequest_quiet (p e : Nat) (maps : List Nat) (sound : Bool) (slots : Nat) (s : State) :
    Quiet s (tmRequest p e maps sound slots s) := engineSend_quiet ..

theorem mapFails_quiet (p : Nat) (tx : Tx) (s : State) : Quiet s (mapFails p tx s) :=
  .ite (.refl s) ((updMap_quiet ..).trans (.ite (.refl _) ((updMap_quiet ..).trans
    (.ite ((invalidate_quiet ..).trans (tmRequest_quiet ..)) ((invalidate_quiet ..).trans (tmRequest_quiet ..))))))

theorem nextStage_quiet (n : Nat) (s : State) : Quiet s (nextStage n s) := by
  unfold nextStage
  extract_lets f go beyond
  have goes (k : Nat) (u : State) : Quiet u (go k u) := updFlight_quiet ..
  have told (u : State) : Quiet u (beyond u) := raisePort_quiet ..
  refine .ite (goes ..) (.ite ?_ (.ite ((told _).trans (goes ..)) (.refl s)))
  split
  · exact goes ..
  · exact (raisePort_quiet ..).trans ((told _).trans (goes ..))

theorem flightFails_quiet (h n : Nat) (s : State) : Quiet s (flightFails h n s) :=
  .trans ((updFlight_quiet ..).trans (leaveExchange_quiet ..)) (.ite (.refl _)
    (.ite (nextStage_quiet ..) (.ite ((releaseFlight_quiet ..).trans (mapAckLost_quiet ..)) (.refl _))))

theorem flightWorks_quiet (h n : Nat) (s : State) : Quiet s (flightWorks h n s) :=
  .trans (.ite (mapAckEnds_quiet ..) (.refl s)) (releaseFlight_quiet ..)

/-! ### The end of an exchange -/

/-- No acknowledgement is awaited any more, and no count of the back-off is held (R215). -/
def endExchange (p : Nat) (s : State) : State := updMac p (fun m => { m with awaiting := none, bc := none, ackEnd := none }) s

theorem endExchange_awaiting (p : Nat) (s : State) : (port (endExchange p s) p).mac.awaiting = none :=
  congrArg PortMac.awaiting (mac_updMac_self ..)

theorem exchangeFails_quiet (p : Nat) (tx : Tx) (s : State) : Quiet (endExchange p s) (exchangeFails p tx s) :=
  (bump_quiet ..).trans (.trans (.foldl (fun _ _ => count_quiet ..) _ _) (.trans (.foldl (fun _ _ => tagCheck_quiet ..) _ _)
    ((nbrFails_quiet ..).trans ((rewindQueue_quiet ..).trans ((mapFails_quiet ..).trans (.foldl (fun _ _ => flightFails_quiet ..) _ _))))))

theorem exchangeWorks_quiet (p : Nat) (tx : Tx) (k : Nat) (s : State) : Quiet (endExchange p s) (exchangeWorks p tx k s) := by
  unfold exchangeWorks
  extract_lets ended checked done counted noted works rest rewound released
  have told : Quiet (endExchange p s) released :=
    .trans (.foldl (fun _ _ => tagCheck_quiet ..) _ _) ((bump_quiet ..).trans ((bump_quiet ..).trans ((nbrWorks_quiet ..).trans
      (.trans (.ite (updMap_quiet ..) (.refl _)) (.trans (.ite (.refl _) (rewindQueue_quiet ..))
        (.foldl (fun _ _ => flightWorks_quiet ..) _ _))))))
  clear_value released rewound rest
  cases rest with
  | nil => exact told
  | cons n more => exact told.trans ((flightFails_quiet ..).trans (.foldl (fun _ _ => leaveExchange_quiet ..) _ _))

/-- A contention period touches neither (R213). -/
theorem startContention_awaiting (p start : Nat) (s : State) :
    (port (startContention p start s) p).mac.awaiting = (port s p).mac.awaiting := by
  unfold startContention enterPeriod
  dsimp only
  split
  · split <;> simp
  · simp

theorem shutPort_awaiting (p : Nat) (s : State) : (port (shutPort p s) p).mac.awaiting = none := by
  unfold shutPort
  extract_lets a b m settled suspended maps gone
  have told : Quiet settled (raisePort p 7 3 (clockOf gone p) 0 gone) :=
    (cancSuspend_quiet ..).trans (.after (raisePort_quiet ..) rfl rfl rfl)
  rw [told.mac]
  simp [settled, settleSettings, m]

/-- Where no acknowledgement is awaited, none is after a port.close that this lets end. -/
theorem closeWhenIdle_awaiting {p : Nat} {s : State} (nothing : (port s p).mac.awaiting = none) :
    (port (closeWhenIdle p s) p).mac.awaiting = none := by
  unfold closeWhenIdle finishClose
  dsimp only
  split
  · split
    · exact nothing
    · rw [(completeStatus_quiet ..).mac, shutPort_awaiting]
  · exact nothing

/-- A port.close waits for the acknowledgement (R87). -/
theorem closeWhenIdle_awaits {p : Nat} {s : State} (awaits : (port s p).mac.awaiting.isSome = true) : closeWhenIdle p s = s := by
  have waits : (port s p).mac.awaiting.isNone = false := by rw [← Option.not_isSome, awaits]; rfl
  unfold closeWhenIdle
  simp [waits]

/-- Once an exchange is over no acknowledgement is awaited, and the time stays. -/
theorem exchange_over {p : Nat} {s t : State} (told : Quiet (endExchange p s) t) (contends : Bool) (start : Nat) :
    let u := if contends then startContention p start t else t
    (port (closeWhenIdle p u) p).mac.awaiting = none ∧ (closeWhenIdle p u).now = s.now := by
  have ended : (port t p).mac.awaiting = none := by rw [told.mac, endExchange_awaiting]
  cases contends with
  | false => exact ⟨closeWhenIdle_awaiting ended, (closeWhenIdle_stays ..).now.trans told.now⟩
  | true => exact ⟨closeWhenIdle_awaiting ((startContention_awaiting ..).trans ended),
      (closeWhenIdle_stays ..).now.trans ((startContention_stays ..).now.trans told.now)⟩

theorem FaultsStay.ite {p : Nat} {s a b : State} {q : Prop} [Decidable q] (ha : FaultsStay p s a) (hb : FaultsStay p s b) :
    FaultsStay p s (if q then a else b) := by split <;> assumption

section
variable {s : State} {p : Nat} {tx : Tx} (present : p < s.part.ports)
include present

/-- A valid acknowledgement that matches ends the exchange at its own end (R218, R219). -/
theorem execAckReceived_ends {fc start : Nat} (awaits : (port s p).mac.awaiting = some tx) (valid : fcValid fc = true)
    (reserved : fcReserved (parseFc fc) = false) (combines : fcCombines (parseFc fc) = true) (kind : kindOk (parseFc fc) = true)
    (fits : ackMatches tx (parseFc fc) = true) (mode : (parseFc fc).mode = modeCode tx.leek) (after : tx.endAt ≤ start)
    (opened : (ackWindow s p tx).1 ≤ start) (closed : start ≤ (ackWindow s p tx).2) :
    ∃ t, execAckReceived p fc start s = .next t ∧ (port t p).mac.awaiting = none ∧
      t.now = max s.now (start + ackLen ((parseFc fc).mode != 0)) := by
  have sound : ¬ ((!fcValid fc || fcReserved (parseFc fc) || !fcCombines (parseFc fc) || !kindOk (parseFc fc)
      || (parseFc fc).kind != 3 || (parseFc fc).mode != modeCode tx.leek || (parseFc fc).tx != tx.dest || (parseFc fc).rx != devAddr
      || decide (start < tx.endAt)) = true) := by
    have ours := fits
    simp only [ackMatches, Bool.and_eq_true, beq_iff_eq] at ours
    obtain ⟨⟨⟨⟨⟨⟨⟨ack, sender⟩, receiver⟩, -⟩, -⟩, -⟩, -⟩, -⟩ := ours
    simp [valid, reserved, combines, kind, mode, ack, sender, receiver, after]
  unfold execAckReceived ackReceived
  rw [if_neg (by omega), awaits]
  dsimp -zeta only
  extract_lets f stop w noted
  rw [if_neg sound, if_pos (by simp [w, f, fits, opened, closed])]
  have told : Quiet (endExchange p noted) (exchangeWorks p tx f.units noted) := exchangeWorks_quiet ..
  obtain ⟨ended, now⟩ := exchange_over told true stop
  exact ⟨_, rfl, ended, now.trans (measureDelay_quiet ..).now⟩

/-- The end of the window ends the exchange (R213, R219). -/
theorem execAckWindowClose_ends (awaits : (port s p).mac.awaiting = some tx) :
    ∃ t, execAckWindowClose p s = .next t ∧ (port t p).mac.awaiting = none ∧ t.now = max s.now (ackWindow s p tx).2 := by
  unfold execAckWindowClose ackWindowClose
  rw [if_neg (by omega), awaits]
  dsimp -zeta only
  extract_lets stop resume failed m
  have told : Quiet (endExchange p (advanceTo stop s)) failed := exchangeFails_quiet ..
  cases waits : m.rx.isSome || m.holdOff.isSome with
  | true =>
    obtain ⟨ended, now⟩ := exchange_over told false resume
    exact ⟨_, rfl, ended, now⟩
  | false =>
    obtain ⟨ended, now⟩ := exchange_over told true resume
    exact ⟨_, rfl, ended, now⟩

/-! ### The end of a transmission -/

/-- A transmission ends at its last sample, and an acknowledged one then awaits its acknowledgement (R121). -/
theorem execFrameTransmitEnd_ends (sending : (port s p).mac.tx = some tx) :
    ∃ t, execFrameTransmitEnd p s = .next t ∧ (port t p).mac.tx = none ∧ t.now = max s.now tx.endAt ∧
      (tx.ackReq = true → (port t p).mac.awaiting = some tx) := by
  unfold execFrameTransmitEnd endTransmit
  rw [if_neg (by omega), sending]
  dsimp -zeta only
  extract_lets counted ended checked r idle done released drawn
  have countedNow : counted.now = max s.now tx.endAt := (countTx_quiet ..).now
  have endedTx : (port ended p).mac.tx = none := congrArg PortMac.tx (mac_updMac_self ..)
  have stays : FaultsStay p ended idle := .trans (.of_quiet (.foldl (fun _ _ => tagCheck_quiet ..) _ _))
    (.ite (updLine_stays rfl rfl rfl) (.refl p _))
  cases acked : tx.ackReq with
  | true =>
    have awaits : (port (updMac p (fun m => { m with awaiting := some tx }) idle) p).mac.awaiting = some tx :=
      congrArg PortMac.awaiting (mac_updMac_self ..)
    refine ⟨_, rfl, ?_⟩
    rw [closeWhenIdle_awaits (by rw [awaits]; rfl)]
    refine ⟨?_, stays.now.trans countedNow, fun _ => awaits⟩
    rw [mac_updMac_self]
    exact stays.idle endedTx
  | false =>
    have each (u : State) (n : Nat) : Quiet u (done u n) := .trans (updFlight_quiet ..) (.ite (releaseFlight_quiet ..) (.refl _))
    have after : FaultsStay p ended (closeWhenIdle p (startContention p tx.endAt drawn)) :=
      stays.trans (.trans (.of_quiet (.foldl each _ _)) (.trans (.ite (updMac_stays id) (.refl p _))
        ((startContention_stays ..).trans (closeWhenIdle_stays ..))))
    exact ⟨_, rfl, after.idle endedTx, after.now.trans countedNow, nofun⟩

end

/-! ### The start of a transmission -/

theorem leavePeriod_contend (p : Nat) (s : State) : (port (leavePeriod p s) p).mac.contend = .left :=
  congrArg PortMac.contend (mac_updMac_self ..)

/-- A transmission that starts ends the contention (R216). -/
theorem startTx_contend (p : Nat) (tx : Tx) (s : State) : (port (startTx p tx s) p).mac.contend = .idle := by
  unfold startTx
  dsimp only
  rw [(tagSymbols_quiet ..).mac, (emit_quiet ..).mac, mac_updLine_self, mac_updMac_self]

/-- The sounding frame is on the line (R170). -/
theorem sendSounding_starts (p h syms streams slot start : Nat) (s : State) :
    ∃ tx, (port (sendSounding p h syms streams slot start s) p).mac.tx = some tx ∧ tx.kind = 4 ∧ tx.dest = h ∧ tx.startAt = start :=
  ⟨_, (startTx_sends ..).1, rfl, rfl, rfl⟩

/-- The frames are on the line, in one transmission (R220). -/
theorem sendFrames_starts (p q h start : Nat) (fm : Fmt) (ns : List Nat) (s : State) :
    ∃ tx, (port (sendFrames p q h start fm ns s) p).mac.tx = some tx ∧ tx.flights = ns ∧ tx.dest = h ∧ tx.startAt = start ∧
      tx.queue = q ∧ (port (sendFrames p q h start fm ns s) p).mac.contend = .idle :=
  ⟨_, (startTx_sends ..).1, rfl, rfl, rfl, rfl, startTx_contend ..⟩

theorem transmitSounding_leaves {p : Nat} {s : State} (nothing : soundDue s p = none) :
    transmitSounding p s = leavePeriod p s := by rw [transmitSounding, nothing]

/-- A sounding frame that starts within the opportunity and ends before the beacon's protection is sent. -/
theorem transmitSounding_sends {p h n st slot : Nat} {s : State} (due : soundDue s p = some (h, n, st, slot))
    (soon : s.now + gridDelay s p (5120 + 5632) s.now ≤ (port s p).mac.slotAt + opportunity)
    (fits : (port s p).mac.beaconing = false ∨ s.now + gridDelay s p (5120 + 5632) s.now
      + frameSamples false 2 st (robustGuard s p) n + protectLead ≤ nextStart s p) :
    transmitSounding p s = sendSounding p h n st slot (s.now + gridDelay s p (5120 + 5632) s.now) s := by
  unfold transmitSounding
  rw [due]
  dsimp only
  rw [if_neg (by omega), if_pos (by simpa using fits)]

/-- A frame that still has a hop and leads those that it may go with starts at its aligned start, with as many of them as fit (R220). -/
theorem transmitHead_sends {p q n h start : Nat} {fm : Fmt} {s v : State} (staged : scheduleStage n s = v)
    (hop : hopOf v (flight v n) = some h) (leads : (aggregate v q n h).head? = some n)
    (aligned : alignedStart v p v.now (fmtOf v (flight v n) h) = (start, fm)) (soon : start ≤ (port s p).mac.slotAt + opportunity)
    (fits : exchangeFits v p h start fm (octetsOf v [n]) (copiesLeft v n) = true) (units : Nat) :
    ∃ ns, ns.head? = some n ∧ transmitHead p q n units [] false s = sendFrames p q h start fm ns v := by
  obtain ⟨more, group⟩ := List.head?_eq_some_iff.mp leads
  obtain ⟨k, count⟩ : ∃ k, max 1 (min 4 units) = k + 1 := ⟨max 1 (min 4 units) - 1, by omega⟩
  unfold transmitHead
  dsimp only
  rw [staged, hop]
  dsimp only
  rw [group, count, List.take_succ_cons, show (n :: more.take k).filter ([] : List Nat).contains = [] by simp]
  simp only [List.foldl_nil, List.any_nil, Bool.false_eq_true, if_false]
  rw [aligned]
  dsimp only
  rw [if_neg (by omega)]
  have fitting : ((List.range (n :: more.take k).length).reverse.find? fun k' =>
      exchangeFits v p h start fm (octetsOf v ((n :: more.take k).take (k' + 1))) (copiesLeft v n)).isSome = true := by
    rw [List.find?_isSome]
    exact ⟨0, by simp, by simpa using fits⟩
  obtain ⟨j, found⟩ := Option.isSome_iff_exists.mp fitting
  rw [found]
  exact ⟨_, by simp, rfl⟩

section
variable {s : State} {p : Nat} (present : p < s.part.ports) (contends : (port s p).mac.contend = .backoff)
  (counted : (port s p).mac.bc = some 0) (tx : (port s p).mac.tx = none) (rx : (port s p).mac.rx = none)
  (may : mayExchange s p = true) (units : Nat)
include present contends counted tx rx may

/-- A port that contended with no frame of a queue sends the sounding frame that is due, in class 2 (R170). -/
theorem execFrameTransmitStart_noHead (head : (port s p).mac.head = none) :
    execFrameTransmitStart p units ⟨[], false⟩ s = .next (if (port s p).mac.cls = 2
      then transmitSounding p (advanceTo (port s p).mac.slotAt s) else leavePeriod p (advanceTo (port s p).mac.slotAt s)) := by
  unfold execFrameTransmitStart
  rw [if_neg (by omega)]
  dsimp only
  rw [if_neg (by simp [contends, counted, tx, rx, may]), head]

/-- A port that contended with a frame sends it where it still leads a ready queue (R216). -/
theorem execFrameTransmitStart_head {q n : Nat} (head : (port s p).mac.head = some (q, n)) :
    execFrameTransmitStart p units ⟨[], false⟩ s = .next (if queueReady (advanceTo (port s p).mac.slotAt s) q
        && (queue (advanceTo (port s p).mac.slotAt s) q).flights.head? == some n
      then transmitHead p q n units [] false (advanceTo (port s p).mac.slotAt s)
      else leavePeriod p (advanceTo (port s p).mac.slotAt s)) := by
  unfold execFrameTransmitStart
  rw [if_neg (by omega)]
  dsimp only
  rw [if_neg (by simp [contends, counted, tx, rx, may]), head]

theorem execFrameTransmitStart_leaves
    (nothing : ((port s p).mac.head = none ∧
        ((port s p).mac.cls ≠ 2 ∨ soundDue (advanceTo (port s p).mac.slotAt s) p = none)) ∨
      ∃ q n, (port s p).mac.head = some (q, n) ∧ (queueReady (advanceTo (port s p).mac.slotAt s) q = false ∨
        (queue (advanceTo (port s p).mac.slotAt s) q).flights.head? ≠ some n)) :
    ∃ t, execFrameTransmitStart p units ⟨[], false⟩ s = .next t ∧ (port t p).mac.contend = .left := by
  rcases nothing with ⟨head, idle⟩ | ⟨q, n, head, gone⟩
  · refine ⟨_, execFrameTransmitStart_noHead present contends counted tx rx may units head, ?_⟩
    split
    · rename_i two
      rw [transmitSounding_leaves (idle.resolve_left (absurd two)), leavePeriod_contend]
    · exact leavePeriod_contend ..
  · refine ⟨_, execFrameTransmitStart_head present contends counted tx rx may units head, ?_⟩
    have not : ¬ ((queueReady (advanceTo (port s p).mac.slotAt s) q
        && (queue (advanceTo (port s p).mac.slotAt s) q).flights.head? == some n) = true) := by
      rcases gone with unready | other
      · simp [unready]
      · simp [other]
    rw [if_neg not, leavePeriod_contend]

end

end Sys2Proof.Machine
end

section
/-! The obligation of the frames sent and acknowledged (O13), by its four rows. -/

namespace Sys2Proof

open Machine

/-- Settles O13: the start of a transmission from what the port contended with, its end and the two ends of an exchange from what they
leave of the port. -/
theorem framesAreSentAndAcknowledged : Obligations.FramesAreSentAndAcknowledged := by
  refine ⟨?_, ?_, ?_, ?_⟩
  · intro s p units present contends counted tx rx may u last
    have leaves := execFrameTransmitStart_leaves present contends counted tx rx may units
    refine ⟨fun head => ⟨fun idle => leaves (.inl ⟨head, idle⟩), ?_⟩,
      fun q n head => ⟨fun gone => leaves (.inr ⟨q, n, head, gone⟩), ?_⟩⟩
    · intro h k st slot two due start soon fits
      obtain ⟨sent, onLine, kind, dest, startAt⟩ := sendSounding_starts p h k st slot start u
      refine ⟨_, sent, execFrameTransmitStart_noHead present contends counted tx rx may units head, ?_⟩
      rw [if_pos two, transmitSounding_sends due soon fits]
      exact ⟨onLine, kind, dest, startAt⟩
    · intro h ready leads v hop first a soon fits
      obtain ⟨ns, lead, sends⟩ := transmitHead_sends (q := q) (staged := rfl) hop first (aligned := rfl) soon fits units
      obtain ⟨sent, onLine, flights, dest, startAt, queue, contend⟩ := sendFrames_starts p q h a.1 a.2 ns v
      refine ⟨_, sent, execFrameTransmitStart_head present contends counted tx rx may units head, ?_⟩
      rw [if_pos (by simp [u, ready, leads]), sends]
      exact ⟨onLine, flights ▸ lead, dest, startAt, queue, contend⟩
  · exact fun s p tx present sending => execFrameTransmitEnd_ends present sending
  · intro s p fc start tx present awaits valid reserved combines kind fits mode after opened closed
    exact execAckReceived_ends present awaits valid reserved combines kind fits mode after opened closed
  · exact fun s p tx present awaits => execAckWindowClose_ends present awaits

end Sys2Proof
end

section
/-! The tables of tone maps and of links (R164, R165, R171): what is written is read back, and what the operations that tell, count and
send leave of them. -/

namespace Sys2Proof.Machine

/-! ### Maps and links -/

@[simp] theorem getMap_updMap_self (p e dir m : Nat) (f : ToneMap → ToneMap) (s : State) :
    getMap (updMap p e dir m f s) p e dir m = f (getMap s p e dir m) := tget_tset_self ..

@[simp] theorem mapLink_updLink_self (p e : Nat) (f : MapLink → MapLink) (s : State) :
    mapLink (updLink p e f s) p e = f (mapLink s p e) := tget_tset_self ..

@[simp] theorem mapLink_updMap (p e dir m : Nat) (f : ToneMap → ToneMap) (s : State) (q r : Nat) :
    mapLink (updMap p e dir m f s) q r = mapLink s q r := rfl

@[simp] theorem getMap_updLink (p e : Nat) (f : MapLink → MapLink) (s : State) (q r dir m : Nat) :
    getMap (updLink p e f s) q r dir m = getMap s q r dir m := rfl

/-- A map becomes invalid where it is not (R165): it is, and every map that was stays so. -/
theorem getMap_invalidated {p e dir j k : Nat} {s : State} (h : j = k ∨ (getMap s p e dir k).valid = false) :
    (getMap (if (getMap s p e dir j).valid then updMap p e dir j (fun x => { x with valid := false }) s else s) p e dir k).valid
      = false := by
  split
  · by_cases same : mapKey p e dir k = mapKey p e dir j
    · rw [getMap, same]
      exact congrArg ToneMap.valid (getMap_updMap_self ..)
    · rw [getMap, updMap, tget_tset_other _ _ _ same]
      exact h.resolve_left fun eq => same (eq ▸ rfl)
  · rename_i invalid
    rcases h with rfl | already
    · exact Bool.eq_false_iff.mpr invalid
    · exact already

/-- The maps named are invalid, and those that were invalid stay so (R165). -/
theorem getMap_invalidate {p e dir k : Nat} {ids : List Nat} {s : State} (h : k ∈ ids ∨ (getMap s p e dir k).valid = false) :
    (getMap (invalidate p e dir ids s) p e dir k).valid = false := by
  unfold invalidate
  induction ids generalizing s with
  | nil => exact h.resolve_left nofun
  | cons j ids ih =>
    refine ih ?_
    rcases h with listed | invalid
    · rcases List.mem_cons.mp listed with rfl | later
      · exact .inr (getMap_invalidated (.inl rfl))
      · exact .inl later
    · exact .inr (getMap_invalidated (.inr invalid))

theorem mem_requested_requestMaps {p e k : Nat} {ids : List Nat} (h : k ∈ ids) (exempt : Bool) (s : State) :
    k ∈ (mapLink (requestMaps p e ids exempt s) p e).requested := by
  simp [requestMaps, h]

theorem mem_exempt_requestMaps {p e k : Nat} {ids : List Nat} (h : k ∈ ids) (s : State) :
    k ∈ (mapLink (requestMaps p e ids true s) p e).exempt := by
  simp [requestMaps, h]

/-! ### Operations that leave every map and link as it is -/

/-- Every tone map and every link is as before. -/
structure MapsStay (s t : State) : Prop where
  maps : t.tm.maps = s.tm.maps
  links : t.tm.links = s.tm.links

namespace MapsStay

variable {s t u : State}

theorem refl (s : State) : MapsStay s s := ⟨rfl, rfl⟩

theorem trans (a : MapsStay s t) (b : MapsStay t u) : MapsStay s u := ⟨b.maps.trans a.maps, b.links.trans a.links⟩

theorem of_tm (h : t.tm = s.tm) : MapsStay s t := ⟨congrArg ToneMaps.maps h, congrArg ToneMaps.links h⟩

theorem of_calm (h : t.calm = s.calm) : MapsStay s t := .of_tm (congrArg Calm.tm h)

/-- A change of the state that leaves both, before an operation. -/
theorem after (b : MapsStay t u) (h : t.tm = s.tm) : MapsStay s u := (of_tm h).trans b

theorem ite {a b : State} {p : Prop} [Decidable p] (ha : MapsStay s a) (hb : MapsStay s b) : MapsStay s (if p then a else b) := by
  split <;> assumption

theorem getMap (h : MapsStay s t) (p e dir m : Nat) : Machine.getMap t p e dir m = Machine.getMap s p e dir m := by
  rw [Machine.getMap, h.maps, Machine.getMap]

theorem mapLink (h : MapsStay s t) (p e : Nat) : Machine.mapLink t p e = Machine.mapLink s p e := by
  rw [Machine.mapLink, h.links, Machine.mapLink]

end MapsStay

/-- A neighbour's entry of the map cache moves, the maps stay (R176). -/
theorem cacheTouch_mapsStay (e : Nat) (s : State) : MapsStay s (cacheTouch e s) := by
  refine .ite ⟨rfl, rfl⟩ (.ite ⟨rfl, rfl⟩ ?_)
  dsimp only
  split
  · exact .refl s
  · exact ⟨rfl, rfl⟩

/-- A management message is admitted without a tag (R514). -/
theorem admitFlight_mapsStay (n : Nat) {h : Held} (mgmt : h.mgmt = true) (s : State) : MapsStay s (admitFlight n h s) := by
  unfold admitFlight
  dsimp only
  rw [mgmt]
  exact .after (.trans (.of_calm (count_calm ..)) (.ite (cacheTouch_mapsStay ..) (.refl _))) rfl

theorem enqueueFlight_mapsStay (n : Nat) (data : Bytes) (s : State) : MapsStay s (enqueueFlight n data s) := .ite ⟨rfl, rfl⟩ ⟨rfl, rfl⟩

/-- An engine's submission that is held shows in no register (R593). -/
theorem holdSubmission_mapsStay {h : Held} (engine : h.engine = true) (cause : Nat) (s : State) :
    MapsStay s (holdSubmission h cause s) := by
  unfold holdSubmission
  dsimp only
  rw [if_pos engine]
  exact .after (.of_calm (count_calm ..)) rfl

/-- A management message leaves the maps (R593). -/
theorem engineSend_mapsStay (p final : Nat) (msg : Bytes) (s : State) : MapsStay s (engineSend p final msg s) := by
  unfold engineSend
  split
  · exact .refl s
  · dsimp only
    split
    · exact (admitFlight_mapsStay _ rfl s).trans (enqueueFlight_mapsStay ..)
    · exact holdSubmission_mapsStay rfl _ s

theorem tmRequest_mapsStay (p e : Nat) (maps : List Nat) (sound : Bool) (slots : Nat) (s : State) :
    MapsStay s (tmRequest p e maps sound slots s) := engineSend_mapsStay ..

theorem mirrorSend_mapsStay (r : MirrorRec) (s : State) : MapsStay s (mirrorSend r s) := .ite ⟨rfl, rfl⟩ (.refl s)

/-- What is told of a map's installation (R181, R370). -/
theorem mapEvent_mirrorMap_mapsStay (p e dir id gen : Nat) (s : State) :
    MapsStay s (mapEvent p e id gen (mirrorMap p e dir id s)) :=
  (mirrorSend_mapsStay ..).trans (.of_tm (raisePort_tm ..))

theorem ddrError_mapsStay (s : State) : MapsStay s (ddrError s) := by
  have failing (u : State) : MapsStay u (roleFailing u) := .ite (.after (.of_calm (raiseTrunk_calm ..)) rfl) (.refl u)
  unfold ddrError
  split
  rename_i v u drawn
  cases drawn
  exact .ite (.after (failing _) rfl) ⟨rfl, rfl⟩

end Sys2Proof.Machine
end

section
/-! The mains tracker: ZERO_CROSSING (R157, R158, R160), MAINS_ACQUIRE_TIMEOUT (R158), PREDICTED_CROSSING_MISS (R158, R159),
SLOT_BOUNDARY_PREFETCH (R165, R176) and mains.status (R179). -/

namespace Sys2Proof.Machine

@[simp] theorem mains_updMains_self (p : Nat) (f : Mains → Mains) (s : State) : (port (updMains p f s) p).mains = f (port s p).mains := by
  simp [updMains]

/-! ### ZERO_CROSSING -/

/-- Whether a crossing agrees with the two before it (R158): its gap is a half period of 40 to 70 Hz, within 1% of the gap before it where
there was one. -/
def crossingAgrees (m : Mains) (edge : Nat) : Bool :=
  let gap := edge - m.lastCross.getD edge
  m.lastCross.isSome && halfInRange gap
    && (m.lastGap == 0 || decide (100 * (max gap m.lastGap - min gap m.lastGap) ≤ m.lastGap))

/-- A tracker that has taken a crossing: its gap, and how many in a row have agreed (R158). -/
def noteCrossing (edge : Nat) (m : Mains) : Mains :=
  let gap := edge - m.lastCross.getD edge
  let fits := m.lastCross.isSome && halfInRange gap
  { m with prevCross := m.lastCross, lastCross := some edge, lastGap := if fits then gap else 0,
           run := if crossingAgrees m edge then m.run + 1 else if fits then 2 else 1 }

theorem noteCrossing_run {m : Mains} {edge last : Nat} (before : m.lastCross = some last) (range : halfInRange (edge - last) = true)
    (close : m.lastGap = 0 ∨ 100 * (max (edge - last) m.lastGap - min (edge - last) m.lastGap) ≤ m.lastGap) :
    (noteCrossing edge m).run = m.run + 1 := by
  simp [noteCrossing, crossingAgrees, before, range, close]

section
variable {s : State} {p : Nat} (present : p < s.part.ports) (opened : isOpen s p = true) (free : (port s p).mains.force = false)
include present opened free

/-- A tracker that is not Locked notes the crossing, and stays in its state before the eighth in a row out of Acquiring and the
sixteenth out of Cycle-free (R158). -/
theorem execZeroCrossing_counts {edge : Nat} (unlocked : (port s p).mains.state ≠ .locked)
    (few : (noteCrossing edge (port s p).mains).run < if (port s p).mains.state = .acquiring then 8 else 16) :
    execZeroCrossing p edge s = .next (updMains p (noteCrossing edge) s) := by
  unfold execZeroCrossing
  rw [if_neg (by omega)]
  extract_lets m gap fits agrees run next
  rw [if_neg (by simp [m, free, opened])]
  cases was : m.state with
  | locked => exact absurd was unlocked
  | acquiring =>
    rw [if_pos was] at few
    exact if_neg (Nat.not_le.mpr few)
  | cycleFree =>
    rw [if_neg (by simp [was, m])] at few
    exact if_neg (Nat.not_le.mpr few)

/-- The eighth in a row locks the tracker out of Acquiring (R158). -/
theorem execZeroCrossing_locks {edge : Nat} (acquiring : (port s p).mains.state = .acquiring)
    (eighth : 8 ≤ (noteCrossing edge (port s p).mains).run) :
    ∃ half phase drawn, execZeroCrossing p edge s = .next (oldSlotMaps p (updMains p (fun _ =>
      { noteCrossing edge (port s p).mains with half := half, phase := phase, state := .locked, goodCross := some edge })
      { s with free := drawn })) := by
  unfold execZeroCrossing
  rw [if_neg (by omega)]
  extract_lets m gap fits agrees run next
  rw [if_neg (by simp [m, free, opened]), show m.state = .acquiring from acquiring]
  exact ⟨_, _, _, if_pos eighth⟩

/-- The sixteenth in a row will lock it out of Cycle-free at the boundary (R158, R159). -/
theorem execZeroCrossing_relocks {edge : Nat} (cycleFree : (port s p).mains.state = .cycleFree)
    (sixteenth : 16 ≤ (noteCrossing edge (port s p).mains).run) :
    ∃ half phase drawn, execZeroCrossing p edge s = .next (updMains p (fun _ =>
      { noteCrossing edge (port s p).mains with
        half := half, phase := phase, state := .cycleFree, next := some .locked, goodCross := some edge })
      { s with free := drawn }) := by
  unfold execZeroCrossing
  rw [if_neg (by omega)]
  extract_lets m gap fits agrees run next
  rw [if_neg (by simp [m, free, opened]), show m.state = .cycleFree from cycleFree]
  exact ⟨_, _, _, if_pos sixteenth⟩

/-- In Locked a crossing near its prediction is fitted; a half period out of range will have the tracker Cycle-free at the boundary
(R158, R159). -/
theorem execZeroCrossing_fits {edge : Nat} (locked : (port s p).mains.state = .locked) (after : (port s p).mains.lastCross.isSome = true)
    (near : nearPrediction (port s p).mains edge = true) :
    ∃ half phase drawn, execZeroCrossing p edge s = .next (updMains p (fun _ =>
      { noteCrossing edge (port s p).mains with
        half := half, phase := phase, goodCross := some edge,
        next := if !halfInRange (half / 256) then some .cycleFree else (port s p).mains.next })
      { s with free := drawn }) := by
  unfold execZeroCrossing
  rw [if_neg (by omega)]
  extract_lets m gap fits agrees run next
  rw [if_neg (by simp [m, free, opened]), show m.state = .locked from locked]
  obtain ⟨last, before⟩ := Option.isSome_iff_exists.mp after
  refine ⟨_, _, _, if_neg ?_⟩
  simp [m, before, near]

/-- Any other is left to the flywheel (R158). -/
theorem execZeroCrossing_leaves {edge : Nat} (locked : (port s p).mains.state = .locked)
    (off : (port s p).mains.lastCross = none ∨ nearPrediction (port s p).mains edge = false) : execZeroCrossing p edge s = .next s := by
  unfold execZeroCrossing
  rw [if_neg (by omega)]
  extract_lets m gap fits agrees run next
  rw [if_neg (by simp [m, free, opened]), show m.state = .locked from locked]
  refine if_pos ?_
  rcases off with first | far
  · simp [m, first]
  · simp [m, far]

end

/-! ### The timer of Acquiring, and crossings that do not come -/

section
variable {s : State} {p : Nat} (present : p < s.part.ports)
include present

theorem execMainsAcquireTimeout_gives_up (opened : isOpen s p = true) (acquiring : (port s p).mains.state = .acquiring) :
    execMainsAcquireTimeout p s = .next (mainsEvent p .cycleFree (updMains p (fun m => { m with state := .cycleFree })
      (advanceTo ((port s p).mains.since + ms 200) s))) := by
  unfold execMainsAcquireTimeout
  rw [if_neg (by omega)]
  dsimp only
  rw [if_neg (by simp [opened, acquiring])]

theorem execPredictedCrossingMiss_waits (locked : (port s p).mains.state = .locked) :
    ∃ due, execPredictedCrossingMiss p s =
      .next (updMains p (fun m => { m with next := some .cycleFree, run := 0 }) (advanceTo due s)) := by
  unfold execPredictedCrossingMiss
  rw [if_neg (by omega)]
  dsimp only
  rw [if_neg (by simp [locked])]
  exact ⟨_, rfl⟩

/-! ### SLOT_BOUNDARY_PREFETCH -/

theorem execSlotBoundaryPrefetch_reads : execSlotBoundaryPrefetch p false s = .next s := by
  unfold execSlotBoundaryPrefetch onPort
  rw [if_neg (by omega)]
  split
  · rfl
  · exact congrArg _ (if_pos rfl)

/-- With one neighbour in the map cache whose map of the slot two ahead is valid, a failed read leaves that map invalid (R165, R176). -/
theorem execSlotBoundaryPrefetch_fails {e slot : Nat} (opened : isOpen s p = true) (locked : mainsLocked (port s p).mains = true)
    (ahead : slot = (slotOf (port s p).mains s.now + 2) % 8) (cache : s.tm.cache = [e]) (neighbour : isNeighbour s p e = true)
    (valid : (getMap s p e 1 slot).valid = true) :
    ∃ drawn, execSlotBoundaryPrefetch p true s =
      .next (raiseSys 8 1 0 0 (ddrError (invalidate p e 1 [slot] { s with free := drawn }))) := by
  subst ahead
  unfold execSlotBoundaryPrefetch onPort
  rw [if_neg (by omega), if_neg (by simp [opened])]
  beta_reduce
  extract_lets m slot read
  have one : read = [e] := by simp [read, cache, neighbour, slot, m, valid]
  rw [if_neg (by simp [m, locked, one]), one]
  refine ⟨s.free + 1, ?_⟩
  have pick (v : Nat) : [e].getD (v % [e].length) 0 = e := by simp [Nat.mod_one]
  simp only [freshNat, pick]
  rfl

end

end Sys2Proof.Machine
end

section
/-! The obligation of the mains tracker (O16), by its five rows. -/

namespace Sys2Proof

open Machine

/-- A crossing of a tracker that is not Locked, as the obligation states it (R158, R159). -/
theorem zeroCrossing_unlocked {s : State} {p : Nat} (edge : Nat) (present : p < s.part.ports) (opened : isOpen s p = true)
    (free : (port s p).mains.force = false) (unlocked : (port s p).mains.state ≠ .locked) :
    let m := (port s p).mains
    ∃ t, exec (.zeroCrossing p edge) s = .next t ∧ (port t p).mains.lastCross = some edge ∧
      (∀ last, m.lastCross = some last → halfInRange (edge - last) = true →
        (m.lastGap = 0 ∨ 100 * (max (edge - last) m.lastGap - min (edge - last) m.lastGap) ≤ m.lastGap) →
        (port t p).mains.run = m.run + 1 ∧
        (m.state = .acquiring → (port t p).mains.state = if 7 ≤ m.run then .locked else .acquiring) ∧
        (m.state = .cycleFree → (port t p).mains.state = .cycleFree ∧ (15 ≤ m.run → (port t p).mains.next = some .locked))) := by
  intro m
  have streak {last : Nat} := noteCrossing_run (m := m) (edge := edge) (last := last)
  cases was : m.state with
  | locked => exact absurd was unlocked
  | acquiring =>
    by_cases eighth : 8 ≤ (noteCrossing edge m).run
    · obtain ⟨half, phase, drawn, locks⟩ := execZeroCrossing_locks present opened free was eighth
      refine ⟨_, locks, ?_⟩
      rw [show ∀ u, port (oldSlotMaps p u) p = port u p from fun _ => rfl, mains_updMains_self]
      refine ⟨rfl, fun last before range close => ?_⟩
      have run := streak before range close
      exact ⟨run, fun _ => (if_pos (by omega)).symm, nofun⟩
    · refine ⟨_, execZeroCrossing_counts present opened free unlocked (by rw [if_pos was]; exact Nat.not_le.mp eighth), ?_⟩
      rw [mains_updMains_self]
      refine ⟨rfl, fun last before range close => ?_⟩
      have run := streak before range close
      exact ⟨run, fun _ => was.trans (if_neg (by omega)).symm, nofun⟩
  | cycleFree =>
    by_cases sixteenth : 16 ≤ (noteCrossing edge m).run
    · obtain ⟨half, phase, drawn, relocks⟩ := execZeroCrossing_relocks present opened free was sixteenth
      refine ⟨_, relocks, ?_⟩
      rw [mains_updMains_self]
      exact ⟨rfl, fun last before range close => ⟨streak before range close, nofun, fun _ => ⟨rfl, fun _ => rfl⟩⟩⟩
    · have still : (port s p).mains.state ≠ .acquiring := by simp [show (port s p).mains.state = _ from was]
      refine ⟨_, execZeroCrossing_counts present opened free unlocked (by rw [if_neg still]; exact Nat.not_le.mp sixteenth), ?_⟩
      rw [mains_updMains_self]
      refine ⟨rfl, fun last before range close => ?_⟩
      have run := streak before range close
      exact ⟨run, nofun, fun _ => ⟨was, fun many => absurd many (by omega)⟩⟩

/-- Settles O16: ZERO_CROSSING by the tracker's state, and each other row from what it leaves of the tracker or its maps. -/
theorem mainsTracking : Obligations.MainsTracking := by
  refine ⟨?_, ?_, ?_, ?_, ?_⟩
  · intro s p edge present opened free m
    refine ⟨zeroCrossing_unlocked edge present opened free, fun locked after near => ?_, execZeroCrossing_leaves present opened free⟩
    obtain ⟨half, phase, drawn, fits⟩ := execZeroCrossing_fits present opened free locked after near
    refine ⟨_, fits, ?_⟩
    rw [mains_updMains_self]
    refine ⟨rfl, rfl, locked, ?_⟩
    cases halfInRange (half / 256) <;> rfl
  · intro s p present opened acquiring
    refine ⟨_, execMainsAcquireTimeout_gives_up present opened acquiring, ?_, (raisePort_quiet ..).now⟩
    rw [mainsEvent, port_of_calm (raisePort_calm ..), mains_updMains_self]
  · intro s p present locked
    obtain ⟨due, waits⟩ := execPredictedCrossingMiss_waits present locked
    refine ⟨_, waits, ?_⟩
    rw [mains_updMains_self]
    exact ⟨rfl, locked⟩
  · intro s p present
    refine ⟨execSlotBoundaryPrefetch_reads present, fun opened locked e cache neighbour valid => ?_⟩
    obtain ⟨drawn, fails⟩ := execSlotBoundaryPrefetch_fails present opened locked rfl cache neighbour valid
    refine ⟨_, fails, ?_⟩
    rw [((ddrError_mapsStay _).trans (.of_tm (raiseSys_tm ..))).getMap]
    exact getMap_invalidate (.inl (by simp))
  · intro s c req start form present may
    refine runCmd_answers start form (by simp) ?_
    unfold mainsStatusBody
    dsimp only
    rw [if_neg (by omega), if_neg (by simp [may])]

end Sys2Proof
end

section
/-! The messages of the tone-map exchange (R164, R170, R171), the refresh of the device's own maps (R166, R167, R172) and its estimates
that grow stale (R166). -/

namespace Sys2Proof.Machine

/-- A new generation of an own map is sent, owed no longer (R164, R171). -/
theorem sendMap_sends (p e id : Nat) (m : ToneMap) (s : State) :
    tget {} (mapLink (sendMap p e id m s) p e).sent id = { m with generation := (getMap s p e 0 id).lastGen + 1, sentAt := some s.now } ∧
      (mapLink (sendMap p e id m s) p e).requested.contains id = false := by
  unfold sendMap
  extract_lets gen sent noted linked
  rw [(engineSend_mapsStay ..).mapLink, mapLink_updLink_self]
  exact ⟨tget_tset_self .., by simp⟩

section
variable {s : State} {p e : Nat} (present : p < s.part.ports) (opened : isOpen s p = true)
include present opened

theorem onPort_runs (f : State → State) : onPort p s f = .next (f s) := by
  unfold onPort
  rw [if_neg (by omega), if_neg (by simp [opened])]

section
variable (neighbour : isNeighbour s p e = true)
include neighbour

theorem fromEndpoint_runs (f : State → State) : fromEndpoint p e s f = .next (f s) := by
  rw [fromEndpoint, onPort_runs present opened, if_pos neighbour]

/-! ### TM_MAP_RECEIVED -/

/-- The map that a TM_MAP carries (R169), as it is held from its receipt. -/
def receivedMap (x : Port) (msg : Bytes) (now : Nat) : ToneMap :=
  let m : ToneMap := { valid := true, generation := BitVec.ofNat 8 (rd msg 2 1), streams := rd msg 3 1, gi := rd msg 4 1,
                       rate := rd msg 5 1, flags := rd msg 6 1, loading := slice msg 8 (812 * rd msg 3 1),
                       feedback := msg.drop (8 + 812 * rd msg 3 1), installedAt := now }
  { m with infoBits := mapInfoBits x.phy.mask m }

/-- Whether it is newer than a map held, or none is (R164, R170). -/
def Newer (msg : Bytes) (old : ToneMap) : Prop := old.valid = false ∨ serialNewer 8 (rd msg 2 1) old.generation.toNat = true

/-- A sound and permitted map that is newer is installed, and the link is held for its acknowledgement (R170, R171). -/
theorem execTmMapReceived_installs {msg : Bytes} (sound : tmMapOk (port s p) msg = true)
    (permitted : mapPermitted (port s p) (receivedMap (port s p) msg s.now) = true)
    (newer : Newer msg (getMap s p e 1 (rd msg 1 1))) :
    ∃ t, execTmMapReceived p e msg s = .next t ∧ getMap t p e 1 (rd msg 1 1) = receivedMap (port s p) msg s.now ∧
      (mapLink t p e).ackHold = (mapLink s p e).ackHold ++ [((rd msg 1 1, rd msg 2 1),
        (((mapLink s p e).ackHold.find? (fun k => k.1.1 == rd msg 1 1)).map (·.2)).getD (getMap s p e 1 (rd msg 1 1)))] := by
  unfold execTmMapReceived
  rw [fromEndpoint_runs present opened neighbour]
  extract_lets x id gen st bare new old result put before held told
  have accepted : result = 0 := by
    have stands : (old.valid && !serialNewer 8 gen old.generation.toNat) = false := by
      rcases newer with invalid | later
      · rw [show old.valid = false from invalid, Bool.false_and]
      · rw [show serialNewer 8 gen old.generation.toNat = true from later, Bool.not_true, Bool.and_false]
    simp only [result]
    rw [show tmMapOk x msg = true from sound, show mapPermitted x new = true from permitted, stands]
    rfl
  have installs : told = mapEvent p e id gen (mirrorMap p e 1 id held) := if_neg (by simp [accepted])
  have stay : MapsStay held (engineSend p e ([0x12] ++ leBytes 1 id ++ leBytes 1 gen ++ leBytes 1 result) told) := by
    rw [installs]
    exact (mapEvent_mirrorMap_mapsStay ..).trans (engineSend_mapsStay ..)
  refine ⟨_, rfl, ?_, ?_⟩
  · rw [stay.getMap, getMap_updLink, getMap_updMap_self]
    rfl
  · rw [stay.mapLink, mapLink_updLink_self, mapLink_updMap]
    rfl

/-- Any other leaves the maps and the link (R170). -/
theorem execTmMapReceived_refuses {msg : Bytes} (refused : tmMapOk (port s p) msg = false ∨
    mapPermitted (port s p) (receivedMap (port s p) msg s.now) = false ∨ ¬ Newer msg (getMap s p e 1 (rd msg 1 1))) :
    ∃ t, execTmMapReceived p e msg s = .next t ∧ MapsStay s t := by
  unfold execTmMapReceived
  rw [fromEndpoint_runs present opened neighbour]
  extract_lets x id gen st bare new old result put before held told
  have refuses : result ≠ 0 := by
    have newest (stale : ¬ Newer msg old) : (old.valid && !serialNewer 8 gen old.generation.toNat) = true := by
      simpa [Newer, gen] using stale
    intro accepted
    simp only [result] at accepted
    split at accepted
    · cases accepted
    · split at accepted
      · cases accepted
      · rename_i sound permitted
        rcases refused with bad | forbidden | stale
        · exact sound (by rw [show tmMapOk x msg = false from bad]; rfl)
        · exact permitted (by rw [show mapPermitted x new = false from forbidden]; rfl)
        · rw [if_pos (newest stale)] at accepted
          cases accepted
  have still : told = s := if_pos (by simp [refuses])
  rw [still]
  exact ⟨_, rfl, engineSend_mapsStay ..⟩

/-! ### The other messages -/

/-- With result 0 the generation sent is the one decoded with (R171). -/
theorem execTmMapAckReceived_confirms {msg : Bytes} {m : ToneMap}
    (sent : (mapLink s p e).sent.find? (fun x => x.1 == rd msg 1 1) = some (rd msg 1 1, m)) (gen : m.generation.toNat = rd msg 2 1)
    (good : rd msg 3 1 = 0) :
    ∃ t, execTmMapAckReceived p e msg s = .next t ∧
      let x := getMap s p e 0 (rd msg 1 1)
      getMap t p e 0 (rd msg 1 1) = { m with
        valid := true, installedAt := s.now, extra := x.extra, window := x.window, failures := x.failures, lastGen := x.lastGen,
        refreshedAt := x.refreshedAt, sentAt := x.sentAt } := by
  unfold execTmMapAckReceived
  rw [fromEndpoint_runs present opened neighbour]
  dsimp only
  rw [sent]
  dsimp only
  rw [if_neg (by simp [gen]), if_neg (by simp [good])]
  exact ⟨_, rfl, by rw [(mapEvent_mirrorMap_mapsStay ..).getMap, getMap_updMap_self, getMap_updLink]; rfl⟩

/-- A request for maps owes them, and changes none (R170). -/
theorem execTmRequestReceived_owes {msg : Bytes} (maps : bit (rd msg 1 1) 0 = true) :
    ∃ t, execTmRequestReceived p e msg s = .next t ∧ t.tm.maps = s.tm.maps ∧
      ∀ k ∈ mapIds (rdBe msg 2 2), k ∈ (mapLink t p e).requested := by
  unfold execTmRequestReceived
  rw [fromEndpoint_runs present opened neighbour]
  dsimp only
  rw [if_pos maps]
  refine ⟨_, rfl, ?_⟩
  split
  · exact ⟨rfl, fun k listed => by rw [mapLink_updLink_self]; exact mem_requested_requestMaps listed ..⟩
  · exact ⟨rfl, fun k listed => mem_requested_requestMaps listed ..⟩

/-- A computing side that gives its maps up makes them invalid for transmission (R171). -/
theorem execTmInvalidateReceived_transmit {msg : Bytes} (reason : rd msg 3 1 = 0) :
    execTmInvalidateReceived p e msg s = .next (invalidate p e 1 (mapIds (rdBe msg 1 2)) s) := by
  unfold execTmInvalidateReceived
  rw [fromEndpoint_runs present opened neighbour]
  simp only [reason]
  rfl

/-- A using side that gives them up makes them invalid for reception, and they are owed again after the hold-off (R171, R172). -/
theorem execTmInvalidateReceived_receive {msg : Bytes} (reason : rd msg 3 1 = 1) :
    execTmInvalidateReceived p e msg s =
      .next (requestMaps p e (mapIds (rdBe msg 1 2)) false (invalidate p e 0 (mapIds (rdBe msg 1 2)) s)) := by
  unfold execTmInvalidateReceived
  rw [fromEndpoint_runs present opened neighbour]
  simp only [reason]
  rfl

end

/-! ### The device's own maps and its estimates -/

/-- A map that is owed, exempt from the hold-off, with fresh estimates that bear a bit a carrier or more, is sent (R166, R167, R172). -/
theorem execTonemapPeriodicRefresh_sends {id : Nat} {c : Loading} (neighbour : isNeighbour s p e = true) (small : id ≤ 8)
    (active : silent s = false) (asked : (mapLink s p e).requested.contains id = true)
    (exempt : (mapLink s p e).exempt.contains id = true) (slots : mainsLocked (port s p).mains = true ∨ id = 8)
    (fresh : estimateOld s p e id = false)
    (best : bestLoading (port s p).phy.mask (mapMargin (port s p) (getMap s p e 0 id)) (mapLink s p e)
      (estimateSlots (port s p).mains id) (streamLimit (port s p)) = some c)
    (bears : 36 * unmaskedCount (port s p).phy.mask ≤ c.bits) (tails : List Int) (feedback : Bytes) :
    execTonemapPeriodicRefresh p e id tails feedback s = .next (sendMap p e id (mapOf (port s p) c tails feedback) s) := by
  unfold execTonemapPeriodicRefresh
  rw [onPort_runs present opened, if_neg (by simp [neighbour, active, small])]
  dsimp only
  simp only [asked, if_true]
  rw [if_neg (by rcases slots with locked | rfl <;> simp [*]), if_neg (by simp [fresh]), best]
  dsimp only
  refine congrArg _ (if_neg ?_)
  cases (getMap s p e 0 id).sentAt with
  | none => simpa using bears
  | some last => simpa [List.contains_iff_mem.mp exempt] using bears

/-- A slot's estimate is stale a refresh period after its last observation (R166). -/
theorem execEstimateStale_marks {slot : Nat} (small : slot ≤ 8) (fresh : (mapLink s p e).stale.contains slot = false) :
    execEstimateStale p e slot s = .next (updLink p e (fun l => { l with stale := l.stale ++ [slot] })
      (advanceTo (tget 0 (mapLink s p e).observed slot + secs (port s p).refreshS) s)) := by
  unfold execEstimateStale
  rw [onPort_runs present opened]
  dsimp only
  rw [if_neg (by simp only [fresh, Bool.or_false, decide_eq_true_eq]; omega)]

end

end Sys2Proof.Machine
end

section
/-! The obligation of the tone-map messages (O17), by its six rows. -/

namespace Sys2Proof

open Machine

/-- Settles O17: each message, and the two timers of a link, from what they leave of its maps and its exchange. -/
theorem toneMapMessages : Obligations.ToneMapMessages := by
  refine ⟨?_, ?_, ?_, ?_, ?_, ?_⟩
  · intro s p e msg present opened neighbour m fresh old newer
    refine ⟨fun sound permitted new => execTmMapReceived_installs present opened neighbour sound permitted new, fun refused => ?_⟩
    obtain ⟨t, refuses, stay⟩ := execTmMapReceived_refuses present opened neighbour refused
    exact ⟨t, refuses, stay.maps, stay.links⟩
  · intro s p e msg m present opened neighbour sent gen good
    exact execTmMapAckReceived_confirms present opened neighbour sent gen good
  · exact fun s p e msg present opened neighbour maps => execTmRequestReceived_owes present opened neighbour maps
  · intro s p e msg present opened neighbour
    refine ⟨fun reason => ?_, fun reason => ?_⟩
    · exact ⟨_, execTmInvalidateReceived_transmit present opened neighbour reason, fun k listed => getMap_invalidate (.inl listed)⟩
    · refine ⟨_, execTmInvalidateReceived_receive present opened neighbour reason, fun k listed => ⟨?_, ?_⟩⟩
      · exact getMap_invalidate (.inl listed)
      · exact mem_requested_requestMaps listed ..
  · intro s p e id tails feedback c present opened neighbour small active asked exempt slots fresh best bears
    obtain ⟨sent, owed⟩ := sendMap_sends p e id (mapOf (port s p) c tails feedback) s
    exact ⟨_, _, execTonemapPeriodicRefresh_sends present opened neighbour small active asked exempt slots fresh best bears tails feedback,
      rfl, sent, owed⟩
  · intro s p e slot present opened small fresh
    refine ⟨_, execEstimateStale_marks present opened (by omega) fresh, ?_, rfl⟩
    rw [mapLink_updLink_self]
    rfl

end Sys2Proof
end

section
/-! tonemap.configure (R178 to R180), tonemap.refresh and tonemap.read (R181). -/

namespace Sys2Proof.Machine

variable {s : State} {c : Caller} {req : Bytes}

/-! ### Answers -/

/-- An answer leaves the maps and the links as the command's meaning left them. -/
theorem answers_mapsStay (c : Caller) (code : Nat) (req : Bytes) (st : Status) (resp : Bytes) (u : State) :
    ∃ t, Answers c code req st resp u = .next t ∧ MapsStay u t :=
  ⟨_, rfl, .of_calm ((complete_calm ..).trans (mirrorConfig_calm ..))⟩

/-! ### tonemap.configure -/

/-- The mains source that a tonemap.configure names: none for a lane of the port (R178). -/
def namedSource (req : Bytes) : Option Nat := if rd req 6 2 = 0xFFFF then none else some (rd req 6 2)

/-- A tracker whose Cycle-free operation is forced or not: from Acquiring at once, from Locked at the boundary (R180). -/
def forceMains (opened force : Bool) (m : Mains) : Mains :=
  { m with force := force, next := if opened && m.state == .locked && force then some .cycleFree else if force then none else m.next,
           state := if opened && m.state == .acquiring && force then .cycleFree else m.state, run := if force then 0 else m.run }

/-- A source that a tracker is to take: at once on a closed port, at the boundary on an open one (R178). -/
def sourceMains (opened change : Bool) (source : Option Nat) (m : Mains) : Mains :=
  let m := { m with nextSource := if change then some source else m.nextSource }
  if !opened && m.nextSource.isSome then { m with source := m.nextSource.getD none, nextSource := none } else m

theorem sourceMains_force (opened change : Bool) (source : Option Nat) (m : Mains) :
    (sourceMains opened change source m).force = m.force := by
  simp only [sourceMains, apply_ite Mains.force, ite_self]

/-- tonemap.configure sets the margin, the refresh period and the tracker's settings of its port (R178 to R180). -/
theorem tonemapConfigureBody_sets (present : rd req 0 2 < s.part.ports) (margin : rd req 2 1 ≤ 24) (flags : rd req 3 1 ≤ 3)
    (least : 1 ≤ rd req 4 2) (most : rd req 4 2 ≤ 3600) (may : mayPort s c (rd req 0 2) = true) (sender : c.pod = 0 ∨ rd req 3 1 = 0)
    (source : bit (rd req 3 1) 1 = true → rd req 6 2 = 0xFFFF ∨ sourceOk s (rd req 6 2) = true) :
    ∃ u resp, tonemapConfigureBody c req s = (u, .done St.ok resp) ∧
      (∀ q, q ≠ rd req 0 2 → port u q = port s q) ∧
      port u (rd req 0 2) = { port s (rd req 0 2) with
        margin := rd req 2 1, refreshS := rd req 4 2,
        mains := sourceMains (isOpen s (rd req 0 2)) (bit (rd req 3 1) 1) (namedSource req)
          (forceMains (isOpen s (rd req 0 2)) (if c.pod = 0 then bit (rd req 3 1) 0 else (port s (rd req 0 2)).mains.force)
            (port s (rd req 0 2)).mains) } := by
  have fields : ¬ ((decide (rd req 0 2 ≥ s.part.ports) || decide (rd req 2 1 > 24) || decide (rd req 3 1 > 3) || decide (rd req 4 2 < 1)
      || decide (rd req 4 2 > 3600)) = true) := by
    simp only [Bool.or_eq_true, decide_eq_true_eq]
    omega
  have allowed : ¬ ((c.pod != 0 && rd req 3 1 != 0 || bit (rd req 3 1) 1 && rd req 6 2 != 0xFFFF && !sourceOk s (rd req 6 2)) = true) := by
    simp only [Bool.or_eq_true, Bool.and_eq_true, bne_iff_ne, Bool.not_eq_true', not_or, not_and]
    refine ⟨fun tenant => not_not.mpr (sender.resolve_left tenant), fun ⟨change, named⟩ => ?_⟩
    simp [(source change).resolve_left named]
  unfold tonemapConfigureBody
  extract_lets p fl src m force pending now_ forced sourced set told
  rw [if_neg fields, if_neg (by simp [p, may]), if_neg allowed]
  have ports (q : Nat) : port told q = port set q := by
    refine port_of_calm ?_ q
    unfold told
    split
    · exact raisePort_calm ..
    · rfl
  refine ⟨_, _, rfl, fun q other => ?_, ?_⟩
  · rw [ports, port_updPort_other other]
  · rw [ports, port_updPort_self]
    rfl

/-! ### tonemap.refresh -/

/-- tonemap.refresh notes the nine maps that each direction asked for awaits, and owes the neighbour those of reception (R181). -/
theorem tonemapRefreshBody_asks (present : rd req 0 2 < s.part.ports) (ep : rd req 2 2 < 16384) (asks : rd req 4 1 ≠ 0)
    (dirs : rd req 4 1 ≤ 3) (may : mayPort s c (rd req 0 2) = true) (neighbour : isNeighbour s (rd req 0 2) (rd req 2 2) = true)
    (idleRx : (mapLink s (rd req 0 2) (rd req 2 2)).refreshRx = []) (idleTx : (mapLink s (rd req 0 2) (rd req 2 2)).refreshTx = []) :
    ∃ u, tonemapRefreshBody c req s = (u, .done St.pending (statusResp St.pending)) ∧ u.tm.maps = s.tm.maps ∧
      let l := mapLink u (rd req 0 2) (rd req 2 2)
      l.refreshRx = (if bit (rd req 4 1) 0 then List.range 9 else []) ∧
      l.refreshTx = (if bit (rd req 4 1) 1 then List.range 9 else []) ∧
      (bit (rd req 4 1) 0 = true → ∀ k, k < 9 → k ∈ l.requested ∧ k ∈ l.exempt) := by
  unfold tonemapRefreshBody
  extract_lets p e d l all noted owed
  have free : ¬ ((bit d 0 && !l.refreshRx.isEmpty || bit d 1 && !l.refreshTx.isEmpty) = true) := by
    simp [show l.refreshRx = [] from idleRx, show l.refreshTx = [] from idleTx]
  rw [if_neg (by simp [p, e, d]; omega), if_neg (by simp [p, may]), if_neg (by simp [p, e, neighbour]), if_neg free]
  have told : MapsStay owed (if bit d 1 then tmRequest p e all false 0 owed else owed) := .ite (tmRequest_mapsStay ..) (.refl _)
  refine ⟨_, rfl, ?_, ?_⟩
  · rw [told.maps]
    unfold owed
    split <;> rfl
  · rw [told.mapLink]
    have linked : mapLink noted p e = { l with
        refreshRx := if bit d 0 then all else l.refreshRx, refreshTx := if bit d 1 then all else l.refreshTx
        rxAge := if bit d 0 then 0 else l.rxAge, txAge := if bit d 1 then 0 else l.txAge } := mapLink_updLink_self ..
    have links : (mapLink owed p e).refreshRx = (mapLink noted p e).refreshRx ∧
        (mapLink owed p e).refreshTx = (mapLink noted p e).refreshTx := by
      unfold owed
      split
      · rw [requestMaps, mapLink_updLink_self]
        exact ⟨rfl, rfl⟩
      · exact ⟨rfl, rfl⟩
    obtain ⟨rx, tx⟩ := links
    rw [linked, show l.refreshRx = [] from idleRx] at rx
    rw [linked, show l.refreshTx = [] from idleTx] at tx
    refine ⟨rx, tx, fun asked k small => ?_⟩
    have listed : k ∈ all := List.mem_range.mpr small
    rw [show owed = requestMaps p e all true noted from if_pos asked]
    exact ⟨mem_requested_requestMaps listed .., mem_exempt_requestMaps listed ..⟩

/-! ### tonemap.read -/

/-- tonemap.read answers a valid map's age and its message form (R169, R181). -/
theorem tonemapReadBody_answers (present : rd req 0 2 < s.part.ports) (ep : rd req 2 2 < 16384) (dir : rd req 4 1 ≤ 1)
    (id : rd req 5 1 ≤ 8) (may : mayPort s c (rd req 0 2) = true) (neighbour : isNeighbour s (rd req 0 2) (rd req 2 2) = true)
    (valid : (getMap s (rd req 0 2) (rd req 2 2) (rd req 4 1) (rd req 5 1)).valid = true) :
    tonemapReadBody c req s = (s, .done St.ok (leBytes 2 St.ok.toNat ++ zeros 2
      ++ leBytes 4 ((s.now - (getMap s (rd req 0 2) (rd req 2 2) (rd req 4 1) (rd req 5 1)).installedAt) / ms 1)
      ++ tmMapBytes (rd req 5 1) (getMap s (rd req 0 2) (rd req 2 2) (rd req 4 1) (rd req 5 1)))) := by
  unfold tonemapReadBody
  dsimp only
  rw [if_neg (by simp; omega), if_neg (by simp [may]), if_neg (by simp [neighbour]), if_neg (by simp [valid])]
  rw [ms, Nat.one_mul]

end Sys2Proof.Machine
end

section
/-! The obligation of the tone-map commands (O18), by its three commands. -/

namespace Sys2Proof

open Machine

/-- Settles O18: each command from what its meaning sets of the port, owes of the link or reads of the map. -/
theorem toneMapCommands : Obligations.ToneMapCommands := by
  refine ⟨?_, ?_, ?_⟩
  · intro s c req start form present margin flags least most may sender source
    obtain ⟨u, resp, body, others, own⟩ := tonemapConfigureBody_sets present margin flags least most may sender source
    obtain ⟨t, answered, ports⟩ := answers_ports c 0x0401 req St.ok resp u
    refine ⟨t, (runCmd_answers start form (by simp) body).trans answered, ?_⟩
    simp only [ports, own]
    refine ⟨trivial, trivial, fun pod0 => ?_, fun change opened => ?_, fun change closed => ?_, others⟩
    · rw [sourceMains_force, if_pos pod0]
      rfl
    · rw [opened, change]
      exact ⟨rfl, rfl⟩
    · rw [closed, change]
      rfl
  · intro s c req start form present ep asks dirs may neighbour idleRx idleTx
    obtain ⟨u, body, maps, links⟩ := tonemapRefreshBody_asks present ep asks dirs may neighbour idleRx idleTx
    obtain ⟨t, answered, stay⟩ := answers_mapsStay c 0x0402 req St.pending (statusResp St.pending) u
    refine ⟨t, (runCmd_answers start form (by simp) body).trans answered, stay.maps.trans maps, ?_⟩
    rw [stay.mapLink]
    exact links
  · intro s c req start form present ep dir id may neighbour valid
    exact runCmd_answers start form (by simp) (tonemapReadBody_answers present ep dir id may neighbour valid)

end Sys2Proof
end

section
/-! The canceller's pairs (R190 to R197): the pair of two ports after each operation on pairs, and what such an operation leaves. -/

namespace Sys2Proof.Machine

/-! ### The first entry of a key -/

section
variable {α : Type}

theorem find?_tset_self (t : Table α) (i : Nat) (x : α) : (tset t i x).find? (fun e => e.1 == i) = some (i, x) := by
  induction t with
  | nil => simp [tset]
  | cons e t ih =>
    unfold tset
    split
    · simp
    · split
      · simp
      · rename_i other
        rw [List.find?_cons_of_neg (by simpa using other), ih]

theorem find?_tset_other (t : Table α) {i j : Nat} (x : α) (h : j ≠ i) :
    (tset t i x).find? (fun e => e.1 == j) = t.find? (fun e => e.1 == j) := by
  induction t with
  | nil => simp [tset, Ne.symm h]
  | cons e t ih =>
    unfold tset
    split
    · rw [List.find?_cons_of_neg (by simpa using Ne.symm h)]
    · split
      · rename_i same
        subst same
        rw [List.find?_cons_of_neg (by simpa using Ne.symm h), List.find?_cons_of_neg (by simpa using Ne.symm h)]
      · simp only [List.find?_cons, ih]

theorem key_of_mem_tset {t : Table α} {i k : Nat} {x : α} (h : k ∈ (tset t i x).map (·.1)) : k = i ∨ k ∈ t.map (·.1) := by
  induction t with
  | nil => simpa [tset] using h
  | cons e t ih =>
    unfold tset at h
    split at h
    · simpa using h
    · split at h
      · simp only [List.map_cons, List.mem_cons] at h ⊢
        tauto
      · simp only [List.map_cons, List.mem_cons] at h ⊢
        tauto

end

/-! ### The pair of two ports -/

theorem pairKey_inj {v a b : Nat} (h : pairKey v a = pairKey v b) : a = b := Nat.add_left_cancel h

theorem cancPair_of_pairs {s t : State} (h : t.canc.pairs = s.canc.pairs) (v a : Nat) : cancPair t v a = cancPair s v a := by
  rw [cancPair, h, cancPair]

theorem cancPair_advanceTo (n : Nat) (s : State) (v a : Nat) : cancPair (advanceTo n s) v a = cancPair s v a := rfl

theorem key_of_cancPair {s : State} {v a : Nat} {x : CancPair} (h : cancPair s v a = some x) :
    pairKey v a ∈ s.canc.pairs.map (·.1) := by
  obtain ⟨e, found, -⟩ := Option.map_eq_some_iff.mp h
  exact List.mem_map.mpr ⟨e, List.mem_of_find?_eq_some found, by simpa using List.find?_some found⟩

theorem updPair_of_some {s : State} {v a : Nat} {x : CancPair} (h : cancPair s v a = some x) (f : CancPair → CancPair) :
    updPair v a f s = { s with canc.pairs := tset s.canc.pairs (pairKey v a) (f x) } := by
  rw [updPair, h]

@[simp] theorem cancPair_updPair_self (v a : Nat) (f : CancPair → CancPair) (s : State) :
    cancPair (updPair v a f s) v a = (cancPair s v a).map f := by
  cases h : cancPair s v a with
  | none => rw [updPair, h, h]; rfl
  | some x => rw [updPair_of_some h, cancPair, find?_tset_self]; rfl

theorem cancPair_updPair_other {v a w b : Nat} (h : pairKey v a ≠ pairKey w b) (f : CancPair → CancPair) (s : State) :
    cancPair (updPair w b f s) v a = cancPair s v a := by
  cases listed : cancPair s w b with
  | none => rw [updPair, listed]
  | some x => rw [updPair_of_some listed, cancPair, find?_tset_other _ _ h, cancPair]

/-- What an update keeps of every pair, it keeps of the pair of two ports. -/
theorem map_cancPair_updPair {β : Type} {g : CancPair → β} {f : CancPair → CancPair} (keeps : ∀ x, g (f x) = g x) (w b : Nat)
    (s : State) (v a : Nat) : (cancPair (updPair w b f s) v a).map g = (cancPair s v a).map g := by
  by_cases same : pairKey v a = pairKey w b
  · have pair (u : State) : cancPair u v a = cancPair u w b := by rw [cancPair, same, cancPair]
    rw [pair, pair, cancPair_updPair_self, Option.map_map]
    exact congrArg (Option.map · _) (funext keeps)
  · rw [cancPair_updPair_other same]

/-! ### A pair's state -/

/-- A pair as it enters a state: its gains are measured afresh in it (R195). -/
def CancPair.entered (x : CancPair) (st : CancState) (now : Nat) : CancPair :=
  { x with state := st, since := now, counted := 0, echoPower := (0, 0), rxPower := (0, 0), prePower := (0, 0) }

theorem cancChange_canc (v a : Nat) (st : CancState) (s : State) : (cancChange v a st s).canc = s.canc := raisePort_canc ..

theorem setCanc_of_some {s : State} {v a : Nat} {x : CancPair} (h : cancPair s v a = some x) (st : CancState) :
    setCanc v a st s = if (x.state == .engaged) != (st == .engaged) then cancChange v a st (updPair v a (·.entered st s.now) s)
      else updPair v a (·.entered st s.now) s := by
  rw [setCanc, h]
  rfl

theorem setCanc_canc (v a : Nat) (st : CancState) (s : State) :
    (setCanc v a st s).canc = (updPair v a (·.entered st s.now) s).canc := by
  cases h : cancPair s v a with
  | none => simp only [setCanc, updPair, h]
  | some x => rw [setCanc_of_some h, apply_ite State.canc, cancChange_canc, ite_self]

theorem cancPair_setCanc_self (v a : Nat) (st : CancState) (s : State) :
    cancPair (setCanc v a st s) v a = (cancPair s v a).map (·.entered st s.now) := by
  rw [cancPair_of_pairs (congrArg Canceller.pairs (setCanc_canc ..)), cancPair_updPair_self]

theorem cancPair_setCanc_other {v a w b : Nat} (h : pairKey v a ≠ pairKey w b) (st : CancState) (s : State) :
    cancPair (setCanc w b st s) v a = cancPair s v a := by
  rw [cancPair_of_pairs (congrArg Canceller.pairs (setCanc_canc ..)), cancPair_updPair_other h]

/-- No operation on a listed pair lists another. -/
theorem key_of_mem_setCanc {s : State} {v a k : Nat} {st : CancState} (h : k ∈ (setCanc v a st s).canc.pairs.map (·.1)) :
    k ∈ s.canc.pairs.map (·.1) := by
  rw [setCanc_canc] at h
  cases listed : cancPair s v a with
  | none => rwa [updPair, listed] at h
  | some x =>
    rw [updPair_of_some listed] at h
    rcases key_of_mem_tset h with rfl | before
    · exact key_of_cancPair listed
    · exact before

/-- Pairs that go are listed no longer; the rest of the canceller stays. -/
theorem dropPairs_canc (f : Nat → Bool) (s : State) :
    (dropPairs f s).canc = { s.canc with pairs := s.canc.pairs.filter (fun e => !f e.1) } := by
  have told (hit : Table CancPair) (u : State) :
      (hit.foldl (fun u e => cancChange (e.1 / 128) (e.1 % 128) e.2.state u) u).canc = u.canc := by
    induction hit generalizing u with
    | nil => rfl
    | cons e hit ih => rw [List.foldl_cons, ih, cancChange_canc]
  exact told ..

/-! ### What stays while pairs are trained and corrected -/

/-- The time, the ports, the state of power, the guard, the surveys and the receive bins as corrected are as before. -/
structure PairsOnly (s t : State) : Prop where
  now : t.now = s.now
  ports : t.ports = s.ports
  pwr : t.pwr = s.pwr
  guardX : t.canc.guardX = s.canc.guardX
  surveys : t.canc.surveys = s.canc.surveys
  rxBins : t.canc.rxBins = s.canc.rxBins

namespace PairsOnly

variable {s t u : State}

theorem refl (s : State) : PairsOnly s s := ⟨rfl, rfl, rfl, rfl, rfl, rfl⟩

theorem trans (a : PairsOnly s t) (b : PairsOnly t u) : PairsOnly s u :=
  ⟨b.now.trans a.now, b.ports.trans a.ports, b.pwr.trans a.pwr, b.guardX.trans a.guardX, b.surveys.trans a.surveys,
    b.rxBins.trans a.rxBins⟩

theorem of_calm (h : t.calm = s.calm) : PairsOnly s t :=
  have canc : t.canc = s.canc := congrArg Calm.canc h
  ⟨congrArg Calm.now h, congrArg Calm.ports h, congrArg Calm.pwr h, congrArg Canceller.guardX canc, congrArg Canceller.surveys canc,
    congrArg Canceller.rxBins canc⟩

theorem ite {a b : State} {p : Prop} [Decidable p] (ha : PairsOnly s a) (hb : PairsOnly s b) : PairsOnly s (if p then a else b) := by
  split <;> assumption

theorem foldl {α : Type} {f : State → α → State} (h : ∀ s x, PairsOnly s (f s x)) (l : List α) (s : State) :
    PairsOnly s (l.foldl f s) := by
  induction l generalizing s with
  | nil => exact refl s
  | cons x l ih => exact (h s x).trans (ih _)

theorem port (h : PairsOnly s t) (p : Nat) : port t p = Machine.port s p := by rw [Machine.port, h.ports, Machine.port]

theorem gridPeriod (h : PairsOnly s t) : gridPeriod t = Machine.gridPeriod s := by
  rw [Machine.gridPeriod, h.guardX, Machine.gridPeriod]

theorem gridPoint (h : PairsOnly s t) (n : Nat) : gridPoint t n = Machine.gridPoint s n := by
  rw [Machine.gridPoint, h.gridPeriod, Machine.gridPoint]

theorem nearGrid (h : PairsOnly s t) (n d : Nat) : nearGrid t n d = Machine.nearGrid s n d := by
  rw [Machine.nearGrid, h.gridPoint, Machine.nearGrid]

theorem coverable (h : PairsOnly s t) (p : Nat) : coverable t p = Machine.coverable s p := by
  rw [Machine.coverable, h.port, h.pwr, Machine.coverable]

theorem txSymbol (h : PairsOnly s t) (p n : Nat) : txSymbol t p n = Machine.txSymbol s p n := by
  rw [Machine.txSymbol, h.port, Machine.txSymbol]

theorem coveredTx (h : PairsOnly s t) (p g : Nat) : coveredTx t p g = Machine.coveredTx s p g := by
  rw [Machine.coveredTx, h.txSymbol, h.coverable, h.gridPeriod, Machine.coveredTx]

theorem coveredRx (h : PairsOnly s t) (p g : Nat) : coveredRx t p g = Machine.coveredRx s p g := by
  have heard : heardSymbols t p = heardSymbols s p := by rw [heardSymbols, h.port, heardSymbols]
  simp only [Machine.coveredRx, heard, h.coverable, h.gridPoint, h.nearGrid]

theorem receiving (h : PairsOnly s t) (p n : Nat) : receiving t p n = Machine.receiving s p n := by
  rw [Machine.receiving, h.port, Machine.receiving]

theorem fftStart (h : PairsOnly s t) (g : Nat) : fftStart t g = Machine.fftStart s g := by
  rw [Machine.fftStart, h.guardX, Machine.fftStart]

end PairsOnly

theorem updPair_pairsOnly (v a : Nat) (f : CancPair → CancPair) (s : State) : PairsOnly s (updPair v a f s) := by
  unfold updPair
  split
  · exact ⟨rfl, rfl, rfl, rfl, rfl, rfl⟩
  · exact .refl s

theorem cancChange_pairsOnly (v a : Nat) (st : CancState) (s : State) : PairsOnly s (cancChange v a st s) :=
  .trans (.of_calm (raisePort_calm ..)) ⟨rfl, rfl, rfl, rfl, rfl, rfl⟩

theorem setCanc_pairsOnly (v a : Nat) (st : CancState) (s : State) : PairsOnly s (setCanc v a st s) := by
  unfold setCanc
  split
  · exact .refl s
  · exact (updPair_pairsOnly ..).trans (.ite (cancChange_pairsOnly ..) (.refl _))

theorem dropPairs_pairsOnly (f : Nat → Bool) (s : State) : PairsOnly s (dropPairs f s) := by
  unfold dropPairs
  extract_lets hit canc dropped
  have unlisted : PairsOnly s dropped := ⟨rfl, rfl, rfl, rfl, rfl, rfl⟩
  exact unlisted.trans (.foldl (fun _ _ => cancChange_pairsOnly ..) hit dropped)

theorem noteShare_pairsOnly (v a at_ : Nat) (covered : Bool) (s : State) : PairsOnly s (noteShare v a at_ covered s) :=
  .ite (.refl s) (updPair_pairsOnly ..)

theorem recompute_pairsOnly (v a : Nat) (pre delay : Bool) (s : State) : PairsOnly s (recompute v a pre delay s) :=
  .trans (.ite (updPair_pairsOnly ..) (.refl s)) (.ite (updPair_pairsOnly ..) (.refl _))

theorem countUpdate_pairsOnly (v a : Nat) (s : State) : PairsOnly s (countUpdate v a s) := by
  unfold countUpdate
  split
  · exact .refl s
  · exact (updPair_pairsOnly ..).trans (recompute_pairsOnly ..)

theorem observeEcho_pairsOnly (v a : Nat) (o : Sight) (train : Bool) (s : State) : PairsOnly s (observeEcho v a o train s) := by
  unfold observeEcho
  split
  · exact .ite (.refl s) ((updPair_pairsOnly ..).trans (.ite (.refl _)
      ((updPair_pairsOnly ..).trans ((countUpdate_pairsOnly ..).trans (recompute_pairsOnly ..)))))
  · exact .refl s

theorem observeRx_pairsOnly (v a : Nat) (o : Sight) (train : Bool) (s : State) : PairsOnly s (observeRx v a o train s) := by
  unfold observeRx
  split
  · exact .ite (.refl s) (updPair_pairsOnly ..)
  · exact .refl s

theorem observePre_pairsOnly (v a : Nat) (o : Sight) (s : State) : PairsOnly s (observePre v a o s) := by
  unfold observePre
  split
  · exact updPair_pairsOnly ..
  · exact .refl s

theorem observeSelf_pairsOnly (v g : Nat) (o : Sight) (s : State) : PairsOnly s (observeSelf v g o s) := by
  unfold observeSelf
  split
  · exact .refl s
  · extract_lets as self canc learned
    have own : PairsOnly s learned := ⟨rfl, rfl, rfl, rfl, rfl, rfl⟩
    exact .ite (.refl s) (own.trans (.foldl (fun _ _ => countUpdate_pairsOnly ..) as learned))

theorem correctTx_pairsOnly (v g : Nat) (s : State) : PairsOnly s (correctTx v g s) := by
  unfold correctTx
  split
  · exact ⟨rfl, rfl, rfl, rfl, rfl, rfl⟩
  · exact .refl s

theorem correctTx_pairs (v g : Nat) (s : State) : (correctTx v g s).canc.pairs = s.canc.pairs := by
  unfold correctTx
  split <;> rfl

theorem correctRx_pairs (v a g : Nat) (engaged : Bool) (o : Sight) (s : State) :
    (correctRx v a g engaged o s).canc.pairs = s.canc.pairs := by
  unfold correctRx
  split
  · rfl
  · split <;> rfl

end Sys2Proof.Machine
end

section
/-! The rows of the canceller: the end of a survey (R192), a symbol (R187, R193, R196), a change of state and the two timers (R195,
R197). -/

namespace Sys2Proof.Machine

/-! ### CANCELLER_SURVEY_END -/

/-- The aggressors that a victim's survey selects, the strongest first (R192). -/
def surveyChoice (s : State) (v : Nat) (ties : List Nat) (sv : Survey) : List Nat :=
  ((((victimPairs s v).map (fun e => (e.1 % 128, termPower e.2.echo))).filter (fun r => decide (r.2 > 0) && cancPort s r.1
      && decide (r.2 ^ 20 * 10 ^ sv.minCoupling.toNat ≥ termPower (tget [] s.canc.selfEcho v) ^ 20))).foldl
    (fun l r => insertRatio ties r l) [] |>.map (·.1)).take sv.maxAggressors

/-- A pair that its survey selects enters Training, unless it is suspended. -/
def trainPair (v : Nat) (s : State) (a : Nat) : State :=
  match cancPair s v a with
  | some x => if x.state = .suspended then s else setCanc v a .training s
  | none => s

/-- A state as a survey selects its pairs. -/
def selectPairs (s : State) (v : Nat) (ties : List Nat) (sv : Survey) : State :=
  (surveyChoice s v ties sv).foldl (trainPair v)
    (dropPairs (fun k => k / 128 == v && !(surveyChoice s v ties sv).contains (k % 128))
      { advanceTo sv.ends s with canc.surveys := tdel s.canc.surveys v })

/-- A survey's end is the selection of its pairs, and its event (R192). -/
theorem execCancellerSurveyEnd_selects {s : State} {v : Nat} {sv : Survey} (present : v < s.part.ports)
    (runs : (s.canc.surveys.find? (fun e => e.1 == v)).map (·.2) = some sv) (ties : List Nat) :
    execCancellerSurveyEnd v ties s =
      .next (raisePort v 4 3 ((surveyChoice s v ties sv).headD 0) (cancCode .training) (selectPairs s v ties sv)) := by
  unfold execCancellerSurveyEnd
  rw [if_neg (by omega), runs]
  rfl

theorem mem_of_mem_insertRatio {ties : List Nat} {x r : Nat × Nat} {l : List (Nat × Nat)} (h : r ∈ insertRatio ties x l) :
    r = x ∨ r ∈ l := by
  induction l with
  | nil => simpa [insertRatio] using h
  | cons y l ih =>
    unfold insertRatio at h
    split at h
    · simpa using h
    · simp only [List.mem_cons] at h ⊢
      tauto

theorem mem_of_mem_insertRatios {ties : List Nat} {r : Nat × Nat} {rs l : List (Nat × Nat)}
    (h : r ∈ rs.foldl (fun l r => insertRatio ties r l) l) : r ∈ rs ∨ r ∈ l := by
  induction rs generalizing l with
  | nil => exact .inr h
  | cons x rs ih =>
    rcases ih h with later | listed
    · exact .inl (List.mem_cons_of_mem _ later)
    · rcases mem_of_mem_insertRatio listed with rfl | before
      · exact .inl List.mem_cons_self
      · exact .inr before

/-- Each one selected meets R184 and has a pair whose coupling is strong enough. -/
theorem of_mem_surveyChoice {s : State} {v a : Nat} {ties : List Nat} {sv : Survey} (h : a ∈ surveyChoice s v ties sv) :
    cancPort s a = true ∧ ∃ e ∈ victimPairs s v, e.1 = pairKey v a ∧
      termPower (tget [] s.canc.selfEcho v) ^ 20 ≤ termPower e.2.echo ^ 20 * 10 ^ sv.minCoupling.toNat := by
  obtain ⟨r, sorted, rfl⟩ := List.mem_map.mp (List.mem_of_mem_take h)
  have passed := (mem_of_mem_insertRatios sorted).resolve_right List.not_mem_nil
  obtain ⟨listed, good⟩ := List.mem_filter.mp passed
  obtain ⟨e, paired, rfl⟩ := List.mem_map.mp listed
  simp only [Bool.and_eq_true, decide_eq_true_eq] at good
  obtain ⟨⟨-, port⟩, strong⟩ := good
  have victim : e.1 / 128 = v := by simpa using (List.mem_filter.mp paired).2
  exact ⟨port, e, paired, by rw [pairKey]; omega, strong⟩

theorem trainPair_pairsOnly (v : Nat) (s : State) (a : Nat) : PairsOnly s (trainPair v s a) := by
  unfold trainPair
  split
  · exact .ite (.refl s) (setCanc_pairsOnly ..)
  · exact .refl s

theorem key_of_mem_trainPair {v a k : Nat} {s : State} (h : k ∈ (trainPair v s a).canc.pairs.map (·.1)) :
    k ∈ s.canc.pairs.map (·.1) := by
  unfold trainPair at h
  split at h
  · split at h
    · exact h
    · exact key_of_mem_setCanc h
  · exact h

theorem key_of_mem_trainPairs {v k : Nat} {as : List Nat} {s : State} (h : k ∈ (as.foldl (trainPair v) s).canc.pairs.map (·.1)) :
    k ∈ s.canc.pairs.map (·.1) := by
  induction as generalizing s with
  | nil => exact h
  | cons a as ih => exact key_of_mem_trainPair (ih h)

/-- A pair, where there is one, is in Training or Suspended. -/
def Settled (v a : Nat) (s : State) : Prop := ∀ x, cancPair s v a = some x → x.state = .training ∨ x.state = .suspended

theorem trainPair_settles (v a : Nat) (s : State) : Settled v a (trainPair v s a) := by
  intro y paired
  unfold trainPair at paired
  split at paired
  · rename_i x listed
    split at paired
    · rename_i suspended
      rw [listed] at paired
      cases paired
      exact .inr suspended
    · rw [cancPair_setCanc_self, listed] at paired
      cases paired
      exact .inl rfl
  · rename_i unlisted
    rw [unlisted] at paired
    cases paired

theorem Settled.trainPair {v a : Nat} {s : State} (h : Settled v a s) (b : Nat) : Settled v a (trainPair v s b) := by
  by_cases same : a = b
  · exact same ▸ trainPair_settles v a s
  · have other : pairKey v a ≠ pairKey v b := fun key => same (pairKey_inj key)
    have pair : cancPair (Machine.trainPair v s b) v a = cancPair s v a := by
      unfold Machine.trainPair
      split
      · split
        · rfl
        · exact cancPair_setCanc_other other ..
      · rfl
    intro y paired
    exact h y (pair ▸ paired)

theorem Settled.trainPairs {v a : Nat} {s : State} (h : Settled v a s) (as : List Nat) :
    Settled v a (as.foldl (Machine.trainPair v) s) := by
  induction as generalizing s with
  | nil => exact h
  | cons b as ih => exact ih (h.trainPair b)

theorem trainPairs_settle {v a : Nat} {as : List Nat} (listed : a ∈ as) (s : State) : Settled v a (as.foldl (trainPair v) s) := by
  induction as generalizing s with
  | nil => cases listed
  | cons b as ih =>
    rcases List.mem_cons.mp listed with rfl | later
    · exact (trainPair_settles v a s).trainPairs as
    · exact ih later _

/-- The victim's pairs left are with aggressors that the survey selected. -/
theorem chosen_of_key_selectPairs {s : State} {v k : Nat} {ties : List Nat} {sv : Survey}
    (h : k ∈ (selectPairs s v ties sv).canc.pairs.map (·.1)) (victim : k / 128 = v) : k % 128 ∈ surveyChoice s v ties sv := by
  have kept := key_of_mem_trainPairs h
  rw [dropPairs_canc] at kept
  obtain ⟨e, listed, rfl⟩ := List.mem_map.mp kept
  simpa [victim] using (List.mem_filter.mp listed).2

theorem selectPairs_after (s : State) (v : Nat) (ties : List Nat) (sv : Survey) :
    PairsOnly { advanceTo sv.ends s with canc.surveys := tdel s.canc.surveys v } (selectPairs s v ties sv) :=
  (dropPairs_pairsOnly ..).trans (.foldl (trainPair_pairsOnly v) _ _)

theorem nodup_eraseDups (l : List Nat) : l.eraseDups.Nodup := by
  induction h : l.length using Nat.strong_induction_on generalizing l with
  | _ n ih =>
    cases l with
    | nil => simp
    | cons a l =>
      rw [List.eraseDups_cons, List.nodup_cons]
      refine ⟨by simp [List.mem_eraseDups], ih _ ?_ _ rfl⟩
      exact h ▸ Nat.lt_succ_of_le (List.length_filter_le ..)

/-- No more distinct pairs are left than aggressors may be selected. -/
theorem selectPairs_few (s : State) (v : Nat) (ties : List Nat) (sv : Survey) :
    ((victimPairs (selectPairs s v ties sv) v).map (·.1)).eraseDups.length ≤ sv.maxAggressors := by
  have chosen : ((victimPairs (selectPairs s v ties sv) v).map (·.1)).eraseDups ⊆ (surveyChoice s v ties sv).map (pairKey v) := by
    intro k listed
    obtain ⟨e, paired, rfl⟩ := List.mem_map.mp (List.mem_eraseDups.mp listed)
    obtain ⟨kept, victim⟩ := List.mem_filter.mp paired
    have victim : e.1 / 128 = v := by simpa using victim
    refine List.mem_map.mpr ⟨e.1 % 128, chosen_of_key_selectPairs (List.mem_map_of_mem kept) victim, ?_⟩
    rw [pairKey]
    omega
  calc _ ≤ ((surveyChoice s v ties sv).map (pairKey v)).length := ((nodup_eraseDups _).subperm chosen).length_le
    _ ≤ sv.maxAggressors := by rw [List.length_map, surveyChoice, List.length_take]; exact Nat.min_le_left ..

/-- A survey's end leaves its victim with pairs in Training or Suspended alone, as the survey selects them (R192). -/
theorem selectPairs_selects {s : State} {v a : Nat} {ties : List Nat} {sv : Survey} {y : CancPair} (small : a < 128)
    (pair : cancPair (selectPairs s v ties sv) v a = some y) : (y.state = .training ∨ y.state = .suspended) ∧ cancPort s a = true ∧
      ∃ x ∈ victimPairs s v, x.1 = pairKey v a ∧
        termPower (tget [] s.canc.selfEcho v) ^ 20 ≤ termPower x.2.echo ^ 20 * 10 ^ sv.minCoupling.toNat := by
  have chosen : a ∈ surveyChoice s v ties sv := by
    have aggressor : pairKey v a % 128 = a := by rw [pairKey]; omega
    exact aggressor ▸ chosen_of_key_selectPairs (key_of_cancPair pair) (by rw [pairKey]; omega)
  exact ⟨trainPairs_settle chosen _ y pair, of_mem_surveyChoice chosen⟩

/-! ### Training and correction (R182, R193) -/

/-- What a symbol's observation of E_va leaves of a pair (R193). -/
def echoTerm (x : CancPair) : Nat × Nat × Table Cpx := (x.counted, x.echoObs, x.echo)

theorem echoTerm_recompute (v a : Nat) (pre delay : Bool) (s : State) :
    (cancPair (recompute v a pre delay s) v a).map echoTerm = (cancPair s v a).map echoTerm := by
  unfold recompute
  extract_lets self compensated
  have keeps : (cancPair compensated v a).map echoTerm = (cancPair s v a).map echoTerm := by
    unfold compensated
    split
    · exact map_cancPair_updPair (fun _ => by simp only [echoTerm]) ..
    · rfl
  split
  · exact (map_cancPair_updPair (fun _ => by simp only [echoTerm]) ..).trans keeps
  · exact keeps

theorem echoTerm_countUpdate (v a : Nat) (s : State) :
    (cancPair (countUpdate v a s) v a).map echoTerm = (cancPair s v a).map echoTerm := by
  unfold countUpdate
  split
  · rfl
  · exact (echoTerm_recompute ..).trans (map_cancPair_updPair (fun _ => by simp only [echoTerm]) ..)

theorem echoTerm_observeRx (v a : Nat) (o : Sight) (train : Bool) (s : State) :
    (cancPair (observeRx v a o train s) v a).map echoTerm = (cancPair s v a).map echoTerm := by
  unfold observeRx
  split
  · split
    · rfl
    · exact map_cancPair_updPair (fun _ => by simp only [echoTerm]) ..
  · rfl

/-- E_va moves by one LMS step on what is left of the victim's bins, while the victim neither sends nor receives (R193). -/
theorem echoTerm_observeEcho {s : State} {v a : Nat} {x : CancPair} {o : Sight} {z : Carried} (listed : cancPair s v a = some x)
    (unsent : o.own = none) (source : o.tx = some z) (free : o.free = true) :
    (cancPair (observeEcho v a o true s) v a).map echoTerm =
      some (x.counted + 1, x.echoObs + 1, lmsTerm 4 3 x.delay (leftOver x.echo 4 3 x.delay o.y z) z x.echo) := by
  have whole : lessOwn (tget [] s.canc.selfEcho v) o = o.y := by rw [lessOwn, unsent]
  unfold observeEcho
  rw [source, listed]
  dsimp only
  rw [if_neg (by simp [free]), if_neg (by simp), echoTerm_recompute, echoTerm_countUpdate, cancPair_updPair_self,
    cancPair_updPair_self, listed, whole]
  rfl

/-- What the pair's terms, the victim's own term and the counts take from a symbol that is corrected (R193, R196). -/
def trainOn (v a g : Nat) (o : Sight) (s : State) : State :=
  observeSelf v g o (observePre v a o (observeRx v a o true (observeEcho v a o true s)))

theorem trainOn_pairsOnly (v a g : Nat) (o : Sight) (s : State) : PairsOnly s (trainOn v a g o s) :=
  (observeEcho_pairsOnly ..).trans ((observeRx_pairsOnly ..).trans ((observePre_pairsOnly ..).trans (observeSelf_pairsOnly ..)))

theorem echoTerm_trainOn {s : State} {v a : Nat} {x : CancPair} {o : Sight} {z : Carried} (listed : cancPair s v a = some x)
    (unsent : o.own = none) (source : o.tx = some z) (free : o.free = true) (g : Nat) :
    (cancPair (trainOn v a g o s) v a).map echoTerm =
      some (x.counted + 1, x.echoObs + 1, lmsTerm 4 3 x.delay (leftOver x.echo 4 3 x.delay o.y z) z x.echo) := by
  have alone (u : State) : observeSelf v g o (observePre v a o u) = u := by
    simp only [observeSelf, observePre, unsent]
  rw [trainOn, alone, echoTerm_observeRx, echoTerm_observeEcho listed unsent source free]

theorem heldBins_tset_self (t : Table BinSet) (v at_ : Nat) (bins : Carried) : heldBins (tset t v ⟨at_, bins⟩) v at_ = some bins := by
  rw [heldBins, find?_tset_self]
  exact if_pos rfl

/-- An engaged pair's echo term leaves the victim's covered receive symbol (R182, R187, R196). -/
theorem heldBins_correctRx {s : State} {v a g : Nat} {x : CancPair} {o : Sight} {z : Carried} (listed : cancPair s v a = some x)
    (covered : coveredRx s v g = true) (fresh : heldBins s.canc.rxBins v (fftStart s g) = none) (source : o.tx = some z)
    (unheard : o.rx = none) :
    heldBins (correctRx v a g true o s).canc.rxBins v (fftStart s g) = some (leftOver x.echo 4 3 x.delay o.y z) := by
  unfold correctRx
  rw [listed]
  dsimp only
  rw [if_neg (by simp [covered]), fresh, source, unheard]
  exact heldBins_tset_self ..

/-! ### CANCELLER_SYMBOL -/

/-- A symbol's share is noted in the pair, and nothing else of it changes (R204). -/
theorem cancPair_noteShare {s : State} {v a : Nat} {x : CancPair} (listed : cancPair s v a = some x) (at_ : Nat) (covered : Bool) :
    ∃ r, cancPair (noteShare v a at_ covered s) v a = some { x with recent := r } := by
  unfold noteShare
  split
  · exact ⟨_, listed⟩
  · exact ⟨_, by rw [cancPair_updPair_self, listed]; rfl⟩

theorem parityFail_canc (area unit_ : Nat) (slot : Bool) (s : State) : (parityFail area unit_ slot s).canc = s.canc := by
  refine (raiseSys_canc ..).trans ?_
  rw [apply_ite State.canc, bump_canc, ite_self]

/-- A coefficient read that fails parity leaves the pair without coefficients, in Training unless it is suspended (R191). -/
theorem cancPair_coefParity {s : State} {v a : Nat} {x : CancPair} (listed : cancPair s v a = some x) :
    ∃ y, cancPair (coefParity v a s) v a = some y ∧ y.echo = [] ∧ y.rx = [] ∧ y.pre = [] ∧
      y.state = if x.state = .suspended then .suspended else .training := by
  unfold coefParity
  extract_lets failed zeroed told
  have zero : cancPair zeroed v a = some { x with echo := [], rx := [], pre := [] } := by
    rw [cancPair_updPair_self, cancPair_of_pairs (congrArg Canceller.pairs (parityFail_canc ..)), listed]
    rfl
  rw [cancPair_of_pairs (congrArg Canceller.pairs (raiseSys_canc ..))]
  by_cases suspended : x.state = .suspended
  · exact ⟨_, (congrArg (cancPair · v a) (if_pos (by simp [zero, suspended]))).trans zero, rfl, rfl, rfl, by simp [suspended]⟩
  · have trained := (cancPair_setCanc_self v a .training zeroed).trans (congrArg (Option.map _) zero)
    exact ⟨_, (congrArg (cancPair · v a) (if_neg (by simp [zero, suspended]))).trans trained, rfl, rfl, rfl, (if_neg suspended).symm⟩

/-- What a symbol shows of a pair, of the coverage in one state and the victim's own bins as another holds them. -/
def sightAt (s u : State) (v a : Nat) (sym : CancSymbol) : Sight :=
  let g := gridPoint s sym.at_
  { y := binsOf sym.victim, own := (coveredTx s v g).bind fun _ => heldBins u.canc.txBins v g, tx := coveredTx s a g,
    rx := if coveredRx s a g then some (binsOf sym.aggressor) else none, free := !receiving s v g }

section
variable {s : State} {v a : Nat} {x : CancPair} (victim : v < s.part.ports) (aggressor : a < s.part.ports)
  (listed : cancPair s v a = some x) (staying : s.canc.leaving.contains v = false)
include victim aggressor listed staying

theorem execCancellerSymbol_unsound {sym : CancSymbol} (parity : sym.parity = true) :
    ∃ covered, execCancellerSymbol v a sym s = .next (coefParity v a (noteShare v a sym.at_ covered s)) := by
  unfold execCancellerSymbol
  rw [if_neg (by simp; omega), symbolBoundary, staying]
  dsimp only
  rw [if_neg Bool.false_ne_true, listed]
  dsimp only
  rw [if_pos parity]
  exact ⟨_, rfl⟩

/-- A coefficient read that fails parity zeroes the pair (R191). -/
theorem execCancellerSymbol_zeroes {sym : CancSymbol} (parity : sym.parity = true) :
    ∃ t, execCancellerSymbol v a sym s = .next t ∧ ∃ y, cancPair t v a = some y ∧ y.echo = [] ∧ y.rx = [] ∧ y.pre = [] ∧
      y.state = if x.state = .suspended then .suspended else .training := by
  obtain ⟨covered, runs⟩ := execCancellerSymbol_unsound victim aggressor listed staying parity
  obtain ⟨r, noted⟩ := cancPair_noteShare listed sym.at_ covered
  exact ⟨_, runs, cancPair_coefParity (x := { x with recent := r }) noted⟩

/-- A symbol near the grid of a pair that is not suspended is corrected and trained on. -/
theorem execCancellerSymbol_trains {sym : CancSymbol} (sound : sym.parity = false) (near : nearGrid s sym.at_ 64 = true)
    (trains : x.state ≠ .suspended) : ∃ u r, PairsOnly s u ∧ cancPair u v a = some { x with recent := r } ∧
      execCancellerSymbol v a sym s = .next (trainOn v a (gridPoint s sym.at_) (sightAt s u v a sym)
        (correctRx v a (gridPoint s sym.at_) (x.state == .engaged) (sightAt s u v a sym) u)) := by
  unfold execCancellerSymbol
  rw [if_neg (by simp; omega), symbolBoundary, staying]
  dsimp only
  rw [if_neg Bool.false_ne_true, listed]
  dsimp only
  generalize (nearGrid s sym.at_ 64 && ((coveredTx s v (gridPoint s sym.at_)).isSome || coveredRx s v (gridPoint s sym.at_))) = covered
  obtain ⟨r, pair⟩ := cancPair_noteShare listed sym.at_ covered
  have noted := noteShare_pairsOnly v a sym.at_ covered s
  have corrected := noted.trans (correctTx_pairsOnly v (gridPoint s sym.at_) _)
  refine ⟨_, r, corrected, (cancPair_of_pairs (correctTx_pairs ..) v a).trans pair, ?_⟩
  rw [if_neg (by simp [sound]), if_neg (by simp [noted.nearGrid, near]), if_neg (by simp [trains])]
  simp only [corrected.coveredTx, corrected.coveredRx, corrected.receiving, bne_iff_ne.mpr trains, if_true]
  rfl

/-- A covered symbol of the aggressor moves E_va while the victim neither sends nor receives (R193). -/
theorem execCancellerSymbol_moves {sym : CancSymbol} {z : Carried} (sound : sym.parity = false) (near : nearGrid s sym.at_ 64 = true)
    (trains : x.state ≠ .suspended) (idle : receiving s v (gridPoint s sym.at_) = false)
    (unsent : coveredTx s v (gridPoint s sym.at_) = none) (source : coveredTx s a (gridPoint s sym.at_) = some z) :
    ∃ t, execCancellerSymbol v a sym s = .next t ∧ ∃ y, cancPair t v a = some y ∧ y.counted = x.counted + 1 ∧
      y.echoObs = x.echoObs + 1 ∧ y.echo = lmsTerm 4 3 x.delay (leftOver x.echo 4 3 x.delay (binsOf sym.victim) z) z x.echo := by
  obtain ⟨u, r, -, pair, runs⟩ := execCancellerSymbol_trains victim aggressor listed staying sound near trains
  have corrected := (cancPair_of_pairs
    (correctRx_pairs v a (gridPoint s sym.at_) (x.state == .engaged) (sightAt s u v a sym) u) v a).trans pair
  have trained := echoTerm_trainOn (o := sightAt s u v a sym) corrected
    (by simp only [sightAt, unsent, Option.bind_none]) source (by simp only [sightAt, idle, Bool.not_false]) (gridPoint s sym.at_)
  obtain ⟨y, left, terms⟩ := Option.map_eq_some_iff.mp trained
  simp only [echoTerm, Prod.mk.injEq] at terms
  obtain ⟨counted, obs, echo⟩ := terms
  exact ⟨_, runs, y, left, counted, obs, echo⟩

/-- A victim's covered receive symbol leaves an engaged pair less the echo of its aggressor's (R182, R187, R196). -/
theorem execCancellerSymbol_corrects {sym : CancSymbol} {z : Carried} (sound : sym.parity = false) (near : nearGrid s sym.at_ 64 = true)
    (engaged : x.state = .engaged) (covered : coveredRx s v (gridPoint s sym.at_) = true)
    (unheard : coveredRx s a (gridPoint s sym.at_) = false)
    (fresh : heldBins s.canc.rxBins v (fftStart s (gridPoint s sym.at_)) = none) (source : coveredTx s a (gridPoint s sym.at_) = some z) :
    ∃ t, execCancellerSymbol v a sym s = .next t ∧
      heldBins t.canc.rxBins v (fftStart s (gridPoint s sym.at_)) = some (leftOver x.echo 4 3 x.delay (binsOf sym.victim) z) := by
  obtain ⟨u, r, only, pair, runs⟩ := execCancellerSymbol_trains victim aggressor listed staying sound near (by simp [engaged])
  refine ⟨_, runs, ?_⟩
  rw [(trainOn_pairsOnly ..).rxBins, engaged, ← only.fftStart]
  exact heldBins_correctRx (x := { x with recent := r }) pair (by rw [only.coveredRx, covered])
    (by rw [only.rxBins, only.fftStart, fresh]) source (by simp only [sightAt, unheard, Bool.false_eq_true, if_false])

end

/-! ### CANCELLER_STATE_CHANGE and the timers -/

section
variable {s : State} {v a : Nat} {x : CancPair}

/-- The state that the gain gives a pair in Training (R195). -/
theorem cancNext_training (training : x.state = .training) (enough : 256 ≤ x.counted) :
    cancNext s v a x = some (if 24 ≤ (pairGains x).1 ∧ silent s = false then .engaged else .training) := by
  simp [cancNext, training, Nat.not_lt.mpr enough]

theorem cancNext_engaged (engaged : x.state = .engaged) (enough : 4096 ≤ x.counted) :
    cancNext s v a x = some (if (pairGains x).1 < 4 then .disengaged else .engaged) := by
  simp [cancNext, engaged, Nat.not_lt.mpr enough]

theorem cancNext_surveyed (suspended : x.state = .suspended) (clear : pairCauses s v a = []) (surveyed : thas s.canc.surveys v = true) :
    cancNext s v a x = some .surveying := by
  simp [cancNext, suspended, clear, surveyed]

theorem cancNext_resumed (suspended : x.state = .suspended) (clear : pairCauses s v a = []) (unsurveyed : thas s.canc.surveys v = false)
    (enough : 256 ≤ x.counted) :
    cancNext s v a x = some (if 24 ≤ (pairGains x).1 ∧ silent s = false then .engaged else .training) := by
  simp [cancNext, suspended, clear, unsurveyed, Nat.not_lt.mpr enough]

/-- No change while the symbols counted do not suffice. -/
theorem cancNext_few (few : x.counted < if x.state = .engaged then 4096 else 256) (unsurveyed : thas s.canc.surveys v = false) :
    cancNext s v a x = none := by
  unfold cancNext
  cases state : x.state <;> simp only [state, reduceCtorEq, if_false, if_true] at few ⊢
  case training => exact if_pos few
  case engaged => exact if_pos few
  case suspended =>
    rw [unsurveyed, if_neg Bool.false_ne_true, if_pos few, ite_self]

end

/-- A pair as it takes the state that its gain gives it: measured afresh, where its survey does not go on (R195). -/
def takeNext (v a : Nat) (x : CancPair) (n : CancState) (s : State) : State :=
  let s := if n = .surveying then s else takeGains v a s
  if n = x.state then s else setCanc v a n s

theorem state_takeNext {s : State} {v a : Nat} {x : CancPair} (listed : cancPair s v a = some x) (n : CancState) :
    (cancPair (takeNext v a x n s) v a).map (·.state) = some n := by
  unfold takeNext
  extract_lets measured
  have unmoved : (cancPair measured v a).map (·.state) = some x.state := by
    unfold measured
    split
    · rw [listed]; rfl
    · exact (map_cancPair_updPair (by exact fun _ => rfl) ..).trans (congrArg (Option.map _) listed)
  split
  · rename_i same
    rw [unmoved, same]
  · obtain ⟨y, pair, -⟩ := Option.map_eq_some_iff.mp unmoved
    rw [cancPair_setCanc_self, pair]
    rfl

section
variable {s : State} {v a : Nat} {x : CancPair} (victim : v < s.part.ports) (aggressor : a < s.part.ports)
  (listed : cancPair s v a = some x)
include victim aggressor listed

theorem execCancellerStateChange_eq (was goal : Nat) : execCancellerStateChange v a was goal s =
    .next ((cancNext s v a x).elim s fun n => if cancCode x.state != was || cancCode n != goal then s else takeNext v a x n s) := by
  unfold execCancellerStateChange
  rw [if_neg (by simp; omega), listed]
  dsimp only
  cases cancNext s v a x <;> rfl

/-- Without a change that the gain gives, none is made (R195). -/
theorem execCancellerStateChange_none (next : cancNext s v a x = none) (was goal : Nat) :
    execCancellerStateChange v a was goal s = .next s := by
  rw [execCancellerStateChange_eq victim aggressor listed, next, Option.elim_none]

/-- Nor is any other change than that one (log 176). -/
theorem execCancellerStateChange_other {n : CancState} (next : cancNext s v a x = some n) {was goal : Nat}
    (other : was ≠ cancCode x.state ∨ goal ≠ cancCode n) : execCancellerStateChange v a was goal s = .next s := by
  rw [execCancellerStateChange_eq victim aggressor listed, next, Option.elim_some, if_pos]
  rw [Bool.or_eq_true, bne_iff_ne, bne_iff_ne]
  exact other.imp Ne.symm Ne.symm

/-- The change that the gain gives is made (R195). -/
theorem execCancellerStateChange_changes {n : CancState} (next : cancNext s v a x = some n) :
    ∃ t, execCancellerStateChange v a (cancCode x.state) (cancCode n) s = .next t ∧ (cancPair t v a).map (·.state) = some n := by
  rw [execCancellerStateChange_eq victim aggressor listed, next, Option.elim_some, if_neg (by simp)]
  exact ⟨_, rfl, state_takeNext listed n⟩

theorem execCancellerDisengagedTimeout_trains (disengaged : x.state = .disengaged) :
    execCancellerDisengagedTimeout v a s = .next (setCanc v a .training (advanceTo (x.since + secs 10) s)) := by
  unfold execCancellerDisengagedTimeout
  rw [if_neg (by simp; omega), listed]
  exact if_neg (by simp [disengaged])

theorem execCancellerSuspendLong_zeroes {k e : Nat} (causes : x.causes = [(k, e)]) (holds : (pairCauses s v a).contains k = true) :
    execCancellerSuspendLong v a s = .next (updPair v a (fun x => { x with echo := [], rx := [] }) (advanceTo (e + secs 1) s)) := by
  unfold execCancellerSuspendLong
  rw [if_neg (by simp; omega), listed]
  dsimp only
  rw [causes, List.filter_cons_of_pos (by exact holds)]
  simp

end

end Sys2Proof.Machine
end

section
/-! The obligation of the canceller's pairs (O19), by its five rows. -/

namespace Sys2Proof

open Machine

/-- Settles O19: each row of the canceller, from what it leaves of the pair. -/
theorem cancellerTracksPairs : Obligations.CancellerTracksPairs := by
  refine ⟨?_, ?_, ?_, ?_, ?_⟩
  · intro s v ties sv present runs
    have after := (selectPairs_after s v ties sv).trans (.of_calm (raisePort_calm v 4 3 ((surveyChoice s v ties sv).headD 0)
      (cancCode .training) _))
    refine ⟨_, execCancellerSurveyEnd_selects present runs ties, ?_, after.now, ?_, fun a y small pair => ?_⟩
    · rw [after.surveys]
      exact thas_tdel_self ..
    · rw [victimPairs, raisePort_canc]
      exact selectPairs_few s v ties sv
    · rw [cancPair_of_pairs (congrArg Canceller.pairs (raisePort_canc ..))] at pair
      exact selectPairs_selects small pair
  · intro s v a x sym victim aggressor listed staying
    exact ⟨fun parity => execCancellerSymbol_zeroes victim aggressor listed staying parity,
      fun sound near trains idle unsent z source =>
        execCancellerSymbol_moves victim aggressor listed staying sound near trains idle unsent source,
      fun sound near engaged covered unheard fresh z source =>
        execCancellerSymbol_corrects victim aggressor listed staying sound near engaged covered unheard fresh source⟩
  · intro s v a x victim aggressor listed changes judged
    have change {n : CancState} (next : cancNext s v a x = some n) : changes n :=
      ⟨execCancellerStateChange_changes victim aggressor listed next,
        fun _ _ other => execCancellerStateChange_other victim aggressor listed next other⟩
    exact ⟨fun training enough => change (cancNext_training training enough),
      fun engaged enough => change (cancNext_engaged engaged enough),
      fun suspended clear surveyed => change (cancNext_surveyed suspended clear surveyed),
      fun suspended clear unsurveyed enough => change (cancNext_resumed suspended clear unsurveyed enough),
      fun few unsurveyed => execCancellerStateChange_none victim aggressor listed (cancNext_few few unsurveyed)⟩
  · intro s v a x victim aggressor listed disengaged
    refine ⟨_, execCancellerDisengagedTimeout_trains victim aggressor listed disengaged, ?_, (setCanc_pairsOnly ..).now⟩
    rw [cancPair_setCanc_self, cancPair_advanceTo, listed]
    rfl
  · intro s v a k e x victim aggressor listed causes holds
    refine ⟨_, execCancellerSuspendLong_zeroes victim aggressor listed causes holds, (updPair_pairsOnly ..).now, ?_⟩
    rw [cancPair_updPair_self, cancPair_advanceTo, listed]
    rfl

end Sys2Proof
end

section
/-! canceller.configure, canceller.setguard and canceller.status (R201 to R204). -/

namespace Sys2Proof.Machine

variable {s : State} {c : Caller} {req : Bytes}

/-! ### canceller.configure -/

/-- A request's candidate at a place. -/
def candidateAt (req : Bytes) (i : Nat) : Nat := rd req (8 + 2 * i) 2

/-- Whether the candidate at a place meets R184: another port of the canceller's, not named before. -/
def candidateMeets (s : State) (req : Bytes) (i : Nat) : Bool :=
  candidateAt req i != rd req 0 2 && cancPort s (candidateAt req i)
    && !((List.range i).any (fun j => candidateAt req j == candidateAt req i))

/-- The candidates that meet R184, in their order. -/
def candidatesMeeting (s : State) (req : Bytes) : List Nat :=
  ((List.range (rd req 3 1)).filter (candidateMeets s req)).map (candidateAt req)

/-- The response's entries with each candidate in its own. -/
def ownEntries (s : State) (req : Bytes) : List (Option Nat) :=
  (List.range (rd req 3 1)).map (fun i => if candidateMeets s req i = true then some (candidateAt req i) else none)

theorem filterMap_ownEntries (s : State) (req : Bytes) : (ownEntries s req).filterMap id = candidatesMeeting s req := by
  rw [ownEntries, List.filterMap_map, candidatesMeeting]
  induction List.range (rd req 3 1) with
  | nil => rfl
  | cons i l ih =>
    by_cases meets : candidateMeets s req i = true
    · rw [List.filter_cons_of_pos meets, List.map_cons, List.filterMap_cons_some (by simp [meets]; rfl), ih]
    · rw [List.filter_cons_of_neg meets, List.filterMap_cons_none (by simp [meets]), ih]

/-- The response's entries where pairs are formed without a survey (log 165): with more than 8 candidates the first 8 that meet R184. -/
def formedEntries (s : State) (req : Bytes) : List (Option Nat) :=
  if rd req 3 1 ≤ 8 then ownEntries s req else ((candidatesMeeting s req).take 8).map some

/-- A request that canceller.configure takes: an open victim that meets R184, its fields in range and no survey running. -/
structure Configures (s : State) (req : Bytes) : Prop where
  present : rd req 0 2 < s.part.ports
  port : cancPort s (rd req 0 2) = true
  unsurveyed : thas s.canc.surveys (rd req 0 2) = false
  most : rd req 3 1 ≤ 16
  flags : rd req 2 1 ≤ 3 ∧ (bit (rd req 2 1) 0 = false → rd req 3 1 = 0)
  aggressors : 1 ≤ rd req 4 1 ∧ rd req 4 1 ≤ 8
  coupling : 20 ≤ rd req 5 1 ∧ rd req 5 1 ≤ 160
  candidates : ∀ i, i < 16 → if i < rd req 3 1 then candidateAt req i < s.part.ports else candidateAt req i = 0xFFFF

/-- The sixteen places of a request. -/
def candidateList (req : Bytes) : List Nat := (List.range 16).map (candidateAt req)

theorem candidateList_getD {i : Nat} (place : i < 16) (d : Nat) : (candidateList req).getD i d = candidateAt req i := by
  simp [candidateList, place]

/-- What a place adds to the pairs, of the request's list. -/
theorem candidateMeets_eq {i : Nat} (place : i < 16) : candidateMeets s req i =
    (let a := (candidateList req).getD i 0xFFFF
     a != rd req 0 2 && cancPort s a && !((candidateList req).take i).contains a) := by
  have before : ((candidateList req).take i).contains (candidateAt req i) =
      (List.range i).any (fun j => candidateAt req j == candidateAt req i) := by
    rw [candidateList, ← List.map_take, List.take_range, Nat.min_eq_left place.le, List.contains_eq_any_beq, List.any_map]
    simp only [Function.comp_def, Bool.beq_comm]
  simp only [candidateList_getD place, before, candidateMeets]

namespace Configures

variable (h : Configures s req)
include h

/-- The places beyond the candidates hold 0xFFFF. -/
theorem unused : ((candidateList req).drop (rd req 3 1)).any (· != 0xFFFF) = false := by
  refine List.any_eq_false.mpr fun x rest => ?_
  obtain ⟨i, below, rfl⟩ := List.mem_drop_iff_getElem.mp rest
  have place : rd req 3 1 + i < 16 := by simpa [candidateList, Nat.add_comm i] using below
  have free := h.candidates _ place
  rw [if_neg (by omega)] at free
  simpa [candidateList] using free

theorem placed : ((candidateList req).take (rd req 3 1)).any (fun a => decide (a ≥ s.part.ports)) = false := by
  refine List.any_eq_false.mpr fun x used => ?_
  obtain ⟨i, below, rfl⟩ := List.mem_take_iff_getElem.mp used
  have place : i < rd req 3 1 ∧ i < 16 := by simpa [candidateList] using below
  have present := h.candidates i place.2
  rw [if_pos place.1] at present
  simpa [candidateList] using present

theorem disabled : (!bit (rd req 2 1) 0 && rd req 3 1 != 0) = false := by
  cases enabled : bit (rd req 2 1) 0 with
  | true => rfl
  | false => simp [h.flags.2 enabled]

theorem opened : isOpen s (rd req 0 2) = true := by
  have port := h.port
  simp only [cancPort, Bool.and_eq_true] at port
  exact port.1.2

end Configures

/-- What canceller.configure does with a request that it takes, by its flags. -/
theorem cancellerConfigureBody_of_configures (h : Configures s req) :
    cancellerConfigureBody req s =
      if (!bit (rd req 2 1) 0) = true then
        ({ s with canc.leaving := s.canc.leaving ++ [rd req 0 2], canc.next := tdel s.canc.next (rd req 0 2) },
          .done St.ok (cancResp St.ok []))
      else if bit (rd req 2 1) 1 = true then
        ({ s with canc.next := tset s.canc.next (rd req 0 2) (candidatesMeeting s req, some
            { candidates := candidatesMeeting s req, maxAggressors := rd req 4 1, minCoupling := rd req 5 1, ends := 0 }) },
          .done St.pending (cancResp St.pending []))
      else
        ({ s with canc.next := tset s.canc.next (rd req 0 2) ((formedEntries s req).filterMap id, none) },
          .done St.ok (cancResp St.ok (formedEntries s req))) := by
  unfold cancellerConfigureBody
  extract_lets v fl n all cands ok canc good sv entries
  have place {i : Nat} (h' : i ∈ List.range n) : i < 16 := (List.mem_range.mp h').trans_le h.most
  have meets {i : Nat} (h' : i ∈ List.range n) : ok i = candidateMeets s req i := (candidateMeets_eq (place h')).symm
  have meeting : good = candidatesMeeting s req := by
    rw [candidatesMeeting, ← List.filter_congr fun i h' => meets h']
    exact List.map_congr_left fun i h' => candidateList_getD (place (List.mem_filter.mp h').1) 0
  have own : (List.range n).map (fun i => if ok i = true then some (all.getD i 0) else none) = ownEntries s req :=
    List.map_congr_left fun i h' => by rw [meets h', show all.getD i 0 = _ from candidateList_getD (place h') 0]
  have inRange : ¬ ((decide (v ≥ s.part.ports) || decide (fl > 3) || decide (n > 16) || (!bit fl 0 && n != 0) || decide (rd req 4 1 < 1)
      || decide (rd req 4 1 > 8) || decide (rd req 5 1 < 20) || decide (rd req 5 1 > 160) || (all.drop n).any (· != 0xFFFF)
      || cands.any (fun a => decide (a ≥ s.part.ports))) = true) := by
    have ⟨present, _, _, most, ⟨flags, _⟩, ⟨least, fits⟩, ⟨low, high⟩, _⟩ := h
    rw [h.disabled, show (all.drop n).any _ = false from h.unused, show cands.any _ = false from h.placed]
    simp only [Bool.or_eq_true, decide_eq_true_eq, Bool.false_eq_true, or_false, v, fl, n]
    omega
  have survey : sv = { candidates := candidatesMeeting s req, maxAggressors := rd req 4 1, minCoupling := rd req 5 1, ends := 0 } := by
    rw [← meeting]
  have formed : entries = formedEntries s req := by
    rw [formedEntries, ← own, ← meeting]
  rw [if_neg inRange, if_neg (by simp [v, h.unsurveyed]), if_neg (by simp [v, h.port]), if_neg (by simp [v, h.opened]), survey, formed,
    meeting]

section
variable (takes : Configures s req)
include takes

theorem cancellerConfigureBody_removes (flags : rd req 2 1 = 0) : cancellerConfigureBody req s =
    ({ s with canc.leaving := s.canc.leaving ++ [rd req 0 2], canc.next := tdel s.canc.next (rd req 0 2) },
      .done St.ok (cancResp St.ok [])) := by
  rw [cancellerConfigureBody_of_configures takes, flags]
  rfl

theorem cancellerConfigureBody_surveys (flags : rd req 2 1 = 3) : cancellerConfigureBody req s =
    ({ s with canc.next := tset s.canc.next (rd req 0 2) (candidatesMeeting s req, some
        { candidates := candidatesMeeting s req, maxAggressors := rd req 4 1, minCoupling := rd req 5 1, ends := 0 }) },
      .done St.pending (cancResp St.pending [])) := by
  rw [cancellerConfigureBody_of_configures takes, flags]
  rfl

theorem cancellerConfigureBody_forms (flags : rd req 2 1 = 1) : cancellerConfigureBody req s =
    ({ s with canc.next := tset s.canc.next (rd req 0 2) ((formedEntries s req).filterMap id, none) },
      .done St.ok (cancResp St.ok (formedEntries s req))) := by
  rw [cancellerConfigureBody_of_configures takes, flags]
  rfl

theorem cancellerConfigureBody_formsFew (flags : rd req 2 1 = 1) (few : rd req 3 1 ≤ 8) : cancellerConfigureBody req s =
    ({ s with canc.next := tset s.canc.next (rd req 0 2) (candidatesMeeting s req, none) },
      .done St.ok (cancResp St.ok (ownEntries s req))) := by
  rw [cancellerConfigureBody_forms takes flags, formedEntries, if_pos few, filterMap_ownEntries]

theorem cancellerConfigureBody_formsEight (flags : rd req 2 1 = 1) (many : 8 < rd req 3 1) : cancellerConfigureBody req s =
    ({ s with canc.next := tset s.canc.next (rd req 0 2) ((candidatesMeeting s req).take 8, none) },
      .done St.ok (cancResp St.ok (((candidatesMeeting s req).take 8).map some))) := by
  have filled : (((candidatesMeeting s req).take 8).map some).filterMap id = (candidatesMeeting s req).take 8 := by
    rw [List.filterMap_map, Function.id_comp, List.filterMap_some]
  rw [cancellerConfigureBody_forms takes flags, formedEntries, if_neg (by omega), filled]

end

/-! ### canceller.setguard and canceller.status -/

theorem cancellerSetguardBody_sets (code : rd req 0 1 ≤ 2) (unpaired : s.canc.pairs = []) :
    cancellerSetguardBody req s = ({ s with canc.guardX := rd req 0 1 }, .done St.ok (statusResp St.ok)) := by
  unfold cancellerSetguardBody
  rw [if_neg (by omega), if_neg (by simp [unpaired])]
  rfl

theorem cancEntry_length (now : Nat) (e : Option (Nat × CancPair)) : (cancEntry now e).length = 8 := by
  cases e with
  | none => simp [cancEntry, zeros]
  | some e => simp [cancEntry]

/-- canceller.status answers 8 bytes and 8 entries, and changes nothing (R204). -/
theorem cancellerStatusBody_answers (present : rd req 0 2 < s.part.ports) (may : mayPort s c (rd req 0 2) = true) :
    ∃ resp, resp.length = 72 ∧ cancellerStatusBody c req s = (s, .done St.ok resp) := by
  unfold cancellerStatusBody
  dsimp only
  rw [if_neg (by omega), if_neg (by simp [may])]
  refine ⟨_, ?_, rfl⟩
  simp [List.length_flatMap, cancEntry_length, zeros]

end Sys2Proof.Machine
end

section
/-! The obligation of the canceller's commands (O20), by its three commands. -/

namespace Sys2Proof

open Machine

/-- Settles O20: each command from what its meaning does with a request that it takes. -/
theorem cancellerCommands : Obligations.CancellerCommands := by
  refine ⟨?_, ?_, ?_⟩
  · intro s c req start form sender present port unsurveyed most least fits low high candidates meets good own
    have takes (flags : rd req 2 1 ≤ 3) (alone : bit (rd req 2 1) 0 = false → rd req 3 1 = 0) : Configures s req :=
      ⟨present, port, unsurveyed, most, ⟨flags, alone⟩, ⟨least, fits⟩, ⟨low, high⟩, candidates⟩
    refine ⟨fun flags none => ?_, fun flags few => ?_, fun flags many => ?_, fun flags => ?_⟩
    · exact runCmd_answers start form (fun _ => sender)
        (cancellerConfigureBody_removes (takes (by omega) fun _ => none) flags)
    · exact runCmd_answers start form (fun _ => sender)
        (cancellerConfigureBody_formsFew (takes (by omega) (by simp [flags, bit])) flags few)
    · exact runCmd_answers start form (fun _ => sender)
        (cancellerConfigureBody_formsEight (takes (by omega) (by simp [flags, bit])) flags many)
    · exact runCmd_answers start form (fun _ => sender)
        (cancellerConfigureBody_surveys (takes (by omega) (by simp [flags, bit])) flags)
  · intro s c req start form sender code unpaired
    exact runCmd_answers start form (fun _ => sender) (cancellerSetguardBody_sets code unpaired)
  · intro s c req start form present may
    obtain ⟨resp, length, body⟩ := cancellerStatusBody_answers present may
    exact ⟨resp, length, runCmd_answers start form (by simp) body⟩

end Sys2Proof
end

section
/-! The priority slots of a contention period (R213, R214): a port that takes part signals, leaves, or goes on without a signal. -/

namespace Sys2Proof.Machine

/-! ### A slot's signal and the step to what follows the slot -/

/-- A priority signal goes out 8 us into a slot, TXEN high by then (R214). -/
def signalPriority (p at_ : Nat) (s : State) : State :=
  let s := updLine p (fun l => { l with txSpans := (at_ + us 8, at_ + us 8 + 4224) :: l.txSpans }) (setTxen p .high s)
  bump (8 * p + 7) 4224 (emit (.priority p (at_ + us 8) (longReach (port s p)).isSome) s)

/-- What follows a slot for a port that stays in the period: the second slot after the first, back-off after the second (R214, R215). -/
def afterPrsSlot (p at_ : Nat) (first : Bool) (s : State) : State :=
  let s := updMac p (fun m => { m with slotAt := at_ + slotLen }) s
  if first then updMac p (fun m => { m with contend := .prs1 }) s else enterBackoff p s

/-- Whether a port signals in the slot in progress: in the first one by the high bit of its class, in the second by the low bit (R214). -/
def prsSignals (m : PortMac) : Bool := if m.contend == .prs0 then decide (m.cls ≥ 2) else m.cls % 2 == 1

/-- The state at the end of the slot in progress. -/
def atSlotEnd (p : Nat) (s : State) : State := advanceTo ((port s p).mac.slotAt + slotLen) (advanceTo (port s p).mac.slotAt s)

theorem atSlotEnd_now (p : Nat) (s : State) :
    (atSlotEnd p s).now = max (max s.now (port s p).mac.slotAt) ((port s p).mac.slotAt + slotLen) := rfl

theorem bump_out (id n : Nat) (s : State) : (bump id n s).out = s.out := by
  unfold bump
  dsimp only
  split <;> rfl

/-- TXEN takes a level with an output where it did not have that level (R72). -/
theorem setTxen_out (p : Nat) (level : Txen) (s : State) :
    (setTxen p level s).out = s.out ++ if (port s p).line.txen = level then [] else [.txen p level] := by
  unfold setTxen
  split
  · exact (List.append_nil _).symm
  · rfl

theorem signalPriority_mac (p at_ : Nat) (s : State) : (port (signalPriority p at_ s) p).mac = (port s p).mac := by
  unfold signalPriority
  dsimp only
  rw [(bump_quiet ..).mac, (emit_quiet ..).mac, mac_updLine_self, (setTxen_tuned ..).mac]

theorem signalPriority_now (p at_ : Nat) (s : State) : (signalPriority p at_ s).now = s.now := by
  unfold signalPriority
  dsimp only
  rw [(bump_quiet ..).now, emit_now]
  exact setTxen_now ..

/-- The signal takes the port's own form (R214): that of Long-reach where the port is in it. -/
theorem signalPriority_out (p at_ : Nat) (s : State) :
    (signalPriority p at_ s).out = s.out ++ (if (port s p).line.txen = .high then [] else [.txen p .high]) ++
      [.priority p (at_ + us 8) (longReach (port s p)).isSome] := by
  have profile : (port (setTxen p .high s) p).line.profile = (port s p).line.profile :=
    (congrArg PortLine.profile (setTxen_tuned p .high s).line :)
  unfold signalPriority longReach
  dsimp only
  rw [line_updLine_self, bump_out, emit_out, ← setTxen_out, ← profile]
  rfl

/-! ### Back-off is entered (R215) -/

/-- A port in back-off holds a count. -/
theorem enterBackoff_holds (p : Nat) (s : State) : (port (enterBackoff p s) p).mac.contend = .backoff ∧
    (port (enterBackoff p s) p).mac.bc.isSome = true ∧ (enterBackoff p s).out = s.out := by
  unfold enterBackoff
  dsimp only
  split
  · rename_i held
    rw [mac_updMac_self]
    exact ⟨rfl, by rw [held]; rfl, rfl⟩
  · rw [mac_updMac_self]
    exact ⟨rfl, rfl, rfl⟩

theorem afterPrsSlot_first (p at_ : Nat) (s : State) : (port (afterPrsSlot p at_ true s) p).mac.contend = .prs1 ∧
    (port (afterPrsSlot p at_ true s) p).mac.slotAt = at_ + slotLen ∧ (afterPrsSlot p at_ true s).now = s.now ∧
    (afterPrsSlot p at_ true s).out = s.out := by
  unfold afterPrsSlot
  dsimp only
  rw [if_pos rfl, mac_updMac_self, mac_updMac_self]
  exact ⟨rfl, rfl, rfl, rfl⟩

theorem afterPrsSlot_second (p at_ : Nat) (s : State) : (port (afterPrsSlot p at_ false s) p).mac.contend = .backoff ∧
    (port (afterPrsSlot p at_ false s) p).mac.bc.isSome = true ∧ (afterPrsSlot p at_ false s).out = s.out :=
  enterBackoff_holds p (updMac p (fun m => { m with slotAt := at_ + slotLen }) s)

/-! ### PRS_SLOT -/

section
variable {s : State} {p : Nat} (present : p < s.part.ports)
include present

/-- PRS_SLOT of a port that has found its class. -/
theorem execPrsSlot_takesPart (slot : (port s p).mac.contend = .prs0 ∨ (port s p).mac.contend = .prs1) (found : (port s p).mac.cls ≤ 3)
    (heard heardFrame : Bool) :
    execPrsSlot p heard heardFrame s =
      let at_ := (port s p).mac.slotAt
      let first := (port s p).mac.contend == .prs0
      let u := atSlotEnd p s
      if prsSignals (port s p).mac && mayExchange s p then .next (afterPrsSlot p at_ first (signalPriority p at_ u))
      else if heardFrame then .next (updMac p (fun m => { m with contend := .idle }) u)
      else if heard || prsSignals (port s p).mac then
        .next (updMac p (fun m => { m with contend := .left, slotAt := at_ + (if first then 2 else 1) * slotLen }) u)
      else .next (afterPrsSlot p at_ first u) := by
  have classed : (port s p).mac.cls ≠ 4 := by omega
  have stays : (port s p).mac.contend ≠ .left := by rcases slot with slot | slot <;> simp [slot]
  unfold execPrsSlot
  dsimp only
  rw [if_neg (by omega), if_neg (by rcases slot with slot | slot <;> simp [slot]), if_neg classed]
  exact if_neg stays

/-- A port whose class has the slot's bit signals, whatever it hears. -/
theorem execPrsSlot_signals (slot : (port s p).mac.contend = .prs0 ∨ (port s p).mac.contend = .prs1) (found : (port s p).mac.cls ≤ 3)
    (may : mayExchange s p = true) (signals : prsSignals (port s p).mac = true) (heard heardFrame : Bool) :
    execPrsSlot p heard heardFrame s = .next (afterPrsSlot p (port s p).mac.slotAt ((port s p).mac.contend == .prs0)
      (signalPriority p (port s p).mac.slotAt (atSlotEnd p s))) := by
  rw [execPrsSlot_takesPart present slot found]
  exact if_pos (by simp [signals, may])

/-- One that does not signal leaves where it hears a signal. -/
theorem execPrsSlot_leaves (slot : (port s p).mac.contend = .prs0 ∨ (port s p).mac.contend = .prs1) (found : (port s p).mac.cls ≤ 3)
    (mute : prsSignals (port s p).mac = false) :
    ∃ t, execPrsSlot p true false s = .next t ∧ (port t p).mac.contend = .left := by
  rw [execPrsSlot_takesPart present slot found]
  simp [mute]

/-- One that does not signal goes on where it hears nothing. -/
theorem execPrsSlot_passes (slot : (port s p).mac.contend = .prs0 ∨ (port s p).mac.contend = .prs1) (found : (port s p).mac.cls ≤ 3)
    (mute : prsSignals (port s p).mac = false) :
    execPrsSlot p false false s = .next (afterPrsSlot p (port s p).mac.slotAt ((port s p).mac.contend == .prs0) (atSlotEnd p s)) := by
  rw [execPrsSlot_takesPart present slot found]
  simp [mute]

/-- A class with the high bit signals in the first slot and goes to the second. -/
theorem execPrsSlot_firstSignals (may : mayExchange s p = true) (found : (port s p).mac.cls ≤ 3) (slot : (port s p).mac.contend = .prs0)
    (high : 2 ≤ (port s p).mac.cls) (heard heardFrame : Bool) :
    ∃ t, execPrsSlot p heard heardFrame s = .next t ∧ (port t p).mac.contend = .prs1 ∧
      (port t p).mac.slotAt = (port s p).mac.slotAt + us 30 ∧
      t.now = max (max s.now (port s p).mac.slotAt) ((port s p).mac.slotAt + us 30) ∧
      t.out = s.out ++ (if (port s p).line.txen = .high then [] else [.txen p .high]) ++
        [.priority p ((port s p).mac.slotAt + us 8) (longReach (port s p)).isSome] := by
  refine ⟨_, execPrsSlot_signals present (.inl slot) found may (by simp [prsSignals, slot, high]) heard heardFrame, ?_⟩
  have first : ((port s p).mac.contend == .prs0) = true := by rw [slot]; rfl
  rw [first]
  obtain ⟨second, slotAt, now, out⟩ := afterPrsSlot_first p (port s p).mac.slotAt (signalPriority p (port s p).mac.slotAt (atSlotEnd p s))
  exact ⟨second, slotAt, by rw [now, signalPriority_now, atSlotEnd_now]; rfl, out.trans (signalPriority_out p _ (atSlotEnd p s))⟩

/-- A class with the low bit signals in the second slot and goes to back-off. -/
theorem execPrsSlot_secondSignals (may : mayExchange s p = true) (found : (port s p).mac.cls ≤ 3) (slot : (port s p).mac.contend = .prs1)
    (odd : (port s p).mac.cls % 2 = 1) (heard heardFrame : Bool) :
    ∃ t, execPrsSlot p heard heardFrame s = .next t ∧ (port t p).mac.contend = .backoff ∧ (port t p).mac.bc.isSome = true ∧
      t.out = s.out ++ (if (port s p).line.txen = .high then [] else [.txen p .high]) ++
        [.priority p ((port s p).mac.slotAt + us 8) (longReach (port s p)).isSome] := by
  refine ⟨_, execPrsSlot_signals present (.inr slot) found may (by simp [prsSignals, slot, odd]) heard heardFrame, ?_⟩
  have second : ((port s p).mac.contend == .prs0) = false := by rw [slot]; rfl
  rw [second]
  obtain ⟨backoff, count, out⟩ := afterPrsSlot_second p (port s p).mac.slotAt (signalPriority p (port s p).mac.slotAt (atSlotEnd p s))
  exact ⟨backoff, count, out.trans (signalPriority_out p _ (atSlotEnd p s))⟩

/-- One without it that hears nothing in the second slot goes to back-off and puts nothing on the line. -/
theorem execPrsSlot_secondPasses (found : (port s p).mac.cls ≤ 3) (slot : (port s p).mac.contend = .prs1)
    (even : (port s p).mac.cls % 2 = 0) :
    ∃ t, execPrsSlot p false false s = .next t ∧ (port t p).mac.contend = .backoff ∧ (port t p).mac.bc.isSome = true ∧ t.out = s.out := by
  refine ⟨_, execPrsSlot_passes present (.inr slot) found (by simp [prsSignals, slot, even]), ?_⟩
  have second : ((port s p).mac.contend == .prs0) = false := by rw [slot]; rfl
  rw [second]
  exact afterPrsSlot_second p (port s p).mac.slotAt (atSlotEnd p s)

/-- A port whose class was still to be found, with no frame ready at the slot's start, leaves. -/
theorem execPrsSlot_unready (slot : (port s p).mac.contend = .prs0) (unfound : (port s p).mac.cls = 4)
    (unready : readyClass (advanceTo (port s p).mac.slotAt s) p = none) (heard heardFrame : Bool) :
    ∃ t, execPrsSlot p heard heardFrame s = .next t ∧ (port t p).mac.contend = .left := by
  have entered : enterPeriod p (advanceTo (port s p).mac.slotAt s) =
      updMac p (fun m => { m with contend := .left, slotAt := m.slotAt + 2 * slotLen }) (advanceTo (port s p).mac.slotAt s) := by
    rw [enterPeriod, unready]
  unfold execPrsSlot
  dsimp only
  rw [if_neg (by omega), if_neg (by simp [slot]), if_pos unfound, entered, mac_updMac_self]
  exact ⟨_, if_pos rfl, by rw [mac_updMac_self]⟩

end

end Sys2Proof.Machine
end

section
/-! Back-off slots (R215), and the rows that start a contention period (R213). -/

namespace Sys2Proof.Machine

theorem port_advanceTo (at_ : Nat) (s : State) (q : Nat) : port (advanceTo at_ s) q = port s q := rfl

/-! ### BACKOFF_SLOT_END -/

section
variable {s : State} {p n : Nat} (present : p < s.part.ports) (backoff : (port s p).mac.contend = .backoff)
  (holds : (port s p).mac.bc = some n)
include present backoff holds

/-- A frame ends the period, the count kept. -/
theorem execBackoffSlotEnd_frame (heard : Bool) :
    ∃ t, execBackoffSlotEnd p heard true s = .next t ∧ (port t p).mac.contend = .idle ∧ (port t p).mac.bc = some n := by
  unfold execBackoffSlotEnd
  dsimp only
  rw [if_neg (by omega), if_neg (by simp [backoff]), if_pos rfl]
  refine ⟨_, rfl, ?_⟩
  rw [mac_updMac_self]
  exact ⟨rfl, holds⟩

/-- A signal keeps the count, and the slot is not idle. -/
theorem execBackoffSlotEnd_signal :
    ∃ t, execBackoffSlotEnd p true false s = .next t ∧ (port t p).mac.bc = some n ∧ (port t p).mac.idleSlots = 0 := by
  unfold execBackoffSlotEnd
  dsimp only
  rw [if_neg (by omega), if_neg (by simp [backoff]), if_neg (by simp)]
  refine ⟨_, rfl, ?_⟩
  rw [mac_updMac_self]
  exact ⟨(if_neg (by simp)).trans holds, rfl⟩

/-- An idle slot takes one off the count; at zero the port leaves. -/
theorem execBackoffSlotEnd_idle :
    ∃ t, execBackoffSlotEnd p false false s = .next t ∧ (port t p).mac.bc = some (n - 1) ∧
      (port t p).mac.idleSlots = (port s p).mac.idleSlots + 1 ∧ (port t p).mac.contend = if n = 0 then .left else .backoff := by
  unfold execBackoffSlotEnd
  dsimp only
  rw [if_neg (by omega), if_neg (by simp [backoff]), if_neg (by simp)]
  refine ⟨_, rfl, ?_⟩
  rw [mac_updMac_self, port_advanceTo]
  cases n with
  | zero => simp [holds]
  | succ k => simp [backoff, holds]

end

/-! ### The start of a contention period (R213) -/

/-- A port that finds no class leaves; the idle slots counted and the hold-off are not touched. -/
theorem enterPeriod_leavesOrStays (p : Nat) (s : State) :
    ((port (enterPeriod p s) p).mac.contend = (port s p).mac.contend ∨ (port (enterPeriod p s) p).mac.contend = .left) ∧
    (port (enterPeriod p s) p).mac.idleSlots = (port s p).mac.idleSlots ∧
    (port (enterPeriod p s) p).mac.holdOff = (port s p).mac.holdOff := by
  unfold enterPeriod
  split
  · rw [mac_updMac_self]
    exact ⟨.inl rfl, rfl, rfl⟩
  · rw [mac_updMac_self]
    exact ⟨.inr rfl, rfl, rfl⟩

/-- A period starts in its first priority slot with no idle slot counted and no hold-off, or the port takes no part in it. -/
theorem startContention_starts (p start : Nat) (s : State) :
    ((port (startContention p start s) p).mac.contend = .prs0 ∨ (port (startContention p start s) p).mac.contend = .left) ∧
    (port (startContention p start s) p).mac.idleSlots = 0 ∧ (port (startContention p start s) p).mac.holdOff = none := by
  unfold startContention
  extract_lets u
  have begun : (port u p).mac = { (port s p).mac with
      contend := .prs0, slotAt := start, idleSlots := 0, holdOff := none, cls := 4 } := mac_updMac_self ..
  split
  · obtain ⟨contend, idleSlots, holdOff⟩ := enterPeriod_leavesOrStays p u
    rw [begun] at contend idleSlots holdOff
    exact ⟨contend, idleSlots, holdOff⟩
  · rw [begun]
    exact ⟨.inl rfl, rfl, rfl⟩

/-- After 16 idle slots a period starts (R213). -/
theorem execIdleRestart_starts {s : State} {p : Nat} (present : p < s.part.ports)
    (waits : (port s p).mac.contend = .backoff ∨ (port s p).mac.contend = .left) (idle : 16 ≤ (port s p).mac.idleSlots) :
    execIdleRestart p s = .next (startContention p (port s p).mac.slotAt (advanceTo (port s p).mac.slotAt s)) := by
  unfold execIdleRestart
  rw [if_neg (by omega)]
  exact if_pos (by rcases waits with waits | waits <;> simp [waits, idle])

section
variable {s : State} {p e : Nat} (present : p < s.part.ports) (held : (port s p).mac.holdOff = some e)
include present held

/-- A hold-off that ends with nothing on the line starts a period (R213). -/
theorem execUndecodableHoldOffEnd_starts (receives : (port s p).mac.rx = none) (sends : (port s p).mac.tx = none) :
    execUndecodableHoldOffEnd p s = .next (startContention p e (advanceTo e s)) := by
  unfold execUndecodableHoldOffEnd
  simp [Nat.not_le.mpr present, held, receives, sends]

/-- One that ends while a frame is on the line starts none. -/
theorem execUndecodableHoldOffEnd_busy (busy : (port s p).mac.rx.isSome = true ∨ (port s p).mac.tx.isSome = true) :
    execUndecodableHoldOffEnd p s = .next (updMac p (fun m => { m with holdOff := none }) (advanceTo e s)) := by
  unfold execUndecodableHoldOffEnd
  simp [Nat.not_le.mpr present, held, busy]

end

end Sys2Proof.Machine
end

section
/-! The obligation of the contention periods (O12), by the rows of the contention cycle. -/

namespace Sys2Proof

open Machine

/-- Settles O12: PRS_SLOT by the slot and the class, BACKOFF_SLOT_END by what was heard, and the two restarts from what the start of a
period leaves. -/
theorem contentionPeriods : Obligations.ContentionPeriods := by
  refine ⟨fun s p present may found => ⟨execPrsSlot_firstSignals present may found, fun slot low => ?_,
      execPrsSlot_secondSignals present may found, execPrsSlot_secondPasses present found⟩,
    fun s p heard heardFrame present slot unfound unready => execPrsSlot_unready present slot unfound unready heard heardFrame,
    fun s p n present backoff holds => ⟨execBackoffSlotEnd_signal present backoff holds,
      execBackoffSlotEnd_idle present backoff holds, execBackoffSlotEnd_frame present backoff holds⟩,
    fun s p present waits idle => ?_, fun s p e present held => ?_⟩
  · exact execPrsSlot_leaves present (.inl slot) found (by simp [prsSignals, slot]; omega)
  · obtain ⟨contend, idleSlots, -⟩ := startContention_starts p (port s p).mac.slotAt (advanceTo (port s p).mac.slotAt s)
    exact ⟨_, execIdleRestart_starts present waits idle, idleSlots, (startContention_stays ..).now, contend⟩
  · by_cases busy : (port s p).mac.rx.isSome = true ∨ (port s p).mac.tx.isSome = true
    · refine ⟨_, execUndecodableHoldOffEnd_busy present held busy, by rw [mac_updMac_self], rfl, fun receives sends => ?_, fun _ => ?_⟩
      · simp [receives, sends] at busy
      · rw [mac_updMac_self]
        rfl
    · obtain ⟨contend, -, holdOff⟩ := startContention_starts p e (advanceTo e s)
      simp only [not_or, Option.not_isSome_iff_eq_none] at busy
      obtain ⟨receives, sends⟩ := busy
      refine ⟨_, execUndecodableHoldOffEnd_starts present held receives sends, holdOff, (startContention_stays ..).now,
        fun _ _ => contend, fun busy => ?_⟩
      simp [receives, sends] at busy

end Sys2Proof
end

section
/-! What management messages, releases, failed seals and reports leave of the endpoint table and of every port's topology engine. -/

namespace Sys2Proof.Machine

/-! ### Entries of the endpoint table, and the topology engine of a port -/

/-- Every entry of a table is changed, where the change leaves the default as it is. -/
theorem tget_tmap {α : Type} {d : α} {f : Nat → α → α} {i : Nat} (default : f i d = d) (t : Table α) :
    tget d (tmap f t) i = f i (tget d t i) := by
  induction t with
  | nil => exact default.symm
  | cons e t ih =>
    obtain ⟨k, v⟩ := e
    change (if k = i then f k v else tget d (tmap f t) i) = f i (if k = i then v else tget d t i)
    split
    · rename_i hit
      rw [hit]
    · exact ih

/-- What a test picks of a table stays where it picks the entry put at a key as little as the entry that stood there. -/
theorem filter_tset {α : Type} {d x : α} {i : Nat} {pick : Nat × α → Bool} {t : Table α} (old : pick (i, tget d t i) = false)
    (new : pick (i, x) = false) : (tset t i x).filter pick = t.filter pick := by
  induction t with
  | nil => simp [tset, new]
  | cons e t ih =>
    obtain ⟨k, v⟩ := e
    unfold tset
    unfold tget at old
    split
    · rw [List.filter_cons_of_neg (by simp [new])]
    · split
      · rename_i hit
        subst hit
        rw [if_pos rfl] at old
        rw [List.filter_cons_of_neg (by simp [new]), List.filter_cons_of_neg (by simp [old])]
      · rename_i other
        rw [if_neg other] at old
        rw [List.filter_cons, List.filter_cons, ih old]

theorem endpoint_of_eps {s t : State} (h : t.eps = s.eps) (e : Nat) : endpoint t e = endpoint s e := by rw [endpoint, h, endpoint]

@[simp] theorem endpoint_updEndpoint_self (e : Nat) (f : Endpoint → Endpoint) (s : State) :
    endpoint (updEndpoint e f s) e = f (endpoint s e) := tget_tset_self ..

theorem endpoint_updEndpoint_other {e q : Nat} (h : q ≠ e) (f : Endpoint → Endpoint) (s : State) :
    endpoint (updEndpoint e f s) q = endpoint s q := tget_tset_other _ _ _ h

@[simp] theorem topo_updTopo_self (p : Nat) (f : Topo → Topo) (s : State) : (port (updTopo p f s) p).topo = f (port s p).topo := by
  rw [updTopo, port_updPort_self]

/-! ### What leaves both -/

/-- The endpoint table and every port's topology engine are as before. -/
structure TopoKept (s t : State) : Prop where
  eps : t.eps = s.eps
  topo : ∀ q, (port t q).topo = (port s q).topo

namespace TopoKept

variable {s t u : State}

theorem refl (s : State) : TopoKept s s := ⟨rfl, fun _ => rfl⟩

theorem trans (a : TopoKept s t) (b : TopoKept t u) : TopoKept s u := ⟨b.eps.trans a.eps, fun q => (b.topo q).trans (a.topo q)⟩

/-- An update of fields that are neither. -/
theorem of_same (eps : t.eps = s.eps) (ports : t.ports = s.ports) : TopoKept s t := ⟨eps, fun q => by rw [port, ports, port]⟩

theorem of_calm (h : t.calm = s.calm) : TopoKept s t := .of_same (congrArg Calm.eps h) (congrArg Calm.ports h)

/-- The same, then an operation. -/
theorem after (b : TopoKept t u) (eps : t.eps = s.eps) (ports : t.ports = s.ports) : TopoKept s u := (of_same eps ports).trans b

/-- An update of a port beside its topology engine. -/
theorem of_updPort {p : Nat} {f : Port → Port} (topo : (f (port s p)).topo = (port s p).topo) : TopoKept s (updPort p f s) where
  eps := rfl
  topo q := by
    by_cases h : q = p
    · rw [h, port_updPort_self, topo]
    · rw [port_updPort_other h]

theorem ite {a b : State} {p : Prop} [Decidable p] (ha : TopoKept s a) (hb : TopoKept s b) : TopoKept s (if p then a else b) := by
  split <;> assumption

theorem foldl {α : Type} {f : State → α → State} (h : ∀ s x, TopoKept s (f s x)) (l : List α) (s : State) :
    TopoKept s (l.foldl f s) := by
  induction l generalizing s with
  | nil => exact refl s
  | cons x l ih => exact (h s x).trans (ih _)

theorem endpoint (h : TopoKept s t) (e : Nat) : endpoint t e = Machine.endpoint s e := endpoint_of_eps h.eps e

end TopoKept

/-! ### Counters, events, messages and records -/

theorem count_topoKept (code : Nat) (a : Attr) (n : Nat) (s : State) : TopoKept s (count code a n s) := .of_calm (count_calm ..)

theorem mirrorSend_topoKept (r : MirrorRec) (s : State) : TopoKept s (mirrorSend r s) := .ite (.of_calm (emit_calm ..)) (.refl s)

theorem mirrorEp_topoKept (e : Nat) (s : State) : TopoKept s (mirrorEp e s) := mirrorSend_topoKept ..

theorem tagEnd_topoKept (kind p ident : Nat) (retired escalated : Bool) (attempts : Nat) (s : State) :
    TopoKept s (tagEnd kind p ident retired escalated attempts s) := by
  unfold tagEnd
  split
  · exact .refl s
  · exact .after (.of_calm (traceFeed_calm ..)) rfl rfl

theorem updCphRing_topoKept (p r : Nat) (f : CphRing → CphRing) (s : State) : TopoKept s (updCphRing p r f s) := .of_same rfl rfl

theorem cphFault_topoKept (p r : Nat) (st : Status) (s : State) : TopoKept s (cphFault p r st s) := updCphRing_topoKept ..

theorem cphRecord_topoKept (p r kind : Nat) (e : JobEnd) (tag : Nat) (raiseIt : Bool) (s : State) :
    TopoKept s (cphRecord p r kind e tag raiseIt s) :=
  .ite (cphFault_topoKept ..) (.trans (.of_calm (hostWrite_calm ..))
    ((updCphRing_topoKept ..).trans (.ite (.of_calm (sendMsix_calm ..)) (.refl _))))

/-! ### Releases and failed seals (R279, R280, R318) -/

theorem postOutcome_topoKept (n : Nat) (f : Flight) (st : Status) (s : State) : TopoKept s (postOutcome n f st s) := by
  unfold postOutcome
  split
  · exact .refl s
  · split
    · exact .refl s
    · exact .of_calm (notify_calm ..)
    · exact (updCphRing_topoKept ..).trans (cphRecord_topoKept ..)

theorem releaseFlight_topoKept (n : Nat) (st : Status) (s : State) : TopoKept s (releaseFlight n st s) :=
  .ite (.refl s) (.after (.trans (.ite (.refl _) (count_topoKept ..))
    (.after ((tagEnd_topoKept ..).trans (postOutcome_topoKept ..)) rfl rfl)) rfl rfl)

theorem retireFlight_topoKept (n : Nat) (st : Status) (s : State) : TopoKept s (retireFlight n st s) :=
  .ite (.ite (.of_same rfl rfl) (.refl s)) (releaseFlight_topoKept ..)

theorem flushRing_topoKept (p r n : Nat) (s : State) : TopoKept s (flushRing p r n s) := by
  induction n generalizing s with
  | zero => exact .refl s
  | succ n ih =>
    unfold flushRing
    split
    · exact .refl s
    · split
      · exact .refl s
      · exact .after ((cphRecord_topoKept ..).trans (ih _)) rfl rfl

theorem endJob_topoKept (p r idx : Nat) (e : JobEnd) (s : State) : TopoKept s (endJob p r idx e s) := .after (flushRing_topoKept ..) rfl rfl

theorem sealEnds_topoKept (n : Nat) (f : Flight) (st : Status) (nonce : Bytes) (bytes : Nat) (s : State) :
    TopoKept s (sealEnds n f st nonce bytes s) := by
  unfold sealEnds
  cases f.sealer with
  | none => exact .refl s
  | engine => exact .refl s
  | mailbox c => exact .trans (.of_calm (complete_calm ..)) (.ite (.of_calm (mbxFault_calm ..)) (.refl _))
  | ring r tag raiseIt =>
    dsimp only
    split
    · exact .refl s
    · exact .trans (.ite (.refl s) (updCphRing_topoKept ..))
        ((endJob_topoKept ..).trans (.ite (cphFault_topoKept ..) (.refl _)))

theorem failSeal_topoKept (n : Nat) (st : Status) (s : State) : TopoKept s (failSeal n st s) :=
  .ite (.refl s) ((releaseFlight_topoKept ..).trans (sealEnds_topoKept ..))

/-! ### Management messages of the device's engines (R593) -/

theorem cacheTouch_topoKept (e : Nat) (s : State) : TopoKept s (cacheTouch e s) := by
  refine .ite (.of_same rfl rfl) (.ite (.of_same rfl rfl) ?_)
  dsimp only
  split
  · exact .refl s
  · exact .of_same rfl rfl

theorem notePeaks_topoKept (p : Nat) (s : State) : TopoKept s (notePeaks p s) := by
  unfold notePeaks
  exact .after (.of_updPort rfl) rfl rfl

/-- A management message is admitted without a tag (R514). -/
theorem admitFlight_topoKept (n : Nat) {h : Held} (mgmt : h.mgmt = true) (s : State) : TopoKept s (admitFlight n h s) := by
  unfold admitFlight
  dsimp only
  rw [mgmt]
  exact .after ((notePeaks_topoKept ..).trans ((count_topoKept ..).trans (.ite (cacheTouch_topoKept ..) (.refl _)))) rfl rfl

theorem enqueueFlight_topoKept (n : Nat) (data : Bytes) (s : State) : TopoKept s (enqueueFlight n data s) :=
  .ite (.of_same rfl rfl) (.of_same rfl rfl)

/-- An engine's submission that is held shows in no register (R593). -/
theorem holdSubmission_topoKept {h : Held} (engine : h.engine = true) (cause : Nat) (s : State) :
    TopoKept s (holdSubmission h cause s) := by
  unfold holdSubmission
  dsimp only
  rw [if_pos engine]
  exact .after (count_topoKept ..) rfl rfl

theorem engineSend_topoKept (p final : Nat) (msg : Bytes) (s : State) : TopoKept s (engineSend p final msg s) := by
  unfold engineSend
  split
  · exact .refl s
  · dsimp only
    split
    · exact (admitFlight_topoKept _ rfl s).trans (enqueueFlight_topoKept ..)
    · exact holdSubmission_topoKept rfl _ s

/-! ### Receive reassemblies (R270) -/

theorem takeReasm_topoKept (r : Reasm) (s : State) : TopoKept s (takeReasm r s).1 := by
  unfold takeReasm
  dsimp only
  split
  · exact .after (notePeaks_topoKept ..) rfl rfl
  · exact .trans (.of_updPort (p := r.port) (f := fun x => { x with rxOverrun := true }) rfl)
      (.after (.of_calm (raisePort_calm ..)) rfl rfl)

/-! ### The topology engine's own messages (R254, R255) -/

theorem purgeMessages_topoKept (p : Nat) (s : State) : TopoKept s (purgeMessages p s) :=
  .foldl (fun _ _ => retireFlight_topoKept ..) _ s

/-- A pending version that is given up is gone, the active one stays (R255). -/
theorem topo_abandonVersion (p : Nat) (s : State) :
    (port (abandonVersion p s) p).topo = { (port s p).topo with pending := none, changed := true } := by
  rw [abandonVersion, (purgeMessages_topoKept ..).topo, topo_updTopo_self]

end Sys2Proof.Machine
end

section
/-! The rows of the topology engine: the tree computation (R251, R253), the answers to a version and its end (R253 to R255), and the reports
and joins that the engine takes in (R248, R259, R458). -/

namespace Sys2Proof.Machine

/-! ### What a candidate tree is computed from (R251, R259) -/

section
variable {s t : State} {p : Nat} (eps : t.eps = s.eps)
include eps

theorem endpoint_funext : endpoint t = endpoint s := funext (endpoint_of_eps eps)

theorem members_of_eps : members t p = members s p := by rw [members, eps, members]

theorem firstPass_of_eps : firstPass t = firstPass s := by
  have relaxes : relax t = relax s := by
    unfold relax
    rw [endpoint_funext eps]
  unfold firstPass
  rw [relaxes]

theorem place_of_eps : place t = place s := by
  unfold place
  rw [endpoint_funext eps]

theorem placeFirst_of_eps (limit e : Nat) (costs : Table Nat) (x : Placed) (qs : List Nat) :
    placeFirst t limit e costs x qs = placeFirst s limit e costs x qs := by
  induction qs with
  | nil => rfl
  | cons q qs ih => rw [placeFirst, placeFirst, place_of_eps eps, ih]

/-- The endpoint table, and of the port's topology engine its settings, its matrix and the matrix of the latest beacon. -/
theorem candidate_of_same (cfg : (port t p).topo.cfg = (port s p).topo.cfg) (links : (port t p).topo.links = (port s p).topo.links)
    (snapshot : (port t p).topo.snapshot = (port s p).topo.snapshot) : candidate t p = candidate s p := by
  have second : secondPass t p = secondPass s p := by
    unfold secondPass
    rw [endpoint_funext eps, cfg]
    simp only [placeFirst_of_eps eps]
  unfold candidate linkCosts
  rw [members_of_eps eps, cfg, links, snapshot, firstPass_of_eps eps, second, place_of_eps eps, endpoint_funext eps]

end

/-! ### A version is distributed, and becomes active (R253) -/

/-- The active version is the one activated, and none is pending. -/
theorem topo_activateVersion (p : Nat) (w : PendingTree) (s : State) :
    (port (activateVersion p w s) p).topo.pending = none ∧ (port (activateVersion p w s) p).topo.active = w.version := by
  unfold activateVersion
  extract_lets mine new moved joined entered active mirrored told
  have kept : TopoKept active (purgeMessages p told) :=
    (mirrorSend_topoKept ..).trans (.trans (.foldl (fun _ _ => mirrorEp_topoKept ..) moved _)
      (.trans (.foldl (fun _ _ => engineSend_topoKept ..) joined mirrored) (purgeMessages_topoKept ..)))
  rw [kept.topo, topo_updTopo_self]
  exact ⟨rfl, rfl⟩

section
variable {s : State} {p : Nat} {w : PendingTree} (pending : (port s p).topo.pending = some w)
include pending

theorem advanceVersion_activates (answered : w.owed = []) : advanceVersion p s = activateVersion p w s := by
  unfold advanceVersion
  rw [pending]
  exact if_pos (by rw [answered]; rfl)

/-- A version that waits for an answer stays pending; only the endpoints that have been sent a TP_ROUTE of it grow. -/
theorem topo_advanceVersion_waits (awaits : w.owed ≠ []) :
    ∃ sent, (port (advanceVersion p s) p).topo = { (port s p).topo with pending := some { w with sent := sent } } := by
  unfold advanceVersion
  rw [pending]
  dsimp -zeta only
  rw [if_neg (by simpa using awaits)]
  extract_lets can order sending
  have kept : TopoKept sending (order.foldl (fun s e =>
      (routeSegments w.version.toNat (tget 0 w.parents e.2) 5 0 (forwardTable w.parents e.2)).foldl (fun s m => engineSend p e.2 m s) s)
      sending) := .foldl (fun s e => .foldl (fun _ _ => engineSend_topoKept ..) _ s) order sending
  exact ⟨_, by rw [kept.topo, topo_updTopo_self]⟩

end

/-! ### TREE_COMPUTATION -/

/-- The computation of this beacon is no longer due. -/
def computed (p : Nat) (s : State) : State := updTopo p (fun t => { t with computeDue := false }) s

@[simp] theorem topo_computed (p : Nat) (s : State) : (port (computed p s) p).topo = { (port s p).topo with computeDue := false } :=
  topo_updTopo_self ..

theorem candidate_computed (p : Nat) (s : State) : candidate (computed p s) p = candidate s p := by
  refine candidate_of_same (t := computed p s) (s := s) rfl ?_ ?_ ?_ <;> rw [topo_computed]

/-- A joining endpoint of a port that a tree does not place becomes Unreachable (R251). -/
theorem state_unplaced (p : Nat) (parents : Table Nat) (s : State) (e : Nat) : (endpoint (unplaced p parents s) e).state =
    if (endpoint s e).port = p ∧ (endpoint s e).state = .joining ∧ thas parents e = false then .unreachable
    else (endpoint s e).state := by
  unfold unplaced
  rw [endpoint, tget_tmap (by simp), ← endpoint]
  simp only [apply_ite Endpoint.state, Bool.and_eq_true, decide_eq_true_eq, beq_iff_eq, Bool.not_eq_true', and_assoc]

/-- The endpoints that owe an answer to a candidate (R253): their parent or their forwarding table changes. -/
def owesAnswer (s : State) (p : Nat) : List Nat :=
  ((candidate s p).parents.map (·.1)).filter (fun e =>
    tget 0xFFFF (candidate s p).parents e != tget 0xFFFF (activeParents s p) e
      || forwardTable (candidate s p).parents e != forwardTable (activeParents s p) e)

theorem owesAnswer_of_moved {s : State} {p : Nat} {e : Nat × Nat} (placed : e ∈ (candidate s p).parents)
    (moved : tget 0xFFFF (candidate s p).parents e.1 ≠ tget 0xFFFF (activeParents s p) e.1) : e.1 ∈ owesAnswer s p :=
  List.mem_filter.mpr ⟨List.mem_map_of_mem placed, by simp [moved]⟩

/-- The version that a candidate becomes, numbered next (R253, R255). -/
def nextVersion (s : State) (p : Nat) : PendingTree :=
  { version := (port s p).topo.lastVersion + 1, parents := (candidate s p).parents, owed := owesAnswer s p, sent := [],
    members := members s p, age := 0 }

/-- The state in which it is pending. -/
def withNextVersion (p : Nat) (s : State) : State :=
  updTopo p (fun t => { t with pending := some (nextVersion s p), lastVersion := t.lastVersion + 1 }) (computed p s)

theorem topo_withNextVersion (p : Nat) (s : State) : (port (withNextVersion p s) p).topo =
    { (port s p).topo with computeDue := false, pending := some (nextVersion s p), lastVersion := (port s p).topo.lastVersion + 1 } := by
  rw [withNextVersion, topo_updTopo_self, topo_computed]

section
variable {s : State} {p : Nat} (present : p < s.part.ports) (due : (port s p).topo.computeDue = true) (speaks : silent s = false)
include present due speaks

/-- A computation that is due: nothing new while a version is pending, nothing to distribute where the tree is as it was. -/
theorem execTreeComputation_due : execTreeComputation p s =
    if (port s p).topo.pending.isSome then .next (computed p s)
    else if (candidate s p).parents == activeParents s p then .next (unplaced p (candidate s p).parents (computed p s))
    else .next (advanceVersion p (withNextVersion p s)) := by
  unfold execTreeComputation
  rw [if_neg (by omega)]
  extract_lets topo begun placed active owed version
  have same : placed = candidate s p := candidate_computed p s
  rw [if_neg (by simp [topo, due, speaks])]
  have next : version = nextVersion s p := by
    simp only [version, owed, same]
    rfl
  rw [same, next]
  rfl

theorem execTreeComputation_pending (pending : (port s p).topo.pending.isSome = true) : execTreeComputation p s = .next (computed p s) := by
  rw [execTreeComputation_due present due speaks, if_pos pending]

theorem execTreeComputation_same (none_ : (port s p).topo.pending = none) (same : (candidate s p).parents = activeParents s p) :
    execTreeComputation p s = .next (unplaced p (candidate s p).parents (computed p s)) := by
  rw [execTreeComputation_due present due speaks, if_neg (by simp [none_]), if_pos (by simp [same])]

/-- Another tree that some endpoint owes an answer for is pending as the next version (R253, R255). -/
theorem execTreeComputation_issues (none_ : (port s p).topo.pending = none) (other : (candidate s p).parents ≠ activeParents s p)
    (owed : owesAnswer s p ≠ []) : ∃ t sent, execTreeComputation p s = .next t ∧
      (port t p).topo.lastVersion = (port s p).topo.lastVersion + 1 ∧
      (port t p).topo.pending = some { nextVersion s p with sent := sent } := by
  rw [execTreeComputation_due present due speaks, if_neg (by simp [none_]), if_neg (by simp [other])]
  obtain ⟨sent, waits⟩ := topo_advanceVersion_waits (congrArg Topo.pending (topo_withNextVersion p s)) owed
  refine ⟨_, sent, rfl, ?_⟩
  rw [waits, topo_withNextVersion]
  exact ⟨rfl, rfl⟩

end

/-! ### TP_ROUTE_ACK_RECEIVED and PENDING_VERSION_TIMEOUT -/

section
variable {s : State} {p e : Nat} {msg : Bytes} {w : PendingTree} (present : p < s.part.ports) (opened : isOpen s p = true)
  (neighbour : isNeighbour s p e = true) (pending : (port s p).topo.pending = some w) (version : rd msg 1 1 = w.version.toNat)
  (sent : w.sent.contains e = true) (last : w.owed = [e])
include present opened neighbour pending version sent last

/-- The last answer, with result 0, makes the version the active one (R253). -/
theorem execTpRouteAckReceived_activates (result : rd msg 2 1 = 0) : ∃ t, execTpRouteAckReceived p e msg s = .next t ∧
    (port t p).topo.pending = none ∧ (port t p).topo.active = w.version := by
  unfold execTpRouteAckReceived
  rw [fromEndpoint_runs present opened neighbour]
  dsimp only
  rw [pending]
  dsimp only
  rw [if_neg (by simp [version, last, List.contains_iff_mem.mp sent]), if_pos result]
  refine ⟨_, rfl, ?_⟩
  rw [advanceVersion_activates (w := { w with owed := w.owed.filter (· != e) }) (by rw [topo_updTopo_self]) (by simp [last])]
  exact topo_activateVersion ..

/-- Result 1 gives the version up, and the active one stays (R254, R255). -/
theorem execTpRouteAckReceived_gives_up (result : rd msg 2 1 = 1) : ∃ t, execTpRouteAckReceived p e msg s = .next t ∧
    (port t p).topo.pending = none ∧ (port t p).topo.active = (port s p).topo.active := by
  unfold execTpRouteAckReceived
  rw [fromEndpoint_runs present opened neighbour]
  dsimp only
  rw [pending]
  dsimp only
  rw [if_neg (by simp [version, last, List.contains_iff_mem.mp sent]), if_neg (by omega), if_pos result]
  refine ⟨_, rfl, ?_⟩
  rw [topo_abandonVersion, topo_updTopo_self]
  exact ⟨rfl, rfl⟩

end

/-- A pending version is given up once it is 8 beacon periods old (R255). -/
theorem execPendingVersionTimeout_pending {s : State} {p : Nat} {w : PendingTree} (present : p < s.part.ports)
    (pending : (port s p).topo.pending = some w) :
    execPendingVersionTimeout p s = .next (if w.age ≥ 8 then abandonVersion p s else s) := by
  unfold execPendingVersionTimeout
  rw [if_neg (by omega), pending]

/-! ### TP_LINK_REPORT_RECEIVED -/

theorem mem_links_reportDir (p src dst rate : Nat) (s : State) :
    ⟨src, dst, rate, (port s p).mac.beaconSeq.toNat⟩ ∈ (port (reportDir p src dst rate s) p).topo.links := by
  unfold reportDir
  dsimp only
  rw [topo_updTopo_self]
  exact List.mem_append_right _ (List.mem_singleton.mpr rfl)

/-- A report of one entry records the direction from its station to the endpoint that sends it (R248, R250). -/
theorem execTpLinkReportReceived_records {s : State} {p e : Nat} {msg : Bytes} (present : p < s.part.ports) (opened : isOpen s p = true)
    (neighbour : isNeighbour s p e = true) (one : rd msg 1 1 = 1) (whole : 12 ≤ msg.length) (other : rdBe msg 4 2 ≠ e)
    (station : rdBe msg 4 2 ≤ devAddr) :
    execTpLinkReportReceived p e msg s = .next (reportDir p (rdBe msg 4 2) e (rdBe msg 8 4) s) := by
  unfold execTpLinkReportReceived
  rw [fromEndpoint_runs present opened neighbour, one]
  dsimp only
  rw [if_neg (by simp; omega)]
  change Host.Outcome.next (if rdBe msg 4 2 = e || rdBe msg 4 2 > devAddr then s else reportDir p (rdBe msg 4 2) e (rdBe msg 8 4) s) = _
  rw [if_neg (by simp [other]; omega)]

/-! ### The admission of an endpoint (R259, R265) -/

/-- The entry of a free endpoint that is admitted: its capacity and its parent from its TP_JOIN, where that names the port and the
EUI-64. -/
def joiningEntry (x : Endpoint) (p pod_ eui : Nat) : Endpoint :=
  let join := x.join.filter (fun j => j.1 == p && j.2.1 == eui)
  { state := .joining, port := p, pod := pod_, eui := eui, joinParent := join.map (·.2.2.1), capacity := (join.map (·.2.2.2)).getD 0,
    join := x.join }

section
variable {s : State} {ep p pod_ eui : Nat} (opened : isOpen s p = true)
include opened

theorem admitEndpoint_free (free : (endpoint s ep).state = .free) (room : (s.eps.filter (fun e => e.2.state != .free)).length < 16384)
    (few : (members s p).length < 1024) : admitEndpoint ep p pod_ eui s =
      (mirrorEp ep (updEndpoint ep (fun _ => joiningEntry (endpoint s ep) p pod_ eui) s), St.pending) := by
  unfold admitEndpoint
  dsimp only
  rw [if_neg (by simp [free]), if_neg (by simp [opened]), if_neg (by simp; omega)]
  rfl

theorem admitEndpoint_admitted (admitted : (endpoint s ep).state ≠ .free) (same : (endpoint s ep).eui = eui)
    (on : (endpoint s ep).port = p) :
    admitEndpoint ep p pod_ eui s = (mirrorEp ep (updEndpoint ep (fun e => { e with pod := pod_ }) s), St.ok) := by
  unfold admitEndpoint
  dsimp only
  rw [if_pos (by simp [admitted]), if_neg (by simp [same]), if_neg (by simp [on, opened])]

end

/-! ### TP_JOIN_RECEIVED -/

/-- What a TP_JOIN carries (R259): the port it came on, the EUI-64, the parent and the repeater capacity. -/
def joinOf (p : Nat) (msg : Bytes) : Nat × Nat × Nat × Nat := (p, rdBe msg 4 8, rdBe msg 12 2, min 1023 (rdBe msg 2 2))

/-- The entry of an endpoint whose TP_JOIN is recorded: an endpoint admitted there takes its capacity and parent from it. -/
def joinedEntry (p : Nat) (msg : Bytes) (x : Endpoint) : Endpoint :=
  let same := x.state != .free && x.port == p && x.eui == rdBe msg 4 8
  { x with join := some (joinOf p msg), capacity := if same then min 1023 (rdBe msg 2 2) else x.capacity,
           joinParent := if same then some (rdBe msg 12 2) else x.joinParent }

/-- The state in which it is recorded. -/
def noteJoin (p e : Nat) (msg : Bytes) (s : State) : State := updEndpoint e (joinedEntry p msg) s

/-- The record of a free endpoint admits nobody. -/
theorem filter_noteJoin {s : State} {p e : Nat} {msg : Bytes} {pick : Nat × Endpoint → Bool} (free : (endpoint s e).state = .free)
    (admitted : ∀ x : Endpoint, x.state = .free → pick (e, x) = false) : (noteJoin p e msg s).eps.filter pick = s.eps.filter pick :=
  filter_tset (d := ({} : Endpoint)) (admitted (endpoint s e) free) (admitted (joinedEntry p msg (endpoint s e)) free)

section
variable {s : State} {p e : Nat} {msg : Bytes} (present : p < s.part.ports) (opened : isOpen s p = true) (small : e < 16384)
  (whole : 14 ≤ msg.length)
include present opened small whole

/-- A TP_JOIN is recorded; then the registry service takes it, or it waits in a reassembly for the firmware (R18, R458). -/
theorem execTpJoinReceived_records : ∃ r, execTpJoinReceived p e msg s =
    .next (if s.mgmt.fwState = .running then serveJoin p msg (noteJoin p e msg s) else (takeReasm r (noteJoin p e msg s)).1) := by
  unfold execTpJoinReceived
  rw [onPort_runs present opened]
  exact ⟨_, congrArg _ (if_neg (by simp; omega))⟩

theorem execTpJoinReceived_running (running : s.mgmt.fwState = .running) :
    execTpJoinReceived p e msg s = .next (serveJoin p msg (noteJoin p e msg s)) := by
  obtain ⟨r, records⟩ := execTpJoinReceived_records present opened small whole
  rw [records, if_pos running]

theorem execTpJoinReceived_waits (stopped : s.mgmt.fwState ≠ .running) :
    ∃ t, execTpJoinReceived p e msg s = .next t ∧ endpoint t e = joinedEntry p msg (endpoint s e) := by
  obtain ⟨r, records⟩ := execTpJoinReceived_records present opened small whole
  refine ⟨_, by rw [records, if_neg stopped], ?_⟩
  rw [(takeReasm_topoKept ..).endpoint, noteJoin, endpoint_updEndpoint_self]

/-- An endpoint that the registry does not know is reported, its TP_JOIN recorded (R458). -/
theorem execTpJoinReceived_unknown (unknown : s.mram.registry.find? (fun r => r.eui == rdBe msg 4 8) = none) :
    ∃ t, execTpJoinReceived p e msg s = .next t ∧ endpoint t e = joinedEntry p msg (endpoint s e) := by
  by_cases running : s.mgmt.fwState = .running
  · refine ⟨_, execTpJoinReceived_running present opened small whole running, ?_⟩
    have serves : serveJoin p msg (noteJoin p e msg s) =
        notify 0 1 0x9401 (leBytes 8 (rdBe msg 4 8) ++ leBytes 2 p ++ leBytes 2 (rdBe msg 12 2)) (noteJoin p e msg s) := by
      unfold serveJoin
      dsimp only
      rw [show (noteJoin p e msg s).mram.registry.find? (fun r => r.eui == rdBe msg 4 8) = none from unknown]
    rw [serves, endpoint_of_eps (notify_eps ..), noteJoin, endpoint_updEndpoint_self]
  · exact execTpJoinReceived_waits present opened small whole running

/-- A free endpoint that the registry knows is admitted as its entry there says (R458). -/
theorem execTpJoinReceived_admits {r : RegEntry} (known : s.mram.registry.find? (fun r => r.eui == rdBe msg 4 8) = some r)
    (running : s.mgmt.fwState = .running) (names : r.endpoint = e) (on : r.port = p) (free : (endpoint s e).state = .free)
    (room : (s.eps.filter (fun x => x.2.state != .free)).length < 16384) (few : (members s p).length < 1024) :
    ∃ t, execTpJoinReceived p e msg s = .next t ∧ endpoint t e = joiningEntry (joinedEntry p msg (endpoint s e)) p r.pod r.eui := by
  subst names on
  refine ⟨_, execTpJoinReceived_running present opened small whole running, ?_⟩
  have recorded : endpoint (noteJoin r.port r.endpoint msg s) r.endpoint = joinedEntry r.port msg (endpoint s r.endpoint) :=
    endpoint_updEndpoint_self ..
  have admits := admitEndpoint_free (s := noteJoin r.port r.endpoint msg s) (ep := r.endpoint) (pod_ := r.pod) (eui := r.eui) opened
    (by rw [recorded]; exact free) (by rwa [filter_noteJoin free (by simp +contextual)])
    (by rwa [members, filter_noteJoin free (by simp +contextual), ← members])
  have serves : serveJoin r.port msg (noteJoin r.port r.endpoint msg s) =
      (admitEndpoint r.endpoint r.port r.pod r.eui (noteJoin r.port r.endpoint msg s)).1 := by
    unfold serveJoin
    dsimp only
    rw [show (noteJoin r.port r.endpoint msg s).mram.registry.find? (fun r => r.eui == rdBe msg 4 8) = some r from known]
  rw [serves, admits, (mirrorEp_topoKept ..).endpoint, endpoint_updEndpoint_self, recorded]

end

/-! ### UNREACHABLE_HOLD_EXPIRY -/

/-- The frames for an endpoint held unreachable too long retire, but for those of class 3 and those a pending version routes (R241). -/
theorem execUnreachableHoldExpiry_retires {s : State} {e : Nat} (lost : (endpoint s e).state = .unreachable)
    (long : (port s (endpoint s e).port).topo.cfg.unreachHold ≤ (endpoint s e).unreachable) :
    execUnreachableHoldExpiry e s = .next ((s.lbf.flights.filter (fun f => f.2.final == e && f.2.cls != 3 && f.2.enqueued
      && (treeOf s f.2).isNone)).foldl (fun s f => retireFlight f.1 St.noRoute s) s) := by
  unfold execUnreachableHoldExpiry
  dsimp only
  rw [if_neg (by simp [lost]; omega)]

end Sys2Proof.Machine
end

section
/-! The obligation of the tree's versions and its members (O21), by the six rows of the topology engine. -/

namespace Sys2Proof

open Machine

/-- Settles O21: TREE_COMPUTATION by what is pending and what the candidate changes, the answers and the age of a version by what ends it,
and the reports, joins and lost endpoints by what each row does. -/
theorem treeVersionsAndMembers : Obligations.TreeVersionsAndMembers := by
  refine ⟨fun s p present due speaks =>
      ⟨execTreeComputation_pending present due speaks, fun none_ same => ?_, fun none_ other moved => ?_⟩,
    fun s p e msg w present opened neighbour pending version sent last =>
      ⟨execTpRouteAckReceived_activates present opened neighbour pending version sent last,
        execTpRouteAckReceived_gives_up present opened neighbour pending version sent last⟩,
    fun s p w present pending => ⟨_, execPendingVersionTimeout_pending present pending, fun old => ?_, fun young => if_neg (by omega)⟩,
    fun s p e msg present opened neighbour one whole other station =>
      ⟨_, execTpLinkReportReceived_records present opened neighbour one whole other station, _, mem_links_reportDir .., rfl, rfl, rfl⟩,
    fun s p e msg present opened small whole =>
      ⟨fun unknown => ?_, fun stopped => ?_, fun r known running names on free room few => ?_⟩,
    fun s e lost long => execUnreachableHoldExpiry_retires lost long⟩
  · exact ⟨_, execTreeComputation_same present due speaks none_ same, topo_computed p s, state_unplaced p _ (computed p s)⟩
  · obtain ⟨e, placed, moved⟩ := moved
    obtain ⟨t, sent, issues, number, pending⟩ := execTreeComputation_issues present due speaks none_ other
      (List.ne_nil_of_mem (owesAnswer_of_moved placed moved))
    exact ⟨t, issues, number, by rw [pending]; rfl, by rw [pending]; rfl, by rw [pending]; rfl⟩
  · rw [if_pos old, topo_abandonVersion]
  · obtain ⟨t, records, entry⟩ := execTpJoinReceived_unknown present opened small whole unknown
    exact ⟨t, records, by rw [entry]; rfl⟩
  · obtain ⟨t, records, entry⟩ := execTpJoinReceived_waits present opened small whole stopped
    exact ⟨t, records, by rw [entry]; rfl, by rw [entry]; rfl⟩
  · obtain ⟨t, admits, entry⟩ := execTpJoinReceived_admits present opened small whole known running names on free room few
    have eui : r.eui = rdBe msg 4 8 := by simpa using List.find?_some known
    have join : (joinedEntry p msg (endpoint s e)).join.filter (fun j => j.1 == p && j.2.1 == r.eui) = some (joinOf p msg) := by
      simp [joinedEntry, joinOf, eui]
    rw [joiningEntry, join] at entry
    exact ⟨t, admits, by rw [entry], by rw [entry], by rw [entry], by rw [entry], by rw [entry]; rfl, by rw [entry]; rfl⟩

end Sys2Proof
end

section
/-! The commands of the topology engine (R260, R264, R265). -/

namespace Sys2Proof.Machine

variable {s : State} {c : Caller} {req : Bytes}

/-- An answer leaves the endpoint table as the command's meaning left it: where that updates one entry, it updates no other. -/
theorem updatesEndpoint_of_answers {o : Out} {code ep : Nat} {st : Status} {resp : Bytes} {f : Endpoint → Endpoint} {u : State}
    (ran : o = Answers c code req st resp u) (eps : u.eps = (updEndpoint ep f s).eps) :
    ∃ t, o = .next t ∧ endpoint t ep = f (endpoint s ep) ∧ ∀ e, e ≠ ep → endpoint t e = endpoint s e := by
  refine ⟨_, ran, ?_, fun e other => ?_⟩
  · rw [endpoint_of_eps (((complete_eps ..).trans (mirrorConfig_eps ..)).trans eps), endpoint_updEndpoint_self]
  · rw [endpoint_of_eps (((complete_eps ..).trans (mirrorConfig_eps ..)).trans eps), endpoint_updEndpoint_other other]

/-! ### topology.configure -/

/-- The settings that a topology.configure carries (R264). -/
def topoSettings (req : Bytes) : TopoCfg :=
  { maxDepth := rd req 2 1, reportInterval := rd req 3 1, hysteresis := rd req 4 1, copies := rd req 5 1, unreachHold := rd req 6 2 }

/-- They wait for the boundary, in place of any that waited (log 139). -/
theorem topologyConfigureBody_waits (present : rd req 0 2 < s.part.ports) (depth : rd req 2 1 ≤ 7)
    (interval : 1 ≤ rd req 3 1 ∧ rd req 3 1 ≤ 64) (hysteresis : rd req 4 1 ≤ 100) (copies : 1 ≤ rd req 5 1 ∧ rd req 5 1 ≤ 3)
    (hold : 1 ≤ rd req 6 2 ∧ rd req 6 2 ≤ 1024) : topologyConfigureBody req s =
      (updTopo (rd req 0 2) (fun t => { t with next := some (topoSettings req) }) s, .done St.pending (statusResp St.pending)) := by
  unfold topologyConfigureBody
  dsimp only
  rw [if_neg (by simp only [Bool.or_eq_true, decide_eq_true_eq]; omega)]
  rfl

/-! ### The command that admits an endpoint -/

/-- It admits the endpoint it names to its port, for its pod and with its EUI-64, and answers the status of that (R265). -/
theorem endpointAdmitBody_admits {t : State} {st : Status} (small : rd req 0 2 < 16384) (present : rd req 2 2 < s.part.ports)
    (fits : rd req 4 1 ≤ 64) (admits : admitEndpoint (rd req 0 2) (rd req 2 2) (rd req 4 1) (rd req 8 8) s = (t, st)) :
    endpointAdmitBody req s = (t, .done st (statusResp st)) := by
  unfold endpointAdmitBody
  dsimp only
  rw [if_neg (by simp only [Bool.or_eq_true, decide_eq_true_eq]; omega), admits]
  rfl

/-! ### endpoint.remove -/

theorem dropHeld_topoKept (ep : Nat) (s : State) : TopoKept s (dropHeld ep s) := by
  refine .after (.foldl (fun s h => ?_) _ _) rfl rfl
  split
  · exact updCphRing_topoKept ..
  · exact .ite (.refl s) (.of_calm (completeStatus_calm ..))
  · exact .refl s

/-- An endpoint that is removed keeps its port and its place on the active tree, which still routes through it, and nothing else. -/
def removedEntry (x : Endpoint) : Endpoint := { port := x.port, parent := x.parent, depth := x.depth, cost := x.cost }

/-- The removal of an endpoint changes the endpoint table as an update of its entry does. -/
theorem eps_removeEndpoint (ep : Nat) (s : State) : (removeEndpoint ep s).eps = (updEndpoint ep removedEntry s).eps := by
  unfold removeEndpoint
  extract_lets x p hit retired other unlinked freed cleared
  have retires : retired.eps = s.eps := ((dropHeld_topoKept ep s).trans
    (.foldl (fun _ _ => .ite (retireFlight_topoKept ..) (failSeal_topoKept ..)) hit (dropHeld ep s))).eps
  have frees : freed.eps = (updEndpoint ep removedEntry unlinked).eps := (mirrorEp_topoKept ..).eps
  have leaves : (if (pathTo cleared ep).isSome then engineSend p ep [0x46, 0, 0, 0] cleared else cleared).eps = cleared.eps :=
    (TopoKept.ite (engineSend_topoKept ..) (.refl _)).eps
  rw [leaves, show cleared.eps = freed.eps from rfl, frees]
  simp only [updEndpoint, endpoint, show unlinked.eps = s.eps from retires]

theorem endpointRemoveBody_frees (small : rd req 0 2 < 16384) (admitted : (endpoint s (rd req 0 2)).state ≠ .free)
    (clear : s.lbf.flights.any (fun f => f.2.final == rd req 0 2 && f.2.cls == 3) = false) :
    endpointRemoveBody req s = (removeEndpoint (rd req 0 2) s, .done St.ok (statusResp St.ok)) := by
  unfold endpointRemoveBody
  dsimp only
  rw [if_neg (by omega), if_neg (by simp [admitted]), if_neg (by simp [clear])]
  rfl

/-! ### topology.read -/

theorem topologyReadBody_answers (small : rd req 0 2 < 16384) (admitted : (endpoint s (rd req 0 2)).state ≠ .free)
    (may : c.pod = 0 ∨ c.pod = (endpoint s (rd req 0 2)).pod) :
    ∃ resp, resp.length = 32 ∧ topologyReadBody c req s = (s, .done St.ok resp) := by
  unfold topologyReadBody
  dsimp only
  rw [if_neg (by omega), if_neg (by simp [admitted]), if_neg (by simp; tauto)]
  exact ⟨_, by simp [zeros], rfl⟩

end Sys2Proof.Machine
end

section
/-! The obligation of the topology engine's commands (O22), by its four commands. -/

namespace Sys2Proof

open Machine

/-- Settles O22: each command from what its meaning does with a request that it takes. -/
theorem topologyCommands : Obligations.TopologyCommands := by
  refine ⟨?_, ?_, ?_, ?_⟩
  · intro s c req start form sender present depth least most hysteresis one three short long
    exact runCmd_answers start (by simp [form]) (fun _ => sender)
      (topologyConfigureBody_waits present depth ⟨least, most⟩ hysteresis ⟨one, three⟩ ⟨short, long⟩)
  · intro s c req start form sender small present fits
    refine ⟨fun free opened room few => ?_, fun admitted same on opened => ?_⟩
    · have body := endpointAdmitBody_admits small present fits (admitEndpoint_free opened free room few)
      obtain ⟨t, admits, entry, others⟩ :=
        updatesEndpoint_of_answers (runCmd_answers (pod0 := true) start form (fun _ => sender) body) (mirrorEp_topoKept ..).eps
      exact ⟨t, admits, by rw [entry]; rfl, by rw [entry]; rfl, by rw [entry]; rfl, by rw [entry]; rfl, others⟩
    · have body := endpointAdmitBody_admits small present fits (admitEndpoint_admitted opened admitted same on)
      exact updatesEndpoint_of_answers (runCmd_answers (pod0 := true) start form (fun _ => sender) body) (mirrorEp_topoKept ..).eps
  · intro s c req start form sender small admitted clear
    have body := endpointRemoveBody_frees small admitted clear
    obtain ⟨t, removes, entry, others⟩ :=
      updatesEndpoint_of_answers (runCmd_answers (pod0 := true) start form (fun _ => sender) body) (eps_removeEndpoint (rd req 0 2) s)
    exact ⟨t, removes, by rw [entry]; rfl, others⟩
  · intro s c req start form small admitted may
    obtain ⟨resp, length, body⟩ := topologyReadBody_answers small admitted may
    exact ⟨resp, length, runCmd_answers start form (by simp) body⟩

end Sys2Proof
end

section
/-! What reporting and admission leave of the management complex: events, counters, trace, messages, tags and frames keep it whole, and
notifications and completions keep the state of the hosted services (R446, R457). -/

namespace Sys2Proof.Machine

theorem mgmt_if {s a b : State} {p : Prop} [Decidable p] (ha : a.mgmt = s.mgmt) (hb : b.mgmt = s.mgmt) :
    (if p then a else b).mgmt = s.mgmt := by split <;> assumption

theorem foldl_mgmt {α : Type} {f : State → α → State} (h : ∀ s x, (f s x).mgmt = s.mgmt) (l : List α) (s : State) :
    (l.foldl f s).mgmt = s.mgmt := by
  induction l generalizing s with
  | nil => rfl
  | cons x l ih => exact (ih _).trans (h s x)

/-! ### Counters, messages and trace -/

theorem bump_mgmt (id n : Nat) (s : State) : (bump id n s).mgmt = s.mgmt := mgmt_if rfl rfl

theorem sendMsix_mgmt (fn v : Nat) (s : State) : (sendMsix fn v s).mgmt = s.mgmt := mgmt_if rfl (mgmt_if rfl rfl)

theorem mgmt_ddrAccept {type : Nat} {payload : List Word} {s t : State} (h : ddrAccept type payload s = some t) : t.mgmt = s.mgmt := by
  unfold ddrAccept at h
  dsimp only at h
  split at h
  · cases h; rfl
  · split at h
    · split at h <;> cases h
      rfl
    · cases h

theorem ddrDrop_mgmt (source : Nat) (s : State) : (ddrDrop source s).mgmt = s.mgmt := bump_mgmt ..

theorem ddrFeed_mgmt (source type : Nat) (payload : List Word) (s : State) : (ddrFeed source type payload s).mgmt = s.mgmt := by
  unfold ddrFeed
  dsimp only
  split
  · rename_i t fed
    obtain ⟨u, loss, accepted⟩ := Option.bind_eq_some_iff.mp fed
    refine (mgmt_ddrAccept accepted).trans ?_
    split at loss
    · cases loss; rfl
    · obtain ⟨v, lossRecord, rfl⟩ := Option.map_eq_some_iff.mp loss
      exact .trans (b := v.mgmt) rfl (mgmt_ddrAccept lossRecord)
  · exact ddrDrop_mgmt ..

theorem portFeed_mgmt (source type : Nat) (payload : List Word) (s : State) : (portFeed source type payload s).mgmt = s.mgmt :=
  mgmt_if (bump_mgmt ..) (mgmt_if rfl rfl)

theorem traceFeed_mgmt (source type : Nat) (payload : List Word) (s : State) : (traceFeed source type payload s).mgmt = s.mgmt :=
  .trans (mgmt_if (portFeed_mgmt ..) rfl) (mgmt_if (ddrFeed_mgmt ..) rfl)

/-! ### Events -/

theorem noteRec_mgmt (r : EventRec) (s : State) : (noteRec r s).mgmt = s.mgmt := traceFeed_mgmt ..

theorem routeRec_mgmt (r : EventRec) (s : State) : (routeRec r s).1.mgmt = s.mgmt := by
  unfold routeRec
  dsimp only
  split
  · rfl
  · split
    · rfl
    · split
      · rfl
      · exact sendMsix_mgmt ..

theorem startWindow_mgmt (source cause : Nat) (s : State) : (startWindow source cause s).mgmt = s.mgmt := mgmt_if rfl rfl

theorem issueF_mgmt (depth : Nat) (r : EventRec) (s : State) : (issueF depth r s).mgmt = s.mgmt := by
  induction depth generalizing r s with
  | zero => exact noteRec_mgmt r s
  | succ d ih =>
    have again (src c a : Nat) (u : State) : (match openWindow u src c with
        | some _ => accumulate (newRec src c a 0 u) u
        | none => startWindow src c (issueF d (newRec src c a 0 u) u)).mgmt = u.mgmt := by
      split
      · rfl
      · exact (startWindow_mgmt ..).trans (ih ..)
    have routed : (routeRec r (noteRec r s)).1.mgmt = s.mgmt := (routeRec_mgmt ..).trans (noteRec_mgmt ..)
    unfold issueF
    split
    rename_i u faulted ovf told
    rw [told] at routed
    refine (foldl_mgmt (fun u n => again ..) ovf _).trans ?_
    split
    · exact (again ..).trans routed
    · exact routed

theorem raiseSys_mgmt (e cause arg0 arg1 : Nat) (s : State) : (raiseSys e cause arg0 arg1 s).mgmt = s.mgmt := by
  unfold raiseSys raise raiseRec
  split
  · rfl
  · split
    · rfl
    · exact (startWindow_mgmt ..).trans (issueF_mgmt ..)

theorem count_mgmt (code : Nat) (a : Attr) (n : Nat) (s : State) : (count code a n s).mgmt = s.mgmt :=
  foldl_mgmt (fun _ _ => raiseSys_mgmt ..) _ _

theorem hostWrite_mgmt (fn addr : Nat) (data : Bytes) (s : State) : (hostWrite fn addr data s).mgmt = s.mgmt := count_mgmt ..

/-! ### Tags and frames -/

theorem tagEnd_mgmt (kind p ident : Nat) (retired escalated : Bool) (attempts : Nat) (s : State) :
    (tagEnd kind p ident retired escalated attempts s).mgmt = s.mgmt := by
  unfold tagEnd
  split
  · rfl
  · exact traceFeed_mgmt ..

theorem tagStart_mgmt (kind p ident pod_ : Nat) (s : State) : (tagStart kind p ident pod_ s).mgmt = s.mgmt := by
  unfold tagStart
  dsimp only
  split
  · rfl
  · have drawn : (drawTag (if kind ≤ 2 then (tagCfg s p).kf else (tagCfg s p).ks) s).2.mgmt = s.mgmt := rfl
    split <;> rename_i u draw <;> rw [draw] at drawn
    · exact drawn
    · exact .trans (b := u.mgmt) (mgmt_if ((count_mgmt ..).trans (bump_mgmt ..)) (bump_mgmt ..)) drawn

theorem cacheTouch_mgmt (e : Nat) (s : State) : (cacheTouch e s).mgmt = s.mgmt := by
  refine mgmt_if rfl (mgmt_if rfl ?_)
  dsimp only
  split <;> rfl

theorem admitFlight_mgmt (n : Nat) (h : Held) (s : State) : (admitFlight n h s).mgmt = s.mgmt :=
  .trans (mgmt_if (cacheTouch_mgmt ..) rfl) (.trans (mgmt_if rfl (tagStart_mgmt ..)) (count_mgmt ..))

theorem admitVector_mgmt (fn : Nat) (s : State) : (admitVector fn s).mgmt = s.mgmt := mgmt_if rfl (sendMsix_mgmt ..)

theorem holdSubmission_mgmt (h : Held) (cause : Nat) (s : State) : (holdSubmission h cause s).mgmt = s.mgmt :=
  .trans (mgmt_if rfl (mgmt_if (admitVector_mgmt ..) rfl)) (count_mgmt ..)

/-- A unit that has reached its destination is released, and the management complex is as before (R270). -/
theorem delivered_mgmt (n : Nat) (r : Reasm) (s : State) : (delivered n r s).mgmt = s.mgmt :=
  (tagEnd_mgmt ..).trans (count_mgmt ..)

theorem delivered_now (n : Nat) (r : Reasm) (s : State) : (delivered n r s).now = s.now :=
  ((releaseReasm_quiet n s).trans ((count_quiet ..).trans ((tagCheck_quiet ..).trans (tagEnd_quiet ..)))).now

theorem delivered_reasms (n : Nat) (r : Reasm) (s : State) : (delivered n r s).lbf.reasms = tdel s.lbf.reasms n := by
  simp [delivered, releaseReasm]

/-! ### The state of the hosted services -/

/-- What the firmware keeps of the hosted services (R457, R458). -/
structure Hosted where
  reqId : BitVec 16
  schedules : Table MeterSchedule
  shedOps : List ShedOp
  assets : Table Asset

def State.hosted (s : State) : Hosted :=
  { reqId := s.mgmt.reqId, schedules := s.mgmt.schedules, shedOps := s.mgmt.shedOps, assets := s.mgmt.assets }

theorem hosted_of_mgmt {s t : State} (h : t.mgmt = s.mgmt) : t.hosted = s.hosted := by rw [State.hosted, h, State.hosted]

theorem schedule_of_hosted {s t : State} (h : t.hosted = s.hosted) (k : Nat) : schedule t k = schedule s k :=
  congrArg (fun x : Hosted => (x.schedules.find? (fun e : Nat × MeterSchedule => e.1 == k)).map Prod.snd) h

theorem asset_of_hosted {s t : State} (h : t.hosted = s.hosted) (ep : Nat) : asset t ep = asset s ep :=
  congrArg (fun x : Hosted => (x.assets.find? (fun e : Nat × Asset => e.1 == ep)).map Prod.snd) h

theorem hosted_if {s a b : State} {p : Prop} [Decidable p] (ha : a.hosted = s.hosted) (hb : b.hosted = s.hosted) :
    (if p then a else b).hosted = s.hosted := by split <;> assumption

theorem foldl_hosted {α : Type} {f : State → α → State} (h : ∀ s x, (f s x).hosted = s.hosted) (l : List α) (s : State) :
    (l.foldl f s).hosted = s.hosted := by
  induction l generalizing s with
  | nil => rfl
  | cons x l ih => exact (ih _).trans (h s x)

/-! ### Records, completions and notifications leave it -/

theorem updMbxLane_hosted (n l : Nat) (f : MbxLane → MbxLane) (s : State) : (updMbxLane n l f s).hosted = s.hosted := rfl

theorem hosted_writeRecord {n l : Nat} {r : Bytes} {raiseIt : Bool} {s t : State} (h : writeRecord n l r raiseIt s = some t) :
    t.hosted = s.hosted := by
  unfold writeRecord at h
  split at h
  · cases h
  · cases h
    exact (hosted_if (hosted_of_mgmt (sendMsix_mgmt ..)) rfl).trans ((updMbxLane_hosted ..).trans (hosted_of_mgmt (hostWrite_mgmt ..)))

theorem postRecord_hosted (n l : Nat) (r : Bytes) (raiseIt : Bool) (s : State) : (postRecord n l r raiseIt s).hosted = s.hosted := by
  unfold postRecord
  dsimp only
  split
  · rfl
  · split
    · rename_i t written
      exact hosted_writeRecord written
    · rfl

theorem writeResponse_hosted (c : Caller) (resp : Bytes) (s : State) : (writeResponse c resp s).1.hosted = s.hosted := by
  unfold writeResponse
  split
  · rfl
  · split
    · exact hosted_of_mgmt (hostWrite_mgmt ..)
    · rfl

theorem completeNow_hosted (c : Caller) (st : Status) (resp : Bytes) (s : State) : (completeNow c st resp s).hosted = s.hosted := by
  have posted (lost : Bool) : (postRecord c.pod c.lane (recordBytes st 0 lost c.tag resp) c.raise
      (forget c (writeResponse c resp s).1)).hosted = s.hosted := (postRecord_hosted ..).trans (writeResponse_hosted ..)
  unfold completeNow
  exact hosted_if ((hosted_of_mgmt ((count_mgmt ..).trans (bump_mgmt ..))).trans (posted _)) (posted _)

theorem mirrorConfig_hosted (k : Cmd) (st : Status) (s : State) : (mirrorConfig k st s).hosted = s.hosted := hosted_if rfl rfl

theorem mirrorHeld_hosted (c : Caller) (st : Status) (s : State) : (mirrorHeld c st s).hosted = s.hosted := by
  unfold mirrorHeld
  split
  · exact mirrorConfig_hosted ..
  · rfl

theorem complete_hosted (c : Caller) (st : Status) (resp : Bytes) (s : State) : (complete c st resp s).hosted = s.hosted := by
  refine .trans ?_ (mirrorHeld_hosted c st s)
  unfold complete
  dsimp only
  split
  · rfl
  · split
    · exact completeNow_hosted ..
    · rfl
    · rfl
    · rfl

/-- An answer leaves the services as the command's meaning left them. -/
theorem answers_hosted (c : Caller) (code : Nat) (req : Bytes) (st : Status) (resp : Bytes) (u : State) :
    ∃ t, Answers c code req st resp u = .next t ∧ t.hosted = u.hosted :=
  ⟨_, rfl, (complete_hosted ..).trans (mirrorConfig_hosted ..)⟩

theorem deliverNotice_hosted (c : Caller) (n : Notice) (s : State) : (deliverNotice c n s).hosted = s.hosted :=
  (postRecord_hosted ..).trans ((updMbxLane_hosted ..).trans (writeResponse_hosted ..))

theorem notify_hosted (n l code : Nat) (body : Bytes) (s : State) : (notify n l code body s).hosted = s.hosted := by
  unfold notify
  dsimp only
  split
  · rfl
  · split
    · exact deliverNotice_hosted ..
    · exact hosted_if rfl rfl

end Sys2Proof.Machine
end

section
/-! The hosted services (R457, R458): what each command's meaning and each row leaves of schedules, operations, assets and the request
number. -/

namespace Sys2Proof.Machine

/-! ### Requests -/

theorem serviceSend_mgmt (ep cls : Nat) (text : Bytes) (s : State) : (serviceSend ep cls text s).mgmt = s.mgmt := by
  unfold serviceSend
  split
  · rfl
  · dsimp only
    split
    · exact admitFlight_mgmt ..
    · exact holdSubmission_mgmt ..

/-- A request takes the next request number, answers it, and changes nothing else of the management complex (R457). -/
theorem serviceAsk_takes (svc cls : Nat) (eps : List Nat) (body : Bytes) (s : State) :
    ∃ t, serviceAsk svc cls eps body s = (t, (s.mgmt.reqId + 1).toNat) ∧ t.mgmt = { s.mgmt with reqId := s.mgmt.reqId + 1 } := by
  refine ⟨_, rfl, (foldl_mgmt (fun _ _ => serviceSend_mgmt ..) eps _).trans ?_⟩
  rw [BitVec.ofNat_toNat, BitVec.setWidth_eq]

section
variable {s : State} {c : Caller} {req : Bytes}

/-! ### svc.registry.set -/

/-- The entry that a svc.registry.set names. -/
def regEntry (req : Bytes) : RegEntry :=
  { eui := rd req 0 8, endpoint := rd req 8 2, port := rd req 10 2, pod := rd req 12 1, owner := rd req 13 1 }

/-- The entries beside it. -/
def regOthers (req : Bytes) (s : State) : List RegEntry := (registryLatest s).filter (fun r => r.eui != (regEntry req).eui)

section
variable (ep : rd req 8 2 < 16384) (present : rd req 10 2 < s.part.ports) (fits : rd req 12 1 ≤ 64) (owner : rd req 13 1 ≤ 64)
include ep present fits owner

/-- An entry is removed (R458). -/
theorem svcRegistrySetBody_removes (remove : rd req 14 1 = 1) :
    svcRegistrySetBody c req s = persist (.registry (regOthers req s)) c (statusResp St.ok) s := by
  unfold svcRegistrySetBody
  dsimp only
  rw [if_neg (by simp only [Bool.or_eq_true, decide_eq_true_eq]; omega), if_pos remove]
  rfl

/-- An entry joins the others, or takes the place of the one of its EUI-64 (R458). -/
theorem svcRegistrySetBody_adds (keep : rd req 14 1 = 0) (unused : ∀ r ∈ regOthers req s, r.endpoint ≠ rd req 8 2)
    (room : (regOthers req s).length < 16384) :
    svcRegistrySetBody c req s = persist (.registry (regOthers req s ++ [regEntry req])) c (statusResp St.ok) s := by
  unfold svcRegistrySetBody
  dsimp only
  rw [if_neg (by simp only [Bool.or_eq_true, decide_eq_true_eq]; omega), if_neg (by omega),
    if_neg (by simpa [regOthers, regEntry] using unused), if_neg (by simpa [regOthers, regEntry] using room)]
  rfl

end

/-! ### Meter schedules -/

theorem schedule_setSchedule_self (k : Nat) (x : MeterSchedule) (s : State) : schedule (setSchedule k x s) k = some x := by
  rw [schedule, setSchedule, find?_tset_self]
  rfl

/-- The schedule that a svc.meter.schedule sets: its first period is due now. -/
def newSchedule (c : Caller) (req : Bytes) (now : Nat) : MeterSchedule :=
  { owner := c.pod, lane := rd req 2 1, periodS := rd req 4 4, first := rd req 8 2, count := rd req 10 2,
    query := slice req 16 (rd req 12 2), nextAt := now, collecting := none, collectEnd := 0, asked := [], replies := [] }

/-- A schedule is deleted, whether or not there was one (R458; log 28). -/
theorem svcMeterScheduleBody_deletes (delete : rd req 1 1 = 1) : svcMeterScheduleBody c req s =
    ({ s with mgmt.schedules := tdel s.mgmt.schedules (256 * c.pod + rd req 0 1) }, .done St.ok (statusResp St.ok)) := by
  unfold svcMeterScheduleBody
  dsimp only
  rw [if_neg (by omega), if_pos delete]
  rfl

/-- A schedule is set over a range in which the caller owns an endpoint (R458). -/
theorem svcMeterScheduleBody_sets (set : rd req 1 1 = 0) (lane : 1 ≤ rd req 2 1 ∧ rd req 2 1 ≤ 2)
    (period : 1 ≤ rd req 4 4 ∧ rd req 4 4 ≤ 86400) (count : 1 ≤ rd req 10 2 ∧ rd req 10 2 ≤ 1024)
    (range : rd req 8 2 + rd req 10 2 ≤ 16384) (short : rd req 12 2 ≤ 256)
    (owns : ownedRange s c.pod (rd req 8 2) (rd req 10 2) ≠ []) (room : s.mgmt.schedules.length < 256) :
    svcMeterScheduleBody c req s =
      (setSchedule (256 * c.pod + rd req 0 1) (newSchedule c req s.now) s, .done St.ok (statusResp St.ok)) := by
  unfold svcMeterScheduleBody
  dsimp only
  rw [if_neg (by omega), if_neg (by omega), if_neg (by simp only [Bool.or_eq_true, decide_eq_true_eq]; omega),
    if_neg (by simp [owns]), if_neg (by simp; omega)]
  rfl

/-! ### svc.load.shed -/

/-- The operation that a svc.load.shed adds: at once where it names no time. -/
def newShed (c : Caller) (req : Bytes) (s : State) : ShedOp :=
  { owner := c.pod, first := rd req 0 2, count := rd req 2 2, body := slice req 16 (rd req 4 2),
    executeAt := if rd req 8 8 = 0 then (tmbNow s).toNat else rd req 8 8, confirmMs := rd req 6 2, executed := false, reqId := 0,
    replied := [] }

theorem svcLoadShedBody_adds (count : 1 ≤ rd req 2 2 ∧ rd req 2 2 ≤ 1024) (range : rd req 0 2 + rd req 2 2 ≤ 16384)
    (short : rd req 4 2 ≤ 256) (confirm : 10 ≤ rd req 6 2 ∧ rd req 6 2 ≤ 10000)
    (owns : ownedRange s c.pod (rd req 0 2) (rd req 2 2) ≠ [])
    (room : (s.mgmt.shedOps.filter (fun o => o.owner == c.pod)).length < 4) : svcLoadShedBody c req s =
      ({ s with mgmt.shedOps := s.mgmt.shedOps ++ [newShed c req s] }, .done St.pending (statusResp St.pending)) := by
  unfold svcLoadShedBody
  dsimp only
  rw [if_neg (by simp only [Bool.or_eq_true, decide_eq_true_eq]; omega), if_neg (by simp [owns]), if_neg (by omega)]
  rfl

/-! ### svc.dispatch.set -/

theorem asset_of_assets {t : State} {l : Table Asset} {ep : Nat} {a : Asset} (h : t.mgmt.assets = tset l ep a) :
    asset t ep = some a := by
  rw [asset, h, find?_tset_self]
  rfl

/-- The asset that a svc.dispatch.set sets: its setpoint went out now under a request number. -/
def newAsset (c : Caller) (req : Bytes) (now reqId : Nat) : Asset :=
  { owner := c.pod, kind := rd req 2 1, reassertS := rd req 4 2, lossS := rd req 6 2, body := slice req 16 (rd req 8 2),
    nextAt := now + secs (rd req 4 2), lastReply := now, awaitFirst := true, unanswered := true, reqId := reqId }

theorem svcDispatchSetBody_sets (small : rd req 0 2 < 16384) (kind : 1 ≤ rd req 2 1 ∧ rd req 2 1 ≤ 3) (set : rd req 3 1 = 0)
    (reassert : 1 ≤ rd req 4 2 ∧ rd req 4 2 ≤ 3600) (loss : 1 ≤ rd req 6 2 ∧ rd req 6 2 ≤ 3600) (short : rd req 8 2 ≤ 256)
    (owns : serviceOwner s (rd req 0 2) = some c.pod) (room : s.mgmt.assets.length < 4096) :
    ∃ t now, svcDispatchSetBody c req s = (t, .done St.ok (statusResp St.ok)) ∧
      asset t (rd req 0 2) = some (newAsset c req now (s.mgmt.reqId + 1).toNat) := by
  obtain ⟨u, asks, -⟩ := serviceAsk_takes 4 2 [rd req 0 2] (slice req 16 (rd req 8 2)) s
  unfold svcDispatchSetBody
  dsimp only
  rw [if_neg (by simp only [Bool.or_eq_true, decide_eq_true_eq]; omega), if_neg (by simp [owns]), if_neg (by omega),
    if_neg (by simp; omega), asks]
  exact ⟨_, u.now, rfl, asset_of_assets rfl⟩

end

/-! ### METER_PERIOD and METER_COLLECTION_END -/

/-- A collection that has ended: nothing asked, nothing kept. -/
def endedSchedule (x : MeterSchedule) : MeterSchedule := { x with collecting := none, asked := [], replies := [] }

/-- The end of a collection notifies, and clears the schedule (R458). -/
theorem endCollection_hosted {x : MeterSchedule} (collects : x.collecting.isSome = true) (k : Nat) (s : State) :
    (endCollection k x s).hosted = (setSchedule k (endedSchedule x) s).hosted := by
  obtain ⟨id, collecting⟩ := Option.isSome_iff_exists.mp collects
  unfold endCollection
  rw [collecting]
  exact foldl_hosted (fun _ _ => notify_hosted ..) _ _

theorem endCollection_reqId (k : Nat) (x : MeterSchedule) (s : State) : (endCollection k x s).mgmt.reqId = s.mgmt.reqId := by
  cases collects : x.collecting with
  | none => rw [endCollection, collects]
  | some id => exact congrArg Hosted.reqId (endCollection_hosted (by rw [collects]; rfl) k s)

theorem endCollection_now (k : Nat) (x : MeterSchedule) (s : State) : (endCollection k x s).now = s.now := by
  unfold endCollection
  split
  · rfl
  · exact (Quiet.foldl (fun _ _ => notify_quiet ..) _ _).now

/-- The schedule as its period leaves it, the next one to start at a given time: the endpoints that its owner has now are asked under a
request number, until then or for 60 s. -/
def askedSchedule (x : MeterSchedule) (next : Nat) (eps : List Nat) (reqId : Nat) : MeterSchedule :=
  { x with nextAt := next, collecting := some reqId, collectEnd := min next (x.nextAt + secs 60), asked := eps, replies := [] }

theorem askedSchedule_query (x : MeterSchedule) (next : Nat) (eps : List Nat) (reqId : Nat) :
    (askedSchedule x next eps reqId).query = x.query := rfl

variable {s : State}

theorem execMeterPeriod_asks {k : Nat} {x : MeterSchedule} (set : schedule s k = some x) (running : s.mgmt.fwState = .running) :
    ∃ t eps, execMeterPeriod k s = .next t ∧ t.mgmt.reqId = s.mgmt.reqId + 1 ∧
      schedule t k = some (askedSchedule x (x.nextAt + secs x.periodS) eps (s.mgmt.reqId + 1).toNat) := by
  have ended : (endCollection k x (advanceTo x.nextAt s)).mgmt.reqId = s.mgmt.reqId := endCollection_reqId ..
  obtain ⟨u, asks, mgmt⟩ := serviceAsk_takes 2 1 (ownedRange (endCollection k x (advanceTo x.nextAt s)) x.owner x.first x.count) x.query
    (endCollection k x (advanceTo x.nextAt s))
  rw [ended] at asks mgmt
  unfold execMeterPeriod
  rw [set]
  dsimp only
  rw [if_neg (by simp [running]), asks]
  exact ⟨_, _, rfl, congrArg Mgmt.reqId mgmt, schedule_setSchedule_self ..⟩

theorem execMeterCollectionEnd_ends {k : Nat} {x : MeterSchedule} (set : schedule s k = some x) (running : s.mgmt.fwState = .running)
    (collects : x.collecting.isSome = true) :
    ∃ t, execMeterCollectionEnd k s = .next t ∧ schedule t k = some (endedSchedule x) ∧ t.now = max s.now x.collectEnd := by
  refine ⟨endCollection k x (advanceTo x.collectEnd s), ?_, ?_, endCollection_now ..⟩
  · unfold execMeterCollectionEnd
    rw [set]
    dsimp only
    rw [if_neg (by simp [running, Option.isSome_iff_ne_none.mp collects])]
  · rw [schedule_of_hosted (endCollection_hosted collects ..), schedule_setSchedule_self]

/-! ### LOAD_SHED_EXECUTE and LOAD_SHED_CONFIRM -/

theorem execLoadShedExecute_executes {i : Nat} {o : ShedOp} (listed : s.mgmt.shedOps[i]? = some o)
    (running : s.mgmt.fwState = .running) (waits : o.executed = false) : ∃ t, execLoadShedExecute i s = .next t ∧
      t.mgmt.reqId = s.mgmt.reqId + 1 ∧ t.mgmt.shedOps[i]? = some { o with executed := true, reqId := (s.mgmt.reqId + 1).toNat } := by
  obtain ⟨u, asks, mgmt⟩ := serviceAsk_takes 3 3 (ownedRange (advanceTo (sampleOf s.tmb o.executeAt) s) o.owner o.first o.count) o.body
    (advanceTo (sampleOf s.tmb o.executeAt) s)
  rw [advanceTo_mgmt] at asks mgmt
  obtain ⟨small, -⟩ := List.getElem?_eq_some_iff.mp listed
  unfold execLoadShedExecute
  rw [listed]
  dsimp only
  rw [if_neg (by simp [running, waits]), asks]
  refine ⟨_, rfl, congrArg Mgmt.reqId mgmt, ?_⟩
  rw [setShed, mgmt]
  exact List.getElem?_set_self small

/-- The confirmation is notified, and the operation is gone (R458). -/
theorem execLoadShedConfirm_ends {i : Nat} {o : ShedOp} (listed : s.mgmt.shedOps[i]? = some o) (running : s.mgmt.fwState = .running)
    (executed : o.executed = true) :
    ∃ t, execLoadShedConfirm i s = .next t ∧ t.mgmt.shedOps = s.mgmt.shedOps.eraseIdx i := by
  unfold execLoadShedConfirm
  rw [listed]
  dsimp only
  rw [if_neg (by simp [running, executed])]
  exact ⟨_, rfl, congrArg Hosted.shedOps (notify_hosted ..)⟩

/-! ### DISPATCH_REASSERT and DISPATCH_LOSS -/

theorem dispatchNotice_hosted (owner : Nat) (s : State) : (dispatchNotice owner s).hosted = s.hosted := notify_hosted ..

theorem dispatchNotice_lbf (owner : Nat) (s : State) : (dispatchNotice owner s).lbf = s.lbf := congrArg Calm.lbf (notify_calm ..)

theorem execDispatchReassert_sends {ep : Nat} {a : Asset} (set : asset s ep = some a) (running : s.mgmt.fwState = .running) :
    ∃ t, execDispatchReassert ep s = .next t ∧
      asset t ep = some { a with nextAt := a.nextAt + secs a.reassertS, unanswered := true, reqId := (s.mgmt.reqId + 1).toNat } := by
  obtain ⟨u, asks, -⟩ := serviceAsk_takes 4 2 [ep] a.body (advanceTo a.nextAt s)
  unfold execDispatchReassert
  rw [set]
  dsimp only
  rw [if_neg (by simp [running]), asks]
  exact ⟨_, rfl, asset_of_assets rfl⟩

/-- A loss is notified, and its time starts again (R458; log 30). -/
theorem execDispatchLoss_notifies {ep : Nat} {a : Asset} (set : asset s ep = some a) (running : s.mgmt.fwState = .running) :
    ∃ t, execDispatchLoss ep s = .next t ∧ asset t ep = some { a with lastReply := max s.now (a.lastReply + secs a.lossS) } := by
  unfold execDispatchLoss
  rw [set]
  dsimp only
  rw [if_neg (by simp [running])]
  exact ⟨_, rfl, (asset_of_hosted (dispatchNotice_hosted ..) ep).trans (asset_of_assets rfl)⟩

/-! ### SERVICE_REPLY_RECEIVED -/

/-- An asset whose latest request is answered. -/
def repliedAsset (now : Nat) (a : Asset) : Asset := { a with lastReply := now, awaitFirst := false, unanswered := false }

/-- A reply to an asset's latest request reaches it, the first one after a change being notified (R458). -/
theorem serviceReply_dispatch {ep id : Nat} {a : Asset} (set : asset s ep = some a) (latest : a.reqId = id) (body : Bytes) :
    asset (serviceReply ep 4 id body s) ep = some (repliedAsset s.now a) ∧ (serviceReply ep 4 id body s).lbf = s.lbf := by
  unfold serviceReply
  rw [if_neg (by decide), if_neg (by decide), set]
  dsimp only
  rw [if_neg (by simp [latest])]
  split
  · exact ⟨(asset_of_hosted (dispatchNotice_hosted ..) ep).trans (asset_of_assets rfl), dispatchNotice_lbf ..⟩
  · exact ⟨asset_of_assets rfl, rfl⟩

/-- The firmware consumes the unit: its reassembly is released (R293). -/
theorem execServiceReplyReceived_consumes {ep n : Nat} {r : Reasm} {a : Asset} {u : Bytes} (set : asset s ep = some a)
    (running : s.mgmt.fwState = .running)
    (arrived : s.lbf.reasms.find? (fun e => e.2.ep == ep && e.2.pod == 0 && e.2.ready && e.2.opened && e.2.data == u) = some (n, r))
    (reply : isReply u = true) (service : rd u 0 1 = 4) (latest : a.reqId = rdBe u 2 2) :
    ∃ t, execServiceReplyReceived ep u s = .next t ∧ asset t ep = some (repliedAsset s.now a) ∧ thas t.lbf.reasms n = false := by
  have kept : asset (delivered n r s) ep = some a := (asset_of_hosted (hosted_of_mgmt (delivered_mgmt n r s)) ep).trans set
  obtain ⟨replied, lbf⟩ := serviceReply_dispatch kept latest (slice u 8 (rdBe u 4 2))
  unfold execServiceReplyReceived
  dsimp only
  rw [arrived]
  dsimp only
  rw [if_neg (by simp [running, reply]), service]
  exact ⟨_, rfl, by rw [replied, delivered_now], by rw [lbf, delivered_reasms, thas_tdel_self]⟩

end Sys2Proof.Machine
end

section
/-! The obligation of the hosted services (O42), by its commands and its rows. -/

namespace Sys2Proof

open Machine

/-- Settles O42: each command and each row from what its meaning leaves of the service it serves. -/
theorem servicesRun : Obligations.ServicesRun := by
  refine ⟨?_, ?_, fun s k x set running => ⟨?_, fun collects => ?_⟩, ?_, fun s i o listed running => ?_, ?_,
    fun s ep a set running => ⟨execDispatchReassert_sends set running, execDispatchLoss_notifies set running, ?_⟩⟩
  · intro s c req start form sender ep present fits owner
    exact ⟨fun remove => runCmd_goesOn start form (fun _ => sender) (svcRegistrySetBody_removes ep present fits owner remove),
      fun keep unused room => runCmd_goesOn start form (fun _ => sender)
        (svcRegistrySetBody_adds ep present fits owner keep unused room)⟩
  · intro s c req start long reserved
    have form : (req.length == 16 + rd req 12 2 && reservedZero req [(3, 1), (14, 2)]) = true := by simp [long, reserved]
    refine ⟨fun delete => runCmd_answers start form (by simp) (svcMeterScheduleBody_deletes delete),
      fun set one two least most few many range short owns room => ?_⟩
    have body := svcMeterScheduleBody_sets (c := c) set ⟨one, two⟩ ⟨least, most⟩ ⟨few, many⟩ range short owns room
    obtain ⟨t, answered, hosted⟩ := answers_hosted c 0x1402 req St.ok (statusResp St.ok)
      (setSchedule (256 * c.pod + rd req 0 1) (newSchedule c req s.now) s)
    exact ⟨t, newSchedule c req s.now, (runCmd_answers start form (by simp) body).trans answered,
      (schedule_of_hosted hosted _).trans (schedule_setSchedule_self ..), rfl, rfl, rfl, rfl, rfl, rfl⟩
  · obtain ⟨t, eps, asks, reqId, entry⟩ := execMeterPeriod_asks set running
    exact ⟨t, _, asks, entry, rfl, by rw [reqId]; rfl, reqId, rfl, askedSchedule_query ..⟩
  · obtain ⟨t, ends, entry, now⟩ := execMeterCollectionEnd_ends set running collects
    exact ⟨t, _, ends, entry, rfl, rfl, now⟩
  · intro s c req start long few many range short least most owns room
    exact runCmd_answers start (by simp [long]) (by simp)
      (svcLoadShedBody_adds ⟨few, many⟩ range short ⟨least, most⟩ owns room)
  · exact ⟨execLoadShedExecute_executes listed running, execLoadShedConfirm_ends listed running⟩
  · intro s c req start long reserved small one three set least most few many short owns room
    obtain ⟨u, now, body, entry⟩ := svcDispatchSetBody_sets small ⟨one, three⟩ set ⟨least, most⟩ ⟨few, many⟩ short owns room
    obtain ⟨t, answered, hosted⟩ := answers_hosted c 0x1404 req St.ok (statusResp St.ok) u
    exact ⟨t, _, (runCmd_answers start (by simp [long, reserved]) (by simp) body).trans answered,
      (asset_of_hosted hosted _).trans entry, rfl, rfl, rfl, rfl, rfl, rfl, rfl⟩
  · intro n r u arrived reply service latest
    exact execServiceReplyReceived_consumes set running arrived reply service latest.symm

end Sys2Proof
end

section
/-! What is always so of memory and of a step (00_scope.md, R467, R468, R483 to R485). -/

namespace Sys2Proof.Machine

/-- A list in canonical form whose first address is beyond another's reads the default where the other's first cell is. -/
theorem memGet_front_ne {c : Host.Cell} {m n : List Host.Cell} (wf : Memory.wf (c :: m) = true) (beyond : ∀ d ∈ n, c.1 < d.1) :
    memGet (c :: m) c.1 ≠ memGet n c.1 := by
  obtain ⟨listed, _, _⟩ := wf_cons.mp wf
  rw [memGet_below beyond]
  simpa [memGet] using listed

/-- Two lists in canonical form that read alike at every address are the same (R467). -/
theorem wf_ext {m n : List Host.Cell} (hm : Memory.wf m = true) (hn : Memory.wf n = true)
    (alike : ∀ a, memGet m a = memGet n a) : m = n := by
  induction m generalizing n with
  | nil =>
    cases n with
    | nil => rfl
    | cons d n => exact absurd (alike d.1).symm (memGet_front_ne hn (by simp))
  | cons c m ih =>
    cases n with
    | nil => exact absurd (alike c.1) (memGet_front_ne hm (by simp))
    | cons d n =>
      obtain ⟨_, above_c, wf_m⟩ := wf_cons.mp hm
      obtain ⟨_, above_d, wf_n⟩ := wf_cons.mp hn
      have front : c.1 = d.1 := by
        rcases Nat.lt_trichotomy c.1 d.1 with below | same | above
        · refine absurd (alike c.1) (memGet_front_ne hm fun e he => ?_)
          rcases List.mem_cons.mp he with rfl | he
          · exact below
          · exact Nat.lt_trans below (above_d e he)
        · exact same
        · refine absurd (alike d.1).symm (memGet_front_ne hn fun e he => ?_)
          rcases List.mem_cons.mp he with rfl | he
          · exact above
          · exact Nat.lt_trans above (above_c e he)
      have byte : c.2 = d.2 := by simpa [memGet, front] using alike c.1
      have rest : m = n := ih wf_m wf_n fun a => by
        by_cases here : c.1 = a
        · rw [memGet_below (here ▸ above_c), memGet_below (here ▸ front ▸ above_d)]
        · simpa [memGet, here, front ▸ here] using alike a
      rw [Prod.ext front byte, rest]

/-- Bytes written read back (R467). -/
theorem ddrRead_ddrWrite {s : State} (a : Nat) (bs : Bytes) (h : Memory.wf s.ddr = true) :
    ddrRead (ddrWrite a bs s) a bs.length = bs := by
  refine List.ext_getElem (by simp [ddrRead]) fun i _ hi => ?_
  simpa [ddrRead, ddrWrite] using memGet_memPut_inside a bs h i hi

/-- What a step keeps of a state, from a queue with a command at its front or an empty one (log 2). -/
theorem step_kept {s t : State} (h : step s = .next t) : ∃ q, Kept { s with pending := q } t := by
  cases queue : s.pending with
  | nil =>
    rw [step_of_empty queue] at h
    cases h
    exact ⟨_, .of_kernel rfl⟩
  | cons c rest =>
    rw [step_of_cons queue] at h
    exact ⟨rest, kept_of_exec h⟩

end Sys2Proof.Machine
end

section
/-! The obligations of memory, of a step and of the fuses. -/

namespace Sys2Proof

open Machine

/-- Settles O60, by the cells of the canonical list. -/
theorem ddrReadsWhatWasWritten : Obligations.DdrReadsWhatWasWritten :=
  ⟨fun _ a b wf => ⟨memSet_wf a b wf, memGet_memSet_self a b wf, fun _ other => memGet_memSet_other b other⟩,
    fun _ a bs wf => ⟨ddrRead_ddrWrite a bs wf, memPut_wf a bs wf, fun _ outside => memGet_memPut_outside bs outside⟩,
    fun _ _ => wf_ext⟩

/-- Settles O54, by the two forms of the queue. -/
theorem stepRunsTheFrontCommand : Obligations.StepRunsTheFrontCommand :=
  ⟨fun _ _ _ => step_of_cons, fun _ => step_of_empty⟩

/-- Settles O56: what every command keeps holds of a step, whatever the queue. -/
theorem stepKeepsInvariant : Obligations.StepKeepsInvariant := fun s t inv h => by
  obtain ⟨_, kept⟩ := step_kept h
  exact ⟨kept.ddr inv.ddr, kept.bound inv.lifecycle, kept.tap inv.tap⟩

/-- Settles O57, from what every command keeps. -/
theorem fusesOnlyBlow : Obligations.FusesOnlyBlow := fun _ _ _ h =>
  have kept := kept_of_exec h
  ⟨⟨kept.lifecycle, kept.revoked, kept.minSecver⟩, kept.part, kept.pending⟩

end Sys2Proof
end

section
/-! What the ports' silence and its end (R545 to R547) leave of a device: the trunk, the pair and the state of power. -/

namespace Sys2Proof.Machine

/-- The trunk with the pair, and the state of power, are as before. -/
structure TrunkStays (s t : State) : Prop where
  trk : t.trk = s.trk
  pwr : t.pwr = s.pwr

namespace TrunkStays

variable {s t u : State}

theorem refl (s : State) : TrunkStays s s := ⟨rfl, rfl⟩

theorem trans (a : TrunkStays s t) (b : TrunkStays t u) : TrunkStays s u := ⟨b.trk.trans a.trk, b.pwr.trans a.pwr⟩

theorem of_setup (h : t.setup = s.setup) : TrunkStays s t := ⟨congrArg Setup.trk h, congrArg Setup.pwr h⟩

theorem of_calm (h : t.calm = s.calm) : TrunkStays s t := of_setup (setup_of_calm h)

theorem ite {a b : State} {p : Prop} [Decidable p] (ha : TrunkStays s a) (hb : TrunkStays s b) : TrunkStays s (if p then a else b) := by
  split <;> assumption

theorem foldl {α : Type} {f : State → α → State} (h : ∀ s x, TrunkStays s (f s x)) (l : List α) (s : State) :
    TrunkStays s (l.foldl f s) := by
  induction l generalizing s with
  | nil => exact refl s
  | cons x l ih => exact (h s x).trans (ih _)

end TrunkStays

theorem setTxen_trunkStays (p : Nat) (level : Txen) (s : State) : TrunkStays s (setTxen p level s) :=
  .ite (.refl s) ((TrunkStays.of_setup (updLine_setup ..)).trans (.of_setup (emit_setup ..)))

theorem updMac_trunkStays (p : Nat) (f : PortMac → PortMac) (s : State) : TrunkStays s (updMac p f s) := .of_setup (updMac_setup ..)

theorem abandonTx_trunkStays (p : Nat) (s : State) : TrunkStays s (abandonTx p s) := by
  obtain ⟨_, steps⟩ := abandonTx_eq p s
  rw [steps]
  refine .trans ?_ ((TrunkStays.of_setup (giveUp_setup ..)).trans (.of_setup (giveUp_setup ..)))
  refine .trans ?_ (updMac_trunkStays ..)
  unfold cutTx
  split
  · exact (TrunkStays.of_setup (countTx_setup ..)).trans (.of_setup (updLine_setup ..))
  · exact .refl s

theorem settleSettings_trunkStays (p : Nat) (s : State) : TrunkStays s (settleSettings p s) := ⟨rfl, rfl⟩

theorem shutPort_trunkStays (p : Nat) (s : State) : TrunkStays s (shutPort p s) := by
  unfold shutPort
  refine .trans ?_ (.of_setup (raisePort_setup ..))
  refine .trans ((setTxen_trunkStays ..).trans ((TrunkStays.of_setup (updLine_setup ..)).trans ((updMac_trunkStays ..).trans
    ((settleSettings_trunkStays ..).trans (.of_setup (cancSuspend_setup p 3 _)))))) ⟨rfl, rfl⟩

theorem closeWhenIdle_trunkStays (p : Nat) (s : State) : TrunkStays s (closeWhenIdle p s) := by
  unfold closeWhenIdle finishClose
  refine .ite ?_ (.refl s)
  split
  · exact .refl s
  · exact (shutPort_trunkStays ..).trans (.of_calm (completeStatus_calm ..))

theorem hushPort_trunkStays (p : Nat) (s : State) : TrunkStays s (hushPort p s) :=
  .ite (.refl s) ((abandonTx_trunkStays ..).trans ((updMac_trunkStays ..).trans
    ((setTxen_trunkStays ..).trans (closeWhenIdle_trunkStays ..))))

/-- The device falls silent, and nothing else of the pair, the trunk or power changes (R546). -/
theorem goSilent_trunkStays (s : State) : TrunkStays { s with trk.pair.shadow := true } (goSilent s) := by
  unfold goSilent
  split
  · rename_i already
    exact ⟨by simp only [silent] at already; simp only [← already], rfl⟩
  · exact (TrunkStays.foldl (fun _ _ => hushPort_trunkStays ..) _ _).trans (.foldl (fun _ _ => .of_setup (setCanc_setup ..)) _ _)

theorem enterPeriod_trunkStays (p : Nat) (s : State) : TrunkStays s (enterPeriod p s) := by
  unfold enterPeriod
  split <;> exact updMac_trunkStays ..

theorem startContention_trunkStays (p start : Nat) (s : State) : TrunkStays s (startContention p start s) :=
  .ite ((updMac_trunkStays ..).trans (enterPeriod_trunkStays ..)) (updMac_trunkStays ..)

theorem wakePort_trunkStays (p : Nat) (s : State) : TrunkStays s (wakePort p s) :=
  .ite (.refl s) ((updMac_trunkStays ..).trans ((setTxen_trunkStays ..).trans (startContention_trunkStays ..)))

/-- The device sends again, and nothing else of the pair, the trunk or power changes (R546). -/
theorem leaveShadow_trunkStays (s : State) : TrunkStays { s with trk.pair.shadow := false } (leaveShadow s) := by
  unfold leaveShadow
  split
  · rename_i already
    simp only [silent, Bool.not_eq_true'] at already
    exact ⟨by simp only [← already], rfl⟩
  · exact .foldl (fun _ _ => wakePort_trunkStays ..) _ _

theorem mirrorSend_trunkStays (r : MirrorRec) (s : State) : TrunkStays s (mirrorSend r s) := .of_setup (mirrorSend_tended ..).setup

theorem mirrorAll_trunkStays (s : State) : TrunkStays s (mirrorAll s) := by
  unfold mirrorAll
  extract_lets eps ended maps ports ported
  have endpoints : TrunkStays s ended := .foldl (fun _ _ => mirrorSend_trunkStays ..) _ s
  have mapped : TrunkStays ended maps := .foldl (fun _ _ => mirrorSend_trunkStays ..) _ _
  have beacons : TrunkStays maps ported :=
    .foldl (fun _ _ => .ite ((mirrorSend_trunkStays ..).trans (mirrorSend_trunkStays ..)) (.refl _)) _ _
  exact (endpoints.trans (mapped.trans beacons)).trans
    (.foldl (fun _ _ => (mirrorSend_trunkStays ..).trans (.foldl (fun _ _ => mirrorSend_trunkStays ..) _ _)) _ _)

end Sys2Proof.Machine
end

section
/-! Which commands leave DDR (R342, R467 to R469, R472, R529, R534). -/

namespace Sys2Proof.Machine

variable {s t : State} {o : Out}

theorem ddrSame_of_ddr (h : t.ddr = s.ddr) : DdrSame s t := fun a => by rw [h]

/-- A command that keeps the kernel leaves every byte of DDR. -/
theorem ddrSame_of_keeps (keeps : Keeps s o) (step : o = .next t) : DdrSame s t := by
  rw [step] at keeps
  exact ddrSame_of_ddr (congrArg Kernel.ddr keeps)

/-- A mailbox command leaves DDR where its own meaning does. -/
theorem runCmd_ddr {fm : Form} {c : Caller} {req : Bytes} {body : State → State × Reply} (h : (body s).1.ddr = s.ddr) :
    (runCmd fm c req body s).ddr = s.ddr := by
  have told {u : State} (k : u.kernel = s.kernel) : u.ddr = s.ddr := congrArg Kernel.ddr k
  unfold runCmd
  (repeat' split) <;> try (refine told ?_; simp; done)
  all_goals
    rename_i run
    rw [run] at h
    simpa using h

/-- A device that goes into Decommissioned resets its tenants' pods and loses its keys; DDR stays (R482, R491). -/
theorem secLifecycleBody_ddr (c : Caller) (req : Bytes) (s : State) : (secLifecycleBody c req s).1.ddr = s.ddr := by
  have told {u v : State} (k : u.kernel = v.kernel) : u.ddr = v.ddr := congrArg Kernel.ddr k
  unfold secLifecycleBody
  extract_lets next _ advanced lost inReset _ _ erased
  split
  · rfl
  · split
    · exact told (u := newKwk advanced) (v := advanced) (by simp)
    · split
      · rfl
      · have resets : inReset.ddr = advanced.ddr := told (foldl_kernel _ (by simp) _ _)
        have erasure : erased.ddr = inReset.ddr := told ((tamperEngine_kernel ..).trans (kernel_mk_sec ..))
        exact (told (persist_kernel ..)).trans (erasure.trans resets)

theorem secRevokeBody_ddr (req : Bytes) (s : State) : (secRevokeBody req s).1.ddr = s.ddr := by
  unfold secRevokeBody
  dsimp only
  split <;> rfl

/-- A configured role of the pair leaves the state of power (R370, R546). -/
theorem applyRole_pwr (role : PairRole) (auto : Bool) (s : State) : (applyRole role auto s).pwr = s.pwr := by
  unfold applyRole
  extract_lets link put _ paged _ paired beating
  have configured : beating.pwr = s.pwr := by
    simp only [beating, heartbeat, emit_pwr, paired, paged]
    split <;> rfl
  refine .trans (congrArg Calm.pwr (raiseTrunk_calm ..)) (.trans ?_ configured)
  cases role with
  | standby => exact (goSilent_trunkStays beating).pwr
  | active => exact (mirrorAll_trunkStays _).pwr.trans (leaveShadow_trunkStays beating).pwr
  | unpaired | failing => exact (leaveShadow_trunkStays beating).pwr

theorem pairBoundary_pwr (f : Nat) (s : State) : (pairBoundary f s).pwr = s.pwr := by
  unfold pairBoundary
  extract_lets configured beyond
  have role : configured.pwr = s.pwr := by
    simp only [configured]
    split
    · split
      · exact applyRole_pwr ..
      · rfl
    · rfl
  split
  · exact (goSilent_trunkStays configured).pwr.trans role
  · exact role

/-- A frame sent leaves DDR unless a reset waits for its boundary (R545). -/
theorem execTrunkFrameTransmit_ddr (noReset : s.pwr.sysResetFrame = none) (step : execTrunkFrameTransmit s = .next t) : t.ddr = s.ddr := by
  have told {u v : State} (k : u.kernel = v.kernel) : u.ddr = v.ddr := congrArg Kernel.ddr k
  unfold execTrunkFrameTransmit at step
  extract_lets due boundary lanes sent at step
  have waiting : boundary.pwr.sysResetFrame = none := by
    rw [show boundary.pwr = s.pwr from (pairBoundary_pwr ..).trans (by simp [advanceToFrame]), noReset]
  cases step
  split
  · rfl
  · rw [waiting, Option.map_none, Option.getD_none, if_neg Bool.false_ne_true]
    have lanes_ddr : sent.ddr = boundary.ddr := told (foldl_kernel _ (by simp) _ _)
    exact lanes_ddr.trans (told (by simp [boundary]))

end Sys2Proof.Machine
end

section
/-! The obligation of DDR's writers. -/

namespace Sys2Proof

open Machine

/-- Settles O59: every command but those the statement names keeps the kernel of the state, DDR with it; a lifecycle change and a
revocation keep DDR beside the fuses they blow. -/
theorem ddrOnlyByItsWriters : Obligations.DdrOnlyByItsWriters := by
  intro i s t step
  cases i with
  | podResetComplete | chkDmaComplete | powerOn | sysResetNLow | brownOut | pf0FunctionLevelReset | standbyEntry | wakeFrame | wakeInNLow | wakeTimer | sysReset | mirrorRecordReceive | mbxDescriptorTake | commandWaitEnd | checkedAccessRetire => trivial
  | trunkFrameTransmit => exact fun noReset => ddrSame_of_ddr (execTrunkFrameTransmit_ddr noReset step)
  | secLifecycle => cases step; exact ddrSame_of_ddr (runCmd_ddr (secLifecycleBody_ddr ..))
  | secRevoke => cases step; exact ddrSame_of_ddr (runCmd_ddr (secRevokeBody_ddr ..))
  | resetRelease => exact ddrSame_of_keeps (execResetRelease_keeps ..) step
  | pcieInterfaceReset kind => exact ddrSame_of_keeps (execPcieInterfaceReset_keeps kind s) step
  | pcieLinkUp => exact ddrSame_of_keeps (execPcieLinkUp_keeps ..) step
  | vfFunctionLevelReset => exact ddrSame_of_keeps (execVfFunctionLevelReset_keeps ..) step
  | vfDisable => exact ddrSame_of_keeps (execVfDisable_keeps ..) step
  | chiveBeacon => exact ddrSame_of_keeps (execChiveBeacon_keeps ..) step
  | standbySetApply => exact ddrSame_of_keeps (execStandbySetApply_keeps ..) step
  | pcieWakeRelease => exact ddrSame_of_keeps (execPcieWakeRelease_keeps ..) step
  | paceMonitorUpdate => exact ddrSame_of_keeps (execPaceMonitorUpdate_keeps ..) step
  | avsLoopStart => exact ddrSame_of_keeps (execAvsLoopStart_keeps ..) step
  | avsLoopPeriod => exact ddrSame_of_keeps (execAvsLoopPeriod_keeps ..) step
  | avsResponseTimeout => exact ddrSame_of_keeps (execAvsResponseTimeout_keeps ..) step
  | avsSettleCheck => exact ddrSame_of_keeps (execAvsSettleCheck_keeps ..) step
  | txFifoLowWater => exact ddrSame_of_keeps (execTxFifoLowWater_keeps ..) step
  | txFifoUnderflow => exact ddrSame_of_keeps (execTxFifoUnderflow_keeps ..) step
  | rxFifoOverflow => exact ddrSame_of_keeps (execRxFifoOverflow_keeps ..) step
  | coreUndervoltage => exact ddrSame_of_keeps (execCoreUndervoltage_keeps ..) step
  | drvfltQualify => exact ddrSame_of_keeps (execDrvfltQualify_keeps ..) step
  | driverAutoRearm => exact ddrSame_of_keeps (execDriverAutoRearm_keeps ..) step
  | txenRise => exact ddrSame_of_keeps (execTxenRise_keeps ..) step
  | txenFall => exact ddrSame_of_keeps (execTxenFall_keeps ..) step
  | referenceLost => exact ddrSame_of_keeps (execReferenceLost_keeps ..) step
  | referenceReturn => exact ddrSame_of_keeps (execReferenceReturn_keeps ..) step
  | synthFailure => exact ddrSame_of_keeps (execSynthFailure_keeps ..) step
  | synthAdoptionComplete => exact ddrSame_of_keeps (execSynthAdoptionComplete_keeps ..) step
  | calibrationStart => exact ddrSame_of_keeps (execCalibrationStart_keeps ..) step
  | calibrationComplete => exact ddrSame_of_keeps (execCalibrationComplete_keeps ..) step
  | agcFrameGainRelease => exact ddrSame_of_keeps (execAgcFrameGainRelease_keeps ..) step
  | preambleDetect => exact ddrSame_of_keeps (execPreambleDetect_keeps ..) step
  | frameControlReceived => exact ddrSame_of_keeps (execFrameControlReceived_keeps ..) step
  | frameBodyDecoded => exact ddrSame_of_keeps (execFrameBodyDecoded_keeps ..) step
  | ackTransmit => exact ddrSame_of_keeps (execAckTransmit_keeps ..) step
  | ackReceived => exact ddrSame_of_keeps (execAckReceived_keeps ..) step
  | ackWindowClose => exact ddrSame_of_keeps (execAckWindowClose_keeps ..) step
  | prsSlot => exact ddrSame_of_keeps (execPrsSlot_keeps ..) step
  | backoffSlotEnd => exact ddrSame_of_keeps (execBackoffSlotEnd_keeps ..) step
  | idleRestart => exact ddrSame_of_keeps (execIdleRestart_keeps ..) step
  | undecodableHoldOffEnd => exact ddrSame_of_keeps (execUndecodableHoldOffEnd_keeps ..) step
  | frameTransmitStart => exact ddrSame_of_keeps (execFrameTransmitStart_keeps ..) step
  | frameTransmitEnd => exact ddrSame_of_keeps (execFrameTransmitEnd_keeps ..) step
  | beaconStart => exact ddrSame_of_keeps (execBeaconStart_keeps ..) step
  | zeroCrossing => exact ddrSame_of_keeps (execZeroCrossing_keeps ..) step
  | mainsAcquireTimeout => exact ddrSame_of_keeps (execMainsAcquireTimeout_keeps ..) step
  | predictedCrossingMiss => exact ddrSame_of_keeps (execPredictedCrossingMiss_keeps ..) step
  | slotBoundaryPrefetch => exact ddrSame_of_keeps (execSlotBoundaryPrefetch_keeps ..) step
  | tmMapReceived => exact ddrSame_of_keeps (execTmMapReceived_keeps ..) step
  | tmMapAckReceived => exact ddrSame_of_keeps (execTmMapAckReceived_keeps ..) step
  | tmRequestReceived => exact ddrSame_of_keeps (execTmRequestReceived_keeps ..) step
  | tmInvalidateReceived => exact ddrSame_of_keeps (execTmInvalidateReceived_keeps ..) step
  | tonemapPeriodicRefresh => exact ddrSame_of_keeps (execTonemapPeriodicRefresh_keeps ..) step
  | estimateStale => exact ddrSame_of_keeps (execEstimateStale_keeps ..) step
  | cancellerSurveyEnd => exact ddrSame_of_keeps (execCancellerSurveyEnd_keeps ..) step
  | cancellerSymbol => exact ddrSame_of_keeps (execCancellerSymbol_keeps ..) step
  | cancellerStateChange => exact ddrSame_of_keeps (execCancellerStateChange_keeps ..) step
  | cancellerDisengagedTimeout => exact ddrSame_of_keeps (execCancellerDisengagedTimeout_keeps ..) step
  | cancellerSuspendLong => exact ddrSame_of_keeps (execCancellerSuspendLong_keeps ..) step
  | treeComputation => exact ddrSame_of_keeps (execTreeComputation_keeps ..) step
  | tpRouteAckReceived => exact ddrSame_of_keeps (execTpRouteAckReceived_keeps ..) step
  | pendingVersionTimeout => exact ddrSame_of_keeps (execPendingVersionTimeout_keeps ..) step
  | tpLinkReportReceived => exact ddrSame_of_keeps (execTpLinkReportReceived_keeps ..) step
  | tpJoinReceived => exact ddrSame_of_keeps (execTpJoinReceived_keeps ..) step
  | unreachableHoldExpiry => exact ddrSame_of_keeps (execUnreachableHoldExpiry_keeps ..) step
  | heldSubmissionAdmit => exact ddrSame_of_keeps (execHeldSubmissionAdmit_keeps ..) step
  | frameSeal => exact ddrSame_of_keeps (execFrameSeal_keeps ..) step
  | staging => exact ddrSame_of_keeps (execStaging_keeps ..) step
  | uplinkOpen => exact ddrSame_of_keeps (execUplinkOpen_keeps ..) step
  | rxRingWrite => exact ddrSame_of_keeps (execRxRingWrite_keeps ..) step
  | cipherDescriptorTake => exact ddrSame_of_keeps (execCipherDescriptorTake_keeps ..) step
  | cipherJobComplete => exact ddrSame_of_keeps (execCipherJobComplete_keeps ..) step
  | maskReseed => exact ddrSame_of_keeps (execMaskReseed_keeps ..) step
  | entropyHealthFail => exact ddrSame_of_keeps (execEntropyHealthFail_keeps ..) step
  | entropyRetest => exact ddrSame_of_keeps (execEntropyRetest_keeps ..) step
  | chainOutput => exact ddrSame_of_keeps (execChainOutput_keeps ..) step
  | bankSwapEffect => exact ddrSame_of_keeps (execBankSwapEffect_keeps ..) step
  | scanFrameStart => exact ddrSame_of_keeps (execScanFrameStart_keeps ..) step
  | chargeReset => exact ddrSame_of_keeps (execChargeReset_keeps ..) step
  | clampFlagChange => exact ddrSame_of_keeps (execClampFlagChange_keeps ..) step
  | commonModeFlagChange => exact ddrSame_of_keeps (execCommonModeFlagChange_keeps ..) step
  | dieTempUpdate => exact ddrSame_of_keeps (execDieTempUpdate_keeps ..) step
  | pdPulseWindowEnd => exact ddrSame_of_keeps (execPdPulseWindowEnd_keeps ..) step
  | pdClusterClose => exact ddrSame_of_keeps (execPdClusterClose_keeps ..) step
  | i2cTransferStart => exact ddrSame_of_keeps (execI2cTransferStart_keeps ..) step
  | i2cArbitrationLoss => exact ddrSame_of_keeps (execI2cArbitrationLoss_keeps ..) step
  | i2cSclTimeout => exact ddrSame_of_keeps (execI2cSclTimeout_keeps ..) step
  | i2cBusNotFreeTimeout => exact ddrSame_of_keeps (execI2cBusNotFreeTimeout_keeps ..) step
  | trunkFrameReceive => exact ddrSame_of_keeps (execTrunkFrameReceive_keeps ..) step
  | fasMissingOof => exact ddrSame_of_keeps (execFasMissingOof_keeps ..) step
  | codewordLockChange => exact ddrSame_of_keeps (execCodewordLockChange_keeps ..) step
  | losEntry => exact ddrSame_of_keeps (execLosEntry_keeps ..) step
  | losExit => exact ddrSame_of_keeps (execLosExit_keeps ..) step
  | lofEntry => exact ddrSame_of_keeps (execLofEntry_keeps ..) step
  | lofExit => exact ddrSame_of_keeps (execLofExit_keeps ..) step
  | sdEvaluation => exact ddrSame_of_keeps (execSdEvaluation_keeps ..) step
  | slotDefectChange => exact ddrSame_of_keeps (execSlotDefectChange_keeps ..) step
  | trunkFifoShortfall => exact ddrSame_of_keeps (execTrunkFifoShortfall_keeps ..) step
  | feedPacketReceive => exact ddrSame_of_keeps (execFeedPacketReceive_keeps ..) step
  | trunkUplinkPacket => exact ddrSame_of_keeps (execTrunkUplinkPacket_keeps ..) step
  | ethernetChunkSend => exact ddrSame_of_keeps (execEthernetChunkSend_keeps ..) step
  | ethernetChunkReceive => exact ddrSame_of_keeps (execEthernetChunkReceive_keeps ..) step
  | ethernetChunkTimeout => exact ddrSame_of_keeps (execEthernetChunkTimeout_keeps ..) step
  | pauseReceived => exact ddrSame_of_keeps (execPauseReceived_keeps ..) step
  | tsiCommitBoundary => exact ddrSame_of_keeps (execTsiCommitBoundary_keeps ..) step
  | tsiCopyDone => exact ddrSame_of_keeps (execTsiCopyDone_keeps ..) step
  | peerReadySet => exact ddrSame_of_keeps (execPeerReadySet_keeps ..) step
  | peerFailingDetect => exact ddrSame_of_keeps (execPeerFailingDetect_keeps ..) step
  | pairTakeover => exact ddrSame_of_keeps (execPairTakeover_keeps ..) step
  | takeoverBoundary => exact ddrSame_of_keeps (execTakeoverBoundary_keeps ..) step
  | plannedSwitchBoundary => exact ddrSame_of_keeps (execPlannedSwitchBoundary_keeps ..) step
  | heartbeatLoss => exact ddrSame_of_keeps (execHeartbeatLoss_keeps ..) step
  | mirrorLinkLossTimeout => exact ddrSame_of_keeps (execMirrorLinkLossTimeout_keeps ..) step
  | ppsEdge => exact ddrSame_of_keeps (execPpsEdge_keeps ..) step
  | ppsEdgeMissing => exact ddrSame_of_keeps (execPpsEdgeMissing_keeps ..) step
  | timebaseRenewal => exact ddrSame_of_keeps (execTimebaseRenewal_keeps ..) step
  | holdoverExpiry => exact ddrSame_of_keeps (execHoldoverExpiry_keeps ..) step
  | revertiveDisplace => exact ddrSame_of_keeps (execRevertiveDisplace_keeps ..) step
  | timeStep => exact ddrSame_of_keeps (execTimeStep_keeps ..) step
  | ppsOutEdge => exact ddrSame_of_keeps (execPpsOutEdge_keeps ..) step
  | mbxDoorbell => exact ddrSame_of_keeps (execMbxDoorbell_keeps ..) step
  | mbxLaneEnable => exact ddrSame_of_keeps (execMbxLaneEnable_keeps ..) step
  | mbxFaultClear => exact ddrSame_of_keeps (execMbxFaultClear_keeps ..) step
  | mbxCmplConsUpdate => exact ddrSame_of_keeps (execMbxCmplConsUpdate_keeps ..) step
  | sheddingEntry => exact ddrSame_of_keeps (execSheddingEntry_keeps ..) step
  | sheddingExit => exact ddrSame_of_keeps (execSheddingExit_keeps ..) step
  | notificationPost => exact ddrSame_of_keeps (execNotificationPost_keeps ..) step
  | watchdogExpiry => exact ddrSame_of_keeps (execWatchdogExpiry_keeps ..) step
  | processorFault => exact ddrSame_of_keeps (execProcessorFault_keeps ..) step
  | firmwareRestartComplete => exact ddrSame_of_keeps (execFirmwareRestartComplete_keeps ..) step
  | meterPeriod => exact ddrSame_of_keeps (execMeterPeriod_keeps ..) step
  | meterCollectionEnd => exact ddrSame_of_keeps (execMeterCollectionEnd_keeps ..) step
  | serviceReplyReceived => exact ddrSame_of_keeps (execServiceReplyReceived_keeps ..) step
  | loadShedExecute => exact ddrSame_of_keeps (execLoadShedExecute_keeps ..) step
  | loadShedConfirm => exact ddrSame_of_keeps (execLoadShedConfirm_keeps ..) step
  | dispatchReassert => exact ddrSame_of_keeps (execDispatchReassert_keeps ..) step
  | dispatchLoss => exact ddrSame_of_keeps (execDispatchLoss_keeps ..) step
  | apertureAccess => exact ddrSame_of_keeps (execApertureAccess_keeps ..) step
  | journaledWriteCommit => exact ddrSame_of_keeps (execJournaledWriteCommit_keeps ..) step
  | tamperQualify => exact ddrSame_of_keeps (execTamperQualify_keeps ..) step
  | tamperLoopPattern => exact ddrSame_of_keeps (execTamperLoopPattern_keeps ..) step
  | observeExpiry => exact ddrSame_of_keeps (execObserveExpiry_keeps ..) step
  | snapshotLatch => exact ddrSame_of_keeps (execSnapshotLatch_keeps ..) step
  | traceTimeRecord => exact ddrSame_of_keeps (execTraceTimeRecord_keeps ..) step
  | traceSyncWord => exact ddrSame_of_keeps (execTraceSyncWord_keeps ..) step
  | eventRecordIssue => exact ddrSame_of_keeps (execEventRecordIssue_keeps ..) step
  | coalesceWindowClose => exact ddrSame_of_keeps (execCoalesceWindowClose_keeps ..) step
  | admitVectorDeferred => exact ddrSame_of_keeps (execAdmitVectorDeferred_keeps ..) step
  | deliveryVectorDeferred => exact ddrSame_of_keeps (execDeliveryVectorDeferred_keeps ..) step
  | evtSrcCfgWrite => exact ddrSame_of_keeps (execEvtSrcCfgWrite_keeps ..) step
  | evtRingEnable => exact ddrSame_of_keeps (execEvtRingEnable_keeps ..) step
  | evtRingFaultClear => exact ddrSame_of_keeps (execEvtRingFaultClear_keeps ..) step
  | cphRingDoorbell => exact ddrSame_of_keeps (execCphRingDoorbell_keeps ..) step
  | cphRingEnable => exact ddrSame_of_keeps (execCphRingEnable_keeps ..) step
  | cphRingFaultClear => exact ddrSame_of_keeps (execCphRingFaultClear_keeps ..) step
  | cphCmplConsUpdate => exact ddrSame_of_keeps (execCphCmplConsUpdate_keeps ..) step
  | avsFaultClear => exact ddrSame_of_keeps (execAvsFaultClear_keeps ..) step
  | chkContextWrite => exact ddrSame_of_keeps (execChkContextWrite_keeps ..) step
  | pmcValueWrite => exact ddrSame_of_keeps (execPmcValueWrite_keeps ..) step
  | pmcCfgWrite => exact ddrSame_of_keeps (execPmcCfgWrite_keeps ..) step
  | snapshotArm => exact ddrSame_of_keeps (execSnapshotArm_keeps ..) step
  | registerWrite => exact ddrSame_of_keeps (execRegisterWrite_keeps ..) step
  | readClear => exact ddrSame_of_keeps (execReadClear_keeps ..) step
  | portOpen => exact ddrSame_of_keeps (execPortOpen_keeps ..) step
  | portClose => exact ddrSame_of_keeps (execPortClose_keeps ..) step
  | laneCalibrate => exact ddrSame_of_keeps (execLaneCalibrate_keeps ..) step
  | laneGain => exact ddrSame_of_keeps (execLaneGain_keeps ..) step
  | driverRearm => exact ddrSame_of_keeps (execDriverRearm_keeps ..) step
  | synthRebalance => exact ddrSame_of_keeps (execSynthRebalance_keeps ..) step
  | chainConfigure => exact ddrSame_of_keeps (execChainConfigure_keeps ..) step
  | chainLoadbank => exact ddrSame_of_keeps (execChainLoadbank_keeps ..) step
  | chainSwap => exact ddrSame_of_keeps (execChainSwap_keeps ..) step
  | chainThreshold => exact ddrSame_of_keeps (execChainThreshold_keeps ..) step
  | phyConfigure => exact ddrSame_of_keeps (execPhyConfigure_keeps ..) step
  | tonemapConfigure => exact ddrSame_of_keeps (execTonemapConfigure_keeps ..) step
  | tonemapRefresh => exact ddrSame_of_keeps (execTonemapRefresh_keeps ..) step
  | tonemapRead => exact ddrSame_of_keeps (execTonemapRead_keeps ..) step
  | mainsStatus => exact ddrSame_of_keeps (execMainsStatus_keeps ..) step
  | cancellerConfigure => exact ddrSame_of_keeps (execCancellerConfigure_keeps ..) step
  | cancellerSetguard => exact ddrSame_of_keeps (execCancellerSetguard_keeps ..) step
  | cancellerStatus => exact ddrSame_of_keeps (execCancellerStatus_keeps ..) step
  | macConfigure => exact ddrSame_of_keeps (execMacConfigure_keeps ..) step
  | macNeighbour => exact ddrSame_of_keeps (execMacNeighbour_keeps ..) step
  | topologyConfigure => exact ddrSame_of_keeps (execTopologyConfigure_keeps ..) step
  | endpointAdmit => exact ddrSame_of_keeps (execEndpointAdmit_keeps ..) step
  | endpointRemove => exact ddrSame_of_keeps (execEndpointRemove_keeps ..) step
  | topologyRead => exact ddrSame_of_keeps (execTopologyRead_keeps ..) step
  | bufferConfigure => exact ddrSame_of_keeps (execBufferConfigure_keeps ..) step
  | bufferQuota => exact ddrSame_of_keeps (execBufferQuota_keeps ..) step
  | frameSubmit => exact ddrSame_of_keeps (execFrameSubmit_keeps ..) step
  | rxRing => exact ddrSame_of_keeps (execRxRing_keeps ..) step
  | keyLoad => exact ddrSame_of_keeps (execKeyLoad_keeps ..) step
  | keyClear => exact ddrSame_of_keeps (execKeyClear_keeps ..) step
  | cipherBind => exact ddrSame_of_keeps (execCipherBind_keeps ..) step
  | cipherConfigure => exact ddrSame_of_keeps (execCipherConfigure_keeps ..) step
  | chkAssign => exact ddrSame_of_keeps (execChkAssign_keeps ..) step
  | chkBind => exact ddrSame_of_keeps (execChkBind_keeps ..) step
  | chkDma => exact ddrSame_of_keeps (execChkDma_keeps ..) step
  | trunkConfigure => exact ddrSame_of_keeps (execTrunkConfigure_keeps ..) step
  | tsiWrite => exact ddrSame_of_keeps (execTsiWrite_keeps ..) step
  | tsiMode => exact ddrSame_of_keeps (execTsiMode_keeps ..) step
  | tsiCommit => exact ddrSame_of_keeps (execTsiCommit_keeps ..) step
  | tsiRead => exact ddrSame_of_keeps (execTsiRead_keeps ..) step
  | pairConfigure => exact ddrSame_of_keeps (execPairConfigure_keeps ..) step
  | pairSwitch => exact ddrSame_of_keeps (execPairSwitch_keeps ..) step
  | senseConfigure => exact ddrSame_of_keeps (execSenseConfigure_keeps ..) step
  | senseCharge => exact ddrSame_of_keeps (execSenseCharge_keeps ..) step
  | senseLincoef => exact ddrSame_of_keeps (execSenseLincoef_keeps ..) step
  | pdConfigure => exact ddrSame_of_keeps (execPdConfigure_keeps ..) step
  | i2cConfigure => exact ddrSame_of_keeps (execI2cConfigure_keeps ..) step
  | i2cTransfer => exact ddrSame_of_keeps (execI2cTransfer_keeps ..) step
  | senseAssign => exact ddrSame_of_keeps (execSenseAssign_keeps ..) step
  | timebaseConfigure => exact ddrSame_of_keeps (execTimebaseConfigure_keeps ..) step
  | timebaseSettimeFull => exact ddrSame_of_keeps (execTimebaseSettimeFull_keeps ..) step
  | timebaseSettimeSeconds => exact ddrSame_of_keeps (execTimebaseSettimeSeconds_keeps ..) step
  | mbxCredits => exact ddrSame_of_keeps (execMbxCredits_keeps ..) step
  | mbxListen => exact ddrSame_of_keeps (execMbxListen_keeps ..) step
  | profileSet => exact ddrSame_of_keeps (execProfileSet_keeps ..) step
  | powerSetcap => exact ddrSame_of_keeps (execPowerSetcap_keeps ..) step
  | fwInfo => exact ddrSame_of_keeps (execFwInfo_keeps ..) step
  | fwUpdateBegin => exact ddrSame_of_keeps (execFwUpdateBegin_keeps ..) step
  | fwUpdateWrite => exact ddrSame_of_keeps (execFwUpdateWrite_keeps ..) step
  | fwUpdateFinish => exact ddrSame_of_keeps (execFwUpdateFinish_keeps ..) step
  | fwActivate => exact ddrSame_of_keeps (execFwActivate_keeps ..) step
  | podReset => exact ddrSame_of_keeps (execPodReset_keeps ..) step
  | podAssign => exact ddrSame_of_keeps (execPodAssign_keeps ..) step
  | podWindow => exact ddrSame_of_keeps (execPodWindow_keeps ..) step
  | kekInstall => exact ddrSame_of_keeps (execKekInstall_keeps ..) step
  | kekAgree => exact ddrSame_of_keeps (execKekAgree_keeps ..) step
  | kekClear => exact ddrSame_of_keeps (execKekClear_keeps ..) step
  | secIdentity => exact ddrSame_of_keeps (execSecIdentity_keeps ..) step
  | secTamperConfigure => exact ddrSame_of_keeps (execSecTamperConfigure_keeps ..) step
  | secTamperClear => exact ddrSame_of_keeps (execSecTamperClear_keeps ..) step
  | secObserveChallenge => exact ddrSame_of_keeps (execSecObserveChallenge_keeps ..) step
  | secObserveToken => exact ddrSame_of_keeps (execSecObserveToken_keeps ..) step
  | secObserveEnd => exact ddrSame_of_keeps (execSecObserveEnd_keeps ..) step
  | pmcAssign => exact ddrSame_of_keeps (execPmcAssign_keeps ..) step
  | pmcConfigure => exact ddrSame_of_keeps (execPmcConfigure_keeps ..) step
  | tagConfigure => exact ddrSame_of_keeps (execTagConfigure_keeps ..) step
  | trcConfigure => exact ddrSame_of_keeps (execTrcConfigure_keeps ..) step
  | trcRead => exact ddrSame_of_keeps (execTrcRead_keeps ..) step
  | pwrStandby => exact ddrSame_of_keeps (execPwrStandby_keeps ..) step
  | chiveConfigure => exact ddrSame_of_keeps (execChiveConfigure_keeps ..) step
  | evtRoute => exact ddrSame_of_keeps (execEvtRoute_keeps ..) step
  | svcRegistrySet => exact ddrSame_of_keeps (execSvcRegistrySet_keeps ..) step
  | svcMeterSchedule => exact ddrSame_of_keeps (execSvcMeterSchedule_keeps ..) step
  | svcLoadShed => exact ddrSame_of_keeps (execSvcLoadShed_keeps ..) step
  | svcDispatchSet => exact ddrSame_of_keeps (execSvcDispatchSet_keeps ..) step
  | fasFoundInFrame => exact ddrSame_of_keeps (execFasFoundInFrame_keeps ..) step
  | vfEnable => exact ddrSame_of_keeps (execVfEnable_keeps ..) step
  | msixVectorUnmask => exact ddrSame_of_keeps (execMsixVectorUnmask_keeps ..) step
  | i2cTransferEnd => exact ddrSame_of_keeps (execI2cTransferEnd_keeps ..) step
  | portOpenCalibrationEnd => exact ddrSame_of_keeps (execPortOpenCalibrationEnd_keeps ..) step

end Sys2Proof
end

section
/-! What a trunk lane's record becomes when the lane is found, lost, evaluated or told (R349, R359 to R361, R369). -/

namespace Sys2Proof.Machine

variable {s t : State} {n m : Nat}

/-! ### The records of the lanes -/

theorem trunkLane_of_lanes (h : t.trk.lanes = s.trk.lanes) (m : Nat) : trunkLane t m = trunkLane s m := by
  rw [trunkLane, h, trunkLane]

@[simp] theorem trunkLane_updTrunkLane_self (n : Nat) (f : TrunkLane → TrunkLane) (s : State) :
    trunkLane (updTrunkLane n f s) n = f (trunkLane s n) := tget_tset_self ..

theorem trunkLane_updTrunkLane_other (f : TrunkLane → TrunkLane) (s : State) (h : m ≠ n) :
    trunkLane (updTrunkLane n f s) m = trunkLane s m := tget_tset_other _ _ _ h

@[simp] theorem trunkLane_advanceTo (u : Nat) (s : State) (m : Nat) : trunkLane (advanceTo u s) m = trunkLane s m := rfl

@[simp] theorem trunkLane_emit (o : Output) (s : State) (m : Nat) : trunkLane (emit o s) m = trunkLane s m := rfl

@[simp] theorem trunkLane_raiseTrunk (n e cause arg0 arg1 : Nat) (s : State) (m : Nat) :
    trunkLane (raiseTrunk n e cause arg0 arg1 s) m = trunkLane s m := trunkLane_of_lanes (by simp) m

@[simp] theorem trunkLane_defectEvent (n e : Nat) (entry : Bool) (slots : Nat) (s : State) (m : Nat) :
    trunkLane (defectEvent n e entry slots s) m = trunkLane s m := trunkLane_raiseTrunk ..

@[simp] theorem defectEvent_now (n e : Nat) (entry : Bool) (slots : Nat) (s : State) :
    (defectEvent n e entry slots s).now = s.now := raiseTrunk_now ..

/-- A change of the selected reference leaves the trunk and the time (R419). -/
theorem selectRef_same (r : Ref) (s : State) : (selectRef r s).trk = s.trk ∧ (selectRef r s).now = s.now := by
  unfold selectRef
  dsimp only
  split
  · exact ⟨rfl, rfl⟩
  · simp

/-- The loss of a reference leaves the trunk and the time (R418). -/
theorem loseRef_same (r : Ref) (s : State) : (loseRef r s).trk = s.trk ∧ (loseRef r s).now = s.now := by
  unfold loseRef
  dsimp only
  split
  · exact selectRef_same ..
  · exact ⟨rfl, rfl⟩

theorem trunkRefLost_same (n : Nat) (s : State) : (trunkRefLost n s).trk = s.trk ∧ (trunkRefLost n s).now = s.now := by
  unfold trunkRefLost
  dsimp only
  split
  · exact ⟨rfl, rfl⟩
  · split
    · exact loseRef_same ..
    · exact ⟨rfl, rfl⟩

/-- The pair's watch over the mirror link leaves the lanes and the time (R371). -/
theorem noteMirror_same (s : State) : (noteMirror s).trk.lanes = s.trk.lanes ∧ (noteMirror s).now = s.now := by
  have gone (u : State) : (peerGone u).trk.lanes = u.trk.lanes ∧ (peerGone u).now = u.now := by
    unfold peerGone
    split <;> exact ⟨rfl, rfl⟩
  unfold noteMirror
  dsimp only
  split
  · exact ⟨rfl, rfl⟩
  · split
    · exact ⟨rfl, rfl⟩
    · split
      · simpa [pairEvent] using gone { s with trk.pair.mirrorLost := some s.now }
      · exact gone ..

@[simp] theorem trunkLane_noteMirror (s : State) (m : Nat) : trunkLane (noteMirror s) m = trunkLane s m :=
  trunkLane_of_lanes (noteMirror_same s).1 m

@[simp] theorem noteMirror_now (s : State) : (noteMirror s).now = s.now := (noteMirror_same s).2

@[simp] theorem trunkLane_laneLost (n : Nat) (s : State) (m : Nat) : trunkLane (laneLost n s) m = trunkLane s m :=
  (trunkLane_noteMirror ..).trans (trunkLane_of_lanes (congrArg Trunk.lanes (trunkRefLost_same n s).1) m)

@[simp] theorem laneLost_now (n : Nat) (s : State) : (laneLost n s).now = s.now :=
  (noteMirror_now _).trans (trunkRefLost_same n s).2

/-- The end of a restart changes whether the lane restarts, and nothing else (R379). -/
theorem trunkLane_endRestart_self (n : Nat) (s : State) : trunkLane (endRestart n s) n =
    { trunkLane s n with restart := (trunkLane s n).restart && !laneUp (trunkLane s n) } := by
  rw [endRestart, trunkLane_updTrunkLane_self]
  cases up : laneUp (trunkLane s n) <;> simp

theorem trunkLane_endRestart_other (s : State) (h : m ≠ n) : trunkLane (endRestart n s) m = trunkLane s m :=
  trunkLane_updTrunkLane_other _ _ h

@[simp] theorem endRestart_now (n : Nat) (s : State) : (endRestart n s).now = s.now := rfl

/-- A row of a lane the part has. -/
theorem onLane_has (h : n < s.part.trunkLanes) (f : State → State) : onLane n s f = .next (f s) := if_pos h

/-! ### Alignment and lock -/

theorem execFasFoundInFrame_aligns (h : n < s.part.trunkLanes) (skeluz : isSkeluz s n = true) (out : (trunkLane s n).inFrame = false)
    (lock : (trunkLane s n).cwLock = true) :
    execFasFoundInFrame n s = .next (endRestart n
      (updTrunkLane n (fun l => { l with inFrame := true, oofSince := none, inFrameSince := s.now }) s)) := by
  rw [execFasFoundInFrame, onLane_has h, if_neg (by simp [skeluz, out, lock])]

theorem execFasMissingOof_loses (h : n < s.part.trunkLanes) (skeluz : isSkeluz s n = true) (inFrame : (trunkLane s n).inFrame = true) :
    execFasMissingOof n s = .next (updTrunkLane n (fun l => { l with inFrame := false, oofSince := some s.now }) s) := by
  rw [execFasMissingOof, onLane_has h, if_neg (by simp [skeluz, inFrame])]

theorem execCodewordLockChange_takes {good : Bool} (h : n < s.part.trunkLanes) (on : (trunkLane s n).cfg.mode ≠ .off)
    (changed : (trunkLane s n).cwLock ≠ good) :
    execCodewordLockChange n good s = .next (endRestart n (updTrunkLane n (fun l =>
      { l with cwLock := good, goodSince := if good then some s.now else none,
               uncorrectable := if good then l.uncorrectable else satAdd l.uncorrectable 8 }) s)) := by
  rw [execCodewordLockChange, onLane_has h, if_neg (by simp [on, changed])]

/-! ### LOS and LOF -/

/-- The record of a lane that has entered LOS (R359). -/
theorem trunkLane_enterLos (n : Nat) (s : State) : trunkLane (enterLos n s) n =
    { trunkLane s n with los := true, losSeen := true, cwLock := false, goodSince := none } := by
  simp [enterLos]

theorem execLosEntry_enters {signal : Bool} (h : n < s.part.trunkLanes) (on : (trunkLane s n).cfg.mode ≠ .off)
    (clear : (trunkLane s n).los = false) (lost : signal = false ∨ (trunkLane s n).cwLock = false) :
    execLosEntry n signal s = .next (enterLos n s) := by
  rw [execLosEntry, onLane_has h]
  have bad : (signal && (trunkLane s n).cwLock) = false := by
    rcases lost with no | unlocked
    · rw [no, Bool.false_and]
    · rw [unlocked, Bool.and_false]
  rw [if_neg (by simp [on, clear, bad])]

theorem trunkLane_lofReported (n : Nat) (s : State) :
    trunkLane (lofReported n s) n = { trunkLane s n with lof := true, lofSeen := true } := by
  simp [lofReported]

@[simp] theorem lofReported_now (n : Nat) (s : State) : (lofReported n s).now = s.now := by
  simp [lofReported]

/-- LOS ends 125 us after signal and lock came back, and a masked LOF is then reported (R359). -/
theorem execLosExit_leaves {u : Nat} (h : n < s.part.trunkLanes) (los : (trunkLane s n).los = true)
    (good : (trunkLane s n).goodSince = some u) :
    ∃ t, execLosExit n s = .next t ∧ (trunkLane t n).los = false ∧ t.now = max s.now (u + us 125) := by
  rw [execLosExit, onLane_has h, good]
  dsimp only
  rw [if_neg (by simp [los])]
  refine ⟨_, rfl, ?_, ?_⟩
  · rw [trunkLane_endRestart_self, trunkLane_noteMirror]
    split
    · rw [trunkLane_lofReported]
      simp
    · simp
  · rw [endRestart_now, noteMirror_now]
    split <;> simp

/-- LOF is entered 3 ms after alignment was lost; under LOS nothing is told (R359). -/
theorem execLofEntry_enters {u : Nat} (h : n < s.part.trunkLanes) (skeluz : isSkeluz s n = true) (clear : (trunkLane s n).lof = false)
    (out : (trunkLane s n).oofSince = some u) :
    execLofEntry n s = .next (if (trunkLane s n).los then updTrunkLane n (fun l => { l with lof := true }) (advanceTo (u + ms 3) s)
      else lofReported n (advanceTo (u + ms 3) s)) := by
  rw [execLofEntry, onLane_has h, out]
  dsimp only
  rw [if_neg (by simp [skeluz, clear]), trunkLane_advanceTo]

theorem execLofExit_leaves (h : n < s.part.trunkLanes) (lof : (trunkLane s n).lof = true) (inFrame : (trunkLane s n).inFrame = true) :
    ∃ t, execLofExit n s = .next t ∧ (trunkLane t n).lof = false ∧ t.now = max s.now ((trunkLane s n).inFrameSince + ms 3) := by
  rw [execLofExit, onLane_has h]
  dsimp only
  rw [if_neg (by simp [lof, inFrame])]
  refine ⟨_, rfl, ?_, ?_⟩
  · rw [trunkLane_endRestart_self, trunkLane_noteMirror]
    split <;> simp
  · rw [endRestart_now, noteMirror_now]
    split <;> simp

/-! ### SD, the slots' defects and the FIFOs -/

/-- SD is entered above 10^-n and left at or below 10^-(n+1) (R359). -/
theorem execSdEvaluation_evaluates {corrected received : Nat} (h : n < s.part.trunkLanes) (on : (trunkLane s n).cfg.mode ≠ .off)
    (signal : (trunkLane s n).los = false) (frame : (trunkLane s n).lof = false) :
    ∃ t, execSdEvaluation n corrected received s = .next t ∧ (trunkLane t n).corrected = satAdd (trunkLane s n).corrected corrected ∧
      (trunkLane t n).sd = if (trunkLane s n).sd then decide (received < corrected * 10 ^ ((trunkLane s n).cfg.sdExp + 1))
        else decide (received < corrected * 10 ^ (trunkLane s n).cfg.sdExp) := by
  rw [execSdEvaluation, onLane_has h]
  dsimp only
  rw [if_neg (by simp [on, signal, frame])]
  refine ⟨_, rfl, ?_⟩
  cases sd : (trunkLane s n).sd
  · by_cases above : received < corrected * 10 ^ (trunkLane s n).cfg.sdExp
    · rw [if_pos (by simp [above])]
      simp [above]
    · rw [if_neg (by simp [above]), if_neg (by simp)]
      simp [above, sd]
  · rw [if_neg (by simp)]
    by_cases low : corrected * 10 ^ ((trunkLane s n).cfg.sdExp + 1) ≤ received
    · rw [if_pos (by simp [low])]
      simp [low]
    · rw [if_neg (by simp [low])]
      simp [sd, Nat.lt_of_not_le low]

@[simp] theorem trunkLane_slotEvents (n e : Nat) (f : SlotRx → Bool) (old new : Table SlotRx) (s : State) (m : Nat) :
    trunkLane (slotEvents n e f old new s) m = trunkLane s m := by
  unfold slotEvents
  extract_lets up down entered
  have left : trunkLane entered m = trunkLane s m := by
    simp only [entered]
    split <;> simp
  split
  · exact left
  · exact (trunkLane_defectEvent ..).trans left

/-- A position that has received nothing has no defect (R359). -/
theorem slotDefects_unheard (expect : Option Nat) : slotDefects expect {} = {} := by
  cases expect <;> rfl

/-- What the evaluation of a lane's slots leaves in its record (R359). -/
theorem execSlotDefectChange_evaluates (h : n < s.part.trunkLanes) (on : (trunkLane s n).cfg.mode ≠ .off)
    (signal : (trunkLane s n).los = false) (frame : (trunkLane s n).lof = false) :
    ∃ t, execSlotDefectChange n s = .next t ∧
      (trunkLane t n).rdi = flagOf (trunkLane s n).rdi (trunkLane s n).rdis id (fun b => !b) ∧
      (trunkLane t n).slots = tmap (fun k r =>
        if isMember (tsiEntry s.part (activePage s) (64 * n + k)) then { r with ais := false, uneq := false, plm := false, rdi := false }
        else slotDefects (expectedLabel s.part (activePage s) (64 * n + k)) r) (trunkLane s n).slots := by
  rw [execSlotDefectChange, onLane_has h]
  refine ⟨_, rfl, ?_⟩
  rw [if_neg on, evaluateSlots]
  dsimp only
  rw [if_neg (by simp [signal, frame])]
  simp only [trunkLane_slotEvents]
  split <;> simp

theorem execTrunkFifoShortfall_notes {transmit : Bool} (h : n < s.part.trunkLanes) (on : (trunkLane s n).cfg.mode ≠ .off) :
    ∃ t, execTrunkFifoShortfall n transmit s = .next t ∧ trunkLane t n =
      { trunkLane s n with fifoSeen := true, rxShort := (trunkLane s n).rxShort || !transmit,
                           txShort := (trunkLane s n).txShort || transmit } := by
  rw [execTrunkFifoShortfall, onLane_has h, if_neg on]
  exact ⟨_, rfl, by simp⟩

end Sys2Proof.Machine
end

section
/-! The obligation of the trunk lanes' defects (R349, R359 to R361, R369). -/

namespace Sys2Proof

open Machine

/-- Settles O33: each row from the record it gives its lane, the events and the watches behind it leaving every record. -/
theorem trunkLaneDefects : Obligations.TrunkLaneDefects := by
  unfold Obligations.TrunkLaneDefects
  refine ⟨?_, ?_, ?_, ?_, ?_, ?_, ?_, ?_, ?_⟩
  · intro s n has skeluz
    refine ⟨fun out lock => ⟨_, execFasFoundInFrame_aligns has skeluz out lock, ?_⟩, execFasMissingOof_loses has skeluz⟩
    have mode : (trunkLane s n).cfg.mode = .skeluz := by simpa [isSkeluz] using skeluz
    rw [trunkLane_endRestart_self, trunkLane_updTrunkLane_self]
    refine ⟨rfl, rfl, rfl, fun los lof => ?_, fun m other => ?_⟩
    · simp [laneUp, los, lof, lock, mode]
    · rw [trunkLane_endRestart_other _ other, trunkLane_updTrunkLane_other _ _ other]
  · intro s n good has on changed
    refine ⟨_, execCodewordLockChange_takes has on changed, ?_⟩
    rw [trunkLane_endRestart_self, trunkLane_updTrunkLane_self]
    exact ⟨rfl, rfl, rfl, fun m other => by
      rw [trunkLane_endRestart_other _ other, trunkLane_updTrunkLane_other _ _ other]⟩
  · intro s n signal has on clear lost
    refine ⟨_, execLosEntry_enters has on clear lost, ?_⟩
    rw [trunkLane_enterLos]
    exact ⟨rfl, rfl, rfl, by simp [laneUp]⟩
  · intro s n u has los good
    exact execLosExit_leaves has los good
  · intro s n u has skeluz clear out
    refine ⟨_, execLofEntry_enters has skeluz clear out, ?_⟩
    cases los : (trunkLane s n).los
    · rw [if_neg Bool.false_ne_true, trunkLane_lofReported]
      exact ⟨rfl, by simp, fun _ => rfl, nofun⟩
    · rw [if_pos rfl, trunkLane_updTrunkLane_self]
      exact ⟨rfl, rfl, nofun, fun _ => rfl⟩
  · intro s n has lof inFrame
    exact execLofExit_leaves has lof inFrame
  · intro s n corrected received has on signal frame
    obtain ⟨t, step, counted, sd⟩ := execSdEvaluation_evaluates (corrected := corrected) (received := received) has on signal frame
    exact ⟨t, step, counted, fun clear => by rw [sd, clear]; rfl, fun set => by rw [sd, set]; rfl⟩
  · intro s n has on signal frame
    obtain ⟨t, step, rdi, slots⟩ := execSlotDefectChange_evaluates has on signal frame
    refine ⟨t, step, rdi, fun k _ single => ?_⟩
    rw [slots, tget_tmap (by rw [if_neg (by simp [single])]; exact slotDefects_unheard _), if_neg (by simp [single])]
  · intro s n transmit has on
    obtain ⟨t, step, record⟩ := execTrunkFifoShortfall_notes (transmit := transmit) has on
    exact ⟨t, step, by rw [record], by rw [record], by rw [record]⟩

end Sys2Proof
end

section
/-! What frames, chunks, units and packets do on the trunk (R351 to R369). -/

namespace Sys2Proof.Machine

variable {s t u : State} {n m : Nat}

/-! ### Frames out (R351, R353) -/

/-- Everything that row 0 of a lane's frame says is as before (R353). -/
structure RowSame (n : Nat) (s t : State) : Prop where
  row : ∀ f, rowZero t n f = rowZero s n f
  skeluz : ∀ m, isSkeluz t m = isSkeluz s m

namespace RowSame

theorem refl (n : Nat) (s : State) : RowSame n s s := ⟨fun _ => rfl, fun _ => rfl⟩

theorem trans (a : RowSame n s t) (b : RowSame n t u) : RowSame n s u :=
  ⟨fun f => (b.row f).trans (a.row f), fun m => (b.skeluz m).trans (a.skeluz m)⟩

theorem ite {a b : State} {p : Prop} [Decidable p] (ha : RowSame n s a) (hb : RowSame n s b) : RowSame n s (if p then a else b) := by
  split <;> assumption

end RowSame

/-- The trunk without its lanes and streams: the pages, the pair and the counts. -/
def Trunk.plan (x : Trunk) : Trunk := { x with lanes := [], streams := [] }

/-- What a frame takes from the streams leaves the outputs, the pages, the pair and the counts, and what every frame says (R354 to
R356). -/
structure Drawn (s t : State) : Prop where
  out : t.out = s.out
  plan : t.trk.plan = s.trk.plan
  row : ∀ n, RowSame n s t

theorem drawStream_drawn (slot room : Nat) (s : State) : Drawn s (drawStream slot room s).1 :=
  ⟨rfl, rfl, fun _ => ⟨fun _ => rfl, fun _ => rfl⟩⟩

theorem sendSlot_drawn (slot : Nat) (s : State) : Drawn s (sendSlot slot s).1 := by
  have same : Drawn s s := ⟨rfl, rfl, fun _ => .refl _ s⟩
  unfold sendSlot
  dsimp only
  split
  · exact same
  · split
    · exact same
    · split
      · exact same
      · exact drawStream_drawn ..

/-- The slots of a frame drawn one after the other. -/
theorem foldl_drawn {α β : Type} {f : State × β → α → State × β} (h : ∀ a x, Drawn a.1 (f a x).1) (l : List α) (a : State × β) :
    Drawn a.1 (l.foldl f a).1 := by
  induction l generalizing a with
  | nil => exact ⟨rfl, rfl, fun _ => .refl _ a.1⟩
  | cons x l ih => exact ⟨(ih _).out.trans (h a x).out, (ih _).plan.trans (h a x).plan, fun n => ((h a x).row n).trans ((ih _).row n)⟩

/-- The lane's shortfall is forgotten with its frame, and no frame says it (R361). -/
theorem updTrunkLane_row (m : Nat) (s : State) : RowSame n s (updTrunkLane m (fun x => { x with txShort := false }) s) where
  row f := by
    by_cases same : n = m
    · subst same
      simp only [rowZero, trunkLane_updTrunkLane_self]
      rfl
    · simp only [rowZero, trunkLane_updTrunkLane_other _ s same]
      rfl
  skeluz k := by
    by_cases same : k = m
    · rw [same, isSkeluz, trunkLane_updTrunkLane_self, isSkeluz]
    · rw [isSkeluz, trunkLane_updTrunkLane_other _ s same, isSkeluz]

/-- One slot position of a frame after those before it. -/
def putSlot (n : Nat) (a : State × List SlotOut) (k : Nat) : State × List SlotOut :=
  ((sendSlot (64 * n + k) a.1).1, a.2 ++ (sendSlot (64 * n + k) a.1).2)

/-- What a frame carries, and the state after it is drawn (R354). -/
def drawSlots (n : Nat) (s : State) : State × List SlotOut := (List.range 64).foldl (putSlot n) (s, [])

theorem drawSlots_drawn (n : Nat) (s : State) : Drawn s (drawSlots n s).1 :=
  foldl_drawn (f := putSlot n) (fun _ _ => sendSlot_drawn ..) (List.range 64) (s, [])

/-- A frame sent: its slots drawn, its output with the fill behind it, the lane's shortfall forgotten (R351). -/
theorem sendFrame_eq (n f : Nat) (s : State) : ∃ fill, sendFrame n f s =
    updTrunkLane n (fun x => { x with txShort := false })
      (emit (.trunkFrame n (rowZero s n f) (drawSlots n s).2 fill) (freshNat (drawSlots n s).1).2) := by
  unfold sendFrame drawSlots putSlot
  dsimp only
  exact ⟨_, rfl⟩

/-- A lane's frame leaves with its row 0, and leaves what the other lanes' frames say (R353). -/
theorem sendFrame_sends (m f : Nat) (s : State) :
    (∃ l fill, (sendFrame m f s).out = s.out ++ [.trunkFrame m (rowZero s m f) l fill]) ∧
      (sendFrame m f s).trk.plan = s.trk.plan ∧ ∀ n, RowSame n s (sendFrame m f s) := by
  have drawn := drawSlots_drawn m s
  obtain ⟨fill, sent⟩ := sendFrame_eq m f s
  rw [sent]
  generalize drawSlots m s = a at drawn ⊢
  refine ⟨⟨a.2, fill, ?_⟩, drawn.plan, fun n => ?_⟩
  · exact congrArg (· ++ _) drawn.out
  · have told : RowSame n a.1 (emit (.trunkFrame m (rowZero s m f) a.2 fill) (freshNat a.1).2) := ⟨fun _ => rfl, fun _ => rfl⟩
    exact (drawn.row n).trans (told.trans (updTrunkLane_row ..))

/-- The frames of a list of lanes: each lane's, with row 0 as it stood before the first. -/
theorem sendFrames_send (f : Nat) (l : List Nat) (s : State) :
    let t := l.foldl (fun s n => sendFrame n f s) s
    (∀ o ∈ s.out, o ∈ t.out) ∧ t.trk.plan = s.trk.plan ∧
    ∀ n ∈ l, ∃ slots fill, Output.trunkFrame n (rowZero s n f) slots fill ∈ t.out := by
  induction l generalizing s with
  | nil => exact ⟨fun _ h => h, rfl, nofun⟩
  | cons m l ih =>
    obtain ⟨⟨slots, fill, sent⟩, plan, row⟩ := sendFrame_sends m f s
    obtain ⟨kept, plans, others⟩ := ih (sendFrame m f s)
    simp only [List.foldl_cons]
    have earlier : ∀ o ∈ s.out ++ [Output.trunkFrame m (rowZero s m f) slots fill],
        o ∈ (l.foldl (fun s n => sendFrame n f s) (sendFrame m f s)).out := sent ▸ kept
    refine ⟨fun o listed => earlier o (List.mem_append_left _ listed), plans.trans plan, fun n listed => ?_⟩
    rcases List.mem_cons.mp listed with rfl | later
    · exact ⟨slots, fill, earlier _ (List.mem_append_right _ (List.mem_singleton_self _))⟩
    · rw [← (row n).row f]
      exact others n later

/-- Nothing waits for the pair at a boundary (R380, R545). -/
theorem pairBoundary_idle {f : Nat} (next : s.trk.pair.next = none) (failFrom : s.trk.pair.failFrom = none) : pairBoundary f s = s := by
  unfold pairBoundary
  simp [next, failFrom]

/-- The frames of every Skeluz lane sent at the boundary that is due (R351). -/
def framesSent (s : State) : State :=
  ((List.range s.part.trunkLanes).filter (isSkeluz s)).foldl (fun u n => sendFrame n (frameDue s) u) (advanceToFrame (frameDue s) s)

/-- The frame that is due starts on each Skeluz lane (R351). -/
theorem execTrunkFrameTransmit_sends (running : Running s) (next : s.trk.pair.next = none) (failFrom : s.trk.pair.failFrom = none)
    (noReset : s.pwr.sysResetFrame = none) :
    execTrunkFrameTransmit s = .next { framesSent s with
      trk.lastFrame := some (frameDue s), trk.txMfi := (framesSent s).trk.txMfi + 1, trk.discardRun := [] } := by
  have boundary : pairBoundary (frameDue s) (advanceToFrame (frameDue s) s) = advanceToFrame (frameDue s) s :=
    pairBoundary_idle next failFrom
  have waiting : (advanceToFrame (frameDue s) s).pwr.sysResetFrame = none := noReset
  unfold execTrunkFrameTransmit
  dsimp only
  rw [if_neg (by simp [running]), boundary, waiting, Option.map_none, Option.getD_none, if_neg Bool.false_ne_true,
    show isSkeluz (advanceToFrame (frameDue s) s) = isSkeluz s from rfl,
    show (advanceToFrame (frameDue s) s).part = s.part from rfl]
  rw [framesSent]

/-! ### Frames and chunks in (R358, R369) -/

/-- Operations on the streams alone, one after the other. -/
theorem foldl_streams {α : Type} {f : State → α → State} (h : ∀ s x, ∃ streams, f s x = { s with trk.streams := streams }) (l : List α)
    (s : State) : ∃ streams, l.foldl f s = { s with trk.streams := streams } := by
  induction l generalizing s with
  | nil => exact ⟨s.trk.streams, rfl⟩
  | cons x l ih =>
    obtain ⟨_, first⟩ := h s x
    obtain ⟨streams, rest⟩ := ih (f s x)
    exact ⟨streams, rest.trans (by rw [first])⟩

/-- The slots that pass on what a lane received change their streams and nothing else (R362). -/
theorem crossConnect_streams (lane : Nat) (received : Nat → Nat → Bytes) (s : State) :
    ∃ streams, crossConnect lane received s = { s with trk.streams := streams } := by
  refine foldl_streams (fun s k => ?_) _ s
  dsimp only
  split
  · split
    · exact ⟨s.trk.streams, rfl⟩
    · exact ⟨_, rfl⟩
  · exact ⟨s.trk.streams, rfl⟩

@[simp] theorem trunkLane_crossConnect (lane : Nat) (received : Nat → Nat → Bytes) (s : State) (m : Nat) :
    trunkLane (crossConnect lane received s) m = trunkLane s m := by
  obtain ⟨streams, same⟩ := crossConnect_streams lane received s
  rw [same]
  rfl

/-- What the trunk's frames do to the time reference leaves the trunk (R418, R422). -/
theorem gainRef_trk (s : State) : (gainRef s).trk = s.trk := by
  unfold gainRef
  split
  · exact (selectRef_same ..).1
  · rfl

theorem trunkRefFrame_trk (valid delay : Bool) (tq : Nat) (s : State) : (trunkRefFrame valid delay tq s).trk = s.trk := by
  unfold trunkRefFrame
  extract_lets run clear _ noted
  split
  · exact gainRef_trk _
  · split
    · exact (loseRef_same ..).1
    · rfl

theorem noteLock_trk (q : Nat) (s : State) : (noteLock q s).trk = s.trk := by
  unfold noteLock
  split <;> rfl

theorem measureOffset_trk (r : Ref) (offset : Int) (s : State) : (measureOffset r offset s).trk = s.trk := by
  unfold measureOffset
  dsimp only
  split
  · rfl
  · rw [noteLock_trk]
    split <;> rfl

/-- The record of a lane after an in-frame frame (R358): the peer's overhead, the slots' labels, and the one-way delay. -/
def heardFrame (s : State) (x : TrunkRx) (l : TrunkLane) : TrunkLane :=
  let t2 : Word := tmbNow s + BitVec.ofNat 64 (x.fine % 9)
  let echoed := decide (x.echoTime % 2 ^ 64 ≠ 0)
  { l with mfi := BitVec.ofNat 8 x.mfi, peerLane := BitVec.ofNat 3 x.lane, peerRole := BitVec.ofNat 2 (bits x.lstat 1 2),
           peerFixed := bit x.lstat 3, peerNode := BitVec.ofNat 16 x.node, rxTime := BitVec.ofNat 64 x.time, rxAt := t2,
           rdis := (bit x.lstat 0 :: l.rdis).take 3, slots := noteSlots x.slots l.slots, delayValid := l.delayValid || echoed,
           delay := if echoed then BitVec.ofInt 32 (oneWayDelay t2 (BitVec.ofNat 64 x.echoTime) x.echoDelay l.cfg.asymPs) else l.delay
           rxShort := false }

theorem execTrunkFrameReceive_hears {x : TrunkRx} (h : n < s.part.trunkLanes) (skeluz : isSkeluz s n = true)
    (inFrame : (trunkLane s n).inFrame = true) (signal : (trunkLane s n).los = false) :
    ∃ t, execTrunkFrameReceive n x s = .next t ∧ trunkLane t n = heardFrame s x (trunkLane s n) := by
  have mode : (trunkLane s n).cfg.mode = .skeluz := by simpa [isSkeluz] using skeluz
  rw [execTrunkFrameReceive, onLane_has h]
  refine ⟨_, rfl, ?_⟩
  extract_lets l t2 echoed d noted crossed l' valid qualified
  rw [if_neg (by simp [l, mode, inFrame, signal])]
  have told (u : State) (same : u.trk = crossed.trk) : trunkLane u n = heardFrame s x (trunkLane s n) := by
    rw [trunkLane_of_lanes (congrArg Trunk.lanes same), trunkLane_crossConnect, trunkLane_updTrunkLane_self]
    rfl
  refine told _ ?_
  split
  · rfl
  · split
    · exact (measureOffset_trk ..).trans (trunkRefFrame_trk ..)
    · exact trunkRefFrame_trk ..

/-- The next chunk of a slot leaves with its number (R369). -/
theorem execEthernetChunkSend_sends {slot : Nat} (h : n < s.part.trunkLanes) (inLane : slot < 64)
    (mode : (trunkLane s n).cfg.mode = .ethernet) (open_ : (trunkLane s n).pauseUntil ≤ s.now) :
    ∃ t mac h, execEthernetChunkSend n slot s = .next t ∧
      tget 0 (trunkLane t n).chunkTx slot = tget 0 (trunkLane s n).chunkTx slot + 1 ∧
      t.out = s.out ++ [.chunk n mac h (drawStream (groupFirst s.part (activePage s) (64 * n + slot)) 8000 s).2.1] := by
  rw [execEthernetChunkSend, onLane_has h]
  dsimp only
  rw [if_neg (by simp [mode]; omega)]
  refine ⟨_, _, _, rfl, ?_, rfl⟩
  rw [trunkLane_emit, trunkLane_updTrunkLane_self]
  exact tget_tset_self ..

/-- What a slot's record becomes with a chunk (R359, R369). -/
def heardChunk (s : State) (seq label sstat : Nat) (r : SlotRx) : SlotRx :=
  { r with labels := (label :: r.labels).take 3, rdis := (bit sstat 0 :: r.rdis).take 3, chunkSeq := BitVec.ofNat 16 seq
           chunkAt := s.now }

theorem execEthernetChunkReceive_hears {slot seq label sstat : Nat} {data : Bytes} (h : n < s.part.trunkLanes) (inLane : slot < 64)
    (mode : (trunkLane s n).cfg.mode = .ethernet) (signal : (trunkLane s n).los = false) :
    ∃ t, execEthernetChunkReceive n slot seq true label ⟨sstat, data⟩ s = .next t ∧
      tget {} (trunkLane t n).slots slot = heardChunk s seq label sstat (tget {} (trunkLane s n).slots slot) := by
  rw [execEthernetChunkReceive, onLane_has h]
  dsimp only
  rw [if_neg (by simp [mode, signal]; omega)]
  refine ⟨_, rfl, ?_⟩
  rw [trunkLane_crossConnect, trunkLane_updTrunkLane_self]
  exact tget_tset_self ..

/-- A slot silent for 1 ms counts as AIS (R369). -/
theorem execEthernetChunkTimeout_alarms {slot : Nat} (h : n < s.part.trunkLanes) (inLane : slot < 64)
    (mode : (trunkLane s n).cfg.mode = .ethernet) (signal : (trunkLane s n).los = false)
    (clear : (tget {} (trunkLane s n).slots slot).ais = false) :
    ∃ t, execEthernetChunkTimeout (64 * n + slot) s = .next t ∧ (tget {} (trunkLane t n).slots slot).ais = true ∧
      t.now = max s.now ((tget {} (trunkLane s n).slots slot).chunkAt + ms 1) := by
  have lane : (64 * n + slot) / 64 = n := by omega
  have position : (64 * n + slot) % 64 = slot := by omega
  rw [execEthernetChunkTimeout, lane, onLane_has h, position]
  dsimp only
  rw [if_neg (by rw [mode, signal, clear]; decide)]
  refine ⟨_, rfl, ?_, ?_⟩
  · rw [trunkLane_defectEvent, trunkLane_updTrunkLane_self, tget_tset_self]
  · rw [defectEvent_now, updTrunkLane_now, advanceTo_now]

theorem execPauseReceived_waits {quanta : Nat} (h : n < s.part.trunkLanes) (mode : (trunkLane s n).cfg.mode = .ethernet)
    (honoured : bit (trunkLane s n).cfg.ethFlags.toNat 1 = true) :
    execPauseReceived n quanta s =
      .next (updTrunkLane n (fun l => { l with pauseUntil := s.now + ceilDiv (quanta % 65536 * 512) 200 }) s) := by
  rw [execPauseReceived, onLane_has h]
  dsimp only
  rw [if_neg (by simp [mode, honoured])]

/-! ### Units and feed packets (R363, R364) -/

theorem execTrunkUplinkPacket_joins {f k : Nat} {r : Reasm} {sealed : Bool} (listed : reasm s f = some r)
    (mapped : uplinkSlot s r.port r.pod = some (k, sealed)) (ready : r.ready = true) (first : olderUnit s r = false)
    (on : (trunkLane s (k / 64)).cfg.mode ≠ .off) :
    execTrunkUplinkPacket f s = .next (delivered f r (slotSend k
      { pod := r.pod, isPacket := true,
        data := packet 1 ((if r.poisoned then 1 else 0) + if r.passThrough then 2 else 0) r.ep r.cls r.pod r.data } s)) := by
  rw [execTrunkUplinkPacket, listed]
  dsimp only
  rw [mapped]
  dsimp only
  rw [if_neg (by simp [ready, first, on])]

/-- A packet discarded is counted on its lane, and no frame buffer takes it (R364). -/
theorem discardFeed_counts (n : Nat) (s : State) :
    (trunkLane (discardFeed n s) n).dlDiscards = satAdd (trunkLane s n).dlDiscards 1 ∧ (discardFeed n s).lbf = s.lbf := by
  unfold discardFeed
  dsimp only
  split
  · rw [trunkLane_raiseTrunk, trunkLane_updTrunkLane_self, raiseTrunk_lbf]
    exact ⟨rfl, rfl⟩
  · rw [trunkLane_updTrunkLane_self]
    exact ⟨rfl, rfl⟩

end Sys2Proof.Machine
end

section
/-! The obligation of the trunk's traffic (R351 to R369). -/

namespace Sys2Proof

open Machine

/-- Settles O34: frames by the lanes they leave on, chunks and frames received by the record they give their lane, units and feed
packets by what takes them. -/
theorem trunkCarriesTraffic : Obligations.TrunkCarriesTraffic := by
  unfold Obligations.TrunkCarriesTraffic
  refine ⟨?_, ?_, ?_, ?_, ?_⟩
  · intro s running next failFrom noReset
    obtain ⟨_, plan, frames⟩ := sendFrames_send (frameDue s) ((List.range s.part.trunkLanes).filter (isSkeluz s))
      (advanceToFrame (frameDue s) s)
    refine ⟨_, execTrunkFrameTransmit_sends running next failFrom noReset, rfl, congrArg (·.txMfi + 1) plan, rfl, fun n has skeluz => ?_,
      fun none => ?_⟩
    · exact frames n (List.mem_filter.mpr ⟨List.mem_range.mpr has, skeluz⟩)
    · show (framesSent s).out = s.out
      rw [framesSent, List.filter_eq_nil_iff.mpr fun n has => by simp [none n (List.mem_range.mp has)]]
      rfl
  · intro s n x has skeluz inFrame signal
    obtain ⟨t, step, record⟩ := execTrunkFrameReceive_hears (x := x) has skeluz inFrame signal
    refine ⟨t, step, by rw [record]; rfl, by rw [record]; rfl, by rw [record]; rfl, by rw [record]; rfl, fun echoed => ?_, fun silent => ?_⟩
    · rw [record, heardFrame]
      simp only [decide_eq_true echoed, Bool.or_true, if_true, and_self]
    · rw [record, heardFrame]
      simp only [decide_eq_false (not_not.mpr silent), if_neg Bool.false_ne_true]
  · intro s n slot has inLane mode
    refine ⟨execEthernetChunkSend_sends has inLane mode, fun signal seq label sstat data => ?_, fun signal clear => ?_, fun honoured quanta => ?_⟩
    · obtain ⟨t, step, record⟩ := execEthernetChunkReceive_hears (seq := seq) (label := label) (sstat := sstat) (data := data)
        has inLane mode signal
      exact ⟨t, step, by rw [record]; rfl, by rw [record]; rfl, by rw [record]; rfl⟩
    · exact execEthernetChunkTimeout_alarms has inLane mode signal clear
    · exact execPauseReceived_waits has mode honoured
  · intro s f r k sealed listed mapped ready first on
    exact execTrunkUplinkPacket_joins listed mapped ready first on
  · intro s slot b has running sound type whole e pod_ good
    rw [exec_feedPacketReceive, execFeedPacketReceive, if_neg (Nat.not_le.mpr has)]
    extract_lets lane ep cls pod content feed
    have comes : ¬ ((s.pwr.phase != .running || slotFailed s slot || e.rxType != 1 || !packetOk b) = true) := by
      simp [e, running, sound, type, whole]
    have refused : (rdBe b 2 1 != 2 || bit (rdBe b 3 1) 0 || !feedAllowed s e.rxArg pod_ (rdBe b 4 2)) = !good := by
      simp [good, Bool.not_and, bne]
    rw [if_neg comes, refused]
    refine ⟨fun bad => ?_, fun fine u taken => ?_⟩
    · rw [bad]
      exact ⟨_, rfl, discardFeed_counts lane s⟩
    · rw [fine]
      exact congrArg (fun o : Option State => Host.Outcome.next (o.getD (discardFeed lane s))) taken

end Sys2Proof
end

section
/-! What answering and holding a command leave (R439, R443), and the standby page, its switch and its copy (R362, R365, R366). -/

namespace Sys2Proof.Machine

variable {s t : State}

/-- A command that answers leaves everything that reporting leaves. -/
theorem answers_next (c : Caller) (code : Nat) (req : Bytes) (st : Status) (resp : Bytes) (u : State) :
    ∃ t, Answers c code req st resp u = .next t ∧ t.calm = u.calm :=
  ⟨_, rfl, by simp⟩

/-- A command that is held leaves everything that reporting leaves. -/
theorem goesOn_next (c : Caller) (code : Nat) (req : Bytes) (names : List Resource) (committed : Bool) (u : State) :
    ∃ t, GoesOn c code req names committed u = .next t ∧ t.calm = u.calm :=
  ⟨_, rfl, hold_calm ..⟩

/-- A choice all of whose guards fail. -/
theorem guards_pass {α : Type} {b : Bool} {x y : α} (h : b = false) : (if b = true then x else y) = y :=
  if_neg (by simp [h])

/-- Entries put one after another from a position read back one by one. -/
theorem tget_putFrom {α : Type} (d : α) (f : Nat → α) (first n : Nat) (t : Table α) {i : Nat} (h : i < n) :
    tget d ((List.range n).foldl (fun t i => tset t (first + i) (f i)) t) (first + i) = f i := by
  induction n with
  | zero => omega
  | succ n ih =>
    rw [List.range_succ, List.foldl_append]
    by_cases e : i = n
    · subst e
      exact tget_tset_self ..
    · exact (tget_tset_other _ _ _ (by omega)).trans (ih (by omega))

@[simp] theorem activePage_setStandbyPage (p : TsiPage) (s : State) : activePage (setStandbyPage p s) = activePage s := by
  unfold setStandbyPage activePage
  by_cases a : s.trk.activePage = true <;> simp [a]

@[simp] theorem standbyPage_setStandbyPage (p : TsiPage) (s : State) : standbyPage (setStandbyPage p s) = p := by
  unfold setStandbyPage standbyPage
  by_cases a : s.trk.activePage = true <;> simp [a]

theorem execTsiWrite_writes {c : Caller} {req : Bytes} (start : mayStart s c 0x0B02 [.tsiPage] = true) (form : tsiWriteShape req = true)
    (sender : c.pod = 0) (least : 1 ≤ rd req 2 2) (most : rd req 2 2 ≤ 32) (within : rd req 0 2 + rd req 2 2 ≤ s.part.slots)
    (idle : commitPending s = false)
    (ranged : ∀ i < rd req 2 2, entryInRange s.part (parseEntry (slice req (8 + 16 * i) 16)) = true) {es : List TsiEntry} {p : TsiPage}
    (entries : es = (List.range (rd req 2 2)).map (fun i => parseEntry (slice req (8 + 16 * i) 16)))
    (page : p = { standbyPage s with
      entries := (List.range (rd req 2 2)).foldl (fun t i => tset t (rd req 0 2 + i) (es.getD i {})) (standbyPage s).entries })
    (allowed : entriesAllowed s (standbyPage s) p (rd req 0 2) (rd req 2 2) = true) :
    exec (.tsiWrite c req) s = Answers c 0x0B02 req St.ok (statusResp St.ok) (setStandbyPage p s) := by
  have all : es.all (entryInRange s.part) = true := by
    subst entries
    simpa using ranged
  have body : tsiWriteBody req s = answer St.ok (setStandbyPage p s) := by
    subst page
    unfold tsiWriteBody
    extract_lets first count es' old p'
    subst entries
    rw [guards_pass (by simp only [es']; rw [all]; simp; omega), guards_pass idle]
    exact if_pos allowed
  exact runCmd_answers start form (fun _ => sender) body

theorem execTsiMode_sets {c : Caller} {req : Bytes} (start : mayStart s c 0x0B03 [.tsiPage] = true)
    (form : shaped req 8 [(1, 7)] = true) (sender : c.pod = 0) (mode : rd req 0 1 ≤ 1) (idle : commitPending s = false) :
    exec (.tsiMode c req) s = Answers c 0x0B03 req St.ok (statusResp St.ok)
      (setStandbyPage { standbyPage s with fixed := bit (rd req 0 1) 0 } s) := by
  refine runCmd_answers start form (fun _ => sender) (?_ : tsiModeBody req s = _)
  unfold tsiModeBody
  rw [if_neg (by omega), guards_pass idle]
  rfl

theorem execTsiCommit_waits {c : Caller} {req : Bytes} (start : mayStart s c 0x0B04 [.tsiPage] = true)
    (form : shaped req 8 [(0, 8)] = true) (sender : c.pod = 0) (idle : commitPending s = false) (role : s.trk.pair.role ≠ .standby) :
    exec (.tsiCommit c req) s = Answers c 0x0B04 req St.pending (statusResp St.pending ++ leBytes 8 (frameTime (boundaryAfter20us s)))
      { s with trk.commitAt := some (boundaryAfter20us s), trk.commitDone := false } := by
  refine runCmd_answers start form (fun _ => sender) (?_ : tsiCommitBody s = _)
  unfold tsiCommitBody
  rw [guards_pass idle, if_neg role]

theorem execTsiRead_answers {c : Caller} {req : Bytes} (start : mayStart s c 0x0B05 [.tsiPage] = true)
    (form : shaped req 8 [(1, 1), (6, 2)] = true) (sender : c.pod = 0) (page : rd req 0 1 ≤ 1) (least : 1 ≤ rd req 4 2)
    (most : rd req 4 2 ≤ 32) (within : rd req 2 2 + rd req 4 2 ≤ s.part.slots) :
    exec (.tsiRead c req) s = Answers c 0x0B05 req St.ok (statusResp St.ok ++ (List.range (rd req 4 2)).flatMap (fun i =>
      entryBytes (tsiEntry s.part (if rd req 0 1 = 0 then activePage s else standbyPage s) (rd req 2 2 + i)))) s := by
  refine runCmd_answers start form (fun _ => sender) (?_ : tsiReadBody req s = _)
  exact guards_pass (by simp; omega)

/-- A switch exchanges the pages, counts itself and leaves the copy to come (R365). -/
theorem switchPage_trk (s : State) : (switchPage s).trk =
    { s.trk with activePage := !s.trk.activePage, commitCount := s.trk.commitCount + 1, switchMfi := s.trk.txMfi,
                 commitAt := none, copying := true } := by
  unfold switchPage
  exact congrArg Calm.trk (foldl_calm _ (fun _ _ => calm_if (raiseTrunk_calm ..) rfl) ..)

theorem activePage_switchPage (s : State) : activePage (switchPage s) = standbyPage s := by
  unfold activePage standbyPage
  rw [switchPage_trk]
  cases s.trk.activePage <;> rfl

theorem standbyPage_switchPage (s : State) : standbyPage (switchPage s) = activePage s := by
  unfold activePage standbyPage
  rw [switchPage_trk]
  cases s.trk.activePage <;> rfl

theorem execTsiCommitBoundary_switches {f : Nat} (due : s.trk.commitAt = some f) :
    exec .tsiCommitBoundary s = .next (switchPage (advanceToFrame f s)) := by
  rw [exec_tsiCommitBoundary, execTsiCommitBoundary, due]

theorem execTsiCopyDone_copies (copying : s.trk.copying = true) :
    exec .tsiCopyDone s = .next { setStandbyPage (activePage s) s with trk.copying := false, trk.commitDone := true } := by
  rw [exec_tsiCopyDone, execTsiCopyDone, copying]
  rfl

end Sys2Proof.Machine
end

section
/-! The settings of a trunk lane (R379). -/

namespace Sys2Proof.Machine

variable {s : State} {c : Caller} {req : Bytes}

theorem trunkLane_restartLane (n : Nat) (cfg : TrunkCfg) (s : State) : (trunkLane (restartLane n cfg s) n).cfg = cfg ∧
    (trunkLane (restartLane n cfg s) n).los = false ∧ (trunkLane (restartLane n cfg s) n).lof = false ∧
    (trunkLane (restartLane n cfg s) n).inFrame = false ∧ (trunkLane (restartLane n cfg s) n).slots = [] ∧
    (trunkLane (restartLane n cfg s) n).restart = decide (cfg.mode ≠ .off) := by
  unfold restartLane
  rw [trunkLane_laneLost, trunkLane_updTrunkLane_self]
  exact ⟨rfl, rfl, rfl, rfl, rfl, by cases cfg.mode <;> rfl⟩

/-- trunk.configure in range takes the settings: it restarts the lane at least where the mode changes. -/
theorem execTrunkConfigure_takes (start : mayStart s c 0x0B01 [.trunkLane (rd req 0 1)] = true)
    (form : shaped req 32 [(12, 4), (22, 2), (30, 2)] = true) (sender : c.pod = 0) (lane : rd req 0 1 < s.part.trunkLanes)
    (mode : rd req 1 1 ≤ 2) (sdLeast : 4 ≤ rd req 4 1) (sdMost : rd req 4 1 ≤ 9) (flags : rd req 5 1 ≤ 7)
    (asym : (parseTrunkCfg req).asymPs.natAbs ≤ 1000000)
    (mirror : isPaired s = true → s.part.mirrorLanes.contains (rd req 0 1) = true →
      (parseTrunkCfg req).mode = (trunkLane s (rd req 0 1)).cfg.mode) :
    ∃ st u, exec (.trunkConfigure c req) s = Answers c 0x0B01 req st (statusResp st) u ∧
      (u = restartLane (rd req 0 1) (parseTrunkCfg req) s ∨
        (parseTrunkCfg req).mode = (trunkLane s (rd req 0 1)).cfg.mode ∧
          u = updTrunkLane (rd req 0 1) (fun l => { l with cfg := parseTrunkCfg req }) s) := by
  have exp : (parseTrunkCfg req).sdExp = rd req 4 1 := rfl
  have ranged : (decide (rd req 0 1 ≥ s.part.trunkLanes) || decide (rd req 1 1 > 2) || decide ((parseTrunkCfg req).sdExp < 4)
      || decide ((parseTrunkCfg req).sdExp > 9) || decide (rd req 5 1 > 7) || decide ((parseTrunkCfg req).asymPs.natAbs > 1000000)) = false := by
    simp only [Bool.or_eq_false_iff, decide_eq_false_iff_not, exp]
    omega
  have kept : (isPaired s && s.part.mirrorLanes.contains (rd req 0 1) &&
      (parseTrunkCfg req).mode != (trunkLane s (rd req 0 1)).cfg.mode) = false := by
    rw [Bool.and_eq_false_imp, Bool.and_eq_true]
    rintro ⟨paired, onLink⟩
    rw [mirror paired onLink, bne_self_eq_false]
  have body : trunkConfigureBody req s = if _ then answer St.pending _ else answer St.ok _ :=
    (guards_pass ranged).trans (guards_pass kept)
  split at body
  · exact ⟨_, _, runCmd_answers start form (fun _ => sender) body, .inl rfl⟩
  · next same =>
    simp only [Bool.or_eq_true, bne_iff_ne, ne_eq, not_or, not_not] at same
    exact ⟨_, _, runCmd_answers start form (fun _ => sender) body, .inr ⟨same.1.1.1.1, rfl⟩⟩

end Sys2Proof.Machine
end

section
/-! The obligation of the slot interchange's pages (O35). -/

namespace Sys2Proof

open Machine

/-- Settles O35, command by command: a switch exchanges the two pages, and a restarted lane is the fresh lane with the new settings. -/
theorem slotInterchangePages : Obligations.SlotInterchangePages := by
  unfold Obligations.SlotInterchangePages
  refine ⟨?_, fun s c req => execTsiMode_sets, fun s c req => execTsiCommit_waits, fun s c req => execTsiRead_answers,
    fun s f due => ?_, fun s copying => ?_, fun s c req start form sender lane mode sdLeast sdMost flags asym mirror => ?_⟩
  · intro s c req start form sender least most within idle ranged es p allowed
    refine ⟨execTsiWrite_writes start form sender least most within idle ranged rfl rfl allowed, fun i hi => ?_,
      activePage_setStandbyPage ..⟩
    exact (tget_putFrom _ (fun i => es.getD i {}) _ _ _ hi).trans (by simp [es, hi])
  · refine ⟨_, execTsiCommitBoundary_switches due, activePage_switchPage .., standbyPage_switchPage .., ?_, ?_, ?_, ?_⟩ <;>
      rw [switchPage_trk] <;> rfl
  · exact ⟨_, execTsiCopyDone_copies copying, activePage_setStandbyPage .., standbyPage_setStandbyPage .., rfl, rfl⟩
  · obtain ⟨st, u, answers, took⟩ := execTrunkConfigure_takes start form sender lane mode sdLeast sdMost flags asym mirror
    obtain ⟨t, next, calm⟩ := answers_next c 0x0B01 req st (statusResp st) u
    have laneOf : trunkLane t (rd req 0 1) = trunkLane u (rd req 0 1) := trunkLane_of_lanes (congrArg (·.trk.lanes) calm) _
    refine ⟨t, answers.trans next, ?_⟩
    rw [laneOf]
    obtain rfl | ⟨same, rfl⟩ := took
    · obtain ⟨cfg, rest⟩ := trunkLane_restartLane (rd req 0 1) (parseTrunkCfg req) s
      exact ⟨cfg, fun _ => rest⟩
    · exact ⟨by rw [trunkLane_updTrunkLane_self], fun changed => absurd same changed⟩

end Sys2Proof
end

section
/-! What a configured role, a takeover and a switch leave of the pair, the pages and the sequence numbers (R370 to R373, R546). -/

namespace Sys2Proof.Machine

variable {s t : State}

/-- Keys all put with one value read that value. -/
theorem tget_putAll {α : Type} (d x : α) {l : List Nat} (t : Table α) {k : Nat} (listed : k ∈ l) :
    tget d (l.foldl (fun t k => tset t k x) t) k = x := by
  induction l using List.reverseRecOn with
  | nil => cases listed
  | append_singleton l j ih =>
    rw [List.foldl_append]
    by_cases e : k = j
    · subst e
      exact tget_tset_self ..
    · refine (tget_tset_other _ _ _ e).trans (ih ?_)
      simpa [e] using listed

/-! ### A configured role (R370, R380) -/

/-- A configured role applied: the pair's state anew, and the mirror link's entries in both pages. -/
structure RoleApplied (role : PairRole) (auto : Bool) (s t : State) : Prop where
  takes : t.trk.pair.role = role
  switchover : t.trk.pair.auto = auto
  next : t.trk.pair.next = none
  failFrom : t.trk.pair.failFrom = none
  shadow : t.trk.pair.shadow = decide (role = .standby)
  link : role ≠ .unpaired → ∀ k < s.part.slots, onMirrorLink s k = true →
    tget {} t.trk.page0.entries k = { txType := 4, rxType := 2 } ∧ tget {} t.trk.page1.entries k = { txType := 4, rxType := 2 }

theorem RoleApplied.of_trk {u : State} {role : PairRole} {auto : Bool} (a : RoleApplied role auto s t)
    (h : u.trk.plan = t.trk.plan) : RoleApplied role auto s u := by
  have pair : u.trk.pair = t.trk.pair := (congrArg Trunk.pair h :)
  have page0 : u.trk.page0 = t.trk.page0 := (congrArg Trunk.page0 h :)
  have page1 : u.trk.page1 = t.trk.page1 := (congrArg Trunk.page1 h :)
  exact ⟨pair ▸ a.takes, pair ▸ a.switchover, pair ▸ a.next, pair ▸ a.failFrom, pair ▸ a.shadow, page0 ▸ page1 ▸ a.link⟩

theorem applyRole_applied (role : PairRole) (auto : Bool) (s : State) : RoleApplied role auto s (applyRole role auto s) := by
  unfold applyRole
  extract_lets link put _ paged _ paired beating
  have entries (linked : role ≠ .unpaired) {k : Nat} (has : k < s.part.slots) (on : onMirrorLink s k = true) (p : TsiPage) :
      tget {} (put p).entries k = { txType := 4, rxType := 2 } :=
    tget_putAll _ _ _ (List.mem_filter.mpr ⟨List.mem_range.mpr has, on⟩)
  have pages (linked : role ≠ .unpaired) : paired.trk.page0 = put s.trk.page0 ∧ paired.trk.page1 = put s.trk.page1 := by
    have set : paged = { s with trk.page0 := put s.trk.page0, trk.page1 := put s.trk.page1 } := if_neg linked
    have kept : paired.trk.page0 = paged.trk.page0 ∧ paired.trk.page1 = paged.trk.page1 := ⟨rfl, rfl⟩
    rw [kept.1, kept.2, set]
    exact ⟨rfl, rfl⟩
  have applied {u : State} {shadow : Bool} (kept : u.trk = { paired.trk with pair.shadow := shadow })
      (falls : shadow = decide (role = .standby)) : RoleApplied role auto s (pairEvent u) := by
    have trk : (pairEvent u).trk = { paired.trk with pair.shadow := shadow } := (raiseTrunk_trk ..).trans kept
    refine ⟨by rw [trk], by rw [trk], by rw [trk], by rw [trk], by rw [trk, falls], fun linked k has on => ?_⟩
    rw [trk, (pages linked).1, (pages linked).2]
    exact ⟨entries linked has on _, entries linked has on _⟩
  cases role with
  | standby => exact applied (goSilent_trunkStays beating).trk rfl
  | active => exact applied ((mirrorAll_trunkStays _).trk.trans (leaveShadow_trunkStays beating).trk) rfl
  | unpaired | failing => exact applied (leaveShadow_trunkStays beating).trk rfl

/-- A role that waits for the boundary is applied there. -/
theorem pairBoundary_applies {role : PairRole} {auto : Bool} {g f : Nat} (next : s.trk.pair.next = some (role, auto, g)) (due : g ≤ f) :
    pairBoundary f s = applyRole role auto s := by
  unfold pairBoundary
  simp only [next, if_pos due]
  rw [(applyRole_applied role auto s).failFrom]
  simp

/-- The frame at the boundary of a configured role applies it. -/
theorem execTrunkFrameTransmit_applies {role : PairRole} {auto : Bool} {g : Nat} (running : Running s)
    (next : s.trk.pair.next = some (role, auto, g)) (due : g ≤ frameDue s) (noReset : s.pwr.sysResetFrame = none) :
    ∃ t, exec .trunkFrameTransmit s = .next t ∧ RoleApplied role auto s t := by
  have boundary : pairBoundary (frameDue s) (advanceToFrame (frameDue s) s) = applyRole role auto (advanceToFrame (frameDue s) s) :=
    pairBoundary_applies next due
  have waiting : (applyRole role auto (advanceToFrame (frameDue s) s)).pwr.sysResetFrame = none :=
    (congrArg Power.sysResetFrame (applyRole_pwr ..)).trans noReset
  have applied := applyRole_applied role auto (advanceToFrame (frameDue s) s)
  rw [exec_trunkFrameTransmit]
  unfold execTrunkFrameTransmit
  extract_lets due' ready lanes sent
  have ready_eq : ready = applyRole role auto (advanceToFrame (frameDue s) s) := boundary
  have plan : sent.trk.plan = ready.trk.plan := (sendFrames_send due' lanes ready).2.1
  rw [if_neg (by simp [running]), ready_eq, waiting, Option.map_none, Option.getD_none, if_neg Bool.false_ne_true]
  rw [ready_eq] at plan
  have sentApplied := applied.of_trk plan
  exact ⟨_, rfl, sentApplied.takes, sentApplied.switchover, sentApplied.next, sentApplied.failFrom, sentApplied.shadow, sentApplied.link⟩

/-! ### A takeover and a planned switch (R372, R373, R546) -/

theorem wakePort_nbrs (p : Nat) (s : State) : (wakePort p s).nbrs = s.nbrs := by
  have period (u : State) : (enterPeriod p u).nbrs = u.nbrs := by
    unfold enterPeriod
    split <;> rfl
  unfold wakePort
  split
  · rfl
  · unfold startContention
    dsimp only
    split
    · exact (period _).trans (by simp)
    · simp

theorem foldl_nbrs {α : Type} {f : State → α → State} (h : ∀ s x, (f s x).nbrs = s.nbrs) (l : List α) (s : State) :
    (l.foldl f s).nbrs = s.nbrs := by
  induction l generalizing s with
  | nil => rfl
  | cons x l ih => exact (ih _).trans (h s x)

theorem leaveShadow_nbrs (s : State) : (leaveShadow s).nbrs = s.nbrs := by
  unfold leaveShadow
  split
  · rfl
  · exact foldl_nbrs (fun s p => wakePort_nbrs p s) _ _

/-- A table with every listed entry changed: a listed key reads the change of what it read. -/
theorem tget_tmap_listed {α : Type} {d : α} {f : Nat → α → α} {i : Nat} {t : Table α} (listed : thas t i = true) :
    tget d (tmap f t) i = f i (tget d t i) := by
  induction t with
  | nil => cases listed
  | cons e t ih =>
    obtain ⟨k, v⟩ := e
    by_cases here : k = i
    · simp [tmap, tget, here]
    · have later : thas t i = true := by simpa [thas, here] using listed
      simpa [tmap, tget, here] using ih later

theorem thas_of_mem {α : Type} {t : Table α} {e : Nat × α} (h : e ∈ t) : thas t e.1 = true := by
  induction t with
  | nil => cases h
  | cons x t ih =>
    obtain ⟨k, v⟩ := x
    rcases List.mem_cons.mp h with rfl | later
    · simp [thas]
    · simp [thas, ih later]

theorem thas_tset_of {α : Type} {t : Table α} {i : Nat} (j : Nat) (x : α) (h : thas t i = true) : thas (tset t j x) i = true := by
  induction t with
  | nil => cases h
  | cons e t ih =>
    obtain ⟨k, v⟩ := e
    unfold tset
    split
    · simp [thas] at h ⊢
      tauto
    · split
      · rename_i same
        subst same
        simpa [thas] using h
      · simp [thas] at h ⊢
        tauto

/-- The neighbours' sequence numbers before a jump: each listed one as it was, those not yet heard of beside them. -/
structure NbrsRead (s t : State) : Prop where
  listed : ∀ i, thas s.nbrs i = true → thas t.nbrs i = true
  same : ∀ i, tget {} t.nbrs i = tget {} s.nbrs i

theorem NbrsRead.ite {a b : State} {p : Prop} [Decidable p] (ha : NbrsRead s a) (hb : NbrsRead s b) :
    NbrsRead s (if p then a else b) := by
  split <;> assumption

theorem updNbr_id_read (p e : Nat) (s : State) : NbrsRead s (updNbr p e id s) where
  listed _ h := thas_tset_of _ _ h
  same i := by
    by_cases here : i = nbrKey p e
    · rw [here, updNbr, tget_tset_self]
      rfl
    · exact tget_tset_other _ _ _ here

theorem foldl_read {α : Type} {f : State → α → State} (h : ∀ s x, NbrsRead s (f s x)) (l : List α) (s : State) :
    NbrsRead s (l.foldl f s) := by
  induction l generalizing s with
  | nil => exact ⟨fun _ h => h, fun _ => rfl⟩
  | cons x l ih => exact ⟨fun i has => (ih _).listed i ((h s x).listed i has), fun i => ((ih _).same i).trans ((h s x).same i)⟩

/-- Every transmit sequence number of a listed neighbour jumps by 1,024 (R372). -/
theorem jumpSeqs_jumps (s : State) {i : Nat} (listed : thas s.nbrs i = true) {cls : Nat} (h : cls < 4) :
    tget 0 (tget {} (jumpSeqs s).nbrs i).nextSeq cls = (tget 0 (tget {} s.nbrs i).nextSeq cls + 1024) % 4096 := by
  unfold jumpSeqs
  extract_lets met
  have read : NbrsRead s met := foldl_read (fun u x => .ite ⟨fun _ h => h, fun _ => rfl⟩ (updNbr_id_read ..)) _ _
  rw [tget_tmap_listed (read.listed i listed), read.same]
  interval_cases cls <;> rfl

theorem jumpSeqs_trk (s : State) : (jumpSeqs s).trk = s.trk := by
  have each (l : Table Endpoint) (u : State) :
      (l.foldl (fun s e => if e.2.state == .free then s else updNbr e.2.port e.1 id s) u).trk = u.trk := by
    induction l generalizing u with
    | nil => rfl
    | cons x l ih =>
      refine (ih _).trans ?_
      dsimp only
      split <;> rfl
  exact each s.eps s

theorem switchPage_nbrs (s : State) : (switchPage s).nbrs = s.nbrs := by
  unfold switchPage
  exact congrArg Calm.nbrs (foldl_calm _ (fun _ _ => calm_if (raiseTrunk_calm ..) rfl) ..)

/-- The trunk of a device that becomes active: the pages exchanged, the pair active, heard and without anything pending. -/
theorem becomeActive_trk (ready : Bool) (s : State) : (becomeActive ready s).trk =
    { (switchPage s).trk with
      pair := { (switchPage s).trk.pair with role := .active, takeover := none, planned := none, failFrom := none, failingRun := 0,
                                             peerReady := ready, shadow := false }
      switched := true } := by
  unfold becomeActive pairEvent
  rw [raiseTrunk_trk, (leaveShadow_trunkStays _).trk]
  dsimp only
  rw [jumpSeqs_trk]

theorem becomeActive_nbrs (ready : Bool) (s : State) : (becomeActive ready s).nbrs = (jumpSeqs (switchPage s)).nbrs := by
  unfold becomeActive pairEvent
  rw [raiseTrunk_nbrs, leaveShadow_nbrs]

/-- The pages where the other one acts. -/
theorem pages_exchanged (turned : t.trk.activePage = !s.trk.activePage) (page0 : t.trk.page0 = s.trk.page0)
    (page1 : t.trk.page1 = s.trk.page1) : activePage t = standbyPage s ∧ standbyPage t = activePage s := by
  unfold activePage standbyPage
  rw [turned, page0, page1]
  cases s.trk.activePage <;> exact ⟨rfl, rfl⟩

theorem becomeActive_becomes (ready : Bool) (s : State) : (becomeActive ready s).trk.pair.role = .active ∧
    activePage (becomeActive ready s) = standbyPage s ∧ standbyPage (becomeActive ready s) = activePage s ∧
    silent (becomeActive ready s) = false ∧ (becomeActive ready s).trk.pair.takeover = none ∧
    (becomeActive ready s).trk.pair.planned = none ∧ (becomeActive ready s).trk.switched = true := by
  have pages : activePage (becomeActive ready s) = standbyPage s ∧ standbyPage (becomeActive ready s) = activePage s := by
    apply pages_exchanged <;> rw [becomeActive_trk, switchPage_trk]
  rw [silent, becomeActive_trk]
  exact ⟨rfl, pages.1, pages.2, rfl, rfl, rfl, rfl⟩

end Sys2Proof.Machine
end

section
/-! The pair's events and commands (R370 to R373, R544 to R548). -/

namespace Sys2Proof.Machine

variable {s t : State}

@[simp] theorem pairEvent_trk (s : State) : (pairEvent s).trk = s.trk := raiseTrunk_trk ..

theorem execPairConfigure_waits {c : Caller} {req : Bytes}
    (start : mayStart s c 0x0B06 (.tsiPage :: s.part.mirrorLanes.map Resource.trunkLane) = true) (form : shaped req 8 [(2, 6)] = true)
    (sender : c.pod = 0) (role : rd req 0 1 ≤ 2) (auto : rd req 1 1 ≤ 1) (lanes : ∀ n ∈ s.part.mirrorLanes, isSkeluz s n = true) :
    exec (.pairConfigure c req) s = Answers c 0x0B06 req St.pending (statusResp St.pending)
      { s with trk.pair.next := some (if rd req 0 1 = 1 then .active else if rd req 0 1 = 2 then .standby else .unpaired,
        bit (rd req 1 1) 0, frameAfter ((tmbNow s).toNat + 1)) } := by
  refine runCmd_answers start form (fun _ => sender) (?_ : pairConfigureBody req s = _)
  have skeluz : (!s.part.mirrorLanes.all (isSkeluz s)) = false := by simpa using lanes
  unfold pairConfigureBody
  rw [guards_pass (by simp; omega), guards_pass skeluz]
  generalize rd req 0 1 = r at role
  interval_cases r <;> rfl

theorem execPairSwitch_plans {c : Caller} {req : Bytes} (start : mayStart s c 0x0B07 [.tsiPage] = true)
    (form : shaped req 8 [(0, 8)] = true) (sender : c.pod = 0) (paired : isPaired s = true) (ready : s.trk.pair.peerReady = true) :
    exec (.pairSwitch c req) s = Answers c 0x0B07 req St.pending (statusResp St.pending)
      { s with trk.pair.failFrom := if s.trk.pair.role = .active then some (boundaryAfter20us s) else none,
               trk.pair.planned := some (boundaryAfter20us s + 2) } := by
  refine runCmd_answers start form (fun _ => sender) (?_ : pairSwitchBody s = _)
  unfold pairSwitchBody
  rw [guards_pass (by rw [paired, ready]; rfl)]
  rfl

/-- A standby device that hears its peer applies the record (R370). -/
theorem execMirrorRecordReceive_applies (running : Running s) (role : s.trk.pair.role = .standby) (heard : mirrorDown s = false)
    (r : MirrorRec) : execMirrorRecordReceive r s = applyMirror r { s with trk.pair.hbLost := false } :=
  guards_pass (by simp [running, role, heard])

theorem execHeartbeatLoss_notes (up : pairUp s = true) (heard : s.trk.pair.hbLost = false) :
    ∃ t, execHeartbeatLoss s = .next t ∧ t.trk.pair.hbLost = true ∧
      t.trk.pair.peerReady = (s.trk.pair.peerReady && !(s.trk.pair.role == .active && s.trk.pair.mirrorLost.isSome)) := by
  refine ⟨pairEvent (peerGone { s with trk.pair.hbLost := true }), ?_, ?_⟩
  · rw [execHeartbeatLoss, guards_pass (by rw [up, heard]; rfl)]
  · rw [pairEvent_trk, peerGone]
    split
    · next gone =>
      obtain ⟨⟨active, -⟩, lost⟩ := by simpa only [Bool.and_eq_true, decide_eq_true_eq] using gone
      simp [active, lost]
    · next stays =>
      have : (s.trk.pair.role == .active && s.trk.pair.mirrorLost.isSome) = false := by
        rw [Bool.eq_false_iff]
        intro gone
        exact stays (by simpa using gone)
      simp [this]

theorem execMirrorLinkLossTimeout_clears {u : Nat} (up : pairUp s = true) (lost : s.trk.pair.mirrorLost = some u)
    (heard : s.trk.pair.hbLost = false) (ready : s.trk.pair.peerReady = true) :
    execMirrorLinkLossTimeout s = .next (pairEvent { advanceTo (u + secs 1) s with trk.pair.peerReady := false }) := by
  unfold execMirrorLinkLossTimeout
  rw [lost]
  dsimp only
  rw [guards_pass (by rw [up, heard, ready]; rfl)]

/-- A takeover that nothing stands against is declared for the next frame (R371, R372). -/
theorem declareTakeover_declares (takeover : s.trk.pair.takeover = none) (planned : s.trk.pair.planned = none) :
    declareTakeover s = pairEvent { s with trk.pair.takeover := some (nextFrame s) } :=
  guards_pass (by rw [takeover, planned]; rfl)

/-- The second frame with role failing declares the takeover (R371, R548). -/
theorem execPeerFailingDetect_declares (role : s.trk.pair.role = .standby) (heard : mirrorDown s = false)
    (ready : s.trk.pair.peerReady = true) (takeover : s.trk.pair.takeover = none) (planned : s.trk.pair.planned = none)
    (run : s.trk.pair.failingRun = 1) : execPeerFailingDetect 3 s = .next (pairEvent
      { s with trk.pair.failingRun := s.trk.pair.failingRun + 1, trk.pair.takeover := some (nextFrame s) }) := by
  unfold execPeerFailingDetect
  rw [guards_pass (by simp [role, heard])]
  exact congrArg Host.Outcome.next ((if_pos (by simp [run, ready])).trans
    (declareTakeover_declares (s := { s with trk.pair.failingRun := s.trk.pair.failingRun + 1 }) takeover planned))

/-- A frame with another role ends the run (R548). -/
theorem execPeerFailingDetect_ends (role : s.trk.pair.role = .standby) (heard : mirrorDown s = false) :
    execPeerFailingDetect 1 s = .next { s with trk.pair.failingRun := 0 } := by
  unfold execPeerFailingDetect
  rw [guards_pass (by simp [role, heard])]
  rfl

theorem execPairTakeover_declares {u : Nat} (lost : s.trk.pair.mirrorLost = some u) (role : s.trk.pair.role = .standby)
    (auto : s.trk.pair.auto = true) (ready : s.trk.pair.peerReady = true) (heartbeat : s.trk.pair.hbLost = true)
    (takeover : s.trk.pair.takeover = none) (planned : s.trk.pair.planned = none) :
    execPairTakeover s = .next (pairEvent { advanceTo (u + us 500) s with
      trk.pair.takeover := some (nextFrame (advanceTo (u + us 500) s)) }) := by
  unfold execPairTakeover
  rw [lost]
  dsimp only
  rw [guards_pass (by simp [role, auto, ready, heartbeat])]
  exact congrArg Host.Outcome.next (declareTakeover_declares (s := advanceTo (u + us 500) s) takeover planned)

theorem execTakeoverBoundary_takes {f : Nat} (takeover : s.trk.pair.takeover = some f) (role : s.trk.pair.role = .standby) :
    execTakeoverBoundary s = .next (becomeActive false (advanceToFrame f s)) := by
  unfold execTakeoverBoundary
  rw [takeover]
  dsimp only
  rw [guards_pass (by simp [role])]

/-- The pages switched and the pair standing by: what the active device of a planned switch is before it falls silent (R373). -/
def standsBy (s : State) : State :=
  { switchPage s with trk.pair.role := .standby, trk.pair.planned := none, trk.pair.failFrom := none, trk.switched := true }

/-- At the boundary of a planned switch the device does what its role asks (R373, R547, R548). -/
theorem execPlannedSwitchBoundary_switches {f : Nat} (planned : s.trk.pair.planned = some f) :
    ∃ t, execPlannedSwitchBoundary s = .next t ∧ t.trk.pair.planned = none ∧
      (s.trk.pair.role = .standby → t.trk.pair.role = .active ∧ silent t = false ∧ activePage t = standbyPage s) ∧
      (s.trk.pair.role = .active → t.trk.pair.role = .standby ∧ silent t = true ∧ activePage t = standbyPage s) ∧
      (s.trk.pair.role = .failing → t.trk.pair.role = .failing ∧ silent t = true) := by
  have stays : (advanceToFrame f s).trk = s.trk := rfl
  unfold execPlannedSwitchBoundary
  simp only [planned]
  rw [stays]
  cases role : s.trk.pair.role with
  | standby =>
    obtain ⟨active, page, -, sends, -, settled, -⟩ := becomeActive_becomes s.trk.pair.peerReady (advanceToFrame f s)
    exact ⟨_, rfl, settled, fun _ => ⟨active, sends, page⟩, nofun, nofun⟩
  | active =>
    have trk : (pairEvent (goSilent (standsBy (advanceToFrame f s)))).trk =
        { (standsBy (advanceToFrame f s)).trk with pair.shadow := true } := (pairEvent_trk _).trans (goSilent_trunkStays _).trk
    refine ⟨pairEvent (goSilent (standsBy (advanceToFrame f s))), rfl, ?_, nofun, fun _ => ⟨?_, ?_, ?_⟩, nofun⟩
    · rw [trk, standsBy]
    · rw [trk, standsBy]
    · rw [silent, trk]
    · refine (pages_exchanged (s := s) ?_ ?_ ?_).1 <;> rw [trk, standsBy, switchPage_trk] <;> rfl
  | failing =>
    have planned_of {u : State} (h : u.trk.pair.planned = none) : (goSilent u).trk.pair.planned = none := by
      rw [(goSilent_trunkStays u).trk]
      exact h
    have role_of {u : State} (h : u.trk.pair.role = .failing) : (goSilent u).trk.pair.role = .failing := by
      rw [(goSilent_trunkStays u).trk]
      exact h
    have silent_of (u : State) : silent (goSilent u) = true := by rw [silent, (goSilent_trunkStays u).trk]
    exact ⟨_, rfl, planned_of rfl, nofun, nofun, fun _ => ⟨role_of rfl, silent_of _⟩⟩
  | unpaired => exact ⟨_, rfl, rfl, nofun, nofun, nofun⟩

end Sys2Proof.Machine
end

section
/-! The obligation of the pair (O36). -/

namespace Sys2Proof

open Machine

/-- Settles O36: a role applied at its boundary is the pair's state anew, and a takeover and a planned switch share what a device that
becomes active does. -/
theorem pairTakesOver : Obligations.PairTakesOver := by
  unfold Obligations.PairTakesOver
  refine ⟨fun s c req => execPairConfigure_waits, ?_, ?_, ?_, fun s => execHeartbeatLoss_notes, ?_, ?_, ?_, ?_,
    fun s c req => execPairSwitch_plans, fun s f => execPlannedSwitchBoundary_switches⟩
  · intro s role auto g running next due noReset
    obtain ⟨t, step, applied⟩ := execTrunkFrameTransmit_applies running next due noReset
    refine ⟨t, step, applied.takes, applied.switchover, applied.next, fun standby => ?_, fun active => ?_, applied.link⟩
    · simp [silent, applied.shadow, standby]
    · simp [silent, applied.shadow, active]
  · intro s p e counter degraded d running role heard
    refine ⟨⟨_, execMirrorRecordReceive_applies running role heard _, ?_⟩, fun state port_ pod_ eui tx rx named => ?_⟩
    · rw [nbr_updNbr_self]
      exact ⟨rfl, rfl, rfl, rfl⟩
    · refine ⟨_, (execMirrorRecordReceive_applies running role heard _).trans (if_neg (by omega)), ?_⟩
      rw [endpoint_updEndpoint_self]
      exact ⟨rfl, rfl, rfl, rfl, rfl⟩
  · intro s up heard ready
    rw [exec_peerReadySet, execPeerReadySet, guards_pass (by rw [up, heard, ready]; rfl)]
  · intro s u up lost heard ready
    refine ⟨_, execMirrorLinkLossTimeout_clears up lost heard ready, ?_⟩
    rw [pairEvent_trk]
    exact ⟨rfl, rfl, rfl⟩
  · intro s role heard ready takeover planned run
    refine ⟨⟨_, execPeerFailingDetect_declares role heard ready takeover planned run, ?_⟩,
      _, execPeerFailingDetect_ends role heard, rfl, takeover⟩
    rw [pairEvent_trk]
  · intro s u lost role auto ready heartbeat takeover planned
    refine ⟨_, execPairTakeover_declares lost role auto ready heartbeat takeover planned, ?_, ?_⟩
    · exact congrArg Calm.now (raiseTrunk_calm ..)
    · rw [pairEvent_trk]
  · intro s f takeover role
    obtain ⟨active, page, standby, sends, settled, -, switched⟩ := becomeActive_becomes false (advanceToFrame f s)
    refine ⟨_, execTakeoverBoundary_takes takeover role, active, page, standby, sends, settled, switched, fun e listed cls h => ?_⟩
    have same : (switchPage (advanceToFrame f s)).nbrs = s.nbrs := switchPage_nbrs _
    rw [becomeActive_nbrs, jumpSeqs_jumps _ (same ▸ thas_of_mem listed) h, same]

end Sys2Proof
end

section
/-! What the closing of a chain's blocks leaves (R103, R106, R107): everything but the chains, the streams of the trunk and what
reporting touches. -/

namespace Sys2Proof.Machine

/-- What the delivery of blocks leaves unchanged. -/
def Calm.unblocked (x : Calm) : Calm := { x with chains := [], trk := { x.trk with streams := [] } }

/-- Only the chains, the streams of the trunk and what reporting touches differ. -/
def Delivers (s t : State) : Prop := t.calm.unblocked = s.calm.unblocked

namespace Delivers

variable {s t u : State}

theorem refl (s : State) : Delivers s s := rfl

theorem trans (a : Delivers s t) (b : Delivers t u) : Delivers s u := Eq.trans b a

theorem of_calm (h : t.calm = s.calm) : Delivers s t :=
  congrArg Calm.unblocked h

theorem ite {a b : State} {p : Prop} [Decidable p] (ha : Delivers s a) (hb : Delivers s b) : Delivers s (if p then a else b) := by
  split <;> assumption

theorem foldl {α : Type} {f : State → α → State} (h : ∀ s x, Delivers s (f s x)) (l : List α) (s : State) : Delivers s (l.foldl f s) := by
  induction l generalizing s with
  | nil => exact refl s
  | cons x l ih => exact (h s x).trans (ih _)

theorem now (h : Delivers s t) : t.now = s.now := (congrArg Calm.now h :)

theorem tmb (h : Delivers s t) : t.tmb = s.tmb := (congrArg Calm.tmb h :)

end Delivers

theorem updPosition_delivers (c p : Nat) (f : Position → Position) (s : State) : Delivers s (updPosition c p f s) := rfl

theorem updChain_delivers (c : Nat) (f : Chain → Chain) (s : State) : Delivers s (updChain c f s) := rfl

theorem blockDropped_delivers (c p : Nat) (s : State) : Delivers s (blockDropped c p s) :=
  .trans (updPosition_delivers ..) (.ite (.of_calm (count_calm ..)) (.refl _))

theorem blockDelivered_delivers (c p : Nat) (s : State) : Delivers s (blockDelivered c p s) := updPosition_delivers ..

theorem ringWritten_delivers (r : RingAt) (prod cons : Nat) (data : Bytes) (consumer : Option Nat) (c : Nat) (f : Chain → Chain)
    (s : State) : Delivers s (updChain c f (ringWrite r prod cons data consumer s).1) :=
  .trans (.of_calm (ringWrite_calm r prod cons data consumer s)) (updChain_delivers ..)

theorem deliverBlock_delivers (c p : Nat) (b : Block) (consumer : Option Nat) (s : State) :
    Delivers s (deliverBlock c p b consumer s) := by
  unfold deliverBlock
  dsimp only
  split
  · exact blockDropped_delivers ..
  · exact .ite (.trans (ringWritten_delivers ..) (blockDelivered_delivers ..))
      (.trans (ringWritten_delivers ..) (blockDropped_delivers ..))
  · exact .ite rfl (blockDropped_delivers ..)

theorem deliverReady_delivers (c p : Nat) (consumer : Option Nat) (s : State) : Delivers s (deliverReady c p consumer s) :=
  .trans (updPosition_delivers ..) (.foldl (fun _ _ => deliverBlock_delivers ..) _ _)

theorem closeBlock_delivers (c p : Nat) (s : State) : Delivers s (closeBlock c p s) := by
  unfold closeBlock
  split
  · exact .refl s
  · exact .trans (updPosition_delivers ..) (.ite (.refl _) (deliverReady_delivers ..))

theorem closeBlocks_delivers (c : Nat) (s : State) : Delivers s (closeBlocks c s) := .foldl (fun _ _ => closeBlock_delivers ..) _ s

end Sys2Proof.Machine
end

section
/-! The timebase: selections, offsets and steps (R416 to R424). -/

namespace Sys2Proof.Machine

variable {s t : State}

@[simp] theorem noteLock_now (q : Nat) (s : State) : (noteLock q s).now = s.now := by
  unfold noteLock
  split <;> rfl

/-- Noting the lock sets LOCK_SEEN at most (R428). -/
theorem noteLock_tmb (q : Nat) (s : State) : ∃ seen, (noteLock q s).tmb = { s.tmb with lockSeen := seen } := by
  unfold noteLock
  split
  · exact ⟨true, rfl⟩
  · exact ⟨s.tmb.lockSeen, rfl⟩

/-- A change of selection, field by field (R419, R420). -/
theorem selectRef_tmb {r : Ref} (changes : r ≠ s.tmb.selected) : (selectRef r s).tmb = { s.tmb with
    selected := r, switchSeen := true, fromAon := if r = .none then s.tmb.fromAon else false,
    holdoverFrom := if r = .none then some s.now else none, slewLeft := if r = .none then 0 else s.tmb.slewLeft,
    freq := if r = .none then meanCorrection s else s.tmb.freq, seconds := if r = .pps then s.tmb.seconds else none,
    step := if (s.tmb.step.map (·.ref)).getD r = r then s.tmb.step else none } := by
  unfold selectRef
  rw [if_neg changes]
  exact congrArg Calm.tmb (raiseSys_calm ..)

/-- A selection leaves the qualifications, the settings, the time function and the offset (R419). -/
structure Selecting (a b : Timebase) : Prop where
  pps : b.ppsQual = a.ppsQual ∧ b.ppsRun = a.ppsRun ∧ b.ppsLast = a.ppsLast ∧ b.ppsSince = a.ppsSince
  cfg : b.cfg = a.cfg ∧ b.nextCfg = a.nextCfg
  scale : b.tU = a.tU ∧ b.nU = a.nU ∧ b.yU = a.yU ∧ b.valid = a.valid
  host : b.hostSet = a.hostSet ∧ b.offset = a.offset
  step : a.step = none → b.step = none

theorem Selecting.refl (a : Timebase) : Selecting a a :=
  ⟨⟨rfl, rfl, rfl, rfl⟩, ⟨rfl, rfl⟩, ⟨rfl, rfl, rfl, rfl⟩, ⟨rfl, rfl⟩, id⟩

theorem Selecting.trans {a b c : Timebase} (x : Selecting a b) (y : Selecting b c) : Selecting a c := by
  obtain ⟨⟨p1, p2, p3, p4⟩, ⟨c1, c2⟩, ⟨s1, s2, s3, s4⟩, ⟨h1, h2⟩, st⟩ := x
  obtain ⟨⟨q1, q2, q3, q4⟩, ⟨d1, d2⟩, ⟨r1, r2, r3, r4⟩, ⟨g1, g2⟩, sr⟩ := y
  exact ⟨⟨q1.trans p1, q2.trans p2, q3.trans p3, q4.trans p4⟩, ⟨d1.trans c1, d2.trans c2⟩,
    ⟨r1.trans s1, r2.trans s2, r3.trans s3, r4.trans s4⟩, ⟨g1.trans h1, g2.trans h2⟩, sr ∘ st⟩

theorem selectRef_selecting (r : Ref) (s : State) : Selecting s.tmb (selectRef r s).tmb := by
  by_cases changes : r = s.tmb.selected
  · rw [selectRef, if_pos changes]
    exact .refl _
  · rw [selectRef_tmb changes]
    exact ⟨⟨rfl, rfl, rfl, rfl⟩, ⟨rfl, rfl⟩, ⟨rfl, rfl, rfl, rfl⟩, ⟨rfl, rfl⟩, fun none => by simp [none]⟩

theorem loseRef_selecting (r : Ref) (s : State) : Selecting s.tmb (loseRef r s).tmb := by
  unfold loseRef
  extract_lets _ u
  have cancelled : Selecting s.tmb u.tmb :=
    ⟨⟨rfl, rfl, rfl, rfl⟩, ⟨rfl, rfl⟩, ⟨rfl, rfl, rfl, rfl⟩, ⟨rfl, rfl⟩, fun none => by simp [u, none]⟩
  split
  · refine cancelled.trans (.trans ?_ (selectRef_selecting _ { u with tmb.lossSeen := true }))
    exact ⟨⟨rfl, rfl, rfl, rfl⟩, ⟨rfl, rfl⟩, ⟨rfl, rfl, rfl, rfl⟩, ⟨rfl, rfl⟩, id⟩
  · exact cancelled

theorem gainRef_selecting (s : State) : Selecting s.tmb (gainRef s).tmb := by
  unfold gainRef
  split
  · exact selectRef_selecting ..
  · exact .refl _

theorem gainRef_now (s : State) : (gainRef s).now = s.now := by
  unfold gainRef
  split
  · exact (selectRef_same ..).2
  · rfl

/-- A reference that is not qualified is not the best one. -/
theorem bestRef_ne {r : Ref} (named : r ≠ .none) (lost : refQual s r = false) : bestRef s ≠ r := by
  unfold bestRef
  cases found : (refOrder s.tmb.cfg).find? (refQual s) with
  | none => exact Ne.symm named
  | some b =>
    rintro rfl
    exact absurd (List.find?_some found) (by simpa using lost)

/-- A reference lost is selected no more; another selection stays (R418, R419). -/
theorem loseRef_selected {r : Ref} (named : r ≠ .none) (lost : refQual s r = false) :
    (loseRef r s).tmb.selected ≠ r ∧ (s.tmb.selected ≠ r → (loseRef r s).tmb.selected = s.tmb.selected) := by
  unfold loseRef
  extract_lets _ u
  split
  · next sel =>
    refine ⟨?_, fun other => absurd sel other⟩
    have best : bestRef u ≠ r := bestRef_ne named (by cases r <;> exact lost)
    rw [selectRef_tmb (by rw [show ({ u with tmb.lossSeen := true } : State).tmb.selected = r from sel]; exact best)]
    exact best
  · next sel => exact ⟨sel, fun _ => rfl⟩

/-! ### A step (R422, R423) -/

theorem rescan_same (s : State) : (rescan s).now = s.now ∧ (rescan s).tmb = s.tmb := by
  unfold rescan
  refine List.foldlRecOn _ _ (motive := fun u : State => u.now = s.now ∧ u.tmb = s.tmb) ⟨rfl, rfl⟩ (fun u same j _ => ?_)
  dsimp only
  split
  · exact same
  · exact same

theorem tmb_of_calm (h : t.calm = s.calm) : t.tmb = s.tmb := congrArg Calm.tmb h

theorem now_of_calm (h : t.calm = s.calm) : t.now = s.now := congrArg Calm.now h

/-- What a step leaves in the timebase: the new function from now, the log of the step; LOCK_SEEN is set at most. -/
theorem doStep_tmb (new : Word) (s : State) : (doStep new s).now = s.now ∧ ∃ seen, (doStep new s).tmb = { s.tmb with
    tU := new, nU := s.now, valid := true, fromAon := false, step := none, slewLeft := 0, offset := 0,
    stepAmount := new - tmbNow s, stepTime := new, stepCount := s.tmb.stepCount + 1, stepSeen := true, lockSeen := seen } := by
  unfold doStep
  extract_lets q amount old closed scale stepped trunked _ tagged
  have delivered : Delivers s closed := Delivers.foldl (fun u c => closeBlocks_delivers c u) _ s
  have effects (r : State) : (stepTrunk amount old (stepGroups amount r)).now = r.now ∧
      (stepTrunk amount old (stepGroups amount r)).tmb = r.tmb := ⟨rfl, rfl⟩
  have scanned : trunked.now = stepped.now ∧ trunked.tmb = stepped.tmb :=
    ⟨(effects _).1.trans (rescan_same stepped).1, (effects _).2.trans (rescan_same stepped).2⟩
  clear_value trunked
  have told : (traceTime (raiseSys 12 1 0 0 tagged)).calm = tagged.calm := by rw [traceTime_calm, raiseSys_calm]
  have kept : tagged.now = trunked.now ∧ tagged.tmb = trunked.tmb := ⟨rfl, rfl⟩
  clear_value tagged
  obtain ⟨seen, lock⟩ := noteLock_tmb q (traceTime (raiseSys 12 1 0 0 tagged))
  refine ⟨?_, seen, ?_⟩
  · rw [noteLock_now, now_of_calm told, kept.1, scanned.1, delivered.now]
  · rw [lock, tmb_of_calm told, kept.2, scanned.2]
    simp only [stepped, scale, old, amount, delivered.tmb, delivered.now]

end Sys2Proof.Machine
end

section
/-! The rows of the timebase: edges of PPS, the renewal, a displacement, a step and PPS_OUT (R416 to R424). -/

namespace Sys2Proof.Machine

variable {s t : State}

/-- The edges of PPS and its qualification are as before. -/
structure EdgesKept (a b : Timebase) : Prop where
  qual : b.ppsQual = a.ppsQual
  since : b.ppsSince = a.ppsSince
  last : b.ppsLast = a.ppsLast

theorem EdgesKept.trans {a b c : Timebase} (x : EdgesKept a b) (y : EdgesKept b c) : EdgesKept a c :=
  ⟨y.qual.trans x.qual, y.since.trans x.since, y.last.trans x.last⟩

theorem Selecting.edges {a b : Timebase} (h : Selecting a b) : EdgesKept a b := by
  obtain ⟨qual, -, last, since⟩ := h.pps
  exact ⟨qual, since, last⟩

theorem doStep_edges (new : Word) (s : State) : EdgesKept s.tmb (doStep new s).tmb := by
  obtain ⟨-, _, tmb⟩ := doStep_tmb new s
  rw [tmb]
  exact ⟨rfl, rfl, rfl⟩

theorem measureOffset_edges (r : Ref) (offset : Int) (s : State) : EdgesKept s.tmb (measureOffset r offset s).tmb := by
  have lock (q : Nat) (u : State) : EdgesKept u.tmb (noteLock q u).tmb := by
    obtain ⟨_, tmb⟩ := noteLock_tmb q u
    rw [tmb]
    exact ⟨rfl, rfl, rfl⟩
  unfold measureOffset
  split
  · exact ⟨rfl, rfl, rfl⟩
  · refine .trans ?_ (lock ..)
    split <;> exact ⟨rfl, rfl, rfl⟩

/-- What an accepted edge of the selected PPS does to the time leaves the edges (R418). -/
theorem ppsSelected_edges (s : State) : EdgesKept s.tmb (ppsSelected s).tmb := by
  unfold ppsSelected
  extract_lets d time second
  have steps {u : State} (h : EdgesKept s.tmb u.tmb) (new : Word) : EdgesKept s.tmb (doStep new u).tmb := h.trans (doStep_edges ..)
  split
  · apply steps
    exact ⟨rfl, rfl, rfl⟩
  · split
    · exact doStep_edges ..
    · split
      · exact doStep_edges ..
      · exact measureOffset_edges ..

/-- The span from the last accepted edge of PPS to a sample count (R418). -/
def ppsSpan (s : State) (n : Nat) : Int := match s.tmb.ppsLast with | some p => localSpan s.tmb p n | none => 0

/-- The run of good intervals with an edge at a sample count (R418). -/
def ppsRunAt (s : State) (n : Nat) : Nat :=
  if s.tmb.ppsLast.isSome && decide ((ppsSpan s n - 2 ^ 32).natAbs * 1000000 ≤ 2 * 2 ^ 32) then s.tmb.ppsRun + 1 else 1

/-- An edge that PPS, not qualified yet, only counts (R418). -/
theorem execPpsEdge_counts {edge : Nat} (running : Running s) (unqualified : s.tmb.ppsQual = false)
    (short : ppsRunAt s (max s.now edge) < 4) : execPpsEdge edge s = .next { s with
      now := max s.now edge, tmb.ppsRun := ppsRunAt s (max s.now edge), tmb.ppsLast := some (max s.now edge) } := by
  unfold execPpsEdge
  dsimp only
  rw [if_neg (by simp [running]), if_pos (by simp [unqualified])]
  exact congrArg Host.Outcome.next (if_pos short)

/-- The fourth edge in a run qualifies PPS (R418). -/
theorem execPpsEdge_qualifies {edge : Nat} (running : Running s) (unqualified : s.tmb.ppsQual = false)
    (long : 4 ≤ ppsRunAt s (max s.now edge)) : ∃ t, execPpsEdge edge s = .next t ∧ t.tmb.ppsQual = true ∧
      t.tmb.ppsSince = max s.now edge ∧ t.tmb.ppsLast = some (max s.now edge) := by
  let u : State := { advanceTo edge s with tmb.ppsRun := ppsRunAt s (max s.now edge), tmb.ppsLast := some (max s.now edge),
                                           tmb.ppsQual := true, tmb.ppsSince := max s.now edge }
  have step : execPpsEdge edge s = .next (if (gainRef u).tmb.selected = .pps then ppsSelected (gainRef u) else gainRef u) := by
    unfold execPpsEdge
    dsimp only
    rw [if_neg (by simp [running]), if_pos (by simp [unqualified])]
    exact congrArg Host.Outcome.next (if_neg (Nat.not_lt.mpr long))
  have gained : EdgesKept u.tmb (gainRef u).tmb := (gainRef_selecting u).edges
  have kept : EdgesKept u.tmb (if (gainRef u).tmb.selected = .pps then ppsSelected (gainRef u) else gainRef u).tmb := by
    split
    · exact gained.trans (ppsSelected_edges _)
    · exact gained
  exact ⟨_, step, kept.qual, kept.since, kept.last⟩

/-- An edge near one or two seconds after the last one is accepted (R418). -/
theorem execPpsEdge_accepts {edge : Nat} (running : Running s) (qualified : s.tmb.ppsQual = true)
    (near : (ppsSpan s (max s.now edge) - 2 ^ 32).natAbs * 10000 ≤ 2 ^ 32 ∨
      (ppsSpan s (max s.now edge) - 2 * 2 ^ 32).natAbs * 10000 ≤ 2 ^ 32) :
    ∃ t, execPpsEdge edge s = .next t ∧ t.tmb.ppsQual = true ∧ t.tmb.ppsLast = some (max s.now edge) := by
  let u : State := { advanceTo edge s with tmb.ppsLast := some (max s.now edge) }
  have step : execPpsEdge edge s = .next (if u.tmb.selected = .pps then ppsSelected u else u) := by
    unfold execPpsEdge
    dsimp only
    rw [if_neg (by simp [running]), if_neg (by simp [qualified])]
    refine congrArg Host.Outcome.next (if_neg ?_)
    simp only [Bool.and_eq_true, Bool.not_eq_true', decide_eq_false_iff_not, not_and_or, not_not, one_mul]
    exact near
  have kept : EdgesKept u.tmb (if u.tmb.selected = .pps then ppsSelected u else u).tmb := by
    split
    · exact ppsSelected_edges u
    · exact ⟨rfl, rfl, rfl⟩
  exact ⟨_, step, kept.qual.trans qualified, kept.last⟩

/-- Any other edge changes nothing but the clock (R418). -/
theorem execPpsEdge_ignores {edge : Nat} (running : Running s) (qualified : s.tmb.ppsQual = true)
    (one : 2 ^ 32 < (ppsSpan s (max s.now edge) - 2 ^ 32).natAbs * 10000)
    (two : 2 ^ 32 < (ppsSpan s (max s.now edge) - 2 * 2 ^ 32).natAbs * 10000) :
    execPpsEdge edge s = .next { s with now := max s.now edge } := by
  unfold execPpsEdge
  dsimp only
  rw [if_neg (by simp [running]), if_neg (by simp [qualified])]
  refine congrArg Host.Outcome.next (if_pos ?_)
  simp only [Bool.and_eq_true, Bool.not_eq_true', decide_eq_false_iff_not, not_le, one_mul]
  exact ⟨one, two⟩

theorem execPpsEdgeMissing_withdraws {p : Nat} (last : s.tmb.ppsLast = some p) (qualified : s.tmb.ppsQual = true) :
    ∃ t, execPpsEdgeMissing s = .next t ∧ t.tmb.ppsQual = false ∧ t.tmb.ppsRun = 0 ∧ t.tmb.selected ≠ .pps ∧
      t.now = max s.now (p + secs 2 + us 100) ∧ (s.tmb.selected ≠ .pps → t.tmb.selected = s.tmb.selected) := by
  let u : State := { advanceTo (p + secs 2 + us 100) s with tmb.ppsQual := false, tmb.ppsRun := 0, tmb.seconds := none }
  have step : execPpsEdgeMissing s = .next (loseRef .pps u) := by
    unfold execPpsEdgeMissing
    rw [last]
    dsimp only
    rw [guards_pass (by simp [qualified])]
  obtain ⟨qual, run, -, -⟩ := (loseRef_selecting .pps u).pps
  obtain ⟨withdrawn, others⟩ := loseRef_selected (s := u) (r := .pps) nofun rfl
  exact ⟨_, step, qual, run, withdrawn, (loseRef_same ..).2, others⟩

/-! ### The renewal (R417) -/

/-- Settings that wait apply, and leave the time function (R431). -/
theorem applyTmbCfg_tmb (s : State) : (applyTmbCfg s).now = s.now ∧ (applyTmbCfg s).tmb.tU = s.tmb.tU ∧ (applyTmbCfg s).tmb.nU = s.tmb.nU ∧
    (applyTmbCfg s).tmb.nextCfg = none ∧ (∀ c, s.tmb.nextCfg = some c → (applyTmbCfg s).tmb.cfg = c) := by
  unfold applyTmbCfg
  split
  · next none => exact ⟨rfl, rfl, rfl, none, fun c waits => by rw [none] at waits; cases waits⟩
  · next c waits =>
    extract_lets moved had _ u _ v w
    have moves : w.now = u.now ∧ Selecting u.tmb w.tmb := by
      have withdrawn : Selecting u.tmb v.tmb :=
        ⟨⟨rfl, rfl, rfl, rfl⟩, ⟨rfl, rfl⟩, ⟨rfl, rfl, rfl, rfl⟩, ⟨rfl, rfl⟩, id⟩
      simp only [w]
      split
      · exact ⟨rfl, .refl _⟩
      · split
        · exact ⟨(loseRef_same .trunk v).2, withdrawn.trans (loseRef_selecting ..)⟩
        · exact ⟨rfl, withdrawn⟩
    have gained := moves.2.trans (gainRef_selecting w)
    refine ⟨(gainRef_now w).trans moves.1, gained.scale.1, gained.scale.2.1, gained.cfg.2, fun c' waits' => ?_⟩
    rw [waits] at waits'
    cases waits'
    exact gained.cfg.1

theorem renewFreq_tmb (s : State) : (renewFreq s).now = s.now ∧ ∃ freq, (renewFreq s).tmb = { s.tmb with freq := freq } := by
  unfold renewFreq
  split
  · exact ⟨rfl, _, rfl⟩
  · exact ⟨rfl, s.tmb.freq, rfl⟩

theorem clampRate_within (y : Int) : -maxRate ≤ clampRate y ∧ clampRate y ≤ maxRate := by
  unfold clampRate maxRate
  split
  · omega
  · split <;> omega

/-- At the origin of a time function the time is that of the origin (R417). -/
theorem timeAt_origin (x : Timebase) : timeAt x x.nU = x.tU := by
  simp [timeAt]

/-- A renewal starts the time function anew where it was (R417). -/
theorem execTimebaseRenewal_renews (running : Running s) :
    ∃ t, execTimebaseRenewal s = .next t ∧ t.now = (s.now / 500000 + 1) * 500000 ∧ t.tmb.nU = t.now ∧
      t.tmb.tU = timeAt s.tmb t.now ∧ tmbNow t = timeAt s.tmb t.now ∧ -maxRate ≤ t.tmb.yU ∧ t.tmb.yU ≤ maxRate ∧
      t.tmb.nextCfg = none ∧ (∀ c, s.tmb.nextCfg = some c → t.tmb.cfg = c) ∧
      (s.tmb.nextCfg = none → t.tmb.cfg = s.tmb.cfg ∧ t.tmb.slewLeft = s.tmb.slewLeft - slewPart s.tmb.slewLeft) := by
  unfold execTimebaseRenewal
  rw [if_neg (by simp [running])]
  extract_lets ahead q _ anew renewed part hist
  let ended : State := { renewed with
    tmb.yU := clampRate (renewed.tmb.freq + part * 256000), tmb.slewLeft := renewed.tmb.slewLeft - part, tmb.lockedHist := hist }
  have clock : ahead.now = (s.now / 500000 + 1) * 500000 := Nat.max_eq_right (by show s.now ≤ (s.now / 500000 + 1) * 500000; omega)
  obtain ⟨now, tU, nU, settled, taken⟩ := applyTmbCfg_tmb anew
  obtain ⟨renewedNow, freq, renewedTmb⟩ := renewFreq_tmb (applyTmbCfg anew)
  obtain ⟨seen, lock⟩ := noteLock_tmb q ended
  have scaled : renewed.tmb.tU = timeAt s.tmb ahead.now ∧ renewed.tmb.nU = ahead.now := by
    rw [show renewed.tmb = _ from renewedTmb]
    exact ⟨tU, nU⟩
  have nowEq : renewed.now = ahead.now := renewedNow.trans now
  have origin : tmbNow (noteLock q ended) = renewed.tmb.tU := by
    rw [tmbNow, noteLock_now, lock, show ended.now = renewed.tmb.nU from nowEq.trans scaled.2.symm]
    exact timeAt_origin { ended.tmb with lockSeen := seen }
  refine ⟨noteLock q ended, rfl, ?_⟩
  rw [origin, noteLock_now, lock, show ended.now = ahead.now from nowEq]
  refine ⟨clock, scaled.2, scaled.1, scaled.1, (clampRate_within _).1, (clampRate_within _).2, ?_, fun c waits => ?_, fun none => ?_⟩
  · exact (congrArg Timebase.nextCfg renewedTmb).trans settled
  · exact (congrArg Timebase.cfg renewedTmb).trans (taken c waits)
  · have same : applyTmbCfg anew = anew := by
      rw [applyTmbCfg, show anew.tmb.nextCfg = .none from none]
    have slew : renewed.tmb.slewLeft = s.tmb.slewLeft :=
      (congrArg Timebase.slewLeft renewedTmb).trans (congrArg (·.tmb.slewLeft) same)
    refine ⟨(congrArg Timebase.cfg renewedTmb).trans (congrArg (·.tmb.cfg) same), ?_⟩
    change renewed.tmb.slewLeft - slewPart renewed.tmb.slewLeft = _
    rw [slew]

/-! ### Holdover, displacement, steps and PPS_OUT (R416, R419, R422, R424) -/

theorem execHoldoverExpiry_expires {u : Nat} (since : s.tmb.holdoverFrom = some u) : ∃ t, execHoldoverExpiry s = .next t ∧
    t = advanceTo (u + secs s.tmb.cfg.holdoverS + 1) s ∧ (s.tmb.selected = .none → quality t ≤ 1) := by
  refine ⟨_, by rw [execHoldoverExpiry, since], rfl, fun none => ?_⟩
  have past : holdoverPast (advanceTo (u + secs s.tmb.cfg.holdoverS + 1) s) = true := by
    rw [holdoverPast, advanceTo_tmb, since]
    refine decide_eq_true ?_
    simp only [advanceTo_now]
    omega
  unfold quality
  extract_lets x
  split
  · omega
  · rw [if_pos (by rw [past, show x.selected = .none from none]; simp)]

theorem execRevertiveDisplace_selects {x : Nat} (named : refOf x ≠ .none) (revertive : bit s.tmb.cfg.flags.toNat 2 = true)
    (qualified : refQual s (refOf x) = true) (earlier : refOf x ∈ (refOrder s.tmb.cfg).takeWhile (· != s.tmb.selected))
    (listed : s.tmb.selected ∈ refOrder s.tmb.cfg) :
    ∃ t, execRevertiveDisplace x s = .next t ∧ t.tmb.selected = refOf x ∧ t.tmb.switchSeen = true ∧ t.tmb.holdoverFrom = none ∧
      t.now = max s.now (qualifiedSince s (refOf x) + secs 10) := by
  have other : refOf x ≠ s.tmb.selected := by simpa using List.mem_takeWhile_imp earlier
  refine ⟨selectRef (refOf x) (advanceTo (qualifiedSince s (refOf x) + secs 10) s), ?_, ?_⟩
  · unfold execRevertiveDisplace
    dsimp only
    rw [if_neg (by simp [named, revertive, qualified, earlier, listed])]
  · rw [selectRef_tmb (s := advanceTo (qualifiedSince s (refOf x) + secs 10) s) other]
    exact ⟨rfl, rfl, if_neg named, (selectRef_same ..).2⟩

theorem execTimeStep_steps {r : Ref} {new : Word} {n : Nat} (step : s.tmb.step = some ⟨r, new, some n⟩) :
    execTimeStep s = .next (doStep new (advanceTo n s)) := by
  rw [execTimeStep, step]

theorem tmbNow_doStep (new : Word) (s : State) : tmbNow (doStep new s) = new := by
  obtain ⟨now, seen, tmb⟩ := doStep_tmb new s
  rw [tmbNow, now, tmb]
  simp [timeAt]

end Sys2Proof.Machine
end

section
/-! The commands of the timebase (R430 to R432). -/

namespace Sys2Proof.Machine

variable {s : State} {c : Caller} {req : Bytes}

theorem execTimebaseConfigure_waits (start : mayStart s c 0x0D01 [] = true) (form : shaped req 16 [(3, 1), (14, 2)] = true)
    (sender : c.pod = 0) (order : rd req 0 1 < 64) (trunk : rd req 1 1 < s.part.trunkLanes) (flags : rd req 2 1 < 8)
    (holdLeast : 1 ≤ rd req 4 4) (holdMost : rd req 4 4 ≤ 86400) (delay : (rdInt req 8 4).natAbs ≤ 1000000)
    (widthLeast : 1 ≤ rd req 12 2) (widthMost : rd req 12 2 ≤ 500) :
    exec (.timebaseConfigure c req) s = Answers c 0x0D01 req St.ok (statusResp St.ok) { s with tmb.nextCfg := some (parseTmbCfg req) } := by
  refine runCmd_answers start form (fun _ => sender) (?_ : timebaseConfigureBody req s = _)
  have ranged : (decide (rd req 0 1 ≥ 64) || decide (rd req 1 1 ≥ s.part.trunkLanes) || decide (rd req 2 1 ≥ 8)
      || decide ((parseTmbCfg req).holdoverS < 1) || decide ((parseTmbCfg req).holdoverS > 86400)
      || decide ((parseTmbCfg req).ppsDelayPs.natAbs > 1000000) || decide ((parseTmbCfg req).ppsWidthMs < 1)
      || decide ((parseTmbCfg req).ppsWidthMs > 500)) = false := by
    have hold : (parseTmbCfg req).holdoverS = rd req 4 4 := rfl
    have pps : (parseTmbCfg req).ppsDelayPs = rdInt req 8 4 ∧ (parseTmbCfg req).ppsWidthMs = rd req 12 2 := ⟨rfl, rfl⟩
    simp only [Bool.or_eq_false_iff, decide_eq_false_iff_not, hold, pps]
    omega
  exact guards_pass ranged

theorem execTimebaseSettimeFull_pending (start : mayStart s c 0x0D02 [] = true) (form : shaped req 16 [(1, 7)] = true) (sender : c.pod = 0)
    (mode : rd req 0 1 = 0) (waits : stepWaits s = true) : exec (.timebaseSettimeFull c req) s =
      Answers c 0x0D02 req St.stepPending (settimeResp St.stepPending 0 0) s :=
  runCmd_answers start (by simp [form, mode]) (fun _ => sender) (if_pos waits)

theorem execTimebaseSettimeSeconds_pending (start : mayStart s c 0x0D02 [] = true) (form : shaped req 16 [(1, 7)] = true)
    (sender : c.pod = 0) (mode : rd req 0 1 = 1) (fraction : rd req 8 4 = 0) (waits : stepWaits s = true) :
    exec (.timebaseSettimeSeconds c req) s = Answers c 0x0D02 req St.stepPending (settimeResp St.stepPending 0 0) s := by
  refine runCmd_answers start (by simp [form, mode]) (fun _ => sender) (?_ : settimeSecondsBody req s = _)
  unfold settimeSecondsBody
  rw [guards_pass (by simp [fraction]), if_pos waits]

theorem execTimebaseSettimeSeconds_waits (start : mayStart s c 0x0D02 [] = true) (form : shaped req 16 [(1, 7)] = true)
    (sender : c.pod = 0) (mode : rd req 0 1 = 1) (fraction : rd req 8 4 = 0) (none : stepWaits s = false) (pps : s.tmb.selected = .pps) :
    exec (.timebaseSettimeSeconds c req) s =
      Answers c 0x0D02 req St.pending (settimeResp St.pending 1 (BitVec.ofNat 64 (rd req 12 4 * 2 ^ 32)))
        { s with tmb.seconds := some (rd req 12 4) } := by
  refine runCmd_answers start (by simp [form, mode]) (fun _ => sender) (?_ : settimeSecondsBody req s = _)
  unfold settimeSecondsBody
  rw [guards_pass (by simp [fraction]), guards_pass none, guards_pass (by simp [pps])]

/-- A time given where no step waits and the host reference is selected, or none: a step or a slew takes the offset away (R432, R422). -/
theorem settimeFullBody_corrects (none : stepWaits s = false) (free : s.tmb.selected = .host ∨ s.tmb.selected = .none) {offset : Int}
    (measured : (tmbNow s - BitVec.ofNat 64 (rd req 8 8)).toInt = offset) :
    ∃ u st resp, settimeFullBody req s = (u, .done st resp) ∧ u.tmb.hostSet = true ∧ u.tmb.offset = offset ∧
      ((s.tmb.valid = false ∨ oneMs ≤ offset.natAbs) → u.tmb.step.map (·.ref) = some .host ∧ u.tmb.slewLeft = 0) ∧
      (s.tmb.valid = true → offset.natAbs < oneMs → u.tmb.step = .none ∧ u.tmb.slewLeft = if offset.natAbs > 429 then -offset else 0) := by
  unfold settimeFullBody
  extract_lets given offset' _ gained stepped start
  rw [guards_pass none, if_neg (by rcases free with h | h <;> simp [h])]
  obtain rfl : offset' = offset := measured
  have kept := gainRef_selecting { s with
    tmb.hostSince := if s.tmb.hostSet then s.tmb.hostSince else s.now, tmb.hostSet := true, tmb.offset := offset' }
  have valid : gained.tmb.valid = s.tmb.valid := kept.scale.2.2.2
  have idle : gained.tmb.step = .none := kept.step (by
    change s.tmb.step = .none
    simp only [stepWaits, Bool.or_eq_false_iff, Option.isSome_eq_false_iff, Option.isNone_iff_eq_none] at none
    exact none.1)
  split
  · next must =>
    refine ⟨_, _, _, rfl, kept.host.1, kept.host.2, fun _ => ⟨rfl, rfl⟩, fun isValid small => ?_⟩
    simp only [mustStep, valid, isValid, Bool.not_true, Bool.false_or, decide_eq_true_eq] at must
    omega
  · next slews =>
    refine ⟨_, _, _, rfl, kept.host.1, kept.host.2, fun cause => absurd ?_ slews, fun _ _ => ⟨idle, rfl⟩⟩
    simp only [mustStep, valid, Bool.or_eq_true, Bool.not_eq_true', decide_eq_true_eq]
    exact cause

end Sys2Proof.Machine
end

section
/-! The obligations of the timebase (O37, O38). -/

namespace Sys2Proof

open Machine

/-- Settles O37, row by row: selections and steps leave the edges of PPS, and a time function starts anew at its origin. -/
theorem referencesDisciplineTime : Obligations.ReferencesDisciplineTime := by
  unfold Obligations.ReferencesDisciplineTime
  refine ⟨?_, fun s p => execPpsEdgeMissing_withdraws, fun s => execTimebaseRenewal_renews, fun s u => execHoldoverExpiry_expires,
    fun s x => execRevertiveDisplace_selects, fun s r new n step => ?_, fun s running => ⟨fun high => ?_, fun low => ?_⟩⟩
  · intro s edge running n span run
    exact ⟨execPpsEdge_counts running, execPpsEdge_qualifies running, execPpsEdge_accepts running, execPpsEdge_ignores running⟩
  · refine ⟨_, execTimeStep_steps step, ?_⟩
    obtain ⟨now, seen, tmb⟩ := doStep_tmb new (advanceTo n s)
    rw [tmbNow_doStep, now, tmb]
    exact ⟨rfl, rfl, rfl, rfl, rfl, rfl, rfl, rfl, rfl⟩
  · rw [exec_ppsOutEdge, execPpsOutEdge, if_neg (by simp [running]), if_pos high]
  · intro u
    rw [exec_ppsOutEdge, execPpsOutEdge, if_neg (by simp [running]), if_neg (by simp [low])]
    rfl

/-- Settles O38, command by command: a selection that the host reference brings leaves the offset and the step. -/
theorem timebaseCommands : Obligations.TimebaseCommands := by
  unfold Obligations.TimebaseCommands
  refine ⟨fun s c req => execTimebaseConfigure_waits, ?_, ?_⟩
  · intro s c req start form sender mode
    refine ⟨execTimebaseSettimeFull_pending start form sender mode, ?_⟩
    intro none free offset
    obtain ⟨u, st, resp, body, facts⟩ := settimeFullBody_corrects (req := req) none free rfl
    obtain ⟨t, next, calm⟩ := answers_next c 0x0D02 req st resp u
    refine ⟨t, (runCmd_answers start (by simp [form, mode]) (fun _ => sender) body).trans next, ?_⟩
    rw [tmb_of_calm calm]
    exact facts
  · intro s c req start form sender mode fraction
    exact ⟨execTimebaseSettimeSeconds_pending start form sender mode fraction,
      execTimebaseSettimeSeconds_waits start form sender mode fraction⟩

end Sys2Proof
end

section
/-! What completions, notifications, seals and the hosted services leave of the management complex (R439, R446, R448, R457): all but the
lanes, the lists of commands and the services' own state; while the firmware runs nothing more is owed. -/

namespace Sys2Proof.Machine

/-- The management complex without the lanes, the lists of commands and the hosted services' state. -/
def Mgmt.core (m : Mgmt) : Mgmt :=
  { m with lanes := [], waiting := [], executing := [], owed := [], schedules := [], shedOps := [], assets := [], reqId := 0 }

/-- Only lanes, lists of commands and the hosted services differ, and nothing more is owed while the firmware runs. -/
structure DeskKept (s t : State) : Prop where
  core : t.mgmt.core = s.mgmt.core
  owed : s.mgmt.fwState = .running → t.mgmt.owed = s.mgmt.owed

namespace DeskKept

variable {s t u : State}

theorem fwState (h : DeskKept s t) : t.mgmt.fwState = s.mgmt.fwState := (congrArg Mgmt.fwState h.core :)

theorem ready (h : DeskKept s t) : t.mgmt.ready = s.mgmt.ready := (congrArg Mgmt.ready h.core :)

theorem restartCount (h : DeskKept s t) : t.mgmt.restartCount = s.mgmt.restartCount := (congrArg Mgmt.restartCount h.core :)

theorem updating (h : DeskKept s t) : t.mgmt.updating = s.mgmt.updating := (congrArg Mgmt.updating h.core :)

theorem nextSlot (h : DeskKept s t) : t.mgmt.nextSlot = s.mgmt.nextSlot := (congrArg Mgmt.nextSlot h.core :)

theorem of_mgmt (h : t.mgmt = s.mgmt) : DeskKept s t := ⟨by rw [h], fun _ => by rw [h]⟩

theorem refl (s : State) : DeskKept s s := .of_mgmt rfl

theorem trans (a : DeskKept s t) (b : DeskKept t u) : DeskKept s u :=
  ⟨b.core.trans a.core, fun runs => (b.owed (a.fwState.trans runs)).trans (a.owed runs)⟩

theorem ite {a b : State} {p : Prop} [Decidable p] (ha : DeskKept s a) (hb : DeskKept s b) : DeskKept s (if p then a else b) := by
  split <;> assumption

theorem foldl {α : Type} {f : State → α → State} (h : ∀ s x, DeskKept s (f s x)) (l : List α) (s : State) : DeskKept s (l.foldl f s) := by
  induction l generalizing s with
  | nil => exact refl s
  | cons x l ih => exact (h s x).trans (ih _)

end DeskKept

variable {s t : State}

/-! ### Records, completions and notifications -/

theorem updMbxLane_desk (n l : Nat) (f : MbxLane → MbxLane) (s : State) : DeskKept s (updMbxLane n l f s) := ⟨rfl, fun _ => rfl⟩

theorem mbxFault_desk (n l : Nat) (s : State) : DeskKept s (mbxFault n l s) := updMbxLane_desk ..

theorem writeRecord_desk {n l : Nat} {r : Bytes} {raiseIt : Bool} (h : writeRecord n l r raiseIt s = some t) : DeskKept s t := by
  unfold writeRecord at h
  split at h
  · cases h
  · cases h
    exact (DeskKept.of_mgmt (hostWrite_mgmt ..)).trans ((updMbxLane_desk ..).trans (.ite (.of_mgmt (sendMsix_mgmt ..)) (.refl _)))

theorem postRecord_desk (n l : Nat) (r : Bytes) (raiseIt : Bool) (s : State) : DeskKept s (postRecord n l r raiseIt s) := by
  unfold postRecord
  dsimp only
  split
  · exact updMbxLane_desk ..
  · split
    · next written => exact writeRecord_desk written
    · exact (mbxFault_desk ..).trans (updMbxLane_desk ..)

theorem writeResponse_desk (c : Caller) (resp : Bytes) (s : State) : DeskKept s (writeResponse c resp s).1 := by
  unfold writeResponse
  split
  · exact .refl s
  · split
    · exact .of_mgmt (hostWrite_mgmt ..)
    · exact mbxFault_desk ..

theorem forget_desk (c : Caller) (s : State) : DeskKept s (forget c s) := ⟨rfl, fun _ => rfl⟩

theorem completeNow_desk (c : Caller) (st : Status) (resp : Bytes) (s : State) : DeskKept s (completeNow c st resp s) := by
  unfold completeNow
  refine ((writeResponse_desk c resp s).trans (forget_desk c _)).trans (.trans (postRecord_desk ..) (.ite ?_ (.refl _)))
  exact (updMbxLane_desk ..).trans ((DeskKept.of_mgmt (bump_mgmt ..)).trans (.of_mgmt (count_mgmt ..)))

theorem mirrorConfig_mgmt (k : Cmd) (st : Status) (s : State) : (mirrorConfig k st s).mgmt = s.mgmt := mgmt_if rfl rfl

theorem mirrorHeld_mgmt (c : Caller) (st : Status) (s : State) : (mirrorHeld c st s).mgmt = s.mgmt := by
  unfold mirrorHeld
  split
  · exact mirrorConfig_mgmt ..
  · rfl

theorem complete_desk (c : Caller) (st : Status) (resp : Bytes) (s : State) : DeskKept s (complete c st resp s) := by
  refine (DeskKept.of_mgmt (mirrorHeld_mgmt c st s)).trans ?_
  unfold complete
  extract_lets u
  split
  · exact forget_desk ..
  · split
    · exact completeNow_desk ..
    · next restarts => exact ⟨rfl, fun runs => by rw [runs] at restarts; cases restarts⟩
    · exact .refl _
    · exact .refl _

theorem deliverNotice_desk (c : Caller) (n : Notice) (s : State) : DeskKept s (deliverNotice c n s) :=
  (writeResponse_desk ..).trans ((updMbxLane_desk ..).trans (postRecord_desk ..))

theorem notify_desk (n l code : Nat) (body : Bytes) (s : State) : DeskKept s (notify n l code body s) := by
  unfold notify
  dsimp only
  split
  · exact updMbxLane_desk ..
  · split
    · exact (updMbxLane_desk ..).trans (deliverNotice_desk ..)
    · exact .ite (updMbxLane_desk ..) (updMbxLane_desk ..)

/-! ### Seals that end -/

theorem cphRecord_mgmt (p r kind : Nat) (e : JobEnd) (tag : Nat) (raiseIt : Bool) (s : State) :
    (cphRecord p r kind e tag raiseIt s).mgmt = s.mgmt :=
  mgmt_if rfl ((mgmt_if (sendMsix_mgmt ..) rfl).trans (hostWrite_mgmt ..))

theorem flushRing_mgmt (p r n : Nat) (s : State) : (flushRing p r n s).mgmt = s.mgmt := by
  induction n generalizing s with
  | zero => rfl
  | succ n ih =>
    unfold flushRing
    split
    · rfl
    · split
      · rfl
      · exact (ih _).trans (cphRecord_mgmt ..)

theorem sealEnds_desk (n : Nat) (f : Flight) (st : Status) (nonce : Bytes) (bytes : Nat) (s : State) :
    DeskKept s (sealEnds n f st nonce bytes s) := by
  unfold sealEnds
  split
  · exact .refl s
  · exact .refl s
  · exact (complete_desk ..).trans (.ite (mbxFault_desk ..) (.refl _))
  · split
    · exact .refl s
    · extract_lets settled ended
      have kept : DeskKept s settled := .ite (.refl s) (.of_mgmt rfl)
      have flushed : DeskKept settled ended := .of_mgmt (flushRing_mgmt ..)
      exact (kept.trans flushed).trans (.ite (.of_mgmt rfl) (.refl _))

theorem postOutcome_desk (n : Nat) (f : Flight) (st : Status) (s : State) : DeskKept s (postOutcome n f st s) := by
  unfold postOutcome
  split
  · exact .refl s
  · split
    · exact .refl s
    · exact notify_desk ..
    · exact .of_mgmt (cphRecord_mgmt ..)

theorem releaseFlight_desk (n : Nat) (st : Status) (s : State) : DeskKept s (releaseFlight n st s) := by
  unfold releaseFlight
  extract_lets f _ taken queued counted checked ended
  have freed : DeskKept s queued := .of_mgmt rfl
  have told : DeskKept queued counted := .ite (.refl _) (.of_mgmt (count_mgmt ..))
  have tagged : DeskKept counted ended := .of_mgmt ((tagEnd_mgmt ..).trans rfl)
  exact .ite (.refl s) (((freed.trans told).trans tagged).trans (postOutcome_desk ..))

theorem failSeal_desk (n : Nat) (st : Status) (s : State) : DeskKept s (failSeal n st s) :=
  .ite (.refl s) ((releaseFlight_desk ..).trans (sealEnds_desk ..))

theorem endUncommitted_desk (c : Caller) (st : Status) (s : State) : DeskKept s (endUncommitted c st s) := by
  unfold endUncommitted
  dsimp only
  split
  · exact failSeal_desk ..
  · exact complete_desk ..

/-! ### The end of a restart -/

theorem restartLaneLists_desk (i : Nat) (s : State) : DeskKept s (restartLaneLists i s) :=
  (updMbxLane_desk ..).trans (.foldl (fun _ _ => complete_desk ..) _ _)

theorem serviceAsk_desk (svc cls : Nat) (eps : List Nat) (body : Bytes) (s : State) : DeskKept s (serviceAsk svc cls eps body s).1 := by
  obtain ⟨t, asks, mgmt⟩ := serviceAsk_takes svc cls eps body s
  rw [asks]
  exact ⟨by rw [mgmt]; rfl, fun _ => by rw [mgmt]⟩

theorem resumeServices_desk (s : State) : DeskKept s (resumeServices s) := by
  have sets {u v : State} (h : DeskKept u v) (schedules shedOps assets) :
      DeskKept u { v with mgmt.schedules := schedules, mgmt.shedOps := shedOps, mgmt.assets := assets } :=
    h.trans ⟨rfl, fun _ => rfl⟩
  unfold resumeServices
  refine .trans (.trans (.foldl (fun u e => ?_) _ s) (.foldl (fun u i => ?_) _ _)) (.foldl (fun u e => ?_) _ _)
  · exact .ite (.refl u) (sets (serviceAsk_desk ..) _ _ _)
  · dsimp only
    split
    · exact .refl u
    · exact .ite (.refl u) (sets (serviceAsk_desk ..) _ _ _)
  · exact .ite (.refl u) (sets (serviceAsk_desk ..) _ _ _)

theorem mirrorEp_mgmt (e : Nat) (s : State) : (mirrorEp e s).mgmt = s.mgmt := mgmt_if rfl rfl

theorem admitEndpoint_mgmt (ep p pod_ eui : Nat) (s : State) : (admitEndpoint ep p pod_ eui s).1.mgmt = s.mgmt := by
  have mirrored (f : Endpoint → Endpoint) : (mirrorEp ep (updEndpoint ep f s)).mgmt = s.mgmt := mirrorEp_mgmt ..
  unfold admitEndpoint
  dsimp only
  split
  · split
    · rfl
    · split
      · rfl
      · exact mirrored _
  · split
    · rfl
    · split
      · rfl
      · exact mirrored _

theorem serveJoin_desk (p : Nat) (msg : Bytes) (s : State) : DeskKept s (serveJoin p msg s) := by
  unfold serveJoin
  dsimp only
  split
  · exact .of_mgmt (admitEndpoint_mgmt ..)
  · exact notify_desk ..

theorem resumeJoins_desk (s : State) : DeskKept s (resumeJoins s) := by
  have each (u : State) (e : Nat × Nat × Reasm) : DeskKept u (serveJoin e.2.2.port e.2.2.data (releaseReasm e.2.1 u)) :=
    .trans (t := releaseReasm e.2.1 u) (.of_mgmt rfl) (serveJoin_desk ..)
  exact .foldl each _ s

end Sys2Proof.Machine
end

section
/-! Shedding, restarts and halts of the firmware (R444, R447 to R449). -/

namespace Sys2Proof.Machine

variable {s t : State}

theorem execSheddingEntry_sheds {loads : List Nat} (runs : s.mgmt.fwState = .running) (idle : s.mgmt.shedding = false)
    (cause : (loads.length = 4 ∧ ∀ x ∈ loads, 0xE6 ≤ x ∧ x < 256) ∨ 256 < s.mgmt.waiting.length) :
    ∃ t, execSheddingEntry loads s = .next t ∧ t.mgmt.shedding = true ∧ t.mgmt.load = loadOf loads := by
  have reason : ((loads.length == 4 && loads.all (fun l => decide (l ≥ 0xE6) && decide (l < 256))) || decide (waitingCount s > 256)) = true := by
    simpa [waitingCount] using cause
  unfold execSheddingEntry
  extract_lets high _ shed
  rw [show high = _ from rfl, reason, guards_pass (by simp [runs, idle])]
  have ends (l : List Caller) : DeskKept shed (l.foldl (fun s c => endUncommitted c St.busy s) shed) :=
    .foldl (fun _ _ => endUncommitted_desk ..) l shed
  have core := (ends ((uncommitted shed).filter (fun c => c.lane == 2))).core
  rw [show shed.mgmt = _ from raiseSys_mgmt ..] at core
  exact ⟨_, rfl, (congrArg Mgmt.shedding core :), (congrArg Mgmt.load core :)⟩

theorem execSheddingExit_ends {loads : List Nat} (runs : s.mgmt.fwState = .running) (sheds : s.mgmt.shedding = true)
    (four : loads.length = 4) (low : ∀ x ∈ loads, x < 0xB3) (few : s.mgmt.waiting.length < 128) :
    ∃ t, execSheddingExit loads s = .next t ∧ t.mgmt.shedding = false ∧ t.mgmt.load = loadOf loads ∧ t.mgmt.waiting = s.mgmt.waiting := by
  have reason : (loads.length == 4 && loads.all (fun l => decide (l < 0xB3))) = true := by simpa [four] using low
  unfold execSheddingExit
  dsimp only
  rw [reason, guards_pass (by simp [runs, sheds, waitingCount, few])]
  refine ⟨_, rfl, ?_⟩
  rw [raiseSys_mgmt]
  exact ⟨rfl, rfl, rfl⟩

/-- The restarts begun within the last 10 s (R449). -/
def recentRestarts (s : State) : List Nat := s.mgmt.restartTimes.filter (fun t => decide (s.now < t + secs 10))

theorem startRestart_mgmt (cause : Nat) (s : State) : (startRestart cause s).mgmt = { s.mgmt with
    fwState := .restarting, ready := false, load := 0, restartCount := s.mgmt.restartCount + 1, restartCause := BitVec.ofNat 8 cause,
    restartSeen := true, updating := none } := raiseSys_mgmt ..

/-- A trigger with fewer than three restarts in 10 s restarts the firmware (R447, R449). -/
theorem trigger_restarts (cause : Nat) (running : Running s) (jumped : s.mgmt.jumped = true) (on : s.mgmt.fwState ≠ .halted)
    (few : (recentRestarts s).length < 3) :
    trigger cause s = startRestart cause { s with mgmt.restartTimes := recentRestarts s ++ [s.now] } := by
  unfold trigger
  rw [if_neg (by simp [running, jumped, on])]
  exact if_neg (Nat.not_le.mpr few)

theorem roleFailing_mgmt (s : State) : (roleFailing s).mgmt = s.mgmt := by
  have told (u : State) : (pairEvent u).mgmt = u.mgmt := by
    unfold pairEvent raiseTrunk raise raiseRec
    split
    · rfl
    · split
      · rfl
      · exact (startWindow_mgmt ..).trans (issueF_mgmt ..)
  exact mgmt_if (told _) rfl

/-- The active device of a pair fails (R545). -/
theorem roleFailing_fails (active : s.trk.pair.role = .active) : (roleFailing s).trk.pair.role = .failing := by
  rw [roleFailing, if_pos active, pairEvent_trk]
  rfl

/-- A fourth trigger within 10 s halts the firmware, on which the active device of a pair fails (R449, R545). -/
theorem trigger_halts (cause : Nat) (running : Running s) (jumped : s.mgmt.jumped = true) (on : s.mgmt.fwState ≠ .halted)
    (many : 3 ≤ (recentRestarts s).length) : (trigger cause s).mgmt.fwState = .halted ∧ (trigger cause s).mgmt.ready = false ∧
      (trigger cause s).mgmt.restartCount = s.mgmt.restartCount ∧
      (s.trk.pair.role = .active → (trigger cause s).trk.pair.role = .failing) := by
  have halts : trigger cause s = roleFailing (raiseSys 15 1 0 0 { s with mgmt.fwState := .halted, mgmt.ready := false, mgmt.load := 0 }) := by
    unfold trigger
    rw [if_neg (by simp [running, jumped, on])]
    exact if_pos many
  rw [halts, roleFailing_mgmt, raiseSys_mgmt]
  exact ⟨rfl, rfl, rfl, fun active => roleFailing_fails (by rw [raiseSys_trk]; exact active)⟩

theorem execWatchdogExpiry_triggers (running : Running s) (jumped : s.mgmt.jumped = true) (on : s.mgmt.fwState ≠ .halted) :
    execWatchdogExpiry s = .next (trigger 1 { s with mgmt.expiries := satAdd s.mgmt.expiries 1 }) := by
  rw [execWatchdogExpiry, if_neg (by simp [running, jumped, on])]

/-- A restart that ends: the firmware runs, and owes nothing (R447, R448). -/
theorem execFirmwareRestartComplete_runs (restarts : s.mgmt.fwState = .restarting) :
    ∃ t, execFirmwareRestartComplete s = .next t ∧ t.mgmt.fwState = .running ∧ t.mgmt.ready = true ∧ t.mgmt.owed = [] ∧
      t.mgmt.restartCount = s.mgmt.restartCount := by
  unfold execFirmwareRestartComplete
  rw [if_neg (by simp [restarts])]
  extract_lets open_ owed _ runs written ended
  have kept : DeskKept runs (resumeJoins (resumeServices ((ended.mgmt.lanes.map (·.1)).foldl (fun s i => restartLaneLists i s) ended))) :=
    (DeskKept.foldl (fun _ _ => complete_desk ..) owed runs).trans
      ((DeskKept.foldl (fun _ _ => endUncommitted_desk ..) open_ written).trans
        ((DeskKept.foldl (fun _ _ => restartLaneLists_desk ..) _ _).trans ((resumeServices_desk _).trans (resumeJoins_desk _))))
  generalize resumeJoins (resumeServices ((ended.mgmt.lanes.map (·.1)).foldl (fun s i => restartLaneLists i s) ended)) = t at kept ⊢
  exact ⟨t, rfl, kept.fwState, kept.ready, kept.owed rfl, kept.restartCount⟩

end Sys2Proof.Machine
end

section
/-! The firmware's images (R460, R461). -/

namespace Sys2Proof.Machine

variable {s : State} {c : Caller} {req : Bytes}

theorem execFwUpdateBegin_erases (start : mayStart s c 0x0E06 [.image] = true) (form : shaped req 24 [(1, 3), (12, 4)] = true)
    (sender : c.pod = 0) (stage : rd req 0 1 = 0) (zero : rd req 4 8 = 0) (idle : s.mgmt.updating = none) :
    exec (.fwUpdateBegin c req) s = Answers c 0x0E06 req St.ok (statusResp St.ok)
      (emit (.flash (otherSlot s) 0 []) (updSlot (otherSlot s) (fun _ => { torn := true }) { s with mgmt.updating := some 0 })) := by
  refine runCmd_answers start (by simp [form, stage]) (fun _ => sender) (?_ : fwUpdateBeginBody req s = _)
  unfold fwUpdateBeginBody
  rw [guards_pass (by simp [zero]), guards_pass (by simp [idle])]
  rfl

/-- What the write of a chunk leaves before its completion (R460). -/
def chunkWritten (s : State) (off len n : Nat) (data : Bytes) : State :=
  emit (.flash (otherSlot s) off (data.take len)) { count 0x0010 { pod := some 0 } len s with mgmt.updating := some (max n (off + len)) }

theorem fwUpdateWriteBody_writes {n : Nat} {data : Bytes} (aligned : rd req 4 4 % 256 = 0) (least : 256 ≤ rd req 8 4)
    (most : rd req 8 4 ≤ 65536) (within : rd req 4 4 + rd req 8 4 ≤ 2097152) (updating : s.mgmt.updating = some n)
    (read : c.io.data = some data) : fwUpdateWriteBody c req s = answer St.ok (chunkWritten s (rd req 4 4) (rd req 8 4) n data) := by
  unfold fwUpdateWriteBody
  extract_lets off len counted
  have ranged : (off % 256 != 0 || decide (len < 256) || decide (len > 65536) || decide (off + len > 2097152)) = false := by
    simp only [Bool.or_eq_false_iff, bne_eq_false_iff_eq, decide_eq_false_iff_not, off, len]
    omega
  have slot : otherSlot counted = otherSlot s := by rw [otherSlot, count_mgmt, otherSlot]
  rw [guards_pass ranged, updating, read]
  simp only [slot]
  rfl

theorem execFwUpdateWrite_writes {n : Nat} {data : Bytes} (start : mayStart s c 0x0E06 [.image] = true)
    (form : shaped req 24 [(1, 3), (12, 4)] = true) (sender : c.pod = 0) (stage : rd req 0 1 = 1) (aligned : rd req 4 4 % 256 = 0)
    (least : 256 ≤ rd req 8 4) (most : rd req 8 4 ≤ 65536) (within : rd req 4 4 + rd req 8 4 ≤ 2097152)
    (updating : s.mgmt.updating = some n) (read : c.io.data = some data) :
    ∃ t, exec (.fwUpdateWrite c req) s = .next t ∧ t.mgmt.updating = some (max n (rd req 4 4 + rd req 8 4)) ∧
      Output.flash (otherSlot s) (rd req 4 4) (data.take (rd req 8 4)) ∈ t.out ∧ t.mgmt.nextSlot = s.mgmt.nextSlot := by
  have body := fwUpdateWriteBody_writes (s := s) aligned least most within updating read
  have answers : exec (.fwUpdateWrite c req) s = _ := runCmd_answers start (by simp [form, stage]) (fun _ => sender) body
  have desk := (DeskKept.of_mgmt (mirrorConfig_mgmt { caller := c, code := 0x0E06, req := req } St.ok
    (chunkWritten s (rd req 4 4) (rd req 8 4) n data))).trans (complete_desk c St.ok (statusResp St.ok) _)
  have out := ((mirrorConfig_quiet { caller := c, code := 0x0E06, req := req } St.ok
    (chunkWritten s (rd req 4 4) (rd req 8 4) n data)).trans (complete_quiet c St.ok (statusResp St.ok) _)).out
  have slot : (chunkWritten s (rd req 4 4) (rd req 8 4) n data).mgmt.nextSlot = s.mgmt.nextSlot :=
    (congrArg Mgmt.nextSlot (count_mgmt 0x0010 { pod := some 0 } (rd req 8 4) s) :)
  exact ⟨_, answers, desk.updating, out.subset (List.mem_append_right _ (List.mem_singleton_self _)), desk.nextSlot.trans slot⟩

/-- A staged image of the length given, by its check (R460). -/
theorem execFwUpdateFinish_checks {v : ImageView} (start : mayStart s c 0x0E06 [.image] = true)
    (form : shaped req 24 [(1, 3), (12, 4)] = true) (sender : c.pod = 0) (stage : rd req 0 1 = 2) (zero : rd req 4 4 = 0)
    (updating : s.mgmt.updating.isSome = true) (image : c.io.image = some v) (length : v.length = rd req 8 4) :
    (imageOk s v = true → exec (.fwUpdateFinish c req) s = Answers c 0x0E06 req St.ok (statusResp St.ok)
      (markNext (otherSlot s) (updSlot (otherSlot s) (fun _ => { version := some (BitVec.ofNat 16 v.version) })
        { s with mgmt.updating := none }))) ∧
    (imageOk s v = false → exec (.fwUpdateFinish c req) s = Answers c 0x0E06 req St.imageInvalid (statusResp St.imageInvalid)
      { s with mgmt.updating := none }) := by
  have body : fwUpdateFinishBody c req s = match c.io.image.filter (fun v => imageOk s v && v.length == rd req 8 4) with
      | none => answer St.imageInvalid { s with mgmt.updating := none }
      | some v => answer St.ok (markNext (otherSlot s) (updSlot (otherSlot s) (fun _ => { version := some (BitVec.ofNat 16 v.version) })
          { s with mgmt.updating := none })) := by
    unfold fwUpdateFinishBody
    rw [guards_pass (by simp [zero]), guards_pass (by simpa using updating)]
    rfl
  refine ⟨fun good => ?_, fun bad => ?_⟩
  · rw [image, Option.filter_some_pos (by simp [good, length])] at body
    exact runCmd_answers start (by simp [form, stage]) (fun _ => sender) body
  · rw [image, Option.filter_some_neg (by simp [bad])] at body
    exact runCmd_answers start (by simp [form, stage]) (fun _ => sender) body

/-- The image of the next boot taken into service, before the restart (R461). -/
def imageTaken (s : State) (v : ImageView) : State :=
  { s with mgmt.runningSlot := s.mgmt.nextSlot, sec.bootSlot := s.mgmt.nextSlot, sec.runSecver := v.secver, sec.runKey := v.keyIndex,
           sec.bootFallback := false, mgmt.fwVersion := BitVec.ofNat 16 v.version }

theorem fwActivateBody_restarts {v : ImageView} (image : c.io.image = some v) (good : imageOk s v = true)
    (whole : (flashSlot s s.mgmt.nextSlot).torn = false) (format : v.stateFormat = s.mgmt.stateFormat.toNat) :
    fwActivateBody c s = answer St.ok (startRestart 2 (imageTaken s v)) := by
  unfold fwActivateBody
  rw [image, Option.filter_some_pos (by simp [good, whole])]
  exact guards_pass (by simp [format])

/-- A command that completes during a restart is owed its record (R448). -/
theorem complete_owes {st : Status} {resp : Bytes} (here : c.gone = false) (restarts : s.mgmt.fwState = .restarting) :
    (complete c st resp s).mgmt.owed = s.mgmt.owed ++ [(c, st, resp)] := by
  unfold complete
  dsimp only
  rw [guards_pass here, mirrorHeld_mgmt, restarts]

theorem execFwActivate_restarts {v : ImageView} (start : mayStart s c 0x0E07 [.image] = true) (form : shaped req 8 [(0, 8)] = true)
    (sender : c.pod = 0) (here : c.gone = false) (image : c.io.image = some v) (good : imageOk s v = true)
    (whole : (flashSlot s s.mgmt.nextSlot).torn = false) (format : v.stateFormat = s.mgmt.stateFormat.toNat) :
    ∃ t, exec (.fwActivate c req) s = .next t ∧ t.mgmt.runningSlot = s.mgmt.nextSlot ∧ t.mgmt.fwVersion = BitVec.ofNat 16 v.version ∧
      t.mgmt.fwState = .restarting ∧ t.mgmt.ready = false ∧ t.mgmt.restartCause = 2 ∧ t.mgmt.updating = none ∧
      t.mgmt.owed = s.mgmt.owed ++ [(c, St.ok, statusResp St.ok)] := by
  let u := mirrorConfig { caller := c, code := 0x0E07, req := req } St.ok (startRestart 2 (imageTaken s v))
  have mgmt : u.mgmt = { (imageTaken s v).mgmt with
      fwState := .restarting, ready := false, load := 0, restartCount := s.mgmt.restartCount + 1, restartCause := 2, restartSeen := true,
      updating := none } := (mirrorConfig_mgmt ..).trans (startRestart_mgmt ..)
  have core := (complete_desk c St.ok (statusResp St.ok) u).core
  rw [mgmt] at core
  refine ⟨complete c St.ok (statusResp St.ok) u, runCmd_answers start form (fun _ => sender) (fwActivateBody_restarts image good whole format),
    (congrArg Mgmt.runningSlot core :), (congrArg Mgmt.fwVersion core :), (congrArg Mgmt.fwState core :), (congrArg Mgmt.ready core :),
    (congrArg Mgmt.restartCause core :), (congrArg Mgmt.updating core :), ?_⟩
  rw [complete_owes here (by rw [mgmt]), mgmt]
  rfl

end Sys2Proof.Machine
end

section
/-! The obligations of the firmware (O40, O41). -/

namespace Sys2Proof

open Machine

/-- Settles O40: what ends a restart and what sheds completes commands, which leaves the firmware's own state. -/
theorem firmwareRestartsAndSheds : Obligations.FirmwareRestartsAndSheds := by
  unfold Obligations.FirmwareRestartsAndSheds
  refine ⟨fun s loads runs => ⟨execSheddingEntry_sheds runs, execSheddingExit_ends runs⟩, fun s running jumped on => ?_,
    fun s => execFirmwareRestartComplete_runs⟩
  refine ⟨fun few => ⟨⟨_, execWatchdogExpiry_triggers running jumped on, ?_⟩, ⟨_, rfl, ?_⟩⟩, ?_⟩
  · rw [trigger_restarts (s := { s with mgmt.expiries := satAdd s.mgmt.expiries 1 }) 1 running jumped on few, startRestart_mgmt]
    exact ⟨rfl, rfl, rfl, rfl, rfl, rfl, rfl, rfl⟩
  · rw [trigger_restarts 3 running jumped on few, startRestart_mgmt]
    exact ⟨rfl, rfl, rfl, rfl, rfl⟩
  · rintro many i (rfl | rfl)
    · exact ⟨_, execWatchdogExpiry_triggers running jumped on,
        trigger_halts (s := { s with mgmt.expiries := satAdd s.mgmt.expiries 1 }) 1 running jumped on many⟩
    · exact ⟨_, rfl, trigger_halts 3 running jumped on many⟩

/-- Settles O41, stage by stage. -/
theorem firmwareImages : Obligations.FirmwareImages := by
  unfold Obligations.FirmwareImages
  refine ⟨?_, fun s c req start form sender => ⟨?_, ?_, ?_⟩,
    fun s c req v => execFwActivate_restarts⟩
  · intro s c req start form
    exact runCmd_answers (body := fun s => (s, .done St.ok (fwInfoResp s))) start form (by simp) rfl
  · exact execFwUpdateBegin_erases start form sender
  · exact fun stage n data => execFwUpdateWrite_writes start form sender stage
  · exact fun stage v => execFwUpdateFinish_checks start form sender stage

end Sys2Proof
end

section
/-! The lanes of the mailbox: what a record, a response and a fault leave of a lane's lists, and the records kept behind a fault
(R436, R440, R446). -/

namespace Sys2Proof.Machine

variable {s t u : State} {p l : Nat}

theorem mbxLane_of_mgmt (h : t.mgmt = s.mgmt) (p l : Nat) : mbxLane t p l = mbxLane s p l := by rw [mbxLane, h, mbxLane]

@[simp] theorem mbxLane_updMbxLane_self (p l : Nat) (f : MbxLane → MbxLane) (s : State) : mbxLane (updMbxLane p l f s) p l = f (mbxLane s p l) :=
  tget_tset_self ..

/-- The listens, the queued notifications and the count of lost ones of every lane are as before. -/
structure ListsKept (s t : State) : Prop where
  listens : ∀ p l, (mbxLane t p l).listens = (mbxLane s p l).listens
  queued : ∀ p l, (mbxLane t p l).queued = (mbxLane s p l).queued
  lost : ∀ p l, (mbxLane t p l).lost = (mbxLane s p l).lost

namespace ListsKept

theorem of_mgmt (h : t.mgmt = s.mgmt) : ListsKept s t :=
  ⟨fun p l => by rw [mbxLane_of_mgmt h], fun p l => by rw [mbxLane_of_mgmt h], fun p l => by rw [mbxLane_of_mgmt h]⟩

theorem refl (s : State) : ListsKept s s := .of_mgmt rfl

theorem trans (a : ListsKept s t) (b : ListsKept t u) : ListsKept s u :=
  ⟨fun p l => (b.listens p l).trans (a.listens p l), fun p l => (b.queued p l).trans (a.queued p l),
    fun p l => (b.lost p l).trans (a.lost p l)⟩

theorem ite {a b : State} {p : Prop} [Decidable p] (ha : ListsKept s a) (hb : ListsKept s b) : ListsKept s (if p then a else b) := by
  split <;> assumption

theorem updMbxLane (p l : Nat) {f : MbxLane → MbxLane} (s : State)
    (h : ∀ x, (f x).listens = x.listens ∧ (f x).queued = x.queued ∧ (f x).lost = x.lost) : ListsKept s (updMbxLane p l f s) := by
  have each (q m : Nat) : mbxLane (Machine.updMbxLane p l f s) q m = f (mbxLane s q m) ∨
      mbxLane (Machine.updMbxLane p l f s) q m = mbxLane s q m := by
    by_cases same : 3 * q + m = 3 * p + l
    · left
      have here : mbxLane s q m = mbxLane s p l := by rw [mbxLane, same, mbxLane]
      have there : mbxLane (Machine.updMbxLane p l f s) q m = mbxLane (Machine.updMbxLane p l f s) p l := by rw [mbxLane, same, mbxLane]
      rw [here, there, mbxLane_updMbxLane_self]
    · exact .inr (tget_tset_other _ _ _ same)
  constructor <;> intro q m <;> rcases each q m with e | e <;> rw [e]
  · exact (h _).1
  · exact (h _).2.1
  · exact (h _).2.2

end ListsKept

theorem mbxFault_lists (p l : Nat) (s : State) : ListsKept s (mbxFault p l s) := .updMbxLane p l s fun _ => ⟨rfl, rfl, rfl⟩

theorem hostOk_of_calm (h : t.calm = s.calm) (p : Nat) : hostOk t p = hostOk s p := by
  have link : t.host.linkUp = s.host.linkUp := congrArg Calm.linkUp h
  have enable : t.host.vfEnable = s.host.vfEnable := congrArg Calm.vfEnable h
  have count : t.host.numVfs = s.host.numVfs := congrArg Calm.numVfs h
  have off : t.host.bmeOff = s.host.bmeOff := congrArg Calm.bmeOff h
  unfold hostOk fnExists
  rw [link, enable, count, off]

/-- A record written: its place in the completion ring, which advances (R439). -/
theorem writeRecord_writes {r : Bytes} {raiseIt : Bool} (host : hostOk s p = true) :
    ∃ t, writeRecord p l r raiseIt s = some t ∧ t.calm = s.calm ∧
      t.mgmt = (updMbxLane p l (fun x => { x with cmplProd := x.cmplProd + 1 }) s).mgmt := by
  unfold writeRecord
  rw [if_neg (by simp [host])]
  refine ⟨_, rfl, ?_, ?_⟩
  · simp
  · refine (mgmt_if (sendMsix_mgmt ..) rfl).trans ?_
    rw [updMbxLane_mgmt, updMbxLane_mgmt, mbxLane_of_mgmt (hostWrite_mgmt ..), hostWrite_mgmt]

theorem writeRecord_lists {r : Bytes} {raiseIt : Bool} (h : writeRecord p l r raiseIt s = some t) : ListsKept s t := by
  by_cases host : hostOk s p = true
  · obtain ⟨v, writes, -, mgmt⟩ := writeRecord_writes (r := r) (l := l) (raiseIt := raiseIt) host
    rw [h] at writes
    cases writes
    exact (ListsKept.updMbxLane p l (f := fun x => { x with cmplProd := x.cmplProd + 1 }) s fun _ => ⟨rfl, rfl, rfl⟩).trans
      (.of_mgmt mgmt)
  · rw [writeRecord, if_pos (by simpa using host)] at h
    cases h

theorem postRecord_lists (p l : Nat) (r : Bytes) (raiseIt : Bool) (s : State) : ListsKept s (postRecord p l r raiseIt s) := by
  have keeps (u : State) : ListsKept u (updMbxLane p l (fun x => { x with kept := x.kept ++ [(r, raiseIt)] }) u) :=
    .updMbxLane p l u fun _ => ⟨rfl, rfl, rfl⟩
  unfold postRecord
  dsimp only
  split
  · exact keeps s
  · split
    · next written => exact writeRecord_lists written
    · exact (mbxFault_lists p l s).trans (keeps _)

theorem writeResponse_lists (c : Caller) (resp : Bytes) (s : State) : ListsKept s (writeResponse c resp s).1 := by
  unfold writeResponse
  split
  · exact .refl s
  · split
    · exact .of_mgmt (hostWrite_mgmt ..)
    · exact mbxFault_lists ..

theorem forget_lists (c : Caller) (s : State) : ListsKept s (forget c s) := ⟨fun _ _ => rfl, fun _ _ => rfl, fun _ _ => rfl⟩

/-- A notification delivered starts the count of lost ones again, and leaves the lane's lists (R446). -/
theorem deliverNotice_lane (c : Caller) (n : Notice) (s : State) :
    (mbxLane (deliverNotice c n s) c.pod c.lane).listens = (mbxLane s c.pod c.lane).listens ∧
    (mbxLane (deliverNotice c n s) c.pod c.lane).queued = (mbxLane s c.pod c.lane).queued ∧
    (mbxLane (deliverNotice c n s) c.pod c.lane).lost = 0 := by
  have answered := writeResponse_lists c (noticeResp n (mbxLane s c.pod c.lane).lost.toNat) s
  unfold deliverNotice
  extract_lets lost resp
  have posted := postRecord_lists c.pod c.lane (recordBytes St.ok 1 (writeResponse c resp s).2 c.tag resp) c.raise
    (updMbxLane c.pod c.lane (fun x => { x with lost := 0 }) (writeResponse c resp s).1)
  rw [posted.listens, posted.queued, posted.lost, mbxLane_updMbxLane_self]
  exact ⟨answered.listens .., answered.queued .., rfl⟩

/-- The records kept are written, oldest first, while the host can be written (R440). -/
theorem writeKept_writes {ks : List (Bytes × Bool)} (kept : (mbxLane s p l).kept = ks) (host : ks = [] ∨ hostOk s p = true) :
    (mbxLane (writeKept p l ks.length s) p l).fault = (mbxLane s p l).fault ∧ (mbxLane (writeKept p l ks.length s) p l).kept = [] ∧
      (mbxLane (writeKept p l ks.length s) p l).cmplProd = (mbxLane s p l).cmplProd + BitVec.ofNat 32 ks.length := by
  induction ks generalizing s with
  | nil => exact ⟨rfl, kept, by simp [writeKept]⟩
  | cons k ks ih =>
    obtain ⟨r, raiseIt⟩ := k
    have can : hostOk s p = true := by simpa using host
    obtain ⟨v, writes, calm, mgmt⟩ := writeRecord_writes (r := r) (l := l) (raiseIt := raiseIt) can
    let w := updMbxLane p l (fun x => { x with kept := ks }) v
    have step : writeKept p l (ks.length + 1) s = writeKept p l ks.length w := by
      rw [writeKept, kept]
      simp only [writes]
      rfl
    have lane : mbxLane w p l = { mbxLane s p l with cmplProd := (mbxLane s p l).cmplProd + 1, kept := ks } := by
      rw [mbxLane_updMbxLane_self, mbxLane_of_mgmt mgmt, mbxLane_updMbxLane_self]
    have reach : hostOk w p = true := (hostOk_of_calm calm p).trans can
    obtain ⟨fault, empty, prod⟩ := ih (s := w) (by rw [lane]) (.inr reach)
    rw [List.length_cons, step, fault, empty, prod, lane]
    refine ⟨rfl, rfl, ?_⟩
    rw [BitVec.add_assoc, Nat.add_comm, BitVec.ofNat_add]
    rfl

end Sys2Proof.Machine
end

section
/-! The mailbox's rows and commands (R436 to R453, R592). -/

namespace Sys2Proof.Machine

variable {s : State} {p l : Nat} {c : Caller} {req : Bytes}

theorem onLaneRegs_open (valid : validLane p l = true) (opened : pageOpen s p = true) (f : State → State) :
    onLaneRegs p l s f = .next (f s) := by
  rw [onLaneRegs, if_neg (by simp [valid]), if_pos opened]

/-- The ring sizes with which a lane enables (R436). -/
def laneSizesOk (x : MbxLane) : Bool :=
  decide (4 ≤ x.sizeLog2.toNat ∧ x.sizeLog2.toNat ≤ 12 ∧ 4 ≤ x.cmplLog2.toNat ∧ x.cmplLog2.toNat ≤ 12)

theorem laneEnable_on (x : MbxLane) : (laneEnable true x).enable = laneSizesOk x ∧ (laneEnable true x).fault = (x.fault || !laneSizesOk x) ∧
    (laneSizesOk x = false → (laneEnable true x).errStatus = St.badParam) := by
  have bad : (decide (x.sizeLog2.toNat < 4) || decide (x.sizeLog2.toNat > 12)
      || (decide (x.cmplLog2.toNat < 4) || decide (x.cmplLog2.toNat > 12))) = !laneSizesOk x := by
    rw [laneSizesOk, Bool.eq_iff_iff]
    simp only [Bool.or_eq_true, decide_eq_true_eq, Bool.not_eq_true', decide_eq_false_iff_not]
    omega
  unfold laneEnable
  dsimp only
  rw [if_neg (by simp), bad]
  cases laneSizesOk x <;> simp

theorem laneReady_unheld (ready : laneReady s p l = true) : laneHeld s p l = false := by
  simp only [laneReady, Bool.and_eq_true, Bool.not_eq_true'] at ready
  tauto

/-- A descriptor that is taken and read starts its command once CONS has passed it, unless admission holds it (R441, R292). -/
theorem execMbxDescriptorTake_takes {d r : Bytes} {io : CmdIo} {u : State} (valid : validLane p l = true) (takes : mayTake s p l = true)
    (host : hostOk s p = true) (serves : standbyStops s (descCaller p l d io) = false) (size : d.length = 64)
    (starts : startTaken p l d r io s = .next u) (free : laneHeld u p l = false) :
    exec (.mbxDescriptorTake p l d r false io) s = startTaken p l d r io (accountTake p l d s) := by
  have whole : (d ++ zeros 64).take 64 = d := List.take_left' size
  rw [exec_mbxDescriptorTake, execMbxDescriptorTake]
  dsimp only
  rw [if_neg (by simp [valid]), whole, if_neg (by simp [takes, serves]), if_neg (by simp [host]), starts]
  exact if_neg (by simp [free])

/-- A descriptor that cannot be read faults the lane (R440). -/
theorem execMbxDescriptorTake_faults {d r : Bytes} {io : CmdIo} (valid : validLane p l = true) (takes : mayTake s p l = true)
    (serves : standbyStops s (descCaller p l d io) = false) (size : d.length = 64) :
    exec (.mbxDescriptorTake p l d r true io) s = .next (mbxFault p l s) := by
  have whole : (d ++ zeros 64).take 64 = d := List.take_left' size
  rw [exec_mbxDescriptorTake, execMbxDescriptorTake]
  dsimp only
  rw [if_neg (by simp [valid]), whole, if_neg (by simp [takes, serves])]
  rfl

/-- A descriptor of an unknown code is taken and ends (R450). -/
theorem startTaken_unknown {d r : Bytes} {io : CmdIo} (unknown : commandOf (rd d 0 2) = none) :
    startTaken p l d r io s = .next (complete (descCaller p l d io) St.unknownCommand [] s) := by
  unfold startTaken
  rw [unknown]

theorem laneHeld_complete (st : Status) (resp : Bytes) : laneHeld (complete c st resp s) p l = laneHeld s p l := by
  rw [laneHeld, complete_lbf, laneHeld]

theorem commandOf_fwInfo : commandOf 0x0E05 = some ⟨0x0E05, 12, execFwInfo⟩ := rfl

theorem execCommandWaitEnd_info {k : Cmd} (waits : s.mgmt.waiting.find? (fun k => sameCaller c k.caller) = some k) (code : k.code = 0x0E05)
    (start : mayStart s { k.caller with io := c.io } 0x0E05 [] = true) (form : shaped k.req 8 [(0, 8)] = true) :
    exec (.commandWaitEnd c) s = Answers { k.caller with io := c.io } 0x0E05 k.req St.ok (fwInfoResp s) s := by
  rw [exec_commandWaitEnd, execCommandWaitEnd, waits]
  simp only [code, commandOf_fwInfo]
  exact runCmd_answers (body := fun s => (s, .done St.ok (fwInfoResp s))) start form (by simp) rfl

/-- A listen that its own meaning takes is no descriptor of the firmware's any more (R446). -/
theorem execMbxListen_takes {u : State} (start : mayStart s c 0x0E02 [] = true) (body : mbxListenBody c s = (u, .untaken)) :
    exec (.mbxListen c []) s = .next (forget c u) := by
  have runs := runCmd_starts (fm := ⟨0x0E02, true, false, []⟩) (req := []) (body := mbxListenBody c) start rfl (by simp)
  rw [body] at runs
  exact congrArg Host.Outcome.next runs

theorem execMbxListen_held (start : mayStart s c 0x0E02 [] = true) (none : (mbxLane s c.pod c.lane).queued = [])
    (room : (mbxLane s c.pod c.lane).listens.length < 8) : ∃ t, exec (.mbxListen c []) s = .next t ∧
      (mbxLane t c.pod c.lane).listens = (mbxLane s c.pod c.lane).listens ++ [c] := by
  have body : mbxListenBody c s =
      (updMbxLane c.pod c.lane (fun x => { x with listens := x.listens ++ [c] }) (forget c s), .untaken) := by
    unfold mbxListenBody
    dsimp only
    rw [none]
    exact if_neg (Nat.not_le.mpr room)
  refine ⟨_, execMbxListen_takes start body, ?_⟩
  rw [(forget_lists ..).listens, mbxLane_updMbxLane_self]
  rfl

theorem execMbxListen_delivers {n : Notice} {rest : List Notice} (start : mayStart s c 0x0E02 [] = true)
    (queued : (mbxLane s c.pod c.lane).queued = n :: rest) : ∃ t, exec (.mbxListen c []) s = .next t ∧
      (mbxLane t c.pod c.lane).queued = rest ∧ (mbxLane t c.pod c.lane).listens = (mbxLane s c.pod c.lane).listens ∧
      (mbxLane t c.pod c.lane).lost = 0 := by
  have body : mbxListenBody c s =
      (deliverNotice c n (updMbxLane c.pod c.lane (fun x => { x with queued := rest }) (forget c s)), .untaken) := by
    unfold mbxListenBody
    dsimp only
    rw [queued]
  obtain ⟨listens, lists, lost⟩ := deliverNotice_lane c n (updMbxLane c.pod c.lane (fun x => { x with queued := rest }) (forget c s))
  rw [mbxLane_updMbxLane_self] at listens lists
  refine ⟨_, execMbxListen_takes start body, ?_⟩
  rw [(forget_lists ..).queued, (forget_lists ..).listens, (forget_lists ..).lost]
  exact ⟨lists, listens, lost⟩

/-- A notification while the firmware runs: to the oldest listen, queued, or lost (R446). -/
theorem execNotificationPost_posts {code : Nat} {text : Bytes} (valid : validLane p l = true) (running : Running s)
    (runs : s.mgmt.fwState = .running) (fits : text.length ≤ 4088) : exec (.notificationPost p l code text) s = .next
      (match (mbxLane s p l).listens with
      | c :: rest => deliverNotice c ⟨code % 65536, text⟩ (updMbxLane p l (fun x => { x with listens := rest }) s)
      | [] => if (mbxLane s p l).queued.length < 64 then updMbxLane p l (fun x => { x with queued := x.queued ++ [⟨code % 65536, text⟩] }) s
        else updMbxLane p l (fun x => { x with lost := satAdd x.lost 1 }) s) := by
  rw [exec_notificationPost, execNotificationPost, if_neg (by simp [valid]), if_neg (by simp [running]), List.take_of_length_le fits, notify,
    if_neg (by simp [runs])] <;> rfl

theorem execMbxCredits_sets (start : mayStart s c 0x0E01 [.pod (rd req 0 1)] = true) (form : shaped req 8 [(4, 4)] = true)
    (sender : c.pod = 0) (fits : rd req 0 1 ≤ 64) (urgent : 1 ≤ rd req 1 1 ∧ rd req 1 1 ≤ 4) (normal : 1 ≤ rd req 2 1 ∧ rd req 2 1 ≤ 32)
    (bulk : 1 ≤ rd req 3 1 ∧ rd req 3 1 ≤ 64) : exec (.mbxCredits c req) s = Answers c 0x0E01 req St.ok (statusResp St.ok)
      { s with
          mgmt.credits := tset s.mgmt.credits (rd req 0 1)
            { urgent := BitVec.ofNat 8 (rd req 1 1), normal := BitVec.ofNat 8 (rd req 2 1), bulk := BitVec.ofNat 8 (rd req 3 1) } } := by
  refine runCmd_answers start form (fun _ => sender) (?_ : mbxCreditsBody req s = _)
  exact guards_pass (by simp only [Bool.or_eq_false_iff, decide_eq_false_iff_not]; omega)

end Sys2Proof.Machine
end

section
/-! The obligation of the mailbox lanes (O39). -/

namespace Sys2Proof

open Machine

/-- Settles O39: the records kept go out by induction on them, and a descriptor's take by what its command does on the state before. -/
theorem mailboxLanesAndTakes : Obligations.MailboxLanesAndTakes := by
  unfold Obligations.MailboxLanesAndTakes
  refine ⟨fun s p l valid opened => ⟨fun v => ?_, fun v => ?_, ?_, ?_, fun host => ?_⟩, ?_, fun s c k => execCommandWaitEnd_info,
    fun s c start => ⟨execMbxListen_held start, fun n rest => execMbxListen_delivers start⟩, ?_, ?_⟩
  · exact onLaneRegs_open valid opened _
  · exact onLaneRegs_open valid opened _
  · exact onLaneRegs_open valid opened _
  · refine ⟨_, onLaneRegs_open valid opened _, ?_⟩
    rw [mbxLane_updMbxLane_self]
    exact laneEnable_on _
  · refine ⟨_, (by rw [exec_mbxFaultClear, execMbxFaultClear]; exact onLaneRegs_open valid opened _), ?_⟩
    have lane := mbxLane_updMbxLane_self p l (fun x => { x with fault := false }) s
    obtain ⟨fault, empty, prod⟩ := writeKept_writes (p := p) (l := l) (s := updMbxLane p l (fun x => { x with fault := false }) s) rfl
      (by rw [lane]; exact host)
    dsimp only
    rw [fault, empty, prod, lane]
    exact ⟨rfl, rfl, rfl⟩
  · intro s p l d r io valid takes host serves size
    refine ⟨execMbxDescriptorTake_faults valid takes serves size, fun unknown => ?_,
      fun u => execMbxDescriptorTake_takes valid takes host serves size⟩
    have free : laneHeld s p l = false := laneReady_unheld (Bool.and_elim_left takes)
    rw [execMbxDescriptorTake_takes valid takes host serves size (startTaken_unknown unknown) (by rw [laneHeld_complete, free]),
      startTaken_unknown unknown]
  · intro s p l code body valid running runs fits
    have posts := execNotificationPost_posts (code := code) valid running runs fits
    refine ⟨fun c rest listens => ?_, fun listens room => ?_, fun listens full => ?_⟩
    · rw [posts, listens]
    · rw [posts, listens, if_pos room]
    · rw [posts, listens, if_neg (Nat.not_lt.mpr full)]
  · intro s c req start form sender fits u1 u4 n1 n32 b1 b64
    exact execMbxCredits_sets start form sender fits ⟨u1, u4⟩ ⟨n1, n32⟩ ⟨b1, b64⟩

end Sys2Proof
end

section
/-! What a chain's restart and gap leave (R101, R102), and the state of the sensing front end through reports and blocks. -/

namespace Sys2Proof.Machine

variable {s t u : State}

theorem Delivers.sns (h : Delivers s t) : t.sns = s.sns := (congrArg Calm.sns h :)

theorem Delivers.own (h : Delivers s t) : t.own = s.own := (congrArg Calm.own h :)

theorem setComparator_delivers (c p i : Nat) (x : Comparator) (s : State) : Delivers s (setComparator c p i x s) := updPosition_delivers ..

theorem comparatorEvent_delivers (c p i : Nat) (enter : Bool) (cause : Nat) (value : Int) (at_ : Word) (q : Nat) (s : State) :
    Delivers s (comparatorEvent c p i enter cause value at_ q s) := .of_calm (raiseRec_calm ..)

theorem restartComparators_delivers (c p : Nat) (s : State) : Delivers s (restartComparators c p s) :=
  .foldl (fun _ _ => .ite ((setComparator_delivers ..).trans (comparatorEvent_delivers ..)) (setComparator_delivers ..)) _ s

theorem restartChain_delivers (c : Nat) (s : State) : Delivers s (restartChain c s) :=
  (updChain_delivers ..).trans (.foldl (fun _ _ => (restartComparators_delivers ..).trans (updPosition_delivers ..)) _ _)

theorem chainGap_delivers (c lost : Nat) (s : State) : Delivers s (chainGap c lost s) :=
  (closeBlocks_delivers c s).trans
    ((Delivers.foldl (fun _ _ => updPosition_delivers ..) _ _).trans (.ite (.of_calm (bump_calm ..)) (.refl _)))

/-! ### Lost samples (R101) -/

/-- The lost samples that every position of a chain owes are as before. -/
structure LostKept (c : Nat) (s t : State) : Prop where
  lost : ∀ q, (position (chain t c) q).lost = (position (chain s c) q).lost

namespace LostKept

variable {c : Nat}

theorem refl (c : Nat) (s : State) : LostKept c s s := ⟨fun _ => rfl⟩

theorem trans (a : LostKept c s t) (b : LostKept c t u) : LostKept c s u := ⟨fun q => (b.lost q).trans (a.lost q)⟩

theorem of_chains (h : t.chains = s.chains) : LostKept c s t := ⟨fun q => by rw [chain, h, ← chain]⟩

theorem of_calm (h : t.calm = s.calm) : LostKept c s t := of_chains (congrArg Calm.chains h)

theorem of_updPosition {p : Nat} {f : Position → Position} (h : ∀ x, (f x).lost = x.lost) : LostKept c s (updPosition c p f s) := ⟨fun q => by
  rw [updPosition, chain_updChain_self, position]
  by_cases same : q = p
  · rw [same, tget_tset_self, h]
  · rw [tget_tset_other _ _ _ same, ← position]⟩

theorem of_ring (off : RingOff) : LostKept c s (updChain c (fun ch => { ch with ring := off }) s) := ⟨fun q => by
  rw [chain_updChain_self]
  rfl⟩

theorem ite {a b : State} {q : Prop} [Decidable q] (ha : LostKept c s a) (hb : LostKept c s b) : LostKept c s (if q then a else b) := by
  split <;> assumption

theorem foldl {α : Type} {f : State → α → State} (h : ∀ s x, LostKept c s (f s x)) (l : List α) (s : State) : LostKept c s (l.foldl f s) := by
  induction l generalizing s with
  | nil => exact refl c s
  | cons x l ih => exact (h s x).trans (ih _)

end LostKept

theorem blockDropped_lost (c p : Nat) (s : State) : LostKept c s (blockDropped c p s) := by
  refine .trans (.of_updPosition ?_) (.ite (.of_calm (count_calm ..)) (.refl ..))
  exact fun _ => rfl

theorem blockDelivered_lost (c p : Nat) (s : State) : LostKept c s (blockDelivered c p s) := .of_updPosition fun _ => rfl

theorem deliverBlock_lost (c p : Nat) (b : Block) (consumer : Option Nat) (s : State) : LostKept c s (deliverBlock c p b consumer s) := by
  have written (r : RingAt) (prod cons : Nat) (data : Bytes) (off : RingOff) :
      LostKept c s (updChain c (fun ch => { ch with ring := off }) (ringWrite r prod cons data consumer s).1) :=
    .trans (.of_calm (ringWrite_calm ..)) (.of_ring off)
  unfold deliverBlock
  dsimp only
  split
  · exact blockDropped_lost ..
  · exact .ite (.trans (written ..) (blockDelivered_lost ..)) (.trans (written ..) (blockDropped_lost ..))
  · exact .ite ((blockDelivered_lost ..).trans (.of_chains rfl)) (blockDropped_lost ..)

theorem closeBlock_lost (c p : Nat) (s : State) : LostKept c s (closeBlock c p s) := by
  unfold closeBlock
  split
  · exact .refl ..
  · refine .trans (.of_updPosition ?_) (.ite (.refl ..) (.trans (.of_updPosition ?_) (.foldl (fun _ _ => deliverBlock_lost ..) _ _)))
    · exact fun _ => rfl
    · exact fun _ => rfl

theorem closeBlocks_lost (c : Nat) (s : State) : LostKept c s (closeBlocks c s) := .foldl (fun _ _ => closeBlock_lost ..) _ s

/-- A gap of a charge input's chain empties its one position, which owes the samples lost (R101). -/
theorem chainGap_charge (n lost : Nat) (s : State) (h : n < 32) :
    (position (chain (chainGap (512 + n) lost s) (512 + n)) 0).line = [] ∧
    (position (chain (chainGap (512 + n) lost s) (512 + n)) 0).since = 0 ∧
    (position (chain (chainGap (512 + n) lost s) (512 + n)) 0).lost = (position (chain s (512 + n)) 0).lost + lost := by
  have one : positionCount (512 + n) = 1 := by simp [positionCount, isPrecision]; omega
  have sensor : isLaneChain (512 + n) = false := by simp [isLaneChain]
  have gap : chainGap (512 + n) lost s = updPosition (512 + n) 0 (emptied 2 lost) (closeBlocks (512 + n) s) := by
    unfold chainGap
    rw [one, sensor]
    rfl
  rw [gap, position_updPosition_self]
  exact ⟨rfl, rfl, congrArg (· + lost) ((closeBlocks_lost ..).lost 0)⟩

/-! ### Inputs, converters and flags (R390 to R393) -/

theorem converter_of_sns (h : t.sns.converters = s.sns.converters) (j : Nat) : converter t j = converter s j := by
  rw [converter, h, converter]

@[simp] theorem converter_advanceTo (n : Nat) (s : State) (j : Nat) : converter (advanceTo n s) j = converter s j := rfl

@[simp] theorem input_updInput_self (n : Nat) (f : Input → Input) (s : State) : input (updInput n f s) n = f (input s n) := tget_tset_self ..

theorem input_updInput_other {n m : Nat} (h : m ≠ n) (f : Input → Input) (s : State) : input (updInput n f s) m = input s m :=
  tget_tset_other _ _ _ h

@[simp] theorem converter_updConverter_self (j : Nat) (f : Converter → Converter) (s : State) :
    converter (updConverter j f s) j = f (converter s j) := tget_tset_self ..

/-- A flag event touches the chains and what reporting touches (R393). -/
theorem flagEvent_delivers (n kind : Nat) (entry : Bool) (s : State) : Delivers s (flagEvent n kind entry s) :=
  .trans (.ite (updPosition_delivers ..) (.refl s)) (.of_calm (raiseSense_calm ..))

theorem noteCompliance_converters (n : Nat) (compliant : Bool) (s : State) :
    (noteCompliance n compliant s).sns.converters = s.sns.converters := by
  unfold noteCompliance
  extract_lets had noted _ seen
  have kept : seen.sns.converters = s.sns.converters := by
    simp only [seen]
    split <;> rfl
  split
  · exact kept
  · exact (congrArg Sensing.converters (flagEvent_delivers ..).sns).trans kept

theorem scanCodes_converters (j : Nat) (codes : List ScanCode) (sc : Scan) (s : State) :
    (execScanFrameStart.scanCodes j codes sc s).sns.converters = s.sns.converters := by
  unfold execScanFrameStart.scanCodes
  refine List.foldlRecOn _ _ (motive := fun u : State => u.sns.converters = s.sns.converters) rfl (fun u same k _ => ?_)
  split
  · exact (noteCompliance_converters ..).trans same
  · exact same

end Sys2Proof.Machine
end

section
/-! The sensing front end's rows and commands (R384 to R413). -/

namespace Sys2Proof.Machine

variable {s t : State} {c : Caller} {req : Bytes}

/-- A scan that waits starts at its frame (R384, R412). -/
theorem execScanFrameStart_starts {j m : Nat} {codes : List ScanCode} {sc : Scan} (has : j < 8) (runs : converterRuns s (544 + j) = true)
    (waits : (converter s j).next = some (sc, m)) : ∃ t, execScanFrameStart j codes s = .next t ∧
      converter t j = { scan := sc, next := none, frame := m } := by
  unfold execScanFrameStart
  dsimp only
  rw [if_neg (by omega), if_neg (by simp [runs]), waits]
  refine ⟨_, rfl, ?_⟩
  rw [converter_of_sns (scanCodes_converters ..), converter_updConverter_self]

/-- With none waiting the next frame of the enabled scan starts (R384). -/
theorem execScanFrameStart_next {j : Nat} {codes : List ScanCode} (has : j < 8) (runs : converterRuns s (544 + j) = true)
    (none : (converter s j).next = none) (on : (converter s j).scan.enables ≠ 0) : ∃ t, execScanFrameStart j codes s = .next t ∧
      converter t j = { converter s j with
        frame := max ((converter s j).frame + 1) (scanFrameAfter (converter s j).scan.periodUs (tmbNow s).toNat) } := by
  unfold execScanFrameStart
  dsimp only
  rw [if_neg (by omega), if_neg (by simp [runs]), none]
  dsimp only
  rw [if_neg on]
  refine ⟨_, rfl, ?_⟩
  rw [converter_of_sns (scanCodes_converters ..), converter_updConverter_self, converter_advanceTo, none]

theorem execChargeReset_closes {n : Nat} {code : Int} (has : n < 32) (mode : (charge s n).mode = 3) (beyond : 1792 ≤ code.natAbs)
    (runs : converterRuns s (512 + n) = true) : ∃ t, execChargeReset n code s = .next t ∧ (charge t n).switchUntil = s.now + 200 ∧
      (position (chain t (512 + n)) 0).line = [] ∧ (position (chain t (512 + n)) 0).since = 0 ∧
      (position (chain t (512 + n)) 0).lost = (position (chain s (512 + n)) 0).lost + 30 := by
  let u : State := { s with sns.charges := tset s.sns.charges n { charge s n with switchUntil := s.now + 200 } }
  have step : execChargeReset n code s = .next (chainGap (512 + n) 30 u) := by
    unfold execChargeReset
    dsimp only
    rw [if_neg (by omega), if_neg (by simp [mode, beyond, runs])]
  have switch : charge u n = { charge s n with switchUntil := s.now + 200 } := tget_tset_self ..
  have kept : charge (chainGap (512 + n) 30 u) n = charge u n := by rw [charge, (chainGap_delivers ..).sns, charge]
  exact ⟨_, step, by rw [kept, switch], chainGap_charge n 30 u has⟩

/-- A list with an entry added where it lacks it holds the entry. -/
theorem mem_noted {l : List Nat} {n : Nat} {present : Bool} (h : present = true) :
    n ∈ if (present && !l.contains n) = true then l ++ [n] else l := by
  split
  · exact List.mem_append_right _ (List.mem_singleton_self n)
  · next has => simpa [h] using has

theorem execClampFlagChange_takes {n : Nat} {present : Bool} (running : Running s) (has : n < 96) (changed : (input s n).clamp ≠ present) :
    ∃ t, execClampFlagChange n present s = .next t ∧ (input t n).clamp = present ∧ (present = true → n ∈ t.sns.clampSeen) ∧
      (∀ m, m ≠ n → input t m = input s m) := by
  unfold execClampFlagChange
  rw [if_neg (by omega), if_neg (by simp [running, changed])]
  extract_lets flagged _ seen
  have sns : (flagEvent n 1 present seen).sns = seen.sns := (flagEvent_delivers ..).sns
  have inputs : seen.sns.inputs = flagged.sns.inputs := by
    simp only [seen]
    split <;> rfl
  have read (m : Nat) : input (flagEvent n 1 present seen) m = input flagged m := by rw [input, sns, inputs, input]
  refine ⟨_, rfl, ?_, fun is => ?_, fun m other => ?_⟩
  · rw [read, input_updInput_self]
  · rw [sns]
    have noted : seen.sns.clampSeen = if (present && !flagged.sns.clampSeen.contains n) = true then flagged.sns.clampSeen ++ [n]
        else flagged.sns.clampSeen := by
      simp only [seen]
      split <;> rfl
    rw [noted]
    exact mem_noted is
  · rw [read, input_updInput_other other]

theorem execCommonModeFlagChange_counts {n q : Nat} {lo hi mv : Int} (running : Running s) (has : n < 96)
    (window : cmWindow s n = some (q, lo, hi)) (changed : (input s n).commonMode ≠ (decide (mv < lo) || decide (mv > hi)))
    (short : (input s n).cmRun + 1 < q) :
    execCommonModeFlagChange n mv s = .next (updInput n (fun i => { i with cmRun := i.cmRun + 1 }) s) := by
  unfold execCommonModeFlagChange
  rw [if_neg (by omega), if_neg (by simp [running]), window]
  dsimp only
  rw [if_neg (Ne.symm changed), if_pos short]

theorem execCommonModeFlagChange_changes {n q : Nat} {lo hi mv : Int} (running : Running s) (has : n < 96)
    (window : cmWindow s n = some (q, lo, hi)) (changed : (input s n).commonMode ≠ (decide (mv < lo) || decide (mv > hi)))
    (long : q ≤ (input s n).cmRun + 1) : ∃ t, execCommonModeFlagChange n mv s = .next t ∧
      (input t n).commonMode = (decide (mv < lo) || decide (mv > hi)) ∧ (input t n).cmRun = 0 ∧
      ((input t n).commonMode = true → n ∈ t.sns.cmSeen) := by
  unfold execCommonModeFlagChange
  rw [if_neg (by omega), if_neg (by simp [running]), window]
  dsimp only
  rw [if_neg (Ne.symm changed), if_neg (Nat.not_lt.mpr long)]
  generalize (decide (mv < lo) || decide (mv > hi)) = outside
  generalize flag : updInput n (fun i => { i with commonMode := outside, cmRun := 0 }) s = flagged
  have set : input flagged n = { input s n with commonMode := outside, cmRun := 0 } := by rw [← flag, input_updInput_self]
  let seen : State := if (outside && !flagged.sns.cmSeen.contains n) = true then { flagged with sns.cmSeen := flagged.sns.cmSeen ++ [n] }
    else flagged
  have sns : (flagEvent n 2 outside seen).sns = seen.sns := (flagEvent_delivers ..).sns
  have inputs : seen.sns.inputs = flagged.sns.inputs := by
    simp only [seen]
    split <;> rfl
  have noted : seen.sns.cmSeen = if (outside && !flagged.sns.cmSeen.contains n) = true then flagged.sns.cmSeen ++ [n]
      else flagged.sns.cmSeen := by
    simp only [seen]
    split <;> rfl
  have read : input (flagEvent n 2 outside seen) n = input flagged n := by rw [input, sns, inputs, input]
  refine ⟨flagEvent n 2 outside seen, rfl, ?_⟩
  rw [read, set, sns, noted]
  exact ⟨rfl, rfl, mem_noted⟩

theorem execDieTempUpdate_stores (a b d : Int) (running : Running s) : exec (.dieTempUpdate a b d) s =
    .next { s with pwr.tjSensing := BitVec.ofInt 16 a, pwr.tjMax := BitVec.ofInt 16 b, pwr.tjMin := BitVec.ofInt 16 d,
                   pwr.tjValid := true } := by
  rw [exec_dieTempUpdate, execDieTempUpdate, if_neg (by simp [running])]

/-! ### Commands (R410 to R413) -/

theorem execSenseConfigure_waits
    (start : mayStart s c 0x0C01 [.converter (rd req 0 1), .chain (544 + rd req 0 1)] = true)
    (form : shaped req 136 ((2, 2) :: (List.range 8).map (fun p => (18 + 16 * p, 6))) = true) (has : rd req 0 1 ≤ 7)
    (may : mayName c (tget 0 s.own.converters (rd req 0 1)) = true) (ranged : scanInRange req (parseScan req) = true)
    (mains : scanBreaksMains s (rd req 0 1) (parseScan req) = false) (valid : scanInvalid (parseScan req) = false) :
    exec (.senseConfigure c req) s = Answers c 0x0C01 req St.ok (statusResp St.ok) (updConverter (rd req 0 1) (fun x =>
      { x with next := some (parseScan req, scanFrameAfter (parseScan req).periodUs ((tmbNow s).toNat + usTime 20)) }) s) := by
  refine runCmd_answers start form (by simp) (?_ : senseConfigureBody c req s = _)
  unfold senseConfigureBody
  dsimp only
  rw [if_neg (by omega), if_neg (by simp [may]), if_neg (by simp [ranged]), guards_pass mains, guards_pass valid]
  rfl

/-- The charge input that a request of sense.charge describes (R413). -/
def parseCharge (req : Bytes) (until_ : Nat) : Charge :=
  { cap := BitVec.ofNat 2 (rd req 1 1), mode := BitVec.ofNat 2 (rd req 2 1), cmCheck := bit (rd req 3 1) 0, cmQ := rd req 4 1,
    cmLo := rdInt req 6 2, cmHi := rdInt req 8 2, switchUntil := until_ }

theorem senseChargeBody_sets (has : rd req 0 1 ≤ 31) (may : mayName c (tget 0 s.own.charges (rd req 0 1)) = true)
    (cap : rd req 1 1 ≤ 3) (mode : rd req 2 1 ≤ 3) (check : rd req 3 1 ≤ 1)
    (window : rd req 3 1 = 1 → 1 ≤ rd req 4 1 ∧ -2000 ≤ rdInt req 6 2 ∧ rdInt req 6 2 ≤ rdInt req 8 2 ∧ rdInt req 8 2 ≤ 2000) :
    senseChargeBody c req s = answer St.ok (restartChain (512 + rd req 0 1) { s with
      sns.charges := tset s.sns.charges (rd req 0 1) (parseCharge req (charge s (rd req 0 1)).switchUntil) }) := by
  unfold senseChargeBody
  dsimp only
  have ranged : (decide (rd req 1 1 > 3) || decide (rd req 2 1 > 3) || decide (rd req 3 1 > 1) || (rd req 3 1 == 1 &&
      (decide (rd req 4 1 < 1) || decide (rdInt req 6 2 < -2000) || decide (rdInt req 8 2 > 2000) || decide (rdInt req 8 2 < rdInt req 6 2))))
      = false := by
    simp only [Bool.or_eq_false_iff, Bool.and_eq_false_imp, beq_iff_eq, decide_eq_false_iff_not]
    omega
  rw [if_neg (by omega), if_neg (by simp [may]), guards_pass ranged]
  rfl

theorem execSenseCharge_sets (start : mayStart s c 0x0C02 [.chain (512 + rd req 0 1)] = true)
    (form : shaped req 16 [(5, 1), (10, 6)] = true) (has : rd req 0 1 ≤ 31) (may : mayName c (tget 0 s.own.charges (rd req 0 1)) = true)
    (cap : rd req 1 1 ≤ 3) (mode : rd req 2 1 ≤ 3) (check : rd req 3 1 ≤ 1)
    (window : rd req 3 1 = 1 → 1 ≤ rd req 4 1 ∧ -2000 ≤ rdInt req 6 2 ∧ rdInt req 6 2 ≤ rdInt req 8 2 ∧ rdInt req 8 2 ≤ 2000) :
    ∃ t, exec (.senseCharge c req) s = .next t ∧ charge t (rd req 0 1) = parseCharge req (charge s (rd req 0 1)).switchUntil ∧
      (∀ m, m ≠ rd req 0 1 → charge t m = charge s m) := by
  let u : State := { s with sns.charges := tset s.sns.charges (rd req 0 1) (parseCharge req (charge s (rd req 0 1)).switchUntil) }
  obtain ⟨t, next, calm⟩ := answers_next c 0x0C02 req St.ok (statusResp St.ok) (restartChain (512 + rd req 0 1) u)
  have sns : t.sns = u.sns := ((Delivers.of_calm calm).sns).trans (restartChain_delivers ..).sns
  have read (m : Nat) : charge t m = charge u m := by rw [charge, sns, charge]
  refine ⟨t, (runCmd_answers start form (by simp) (senseChargeBody_sets has may cap mode check window)).trans next, ?_, fun m other => ?_⟩
  · exact (read _).trans (tget_tset_self ..)
  · exact (read m).trans (tget_tset_other _ _ _ other)

theorem execSenseLincoef_writes (start : mayStart s c 0x0C03 [.chain (chainOfInput (rd req 0 1)).1] = true)
    (form : shaped req 104 [(3, 5)] = true) (has : rd req 0 1 ≤ 95) (may : mayName c (inputOwner s (rd req 0 1)) = true)
    (finite : ∀ i < 24, bits (BitVec.ofNat 32 (rd req (8 + 4 * i) 4)).toNat 23 8 ≠ 255)
    (source : linSourceOk s (rd req 0 1) (rd req 1 1) (rd req 2 1) = true) :
    exec (.senseLincoef c req) s = GoesOn c 0x0C03 req [.chain (chainOfInput (rd req 0 1)).1] true
      (journalWrite { target := .lin (rd req 0 1) { coef := (List.range 24).map (fun i => BitVec.ofNat 32 (rd req (8 + 4 * i) 4)),
                                                    source := rd req 1 1, sourceInput := rd req 2 1, sound := true },
                      caller := some c, status := St.ok, resp := statusResp St.ok } s) := by
  refine runCmd_goesOn start form (by simp) (?_ : senseLincoefBody c req s = _)
  have coefs : (((List.range 24).map (fun i => BitVec.ofNat 32 (rd req (8 + 4 * i) 4))).any (fun b => bits b.toNat 23 8 == 255)
      || !linSourceOk s (rd req 0 1) (rd req 1 1) (rd req 2 1)) = false := by
    rw [source, Bool.not_true, Bool.or_false, List.any_map, List.any_eq_false]
    intro i listed
    simpa using finite i (List.mem_range.mp listed)
  unfold senseLincoefBody
  dsimp only
  rw [if_neg (by omega), if_neg (by simp [may]), guards_pass coefs]

/-- The owner that sense.assign gives a resource (R413). -/
def assignSense (kind i p : Nat) (s : State) : State :=
  if kind = 0 then { s with own.converters := tset s.own.converters i p }
  else if kind = 1 then { s with own.charges := tset s.own.charges i p }
  else if kind = 2 then { s with own.groups := tset s.own.groups i p }
  else { s with own.i2c := tset s.own.i2c i p }

theorem senseAssignBody_assigns (pod_ : rd req 2 1 ≤ 64) (has : rd req 1 1 < [8, 32, 16, 2].getD (rd req 0 1) 0)
    (mains : rd req 0 1 = 0 → ∀ v < 4, isMainsSource s (4 * rd req 1 1 + v) = false) :
    senseAssignBody req s = answer St.ok (assignSense (rd req 0 1) (rd req 1 1) (rd req 2 1)
      (resetSources (senseSources (rd req 0 1) (rd req 1 1)) (resetSense (rd req 0 1) (rd req 1 1) s))) := by
  have kind : rd req 0 1 ≤ 3 := by
    by_contra above
    have beyond : [8, 32, 16, 2].getD (rd req 0 1) 0 = 0 := List.getD_eq_default _ _ (by simpa using by omega)
    omega
  have free : (decide (rd req 0 1 = 0) && (List.range 4).any (fun v => isMainsSource s (4 * rd req 1 1 + v))) = false := by
    rw [Bool.and_eq_false_imp, decide_eq_true_eq, List.any_eq_false]
    exact fun converter v listed => by simpa using mains converter v (List.mem_range.mp listed)
  unfold senseAssignBody
  dsimp only
  rw [guards_pass (by simp only [Bool.or_eq_false_iff, decide_eq_false_iff_not]; omega), guards_pass free]
  rfl

theorem execSenseAssign_assigns
    (start : mayStart s c 0x0C07 (senseNames (rd req 0 1) (rd req 1 1) ++ [.pod (rd req 2 1)]) = true) (form : shaped req 8 [(3, 5)] = true)
    (sender : c.pod = 0) (pod_ : rd req 2 1 ≤ 64) (has : rd req 1 1 < [8, 32, 16, 2].getD (rd req 0 1) 0)
    (mains : rd req 0 1 = 0 → ∀ v < 4, isMainsSource s (4 * rd req 1 1 + v) = false) :
    ∃ t, exec (.senseAssign c req) s = .next t ∧
      (rd req 0 1 = 0 → tget 0 t.own.converters (rd req 1 1) = rd req 2 1) ∧
      (rd req 0 1 = 1 → tget 0 t.own.charges (rd req 1 1) = rd req 2 1) ∧
      (rd req 0 1 = 2 → tget 0 t.own.groups (rd req 1 1) = rd req 2 1 ∧ pdGroup t (rd req 1 1) = {}) ∧
      (rd req 0 1 = 3 → tget 0 t.own.i2c (rd req 1 1) = rd req 2 1 ∧ i2cPort t (rd req 1 1) = {}) := by
  let r := resetSources (senseSources (rd req 0 1) (rd req 1 1)) (resetSense (rd req 0 1) (rd req 1 1) s)
  obtain ⟨t, next, calm⟩ := answers_next c 0x0C07 req St.ok (statusResp St.ok) (assignSense (rd req 0 1) (rd req 1 1) (rd req 2 1) r)
  have own : t.own = _ := congrArg Calm.own calm
  have sns : t.sns = r.sns := by
    refine (congrArg Calm.sns calm).trans ?_
    change (assignSense ..).sns = r.sns
    unfold assignSense
    (repeat' split) <;> rfl
  have reset : r.sns = (resetSense (rd req 0 1) (rd req 1 1) s).sns := congrArg Calm.sns (resetSources_calm ..)
  refine ⟨t, (runCmd_answers start form (fun _ => sender) (senseAssignBody_assigns pod_ has mains)).trans next, ?_⟩
  change t.own = (assignSense ..).own at own
  rw [pdGroup, i2cPort, own, sns, reset]
  refine ⟨fun kind => ?_, fun kind => ?_, fun kind => ⟨?_, ?_⟩, fun kind => ⟨?_, ?_⟩⟩ <;> rw [kind]
  all_goals exact tget_tset_self ..

end Sys2Proof.Machine
end

section
/-! Partial discharge and the I2C ports (R399 to R407, R413). -/

namespace Sys2Proof.Machine

variable {s t : State} {c : Caller} {req : Bytes}

@[simp] theorem pdGroup_setPdGroup_self (n : Nat) (g : PdGroup) (s : State) : pdGroup (setPdGroup n g s) n = g := tget_tset_self ..

theorem pdGroup_setPdGroup_other {n m : Nat} (h : m ≠ n) (g : PdGroup) (s : State) : pdGroup (setPdGroup n g s) m = pdGroup s m :=
  tget_tset_other _ _ _ h

@[simp] theorem i2cPort_setI2cPort_self (i : Nat) (x : I2cPort) (s : State) : i2cPort (setI2cPort i x s) i = x := tget_tset_self ..

/-- Reports leave the groups. -/
theorem pdGroup_of_calm (h : t.calm = s.calm) (m : Nat) : pdGroup t m = pdGroup s m := by
  rw [pdGroup, show t.sns = s.sns from congrArg Calm.sns h, pdGroup]

theorem i2cPort_of_calm (h : t.calm = s.calm) (i : Nat) : i2cPort t i = i2cPort s i := by
  rw [i2cPort, show t.sns = s.sns from congrArg Calm.sns h, i2cPort]

/-- The report of a record leaves the groups (R402, R403). -/
theorem pdGroup_recordTold (ok : Bool) (a : Attr) (source first sequence : Nat) (s : State) (m : Nat) :
    pdGroup (raiseSense source 1 sequence first (if ok = true then s else count 0x000F a 1 s)) m = pdGroup s m :=
  pdGroup_of_calm ((raiseSense_calm ..).trans (calm_if rfl (count_calm ..))) m

/-- A source without a dead time is not dead. -/
theorem find_none_of_absent {dead : Table Word} {k : Nat} (h : ∀ e ∈ dead, e.1 ≠ k) : dead.find? (fun e => e.1 == k) = none :=
  List.find?_eq_none.mpr (fun e listed => by simpa using h e listed)

/-- A pulse of an enabled group whose source triggered: its source is held dead, and the pulse joins the group where it is whole and not
ignored (R400). -/
theorem execPdPulseWindowEnd_joins {n k : Nat} {src : PdSource} {pulse : PdPulse} (has : n < 16)
    (source : (pdGroup s n).sources[k]? = some src) (on : (pdGroup s n).enable = true) (size : pulse.window.length = 32)
    (trigger : (src.level : Int) ≤ (if src.polarity = 0 then (pulse.window.head?).getD 0
      else if src.polarity = 1 then -(pulse.window.head?).getD 0 else (((pulse.window.head?).getD 0).natAbs : Int)))
    (alive : ∀ e ∈ (pdGroup s n).deadUntil, e.1 ≠ k) {whole tx : Bool}
    (isWhole : whole = (decide ((position (chain s src.chain) 0).since ≥ contrib (chain s src.chain) 0 + 32 * 2 ^ (chain s src.chain).cfg.k)
      && decide ((position (chain s src.chain) 0).sinceRate ≥ 32 * 2 ^ (chain s src.chain).cfg.k)))
    (isTx : tx = txDuring s src.chain (s.now - 32 * outputPs s src.chain / 2000) s.now) :
    execPdPulseWindowEnd n k pulse s = .next (setPdGroup n
      { pdGroup s n with
        deadUntil := tset (pdGroup s n).deadUntil k ((position (chain s src.chain) 0).latestAt
          + BitVec.ofInt 64 (psTime ((pdGroup s n).deadNs * 1000)))
        pulses := if (!whole || (tx && (pdGroup s n).ignoreTx)) = true then (pdGroup s n).pulses else (pdGroup s n).pulses ++
          [pdPulseOf src k (outputPs s src.chain) (position (chain s src.chain) 0).latestAt (quality s) tx pulse] } s) := by
  unfold execPdPulseWindowEnd
  rw [if_neg (by omega)]
  simp only [source]
  rw [find_none_of_absent alive, if_neg (by
    simp only [on, size, bne_self_eq_false, Bool.not_true, Bool.or_false, Bool.false_or, decide_eq_true_eq, not_lt]
    exact trigger), ← isWhole, ← isTx]
  split
  · rfl
  · rfl

theorem execPdClusterClose_closes {n : Nat} {consumer : Option Nat} (has : n < 16) (cluster : (splitCluster (pdGroup s n)).1 ≠ []) :
    ∃ t, execPdClusterClose n consumer s = .next t ∧ (pdGroup t n).pulses = (splitCluster (pdGroup s n)).2 ∧
      ((firstOfEach (splitCluster (pdGroup s n)).1).1.length < (pdGroup s n).minSources →
        (pdGroup t n).discarded = satAdd (pdGroup s n).discarded 1 ∧ (pdGroup t n).sequence = (pdGroup s n).sequence ∧ t.out = s.out) ∧
      ((pdGroup s n).minSources ≤ (firstOfEach (splitCluster (pdGroup s n)).1).1.length →
        (pdGroup t n).discarded = 0 ∧ (pdGroup t n).sequence = (pdGroup s n).sequence + 1) ∧
      (∀ m, m ≠ n → pdGroup t m = pdGroup s m) := by
  unfold execPdClusterClose
  rw [if_neg (by omega)]
  dsimp only
  split
  · next none => exact absurd (congrArg Prod.fst none) cluster
  · next x xs rest split_ =>
    rw [split_]
    dsimp only
    generalize first : firstOfEach (x :: xs) = es
    split
    · next few =>
      refine ⟨_, rfl, ?_⟩
      rw [pdGroup_setPdGroup_self]
      exact ⟨rfl, fun _ => ⟨rfl, rfl, rfl⟩, fun enough => absurd few (Nat.not_lt.mpr enough),
        fun m other => pdGroup_setPdGroup_other other ..⟩
    · next enough =>
      generalize written : ringWrite _ _ _ _ _ (advanceTo _ s) = w
      have groups (m : Nat) : pdGroup w.1 m = pdGroup s m := by
        rw [← written]
        exact pdGroup_of_calm (s := advanceTo _ s) (ringWrite_calm ..) m
      obtain ⟨u, prod, cons, ok⟩ := w
      dsimp only at groups ⊢
      refine ⟨_, rfl, ?_⟩
      simp only [pdGroup_recordTold, pdGroup_setPdGroup_self]
      exact ⟨trivial, fun few => absurd few enough, fun _ => ⟨trivial, trivial⟩,
        fun m other => (pdGroup_setPdGroup_other other ..).trans (groups m)⟩

/-- pd.configure resets a group that it does not enable (R413). -/
theorem execPdConfigure_resets (start : mayStart s c 0x0C04 [.group (rd req 0 1)] = true)
    (form : shaped req 304 ((33, 15) :: (List.range 16).map (fun i => (51 + 16 * i, 1))) = true) (has : rd req 0 1 ≤ 15)
    (flags : rd req 1 1 ≤ 3) (may : mayName c (tget 0 s.own.groups (rd req 0 1)) = true) (off : bit (rd req 1 1) 0 = false) :
    exec (.pdConfigure c req) s = Answers c 0x0C04 req St.ok (statusResp St.ok) (setPdGroup (rd req 0 1) {} s) := by
  refine runCmd_answers start form (by simp) (?_ : pdConfigureBody c req s = _)
  unfold pdConfigureBody
  dsimp only
  rw [guards_pass (by simp only [Bool.or_eq_false_iff, decide_eq_false_iff_not]; omega), if_neg (by simp [may])]
  exact if_pos (by simp [parsePd, off])

/-- The offsets that an enabling pd.configure starts the ring of a group from, written back to the host (R413). -/
def groupStarted (n ringCtrl start : Nat) (s : State) : State :=
  hostWrite (tget 0 s.own.groups n) ringCtrl (leBytes 8 start) (count 0x0010 { pod := some (tget 0 s.own.groups n) } 8 s)

theorem pdConfigureBody_sets {start : Nat} (has : rd req 0 1 ≤ 15) (flags : rd req 1 1 ≤ 3)
    (may : mayName c (tget 0 s.own.groups (rd req 0 1)) = true) (on : bit (rd req 1 1) 0 = true) (ranged : pdInRange s.part (parsePd req) = true)
    (owned : ∀ x ∈ (parsePd req).sources, chainOwner s x.chain = tget 0 s.own.groups (rd req 0 1))
    (free : ∀ e ∈ s.sns.groups, e.1 ≠ rd req 0 1 → e.2.enable = true → ∀ x ∈ e.2.sources, ∀ y ∈ (parsePd req).sources, y.chain ≠ x.chain)
    (read : c.io.consumer = some start) (host : hostOk s (tget 0 s.own.groups (rd req 0 1)) = true) :
    pdConfigureBody c req s = answer St.ok (setPdGroup (rd req 0 1) { parsePd req with ring := ⟨start, start⟩ }
      (groupStarted (rd req 0 1) (parsePd req).ringCtrl start s)) := by
  have owners : (parsePd req).sources.any (fun x => chainOwner s x.chain != tget 0 s.own.groups (rd req 0 1)) = false := by
    rw [List.any_eq_false]
    exact fun x listed => by simpa using owned x listed
  have untaken : s.sns.groups.any (fun e => e.1 != rd req 0 1 && e.2.enable
      && e.2.sources.any (fun x => (parsePd req).sources.any (fun y => y.chain == x.chain))) = false := by
    rw [List.any_eq_false]
    intro e listed
    simp only [Bool.and_eq_true, bne_iff_ne, List.any_eq_true, beq_iff_eq, not_and]
    rintro ⟨other, enabled⟩ ⟨x, source, y, mine, same⟩
    exact free e listed other enabled x source y mine same
  unfold pdConfigureBody
  dsimp only
  rw [guards_pass (by simp only [Bool.or_eq_false_iff, decide_eq_false_iff_not]; omega), if_neg (by simp [may]),
    if_neg (by simp [parsePd, on]), if_neg (by simp [ranged]), guards_pass owners, guards_pass untaken,
    guards_pass (by simp [read, host]), read]
  rfl

theorem execPdConfigure_sets {first : Nat} (start : mayStart s c 0x0C04 [.group (rd req 0 1)] = true)
    (form : shaped req 304 ((33, 15) :: (List.range 16).map (fun i => (51 + 16 * i, 1))) = true) (has : rd req 0 1 ≤ 15)
    (flags : rd req 1 1 ≤ 3) (may : mayName c (tget 0 s.own.groups (rd req 0 1)) = true) (on : bit (rd req 1 1) 0 = true)
    (ranged : pdInRange s.part (parsePd req) = true)
    (owned : ∀ x ∈ (parsePd req).sources, chainOwner s x.chain = tget 0 s.own.groups (rd req 0 1))
    (free : ∀ e ∈ s.sns.groups, e.1 ≠ rd req 0 1 → e.2.enable = true → ∀ x ∈ e.2.sources, ∀ y ∈ (parsePd req).sources, y.chain ≠ x.chain)
    (read : c.io.consumer = some first) (host : hostOk s (tget 0 s.own.groups (rd req 0 1)) = true) :
    ∃ t, exec (.pdConfigure c req) s = .next t ∧ pdGroup t (rd req 0 1) = { parsePd req with ring := ⟨first, first⟩ } := by
  obtain ⟨t, next, calm⟩ := answers_next c 0x0C04 req St.ok (statusResp St.ok)
    (setPdGroup (rd req 0 1) { parsePd req with ring := ⟨first, first⟩ } (groupStarted (rd req 0 1) (parsePd req).ringCtrl first s))
  refine ⟨t, (runCmd_answers start form (by simp) (pdConfigureBody_sets has flags may on ranged owned free read host)).trans next, ?_⟩
  rw [pdGroup_of_calm calm, pdGroup_setPdGroup_self]

/-! ### I2C (R404 to R407) -/

theorem execI2cConfigure_sets (start : mayStart s c 0x0C05 [.i2c (rd req 0 1)] = true) (form : shaped req 8 [(2, 6)] = true)
    (has : rd req 0 1 ≤ 1) (may : mayName c (tget 0 s.own.i2c (rd req 0 1)) = true) (speed : rd req 1 1 ≤ 2) :
    exec (.i2cConfigure c req) s = Answers c 0x0C05 req St.ok (statusResp St.ok)
      (setI2cPort (rd req 0 1) { i2cPort s (rd req 0 1) with speed := BitVec.ofNat 2 (rd req 1 1) } s) := by
  refine runCmd_answers start form (by simp) (?_ : i2cConfigureBody c req s = _)
  unfold i2cConfigureBody
  dsimp only
  rw [if_neg (by omega), if_neg (by simp [may]), if_neg (by omega)]
  rfl

theorem execI2cTransfer_queues (start : mayStart s c 0x0C06 [.i2c (rd req 0 1)] = true) (form : shaped req 72 [] = true)
    (has : rd req 0 1 ≤ 1) (may : mayName c (tget 0 s.own.i2c (rd req 0 1)) = true) (address : rd req 1 1 ≤ 127) (written : rd req 2 1 ≤ 64)
    (retries : rd req 3 1 ≤ 15) (read : rd req 4 2 ≤ 256) (least : 1 ≤ rd req 6 2) (most : rd req 6 2 ≤ 1000)
    (some_ : rd req 2 1 ≠ 0 ∨ rd req 4 2 ≠ 0) (idle : (i2cPort s (rd req 0 1)).current = none) :
    exec (.i2cTransfer c req) s = GoesOn c 0x0C06 req [.i2c (rd req 0 1)] true
      (setI2cPort (rd req 0 1) { i2cPort s (rd req 0 1) with
        current := some { caller := c, address := rd req 1 1, written := slice req 8 (rd req 2 1), retryLimit := rd req 3 1,
                          readLen := rd req 4 2, timeoutMs := rd req 6 2, queuedAt := s.now, losses := 0 }
        started := false } s) := by
  have ranged : (decide (rd req 1 1 > 127) || decide (rd req 2 1 > 64) || decide (rd req 3 1 > 15) || decide (rd req 4 2 > 256)
      || decide (rd req 6 2 < 1) || decide (rd req 6 2 > 1000) || (decide (rd req 2 1 = 0) && decide (rd req 4 2 = 0))) = false := by
    simp only [Bool.or_eq_false_iff, Bool.and_eq_false_iff, decide_eq_false_iff_not]
    omega
  refine runCmd_goesOn start form (by simp) (?_ : i2cTransferBody c req s = _)
  unfold i2cTransferBody
  dsimp only
  rw [if_neg (by omega), if_neg (by simp [may]), guards_pass ranged, guards_pass (by simp [idle])]

/-- A transfer that ends leaves its port free, at its speed (R405). -/
theorem endI2c_frees {i result acked : Nat} {data : Bytes} {j : I2cJob} (current : (i2cPort s i).current = some j) :
    i2cPort (endI2c i result acked data s) i = { i2cPort s i with current := none, started := false } := by
  unfold endI2c
  rw [current]
  dsimp only
  rw [i2cPort_of_calm ((complete_calm ..).trans (calm_if (raiseSense_calm ..) rfl)), i2cPort_setI2cPort_self]

/-- A transfer not started: it starts on a free bus, a bus held is recovered once, and a bus that is not free ends it (R405, R407). -/
theorem i2c_unstarted {i : Nat} {j : I2cJob} (has : i < 2) (current : (i2cPort s i).current = some j) (waits : (i2cPort s i).started = false) :
    exec (.i2cTransferStart i) s = .next (emit (.i2c i (i2cPort s i).speed.toNat j.address j.written j.readLen)
      (setI2cPort i { i2cPort s i with started := true } s)) ∧
    (∃ t, exec (.i2cBusNotFreeTimeout i) s = .next t ∧ (i2cPort t i).current = none) ∧
    (j.recovered = false → exec (.i2cSclTimeout ⟨i, true⟩) s = .next (emit (.i2cRecover i)
      (setI2cPort i { i2cPort s i with current := some { j with recovered := true } } s))) ∧
    (j.recovered = true → ∃ t, exec (.i2cSclTimeout ⟨i, true⟩) s = .next t ∧ (i2cPort t i).current = none) := by
  have absent : ¬ i ≥ 2 := Nat.not_le.mpr has
  refine ⟨?_, ⟨endI2c i 5 0 [] (advanceTo (j.queuedAt + ms j.timeoutMs) s), ?_, ?_⟩, fun fresh => ?_, fun again => ⟨endI2c i 4 0 [] s, ?_, ?_⟩⟩
  · simp [execI2cTransferStart, absent, current, waits]
  · simp [execI2cBusNotFreeTimeout, absent, current, waits]
  · rw [endI2c_frees (s := advanceTo (j.queuedAt + ms j.timeoutMs) s) current]
  · simp [execI2cSclTimeout, absent, current, waits, fresh]
  · simp [execI2cSclTimeout, absent, current, waits, again]
  · rw [endI2c_frees current]

/-- A transfer started: a loss of arbitration is retried while the retries last; a clock held low and its result end it (R406, R407). -/
theorem i2c_started {i : Nat} {j : I2cJob} (has : i < 2) (current : (i2cPort s i).current = some j) (started : (i2cPort s i).started = true) :
    (j.losses < j.retryLimit → exec (.i2cArbitrationLoss i) s = .next (setI2cPort i { i2cPort s i with
      current := some { j with losses := j.losses + 1, queuedAt := s.now }
      started := false } s)) ∧
    (j.retryLimit ≤ j.losses → ∃ t, exec (.i2cArbitrationLoss i) s = .next t ∧ (i2cPort t i).current = none) ∧
    (∃ t, exec (.i2cSclTimeout ⟨i, false⟩) s = .next t ∧ (i2cPort t i).current = none ∧ (i2cPort t i).speed = (i2cPort s i).speed) ∧
    (∀ r acked data, r ≤ 2 → ∃ t, exec (.i2cTransferEnd i r acked data) s = .next t ∧ (i2cPort t i).current = none ∧
      (i2cPort t i).started = false) := by
  have absent : ¬ i ≥ 2 := Nat.not_le.mpr has
  let u := setI2cPort i { i2cPort s i with current := some { j with losses := j.losses + 1, queuedAt := s.now }, started := false } s
  have loses : exec (.i2cArbitrationLoss i) s = .next (if j.losses + 1 > j.retryLimit then endI2c i 3 0 [] u else u) := by
    simp [execI2cArbitrationLoss, absent, current, started, u]
  have waits : (i2cPort u i).current = some { j with losses := j.losses + 1, queuedAt := s.now } := by rw [i2cPort_setI2cPort_self]
  refine ⟨fun left => ?_, fun none => ⟨endI2c i 3 0 [] u, ?_, ?_⟩, ⟨endI2c i 4 0 [] s, ?_, ?_⟩, fun r acked data ends =>
    ⟨endI2c i r acked (if r = 0 then data else []) s, ?_, ?_⟩⟩
  · rw [loses, if_neg (by omega)]
  · rw [loses, if_pos (by omega)]
  · rw [endI2c_frees waits]
  · simp [execI2cSclTimeout, absent, current, started]
  · rw [endI2c_frees current]
    exact ⟨rfl, rfl⟩
  · simp [execI2cTransferEnd, absent, started, ends]
  · rw [endI2c_frees current]
    exact ⟨rfl, rfl⟩

end Sys2Proof.Machine
end

section
/-! The obligations of grid sensing (O30, O31, O32). -/

namespace Sys2Proof

open Machine

/-- Settles O30, row by row and command by command. -/
theorem scansAndSensorFaults : Obligations.ScansAndSensorFaults := by
  unfold Obligations.ScansAndSensorFaults
  refine ⟨fun s j codes has runs => ⟨fun sc m => execScanFrameStart_starts has runs, execScanFrameStart_next has runs⟩,
    fun s n code => execChargeReset_closes, fun s n present => execClampFlagChange_takes,
    fun s n q lo hi mv running has window changed => ⟨execCommonModeFlagChange_counts running has window changed,
      execCommonModeFlagChange_changes running has window changed⟩, fun s => execDieTempUpdate_stores,
    fun s c req => execSenseConfigure_waits, ?_, fun s c req => execSenseLincoef_writes, fun s c req => execSenseAssign_assigns⟩
  intro s c req start form has may cap mode check window
  obtain ⟨t, step, set, others⟩ := execSenseCharge_sets start form has may cap mode check window
  refine ⟨t, step, ?_⟩
  rw [set]
  exact ⟨rfl, rfl, rfl, rfl, rfl, others⟩

/-- Settles O31: a pulse joins unless it is cut or ignored, and a cluster's record leaves the groups to which it does not belong. -/
theorem pulsesFormClusters : Obligations.PulsesFormClusters := by
  unfold Obligations.PulsesFormClusters
  refine ⟨?_, fun s n consumer => execPdClusterClose_closes, fun s c req start form has flags may =>
    ⟨execPdConfigure_resets start form has flags may, fun first => execPdConfigure_sets start form has flags may⟩⟩
  intro s n k src pulse has source g c per ps y0 tx on size trigger span whole alive
  refine ⟨_, execPdPulseWindowEnd_joins has source on size trigger alive rfl rfl, ?_⟩
  rw [pdGroup_setPdGroup_self]
  refine ⟨tget_tset_self .., ?_, fun m other => pdGroup_setPdGroup_other other ..⟩
  have cut : (!(decide (ps.since ≥ contrib (chain s c) 0 + span) && decide (ps.sinceRate ≥ span)) || (tx && g.ignoreTx)) = true ↔
      (¬ whole ∨ (tx = true ∧ g.ignoreTx = true)) := by
    simp only [Bool.or_eq_true, Bool.not_eq_true', Bool.and_eq_false_iff, decide_eq_false_iff_not, Bool.and_eq_true, whole]
    tauto
  by_cases gone : ¬ whole ∨ (tx = true ∧ g.ignoreTx = true)
  · rw [if_pos gone, List.append_nil]
    exact if_pos (cut.mpr gone)
  · rw [if_neg gone]
    exact if_neg (mt cut.mp gone)

/-- Settles O32: a port by whether its transfer has started. -/
theorem i2cTransfersRun : Obligations.I2cTransfersRun := by
  unfold Obligations.I2cTransfersRun
  exact ⟨fun s c req => execI2cConfigure_sets, fun s c req => execI2cTransfer_queues,
    fun s i j has current => ⟨i2c_unstarted has current, i2c_started has current⟩⟩

end Sys2Proof
end

section
/-! What the end of a pod's work (R472 to R475) leaves: the time, power, the owners, the security state, the keys, the functions, and of
every pod all but the callers that wait for its reset. -/

namespace Sys2Proof.Machine

/-- What the end of work leaves. -/
structure Fenced where
  part : Part
  now : Nat
  pwr : Power
  tmb : Timebase
  own : Owners
  sec : Sec
  fw : Firewall
  linkUp : Bool
  vfEnable : Bool
  numVfs : Nat
  slots : Table Key
  fence : Nat → Pod

/-- A pod without the callers that wait for its reset. -/
def Pod.fence (x : Pod) : Pod := { x with resetCallers := [] }

def Calm.fenced (x : Calm) : Fenced :=
  { part := x.part, now := x.now, pwr := x.pwr, tmb := x.tmb, own := x.own, sec := x.sec, fw := x.fw, linkUp := x.linkUp,
    vfEnable := x.vfEnable, numVfs := x.numVfs, slots := x.cph.slots, fence := fun n => (tget {} x.pods n).fence }

def State.fenced (s : State) : Fenced := s.calm.fenced

section
variable {s t : State}

theorem fenced_of_calm (h : t.calm = s.calm) : t.fenced = s.fenced := congrArg Calm.fenced h

theorem fenced_if {a b : State} {p : Prop} [Decidable p] (ha : a.fenced = s.fenced) (hb : b.fenced = s.fenced) :
    (if p then a else b).fenced = s.fenced := by split <;> assumption

theorem foldl_fenced {α : Type} {f : State → α → State} (h : ∀ s x, (f s x).fenced = s.fenced) (l : List α) (s : State) :
    (l.foldl f s).fenced = s.fenced := by
  induction l generalizing s with
  | nil => rfl
  | cons x l ih => exact (ih _).trans (h s x)

namespace Fenced

theorem pod_fence (h : t.fenced = s.fenced) (n : Nat) : (pod t n).fence = (pod s n).fence := congrFun (congrArg Fenced.fence h :) n

theorem resetting (h : t.fenced = s.fenced) (n : Nat) : (pod t n).resetting = (pod s n).resetting :=
  (congrArg Pod.resetting (pod_fence h n) :)

theorem windows (h : t.fenced = s.fenced) (n : Nat) : (pod t n).windows = (pod s n).windows :=
  (congrArg Pod.windows (pod_fence h n) :)

theorem slots_eq (h : t.fenced = s.fenced) : t.cph.slots = s.cph.slots := (congrArg Fenced.slots h :)

theorem slotKey_eq (h : t.fenced = s.fenced) (p k : Nat) : slotKey t p k = slotKey s p k := by
  rw [slotKey, slots_eq h, slotKey]

end Fenced

end

/-! ### Jobs, frames and units -/

theorem tagEnd_fenced (kind p ident : Nat) (retired escalated : Bool) (attempts : Nat) (s : State) :
    (tagEnd kind p ident retired escalated attempts s).fenced = s.fenced := by
  unfold tagEnd
  split
  · rfl
  · exact fenced_of_calm (traceFeed_calm ..)

theorem cphFault_fenced (p r : Nat) (st : Status) (s : State) : (cphFault p r st s).fenced = s.fenced := rfl

theorem cphRecord_fenced (p r kind : Nat) (e : JobEnd) (tag : Nat) (raiseIt : Bool) (s : State) :
    (cphRecord p r kind e tag raiseIt s).fenced = s.fenced :=
  fenced_if rfl ((fenced_if (fenced_of_calm (sendMsix_calm ..)) rfl).trans (.trans (b := State.fenced (hostWrite ..)) rfl
    (fenced_of_calm (hostWrite_calm ..))))

theorem flushRing_fenced (p r n : Nat) (s : State) : (flushRing p r n s).fenced = s.fenced := by
  induction n generalizing s with
  | zero => rfl
  | succ n ih =>
    unfold flushRing
    split
    · rfl
    · split
      · rfl
      · exact (ih _).trans (cphRecord_fenced ..)

theorem endJob_fenced (p r idx : Nat) (e : JobEnd) (s : State) : (endJob p r idx e s).fenced = s.fenced := flushRing_fenced ..

theorem complete_fenced (c : Caller) (st : Status) (resp : Bytes) (s : State) : (complete c st resp s).fenced = s.fenced :=
  fenced_of_calm (complete_calm ..)

theorem sealEnds_fenced (n : Nat) (f : Flight) (st : Status) (nonce : Bytes) (bytes : Nat) (s : State) :
    (sealEnds n f st nonce bytes s).fenced = s.fenced := by
  unfold sealEnds
  split
  · rfl
  · rfl
  · exact fenced_if ((fenced_of_calm (mbxFault_calm ..)).trans (complete_fenced ..)) (complete_fenced ..)
  · split
    · rfl
    · extract_lets settled ended
      have kept : settled.fenced = s.fenced := fenced_if rfl rfl
      have flushed : ended.fenced = s.fenced := (endJob_fenced ..).trans kept
      exact fenced_if ((cphFault_fenced ..).trans flushed) flushed

theorem updFlight_fenced (n : Nat) (g : Flight → Flight) (s : State) : (updFlight n g s).fenced = s.fenced := fenced_if rfl rfl

theorem postOutcome_fenced (n : Nat) (f : Flight) (st : Status) (s : State) : (postOutcome n f st s).fenced = s.fenced := by
  unfold postOutcome
  split
  · rfl
  · split
    · rfl
    · exact fenced_of_calm (notify_calm ..)
    · exact cphRecord_fenced ..

theorem releaseFlight_fenced (n : Nat) (st : Status) (s : State) : (releaseFlight n st s).fenced = s.fenced :=
  fenced_if rfl ((postOutcome_fenced ..).trans ((tagEnd_fenced ..).trans (fenced_if rfl ((fenced_of_calm (count_calm ..)).trans rfl))))

theorem failSeal_fenced (n : Nat) (st : Status) (s : State) : (failSeal n st s).fenced = s.fenced :=
  fenced_if rfl ((sealEnds_fenced ..).trans (releaseFlight_fenced ..))

theorem squashSlot_fenced (page slot : Nat) (s : State) : (squashSlot page slot s).fenced = s.fenced :=
  (foldl_fenced (fun _ _ => failSeal_fenced ..) _ _).trans (foldl_fenced (fun _ _ => endJob_fenced ..) _ s)

theorem mirrorSend_fenced (r : MirrorRec) (s : State) : (mirrorSend r s).fenced = s.fenced := fenced_if rfl rfl

theorem mirrorEp_fenced (e : Nat) (s : State) : (mirrorEp e s).fenced = s.fenced := mirrorSend_fenced ..

theorem journalWrite_fenced (w : JWrite) (s : State) : (journalWrite w s).fenced = s.fenced := rfl

theorem answers_next_fenced (c : Caller) (code : Nat) (req : Bytes) (st : Status) (resp : Bytes) (u : State) :
    ∃ t, Answers c code req st resp u = .next t ∧ t.fenced = u.fenced :=
  (answers_next c code req st resp u).imp fun _ h => ⟨h.1, fenced_of_calm h.2⟩

end Sys2Proof.Machine
end

section
/-! The key and binding commands (R299, R325 to R327) and the entropy source (R320, R321). -/

namespace Sys2Proof.Machine

section
variable {α : Type}

theorem find?_tdel_self (t : Table α) (i : Nat) : (tdel t i).find? (fun e => e.1 == i) = none := by
  induction t with
  | nil => rfl
  | cons e t ih =>
    unfold tdel
    split
    · exact ih
    · next other => rw [List.find?_cons_of_neg (by simpa using other), ih]

theorem find?_tdel_other (t : Table α) {i j : Nat} (h : j ≠ i) :
    (tdel t i).find? (fun e => e.1 == j) = t.find? (fun e => e.1 == j) := by
  induction t with
  | nil => rfl
  | cons e t ih =>
    unfold tdel
    split
    · next same => rw [List.find?_cons_of_neg (by simpa [same] using h.symm), ih]
    · rw [List.find?_cons, List.find?_cons, ih]

end

variable {s : State} {c : Caller} {req : Bytes}

@[simp] theorem slotKey_setSlot_none (p k : Nat) (s : State) : slotKey (setSlot p k none s) p k = none := by
  rw [slotKey, setSlot, find?_tdel_self]
  rfl

@[simp] theorem slotKey_setSlot_some (p k : Nat) (x : Key) (s : State) : slotKey (setSlot p k (some x) s) p k = some x := by
  rw [slotKey, setSlot, find?_tset_self]
  rfl

/-- Another slot of the pages (R490: a page has slots 0 to 63) keeps its key. -/
theorem slotKey_setSlot_none_other {p k q j : Nat} (other : (q, j) ≠ (p, k)) (hk : k < 64) (hj : j < 64) (s : State) :
    slotKey (setSlot p k none s) q j = slotKey s q j := by
  have apart : 64 * q + j ≠ 64 * p + k := fun same => other (by
    have : q = p := by omega
    have : j = k := by omega
    simp_all)
  rw [slotKey, setSlot, find?_tdel_other _ apart, slotKey]

/-- In Operational every key command runs (R482). -/
theorem keyCommand_operational (operational : s.sec.lifecycle = 2) (c : Caller) (body : State × Reply) : keyCommand c s body = body := by
  simp [keyCommand, keyStop, operational]

/-! ### key.load -/

/-- A request of key.load in form (R325). -/
structure KeyLoadForm (req : Bytes) : Prop where
  slot : 1 ≤ rd req 0 1 ∧ rd req 0 1 ≤ 63
  size : rd req 1 1 ≤ 1
  usage : rd req 2 1 ≠ 0 ∧ rd req 2 1 < 64
  persist : rd req 3 1 ≤ 1
  length : rd req 4 2 = 8 + 16 * (rd req 1 1 + 1)
  rest : (slice req (8 + rd req 4 2) (40 - rd req 4 2)).any (· != 0) = false

theorem KeyLoadForm.inRange (h : KeyLoadForm req) : (decide (rd req 0 1 < 1) || decide (rd req 0 1 > 63) || decide (rd req 1 1 > 1)
    || decide (rd req 2 1 = 0) || decide (rd req 2 1 ≥ 64) || decide (rd req 3 1 > 1) || (rd req 4 2 != 24 && rd req 4 2 != 40)
    || (slice req (8 + rd req 4 2) (40 - rd req 4 2)).any (· != 0)) = false := by
  obtain ⟨⟨low, high⟩, size, ⟨used, usage⟩, persist, length, rest⟩ := h
  rw [rest, Bool.or_false]
  simp only [Bool.or_eq_false_iff, Bool.and_eq_false_iff, decide_eq_false_iff_not, bne_eq_false_iff_eq]
  omega

section
variable {kek : Key} (start : mayStart s c 0x0901 [.keySlot (64 * c.pod + rd req 0 1)] = true) (form : shaped req 48 [(6, 2)] = true)
  (operational : s.sec.lifecycle = 2) (unlatched : s.sec.tamper = false) (inForm : KeyLoadForm req) (loaded : slotKey s c.pod 0 = some kek)
include start form operational unlatched inForm loaded

theorem execKeyLoad_fails (wrong : Config.keyUnwrap true kek.bytes (slice req 8 (rd req 4 2)) = none) :
    exec (.keyLoad c req) s = Answers c 0x0901 req St.authFailed (statusResp St.authFailed) s := by
  refine runCmd_answers start form (by simp) ((keyCommand_operational operational ..).trans (?_ : keyLoadBody c req s = _))
  unfold keyLoadBody
  dsimp only
  rw [guards_pass inForm.inRange, guards_pass unlatched, loaded]
  simp only [wrong]
  rfl

section
variable {key : Bytes} (right : Config.keyUnwrap true kek.bytes (slice req 8 (rd req 4 2)) = some key)
  (size : key.length = 16 * (rd req 1 1 + 1))
include right size

theorem execKeyLoad_fills (volatile : rd req 3 1 = 0) (unrecorded : keyRecord s c.pod (rd req 0 1) = none) :
    exec (.keyLoad c req) s = Answers c 0x0901 req St.ok (statusResp St.ok)
      (setSlot c.pod (rd req 0 1) (some { bytes := key, usage := BitVec.ofNat 8 (rd req 2 1) }) s) := by
  refine runCmd_answers start form (by simp) ((keyCommand_operational operational ..).trans (?_ : keyLoadBody c req s = _))
  unfold keyLoadBody
  dsimp only
  rw [guards_pass inForm.inRange, guards_pass unlatched, loaded]
  simp only [right]
  rw [guards_pass (by simp [size, inForm.length]), if_neg (by omega), if_neg (by simp [unrecorded])]
  rfl

theorem execKeyLoad_persists (kept : rd req 3 1 = 1) :
    exec (.keyLoad c req) s = GoesOn c 0x0901 req [.keySlot (64 * c.pod + rd req 0 1)] true (journalWrite
      { target := .keyRecord (64 * c.pod + rd req 0 1) (some (recordOf s c.pod { bytes := key, usage := BitVec.ofNat 8 (rd req 2 1) }))
        slot := some (64 * c.pod + rd req 0 1, { bytes := key, usage := BitVec.ofNat 8 (rd req 2 1) }), caller := some c
        status := St.ok, resp := statusResp St.ok, keyOp := true } s) := by
  refine runCmd_goesOn start form (by simp) ((keyCommand_operational operational ..).trans (?_ : keyLoadBody c req s = _))
  unfold keyLoadBody
  dsimp only
  rw [guards_pass inForm.inRange, guards_pass unlatched, loaded]
  simp only [right]
  rw [guards_pass (by simp [size, inForm.length]), if_pos kept]

end
end

/-! ### key.clear and cipher.bind -/

theorem execKeyClear_empties (start : mayStart s c 0x0902 [.keySlot (64 * c.pod + rd req 0 1)] = true) (form : shaped req 8 [(1, 7)] = true)
    (operational : s.sec.lifecycle = 2) (low : 1 ≤ rd req 0 1) (high : rd req 0 1 ≤ 63) :
    ∃ t, exec (.keyClear c req) s = .next t ∧ slotKey t c.pod (rd req 0 1) = none ∧
      (∀ p k, (p, k) ≠ (c.pod, rd req 0 1) → k < 64 → slotKey t p k = slotKey s p k) := by
  have cleared {t : State} (same : t.fenced = (setSlot c.pod (rd req 0 1) none s).fenced) : slotKey t c.pod (rd req 0 1) = none ∧
      (∀ p k, (p, k) ≠ (c.pod, rd req 0 1) → k < 64 → slotKey t p k = slotKey s p k) :=
    ⟨(Fenced.slotKey_eq same ..).trans (slotKey_setSlot_none ..), fun p k other hk =>
      (Fenced.slotKey_eq same ..).trans (slotKey_setSlot_none_other other (by omega) hk s)⟩
  let u := squashSlot c.pod (rd req 0 1) (setSlot c.pod (rd req 0 1) none s)
  have body : keyClearBody c req s = if (keyRecord u c.pod (rd req 0 1)).isSome = true then
      (journalWrite { target := .keyRecord (64 * c.pod + rd req 0 1) none, caller := some c, status := St.ok,
                      resp := statusResp St.ok, keyOp := true } u, .held) else answer St.ok u := by
    unfold keyClearBody
    dsimp only
    exact if_neg (by simp only [Bool.or_eq_true, decide_eq_true_eq]; omega)
  by_cases recorded : (keyRecord u c.pod (rd req 0 1)).isSome = true
  · exact ⟨_, runCmd_goesOn start form (by simp) ((keyCommand_operational operational ..).trans (body.trans (if_pos recorded))),
      cleared ((fenced_of_calm (hold_calm ..)).trans ((journalWrite_fenced ..).trans (squashSlot_fenced ..)))⟩
  · obtain ⟨t, next, same⟩ := answers_next_fenced c 0x0902 req St.ok (statusResp St.ok) u
    exact ⟨t, (runCmd_answers start form (by simp) ((keyCommand_operational operational ..).trans (body.trans (if_neg recorded)))).trans next,
      cleared (same.trans (squashSlot_fenced ..))⟩

theorem execCipherBind_broadcasts (start : mayStart s c 0x0903 [.endpoint (rd req 0 2)] = true) (form : shaped req 8 [(4, 4)] = true)
    (low : 1 ≤ rd req 2 1) (high : rd req 2 1 ≤ 63) (all : rd req 0 2 = 0x7FFF) (whole : rd req 3 1 = 0xFF) :
    exec (.cipherBind c req) s = Answers c 0x0903 req St.ok (statusResp St.ok) { s with cph.bcast := tset s.cph.bcast c.pod (rd req 2 1) } := by
  refine runCmd_answers start form (by simp) (?_ : cipherBindBody c req s = _)
  unfold cipherBindBody
  dsimp only
  rw [guards_pass (by
    simp only [Bool.or_eq_false_iff, Bool.and_eq_false_iff, decide_eq_false_iff_not, bne_eq_false_iff_eq]; omega), if_pos all]
  rfl

theorem execCipherBind_binds (start : mayStart s c 0x0903 [.endpoint (rd req 0 2)] = true) (form : shaped req 8 [(4, 4)] = true)
    (low : 1 ≤ rd req 2 1) (high : rd req 2 1 ≤ 63) (one : rd req 0 2 < 16384) (some_ : rd req 3 1 ≠ 0)
    (rx : rd req 3 1 ≤ 63 ∨ rd req 3 1 = 0xFF) (admitted : (endpoint s (rd req 0 2)).state ≠ .free)
    (mine : (endpoint s (rd req 0 2)).pod = c.pod) :
    ∃ t, exec (.cipherBind c req) s = .next t ∧ (endpoint t (rd req 0 2)).txSlot = some (rd req 2 1) ∧
      (endpoint t (rd req 0 2)).rxSlot = some (rd req 3 1) ∧
      ((endpoint s (rd req 0 2)).rxSlot = some (rd req 3 1) → (endpoint t (rd req 0 2)).highest = (endpoint s (rd req 0 2)).highest) ∧
      ((endpoint s (rd req 0 2)).rxSlot ≠ some (rd req 3 1) → (endpoint t (rd req 0 2)).highest = none) := by
  let bound (e : Endpoint) : Endpoint :=
    { e with txSlot := some (rd req 2 1), rxSlot := some (rd req 3 1)
             highest := if ((endpoint s (rd req 0 2)).rxSlot != some (rd req 3 1)) = true then none else e.highest
             window := if ((endpoint s (rd req 0 2)).rxSlot != some (rd req 3 1)) = true then 0 else e.window }
  have body : cipherBindBody c req s = answer St.ok (mirrorEp (rd req 0 2) (updEndpoint (rd req 0 2) bound s)) := by
    unfold cipherBindBody
    dsimp only
    rw [guards_pass (by
      simp only [Bool.or_eq_false_iff, Bool.and_eq_false_iff, decide_eq_false_iff_not, bne_eq_false_iff_eq]; omega),
      if_neg (by omega), if_neg (by simpa using admitted), if_neg (by simp [mine])]
  obtain ⟨t, next, calm⟩ := answers_next c 0x0903 req St.ok (statusResp St.ok) (mirrorEp (rd req 0 2) (updEndpoint (rd req 0 2) bound s))
  have entry : endpoint t (rd req 0 2) = bound (endpoint s (rd req 0 2)) := by
    rw [(TopoKept.of_calm calm).endpoint, (mirrorEp_topoKept ..).endpoint, endpoint_updEndpoint_self]
  refine ⟨t, (runCmd_answers start form (by simp) body).trans next, ?_⟩
  rw [entry]
  exact ⟨rfl, rfl, fun same => if_neg (by simp [same]), fun fresh => if_pos (by simpa using fresh)⟩

/-! ### cipher.configure -/

theorem raiseCeiling_instanceId (page : Nat) (s : State) : (raiseCeiling page s).cph.instanceId = s.cph.instanceId := by rw [raiseCeiling_cph]

theorem foldl_instanceId {α : Type} {f : State → α → State} (h : ∀ s x, (f s x).cph.instanceId = s.cph.instanceId) (l : List α) (s : State) :
    (l.foldl f s).cph.instanceId = s.cph.instanceId := by
  induction l generalizing s with
  | nil => rfl
  | cons x l ih => exact (ih _).trans (h s x)

theorem cipherConfigureBody_sets (req : Bytes) (s : State) : ∃ u, cipherConfigureBody req s = answer St.ok u ∧
    u.cph.instanceId = BitVec.ofNat 16 (rd req 0 2) := by
  refine ⟨_, rfl, ?_⟩
  split
  · refine (foldl_instanceId ?_ _ _).trans rfl
    exact fun _ _ => (raiseCeiling_instanceId ..).trans rfl
  · rfl

theorem execCipherConfigure_sets (start : mayStart s c 0x0904 [] = true) (form : shaped req 8 [(2, 6)] = true) (sender : c.pod = 0) :
    ∃ t, exec (.cipherConfigure c req) s = .next t ∧ t.cph.instanceId = BitVec.ofNat 16 (rd req 0 2) := by
  obtain ⟨u, body, set⟩ := cipherConfigureBody_sets req s
  obtain ⟨t, next, calm⟩ := answers_next c 0x0904 req St.ok (statusResp St.ok) u
  exact ⟨t, (runCmd_answers (pod0 := true) start form (fun _ => sender) body).trans next, by
    rw [show t.cph = u.cph from congrArg Calm.cph calm, set]⟩

/-! ### Entropy -/

theorem execMaskReseed_reseeds {q : Nat} (has : q ≤ 3) (healthy : s.cph.entropy.healthy = true) (due : 2 ^ 16 ≤ tget 0 s.cph.blocks q) :
    ∃ t, exec (.maskReseed q) s = .next t ∧ tget 0 t.cph.blocks q < 2 ^ 16 := by
  refine ⟨_, (if_neg (by omega)).trans (if_pos (by rw [healthy, decide_eq_true due]; rfl)), ?_⟩
  simp only [tget_tset_self]
  exact Nat.mod_lt _ (Nat.two_pow_pos _)

theorem execEntropyHealthFail_fails (running : Running s) : ∃ t, exec .entropyHealthFail s = .next t ∧ t.cph.entropy.healthy = false ∧
    t.cph.entropy.failSeen = true ∧ t.cph.entropy.failCount.toNat = min 65535 (s.cph.entropy.failCount.toNat + 1) ∧
    t.cph.entropy.retestAt = s.now + secs 1 := by
  refine ⟨entropyFails s, congrArg _ (if_neg (by simp [running])), ?_⟩
  simp [entropyFails, satAdd_toNat]

theorem execEntropyRetest_tests (pass : Bool) (running : Running s) (failed : s.cph.entropy.healthy = false) :
    ∃ t, exec (.entropyRetest pass) s = .next t ∧ t.cph.entropy.healthy = pass ∧ t.now = max s.now s.cph.entropy.retestAt := by
  have tests : exec (.entropyRetest pass) s = if pass = true then _ else _ := if_neg (by simp [running, failed])
  cases pass with
  | true => exact ⟨_, tests, rfl, rfl⟩
  | false => exact ⟨_, tests, failed, rfl⟩

end Sys2Proof.Machine
end

section
/-! The obligation of the cipher engine's keys (O26). -/

namespace Sys2Proof

open Machine

/-- Settles O26, command by command. -/
theorem keysBindingsAndEntropy : Obligations.KeysBindingsAndEntropy := by
  unfold Obligations.KeysBindingsAndEntropy
  refine ⟨?_, fun s c req => execKeyClear_empties, fun s c req start form low high => ⟨execCipherBind_broadcasts start form low high,
    execCipherBind_binds start form low high⟩, fun s c req => execCipherConfigure_sets, fun s q => execMaskReseed_reseeds,
    fun s => execEntropyHealthFail_fails, fun s pass => execEntropyRetest_tests pass⟩
  intro s c req kek start form operational unlatched low high size used usage persist length rest loaded
  have inForm : KeyLoadForm req := ⟨⟨low, high⟩, size, ⟨used, usage⟩, persist, length, rest⟩
  exact ⟨execKeyLoad_fails start form operational unlatched inForm loaded, fun key right size =>
    ⟨execKeyLoad_fills start form operational unlatched inForm loaded right size,
      execKeyLoad_persists start form operational unlatched inForm loaded right size⟩⟩

end Sys2Proof
end

section
/-! The check-value units (R329 to R347): the registers of a context, and its commands. -/

namespace Sys2Proof.Machine

variable {s t : State} {c : Caller} {req : Bytes}

@[simp] theorem chkCtx_updChk_self (n : Nat) (f : ChkCtx → ChkCtx) (s : State) : chkCtx (updChk n f s) n = f (chkCtx s n) := tget_tset_self ..

theorem chkCtx_of_calm (h : t.calm = s.calm) (n : Nat) : chkCtx t n = chkCtx s n := by
  rw [chkCtx, show t.chk = s.chk from congrArg Calm.chk h, chkCtx]

/-! ### Registers (R335) -/

theorem execChkContextWrite_open {n : Nat} (has : n < 1024) (opened : pageOpen s 0 = true) (reg v : Nat) :
    exec (.chkContextWrite n reg v) s = .next (writeCtx n reg v s) :=
  (if_neg (by omega)).trans (congrArg _ (if_pos opened))

/-- A register of a bound context only notes the write. -/
theorem writeCtx_bound {n reg : Nat} (writable : reg ≤ 5) (bound : (chkCtx s n).bound.isSome = true) (v : Nat) :
    writeCtx n reg v s = updChk n (fun x => { x with writeRejected := true }) s := by
  unfold writeCtx
  dsimp only
  rw [if_neg (by omega), if_neg (by omega), if_pos (by simp [bound])]

theorem ofNat_bits (w lo v : Nat) : BitVec.ofNat w (bits v lo w) = BitVec.ofNat w (v / 2 ^ lo) := by
  apply BitVec.eq_of_toNat_eq
  simp [bits]

theorem execChkContextWrite_sets {n v : Nat} (has : n < 1024) (opened : pageOpen s 0 = true) (unbound : (chkCtx s n).bound = none)
    (idle : (chkCtx s n).dma = none) :
    exec (.chkContextWrite n 1 v) s = .next (updChk n (fun x => { x with poly := BitVec.ofNat 64 v }) s) ∧
    exec (.chkContextWrite n 2 v) s = .next (updChk n (fun x => { x with init := BitVec.ofNat 64 v }) s) ∧
    exec (.chkContextWrite n 3 v) s = .next (updChk n (fun x => { x with xorout := BitVec.ofNat 64 v }) s) ∧
    exec (.chkContextWrite n 4 v) s = .next (updChk n (fun x => { x with value := BitVec.ofNat 64 v }) s) ∧
    exec (.chkContextWrite n 5 v) s = .next (updChk n (fun x => { x with seq := BitVec.ofNat 64 v }) s) ∧
    (∃ t, exec (.chkContextWrite n 0 v) s = .next t ∧ (chkCtx t n).preset = BitVec.ofNat 4 (v / 2 ^ 32) ∧
      (chkCtx t n).dataId = BitVec.ofNat 16 (v / 2 ^ 48) ∧ (chkCtx t n).poly = (chkCtx s n).poly) := by
  have takes {reg : Nat} {u : State} (written : writeCtx n reg v s = u) :=
    (execChkContextWrite_open has opened reg v).trans (congrArg _ written)
  have open_ : ((chkCtx s n).bound.isSome || (chkCtx s n).dma.isSome) = false := by simp [unbound, idle]
  refine ⟨takes (guards_pass open_), takes (guards_pass open_), takes (guards_pass open_), takes (guards_pass open_),
    takes (guards_pass open_), _, takes (guards_pass open_), ?_⟩
  rw [chkCtx_updChk_self]
  exact ⟨ofNat_bits .., ofNat_bits .., rfl⟩

/-! ### chk.assign and chk.bind (R338, R344) -/

theorem execChkAssign_assigns (start : mayStart s c 0x0A01 [.context (rd req 0 2)] = true) (form : shaped req 8 [(4, 4)] = true)
    (sender : c.pod = 0) (has : rd req 0 2 < 1024) (pod_ : rd req 2 1 ≤ 64) (window : rd req 3 1 ≤ 15)
    (unbound : (chkCtx s (rd req 0 2)).bound = none) (idle : (chkCtx s (rd req 0 2)).dma = none)
    (free : s.chk.any (fun e => e.1 != rd req 0 2 && e.2.pod == rd req 2 1 && e.2.window == some (rd req 3 1)) = false) :
    exec (.chkAssign c req) s = Answers c 0x0A01 req St.ok (statusResp St.ok)
      (updChk (rd req 0 2) (fun _ => { pod := rd req 2 1, window := some (rd req 3 1) }) s) := by
  refine runCmd_answers start form (fun _ => sender) (?_ : chkAssignBody req s = _)
  unfold chkAssignBody
  dsimp only
  rw [guards_pass (by simp only [Bool.or_eq_false_iff, decide_eq_false_iff_not]; omega), if_neg (by simp [unbound, idle]), guards_pass free]
  rfl

/-- Putting an entry at a key counts no more entries, where it counts itself only in place of one it replaces. -/
theorem filter_tset_le {α : Type} {p : Nat × α → Bool} {i : Nat} {x : α} (t : Table α) (out : p (i, x) = false) :
    ((tset t i x).filter p).length ≤ (t.filter p).length := by
  induction t with
  | nil => simp [tset, out]
  | cons e t ih =>
    obtain ⟨k, v⟩ := e
    unfold tset
    split
    · rw [List.filter_cons, if_neg (by simp [out])]
    · split
      · rw [List.filter_cons, if_neg (by simp [out])]
        exact (List.sublist_cons_self (k, v) t).filter p |>.length_le
      · rw [List.filter_cons, List.filter_cons]
        split
        · exact Nat.succ_le_succ ih
        · exact ih

/-- Unbinding a stream binds none. -/
theorem boundStreams_unbindStream (p ep : Nat) (rx : Bool) (s : State) : boundStreams (unbindStream p ep rx s) ≤ boundStreams s := by
  unfold unbindStream
  split
  · exact le_refl _
  · exact filter_tset_le s.chk (p := fun e : Nat × ChkCtx => e.2.bound.isSome) (x := { chkCtx s _ with bound := none }) rfl

theorem chkBind_inForm (has : rd req 0 2 < 1024) (one : rd req 2 2 < 16384) (direction : rd req 4 1 ≤ 1) (unbind : rd req 5 1 ≤ 1) :
    (decide (rd req 0 2 ≥ 1024) || (decide (rd req 2 2 ≥ 16384) && rd req 2 2 != 0x7FFF) || decide (rd req 4 1 > 1)
      || decide (rd req 5 1 > 1) || (rd req 4 1 == 1 && rd req 2 2 == 0x7FFF)) = false := by
  simp only [Bool.or_eq_false_iff, Bool.and_eq_false_iff, decide_eq_false_iff_not, beq_eq_false_iff_ne]
  omega

/-- The pod of a context may bind it to an endpoint of the same pod, and pod 0 may. -/
theorem chkBind_permitted (may : c.pod = 0 ∨ c.pod = (chkCtx s (rd req 0 2)).pod)
    (same : (endpoint s (rd req 2 2)).pod = (chkCtx s (rd req 0 2)).pod) :
    (c.pod != 0 && ((chkCtx s (rd req 0 2)).pod != c.pod || (decide (rd req 2 2 < 16384)
      && (endpoint s (rd req 2 2)).state != .free && (endpoint s (rd req 2 2)).pod != c.pod))) = false := by
  rcases may with host | owner
  · simp [host]
  · simp [same, ← owner]

section
variable (start : mayStart s c 0x0A02 [.context (rd req 0 2), .endpoint (rd req 2 2)] = true) (form : shaped req 8 [(6, 2)] = true)
  (has : rd req 0 2 < 1024) (one : rd req 2 2 < 16384) (direction : rd req 4 1 ≤ 1)
  (may : c.pod = 0 ∨ c.pod = (chkCtx s (rd req 0 2)).pod)
  (same : (endpoint s (rd req 2 2)).pod = (chkCtx s (rd req 0 2)).pod)
include start form has one direction may same

theorem execChkBind_unbinds (unbind : rd req 5 1 = 1) (bound : (chkCtx s (rd req 0 2)).bound = some (rd req 2 2, rd req 4 1 == 1)) :
    exec (.chkBind c req) s = Answers c 0x0A02 req St.ok (statusResp St.ok) (updChk (rd req 0 2) (fun x => { x with bound := none }) s) := by
  refine runCmd_answers start form (by simp) (?_ : chkBindBody c req s = _)
  unfold chkBindBody
  dsimp only
  rw [guards_pass (chkBind_inForm has one direction (by omega)),
    guards_pass (chkBind_permitted may same), if_pos (by simp [unbind]), if_pos bound]
  rfl

theorem execChkBind_binds (admitted : (endpoint s (rd req 2 2)).state ≠ .free) (idle : (chkCtx s (rd req 0 2)).dma = none) (bind : rd req 5 1 = 0) (unbound : (chkCtx s (rd req 0 2)).bound = none)
    (sound : ctxBad (chkCtx s (rd req 0 2)) true = false) (room : boundStreams s < 256) :
    ∃ t, exec (.chkBind c req) s = .next t ∧ (chkCtx t (rd req 0 2)).bound = some (rd req 2 2, rd req 4 1 == 1) := by
  let s' := unbindStream (chkCtx s (rd req 0 2)).pod (rd req 2 2) (rd req 4 1 == 1) s
  have body : chkBindBody c req s = answer St.ok (updChk (rd req 0 2) (fun x => { x with bound := some (rd req 2 2, rd req 4 1 == 1) }) s') := by
    have few : boundStreams s' < 256 := (boundStreams_unbindStream ..).trans_lt room
    unfold chkBindBody
    dsimp only
    rw [guards_pass (chkBind_inForm has one direction (by omega)),
      guards_pass (chkBind_permitted may same), if_neg (by simp [bind]), if_neg (by simp [admitted]),
      if_neg (by simp [same]), if_neg (by simp [idle, unbound]), guards_pass sound]
    exact if_neg (Nat.not_le.mpr few)
  obtain ⟨t, next, calm⟩ := answers_next c 0x0A02 req St.ok (statusResp St.ok)
    (updChk (rd req 0 2) (fun x => { x with bound := some (rd req 2 2, rd req 4 1 == 1) }) s')
  exact ⟨t, (runCmd_answers start form (by simp) body).trans next, by rw [chkCtx_of_calm calm, chkCtx_updChk_self]⟩

end

/-! ### chk.dma and the end of its job (R342, R343) -/

theorem execChkDma_runs (start : mayStart s c 0x0A03 [.context (rd req 0 2)] = true) (form : shaped req 32 [(3, 5)] = true)
    (part : s.part = .gnz5120) (has : rd req 0 2 < 1024) (flags : rd req 2 1 ≤ 7) (from_ : rd req 8 8 % 8 = 0) (len : rd req 16 8 % 8 = 0)
    (least : 8 ≤ rd req 16 8) (most : rd req 16 8 ≤ 2 ^ 32) (dest : rd req 24 8 % 8 = 0)
    (may : c.pod = 0 ∨ c.pod = (chkCtx s (rd req 0 2)).pod) (unbound : (chkCtx s (rd req 0 2)).bound = none)
    (idle : (chkCtx s (rd req 0 2)).dma = none) (sound : ctxBad (chkCtx s (rd req 0 2)) false = false) (room : dmaJobs s < 4)
    (permitted : dmaDenied s (chkCtx s (rd req 0 2)).pod req = none) :
    exec (.chkDma c req) s = GoesOn c 0x0A03 req [.context (rd req 0 2)] true
      (updChk (rd req 0 2) (fun x => { x with dma := some { caller := c, req := req } }) s) := by
  refine runCmd_goesOn start form (by simp) (?_ : chkDmaBody c req s = _)
  have inForm : (s.part == .gnz5032 || decide (rd req 0 2 ≥ 1024) || decide (rd req 2 1 > 7) || rd req 8 8 % 8 != 0 || rd req 16 8 % 8 != 0
      || decide (rd req 16 8 < 8) || decide (rd req 16 8 > 2 ^ 32) || rd req 24 8 % 8 != 0) = false := by
    rw [part, show (Part.gnz5120 == .gnz5032) = false from rfl, Bool.false_or]
    simp only [Bool.or_eq_false_iff, decide_eq_false_iff_not, bne_eq_false_iff_eq]
    omega
  unfold chkDmaBody
  dsimp only
  rw [guards_pass inForm, if_neg (by rcases may with h | h <;> simp [h]), if_neg (by simp [unbound, idle]), guards_pass sound,
    if_neg (Nat.not_le.mpr room), permitted]

/-- A job ends: its context is idle and done, and nothing else that is not a report changes (R343). -/
theorem endDma_ends (n : Nat) (job : ChkDma) (st : Status) (s : State) :
    chkCtx (endDma n job st s) n = { chkCtx s n with dma := none, done := true } ∧ (endDma n job st s).ddr = s.ddr := by
  have calm : (endDma n job st s).calm = (updChk n (fun x => { x with dma := none, done := true }) s).calm := complete_calm ..
  exact ⟨by rw [chkCtx_of_calm calm, chkCtx_updChk_self], congrArg Calm.ddr calm⟩

/-- What a job leaves in VALUE: the computation goes on from VALUE, or starts with the folded fields (R342, R343). -/
def dmaValue (s : State) (x : ChkCtx) (req : Bytes) : Nat :=
  crcRun (ctxAlg x) (if bit (rd req 2 1) 0 then x.value.toNat % 2 ^ (ctxAlg x).w else (ctxAlg x).init)
    ((if bit (rd req 2 1) 0 then [] else (if x.foldId then beBytes 2 x.dataId.toNat else []) ++
      (if x.foldSeq then beBytes 8 (rd req 8 8) else [])) ++ ddrRead s (rd req 8 8) (rd req 16 8))

/-- A context after its job's computation. -/
def dmaDone (s : State) (req : Bytes) (x : ChkCtx) : ChkCtx :=
  { x with value := BitVec.ofNat 64 (dmaValue s x req)
           result := if bit (rd req 2 1) 1 then BitVec.ofNat 64 (crcFinal (ctxAlg x) (dmaValue s x req)) else x.result }

/-- The result of a job in DDR, where it is asked for. -/
def dmaStored (s : State) (req : Bytes) (x : ChkCtx) : List Host.Cell :=
  if bit (rd req 2 1) 2 then memPut s.ddr (rd req 24 8) (leBytes 8 (dmaDone s req x).result.toNat) else s.ddr

theorem execChkDmaComplete_leaves {n : Nat} {job : ChkDma} (runs : (chkCtx s n).dma = some job)
    (permitted : dmaDenied s (chkCtx s n).pod job.req = none) :
    ∃ t, exec (.chkDmaComplete n false) s = .next t ∧
      chkCtx t n = { dmaDone s job.req (chkCtx s n) with dma := none, done := true } ∧ t.ddr = dmaStored s job.req (chkCtx s n) := by
  let attr : Attr := { pod := some (chkCtx s n).pod, addr := some (rd job.req 8 8, rd job.req 16 8), host := some true }
  obtain ⟨s1, counted, calm⟩ : ∃ s1, count 0x000E attr (rd job.req 16 8) (count 0x000B attr (rd job.req 16 8) s) = s1 ∧ s1.calm = s.calm :=
    ⟨_, rfl, (count_calm ..).trans (count_calm ..)⟩
  have ddr : s1.ddr = s.ddr := congrArg Calm.ddr calm
  have value : dmaValue s1 (chkCtx s n) job.req = dmaValue s (chkCtx s n) job.req := by
    rw [dmaValue, show ddrRead s1 = ddrRead s by unfold ddrRead; rw [ddr], dmaValue]
  obtain ⟨s2, updated, context, same⟩ : ∃ s2, updChk n (fun x => { x with
      value := BitVec.ofNat 64 (dmaValue s1 (chkCtx s n) job.req)
      result := if bit (rd job.req 2 1) 1 then BitVec.ofNat 64 (crcFinal (ctxAlg (chkCtx s n)) (dmaValue s1 (chkCtx s n) job.req))
                else x.result }) s1 = s2 ∧
      chkCtx s2 n = dmaDone s job.req (chkCtx s n) ∧ s2.ddr = s.ddr :=
    ⟨_, rfl, by rw [chkCtx_updChk_self, chkCtx_of_calm calm, dmaDone, value], ddr⟩
  obtain ⟨s3, written, left⟩ : ∃ s3, (if bit (rd job.req 2 1) 2 then
        count 0x000C { pod := some (chkCtx s n).pod, addr := some (rd job.req 24 8, 8), host := some true } 8
          (ddrWrite (rd job.req 24 8) (leBytes 8 (chkCtx s2 n).result.toNat) s2)
      else s2) = s3 ∧ chkCtx s3 n = chkCtx s2 n ∧ s3.ddr = dmaStored s job.req (chkCtx s n) := by
    refine ⟨_, rfl, ?_⟩
    unfold dmaStored
    rw [← context, ← same]
    split
    · exact ⟨chkCtx_of_calm (s := ddrWrite _ _ s2) (count_calm ..) n, count_ddr ..⟩
    · exact ⟨rfl, rfl⟩
  have step : exec (.chkDmaComplete n false) s = .next (endDma n job St.ok s3) := by
    refine (?_ : execChkDmaComplete n false s = _)
    unfold execChkDmaComplete
    dsimp only
    rw [runs]
    dsimp only
    rw [permitted]
    dsimp only
    rw [if_neg Bool.false_ne_true, counted, ← written, ← updated]
    rfl
  obtain ⟨ends, stored⟩ := endDma_ends n job St.ok s3
  exact ⟨_, step, by rw [ends, left.1, context], by rw [stored, left.2]⟩

end Sys2Proof.Machine
end

section
/-! The obligation of the check-value units (O27). -/

namespace Sys2Proof

open Machine

/-- Settles O27, register by register and command by command. -/
theorem checkValueContexts : Obligations.CheckValueContexts := by
  unfold Obligations.CheckValueContexts
  refine ⟨fun s n v has opened => ⟨execChkContextWrite_sets has opened, fun bound reg writable =>
      (execChkContextWrite_open has opened reg v).trans (congrArg _ (writeCtx_bound writable bound v))⟩,
    fun s c req => execChkAssign_assigns, fun s c req start form has one direction may admitted same idle =>
      ⟨execChkBind_binds start form has one direction may same admitted idle,
        execChkBind_unbinds start form has one direction may same⟩,
    fun s c req => execChkDma_runs, ?_⟩
  intro s n job runs permitted x fold first v
  obtain ⟨t, step, context, stored⟩ := execChkDmaComplete_leaves runs permitted
  refine ⟨t, step, ?_⟩
  rw [context]
  refine ⟨rfl, rfl, rfl, rfl, fun kept => stored.trans (if_neg (by simp [kept])), fun asked wf => ?_⟩
  rw [show ddrRead t = ddrRead (ddrWrite (rd job.req 24 8) (leBytes 8 (dmaDone s job.req (chkCtx s n)).result.toNat) s) by
    unfold ddrRead; rw [stored, dmaStored, if_pos asked]; rfl]
  exact ddrRead_ddrWrite _ _ wf

end Sys2Proof
end

section
/-! What a pod reset (R472 to R475) leaves, part by part, and the whole of it. -/

namespace Sys2Proof.Machine

/-! ### The parts of a pod reset -/

theorem dropReasm_fenced (n : Nat) (s : State) : (dropReasm n s).fenced = s.fenced := by
  unfold dropReasm
  split
  · exact tagEnd_fenced ..
  · rfl

theorem endDma_fenced (n : Nat) (job : ChkDma) (st : Status) (s : State) : (endDma n job st s).fenced = s.fenced :=
  (complete_fenced ..).trans rfl

theorem unbindStream_fenced (p ep : Nat) (rx : Bool) (s : State) : (unbindStream p ep rx s).fenced = s.fenced := by
  unfold unbindStream
  split <;> rfl

theorem resetSense_fenced (kind i : Nat) (s : State) : (resetSense kind i s).fenced = s.fenced :=
  fenced_if rfl (fenced_if rfl (fenced_if rfl rfl))

theorem endI2c_fenced (i result acked : Nat) (data : Bytes) (s : State) : (endI2c i result acked data s).fenced = s.fenced := by
  unfold endI2c
  split
  · rfl
  · exact (complete_fenced ..).trans (fenced_if ((fenced_of_calm (raiseSense_calm ..)).trans rfl) rfl)

theorem completeStatus_fenced (c : Caller) (st : Status) (s : State) : (completeStatus c st s).fenced = s.fenced := complete_fenced ..

/-- The keys of a pod that is reset: slot 0 of its page, and the other pages' (R491). -/
def keptKeys (n : Nat) (t : Table Key) : Table Key := t.filter (fun e => e.1 / 64 != n || e.1 % 64 == 0)

theorem quitCipher_fenced (n : Nat) (s : State) : (quitCipher n s).fenced = { s.fenced with slots := keptKeys n s.cph.slots } := by
  unfold quitCipher
  extract_lets seals sealed jobs ended units dropped _ bare mirrored
  have work : dropped.fenced = s.fenced := (foldl_fenced (fun _ _ => dropReasm_fenced ..) units ended).trans
    ((foldl_fenced (fun _ _ => endJob_fenced ..) jobs sealed).trans (foldl_fenced (fun _ _ => failSeal_fenced ..) seals s))
  have keys : bare.fenced = { dropped.fenced with slots := keptKeys n dropped.cph.slots } := rfl
  rw [journalWrite_fenced, show mirrored.fenced = bare.fenced from foldl_fenced (fun _ _ => mirrorEp_fenced ..) _ _, keys, work,
    Fenced.slots_eq work]

theorem quitFrames_fenced (n : Nat) (s : State) : (quitFrames n s).fenced = s.fenced :=
  (foldl_fenced (fun _ _ => (fenced_if (updFlight_fenced ..) (releaseFlight_fenced ..)).trans (updFlight_fenced ..)) _ _).trans rfl

theorem quitChecks_fenced (n : Nat) (s : State) : (quitChecks n s).fenced = s.fenced := by
  unfold quitChecks
  refine (foldl_fenced ?_ _ _).trans ((foldl_fenced ?_ _ _).trans (foldl_fenced ?_ _ s))
  · exact fun _ _ => rfl
  · exact fun _ _ => (unbindStream_fenced ..).trans (unbindStream_fenced ..)
  · intro u e
    split
    · exact endDma_fenced ..
    · rfl

theorem resetChain_fenced (c : Nat) (s : State) : (resetChain c s).fenced = s.fenced := rfl

theorem quitChains_fenced (n : Nat) (s : State) : (quitChains n s).fenced = s.fenced := by
  unfold quitChains
  dsimp only
  generalize (List.range 552).filter _ = mine
  exact foldl_fenced (fun _ _ => resetChain_fenced ..) mine s

theorem quitSensing_fenced (n : Nat) (s : State) : (quitSensing n s).fenced = s.fenced := by
  unfold quitSensing
  refine (foldl_fenced (fun u i => ?_) _ _).trans ((foldl_fenced (fun _ _ => resetSense_fenced ..) _ _).trans
    ((foldl_fenced (fun _ _ => resetSense_fenced ..) _ _).trans (foldl_fenced (fun _ _ => resetSense_fenced ..) _ s)))
  dsimp only
  split
  · rfl
  · exact fenced_if (fenced_if (endI2c_fenced ..) rfl) (fenced_if rfl rfl)

theorem quitCounters_fenced (n : Nat) (s : State) : (quitCounters n s).fenced = s.fenced := rfl

theorem quitEvents_fenced (n : Nat) (s : State) : (quitEvents n s).fenced = s.fenced := fenced_of_calm (resetSources_calm ..)

theorem quitServices_fenced (n : Nat) (s : State) : (quitServices n s).fenced = s.fenced := rfl

theorem quitEngines_fenced (n : Nat) (cut : Bool) (s : State) : (quitEngines n cut s).fenced = s.fenced := by
  have pods (m : Nat) : (pod (quitEngines n cut s) m).fence = (pod s m).fence := by
    unfold quitEngines pod
    rw [tget_tmap rfl]
    rfl
  exact congrArg (fun f => { s.fenced with fence := f }) (funext pods)

theorem quitMailbox_fenced (n : Nat) (s : State) : (quitMailbox n s).fenced = s.fenced := by
  have completes (l : List Caller) (st : Status) (u : State) : (l.foldl (fun s c => completeStatus c st s) u).fenced = u.fenced :=
    foldl_fenced (fun _ _ => completeStatus_fenced ..) l u
  unfold quitMailbox
  exact (quitEngines_fenced ..).trans ((foldl_fenced (fun _ _ => (completes ..).trans (fenced_of_calm (updMbxLane_calm ..))) _ _).trans
    (foldl_fenced (fun _ _ => completeStatus_fenced ..) _ s))

/-! ### A pod reset -/

/-- A pod in the reset that starts now (R474). -/
def Pod.reset (now cause : Nat) (x : Pod) : Pod := { x with resetting := true, resetAt := now, cause := BitVec.ofNat 4 cause }

theorem updPod_fenced (n : Nat) (f : Pod → Pod) (s : State) : (updPod n f s).fenced =
    { s.fenced with fence := fun m => if m = n then (f (pod s n)).fence else (pod s m).fence } := by
  refine congrArg (fun g => { s.fenced with fence := g }) (funext fun m => ?_)
  split
  · next same => rw [same]; exact congrArg Pod.fence (tget_tset_self ..)
  · next other => exact congrArg Pod.fence (tget_tset_other _ _ _ other)

/-- A pod already in a reset takes another trigger (R474). -/
theorem startPodReset_joins {n cause : Nat} {caller : Option Caller} {s : State} (already : (pod s n).resetting = true) :
    (startPodReset n cause caller s).fenced = s.fenced := by
  rw [startPodReset, if_pos already, updPod_fenced]
  refine congrArg (fun g => { s.fenced with fence := g }) (funext fun m => ?_)
  split
  · next same => rw [same]; rfl
  · rfl

/-- A pod reset starts (R472, R491): its pod takes the reset, and its page loses slots 1 to 63. -/
theorem startPodReset_starts {n cause : Nat} {caller : Option Caller} {s : State} (idle : (pod s n).resetting = false) :
    (startPodReset n cause caller s).fenced = { s.fenced with
      slots := keptKeys n s.cph.slots
      fence := fun m => if m = n then ((pod s n).reset s.now cause).fence else (pod s m).fence } := by
  rw [startPodReset, guards_pass idle]
  extract_lets fenced taken cleared settled quiet ended
  have start : taken.fenced = { s.fenced with fence := fun m => if m = n then ((pod s n).reset s.now cause).fence else (pod s m).fence } :=
    (fenced_of_calm (raiseSys_calm ..)).trans (updPod_fenced ..)
  have keys : cleared.fenced = { taken.fenced with slots := keptKeys n taken.cph.slots } :=
    (quitFrames_fenced ..).trans (quitCipher_fenced ..)
  have settles : settled.fenced = cleared.fenced := (quitCounters_fenced ..).trans ((quitEvents_fenced ..).trans
    ((quitChecks_fenced ..).trans (quitChains_fenced ..)))
  have quiets : quiet.fenced = settled.fenced := (quitSensing_fenced ..).trans (quitMailbox_fenced ..)
  have ends : ended.fenced = quiet.fenced := quitServices_fenced ..
  clear_value ended
  refine .trans (b := ended.fenced) rfl ?_
  rw [ends, quiets, settles, keys, start, show taken.cph.slots = s.cph.slots from congrArg (fun x : Fenced => x.slots) start]

end Sys2Proof.Machine
end

section
/-! Pod resets, functions and the link (R463, R472 to R475, R533). -/

namespace Sys2Proof.Machine

variable {s t u : State} {c : Caller} {req : Bytes}

/-! ### What resets of pods keep -/

/-- Ownership, windows, security, power and the functions are as before, and no pod leaves its reset. -/
structure Guarded (s t : State) : Prop where
  now : t.now = s.now
  pwr : t.pwr = s.pwr
  own : t.own = s.own
  sec : t.sec = s.sec
  linkUp : t.host.linkUp = s.host.linkUp
  vfEnable : t.host.vfEnable = s.host.vfEnable
  numVfs : t.host.numVfs = s.host.numVfs
  windows : ∀ m, (pod t m).windows = (pod s m).windows
  resetting : ∀ m, (pod s m).resetting = true → (pod t m).resetting = true

namespace Guarded

theorem of_fenced (h : t.fenced = s.fenced) : Guarded s t where
  now := congrArg Fenced.now h
  pwr := congrArg Fenced.pwr h
  own := congrArg Fenced.own h
  sec := congrArg Fenced.sec h
  linkUp := congrArg Fenced.linkUp h
  vfEnable := congrArg Fenced.vfEnable h
  numVfs := congrArg Fenced.numVfs h
  windows m := Fenced.windows h m
  resetting m within := (Fenced.resetting h m).trans within

theorem refl (s : State) : Guarded s s := of_fenced rfl

theorem of_calm (h : t.calm = s.calm) : Guarded s t := of_fenced (fenced_of_calm h)

theorem trans (a : Guarded s t) (b : Guarded t u) : Guarded s u :=
  ⟨b.now.trans a.now, b.pwr.trans a.pwr, b.own.trans a.own, b.sec.trans a.sec, b.linkUp.trans a.linkUp, b.vfEnable.trans a.vfEnable,
    b.numVfs.trans a.numVfs, fun m => (b.windows m).trans (a.windows m), fun m within => b.resetting m (a.resetting m within)⟩

theorem ite {a b : State} {p : Prop} [Decidable p] (ha : Guarded s a) (hb : Guarded s b) : Guarded s (if p then a else b) := by
  split <;> assumption

theorem foldl {α : Type} {f : State → α → State} (h : ∀ s x, Guarded s (f s x)) (l : List α) (s : State) : Guarded s (l.foldl f s) := by
  induction l generalizing s with
  | nil => exact refl s
  | cons x l ih => exact (h s x).trans (ih _)

/-- Every pod of a list whose step resets its pod is in a reset at the end. -/
theorem foldl_resets {f : State → Nat → State} (h : ∀ s n, Guarded s (f s n)) (resets : ∀ s n, (pod (f s n) n).resetting = true)
    (l : List Nat) (s : State) {n : Nat} (listed : n ∈ l) : (pod (l.foldl f s) n).resetting = true := by
  induction l generalizing s with
  | nil => cases listed
  | cons x l ih =>
    rcases List.mem_cons.mp listed with rfl | later
    · exact (foldl h l _).resetting _ (resets s n)
    · exact ih _ later

theorem window (h : Guarded s t) (p w : Nat) : window t p w = window s p w := by rw [Machine.window, h.windows, Machine.window]

end Guarded

theorem fenced_pod {n : Nat} {x : Pod} {slots : Table Key} (h : t.fenced = { s.fenced with
    slots := slots, fence := fun m => if m = n then x.fence else (pod s m).fence }) :
    (pod t n).fence = x.fence ∧ ∀ m, m ≠ n → (pod t m).fence = (pod s m).fence := by
  have pods (m : Nat) : (pod t m).fence = if m = n then x.fence else (pod s m).fence := congrFun (congrArg Fenced.fence h :) m
  exact ⟨(pods n).trans (if_pos rfl), fun m other => (pods m).trans (if_neg other)⟩

theorem startPodReset_guarded (n cause : Nat) (caller : Option Caller) (s : State) : Guarded s (startPodReset n cause caller s) := by
  cases within : (pod s n).resetting with
  | true => exact .of_fenced (startPodReset_joins within)
  | false =>
    have starts := startPodReset_starts (cause := cause) (caller := caller) within
    obtain ⟨own, others⟩ := fenced_pod starts
    refine ⟨congrArg Fenced.now starts, congrArg Fenced.pwr starts, congrArg Fenced.own starts, congrArg Fenced.sec starts,
      congrArg Fenced.linkUp starts, congrArg Fenced.vfEnable starts, congrArg Fenced.numVfs starts, fun m => ?_, fun m inside => ?_⟩
    · by_cases same : m = n
      · rw [same]; exact (congrArg Pod.windows own :)
      · exact (congrArg Pod.windows (others m same) :)
    · by_cases same : m = n
      · rw [same]; exact (congrArg Pod.resetting own :)
      · exact ((congrArg Pod.resetting (others m same) :)).trans inside

theorem startPodReset_resets (n cause : Nat) (caller : Option Caller) (s : State) : (pod (startPodReset n cause caller s) n).resetting = true := by
  cases within : (pod s n).resetting with
  | true => exact (Fenced.resetting (startPodReset_joins within) n).trans within
  | false => exact (congrArg Pod.resetting (fenced_pod (startPodReset_starts within)).1 :)

theorem resetMsix_fenced (n : Nat) (s : State) : (resetMsix n s).fenced = s.fenced := rfl

theorem resetFunction_guarded (cause : Nat) (s : State) (n : Nat) : Guarded s (resetMsix n (startPodReset n cause none s)) :=
  (startPodReset_guarded ..).trans (.of_fenced (resetMsix_fenced ..))

theorem resetFunction_resets (cause : Nat) (s : State) (n : Nat) : (pod (resetMsix n (startPodReset n cause none s)) n).resetting = true :=
  startPodReset_resets ..

/-! ### Triggers (R463, R474, R480) -/

theorem execPodReset_starts (start : mayStart s c 0x0F01 [] = true) (form : shaped req 8 [(1, 7)] = true) (sender : c.pod = 0)
    (low : 1 ≤ rd req 0 1) (high : rd req 0 1 ≤ 64) (idle : (pod s (rd req 0 1)).resetting = false) :
    ∃ t, exec (.podReset c req) s = .next t ∧ (pod t (rd req 0 1)).resetting = true ∧ (pod t (rd req 0 1)).cause = 1 ∧
      (pod t (rd req 0 1)).resetAt = s.now ∧ (pod t (rd req 0 1)).windows = (pod s (rd req 0 1)).windows ∧
      (∀ e ∈ t.cph.slots, e.1 / 64 = rd req 0 1 → e.1 % 64 = 0) ∧
      (∀ m, m ≠ rd req 0 1 → (pod t m).resetting = (pod s m).resetting ∧ (pod t m).windows = (pod s m).windows) := by
  have body : podResetBody c req s = (startPodReset (rd req 0 1) 1 (some c) s, .held) := by
    rw [podResetBody, if_neg (by simp only [Bool.or_eq_true, decide_eq_true_eq]; omega)]
  refine ⟨_, runCmd_goesOn (pod0 := true) start form (fun _ => sender) body, ?_⟩
  generalize held : hold _ c req true (startPodReset (rd req 0 1) 1 (some c) s) = t
  have starts := (fenced_of_calm (held ▸ hold_calm ..) : t.fenced = _).trans (startPodReset_starts (cause := 1) (caller := some c) idle)
  obtain ⟨own, others⟩ := fenced_pod starts
  refine ⟨(congrArg Pod.resetting own :), (congrArg Pod.cause own :), (congrArg Pod.resetAt own :), (congrArg Pod.windows own :), ?_,
    fun m other => ⟨(congrArg Pod.resetting (others m other) :), (congrArg Pod.windows (others m other) :)⟩⟩
  rw [show t.cph.slots = keptKeys (rd req 0 1) s.cph.slots from congrArg Fenced.slots starts]
  intro e kept mine
  simpa [mine] using (List.mem_filter.mp kept).2

theorem execVfFunctionLevelReset_resets {n : Nat} (running : Running s) (low : 1 ≤ n) (high : n ≤ 64) (there : fnExists s n = true)
    (idle : (pod s n).resetting = false) :
    ∃ t, exec (.vfFunctionLevelReset n) s = .next t ∧ (pod t n).resetting = true ∧ (pod t n).cause = 2 ∧
      (∀ e ∈ t.host.msix, e.1 / 1024 ≠ n) ∧ (∀ m, m ≠ n → (pod t m).resetting = (pod s m).resetting) := by
  obtain ⟨own, others⟩ := fenced_pod (startPodReset_starts (cause := 2) (caller := none) idle)
  refine ⟨resetMsix n (startPodReset n 2 none s), ?_, (congrArg Pod.resetting own :), (congrArg Pod.cause own :), fun e kept => ?_,
    fun m other => (congrArg Pod.resetting (others m other) :)⟩
  · exact (if_neg (by simp only [Bool.or_eq_true, decide_eq_true_eq]; omega)).trans (if_neg (by simp [running, there]))
  · simpa using (List.mem_filter.mp kept).2

/-- The functions that a lower NumVFs takes away are in a reset (R463). -/
theorem functionsLost {k : Nat} {e : Bool} (enabled : e = decide (k > 0)) {n : Nat} (low : 1 ≤ n) (high : n ≤ 64)
    (there : fnExists s n = true) (gone : fnExists ((vfLost s k).foldl (fun s n => resetMsix n (startPodReset n 3 none s))
      { s with host.vfEnable := e, host.numVfs := k }) n = false) :
    (pod ((vfLost s k).foldl (fun s n => resetMsix n (startPodReset n 3 none s)) { s with host.vfEnable := e, host.numVfs := k })
      n).resetting = true := by
  have kept := Guarded.foldl (resetFunction_guarded 3) (vfLost s k) { s with host.vfEnable := e, host.numVfs := k }
  refine Guarded.foldl_resets (resetFunction_guarded 3) (resetFunction_resets 3) _ _ ?_
  rw [fnExists, kept.vfEnable, kept.numVfs, enabled] at gone
  simp only [Bool.or_eq_false_iff, beq_eq_false_iff_ne, Bool.and_eq_false_iff, decide_eq_false_iff_not] at gone
  simp only [vfLost, List.mem_filter, List.mem_range, there, Bool.and_true, Bool.and_eq_true, decide_eq_true_eq]
  omega

theorem execVfEnable_sets (k : Nat) (running : Running s) : ∃ t, exec (.vfEnable k) s = .next t ∧ t.host.numVfs = vfLimit s k ∧
    t.host.vfEnable = decide (0 < vfLimit s k) ∧
    (∀ n, 1 ≤ n → n ≤ 64 → fnExists s n = true → fnExists t n = false → (pod t n).resetting = true) := by
  have kept := Guarded.foldl (resetFunction_guarded 3) (vfLost s (vfLimit s k))
    { s with host.vfEnable := decide (vfLimit s k > 0), host.numVfs := vfLimit s k }
  exact ⟨_, if_neg (by simp [running]), kept.numVfs, kept.vfEnable, fun n low high => functionsLost rfl low high⟩

theorem execVfDisable_sets {k : Nat} (running : Running s) (fewer : k < s.host.numVfs) (on : s.host.vfEnable = true) :
    ∃ t, exec (.vfDisable k) s = .next t ∧ t.host.numVfs = k ∧ t.host.vfEnable = decide (0 < k) ∧
      (∀ n, 1 ≤ n → n ≤ 64 → fnExists s n = true → fnExists t n = false → (pod t n).resetting = true) := by
  have kept := Guarded.foldl (resetFunction_guarded 3) (vfLost s k) { s with host.vfEnable := decide (k > 0), host.numVfs := k }
  exact ⟨_, if_neg (by simp [running, on, fewer]), kept.numVfs, kept.vfEnable, fun n low high => functionsLost rfl low high⟩

/-! ### The link (R533) -/

theorem mbxLane_updMbxLane_other {p l q m : Nat} (other : 3 * q + m ≠ 3 * p + l) (f : MbxLane → MbxLane) (s : State) :
    mbxLane (updMbxLane p l f s) q m = mbxLane s q m := tget_tset_other _ _ _ other

/-- An update of the three lanes of a pod. -/
theorem mbxLane_three (p : Nat) (f : MbxLane → MbxLane) (s : State) {l : Nat} (lane : l < 3) :
    mbxLane ([0, 1, 2].foldl (fun s l => updMbxLane p l f s) s) p l = f (mbxLane s p l) := by
  simp only [List.foldl_cons, List.foldl_nil]
  interval_cases l
  · rw [mbxLane_updMbxLane_other (by omega), mbxLane_updMbxLane_other (by omega), mbxLane_updMbxLane_self]
  · rw [mbxLane_updMbxLane_other (by omega), mbxLane_updMbxLane_self, mbxLane_updMbxLane_other (by omega)]
  · rw [mbxLane_updMbxLane_self, mbxLane_updMbxLane_other (by omega), mbxLane_updMbxLane_other (by omega)]

theorem execPcieInterfaceReset_resets (kind : PcieReset) (running : Running s) :
    ∃ t, exec (.pcieInterfaceReset kind) s = .next t ∧ t.host.linkUp = false ∧ t.host.vfEnable = false ∧ t.host.numVfs = 0 ∧
      t.host.msix = [] ∧ t.pwr.pcieResetSeen = true ∧ (∀ n, 1 ≤ n → n ≤ 64 → (pod t n).resetting = true) ∧
      (∀ l < 3, (mbxLane t 0 l).enable = false ∧ (mbxLane t 0 l).listens = []) := by
  refine (?_ : ∃ t, execPcieInterfaceReset kind s = _ ∧ _)
  unfold execPcieInterfaceReset
  rw [if_neg (by simp [running])]
  extract_lets reset silence _ keep _ quiet lanes
  have resets {n : Nat} (low : 1 ≤ n) (high : n ≤ 64) : (pod reset n).resetting = true :=
    Guarded.foldl_resets (f := fun s n => startPodReset n 3 none s) (fun _ _ => startPodReset_guarded ..) (fun _ _ => startPodReset_resets ..)
      _ _ (by simp only [List.mem_filter, List.mem_range, decide_eq_true_eq]; omega)
  clear_value reset
  have kept : lanes.fenced = reset.fenced :=
    (foldl_fenced (fun _ _ => fenced_of_calm (updMbxLane_calm ..)) _ _).trans ((quitEngines_fenced ..).trans rfl)
  refine ⟨_, rfl, rfl, rfl, rfl, rfl, rfl, fun n low high => ?_, fun l lane => ?_⟩
  · exact (Fenced.resetting kept n).trans (resets low high)
  · have set : mbxLane lanes 0 l = keep (mbxLane quiet 0 l) := mbxLane_three 0 keep quiet lane
    exact ⟨(congrArg MbxLane.enable set :), (congrArg MbxLane.listens set :)⟩

end Sys2Proof.Machine
end

section
/-! The end of a pod reset (R472, R474), checked accesses (R467 to R470) and the commands that give windows and ports away (R479, R480). -/

namespace Sys2Proof.Machine

variable {s t : State} {c : Caller} {req : Bytes}

/-! ### A completion leaves every other lane -/

section
variable {q m : Nat}

theorem postRecord_other {p l : Nat} (apart : 3 * q + m ≠ 3 * p + l) (r : Bytes) (raiseIt : Bool) (s : State) :
    mbxLane (postRecord p l r raiseIt s) q m = mbxLane s q m := by
  have keeps (u : State) : mbxLane (updMbxLane p l (fun x => { x with kept := x.kept ++ [(r, raiseIt)] }) u) q m = mbxLane u q m :=
    mbxLane_updMbxLane_other apart ..
  unfold postRecord
  dsimp only
  split
  · exact keeps s
  · split
    · next v written =>
      have host : hostOk s p = true := by
        by_contra off
        rw [writeRecord, if_pos (by simpa using off)] at written
        cases written
      obtain ⟨w, writes, -, mgmt⟩ := writeRecord_writes (r := r) (l := l) (raiseIt := raiseIt) host
      rw [written] at writes
      cases writes
      rw [mbxLane_of_mgmt mgmt, mbxLane_updMbxLane_other apart]
    · exact (keeps _).trans (mbxLane_updMbxLane_other apart ..)

variable (apart : 3 * q + m ≠ 3 * c.pod + c.lane)
include apart

theorem writeResponse_other (resp : Bytes) (s : State) : mbxLane (writeResponse c resp s).1 q m = mbxLane s q m := by
  unfold writeResponse
  split
  · rfl
  · split
    · exact mbxLane_of_mgmt (hostWrite_mgmt ..) ..
    · exact mbxLane_updMbxLane_other apart ..

theorem completeNow_other (st : Status) (resp : Bytes) (s : State) : mbxLane (completeNow c st resp s) q m = mbxLane s q m := by
  have posted (u : State) (lost : Bool) (same : mbxLane u q m = mbxLane s q m) :
      mbxLane (postRecord c.pod c.lane (recordBytes st 0 lost c.tag resp) c.raise (forget c u)) q m = mbxLane s q m :=
    (postRecord_other apart ..).trans same
  unfold completeNow
  dsimp only
  split
  · rw [mbxLane_of_mgmt (count_mgmt ..), mbxLane_of_mgmt (bump_mgmt ..), mbxLane_updMbxLane_other apart]
    exact posted _ _ (writeResponse_other apart ..)
  · exact posted _ _ (writeResponse_other apart ..)

theorem complete_other (st : Status) (resp : Bytes) (s : State) : mbxLane (complete c st resp s) q m = mbxLane s q m := by
  have held : mbxLane (mirrorHeld c st s) q m = mbxLane s q m := mbxLane_of_mgmt (mirrorHeld_mgmt ..) ..
  unfold complete
  extract_lets u
  split
  · exact held
  · split
    · exact (completeNow_other apart ..).trans held
    · exact held
    · exact held
    · exact held

end

/-- The completions of several callers leave a lane of none of them. -/
theorem completeAll_other {q m : Nat} (st : Status) (resp : Bytes) {l : List Caller} (s : State)
    (apart : ∀ c ∈ l, 3 * q + m ≠ 3 * c.pod + c.lane) : mbxLane (l.foldl (fun s c => complete c st resp s) s) q m = mbxLane s q m := by
  induction l generalizing s with
  | nil => rfl
  | cons c l ih =>
    obtain ⟨first, later⟩ := List.forall_mem_cons.mp apart
    exact (ih _ later).trans (complete_other first ..)

/-! ### Accesses that retire (R467, R468) -/

/-- DDR after an access. -/
def Checked.put (a : Checked) (m : List Host.Cell) : List Host.Cell := a.write.elim m fun w => memPut m w.1 w.2

/-- An access that retires is in flight no more; a write puts its bytes down. -/
theorem retireAccess_calm (a : Checked) (s : State) : (retireAccess a s).calm =
    { s with fw.inFlight := s.fw.inFlight.filter (fun b => b.id != a.id), ddr := a.put s.ddr }.calm := by
  unfold retireAccess Checked.put
  extract_lets _ gone put
  have written : put.calm = { gone with ddr := a.put s.ddr }.calm := by
    unfold put Checked.put
    split
    · next write => rw [write]; exact count_calm ..
    · next write => rw [write]; rfl
  split
  · exact (emit_calm ..).trans ((count_calm ..).trans written)
  · exact written

theorem retireAll_inFlight (l : List Checked) (s : State) {b : Checked} (left : b ∈ (l.foldl (fun s a => retireAccess a s) s).fw.inFlight) :
    b ∈ s.fw.inFlight ∧ ∀ a ∈ l, b.id ≠ a.id := by
  induction l generalizing s with
  | nil => exact ⟨left, fun _ h => nomatch h⟩
  | cons x l ih =>
    obtain ⟨here, apart⟩ := ih _ left
    rw [show (retireAccess x s).fw.inFlight = _ from congrArg (fun y : Calm => y.fw.inFlight) (retireAccess_calm x s)] at here
    obtain ⟨listed, other⟩ := List.mem_filter.mp here
    exact ⟨listed, List.forall_mem_cons.mpr ⟨by simpa using other, apart⟩⟩

theorem retireAll_pods (l : List Checked) (s : State) : (l.foldl (fun s a => retireAccess a s) s).pods = s.pods := by
  induction l generalizing s with
  | nil => rfl
  | cons x l ih => exact (ih _).trans (congrArg Calm.pods (retireAccess_calm x s))

theorem execCheckedAccessRetire_retires {i : Nat} {a : Checked} (flies : s.fw.inFlight.find? (fun x => x.id == i) = some a) :
    ∃ t, exec (.checkedAccessRetire i) s = .next t ∧ (∀ b ∈ t.fw.inFlight, b.id ≠ i) ∧
      (∀ addr data, a.write = some (addr, data) → a.read = none → t.ddr = memPut s.ddr addr data) ∧
      (∀ addr len, a.read = some (addr, len) → a.write = none → t.ddr = s.ddr ∧ Output.apertureRead a.pod (ddrRead s addr len) ∈ t.out) := by
  have named : a.id = i := by simpa using List.find?_some flies
  have calm := retireAccess_calm a s
  have ddr : (retireAccess a s).ddr = a.put s.ddr := congrArg Calm.ddr calm
  refine ⟨retireAccess a s, ?_, fun b left => ?_, fun addr data write _ => ?_, fun addr len read unwritten => ⟨?_, ?_⟩⟩
  · exact show execCheckedAccessRetire i s = _ by rw [execCheckedAccessRetire, flies]
  · rw [show (retireAccess a s).fw.inFlight = _ from congrArg (fun y : Calm => y.fw.inFlight) calm, named] at left
    simpa using (List.mem_filter.mp left).2
  · rw [ddr, Checked.put, write]
    rfl
  · rw [ddr, Checked.put, unwritten]
    rfl
  · simp only [retireAccess, unwritten, read]
    exact List.mem_append_right _ (List.mem_singleton.mpr rfl)

/-! ### POD_RESET_COMPLETE (R472, R474) -/

theorem mbxLane_resetLanes (n : Nat) (s : State) {l : Nat} (lane : l < 3) : mbxLane (resetLanes n s) n l = {} :=
  mbxLane_three n (fun _ => {}) s lane

theorem execPodResetComplete_completes {n : Nat} (low : 1 ≤ n) (high : n ≤ 64) (within : (pod s n).resetting = true)
    (runs : s.mgmt.fwState ≠ .restarting) (callers : ∀ c ∈ (pod s n).resetCallers, c.pod ≠ n ∧ c.lane ≤ 2) :
    ∃ t, exec (.podResetComplete n) s = .next t ∧ (pod t n).resetting = false ∧ (pod t n).resetSeen = true ∧
      (pod t n).resetCount = (pod s n).resetCount + 1 ∧ (∀ l < 3, mbxLane t n l = {}) ∧ (∀ a ∈ t.fw.inFlight, a.pod ≠ n) ∧
      (∀ m, m ≠ n → pod t m = pod s m) := by
  refine (?_ : ∃ t, execPodResetComplete n s = _ ∧ _)
  unfold execPodResetComplete
  rw [if_neg (by simp only [Bool.or_eq_true, decide_eq_true_eq]; omega), if_neg (by simp [within, runs])]
  extract_lets retired waiting dur bare back told
  have pods (m : Nat) : pod retired m = pod s m := by rw [pod, retireAll_pods, pod]
  have others : ∀ c ∈ waiting, c.pod ≠ n ∧ c.lane ≤ 2 := by rw [show waiting = (pod s n).resetCallers by rw [← pods]]; exact callers
  obtain ⟨t, ends, calm, lanes⟩ : ∃ t, waiting.foldl (fun s c => complete c St.ok (leBytes 2 St.ok.toNat ++ zeros 2 ++ leBytes 4 dur) s) told = t ∧
      t.calm = back.calm ∧ ∀ l < 3, mbxLane t n l = {} := by
    refine ⟨_, rfl, (foldl_calm _ (fun _ _ => complete_calm ..) waiting told).trans (raiseSys_calm ..), fun l lane => ?_⟩
    have fresh : mbxLane back n l = {} := mbxLane_resetLanes n retired lane
    exact (completeAll_other _ _ told fun c listed => by have := others c listed; omega).trans
      ((mbxLane_of_mgmt (raiseSys_mgmt ..) ..).trans fresh)
  have final (m : Nat) : pod t m = pod back m := by rw [pod, show t.pods = back.pods from congrArg Calm.pods calm, pod]
  have own : pod back n = { pod bare n with resetting := false, resetSeen := true, resetCount := (pod bare n).resetCount + 1
                                            lastResetUs := BitVec.ofNat 12 (min 0xFFF dur), resetCallers := [] } := tget_tset_self ..
  have kept : pod bare n = pod s n := pods n
  have flights : t.fw.inFlight = retired.fw.inFlight := by rw [show t.fw = back.fw from congrArg Calm.fw calm]; rfl
  refine ⟨t, congrArg _ ends, ?_, ?_, ?_, lanes, fun a flies => ?_, fun m other => ?_⟩
  · rw [final, own]
  · rw [final, own]
  · rw [final, own, kept]
  · obtain ⟨listed, apart⟩ := retireAll_inFlight _ _ (flights ▸ flies)
    exact fun mine => apart a (List.mem_filter.mpr ⟨listed, by simp [mine]⟩) rfl
  · exact (final m).trans ((tget_tset_other _ _ _ other).trans (pods m))

end Sys2Proof.Machine
end

section
/-! The obligation of pod resets, functions and the link (O43). -/

namespace Sys2Proof

open Machine

/-- Settles O43, trigger by trigger, and the end of a reset. -/
theorem podsResetAndReturn : Obligations.PodsResetAndReturn := by
  unfold Obligations.PodsResetAndReturn
  exact ⟨fun s c req => execPodReset_starts, fun s n => execVfFunctionLevelReset_resets, fun s => execVfEnable_sets,
    fun s k => execVfDisable_sets, fun s => execPcieInterfaceReset_resets, fun s running => if_pos running,
    fun s n => execPodResetComplete_completes⟩

end Sys2Proof
end

section
/-! Aperture accesses, windows and port assignment (R466 to R470, R479, R480). -/

namespace Sys2Proof.Machine

variable {s t : State} {c : Caller} {req : Bytes}

/-! ### Aperture accesses -/

section
variable {n off len : Nat} {write : Bool} {data : Bytes} (low : 1 ≤ n) (high : n ≤ 64) (fits : off + len ≤ 2 ^ 32)
  (there : fnExists s n = true) (running : Running s)
include low high fits there running

/-- Whether a window grants an access at an offset of it (R468). -/
def Window.grants (w : Window) (write : Bool) (off len : Nat) : Bool := (if write then w.write else w.read) && decide (off + len ≤ w.size)

theorem execApertureAccess_fenced (within : (pod s n).resetting = true) : exec (.apertureAccess n write off len data) s =
    .next (if write then s else emit (.apertureRead n (zeros len)) s) := by
  refine (?_ : execApertureAccess n write off len data s = _)
  unfold execApertureAccess
  rw [if_neg (by simp only [Bool.or_eq_true, decide_eq_true_eq]; omega), if_neg (by simp [there, running]), if_pos within]

section
variable (idle : (pod s n).resetting = false)
include idle

theorem execApertureAccess_flies (granted : (window s n (off / 2 ^ 29)).grants write (off % 2 ^ 29) len = true) :
    exec (.apertureAccess n write off len data) s = .next { s with
      fw.inFlight := s.fw.inFlight ++ [{ id := s.fw.nextId, pod := n, epoch := s.fw.epoch,
                                         write := if write then some ((window s n (off / 2 ^ 29)).base + off % 2 ^ 29, data.take len) else none,
                                         read := if write then none else some ((window s n (off / 2 ^ 29)).base + off % 2 ^ 29, len) }]
      fw.nextId := s.fw.nextId + 1 } := by
  refine (?_ : execApertureAccess n write off len data s = _)
  unfold execApertureAccess
  rw [if_neg (by simp only [Bool.or_eq_true, decide_eq_true_eq]; omega), if_neg (by simp [there, running]), guards_pass idle]
  exact if_pos granted

theorem execApertureAccess_denied (refused : (window s n (off / 2 ^ 29)).grants write (off % 2 ^ 29) len = false) :
    ∃ addr, exec (.apertureAccess n write off len data) s =
      .next (if write then deny n (if write then 1 else 0) (off / 2 ^ 29) (off % 2 ^ 29) addr s
        else emit (.apertureRead n (zeros len)) (deny n (if write then 1 else 0) (off / 2 ^ 29) (off % 2 ^ 29) addr s)) := by
  refine ⟨if (window s n (off / 2 ^ 29)).isOpen then some ((window s n (off / 2 ^ 29)).base + off % 2 ^ 29) else none,
    (?_ : execApertureAccess n write off len data s = _)⟩
  unfold execApertureAccess
  rw [if_neg (by simp only [Bool.or_eq_true, decide_eq_true_eq]; omega), if_neg (by simp [there, running]), guards_pass idle]
  exact guards_pass refused

end
end

/-- What a denial changes beside its reports: the firewall's log and the pod's DENY_SEEN (R469). -/
theorem deny_calm (p kind w offset : Nat) (addr : Option Nat) (s : State) : (deny p kind w offset addr s).calm =
    (updPod p (fun x => { x with denySeen := true })
      { s with fw.logPod := if (s.fw.denyCount == 0) = true then BitVec.ofNat 7 p else s.fw.logPod
               fw.logKind := if (s.fw.denyCount == 0) = true then BitVec.ofNat 2 kind else s.fw.logKind
               fw.logWindow := if (s.fw.denyCount == 0) = true then BitVec.ofNat 3 w else s.fw.logWindow
               fw.logOffset := if (s.fw.denyCount == 0) = true then BitVec.ofNat 32 offset else s.fw.logOffset
               fw.denyCount := satAdd s.fw.denyCount 1, fw.denySeen := true }).calm :=
  (raiseSys_calm ..).trans ((count_calm ..).trans (bump_calm ..))

theorem deny_denies (p kind w offset : Nat) (addr : Option Nat) (s : State) :
    DdrSame s (deny p kind w offset addr s) ∧ (deny p kind w offset addr s).fw.inFlight = s.fw.inFlight ∧
    (deny p kind w offset addr s).fw.denyCount = satAdd s.fw.denyCount 1 ∧ (deny p kind w offset addr s).fw.denySeen = true ∧
    (pod (deny p kind w offset addr s) p).denySeen = true ∧
    (s.fw.denyCount = 0 → (deny p kind w offset addr s).fw.logPod = BitVec.ofNat 7 p ∧
      (deny p kind w offset addr s).fw.logOffset = BitVec.ofNat 32 offset) := by
  have calm := deny_calm p kind w offset addr s
  have fw := congrArg Calm.fw calm
  have ddr : (deny p kind w offset addr s).ddr = s.ddr := congrArg Calm.ddr calm
  have denied : (deny p kind w offset addr s).pods = tset s.pods p { pod s p with denySeen := true } := congrArg Calm.pods calm
  refine ⟨fun a => by rw [ddr], (congrArg Firewall.inFlight fw :), (congrArg Firewall.denyCount fw :),
    (congrArg Firewall.denySeen fw :), ?_, fun fresh => ?_⟩
  · rw [pod, denied, tget_tset_self]
  · exact ⟨(congrArg Firewall.logPod fw :).trans (if_pos (by simp [fresh])), (congrArg Firewall.logOffset fw :).trans (if_pos (by simp [fresh]))⟩

theorem mem_out_emit (o : Output) (s : State) : o ∈ (emit o s).out := List.mem_append_right _ (List.mem_singleton.mpr rfl)

/-! ### pod.window and pod.assign -/

theorem reservedFrom_le (p : Part) : reservedFrom p ≤ p.ddrBytes := by
  unfold reservedFrom
  omega

/-- The window that a pod.window asks for (R480). -/
def windowAsked (req : Bytes) : Window := { base := rd req 8 8, size := rd req 16 8, read := bit (rd req 2 1) 0, write := bit (rd req 2 1) 1 }

theorem execPodWindow_sets (start : mayStart s c 0x0F03 [.pod (rd req 0 1)] = true) (form : shaped req 24 [(3, 5)] = true)
    (sender : c.pod = 0) (low : 1 ≤ rd req 0 1) (high : rd req 0 1 ≤ 64) (has : rd req 1 1 ≤ 7) (grants : 1 ≤ rd req 2 1)
    (flags : rd req 2 1 ≤ 3) (base : rd req 8 8 % 2 ^ 21 = 0) (size : rd req 16 8 % 2 ^ 21 = 0) (some_ : rd req 16 8 ≠ 0)
    (most : rd req 16 8 ≤ 2 ^ 29) (fits : rd req 8 8 + rd req 16 8 ≤ reservedFrom s.part) (settled : oldAccesses s = 0)
    (clear : windowConflict s (rd req 0 1) (rd req 8 8) (rd req 16 8) = false) :
    exec (.podWindow c req) s = Answers c 0x0F03 req St.pending (leBytes 2 St.pending.toNat ++ zeros 2 ++ leBytes 4 (s.fw.epoch + 1).toNat)
      { updPod (rd req 0 1) (fun p => { p with windows := tset p.windows (rd req 1 1) (windowAsked req) }) s with
        fw.epoch := s.fw.epoch + 1 } := by
  have within := fits.trans (reservedFrom_le s.part)
  have ranged : (decide (rd req 0 1 = 0) || decide (rd req 0 1 > 64) || decide (rd req 1 1 > 7) || decide (rd req 2 1 > 3)
      || rd req 8 8 % 2 ^ 21 != 0 || rd req 16 8 % 2 ^ 21 != 0 || decide (rd req 16 8 > 2 ^ 29)
      || (rd req 2 1 != 0 && decide (rd req 16 8 = 0)) || (rd req 2 1 != 0 && decide (rd req 8 8 + rd req 16 8 > s.part.ddrBytes))) = false := by
    simp only [Bool.or_eq_false_iff, Bool.and_eq_false_iff, decide_eq_false_iff_not, bne_eq_false_iff_eq]
    omega
  have open_ : (rd req 2 1 != 0 && (windowConflict s (rd req 0 1) (rd req 8 8) (rd req 16 8)
      || decide (rd req 8 8 + rd req 16 8 > reservedFrom s.part))) = false := by
    rw [clear, Bool.false_or, decide_eq_false (Nat.not_lt.mpr fits), Bool.and_false]
  refine runCmd_answers start form (fun _ => sender) (?_ : podWindowBody req s = _)
  unfold podWindowBody
  dsimp only
  rw [guards_pass ranged, if_neg (by omega), guards_pass open_, if_neg (by omega)]
  rfl

theorem chain_of_calm (h : t.calm = s.calm) (m : Nat) : chain t m = chain s m := by
  rw [chain, show t.chains = s.chains from congrArg Calm.chains h, chain]

theorem chain_resetChain_self (k : Nat) (s : State) : (chain (resetChain k s) k).cfg = {} := by
  rw [resetChain, chain_updChain_self]

/-- The chains of a port given away (R110). -/
theorem resetChains_four (p : Nat) (s : State) :
    (∀ k < 4, (chain ([0, 1, 2, 3].foldl (fun s k => resetChain (4 * p + k) s) s) (4 * p + k)).cfg = {}) ∧
    (∀ m, 4 * p + 4 ≤ m → chain ([0, 1, 2, 3].foldl (fun s k => resetChain (4 * p + k) s) s) m = chain s m) := by
  have other {i j : Nat} (h : j ≠ i) (u : State) : chain (resetChain i u) j = chain u j := chain_updChain_other h ..
  simp only [List.foldl_cons, List.foldl_nil]
  refine ⟨fun k lane => ?_, fun m beyond => ?_⟩
  · interval_cases k
    · rw [other (by omega), other (by omega), other (by omega), chain_resetChain_self]
    · rw [other (by omega), other (by omega), chain_resetChain_self]
    · rw [other (by omega), chain_resetChain_self]
    · rw [chain_resetChain_self]
  · rw [other (by omega), other (by omega), other (by omega), other (by omega)]

theorem execPodAssign_assigns (start : mayStart s c 0x0F02 [.port (rd req 0 2), .pod (rd req 2 1)] = true)
    (form : shaped req 8 [(3, 5)] = true) (sender : c.pod = 0) (has : rd req 0 2 < s.part.ports) (pod_ : rd req 2 1 ≤ 64)
    (closed : isOpen s (rd req 0 2) = false) :
    ∃ t, exec (.podAssign c req) s = .next t ∧ portOwner t (rd req 0 2) = rd req 2 1 ∧
      (∀ p, p ≠ rd req 0 2 → portOwner t p = portOwner s p) ∧ (∀ k < 4, (chain t (4 * rd req 0 2 + k)).cfg = {}) ∧
      (∀ m, 4 * rd req 0 2 + 4 ≤ m → chain t m = chain s m) := by
  obtain ⟨v, chains, own, body⟩ : ∃ v, v.chains = s.chains ∧ v.own.ports = tset s.own.ports (rd req 0 2) (rd req 2 1) ∧
      podAssignBody req s = answer St.ok (resetSources ((List.range 8).map (fun e => 8 * rd req 0 2 + e))
        ([0, 1, 2, 3].foldl (fun s k => resetChain (4 * rd req 0 2 + k) s) v)) := by
    refine ⟨{ (if portOwner s (rd req 0 2) = rd req 2 1 then s else unmapPort (rd req 0 2) s) with
      own.ports := tset (if portOwner s (rd req 0 2) = rd req 2 1 then s else unmapPort (rd req 0 2) s).own.ports (rd req 0 2) (rd req 2 1) },
      ?_, ?_, ?_⟩
    · dsimp only; split <;> rfl
    · dsimp only; split <;> rfl
    · rw [podAssignBody, if_neg (by simp only [Bool.or_eq_true, decide_eq_true_eq]; omega), guards_pass closed]
  obtain ⟨reset, others⟩ := resetChains_four (rd req 0 2) v
  obtain ⟨t, next, calm⟩ := answers_next c 0x0F02 req St.ok (statusResp St.ok) (resetSources ((List.range 8).map (fun e => 8 * rd req 0 2 + e))
    ([0, 1, 2, 3].foldl (fun s k => resetChain (4 * rd req 0 2 + k) s) v))
  have calm := calm.trans (resetSources_calm ..)
  have chainsOf (m : Nat) : chain t m = chain ([0, 1, 2, 3].foldl (fun s k => resetChain (4 * rd req 0 2 + k) s) v) m :=
    chain_of_calm calm m
  have ports : t.own.ports = tset s.own.ports (rd req 0 2) (rd req 2 1) := (congrArg (fun x : Calm => x.own.ports) calm).trans own
  refine ⟨t, (runCmd_answers (pod0 := true) start form (fun _ => sender) body).trans next, ?_, fun p other => ?_,
    fun k lane => by rw [chainsOf, reset k lane], fun m beyond => ?_⟩
  · rw [portOwner, ports, tget_tset_self]
  · rw [portOwner, ports, tget_tset_other _ _ _ other, portOwner]
  · rw [chainsOf, others m beyond, chain, chains, chain]

end Sys2Proof.Machine
end

section
/-! The obligation of checked accesses (O44). -/

namespace Sys2Proof

open Machine

/-- Settles O44, by whether the window grants the access. -/
theorem accessesAreChecked : Obligations.AccessesAreChecked := by
  unfold Obligations.AccessesAreChecked
  refine ⟨?_, fun s i a => execCheckedAccessRetire_retires, fun s c req => execPodWindow_sets, fun s c req => execPodAssign_assigns⟩
  intro s n off len write data low high fits there running w granted
  refine ⟨fun idle => execApertureAccess_flies low high fits there running idle, fun idle refused => ?_,
    execApertureAccess_fenced low high fits there running⟩
  obtain ⟨addr, step⟩ := execApertureAccess_denied (write := write) (data := data) low high fits there running idle refused
  have denies := deny_denies n (if write then 1 else 0) (off / 2 ^ 29) (off % 2 ^ 29) addr s
  generalize deny n (if write then 1 else 0) (off / 2 ^ 29) (off % 2 ^ 29) addr s = u at step denies
  obtain ⟨ddr, inFlight, count, seen, podSeen, log⟩ := denies
  cases write with
  | true => exact ⟨_, step.trans (congrArg _ (if_pos rfl)), ddr, inFlight, count, seen, podSeen, log, nofun⟩
  | false => exact ⟨_, step.trans (congrArg _ (if_neg Bool.false_ne_true)), ddr, inFlight, count, seen, podSeen, log, fun _ => mem_out_emit ..⟩

end Sys2Proof
end

section
/-! Device resets (R528 to R530): the causes, and what a reset keeps. -/

namespace Sys2Proof.Machine

variable {s t u : State} {c : Caller} {req : Bytes}

/-! ### The balls (R529) -/

/-- Only outputs were added. -/
def Emits (s t : State) : Prop := ∃ o, t = { s with out := o }

namespace Emits

theorem refl (s : State) : Emits s s := ⟨s.out, rfl⟩

theorem trans (a : Emits s t) (b : Emits t u) : Emits s u := by
  obtain ⟨_, rfl⟩ := a
  obtain ⟨o, rfl⟩ := b
  exact ⟨o, rfl⟩

theorem emit (o : Output) (s : State) : Emits s (emit o s) := ⟨_, rfl⟩

theorem ite {a b : State} {p : Prop} [Decidable p] (ha : Emits s a) (hb : Emits s b) : Emits s (if p then a else b) := by
  split <;> assumption

theorem foldl {α : Type} {f : State → α → State} (h : ∀ s x, Emits s (f s x)) (l : List α) (s : State) : Emits s (l.foldl f s) := by
  induction l generalizing s with
  | nil => exact refl s
  | cons x l ih => exact (h s x).trans (ih _)

end Emits

theorem pinsDown_emits (s : State) : Emits s (pinsDown s) := by
  unfold pinsDown
  extract_lets quiet released
  have quiets : Emits s quiet := .ite (.emit ..) (.refl s)
  have releases : Emits quiet released := .foldl (fun _ _ => .emit ..) _ _
  exact .ite ((quiets.trans releases).trans (.emit ..)) (quiets.trans releases)

theorem resetBalls_emits (s : State) : Emits s (resetBalls s) :=
  (pinsDown_emits s).trans ((Emits.emit ..).trans ((Emits.emit ..).trans (.foldl (fun _ _ => .emit ..) _ _)))

/-! ### The reset phase (R528, R530) -/

/-- The device in the reset phase that a cause begins, its outputs aside. -/
def resetBegun (cause ends : Nat) (out : List Output) (s : State) : State :=
  { afterReset { s with out := out } with
    pwr := { (afterReset { s with out := out }).pwr with
      phase := .resetPhase, causeEnd := ends, cause := BitVec.ofNat 4 cause, resetCount := s.pwr.resetCount + 1, resetSeen := true } }

theorem beginReset_begins (cause ends : Nat) (off : s.pwr.phase ≠ .resetPhase) : ∃ out, beginReset cause ends s =
    if cause = 6 then resetBegun cause ends out s else dropStandby (resetBegun cause ends out s) := by
  obtain ⟨out, balls⟩ := resetBalls_emits s
  refine ⟨out, (if_neg off).trans ?_⟩
  rw [balls]
  rfl

theorem resetBegun_resets (ends : Nat) (out : List Output) (s : State) : DeviceReset 6 s (resetBegun 6 ends out s) where
  phase := rfl
  cause := rfl
  count := rfl
  kwk := rfl
  latch := ⟨rfl, rfl, rfl⟩
  fuses := ⟨rfl, rfl, rfl⟩
  mram := rfl
  flash := ⟨rfl, rfl, rfl⟩
  firmware := ⟨rfl, rfl⟩
  lines := ⟨rfl, rfl, rfl, rfl⟩
  host := ⟨rfl, rfl, rfl⟩
  engines := ⟨rfl, rfl, rfl, rfl⟩
  isolation := ⟨rfl, rfl, rfl⟩

theorem dropStandby_resets {cause : Nat} (other : BitVec.ofNat 4 cause ≠ 6) (ends : Nat) (out : List Output) (s : State) :
    DeviceReset (BitVec.ofNat 4 cause) s (dropStandby (resetBegun cause ends out s)) where
  phase := rfl
  cause := rfl
  count := rfl
  kwk := rfl
  latch := ⟨rfl, rfl, rfl⟩
  fuses := ⟨rfl, rfl, rfl⟩
  mram := (if_neg other).symm
  flash := ⟨rfl, rfl, rfl⟩
  firmware := ⟨rfl, rfl⟩
  lines := ⟨rfl, rfl, rfl, rfl⟩
  host := ⟨rfl, rfl, rfl⟩
  engines := ⟨rfl, rfl, rfl, rfl⟩
  isolation := ⟨rfl, rfl, rfl⟩

/-- What a device reset is measured from: the count of resets, the security state, MRAM and the flash. -/
theorem DeviceReset.of_same {code : BitVec 4} (h : DeviceReset code u t) (count : u.pwr.resetCount = s.pwr.resetCount) (sec : u.sec = s.sec)
    (mram : u.mram = s.mram) (flash : u.mgmt.slot0 = s.mgmt.slot0 ∧ u.mgmt.slot1 = s.mgmt.slot1 ∧ u.mgmt.selector = s.mgmt.selector) :
    DeviceReset code s t where
  phase := h.phase
  cause := h.cause
  count := count ▸ h.count
  kwk := sec ▸ h.kwk
  latch := sec ▸ h.latch
  fuses := sec ▸ h.fuses
  mram := mram ▸ h.mram
  flash := ⟨h.flash.1.trans flash.1, h.flash.2.1.trans flash.2.1, h.flash.2.2.trans flash.2.2⟩
  firmware := h.firmware
  lines := h.lines
  host := h.host
  engines := h.engines
  isolation := h.isolation

/-- A reset that is no wake (R528, R537): what it keeps, when the phase may end, and the credits at their reset values (R437). -/
theorem beginReset_resets {cause ends : Nat} (off : s.pwr.phase ≠ .resetPhase) (other : cause ≠ 6) (small : cause < 16) :
    DeviceReset (BitVec.ofNat 4 cause) s (beginReset cause ends s) ∧ (beginReset cause ends s).pwr.causeEnd = ends ∧
      (beginReset cause ends s).now = s.now ∧ (beginReset cause ends s).mgmt.credits = [] := by
  obtain ⟨out, begins⟩ := beginReset_begins cause ends off
  have code : BitVec.ofNat 4 cause ≠ 6 := fun same => other (by
    have := congrArg BitVec.toNat same
    rwa [BitVec.toNat_ofNat, Nat.mod_eq_of_lt small] at this)
  rw [begins, if_neg other]
  exact ⟨dropStandby_resets code .., rfl, rfl, rfl⟩

/-- A wake's reset (R538). -/
theorem beginReset_wakes {ends : Nat} (off : s.pwr.phase ≠ .resetPhase) : DeviceReset 6 s (beginReset 6 ends s) ∧
    (beginReset 6 ends s).pwr.wakeCause = s.pwr.wakeCause ∧ (beginReset 6 ends s).pwr.wakePort = s.pwr.wakePort ∧
    (beginReset 6 ends s).pwr.wakeEp = s.pwr.wakeEp ∧ (beginReset 6 ends s).pwr.wakeSeen = s.pwr.wakeSeen := by
  obtain ⟨out, begins⟩ := beginReset_begins 6 ends off
  rw [begins, if_pos rfl]
  exact ⟨resetBegun_resets .., rfl, rfl, rfl, rfl⟩

/-! ### The causes (R463, R528, R541) -/

theorem execSysResetNLow_resets {dur : Nat} (off : s.pwr.phase ≠ .resetPhase) (qualifies : 1000 ≤ dur) :
    ∃ t, exec (.sysResetNLow dur) s = .next t ∧ DeviceReset 2 s t ∧ t.pwr.causeEnd = s.now + nsTicks dur ∧ t.mgmt.credits = [] := by
  obtain ⟨reset, ends, -, credits⟩ := beginReset_resets (s := advanceTo (s.now + us 1) s) (cause := 2) (ends := s.now + nsTicks dur) off
    (by decide) (by decide)
  exact ⟨_, congrArg Host.Outcome.next (if_neg (Nat.not_lt.mpr qualifies)), reset.of_same rfl rfl rfl ⟨rfl, rfl, rfl⟩, ends, credits⟩

theorem execBrownOut_resets {rails dur : Nat} (off : s.pwr.phase ≠ .resetPhase) (qualifies : 1000 ≤ dur) (low : rails % 16 ≠ 0) :
    ∃ t, exec (.brownOut rails dur) s = .next t ∧ DeviceReset 3 s t ∧ t.pwr.brownoutRail = BitVec.ofNat 4 rails ∧
      t.pwr.brownoutSeen = true := by
  obtain ⟨reset, -⟩ := beginReset_resets (s := advanceTo (s.now + us 1) s) (cause := 3) (ends := s.now + nsTicks dur) off (by decide) (by decide)
  have noted : DeviceReset 3 (advanceTo (s.now + us 1) s) { beginReset 3 (s.now + nsTicks dur) (advanceTo (s.now + us 1) s) with
      pwr.brownoutRail := BitVec.ofNat 4 rails, pwr.brownoutSeen := true } :=
    { phase := reset.phase, cause := reset.cause, count := reset.count, kwk := reset.kwk, latch := reset.latch, fuses := reset.fuses
      mram := reset.mram, flash := reset.flash, firmware := reset.firmware, lines := reset.lines, host := reset.host
      engines := reset.engines, isolation := reset.isolation }
  exact ⟨_, congrArg Host.Outcome.next (if_neg (by simp only [Bool.or_eq_true, decide_eq_true_eq]; omega)), noted.of_same rfl rfl rfl ⟨rfl, rfl, rfl⟩, rfl, rfl⟩

theorem execPf0FunctionLevelReset_resets (running : Running s) (up : s.host.linkUp = true) :
    ∃ t, exec .pf0FunctionLevelReset s = .next t ∧ DeviceReset 4 s t :=
  ⟨_, congrArg Host.Outcome.next (if_neg (by simp [running, up])), (beginReset_resets (by rw [running]; decide) (by decide) (by decide)).1⟩

theorem execPowerOn_resets (dur : Nat) (s : State) : ∃ t, exec (.powerOn dur) s = .next t ∧ t.pwr.phase = .resetPhase ∧ t.pwr.cause = 1 ∧
    t.pwr.causeEnd = s.now + nsTicks dur ∧ t.sec.kwk = none ∧ t.sec.tamper = false ∧ t.mram = { s.mram with standby := none } ∧
    FusesKept s t ∧ t.ports = [] := by
  obtain ⟨out, balls⟩ := resetBalls_emits s
  refine ⟨_, rfl, rfl, rfl, rfl, rfl, rfl, ?_, ⟨le_refl _, BitVec.and_self, le_refl _⟩, rfl⟩
  rw [balls]
  rfl

theorem execSysReset_resets (start : mayStart s c 0x1203 [] = true) (form : shaped req 8 [(0, 8)] = true) (sender : c.pod = 0)
    (running : Running s) (single : s.trk.pair.role ≠ .active) :
    ∃ t, exec (.sysReset c req) s = .next t ∧ DeviceReset 5 s t ∧ s.now + us 100 ≤ t.now := by
  let u := advanceTo (s.now + us 100) (completeStatus c St.ok s)
  have calm : (completeStatus c St.ok s).calm = s.calm := completeStatus_calm ..
  have off : u.pwr.phase ≠ .resetPhase := by
    rw [show u.pwr = s.pwr from congrArg Calm.pwr calm, running]
    decide
  have desk : (completeStatus c St.ok s).mgmt.core = s.mgmt.core := (complete_desk ..).core
  have body : sysResetBody c s = (beginReset 5 u.now u, .untaken) := if_neg single
  obtain ⟨reset, -, at_, -⟩ := beginReset_resets (s := u) (cause := 5) (ends := u.now) off (by decide) (by decide)
  have step : exec (.sysReset c req) s = .next (forget c (beginReset 5 u.now u)) := by
    refine congrArg Host.Outcome.next ((runCmd_starts (fm := ⟨0x1203, shaped req 8 [(0, 8)], true, []⟩) start form (fun _ => sender)).trans ?_)
    rw [body]
  have kept : DeviceReset 5 u (forget c (beginReset 5 u.now u)) :=
    { phase := reset.phase, cause := reset.cause, count := reset.count, kwk := reset.kwk, latch := reset.latch, fuses := reset.fuses
      mram := reset.mram, flash := reset.flash, firmware := reset.firmware, lines := reset.lines, host := reset.host
      engines := reset.engines, isolation := reset.isolation }
  refine ⟨_, step, kept.of_same (congrArg (fun x : Calm => x.pwr.resetCount) calm) (congrArg Calm.sec calm) (congrArg Calm.mram calm)
    ⟨(congrArg Mgmt.slot0 desk :), (congrArg Mgmt.slot1 desk :), (congrArg Mgmt.selector desk :)⟩, ?_⟩
  rw [show (forget c (beginReset 5 u.now u)).now = u.now from at_]
  exact Nat.le_max_right ..

theorem execSysResetNLow_prolongs {dur : Nat} (within : s.pwr.phase = .resetPhase) (qualifies : 1000 ≤ dur) :
    ∃ t, exec (.sysResetNLow dur) s = .next t ∧ t.pwr.causeEnd = max s.pwr.causeEnd (s.now + nsTicks dur) ∧
      t.pwr.resetCount = s.pwr.resetCount :=
  ⟨_, congrArg Host.Outcome.next ((if_neg (Nat.not_lt.mpr qualifies)).trans (if_pos within)), rfl, rfl⟩

theorem short_unqualified {dur : Nat} (rails : Nat) (short : dur < 1000) :
    exec (.sysResetNLow dur) s = .next s ∧ exec (.brownOut rails dur) s = .next s :=
  ⟨congrArg Host.Outcome.next (if_pos short), congrArg Host.Outcome.next (if_pos (by simp [short]))⟩

/-! ### Wakes (R537, R538) -/

/-- A wake tells its cause, its port and its endpoint, and resets the device with cause 6 (R538). -/
theorem wake_wakes (cause p e : Nat) (off : s.pwr.phase ≠ .resetPhase) : DeviceReset 6 s (wake cause p e s) ∧
    (wake cause p e s).pwr.wakeCause = BitVec.ofNat 4 cause ∧ (wake cause p e s).pwr.wakePort = BitVec.ofNat 7 p ∧
    (wake cause p e s).pwr.wakeEp = BitVec.ofNat 14 e ∧ (wake cause p e s).pwr.wakeSeen = true := by
  obtain ⟨reset, told⟩ := beginReset_wakes (ends := s.now) (s := { emit (.avs (min 800 s.pwr.capAtEntry)) (emit (.pin "PCIE_WAKE_N" 0) s) with
    pwr.wakeCause := BitVec.ofNat 4 cause, pwr.wakePort := BitVec.ofNat 7 p, pwr.wakeEp := BitVec.ofNat 14 e
    pwr.wakeSeen := true, pwr.restored := false, pwr.waking := true, pwr.wakeN := some s.now }) off
  exact ⟨reset.of_same rfl rfl rfl ⟨rfl, rfl, rfl⟩, told⟩

/-- In standby a wake source wakes the device (R537). -/
theorem wakeSource_standby {o : StandbyOrder} (standby : s.pwr.phase = .standby) (order : s.pwr.order = some o) (cause p e : Nat) :
    wakeSource cause p e s = wake cause p e s := by
  rw [wakeSource, order]
  exact if_pos standby

theorem execWakeInNLow_wakes {o : StandbyOrder} {dur : Nat} (standby : s.pwr.phase = .standby) (order : s.pwr.order = some o)
    (enabled : bit o.flags 1 = true) (qualifies : 10000 ≤ dur) :
    ∃ t, exec (.wakeInNLow dur) s = .next t ∧ t.pwr.wakeCause = 2 ∧ DeviceReset 6 s t := by
  obtain ⟨reset, cause, -⟩ := wake_wakes (s := advanceTo (s.now + us 10) s) 2 0 0 (by rw [advanceTo_pwr, standby]; decide)
  refine ⟨_, congrArg Host.Outcome.next ((if_neg ?_).trans (wakeSource_standby (s := advanceTo (s.now + us 10) s) standby order 2 0 0)), cause,
    reset.of_same rfl rfl rfl ⟨rfl, rfl, rfl⟩⟩
  simp only [order, Option.map_some, Option.getD_some, enabled, Bool.not_true, Bool.or_false, decide_eq_true_eq]
  omega

end Sys2Proof.Machine
end

section
/-! What restarts of the firmware and resets of pods keep (R447 to R449, R481): every window and every owner. -/

namespace Sys2Proof.Machine

variable {s t u : State} {c : Caller} {req : Bytes}

/-! ### Firmware triggers (R447, R449) -/

theorem roleFailing_fenced (s : State) : (roleFailing s).fenced = s.fenced :=
  fenced_if ((fenced_of_calm (raiseTrunk_calm ..)).trans rfl) rfl

theorem trigger_fenced (cause : Nat) (s : State) : (trigger cause s).fenced = s.fenced := by
  unfold trigger
  refine fenced_if rfl ?_
  dsimp only
  refine fenced_if ?_ ?_
  · exact (roleFailing_fenced ..).trans ((fenced_of_calm (raiseSys_calm ..)).trans rfl)
  · exact (fenced_of_calm (raiseSys_calm ..)).trans rfl

theorem execTrigger_fenced {i : Instr} (h : i = .watchdogExpiry ∨ i = .processorFault) :
    ∃ t, exec i s = .next t ∧ t.fenced = s.fenced := by
  rcases h with rfl | rfl
  · exact ⟨_, rfl, fenced_if rfl ((trigger_fenced ..).trans rfl)⟩
  · exact ⟨_, rfl, trigger_fenced ..⟩

/-! ### The end of a restart (R448) -/

theorem endUncommitted_fenced (c : Caller) (st : Status) (s : State) : (endUncommitted c st s).fenced = s.fenced := by
  unfold endUncommitted
  dsimp only
  split
  · exact failSeal_fenced ..
  · exact completeStatus_fenced ..

theorem restartLaneLists_fenced (i : Nat) (s : State) : (restartLaneLists i s).fenced = s.fenced :=
  (foldl_fenced (fun _ _ => completeStatus_fenced ..) _ _).trans (fenced_of_calm (updMbxLane_calm ..))

theorem tagStart_fenced (kind p ident pod_ : Nat) (s : State) : (tagStart kind p ident pod_ s).fenced = s.fenced := by
  unfold tagStart
  dsimp only
  split
  · rfl
  · have drawn : (drawTag (if kind ≤ 2 then (tagCfg s p).kf else (tagCfg s p).ks) s).2.fenced = s.fenced := rfl
    split <;> rename_i u draw <;> rw [draw] at drawn
    · exact drawn
    · exact .trans (b := u.fenced) (fenced_if ((fenced_of_calm (count_calm ..)).trans (fenced_of_calm (bump_calm ..))) (fenced_of_calm (bump_calm ..))) drawn

theorem cacheTouch_fenced (e : Nat) (s : State) : (cacheTouch e s).fenced = s.fenced := by
  refine fenced_if rfl (fenced_if rfl ?_)
  dsimp only
  split <;> rfl

theorem notePeaks_fenced (p : Nat) (s : State) : (notePeaks p s).fenced = s.fenced := rfl

theorem admitFlight_fenced (n : Nat) (h : Held) (s : State) : (admitFlight n h s).fenced = s.fenced := by
  unfold admitFlight
  extract_lets f _ noted counted tagged
  have notes : noted.fenced = s.fenced := (notePeaks_fenced ..).trans rfl
  have counts : counted.fenced = s.fenced := (fenced_of_calm (count_calm ..)).trans notes
  have tags : tagged.fenced = s.fenced := .trans (b := counted.fenced) (fenced_if rfl (.trans rfl (tagStart_fenced ..))) counts
  exact fenced_if ((cacheTouch_fenced ..).trans tags) tags

theorem holdSubmission_fenced (h : Held) (cause : Nat) (s : State) : (holdSubmission h cause s).fenced = s.fenced :=
  .trans (fenced_if rfl (fenced_if (fenced_if rfl ((fenced_of_calm (sendMsix_calm ..)).trans rfl)) rfl))
    ((fenced_of_calm (count_calm ..)).trans rfl)

theorem serviceSend_fenced (ep cls : Nat) (text : Bytes) (s : State) : (serviceSend ep cls text s).fenced = s.fenced := by
  unfold serviceSend
  split
  · rfl
  · dsimp only
    split
    · exact admitFlight_fenced ..
    · exact holdSubmission_fenced ..

theorem serviceAsk_fenced (svc cls : Nat) (eps : List Nat) (body : Bytes) (s : State) : (serviceAsk svc cls eps body s).1.fenced = s.fenced :=
  (foldl_fenced (fun _ _ => serviceSend_fenced ..) eps _).trans rfl

theorem resumeServices_fenced (s : State) : (resumeServices s).fenced = s.fenced := by
  have sets {u v : State} (h : v.fenced = u.fenced) (schedules shedOps assets) :
      ({ v with mgmt.schedules := schedules, mgmt.shedOps := shedOps, mgmt.assets := assets } : State).fenced = u.fenced := h
  unfold resumeServices
  refine .trans (foldl_fenced (fun u e => ?_) _ _) (.trans (foldl_fenced (fun u i => ?_) _ _) (foldl_fenced (fun u e => ?_) _ s))
  · exact fenced_if rfl (sets (serviceAsk_fenced ..) _ _ _)
  · dsimp only
    split
    · rfl
    · exact fenced_if rfl (sets (serviceAsk_fenced ..) _ _ _)
  · exact fenced_if rfl (sets (serviceAsk_fenced ..) _ _ _)

theorem admitEndpoint_fenced (ep p pod_ eui : Nat) (s : State) : (admitEndpoint ep p pod_ eui s).1.fenced = s.fenced := by
  have mirrored (f : Endpoint → Endpoint) : (mirrorEp ep (updEndpoint ep f s)).fenced = s.fenced := mirrorEp_fenced ..
  unfold admitEndpoint
  dsimp only
  split
  · split
    · rfl
    · split
      · rfl
      · exact mirrored _
  · split
    · rfl
    · split
      · rfl
      · exact mirrored _

theorem serveJoin_fenced (p : Nat) (msg : Bytes) (s : State) : (serveJoin p msg s).fenced = s.fenced := by
  unfold serveJoin
  dsimp only
  split
  · exact admitEndpoint_fenced ..
  · exact fenced_of_calm (notify_calm ..)

theorem resumeJoins_fenced (s : State) : (resumeJoins s).fenced = s.fenced := by
  have each (u : State) (e : Nat × Nat × Reasm) : (serveJoin e.2.2.port e.2.2.data (releaseReasm e.2.1 u)).fenced = u.fenced :=
    (serveJoin_fenced ..).trans rfl
  exact foldl_fenced each _ s

theorem execFirmwareRestartComplete_fenced (s : State) : ∃ t, exec .firmwareRestartComplete s = .next t ∧ t.fenced = s.fenced := by
  refine ⟨_, rfl, fenced_if rfl ?_⟩
  refine (resumeJoins_fenced _).trans ((resumeServices_fenced _).trans ((foldl_fenced ?_ _ _).trans ((foldl_fenced ?_ _ _).trans
    ((foldl_fenced ?_ _ _).trans ?_))))
  · exact fun _ _ => restartLaneLists_fenced ..
  · exact fun _ _ => endUncommitted_fenced ..
  · exact fun _ _ => complete_fenced ..
  · rfl

/-! ### Windows and owners -/

/-- Every window and every owner are as before. -/
structure IsolationKept (s t : State) : Prop where
  own : t.own = s.own
  windows : ∀ m, (pod t m).windows = (pod s m).windows

namespace IsolationKept

theorem of_guarded (h : Guarded s t) : IsolationKept s t := ⟨h.own, h.windows⟩

theorem of_fenced (h : t.fenced = s.fenced) : IsolationKept s t := .of_guarded (.of_fenced h)

theorem of_calm (h : t.calm = s.calm) : IsolationKept s t := .of_guarded (.of_calm h)

theorem refl (s : State) : IsolationKept s s := .of_calm rfl

theorem trans (a : IsolationKept s t) (b : IsolationKept t u) : IsolationKept s u :=
  ⟨b.own.trans a.own, fun m => (b.windows m).trans (a.windows m)⟩

theorem ite {a b : State} {p : Prop} [Decidable p] (ha : IsolationKept s a) (hb : IsolationKept s b) :
    IsolationKept s (if p then a else b) := by
  split <;> assumption

theorem window (h : IsolationKept s t) (p w : Nat) : window t p w = window s p w := by rw [Machine.window, h.windows, Machine.window]

end IsolationKept

/-- A command whose meaning keeps windows and owners keeps them, however it ends. -/
theorem runCmd_isolation {fm : Form} {body : State → State × Reply} (h : IsolationKept s (body s).1) : IsolationKept s (runCmd fm c req body s) := by
  have report {u : State} (same : u.calm = s.calm) : IsolationKept s u := .of_calm same
  unfold runCmd
  refine .ite (.refl s) (.ite (report (completeStatus_calm ..)) (.ite (report ((mbxFault_calm ..).trans (complete_calm ..)))
    (.ite (report (complete_calm ..)) (.ite (report (completeStatus_calm ..)) (.ite (report (putWaiting_calm ..)) ?_)))))
  generalize body s = answer at h ⊢
  obtain ⟨v, reply⟩ := answer
  refine h.trans (.of_calm (s := v) ?_)
  cases reply with
  | done st resp => exact (complete_calm ..).trans (mirrorConfig_calm ..)
  | held => exact hold_calm ..
  | open_ => exact hold_calm ..
  | untaken => exact forget_calm ..
  | wait => exact putWaiting_calm ..

theorem podResetBody_isolation (c : Caller) (req : Bytes) (s : State) : IsolationKept s (podResetBody c req s).1 := by
  unfold podResetBody
  dsimp only
  split
  · exact .refl s
  · exact .of_guarded (startPodReset_guarded ..)

theorem execVfFunctionLevelReset_isolation {n : Nat} (h : exec (.vfFunctionLevelReset n) s = .next t) : IsolationKept s t := by
  rw [exec_vfFunctionLevelReset, execVfFunctionLevelReset] at h
  split at h
  · cases h
  · split at h
    · cases h; exact .refl s
    · cases h; exact .of_guarded (resetFunction_guarded 2 s n)

theorem retireAll_own (l : List Checked) (s : State) : (l.foldl (fun s a => retireAccess a s) s).own = s.own := by
  induction l generalizing s with
  | nil => rfl
  | cons x l ih => exact (ih _).trans (congrArg Calm.own (retireAccess_calm x s))

theorem execPodResetComplete_isolation {n : Nat} (h : exec (.podResetComplete n) s = .next t) : IsolationKept s t := by
  rw [exec_podResetComplete, execPodResetComplete] at h
  split at h
  · cases h
  · split at h
    · cases h; exact .refl s
    · cases h
      generalize retires : List.foldl (fun s a => retireAccess a s) s _ = retired
      have same : IsolationKept s retired := by
        rw [← retires]
        exact ⟨retireAll_own .., fun m => by rw [pod, retireAll_pods, pod]⟩
      generalize (s.now - _) / us 1 = dur
      refine same.trans (.trans (t := updPod n _ (resetRings n (resetLanes n retired))) ⟨rfl, fun m => ?_⟩
        (.of_calm ((foldl_calm _ (fun _ _ => complete_calm ..) _ _).trans (raiseSys_calm ..))))
      by_cases own : m = n
      · rw [own]; exact (congrArg Pod.windows (tget_tset_self ..) :)
      · exact congrArg Pod.windows (tget_tset_other _ _ _ own)

/-! ### After a device reset (R481) -/

/-- A device reset leaves no window, no owner but pod 0 and no status of a pod. -/
theorem DeviceReset.isolates {code : BitVec 4} (h : DeviceReset code s t) :
    (∀ p w, (window t p w).isOpen = false) ∧ t.fw.epoch = 0 ∧ (∀ q, portOwner t q = 0) ∧ t.own = {} ∧ t.eps = [] ∧ t.chk = [] ∧
    (∀ n, pod t n = {}) ∧ (∀ n, n ≠ 0 → podStatusValue t n = 0) := by
  obtain ⟨noPods, noOwners, noAccess⟩ := h.isolation
  have pods (n : Nat) : pod t n = {} := by rw [pod, noPods]; rfl
  have windows (p w : Nat) : window t p w = {} := by rw [window, pods]; rfl
  have owners (q : Nat) : portOwner t q = 0 := by rw [portOwner, noOwners]; rfl
  refine ⟨fun p w => by rw [windows]; rfl, by rw [noAccess], owners, noOwners, h.lines.2.2.2, h.engines.1, pods, fun n tenant => ?_⟩
  have absent : fnExists t n = false := by rw [fnExists, h.host.1]; simp [tenant]
  have shut : (List.range 8).filter (fun w => (window t n w).isOpen) = [] := List.filter_eq_nil_iff.mpr fun w _ => by
    rw [windows]; exact Bool.false_ne_true
  have unowned : (List.range t.part.ports).filter (fun p => portOwner t p == n) = [] := List.filter_eq_nil_iff.mpr fun p _ => by
    rw [owners]; simpa using tenant.symm
  unfold podStatusValue
  rw [shut, unowned, pods, absent]
  rfl

end Sys2Proof.Machine
end

section
/-! Power commands and alarms (R55, R454 to R456, R545). -/

namespace Sys2Proof.Machine

variable {s : State} {c : Caller} {req : Bytes}

theorem execPowerSetcap_sets (start : mayStart s c 0x0E04 [] = true) (form : shaped req 8 [(2, 6)] = true) (sender : c.pod = 0)
    (low : 600 ≤ rd req 0 2) (high : rd req 0 2 ≤ 900) (step : rd req 0 2 % 5 = 0) : exec (.powerSetcap c req) s =
    Answers c 0x0E04 req St.ok (leBytes 2 St.ok.toNat ++ leBytes 2 s.pwr.avs.vReq.toNat ++ zeros 4) { s with pwr.avs.vCap := rd req 0 2 } := by
  refine runCmd_answers start form (fun _ => sender) (?_ : powerSetcapBody req s = _)
  rw [powerSetcapBody, guards_pass]
  simp only [Bool.or_eq_false_iff, decide_eq_false_iff_not, bne_eq_false_iff_eq]
  omega

section
variable {f : Profile} (start : mayStart s c 0x0E03 [.port (rd req 0 2)] = true) (form : shaped req 8 [(4, 4)] = true)
  (profile : profileOf (rd req 2 1) (rd req 3 1) = some f) (has : rd req 0 2 < s.part.ports)
  (may : c.pod = 0 ∨ portOwner s (rd req 0 2) = c.pod) (fit : ∀ x8, f = .longReach x8 → tooLongFor s (rd req 0 2) x8 = false)
include start form profile has may fit

theorem execProfileSet_sets (closed : isOpen s (rd req 0 2) = false) : exec (.profileSet c req) s =
    Answers c 0x0E03 req St.ok (statusResp St.ok) (updLine (rd req 0 2) (fun l => { l with profile := f, nextProfile := none }) s) := by
  refine runCmd_answers start form (by simp) (?_ : profileSetBody c req s = _)
  unfold profileSetBody
  dsimp only
  rw [profile]
  dsimp only
  rw [if_neg (by omega), if_neg (by rcases may with h | h <;> simp [h]), if_neg (by simp [closed])]
  cases f with
  | longReach x8 => rw [guards_pass (fit x8 rfl), guards_pass closed]; rfl
  | fullBand => rw [if_neg Bool.false_ne_true, guards_pass closed]; rfl
  | sense => rw [if_neg Bool.false_ne_true, guards_pass closed]; rfl
  | powerCap n => rw [if_neg Bool.false_ne_true, guards_pass closed]; rfl

theorem execProfileSet_pends (opened : isOpen s (rd req 0 2) = true) (settled : (port s (rd req 0 2)).line.nextProfile = none) :
    exec (.profileSet c req) s =
      Answers c 0x0E03 req St.pending (statusResp St.pending) (updLine (rd req 0 2) (fun l => { l with nextProfile := some f }) s) := by
  refine runCmd_answers start form (by simp) (?_ : profileSetBody c req s = _)
  unfold profileSetBody
  dsimp only
  rw [profile]
  dsimp only
  rw [if_neg (by omega), if_neg (by rcases may with h | h <;> simp [h]), if_neg (by simp [settled])]
  cases f with
  | longReach x8 => rw [guards_pass (fit x8 rfl), if_pos opened]; rfl
  | fullBand => rw [if_neg Bool.false_ne_true, if_pos opened]; rfl
  | sense => rw [if_neg Bool.false_ne_true, if_pos opened]; rfl
  | powerCap n => rw [if_neg Bool.false_ne_true, if_pos opened]; rfl

end

theorem execTxFifoLowWater_requests {lane : Nat} (has : lane < s.part.lanes) (transmits : (port s (lane / 4)).mac.tx.isSome = true) :
    ∃ t, exec (.txFifoLowWater lane) s = .next t ∧ t.pwr.avs.emergency = true ∧
      t.pwr.avs.vReq.toNat = max s.pwr.avs.vReq.toNat (min s.pwr.avs.vCap 800) ∧ t.pwr.avs.vCap = s.pwr.avs.vCap := by
  let v := min s.pwr.avs.vCap 800
  let u := if v > s.pwr.avs.vReq.toNat then requestVolts v s else s
  have requested : u.pwr.avs.vReq.toNat = max s.pwr.avs.vReq.toNat v ∧ u.pwr.avs.vCap = s.pwr.avs.vCap := by
    simp only [u]
    split
    · next above =>
      refine ⟨?_, rfl⟩
      rw [show (requestVolts v s).pwr.avs.vReq = BitVec.ofNat 16 v from rfl, BitVec.toNat_ofNat, Nat.mod_eq_of_lt (by simp only [v]; omega)]
      omega
    · next below => exact ⟨by omega, rfl⟩
  obtain ⟨-, f, on, avs⟩ := derate_derated true (raiseSys 1 1 0 0 { u with pwr.avs.emergency := true })
  rw [raiseSys_pwr] at avs
  refine ⟨derate true (raiseSys 1 1 0 0 { u with pwr.avs.emergency := true }), ?_, ?_⟩
  · refine (if_neg (by omega)).trans (congrArg Host.Outcome.next (if_neg ?_))
    rw [Option.isNone_eq_false_iff.mpr transmits]
    exact Bool.false_ne_true
  · rw [avs]
    exact ⟨rfl, requested⟩

theorem execCoreUndervoltage_fails {dur : Nat} (qualifies : 200 ≤ dur) : ∃ t, exec (.coreUndervoltage dur) s = .next t ∧
    (s.trk.pair.role = .active → t.trk.pair.role = .failing) ∧ (s.trk.pair.role ≠ .active → t = s) :=
  ⟨roleFailing s, congrArg Host.Outcome.next (if_neg (Nat.not_lt.mpr qualifies)), roleFailing_fails, fun other => if_neg other⟩

end Sys2Proof.Machine
end

section
/-! The obligations of power alarms, device resets and isolation across resets (O3, O4, O45). -/

namespace Sys2Proof

open Machine

/-- Settles O3, command by command and alarm by alarm. -/
theorem powerCommandsAndAlarms : Obligations.PowerCommandsAndAlarms := by
  unfold Obligations.PowerCommandsAndAlarms
  exact ⟨fun s c req => execPowerSetcap_sets, fun s c req f start form profile has may fit =>
      ⟨execProfileSet_sets start form profile has may fit, execProfileSet_pends start form profile has may fit⟩,
    fun s lane => execTxFifoLowWater_requests, fun s dur => execCoreUndervoltage_fails⟩

/-- Settles O4, cause by cause. -/
theorem deviceResetCauses : Obligations.DeviceResetCauses := by
  unfold Obligations.DeviceResetCauses
  refine ⟨fun s dur off qualifies => ?_, fun s rails dur => execBrownOut_resets, fun s => execPf0FunctionLevelReset_resets,
    fun s dur => execPowerOn_resets dur s, fun s c req start form sender running single _ =>
      execSysReset_resets start form sender running single, fun s dur => execSysResetNLow_prolongs, fun s rails dur => short_unqualified rails,
    fun s o dur standby order enabled qualifies => ?_, fun s i trigger => ?_⟩
  · obtain ⟨t, step, reset, ends, -⟩ := execSysResetNLow_resets off qualifies
    exact ⟨t, step, reset, ends⟩
  · obtain ⟨t, step, -, reset⟩ := execWakeInNLow_wakes standby order enabled qualifies
    exact ⟨t, step, reset⟩
  · obtain ⟨t, step, same⟩ := execTrigger_fenced (s := s) trigger
    have pwr : t.pwr = s.pwr := congrArg Fenced.pwr same
    exact ⟨t, step, by rw [pwr], by rw [pwr], by rw [pwr]⟩

/-- Settles O45: a device reset by what it leaves, a pod reset and a firmware restart by what they keep. -/
theorem ownershipAcrossResets : Obligations.OwnershipAcrossResets := by
  unfold Obligations.OwnershipAcrossResets
  refine ⟨fun code s t reset => reset.isolates, fun s rails dur off qualifies => ⟨?_, fun low => ?_⟩,
    fun s => execPf0FunctionLevelReset_resets, fun s t i cause step => ?_⟩
  · obtain ⟨t, step, reset, -, credits⟩ := execSysResetNLow_resets off qualifies
    exact ⟨t, step, reset, fun n => by rw [credits]; rfl⟩
  · obtain ⟨t, step, reset, -⟩ := execBrownOut_resets off qualifies low
    exact ⟨t, step, reset⟩
  · have kept : IsolationKept s t := by
      have triggers (h : i = .watchdogExpiry ∨ i = .processorFault) : IsolationKept s t := by
        obtain ⟨u, next, same⟩ := execTrigger_fenced (s := s) h
        rw [step] at next
        cases next
        exact .of_fenced same
      rcases cause with watchdog | fault | rfl | ⟨n, rfl⟩ | ⟨n, rfl⟩ | ⟨c, req, rfl⟩
      · exact triggers (.inl watchdog)
      · exact triggers (.inr fault)
      · obtain ⟨u, next, same⟩ := execFirmwareRestartComplete_fenced s
        rw [step] at next
        cases next
        exact .of_fenced same
      · exact execVfFunctionLevelReset_isolation step
      · exact execPodResetComplete_isolation step
      · cases step
        exact runCmd_isolation (podResetBody_isolation c req s)
    exact ⟨kept.own, kept.window⟩

end Sys2Proof
end

section
/-! Start-up (R486 to R490, R531): what the steps before and after the choice of an image leave. -/

namespace Sys2Proof.Machine

variable {s t u : State}

/-! ### The management complex through a gap of the chains (R101, R383) -/

theorem deliverVector_mgmt (fn : Nat) (s : State) : (deliverVector fn s).mgmt = s.mgmt := by
  unfold deliverVector
  dsimp only
  split
  · exact mgmt_if rfl ((sendMsix_mgmt ..).trans rfl)
  · exact (sendMsix_mgmt ..).trans rfl

theorem ringPut_mgmt (r : RingAt) (prod : Nat) (data : Bytes) (s : State) : (ringPut r prod data s).mgmt = s.mgmt :=
  (deliverVector_mgmt ..).trans ((hostWrite_mgmt ..).trans (mgmt_if (hostWrite_mgmt ..) ((hostWrite_mgmt ..).trans (hostWrite_mgmt ..))))

theorem ringWrite_mgmt (r : RingAt) (prod cons : Nat) (data : Bytes) (consumer : Option Nat) (s : State) :
    (ringWrite r prod cons data consumer s).1.mgmt = s.mgmt := by
  unfold ringWrite
  extract_lets short read cached
  have reads : read.mgmt = s.mgmt := mgmt_if (count_mgmt ..) rfl
  split
  · exact reads
  · exact (ringPut_mgmt ..).trans reads

theorem updPosition_mgmt (c p : Nat) (f : Position → Position) (s : State) : (updPosition c p f s).mgmt = s.mgmt := rfl

theorem blockDropped_mgmt (c p : Nat) (s : State) : (blockDropped c p s).mgmt = s.mgmt := mgmt_if (count_mgmt ..) rfl

theorem deliverBlock_mgmt (c p : Nat) (b : Block) (consumer : Option Nat) (s : State) : (deliverBlock c p b consumer s).mgmt = s.mgmt := by
  unfold deliverBlock
  dsimp only
  split
  · exact blockDropped_mgmt ..
  · generalize written : ringWrite _ _ _ _ _ s = w
    have wrote : w.1.mgmt = s.mgmt := by rw [← written]; exact ringWrite_mgmt ..
    obtain ⟨v, prod, cons, ok⟩ := w
    exact mgmt_if wrote ((blockDropped_mgmt ..).trans wrote)
  · exact mgmt_if rfl (blockDropped_mgmt ..)

theorem closeBlock_mgmt (c p : Nat) (s : State) : (closeBlock c p s).mgmt = s.mgmt := by
  unfold closeBlock
  split
  · rfl
  · exact mgmt_if rfl ((foldl_mgmt (fun _ _ => deliverBlock_mgmt ..) _ _).trans rfl)

theorem chainGap_mgmt (c lost : Nat) (s : State) : (chainGap c lost s).mgmt = s.mgmt := by
  unfold chainGap
  extract_lets closed emptied
  have closes : closed.mgmt = s.mgmt := foldl_mgmt (fun _ _ => closeBlock_mgmt ..) _ s
  have empties : emptied.mgmt = s.mgmt := (foldl_mgmt (fun _ _ => updPosition_mgmt ..) _ closed).trans closes
  exact (mgmt_if (bump_mgmt ..) rfl).trans empties

/-! ### What start-up turns on -/

/-- What the steps of start-up leave as it is. -/
structure BootState where
  now : Nat
  phase : Phase
  aLock : Bool
  bLock : Bool
  ready : Bool
  torn0 : Bool
  torn1 : Bool
  revoked : BitVec 4
  minSecver : Nat
  bootOk : Bool
  bootSlot : Nat
  runSecver : Nat
  runKey : Nat

def bootOf (x : Calm) (m : Mgmt) : BootState :=
  { now := x.now, phase := x.pwr.phase, aLock := x.syn.aLock, bLock := x.syn.bLock, ready := m.ready, torn0 := m.slot0.torn
    torn1 := m.slot1.torn, revoked := x.sec.revoked, minSecver := x.sec.minSecver, bootOk := x.sec.bootOk, bootSlot := x.sec.bootSlot
    runSecver := x.sec.runSecver, runKey := x.sec.runKey }

def State.boot (s : State) : BootState := bootOf s.calm s.mgmt

theorem boot_of_calm (calm : t.calm = s.calm) (mgmt : t.mgmt = s.mgmt) : t.boot = s.boot := by
  unfold State.boot
  rw [calm, mgmt]

theorem boot_of_delivers (h : Delivers s t) (mgmt : t.mgmt = s.mgmt) : t.boot = s.boot := by
  have same (m : Mgmt) : bootOf t.calm m = bootOf s.calm m := (congrArg (fun x => bootOf x m) h :)
  rw [State.boot, mgmt, same, State.boot]

theorem foldl_boot {α : Type} {f : State → α → State} (h : ∀ s x, (f s x).boot = s.boot) (l : List α) (s : State) :
    (l.foldl f s).boot = s.boot := by
  induction l generalizing s with
  | nil => rfl
  | cons x l ih => exact (ih _).trans (h s x)

theorem boot_if {a b : State} {p : Prop} [Decidable p] (ha : a.boot = s.boot) (hb : b.boot = s.boot) :
    (if p then a else b).boot = s.boot := by split <;> assumption

theorem raiseSys_boot (e cause arg0 arg1 : Nat) (s : State) : (raiseSys e cause arg0 arg1 s).boot = s.boot :=
  boot_of_calm (raiseSys_calm ..) (raiseSys_mgmt ..)

theorem applyTarget_boot (w : JTarget) (s : State) : (applyTarget w s).boot = s.boot := by
  cases w with
  | keyRecord i r => cases r <;> rfl
  | _ => rfl

theorem replay_boot (s : State) : (replay s).boot = s.boot := (foldl_boot (fun _ _ => applyTarget_boot ..) _ _).trans rfl

theorem chainGap_boot (c lost : Nat) (s : State) : (chainGap c lost s).boot = s.boot :=
  boot_of_delivers (chainGap_delivers ..) (chainGap_mgmt ..)

theorem wakeGaps_boot (s : State) : (wakeGaps s).boot = s.boot := by
  have each (u : State) (i : Nat) : (chainGap (512 + i) (freshNat u).1 (freshNat u).2).boot = u.boot := (chainGap_boot ..).trans rfl
  exact foldl_boot each (List.range 40) s

theorem emit_boot (o : Output) (s : State) : (emit o s).boot = s.boot := rfl

theorem ddrResets_boot (level : Nat) (s : State) : (ddrResets level s).boot = s.boot := foldl_boot (fun _ _ => emit_boot ..) _ s

theorem loadTime_boot (s : State) : (loadTime s).boot = s.boot := rfl

theorem startEntropy_boot (pass : Bool) (s : State) : (startEntropy pass s).boot = s.boot := boot_if rfl ((raiseSys_boot ..).trans rfl)

theorem noteFlash_boot (b : BootView) (s : State) : (noteFlash b s).boot = s.boot := rfl

theorem storeFault_boot (s : State) : (storeFault s).boot = s.boot := raiseSys_boot ..

theorem restoreRecord_boot (bad : List Nat) (index : Nat) (r : KeyRec) (s : State) : (restoreRecord bad index r s).boot = s.boot :=
  boot_if rfl (boot_if ((storeFault_boot ..).trans rfl) rfl)

theorem newKwk_boot (s : State) : (newKwk s).boot = s.boot := rfl

theorem restoreKeys_boot (bad : List Nat) (s : State) : (restoreKeys bad s).boot = s.boot := by
  unfold restoreKeys
  refine boot_if rfl ?_
  extract_lets valid _ _ keyed restored
  have keys : keyed.boot = s.boot := boot_if rfl ((newKwk_boot _).trans (boot_if rfl rfl))
  have restores : restored.boot = s.boot := (foldl_boot (fun _ _ => restoreRecord_boot ..) _ keyed).trans keys
  exact restores

theorem restoreNonces_boot (bad : List Nat) (s : State) : (restoreNonces bad s).boot = s.boot :=
  boot_if ((storeFault_boot ..).trans rfl) rfl

theorem updInput_boot (n : Nat) (f : Input → Input) (s : State) : (updInput n f s).boot = s.boot := rfl

theorem restoreLins_boot (bad : List Nat) (s : State) : (restoreLins bad s).boot = s.boot :=
  (foldl_boot (fun _ _ => updInput_boot ..) _ _).trans (foldl_boot (fun _ _ => updInput_boot ..) _ s)

/-! ### The choice of an image (R488) -/

theorem bootChoice_of_boot (torn0 : t.mgmt.slot0.torn = s.mgmt.slot0.torn) (torn1 : t.mgmt.slot1.torn = s.mgmt.slot1.torn)
    (revoked : t.sec.revoked = s.sec.revoked) (minSecver : t.sec.minSecver = s.sec.minSecver) (b : BootView) :
    bootChoice t b = bootChoice s b := by
  have image (v : ImageView) : imageOk t v = imageOk s v := by rw [imageOk, revoked, minSecver, imageOk]
  have slot (k : Nat) : bootable t b k = bootable s b k := by
    unfold bootable
    simp only [torn0, torn1, image]
  unfold bootChoice
  simp only [slot]

/-- With a sound image the firmware runs it; with none the device halts unbooted (R488). -/
theorem bootFirmware_boots (b : BootView) (s : State) :
    (bootFirmware b s).now = s.now ∧ (bootFirmware b s).pwr.phase = s.pwr.phase ∧ (bootFirmware b s).syn.aLock = s.syn.aLock ∧
    (bootFirmware b s).syn.bLock = s.syn.bLock ∧
    (∀ v slot, bootChoice s b = some (v, slot) → (bootFirmware b s).mgmt.fwState = .running ∧ (bootFirmware b s).mgmt.ready = true ∧
      (bootFirmware b s).sec.bootOk = true ∧ (bootFirmware b s).sec.bootSlot = slot ∧ (bootFirmware b s).sec.runSecver = v.secver ∧
      (bootFirmware b s).sec.runKey = v.keyIndex ∧ (bootFirmware b s).mgmt.fwVersion = BitVec.ofNat 16 v.version) ∧
    (bootChoice s b = none → (bootFirmware b s).mgmt.fwState = .halted ∧ (bootFirmware b s).mgmt.ready = s.mgmt.ready ∧
      (bootFirmware b s).sec.bootOk = s.sec.bootOk) := by
  unfold bootFirmware
  split
  · next none => exact ⟨rfl, rfl, rfl, rfl, fun _ _ found => (nomatch none.symm.trans found), fun _ => ⟨rfl, rfl, rfl⟩⟩
  · next v slot found =>
    extract_lets _ _ jumped restored _ told
    have restores : restored.boot = jumped.boot := (restoreLins_boot ..).trans ((restoreNonces_boot ..).trans (restoreKeys_boot ..))
    have tells : told.boot = jumped.boot := .trans (b := restored.boot) (boot_if ((raiseSys_boot ..).trans rfl) rfl) restores
    refine ⟨(congrArg BootState.now tells :), (congrArg BootState.phase tells :), (congrArg BootState.aLock tells :),
      (congrArg BootState.bLock tells :), fun w k chosen => ?_, fun none => nomatch found.symm.trans none⟩
    obtain ⟨rfl, rfl⟩ := Prod.mk.inj (Option.some.inj (found.symm.trans chosen))
    exact ⟨rfl, rfl, (congrArg BootState.bootOk tells :), (congrArg BootState.bootSlot tells :), (congrArg BootState.runSecver tells :),
      (congrArg BootState.runKey tells :), rfl⟩

theorem execResetRelease_boots (ref : Bool) (b : BootView) (within : s.pwr.phase = .resetPhase) (unready : s.mgmt.ready = false)
    (unbooted : s.sec.bootOk = false) :
    ∃ t, exec (.resetRelease ref b) s = .next t ∧ Running t ∧ s.pwr.causeEnd + us 1000 ≤ t.now ∧ t.syn.aLock = true ∧ t.syn.bLock = true ∧
      (∀ v slot, bootChoice s b = some (v, slot) → t.mgmt.fwState = .running ∧ t.mgmt.ready = true ∧ t.sec.bootOk = true ∧
        t.sec.bootSlot = slot ∧ t.sec.runSecver = v.secver ∧ t.sec.runKey = v.keyIndex ∧ t.mgmt.fwVersion = BitVec.ofNat 16 v.version) ∧
      (bootChoice s b = none → t.mgmt.fwState = .halted ∧ t.mgmt.ready = false ∧ t.sec.bootOk = false) := by
  refine (?_ : ∃ t, execResetRelease ref b s = _ ∧ _)
  unfold execResetRelease
  rw [if_neg (by simp [within])]
  extract_lets released _ replayed _ _ clocked gaps
  have replays : replayed.boot = { released.boot with phase := .running } := (replay_boot _).trans rfl
  have clocks : clocked.boot = { replayed.boot with aLock := true, bLock := true } := rfl
  have gapped : gaps.boot = clocked.boot := (ddrResets_boot ..).trans (boot_if (wakeGaps_boot ..) rfl)
  obtain ⟨started, isStarted⟩ : ∃ v, noteFlash b (startEntropy b.entropyPass (loadTime gaps)) = v := ⟨_, rfl⟩
  have starts : started.boot = { s.boot with now := max s.now (s.pwr.causeEnd + us 1000), phase := .running, aLock := true, bLock := true } := by
    rw [← isStarted, noteFlash_boot, startEntropy_boot, loadTime_boot, gapped, clocks, replays]
    rfl
  have choice : bootChoice started b = bootChoice s b := bootChoice_of_boot (congrArg BootState.torn0 starts) (congrArg BootState.torn1 starts)
    (congrArg BootState.revoked starts) (congrArg BootState.minSecver starts) b
  obtain ⟨now, phase, aLock, bLock, sound, none⟩ := bootFirmware_boots b started
  rw [isStarted]
  refine ⟨_, rfl, phase.trans (congrArg BootState.phase starts), ?_, aLock.trans (congrArg BootState.aLock starts),
    bLock.trans (congrArg BootState.bLock starts), fun v slot chosen => sound v slot (choice.trans chosen), fun halts => ?_⟩
  · rw [now, show started.now = _ from congrArg BootState.now starts]
    exact Nat.le_max_right ..
  · obtain ⟨halted, ready, bootOk⟩ := none (choice.trans halts)
    exact ⟨halted, ready.trans ((congrArg BootState.ready starts).trans unready), bootOk.trans ((congrArg BootState.bootOk starts).trans unbooted)⟩

end Sys2Proof.Machine
end

section
/-! Standby and its wake sources (R534 to R538). -/

namespace Sys2Proof.Machine

variable {s t : State}

theorem execStandbyEntry_enters {o : StandbyOrder} {r : Nat} (running : Running s) (order : s.pwr.order = some o)
    (recorded : o.recordAt = some r) (none : o.wake = none) :
    ∃ t, exec .standbyEntry s = .next t ∧ t.pwr.phase = .standby ∧ t.now = max s.now (r + ms 1) ∧ t.pwr.chive = s.pwr.chive ∧
      t.pwr.order = some o ∧ t.pwr.standbyCount = s.pwr.standbyCount + 1 ∧ t.syn = s.syn ∧ t.mram = s.mram ∧ t.sec.kwk = s.sec.kwk := by
  obtain ⟨out, pins⟩ := pinsDown_emits (advanceTo (r + ms 1) s)
  refine (?_ : ∃ t, execStandbyEntry s = _ ∧ _)
  unfold execStandbyEntry
  rw [order]
  dsimp only
  rw [recorded]
  dsimp only
  rw [if_neg (by simp [running]), none, pins]
  exact ⟨_, rfl, rfl, rfl, rfl, rfl, rfl, rfl, rfl, rfl⟩

theorem execWakeFrame_wakes {o : StandbyOrder} {p fc : Nat} (standby : s.pwr.phase = .standby) (order : s.pwr.order = some o)
    (has : p < s.part.ports) (enabled : tget false s.pwr.chive p = true) (valid : fcValid fc = true) (coded : fcReserved (parseFc fc) = false)
    (type : (parseFc fc).fcType = 0) (kind : (parseFc fc).kind ≤ 1) (mode : (parseFc fc).mode = 2) (ours : (parseFc fc).rx = devAddr)
    (cls : o.wakeClass ≤ (parseFc fc).cls) (known : isNeighbour s p (parseFc fc).tx = true) (clocked : allStopped s = false) :
    ∃ t, exec (.wakeFrame p fc) s = .next t ∧ t.pwr.wakeCause = 1 ∧ t.pwr.wakePort = BitVec.ofNat 7 p ∧
      t.pwr.wakeEp = BitVec.ofNat 14 (parseFc fc).tx ∧ t.pwr.wakeSeen = true ∧ DeviceReset 6 s t := by
  obtain ⟨reset, cause, port_, endpoint_, seen⟩ := wake_wakes (s := s) 1 p (parseFc fc).tx (by rw [standby]; decide)
  refine ⟨wake 1 p (parseFc fc).tx s, ?_, cause, port_, endpoint_, seen, reset⟩
  refine (?_ : execWakeFrame p fc s = _)
  unfold execWakeFrame
  rw [if_neg (Nat.not_le.mpr has)]
  dsimp only
  rw [if_pos, wakeSource_standby standby order]
  simp [enabled, valid, coded, type, kind, mode, ours, order, cls, known, clocked]

theorem execWakeTimer_wakes {o : StandbyOrder} {r : Nat} (standby : s.pwr.phase = .standby) (order : s.pwr.order = some o)
    (recorded : o.recordAt = some r) (enabled : bit o.flags 2 = true) :
    ∃ t, exec .wakeTimer s = .next t ∧ t.pwr.wakeCause = 3 ∧ DeviceReset 6 s t := by
  let u := advanceTo (sampleOf s.tmb o.wakeAt) s
  obtain ⟨reset, cause, -⟩ := wake_wakes (s := u) 3 0 0 (by rw [show u.pwr = s.pwr from rfl, standby]; decide)
  refine ⟨wake 3 0 0 u, ?_, cause, reset.of_same rfl rfl rfl ⟨rfl, rfl, rfl⟩⟩
  refine (?_ : execWakeTimer s = _)
  unfold execWakeTimer
  rw [order]
  dsimp only
  rw [if_neg (by simp [enabled, recorded, standby]), wakeSource_standby (s := u) standby order]

theorem execPcieWakeRelease_releases {n : Nat} (low : s.pwr.wakeN = some n) :
    ∃ t, exec .pcieWakeRelease s = .next t ∧ t.pwr.wakeN = none ∧ t.out = s.out ++ [.pin "PCIE_WAKE_N" 1] := by
  refine (?_ : ∃ t, execPcieWakeRelease s = _ ∧ _)
  unfold execPcieWakeRelease
  rw [low]
  refine ⟨_, rfl, rfl, ?_⟩
  simp only [emit]
  split <;> rfl

/-! ### CHIVE_BEACON (R535) -/

/-- A count rounded up to a multiple. -/
theorem roundedUp_mod (a : Nat) {e : Nat} (least : 1 ≤ e) : (a + (e - a % e) % e) % e = 0 := by
  have below := Nat.mod_lt a least
  by_cases none : a % e = 0
  · simp [none]
  · rw [Nat.mod_eq_of_lt (by omega : e - a % e < e)]
    have split_ := Nat.div_add_mod a e
    rw [show a + (e - a % e) = e * (a / e + 1) by rw [Nat.mul_add, Nat.mul_one]; omega, Nat.mul_mod_right]

/-- The next Chive beacon's number is a multiple of chive_every (R535). -/
theorem chiveSteps_mod (s : State) (x : Port) {every : Nat} (least : 1 ≤ every) :
    (x.mac.beaconSeq.toNat + chiveSteps s x every) % every = 0 := by
  unfold chiveSteps
  dsimp only
  rw [← Nat.add_assoc]
  exact roundedUp_mod _ least

theorem execChiveBeacon_sends {o : StandbyOrder} {p : Nat} (standby : s.pwr.phase = .standby) (order : s.pwr.order = some o)
    (has : p < s.part.ports) (designated : thas s.pwr.chive p = true) (clocked : allStopped s = false) (least : 1 ≤ o.chiveEvery)
    (unwrapped : (port s p).mac.beaconSeq.toNat + chiveSteps s (port s p) o.chiveEvery < 65536) :
    ∃ t, exec (.chiveBeacon p) s = .next t ∧ (port t p).mac.beaconSeq.toNat % o.chiveEvery = 0 ∧
      (port t p).mac.beaconAt = (port s p).mac.beaconAt + 20000000 * chiveSteps s (port s p) o.chiveEvery ∧
      ∃ w : Wave, t.out = s.out ++ [.txen p .high, .line p (port t p).mac.beaconAt w, .txen p .released] ∧
        w.chive = true ∧ w.lanes = 9 ∧ ∃ f : Fc, w.fc = packFc f ∧ f.mode = 2 ∧ f.kind = 2 := by
  refine (?_ : ∃ t, execChiveBeacon p s = _ ∧ _)
  unfold execChiveBeacon
  rw [if_neg (Nat.not_le.mpr has), order]
  dsimp -zeta only
  rw [if_neg (by simp [standby, designated, clocked])]
  extract_lets x j start u v y _ _ as_ fm body _ fc _ w
  have mac (z : State) (ports : z.ports = v.ports) :
      (port z p).mac.beaconAt = start ∧ (port z p).mac.beaconSeq = (port s p).mac.beaconSeq + BitVec.ofNat 16 j := by
    rw [port, ports, ← port, mac_updMac_self]
    exact ⟨rfl, rfl⟩
  obtain ⟨moved, numbered⟩ := mac (emit (.txen p .released) (emit (.line p start w) (emit (.txen p .high) v))) rfl
  refine ⟨_, rfl, ?_, moved, w, ?_, rfl, rfl, fc, rfl, rfl, rfl⟩
  · rw [numbered, BitVec.toNat_add, BitVec.toNat_ofNat, Nat.add_mod_mod, Nat.mod_eq_of_lt unwrapped]
    exact chiveSteps_mod s x least
  · rw [moved]
    simp [emit, v, u]

end Sys2Proof.Machine
end

section
/-! The obligations of start-up and of standby (O5, O6). -/

namespace Sys2Proof

open Machine

/-- Settles O5: what start-up does before the choice of an image leaves what the choice turns on. -/
theorem startUpReachesReady : Obligations.StartUpReachesReady := by
  unfold Obligations.StartUpReachesReady
  exact fun s ref boot => execResetRelease_boots ref boot

/-- Settles O6, source by source. -/
theorem standbyAndWake : Obligations.StandbyAndWake := by
  unfold Obligations.StandbyAndWake
  exact ⟨fun s o r => execStandbyEntry_enters, fun s o p fc => execWakeFrame_wakes, fun s o dur => execWakeInNLow_wakes,
    fun s o r => execWakeTimer_wakes, fun s n => execPcieWakeRelease_releases, fun s o p => execChiveBeacon_sends⟩

end Sys2Proof
end

section
/-! Journaled writes and the commands of the key store (R326, R482 to R493, R503). -/

namespace Sys2Proof.Machine

variable {s t : State} {c : Caller} {req : Bytes}

/-! ### Jobs leave the nonce ceilings in force (R302) -/

theorem mram_of_calm (h : t.calm = s.calm) : t.mram = s.mram := (congrArg Calm.mram h :)

theorem ceilings_of_calm (h : t.calm = s.calm) : t.mram.ceilings = s.mram.ceilings := congrArg Mram.ceilings (mram_of_calm h)

theorem cphRecord_ceilings (p r kind : Nat) (e : JobEnd) (tag : Nat) (raiseIt : Bool) (s : State) :
    (cphRecord p r kind e tag raiseIt s).mram.ceilings = s.mram.ceilings := by
  unfold cphRecord
  split
  · rfl
  · extract_lets addr u v
    have kept : v.mram.ceilings = s.mram.ceilings := ceilings_of_calm (hostWrite_calm ..)
    split
    · exact (ceilings_of_calm (sendMsix_calm ..)).trans kept
    · exact kept

theorem flushRing_ceilings (p r n : Nat) (s : State) : (flushRing p r n s).mram.ceilings = s.mram.ceilings := by
  induction n generalizing s with
  | zero => rfl
  | succ n ih =>
    unfold flushRing
    split
    · rfl
    · split
      · rfl
      · exact (ih _).trans (cphRecord_ceilings ..)

theorem endJob_ceilings (p r idx : Nat) (e : JobEnd) (s : State) : (endJob p r idx e s).mram.ceilings = s.mram.ceilings :=
  flushRing_ceilings ..

theorem pipeUse_ceilings (q bytes p : Nat) (host : Bool) (s : State) : (pipeUse q bytes p host s).mram.ceilings = s.mram.ceilings :=
  (ceilings_of_calm (count_calm ..)).trans (ceilings_of_calm (bump_calm ..))

theorem raiseCeiling_ceilings (page : Nat) (s : State) : (raiseCeiling page s).mram.ceilings = s.mram.ceilings := by
  unfold raiseCeiling
  dsimp only
  split <;> rfl

theorem takeNonce_ceilings (page : Nat) (s : State) : (takeNonce page s).2.mram.ceilings = s.mram.ceilings := by
  unfold takeNonce
  dsimp only
  split
  · rfl
  · split
    · dsimp only
      split
      · exact (raiseCeiling_ceilings ..).trans rfl
      · rfl
    · split
      · exact raiseCeiling_ceilings ..
      · rfl

theorem startJob_ceilings (j : Job) (s : State) : (startJob j s).mram.ceilings = s.mram.ceilings := by
  unfold startJob
  extract_lets x fail
  split
  · rfl
  · split
    · exact endJob_ceilings ..
    · rfl
    · split
      · exact endJob_ceilings ..
      · extract_lets start
        have starts (nonce : Bytes) (u : State) : (start nonce u).mram.ceilings = u.mram.ceilings := (pipeUse_ceilings ..).trans rfl
        have drawn := takeNonce_ceilings j.pod s
        split
        · exact starts ..
        · split
          next h => rw [h] at drawn; exact drawn
          next h => rw [h] at drawn; exact (endJob_ceilings ..).trans drawn
          next h => rw [h] at drawn; exact (starts ..).trans drawn

theorem foldl_ceilings {α : Type} {f : State → α → State} (h : ∀ s x, (f s x).mram.ceilings = s.mram.ceilings) (l : List α) (s : State) :
    (l.foldl f s).mram.ceilings = s.mram.ceilings := by
  induction l generalizing s with
  | nil => rfl
  | cons x l ih => exact (ih _).trans (h s x)

theorem startWaiting_ceilings (page : Nat) (s : State) : (startWaiting page s).mram.ceilings = s.mram.ceilings :=
  foldl_ceilings (fun _ j => startJob_ceilings j _) _ _

/-! ### JOURNALED_WRITE_COMMIT (R326, R493) -/

/-- The slot that a write is for takes its key. -/
def JWrite.fill (w : JWrite) (s : State) : State :=
  match w.slot with
  | some (i, k) => setSlot (i / 64) (i % 64) (some k) s
  | none => s

/-- The command that a write is for completes. -/
def JWrite.report (w : JWrite) (s : State) : State :=
  match w.caller with
  | some c => complete c w.status w.resp s
  | none => s

namespace JWrite

variable (w : JWrite)

theorem report_calm (s : State) : (w.report s).calm = s.calm := by
  unfold report
  split
  · exact complete_calm ..
  · rfl

theorem fill_mram (s : State) : (w.fill s).mram = s.mram := by
  unfold fill
  split <;> rfl

theorem fill_sns (s : State) : (w.fill s).sns = s.sns := by
  unfold fill
  split <;> rfl

theorem fill_slot {w : JWrite} {p k : Nat} {key : Key} (slot : w.slot = some (64 * p + k, key)) (inPage : k < 64) (s : State) :
    slotKey (w.fill s) p k = some key := by
  have filled : w.fill s = setSlot p k (some key) s := by
    rw [fill, slot]
    dsimp only
    rw [show (64 * p + k) / 64 = p by omega, show (64 * p + k) % 64 = k by omega]
  rw [filled, slotKey_setSlot_some]

end JWrite

section
variable {w : JWrite} {rest : List JWrite} (running : Running s) (front : s.mram.journal = w :: rest)
include running front

/-- The front write commits where it neither raises a ceiling nor holds the standby set. -/
theorem execJournaledWriteCommit_commits (bounded : ∀ o, w.target ≠ .standby o) (flat : ∀ p v, w.target ≠ .ceiling p v) :
    let u := applyTarget w.target { s with mram.journal := rest }
    ∃ t, exec .journaledWriteCommit s = .next t ∧ t.mram = u.mram ∧ t.sns = u.sns ∧
      (∀ p k key, p ≤ 64 → k < 64 → w.slot = some (64 * p + k, key) → slotKey t p k = some key) := by
  intro u
  refine ⟨w.report (w.fill u), ?_, ?_, ?_, fun p k key _ inPage slot => ?_⟩
  · refine (?_ : execJournaledWriteCommit s = _)
    unfold execJournaledWriteCommit nextWrite
    rw [front]
    obtain ⟨target, slot, caller, status, resp, keyOp⟩ := w
    cases target with
    | standby o => exact absurd rfl (bounded o)
    | ceiling p v => exact absurd rfl (flat p v)
    | _ => exact if_neg (by simp [running])
  · rw [mram_of_calm (w.report_calm _), w.fill_mram]
  · exact (congrArg Calm.sns (w.report_calm (w.fill u)) :).trans (w.fill_sns u)
  · rw [Fenced.slotKey_eq (fenced_of_calm (w.report_calm _)), JWrite.fill_slot slot inPage]

theorem execJournaledWriteCommit_raises {p v : Nat} (target : w.target = .ceiling p v) :
    ∃ t, exec .journaledWriteCommit s = .next t ∧ tget 0 t.mram.ceilings p = v := by
  obtain ⟨_, slot, caller, status, resp, keyOp⟩ := w
  obtain rfl := target
  let w : JWrite := { target := .ceiling p v, slot := slot, caller := caller, status := status, resp := resp, keyOp := keyOp }
  let u : State := w.fill (applyTarget (.ceiling p v) { s with mram.journal := rest })
  refine ⟨w.report (startWaiting p u), ?_, ?_⟩
  · refine (?_ : execJournaledWriteCommit s = _)
    unfold execJournaledWriteCommit nextWrite
    rw [front]
    exact if_neg (by simp [running])
  · rw [ceilings_of_calm (w.report_calm _), startWaiting_ceilings, w.fill_mram]
    exact tget_tset_self ..

end

theorem execJournaledWriteCommit_targets {w : JWrite} {rest : List JWrite} (running : Running s) (front : s.mram.journal = w :: rest) :
    (∀ i r, w.target = .keyRecord i r → ∃ t, exec .journaledWriteCommit s = .next t ∧ t.mram.journal = rest ∧
      (t.mram.records.find? (fun e => e.1 == i)).map (·.2) = r ∧
      (∀ p k key, p ≤ 64 → k < 64 → w.slot = some (64 * p + k, key) → slotKey t p k = some key)) ∧
    (∀ es, w.target = .registry es → ∃ t, exec .journaledWriteCommit s = .next t ∧ t.mram.journal = rest ∧ t.mram.registry = es) ∧
    (∀ p v, w.target = .ceiling p v → ∃ t, exec .journaledWriteCommit s = .next t ∧ tget 0 t.mram.ceilings p = v) ∧
    (w.target = .storeGen → ∃ t, exec .journaledWriteCommit s = .next t ∧ t.mram.journal = rest ∧ t.mram.storeGen = s.mram.storeGen + 1) ∧
    (∀ n l, w.target = .lin n l → ∃ t, exec .journaledWriteCommit s = .next t ∧ t.mram.journal = rest ∧ (input t n).nextLin = some l) := by
  refine ⟨fun i r target => ?_, fun es target => ?_, fun p v => execJournaledWriteCommit_raises running front, fun target => ?_,
    fun n l target => ?_⟩ <;>
  obtain ⟨t, next, mram, sns, slots⟩ := execJournaledWriteCommit_commits running front (by simp [target]) (by simp [target]) <;>
  rw [target] at mram sns
  · cases r with
    | none => exact ⟨t, next, by rw [mram]; rfl, by rw [mram]; exact congrArg (Option.map _) (find?_tdel_self ..), slots⟩
    | some r => exact ⟨t, next, by rw [mram]; rfl, by rw [mram]; exact congrArg (Option.map _) (find?_tset_self ..), slots⟩
  · exact ⟨t, next, by rw [mram]; rfl, by rw [mram]; rfl⟩
  · exact ⟨t, next, by rw [mram]; rfl, by rw [mram]; rfl⟩
  · refine ⟨t, next, by rw [mram]; rfl, ?_⟩
    rw [input, sns]
    exact congrArg Input.nextLin (tget_tset_self ..)

/-! ### The lifecycle and revocation (R482, R483, R485) -/

theorem tamperEngine_fenced (s : State) : (tamperEngine s).fenced = { s.fenced with slots := [] } := by
  unfold tamperEngine
  extract_lets seals sealed ended squash
  have work : ended.fenced = s.fenced :=
    (foldl_fenced (fun _ _ => endJob_fenced ..) _ _).trans (foldl_fenced (fun _ _ => failSeal_fenced ..) _ _)
  clear_value ended
  exact (congrArg (fun x : Fenced => { x with slots := [] }) work : _)

section
variable (start : mayStart s c 0x1001 [] = true) (form : shaped req 8 [(1, 7)] = true) (sender : c.pod = 0)
  (following : rd req 0 1 = s.sec.lifecycle + 1)
include start form sender following

theorem execSecLifecycle_provisions (into : rd req 0 1 = 1) : exec (.secLifecycle c req) s = Answers c 0x1001 req St.ok (statusResp St.ok)
    (newKwk { s with sec.lifecycle := 1, sec.tap := Tap.of 1 }) := by
  refine runCmd_answers start form (fun _ => sender) (?_ : secLifecycleBody c req s = _)
  rw [into] at following
  simp [secLifecycleBody, into, ← following, answer]

theorem execSecLifecycle_operates (into : rd req 0 1 = 2) : exec (.secLifecycle c req) s = Answers c 0x1001 req St.ok (statusResp St.ok)
    { s with sec.lifecycle := 2, sec.tap := Tap.of 2 } := by
  refine runCmd_answers start form (fun _ => sender) (?_ : secLifecycleBody c req s = _)
  rw [into] at following
  simp [secLifecycleBody, into, ← following, answer]

theorem execSecLifecycle_decommissions (into : rd req 0 1 = 3) : ∃ t, exec (.secLifecycle c req) s = .next t ∧ t.sec.lifecycle = 3 ∧
    t.sec.tap = Tap.of 3 ∧ t.sec.kwk = none ∧ t.cph.slots = [] ∧ t.host.vfEnable = false ∧ t.host.numVfs = 0 := by
  let fused : State := { s with sec.lifecycle := 3, sec.tap := Tap.of 3 }
  let ended : State := (vfLost fused 0).foldl (fun s n => resetMsix n (startPodReset n 3 none s)) fused
  have kept : Guarded fused ended := Guarded.foldl (resetFunction_guarded 3) _ _
  have body : secLifecycleBody c req s = persist .storeGen c (statusResp St.ok)
      (tamperEngine { ended with host.vfEnable := false, host.numVfs := 0, sec.kwk := none }) := by
    rw [into] at following
    unfold secLifecycleBody
    dsimp only
    rw [into, guards_pass (by simp [← following]), if_neg (by decide), if_neg (by decide)]
  refine ⟨_, runCmd_goesOn (pod0 := true) start form (fun _ => sender) body, ?_⟩
  clear_value ended
  generalize held : hold _ c req true _ = t
  have fenced := (fenced_of_calm (held ▸ hold_calm ..) : t.fenced = _).trans ((journalWrite_fenced ..).trans (tamperEngine_fenced ..))
  have sec : t.sec = { fused.sec with kwk := none } := (congrArg Fenced.sec fenced).trans (congrArg (fun x : Sec => { x with kwk := none }) kept.sec)
  rw [sec]
  exact ⟨rfl, rfl, rfl, congrArg Fenced.slots fenced, congrArg Fenced.vfEnable fenced, congrArg Fenced.numVfs fenced⟩

end

theorem execSecRevoke_revokes (start : mayStart s c 0x1002 [] = true) (form : shaped req 8 [(2, 6)] = true) (sender : c.pod = 0)
    (mask : rd req 0 1 ≤ 15) (left : s.sec.revoked ||| BitVec.ofNat 4 (rd req 0 1) ≠ 15) (running : bit (rd req 0 1) s.sec.runKey = false)
    (rising : s.sec.minSecver ≤ rd req 1 1) (covered : rd req 1 1 ≤ s.sec.runSecver) (bounded : rd req 1 1 ≤ 63) :
    exec (.secRevoke c req) s = Answers c 0x1002 req St.ok (statusResp St.ok)
      { s with sec.revoked := s.sec.revoked ||| BitVec.ofNat 4 (rd req 0 1), sec.minSecver := rd req 1 1 } := by
  refine runCmd_answers start form (fun _ => sender) (?_ : secRevokeBody req s = _)
  unfold secRevokeBody
  dsimp only
  rw [guards_pass]
  · rfl
  · rw [running, beq_eq_false_iff_ne.mpr left]
    simp only [Bool.or_false, Bool.or_eq_false_iff, decide_eq_false_iff_not]
    omega

/-! ### The keys of the key store (R492, R503) -/

section
variable {kek : Key} (start : mayStart s c 0x1003 [.keySlot (64 * rd req 0 1)] = true) (form : shaped req 48 [(1, 7)] = true)
  (sender : c.pod = 0) (operational : s.sec.lifecycle = 2) (unlatched : s.sec.tamper = false) (low : 1 ≤ rd req 0 1)
  (high : rd req 0 1 ≤ 64) (root : slotKey s 0 0 = some kek)
include start form sender operational unlatched low high root

theorem execKekInstall_fails (wrong : Config.keyUnwrap true kek.bytes (slice req 8 40) = none) :
    exec (.kekInstall c req) s = Answers c 0x1003 req St.authFailed (statusResp St.authFailed) s := by
  refine runCmd_answers start form (fun _ => sender) ((keyCommand_operational operational ..).trans (?_ : kekInstallBody c req s = _))
  unfold kekInstallBody
  dsimp only
  rw [if_neg (by simp only [Bool.or_eq_true, decide_eq_true_eq]; omega), guards_pass unlatched, root]
  simp only [wrong]
  rfl

theorem execKekInstall_installs {key : Bytes} (right : Config.keyUnwrap true kek.bytes (slice req 8 40) = some key) (size : key.length = 32) :
    exec (.kekInstall c req) s = GoesOn c 0x1003 req [.keySlot (64 * rd req 0 1)] true
      (installKek (rd req 0 1) key c (statusResp St.ok) s).1 := by
  refine runCmd_goesOn start form (fun _ => sender) ((keyCommand_operational operational ..).trans (?_ : kekInstallBody c req s = _))
  unfold kekInstallBody
  dsimp only
  rw [if_neg (by simp only [Bool.or_eq_true, decide_eq_true_eq]; omega), guards_pass unlatched, root]
  simp only [right]
  rw [guards_pass (by simp [size])]
  rfl

end

/-- A write that is journaled is on the journal. -/
theorem mem_journalWrite (w : JWrite) (s : State) : w ∈ (journalWrite w s).mram.journal := by
  unfold journalWrite
  dsimp only
  split
  · exact List.mem_singleton_self w
  · refine List.mem_cons_of_mem _ ?_
    split <;> simp

section
variable (start : mayStart s c 0x1004 [.keySlot (64 * c.pod)] = true) (form : req.length = 96) (operational : s.sec.lifecycle = 2)
  (unlatched : s.sec.tamper = false)
include start form operational

theorem execKekAgree_refuses (off : Config.validPoint req = false) :
    exec (.kekAgree c req) s = Answers c 0x1004 req St.badParam (statusResp St.badParam) s := by
  refine runCmd_answers start (by simp [form]) (by simp) ((keyCommand_operational operational ..).trans (?_ : kekAgreeBody c req s = _))
  exact if_pos (by simp [off])

include unlatched in
theorem execKekAgree_agrees (valid : Config.validPoint req = true) : ∃ t w, exec (.kekAgree c req) s = .next t ∧ w ∈ t.mram.journal ∧
    w.slot = some (64 * c.pod, { bytes := agreedKey c.pod req s.free, usage := 0 }) ∧ w.caller = some c ∧ t.free = s.free + 1 := by
  let pair : State := { s with free := s.free + 1 }
  let k : Key := { bytes := agreedKey c.pod req s.free, usage := 0 }
  let qe := fit 96 (Config.ecdhPublic s.free)
  let resp := statusResp St.ok ++ qe ++ fit 96 (Config.ecdsaSign (Config.sha384 (req ++ qe ++ beBytes 1 c.pod ++ fit 8 Config.serial)) s.free)
  let w : JWrite := { target := .keyRecord (64 * c.pod) (some (recordOf pair c.pod k)), slot := some (64 * c.pod, k), caller := some c,
                      status := St.ok, resp := resp, keyOp := true }
  have body : kekAgreeBody c req s = (journalWrite w pair, .held) := by
    unfold kekAgreeBody
    rw [guards_pass (by simp [valid]), guards_pass unlatched]
    rfl
  obtain ⟨t, next, calm⟩ := goesOn_next c 0x1004 req [.keySlot (64 * c.pod)] true (journalWrite w pair)
  refine ⟨t, w, (runCmd_goesOn start (by simp [form]) (by simp) ((keyCommand_operational operational ..).trans body)).trans next, ?_, rfl, rfl,
    (congrArg Calm.free calm :)⟩
  rw [mram_of_calm calm]
  exact mem_journalWrite w pair

end

theorem execKekClear_empties (start : mayStart s c 0x1005 [.keySlot (64 * c.pod)] = true) (form : shaped req 8 [(0, 8)] = true)
    (operational : s.sec.lifecycle = 2) : ∃ t, exec (.kekClear c req) s = .next t ∧ slotKey t c.pod 0 = none ∧
      (∀ p k, k < 64 → (p, k) ≠ (c.pod, 0) → slotKey t p k = slotKey s p k) := by
  let u := setSlot c.pod 0 none s
  have cleared {t : State} (same : t.fenced = u.fenced) : slotKey t c.pod 0 = none ∧
      (∀ p k, k < 64 → (p, k) ≠ (c.pod, 0) → slotKey t p k = slotKey s p k) :=
    ⟨(Fenced.slotKey_eq same ..).trans (slotKey_setSlot_none ..), fun p k inPage other =>
      (Fenced.slotKey_eq same ..).trans (slotKey_setSlot_none_other other (by omega) inPage s)⟩
  by_cases recorded : (keyRecord u c.pod 0).isSome = true
  · exact ⟨_, runCmd_goesOn start form (by simp) ((keyCommand_operational operational ..).trans (if_pos recorded)),
      cleared ((fenced_of_calm (hold_calm ..)).trans (journalWrite_fenced ..))⟩
  · obtain ⟨t, next, same⟩ := answers_next_fenced c 0x1005 req St.ok (statusResp St.ok) u
    exact ⟨t, (runCmd_answers start form (by simp) ((keyCommand_operational operational ..).trans (if_neg recorded))).trans next,
      cleared same⟩

theorem execSecIdentity_answers (start : mayStart s c 0x1006 [] = true) (form : shaped req 8 [(0, 8)] = true) :
    exec (.secIdentity c req) s = Answers c 0x1006 req St.ok
      (statusResp St.ok ++ fit 8 Config.serial ++ fit 96 Config.identityPub) s :=
  runCmd_answers start form (by simp) rfl

end Sys2Proof.Machine
end

section
/-! The obligation of the key store's writes (O46). -/

namespace Sys2Proof

open Machine

/-- Settles O46, command by command. -/
theorem writesCommitAndKeysInstall : Obligations.WritesCommitAndKeysInstall := by
  unfold Obligations.WritesCommitAndKeysInstall
  exact ⟨fun s w rest => execJournaledWriteCommit_targets,
    fun s c req start form sender following => ⟨execSecLifecycle_provisions start form sender following,
      execSecLifecycle_operates start form sender following, execSecLifecycle_decommissions start form sender following⟩,
    fun s c req => execSecRevoke_revokes,
    fun s c req kek start form sender operational unlatched low high root =>
      ⟨execKekInstall_fails start form sender operational unlatched low high root,
        fun key => execKekInstall_installs start form sender operational unlatched low high root⟩,
    fun s c req start form operational unlatched =>
      ⟨execKekAgree_refuses start form operational, execKekAgree_agrees start form operational unlatched⟩,
    fun s c req => execKekClear_empties, fun s c req => execSecIdentity_answers⟩

end Sys2Proof
end

section
/-! Tamper response and observation (R323, R482, R490, R495 to R503). -/

namespace Sys2Proof.Machine

variable {s t : State} {c : Caller} {req : Bytes}

/-! ### Tamper (R495 to R497) -/

/-- What a qualified source leaves of the security state: the always-on domain's part, the latch and the key-wrapping key erased. -/
theorem tamperAlarm_sec {k : Nat} (on : sourceOn s k = true) : ∃ due, (tamperAlarm k s).sec =
    { (noteAlarm k s).sec with tamper := true, tamperSeen := true, kwk := none, alarmDue := due } := by
  unfold tamperAlarm
  rw [if_neg (by simp [on])]
  split
  · exact ⟨_, rfl⟩
  · extract_lets noted _ latched
    split
    · exact ⟨latched.sec.alarmDue, congrArg Fenced.sec ((fenced_of_calm (raiseSys_calm ..)).trans (tamperEngine_fenced latched))⟩
    · exact ⟨_, rfl⟩

theorem tamperAlarm_empties {k : Nat} (on : sourceOn s k = true) (fielded : s.sec.lifecycle ≠ 3) (running : Running s) :
    (tamperAlarm k s).cph.slots = [] := by
  have kept : (noteAlarm k s).pwr = s.pwr := by
    unfold noteAlarm
    dsimp only
    split <;> rfl
  unfold tamperAlarm
  rw [if_neg (by simp [on]), if_neg fielded]
  extract_lets noted _ latched
  rw [if_pos (show latched.pwr.phase = _ from (congrArg Power.phase kept).trans running)]
  exact (Fenced.slots_eq (fenced_of_calm (raiseSys_calm ..))).trans (congrArg Fenced.slots (tamperEngine_fenced latched))

theorem noteAlarm_sec (k : Nat) (s : State) : (noteAlarm k s).sec.alarms = satAdd s.sec.alarms 1 ∧
    (noteAlarm k s).sec.active = s.sec.active ||| BitVec.ofNat 7 (2 ^ k) ∧
    (s.sec.tamperSeen = false → (noteAlarm k s).sec.logSource = BitVec.ofNat 4 k) ∧
    (noteAlarm k s).sec.lifecycle = s.sec.lifecycle ∧ (noteAlarm k s).sec.loopRun = s.sec.loopRun := by
  unfold noteAlarm
  extract_lets first _ noted
  cases seen : s.sec.tamperSeen with
  | true => rw [if_neg (by simp [first, seen])]; exact ⟨rfl, rfl, nofun, rfl, rfl⟩
  | false => rw [if_pos (by simp [first, seen])]; exact ⟨rfl, rfl, fun _ => rfl, rfl, rfl⟩

theorem execTamperQualify_latches {k : Nat} (has : k < 7) (on : sourceOn s k = true) :
    ∃ t, exec (.tamperQualify k) s = .next t ∧ t.sec.tamper = true ∧ t.sec.tamperSeen = true ∧ t.sec.kwk = none ∧
      t.sec.alarms = satAdd s.sec.alarms 1 ∧ bit t.sec.active.toNat k = true ∧
      (s.sec.tamperSeen = false → t.sec.logSource = BitVec.ofNat 4 k) ∧
      (s.sec.lifecycle ≠ 3 → s.pwr.phase = .running → t.cph.slots = []) ∧ t.sec.lifecycle = s.sec.lifecycle := by
  obtain ⟨due, sec⟩ := tamperAlarm_sec on
  obtain ⟨alarms, active, source, lifecycle, -⟩ := noteAlarm_sec k s
  refine ⟨tamperAlarm k s, if_neg (by omega), ?_⟩
  rw [sec]
  refine ⟨rfl, rfl, rfl, alarms, ?_, source, tamperAlarm_empties on, lifecycle⟩
  exact (congrArg (fun x : BitVec 7 => bit x.toNat k) active).trans (bit_or_twoPow has _)

theorem tamperAlarm_loopRun {k : Nat} (on : sourceOn s k = true) : (tamperAlarm k s).sec.loopRun = s.sec.loopRun := by
  obtain ⟨due, sec⟩ := tamperAlarm_sec on
  obtain ⟨-, -, -, -, loopRun⟩ := noteAlarm_sec k s
  rw [sec]
  exact loopRun

theorem execTamperLoopPattern_counts {i r : Nat} (has : i < 4) (loops : bits s.sec.cfg.modes.toNat (2 * i) 2 = 3) :
    ∃ t, exec (.tamperLoopPattern i r) s = .next t ∧
      tget 0 t.sec.loopRun i = (if r = Config.freeNat s.free % 65536 then 0 else tget 0 s.sec.loopRun i + 1) ∧
      (r = Config.freeNat s.free % 65536 → t.sec.tamper = s.sec.tamper) := by
  refine (?_ : ∃ t, execTamperLoopPattern i r s = _ ∧ _)
  unfold execTamperLoopPattern
  rw [if_neg (by omega), if_neg (by simp [loops])]
  dsimp only [freshNat]
  by_cases same : r = Config.freeNat s.free % 65536
  · rw [if_pos same, if_pos same]
    exact ⟨_, rfl, tget_tset_self .., fun _ => rfl⟩
  · rw [if_neg same, if_neg same]
    split
    · refine ⟨_, rfl, (congrArg (tget 0 · i) (tamperAlarm_loopRun ?_)).trans (tget_tset_self ..), fun other => absurd other same⟩
      exact Bool.and_eq_true_iff.mpr ⟨decide_eq_true (by omega), by simp [emit, loops]⟩
    · exact ⟨_, rfl, tget_tset_self .., fun other => absurd other same⟩

/-- The four filters of a request. -/
theorem filtersInRange (within : ∀ k < 4, 1 ≤ rd req (2 + k) 1 ∧ rd req (2 + k) 1 ≤ 100) :
    (((List.range 4).map (fun k => rd req (2 + k) 1)).any (fun f => decide (f < 1) || decide (f > 100))) = false := by
  rw [List.any_map, List.any_eq_false]
  intro k listed
  have := within k (List.mem_range.mp listed)
  simp only [Function.comp, Bool.or_eq_true, decide_eq_true_eq]
  omega

theorem execSecTamperConfigure_persists (start : mayStart s c 0x1007 [] = true) (form : shaped req 8 [(1, 1), (6, 2)] = true)
    (sender : c.pod = 0) (within : ∀ k < 4, 1 ≤ rd req (2 + k) 1 ∧ rd req (2 + k) 1 ≤ 100) :
    exec (.secTamperConfigure c req) s = GoesOn c 0x1007 req [] true (journalWrite
      { target := .tamper { modes := BitVec.ofNat 8 (rd req 0 1), filters := (List.range 4).map (fun k => rd req (2 + k) 1) },
        caller := some c, status := St.ok, resp := statusResp St.ok } s) :=
  runCmd_goesOn (pod0 := true) start form (fun _ => sender) (if_neg (by simp only [filtersInRange within]; decide))

theorem execSecTamperClear_clears (start : mayStart s c 0x1008 [] = true) (form : shaped req 8 [(0, 8)] = true) (sender : c.pod = 0)
    (quiet : c.io.tamperActive % 128 = 0) : ∃ t, exec (.secTamperClear c req) s = .next t ∧ t.sec.tamper = false ∧ t.sec.active = 0 ∧
      ((s.sec.lifecycle = 1 ∨ s.sec.lifecycle = 2) → t.sec.kwk = some (s.free + 1)) ∧
      (s.sec.lifecycle ≠ 1 → s.sec.lifecycle ≠ 2 → t.sec.kwk = s.sec.kwk) := by
  have none : BitVec.ofNat 7 c.io.tamperActive = 0 := BitVec.eq_of_toNat_eq (by simpa using quiet)
  let still : State := { s with sec.active := 0 }
  let u : State := if kwkState still = true then newKwk still else still
  have body : secTamperClearBody c s = (journalWrite { target := .storeGen, caller := some c, status := St.ok, resp := statusResp St.ok }
      { u with sec.tamper := false }, .held) := by
    unfold secTamperClearBody
    dsimp only
    rw [none]
    rfl
  obtain ⟨t, next, calm⟩ := goesOn_next c 0x1008 req [] true (journalWrite
    { target := .storeGen, caller := some c, status := St.ok, resp := statusResp St.ok } { u with sec.tamper := false })
  refine ⟨t, (runCmd_goesOn (pod0 := true) start form (fun _ => sender) body).trans next, ?_⟩
  rw [show t.sec = { u.sec with tamper := false } from congrArg Calm.sec calm]
  have made : kwkState still = (s.sec.lifecycle == 1 || s.sec.lifecycle == 2) := rfl
  by_cases has : kwkState still = true
  · rw [show u = newKwk still from if_pos has]
    rw [made, Bool.or_eq_true, beq_iff_eq, beq_iff_eq] at has
    exact ⟨rfl, rfl, fun _ => rfl, fun one two => absurd has (by simp [one, two])⟩
  · rw [show u = still from if_neg has]
    rw [made, Bool.or_eq_true, beq_iff_eq, beq_iff_eq] at has
    exact ⟨rfl, rfl, fun state => absurd state has, fun _ _ => rfl⟩

/-! ### Observation (R498, R499) -/

section
variable (start : mayStart s c 0x1009 [] = true) (sender : c.pod = 0) (fielded : s.sec.lifecycle ≠ 0)
include start sender fielded

theorem execSecObserveChallenge_challenges (form : shaped req 8 [(1, 3)] = true) (stage : rd req 0 1 = 0) :
    exec (.secObserveChallenge c req) s = Answers c 0x1009 req St.ok (statusResp St.ok ++ (freshBytes 16 s).1)
      { (freshBytes 16 s).2 with sec.challenge := some ((freshBytes 16 s).1, s.now + secs 60) } := by
  refine runCmd_answers start (by simp [form, stage]) (fun _ => sender) (?_ : observeChallengeBody s = _)
  rw [observeChallengeBody, if_neg fielded]
  rfl

theorem execSecObserveToken_opens (form : shaped req 104 [(1, 3)] = true) (stage : rd req 0 1 = 1) (low : 1 ≤ rd req 4 4)
    (high : rd req 4 4 ≤ 86400) :
    exec (.secObserveToken c req) s = if s.sec.lifecycle = 2 && !tokenOk req s then
        Answers c 0x1009 req St.tokenInvalid (statusResp St.tokenInvalid) { s with sec.challenge := none }
      else Answers c 0x1009 req St.ok (statusResp St.ok)
        (raiseSys 18 1 0 0 { s with sec.challenge := none, sec.observeUntil := some (s.now + secs (rd req 4 4)) }) := by
  have body : observeTokenBody req s = if s.sec.lifecycle = 2 && !tokenOk req s then answer St.tokenInvalid { s with sec.challenge := none }
      else answer St.ok (raiseSys 18 1 0 0 { s with sec.challenge := none, sec.observeUntil := some (s.now + secs (rd req 4 4)) }) := by
    unfold observeTokenBody
    dsimp only
    rw [if_neg fielded, if_neg (by simp only [Bool.or_eq_true, decide_eq_true_eq]; omega)]
  split
  · next bad => exact runCmd_answers start (by simp [form, stage]) (fun _ => sender) (body.trans (if_pos bad))
  · next good => exact runCmd_answers start (by simp [form, stage]) (fun _ => sender) (body.trans (if_neg good))

theorem execSecObserveEnd_ends (form : shaped req 8 [(1, 3)] = true) (stage : rd req 0 1 = 2) :
    exec (.secObserveEnd c req) s = Answers c 0x1009 req St.ok (statusResp St.ok) { s with sec.observeUntil := none } :=
  runCmd_answers start (by simp [form, stage]) (fun _ => sender) (if_neg fielded)

end

theorem execObserveExpiry_ends {u : Nat} (open_ : s.sec.observeUntil = some u) :
    exec .observeExpiry s = .next { advanceTo u s with sec.observeUntil := none } := by
  refine (?_ : execObserveExpiry s = _)
  rw [execObserveExpiry, open_]

end Sys2Proof.Machine
end

section
/-! The obligation of tamper response and observation (O47). -/

namespace Sys2Proof

open Machine

/-- Settles O47, command by command. -/
theorem tamperAndObservation : Obligations.TamperAndObservation := by
  unfold Obligations.TamperAndObservation
  exact ⟨fun s k => execTamperQualify_latches, fun s i r => execTamperLoopPattern_counts, fun s c req => execSecTamperConfigure_persists,
    fun s c req => execSecTamperClear_clears, fun s c req start sender fielded =>
      ⟨execSecObserveChallenge_challenges start sender fielded, execSecObserveToken_opens start sender fielded,
        execSecObserveEnd_ends start sender fielded⟩, fun s u => execObserveExpiry_ends⟩

end Sys2Proof
end

section
/-! Programmable counters and snapshots (R506 to R513, R522, R523). -/

namespace Sys2Proof.Machine

variable {s t : State} {c : Caller} {req : Bytes}

/-! ### Register writes (R508) -/

theorem whileHost_acts (open_ : pageOpen s 0 = true) (f : State → State) : whileHost s f = .next (f s) :=
  congrArg Host.Outcome.next (if_pos open_)

theorem pmcAdd_adds {x : Pmc} {k : Nat} (fits : x.value.toNat + k < 2 ^ 64) :
    pmcAdd x k = ({ x with value := BitVec.ofNat 64 (x.value.toNat + k) }, false) := if_neg (Nat.not_le.mpr fits)

theorem pmcAdd_wraps {x : Pmc} {k : Nat} (wraps : 2 ^ 64 ≤ x.value.toNat + k) :
    pmcAdd x k = ({ x with value := BitVec.ofNat 64 (x.value.toNat + k), ovf := true }, x.ovfIrq) := if_pos wraps

section
variable {n v k : Nat} (has : n < 256) (open_ : pageOpen s 0 = true)
include has open_

theorem execPmcValueWrite_acts : exec (.pmcValueWrite n v k) s = .next (pmcValueWrite n v k s) :=
  (if_neg (by omega)).trans (whileHost_acts open_ _)

theorem execPmcValueWrite_sets (fits : v < 2 ^ 64) (exact_ : v + k < 2 ^ 64) :
    exec (.pmcValueWrite n v k) s = .next (setPmc n { pmc s n with value := BitVec.ofNat 64 (v + k) } s) := by
  have written : (BitVec.ofNat 64 v).toNat = v := Nat.mod_eq_of_lt fits
  have added := pmcAdd_adds (x := { pmc s n with value := BitVec.ofNat 64 v }) (k := k) (by dsimp only; rw [written]; exact exact_)
  rw [execPmcValueWrite_acts has open_, pmcValueWrite, added]
  dsimp only
  rw [written]
  rfl

theorem execPmcValueWrite_wraps (fits : v < 2 ^ 64) (wraps : 2 ^ 64 ≤ v + k) :
    let u := setPmc n { pmc s n with value := BitVec.ofNat 64 (v + k), ovf := true } s
    exec (.pmcValueWrite n v k) s = .next (if (pmc s n).ovfIrq then raiseSys 21 1 n 0 u else u) := by
  have written : (BitVec.ofNat 64 v).toNat = v := Nat.mod_eq_of_lt fits
  have added := pmcAdd_wraps (x := { pmc s n with value := BitVec.ofNat 64 v }) (k := k) (by dsimp only; rw [written]; exact wraps)
  rw [execPmcValueWrite_acts has open_, pmcValueWrite, added]
  dsimp only
  rw [written]

theorem execPmcCfgWrite_sets (v : Nat) : ∃ d, exec (.pmcCfgWrite n v) s = .next (setPmc n d s) ∧ d.event = BitVec.ofNat 16 (bits v 48 16) ∧
    d.portEn = bit v 47 ∧ d.port = BitVec.ofNat 7 (bits v 40 7) ∧ d.cls = BitVec.ofNat 4 (bits v 28 4) ∧
    d.priv = BitVec.ofNat 2 (bits v 26 2) ∧ d.addrEn = bit v 25 ∧ d.enable = bit v 24 ∧ d.ovfIrq = bit v 1 ∧
    d.ovf = ((pmc s n).ovf && !bit v 0) ∧ d.value = (pmc s n).value ∧ d.assigned = (pmc s n).assigned ∧ d.limit4k = (pmc s n).limit4k ∧
    d.base4k = (pmc s n).base4k ∧ d.invalid = pmcInvalid d ∧
    ((pmc s n).assigned ≠ 0 → d.podEn = (pmc s n).podEn ∧ d.pod = (pmc s n).pod) ∧
    ((pmc s n).assigned = 0 → d.podEn = bit v 39 ∧ d.pod = BitVec.ofNat 7 (bits v 32 7)) := by
  refine ⟨_, (if_neg (by omega)).trans (whileHost_acts open_ _), rfl, rfl, rfl, rfl, rfl, rfl, rfl, rfl, rfl, rfl, rfl, rfl, rfl, rfl, ?_, ?_⟩
  · exact fun taken => ⟨if_neg (by simpa using taken), if_neg (by simpa using taken)⟩
  · exact fun free => ⟨if_pos (by simpa using free), if_pos (by simpa using free)⟩

end

/-! ### Snapshots (R512, R513) -/

theorem execSnapshotArm_arms (open_ : pageOpen s 0 = true) : (s.obs.snapPending.isSome = true → exec .snapshotArm s = .next s) ∧
    (s.obs.snapPending = none →
      let soon := tmbNow s + BitVec.ofNat 64 (usTime 2)
      exec .snapshotArm s = .next
        { s with obs.snapPending := some (if serialNewer 64 soon.toNat s.obs.snapTime.toNat then soon else s.obs.snapTime) }) :=
  ⟨fun pending => (whileHost_acts open_ _).trans (congrArg Host.Outcome.next (if_pos pending)),
    fun idle => (whileHost_acts open_ _).trans (congrArg Host.Outcome.next (if_neg (by simp [idle])))⟩

/-- A table of the nonzero values of a list of indices answers the value of each of them. -/
theorem tget_nonzero (f : Nat → Word) {i : Nat} {is : List Nat} (listed : i ∈ is) : tget 0 (nonzero f is) i = f i := by
  have fill (js : List Nat) (t : Table Word) (before : tget 0 t i = 0 ∨ tget 0 t i = f i) (known : i ∈ js ∨ tget 0 t i = f i) :
      tget 0 (js.foldl (fun t i => if f i = 0 then t else tset t i (f i)) t) i = f i := by
    induction js generalizing t with
    | nil => exact known.resolve_left (List.not_mem_nil)
    | cons j js ih =>
      rw [List.foldl_cons]
      by_cases same : i = j
      · have set : tget 0 (if f j = 0 then t else tset t j (f j)) i = f i := by
          rw [← same]
          split
          · next zero => exact before.elim (fun none => none.trans zero.symm) id
          · exact tget_tset_self ..
        exact ih _ (.inr set) (.inr set)
      · have kept : tget 0 (if f j = 0 then t else tset t j (f j)) i = tget 0 t i := by
          split
          · rfl
          · exact tget_tset_other _ _ _ same
        exact ih _ (kept ▸ before) (kept ▸ known.imp_left fun later => (List.mem_cons.mp later).resolve_left same)
  exact fill is [] (.inl rfl) (.inl listed)

theorem execSnapshotLatch_latches {w : Word} (pending : s.obs.snapPending = some w) : ∃ u, exec .snapshotLatch s = .next (raiseSys 22 1 0 0 u) ∧
    u.now = max s.now (sampleOf s.tmb w.toNat) ∧ u.obs.snapAt = w ∧ u.obs.snapSeq = s.obs.snapSeq + 1 ∧ u.obs.snapDone = true ∧
    u.obs.snapPending = none ∧ u.obs.shadowFixed = s.obs.fixed ∧ u.obs.shadowCtr = s.obs.ctrs.map (fun e => (e.1, e.2.value)) ∧
    u.obs.shadowLbfDevice = lbfDeviceCounts s ∧ (∀ p, p < s.part.ports → tget 0 u.obs.shadowLbfPort p = lbfPortCounts s p) ∧
    u.obs.fixed = s.obs.fixed ∧ u.obs.ctrs = s.obs.ctrs ∧ u.lbf = s.lbf := by
  refine (?_ : ∃ u, execSnapshotLatch s = _ ∧ _)
  unfold execSnapshotLatch
  rw [pending]
  exact ⟨_, rfl, rfl, rfl, rfl, rfl, rfl, rfl, rfl, rfl, fun p has => tget_nonzero (lbfPortCounts s) (List.mem_range.mpr has), rfl, rfl, rfl⟩

/-! ### The counter commands (R509, R522, R523) -/

/-- A request of pmc.assign for a programmable counter, in form (R523). -/
structure PmcAssignForm (req : Bytes) : Prop where
  programmable : rd req 0 1 = 0
  pod : 1 ≤ rd req 1 1 ∧ rd req 1 1 ≤ 64
  place : rd req 2 1 ≤ 15
  mode : rd req 3 1 ≤ 1
  counter : rd req 4 2 < 256

theorem PmcAssignForm.inRange (h : PmcAssignForm req) (s : State) : (decide (rd req 0 1 > 1) || decide (rd req 1 1 < 1)
    || decide (rd req 1 1 > 64) || decide (rd req 2 1 > 15) || decide (rd req 3 1 > 1)
    || decide (rd req 4 2 ≥ (if (rd req 0 1 == 1) = true then 3136 else 256))
    || ((rd req 0 1 == 1) && ((fixedPort (rd req 4 2)).map (fun q => decide (q ≥ s.part.ports))).getD false)) = false := by
  obtain ⟨programmable, ⟨low, high⟩, place, mode, counter⟩ := h
  rw [programmable]
  simp only [Nat.reduceBEq, Bool.false_and, Bool.or_false, Bool.or_eq_false_iff, decide_eq_false_iff_not, Bool.false_eq_true, if_false]
  omega

section
variable (start : mayStart s c 0x1101 [] = true) (form : shaped req 8 [(6, 2)] = true) (sender : c.pod = 0) (inForm : PmcAssignForm req)
include start form sender inForm

theorem execPmcAssign_maps (maps : rd req 3 1 = 0) (vacant : s.obs.slots.find? (fun e => e.1 == 16 * rd req 1 1 + rd req 2 1) = none)
    (idle : (pmc s (rd req 4 2)).assigned = 0) :
    exec (.pmcAssign c req) s = Answers c 0x1101 req St.ok (statusResp St.ok)
      (let x : Pmc := { pmc s (rd req 4 2) with event := 0, value := 0, assigned := BitVec.ofNat 8 (rd req 1 1) }
       let u := setPmc (rd req 4 2) { x with invalid := pmcInvalid x } s
       { u with obs.slots := tset u.obs.slots (16 * rd req 1 1 + rd req 2 1) ⟨false, rd req 4 2⟩ }) := by
  refine runCmd_answers start form (fun _ => sender) (?_ : pmcAssignBody req s = _)
  unfold pmcAssignBody
  dsimp only
  rw [guards_pass (inForm.inRange s), if_neg (by omega), inForm.programmable, vacant, if_neg (by simp), if_neg (by simp [idle])]
  rfl

theorem execPmcAssign_unmaps (unmaps : rd req 3 1 = 1) :
    ∃ u, exec (.pmcAssign c req) s = Answers c 0x1101 req St.ok (statusResp St.ok) u ∧
      u.obs.slots = tdel s.obs.slots (16 * rd req 1 1 + rd req 2 1) := by
  have body : ∃ u, pmcAssignBody req s = answer St.ok u ∧ u.obs.slots = tdel s.obs.slots (16 * rd req 1 1 + rd req 2 1) := by
    unfold pmcAssignBody
    dsimp only
    rw [guards_pass (inForm.inRange s), if_pos unmaps]
    refine ⟨_, rfl, ?_⟩
    dsimp only
    split <;> rfl
  obtain ⟨u, body, slots⟩ := body
  exact ⟨u, runCmd_answers start form (fun _ => sender) body, slots⟩

end

/-- A request of pmc.configure in form (R523). -/
structure PmcConfigureForm (req : Bytes) (s : State) : Prop where
  counter : rd req 0 2 < 256
  flags : rd req 2 1 ≤ 7
  cls : rd req 3 1 ≤ 15
  event : rd req 4 2 < 0x14
  port : rd req 6 2 < s.part.ports ∨ rd req 6 2 = 0xFFFF
  pod : rd req 8 1 ≤ 64 ∨ rd req 8 1 = 0xFF
  priv : rd req 9 1 ≤ 3
  range : rd req 16 4 = 0xFFFFFFFF ∨ (rd req 16 4 < 2 ^ 24 ∧ rd req 20 4 < 2 ^ 24)

theorem PmcConfigureForm.inRange (h : PmcConfigureForm req s) : (decide (rd req 0 2 ≥ 256) || decide (rd req 2 1 > 7)
    || decide (rd req 3 1 > 15) || decide (rd req 4 2 ≥ 0x14) || (decide (rd req 6 2 ≥ s.part.ports) && rd req 6 2 != 0xFFFF)
    || (decide (rd req 8 1 > 64) && rd req 8 1 != 0xFF) || decide (rd req 9 1 > 3)
    || (rd req 16 4 != 0xFFFFFFFF && (decide (rd req 16 4 ≥ 2 ^ 24) || decide (rd req 20 4 ≥ 2 ^ 24)))) = false := by
  obtain ⟨counter, flags, cls, event, port, pod, priv, range⟩ := h
  simp only [Bool.or_eq_false_iff, Bool.and_eq_false_iff, decide_eq_false_iff_not, bne_eq_false_iff_eq]
  omega

theorem execPmcConfigure_sets (start : mayStart s c 0x1102 [] = true) (form : shaped req 32 [(10, 6)] = true) (sender : c.pod = 0)
    (inForm : PmcConfigureForm req s) :
    let x := pmcOf req (pmc s (rd req 0 2))
    (x.invalid = false → exec (.pmcConfigure c req) s = Answers c 0x1102 req St.ok (statusResp St.ok) (setPmc (rd req 0 2) x s)) ∧
    (x.invalid = true → exec (.pmcConfigure c req) s = Answers c 0x1102 req St.filterInvalid (statusResp St.filterInvalid) s) := by
  intro x
  have body : pmcConfigureBody c req s = if x.invalid = true then answer St.filterInvalid s else answer St.ok (setPmc (rd req 0 2) x s) := by
    unfold pmcConfigureBody
    dsimp only
    rw [guards_pass inForm.inRange, if_neg (by simp [sender]), sender, show ((0 : Nat) != 0) = false from rfl, Bool.false_and, Bool.or_false]
  exact ⟨fun good => runCmd_answers start form (by simp) (body.trans (if_neg (by simp [good]))),
    fun bad => runCmd_answers start form (by simp) (body.trans (if_pos bad))⟩

end Sys2Proof.Machine
end

section
/-! The obligation of the counters and snapshots (O48). -/

namespace Sys2Proof

open Machine

/-- Settles O48, write by write and command by command. -/
theorem countersAndSnapshots : Obligations.CountersAndSnapshots := by
  unfold Obligations.CountersAndSnapshots
  refine ⟨fun s n v k has open_ fits _ => ⟨execPmcValueWrite_sets has open_ fits, execPmcValueWrite_wraps has open_ fits,
      execPmcCfgWrite_sets has open_ v⟩,
    fun s => execSnapshotArm_arms, fun s w => execSnapshotLatch_latches,
    fun s c req start form sender low high place programmable has => ?_,
    fun s c req start form sender counter flags cls event port pod priv range => ?_⟩
  · have inForm (mode : rd req 3 1 ≤ 1) : PmcAssignForm req := ⟨programmable, ⟨low, high⟩, place, mode, has⟩
    exact ⟨fun maps => execPmcAssign_maps start form sender (inForm (by omega)) maps,
      fun unmaps => execPmcAssign_unmaps start form sender (inForm (by omega)) unmaps⟩
  · have inForm : PmcConfigureForm req s := ⟨counter, flags, cls, event, port, pod, priv, range⟩
    exact ⟨rfl, rfl, rfl, fun kept => if_neg (by simp [kept]), fun set => if_pos set, execPmcConfigure_sets start form sender inForm⟩

end Sys2Proof
end

section
/-! Trace records, the sync words and the trace commands (R514 to R523). -/

namespace Sys2Proof.Machine

variable {s t : State} {c : Caller} {req : Bytes}

/-! ### What a record leaves of the sinks -/

/-- The settings of the two trace sinks (R517, R519, R520). -/
structure SinkSettings where
  ddrSources : BitVec 4
  ddrMode : BitVec 2
  ddrM : Nat
  portRate : Nat
  portSources : BitVec 4

/-- What the port sink leaves: the settings, the DDR ring and its sink, and the tags. -/
structure DdrSide where
  settings : SinkSettings
  ring : List TraceRec
  ddrSink : Sink
  tags : List Tag

def State.sinkSettings (s : State) : SinkSettings :=
  { ddrSources := s.obs.ddrSink.sources, ddrMode := s.obs.ddrMode, ddrM := s.obs.ddrM, portRate := s.obs.portRate,
    portSources := s.obs.portSink.sources }

def State.ddrSide (s : State) : DdrSide :=
  { settings := s.sinkSettings, ring := s.obs.ring, ddrSink := s.obs.ddrSink, tags := s.obs.tags }

theorem bump_ddrSide (id n : Nat) (s : State) : (bump id n s).ddrSide = s.ddrSide := by
  unfold bump
  dsimp only
  split <;> rfl

theorem portAccept_ddrSide (type : Nat) (payload : List Word) (s : State) : (portAccept type payload s).ddrSide = s.ddrSide := rfl

theorem ddrSide_if {a b : State} {p : Prop} [Decidable p] (ha : a.ddrSide = s.ddrSide) (hb : b.ddrSide = s.ddrSide) :
    (if p then a else b).ddrSide = s.ddrSide := by split <;> assumption

theorem portFeed_ddrSide (source type : Nat) (payload : List Word) (s : State) : (portFeed source type payload s).ddrSide = s.ddrSide :=
  ddrSide_if ((bump_ddrSide ..).trans rfl)
    (ddrSide_if (portAccept_ddrSide ..) ((portAccept_ddrSide ..).trans ((portAccept_ddrSide ..).trans rfl)))

theorem ddrAccept_sinkSettings {type : Nat} {payload : List Word} (h : ddrAccept type payload s = some t) :
    t.sinkSettings = s.sinkSettings := by
  unfold ddrAccept at h
  extract_lets cap r put ring at h
  split at h
  · obtain rfl := Option.some.inj h
    rfl
  · split at h
    · split at h
      · exact nomatch h
      · obtain rfl := Option.some.inj h
        rfl
    · exact nomatch h

theorem ddrDrop_sinkSettings (source : Nat) (s : State) : (ddrDrop source s).sinkSettings = s.sinkSettings :=
  (congrArg DdrSide.settings (bump_ddrSide ..)).trans rfl

theorem ddrFeed_sinkSettings (source type : Nat) (payload : List Word) (s : State) :
    (ddrFeed source type payload s).sinkSettings = s.sinkSettings := by
  unfold ddrFeed
  extract_lets loss
  have noted {u : State} (h : loss s = some u) : u.sinkSettings = s.sinkSettings := by
    simp only [loss] at h
    split at h
    · obtain rfl := Option.some.inj h
      rfl
    · obtain ⟨v, accepted, rfl⟩ := Option.map_eq_some_iff.mp h
      exact .trans (b := v.sinkSettings) rfl (ddrAccept_sinkSettings accepted)
  split
  · next h =>
    obtain ⟨u, lossy, accepted⟩ := Option.bind_eq_some_iff.mp h
    exact (ddrAccept_sinkSettings accepted).trans (noted lossy)
  · exact ddrDrop_sinkSettings ..

/-- With no loss to report, a record that the DDR sink accepts goes in (R520). -/
theorem ddrFeed_accepts {source type : Nat} {payload : List Word} (lossless : s.obs.ddrSink.lossCount = 0)
    (accepts : ddrAccept type payload s = some t) : ddrFeed source type payload s = t := by
  unfold ddrFeed
  dsimp only
  rw [if_pos lossless, Option.bind_some, accepts]

theorem ringBytes_append (ring : List TraceRec) (r : TraceRec) : ringBytes (ring ++ [r]) = ringBytes ring + traceBytes r := by
  simp [ringBytes]

section
variable {type : Nat} {w : Word} (stop : s.obs.ddrMode = 2)
include stop

/-- A record of one word that finds no room in stop mode is not accepted (R520). -/
theorem ddrAccept_full (full : 2 ^ s.obs.ddrM * 2 ^ 20 < ringBytes s.obs.ring + 16) : ddrAccept type [w] s = none := by
  unfold ddrAccept
  dsimp only
  rw [if_neg (by rw [stop]; decide), if_pos stop, ringBytes_append, if_pos]
  exact Bool.or_eq_true_iff.mpr (.inr (decide_eq_true full))

/-- A record of one word that finds room in stop mode is the last of the ring (R520). -/
theorem ddrAccept_room (open_ : s.obs.trcFull = false) (room : ringBytes s.obs.ring + 16 ≤ 2 ^ s.obs.ddrM * 2 ^ 20) :
    ddrAccept type [w] s = some { s with
      obs.ring := s.obs.ring ++ [⟨[traceHeader s s.obs.ddrSink.seq.toNat 1 type, w]⟩], obs.ddrSink.seq := s.obs.ddrSink.seq + 1 } := by
  unfold ddrAccept
  dsimp only
  rw [if_neg (by rw [stop]; decide), if_pos stop, ringBytes_append, if_neg]
  · rfl
  · rw [open_, Bool.false_or, decide_eq_true_eq, not_lt]
    exact room

/-- A record that finds no room in stop mode is dropped, and so is its loss record (R520). -/
theorem ddrFeed_drops {source : Nat} (full : 2 ^ s.obs.ddrM * 2 ^ 20 < ringBytes s.obs.ring + 16) :
    ddrFeed source type [w] s = ddrDrop source s := by
  unfold ddrFeed
  dsimp only
  rw [ddrAccept_full stop full]
  split
  · next h =>
    obtain ⟨u, lossy, accepted⟩ := Option.bind_eq_some_iff.mp h
    split at lossy
    · obtain rfl := Option.some.inj lossy
      rw [ddrAccept_full stop full] at accepted
      exact nomatch accepted
    · exact nomatch lossy
  · rfl

end

theorem ddrDrop_loses (source : Nat) (stop : s.obs.ddrMode = 2) : (ddrDrop source s).now = s.now ∧
    (ddrDrop source s).obs.ring = s.obs.ring ∧ (ddrDrop source s).obs.trcFull = true ∧ (ddrDrop source s).obs.trcLostSeen = true ∧
    (ddrDrop source s).obs.trcLost = satAdd s.obs.trcLost 1 ∧
    (ddrDrop source s).obs.ddrSink.lossCount = s.obs.ddrSink.lossCount + 1 := by
  have full : (s.obs.trcFull || s.obs.ddrMode == 2) = true := by rw [stop]; exact Bool.or_true _
  unfold ddrDrop bump
  dsimp only
  split <;> exact ⟨rfl, rfl, full, rfl, rfl, rfl⟩

/-! ### Trace rows (R518, R519) -/

theorem execTraceTimeRecord_idle (off : s.obs.ddrMode = 0) (quiet : s.obs.portRate = 0) : exec .traceTimeRecord s = .next s :=
  congrArg Host.Outcome.next (if_pos (by simp [off, quiet]))

/-- The moment of the next whole second. -/
def nextSecond (s : State) : State := { s with now := max s.now (sampleOf s.tmb ((tmbNow s).toNat / 2 ^ 32 * 2 ^ 32 + 2 ^ 32)) }

theorem execTraceTimeRecord_feeds (stop : s.obs.ddrMode = 2) (quiet : s.obs.portRate = 0) :
    exec .traceTimeRecord s = .next (ddrFeed 4 6 [tmbNow (nextSecond s)] (nextSecond s)) := by
  refine (congrArg Host.Outcome.next (if_neg (by simp [stop])) : _ = Host.Outcome.next (traceTime (nextSecond s))).trans ?_
  have still : (ddrFeed 4 6 [tmbNow (nextSecond s)] (nextSecond s)).obs.portRate = 0 :=
    (congrArg SinkSettings.portRate (ddrFeed_sinkSettings ..)).trans quiet
  unfold traceTime
  dsimp only
  rw [if_pos (show ((nextSecond s).obs.ddrMode != 0) = true by rw [show (nextSecond s).obs.ddrMode = 2 from stop]; rfl), if_neg (by simp [still])]

theorem execTraceTimeRecord_records (stop : s.obs.ddrMode = 2) (quiet : s.obs.portRate = 0) (open_ : s.obs.trcFull = false)
    (lossless : s.obs.ddrSink.lossCount = 0) (room : ringBytes s.obs.ring + 16 ≤ 2 ^ s.obs.ddrM * 2 ^ 20) :
    exec .traceTimeRecord s = .next { nextSecond s with
      obs.ring := s.obs.ring ++ [⟨[traceHeader (nextSecond s) s.obs.ddrSink.seq.toNat 1 6, tmbNow (nextSecond s)]⟩]
      obs.ddrSink.seq := s.obs.ddrSink.seq + 1 } :=
  (execTraceTimeRecord_feeds stop quiet).trans (congrArg Host.Outcome.next
    (ddrFeed_accepts (s := nextSecond s) lossless (ddrAccept_room (s := nextSecond s) stop open_ room)))

theorem execTraceTimeRecord_loses (stop : s.obs.ddrMode = 2) (quiet : s.obs.portRate = 0)
    (full : 2 ^ s.obs.ddrM * 2 ^ 20 < ringBytes s.obs.ring + 16) :
    ∃ t, exec .traceTimeRecord s = .next t ∧ t.now = (nextSecond s).now ∧ t.obs.ring = s.obs.ring ∧ t.obs.trcFull = true ∧
      t.obs.trcLostSeen = true ∧ t.obs.trcLost = satAdd s.obs.trcLost 1 ∧ t.obs.ddrSink.lossCount = s.obs.ddrSink.lossCount + 1 := by
  have drops := (execTraceTimeRecord_feeds stop quiet).trans (congrArg Host.Outcome.next (ddrFeed_drops (s := nextSecond s) stop full))
  obtain ⟨now, ring, full_, seen, lost, count⟩ := ddrDrop_loses (s := nextSecond s) 4 stop
  exact ⟨_, drops, now, ring, full_, seen, lost, count⟩

theorem execTraceSyncWord_sends (on : s.obs.portRate ≠ 0) : ∃ t, exec .traceSyncWord s = .next t ∧
    t.out = s.out ++ [.tracePort [0x5A5A5A5A000000FE]] ∧ t.obs.portWords = s.obs.portWords - 512 ∧
    (512 ≤ s.obs.portWords → t.now = s.now) ∧ t.obs.portSink = s.obs.portSink ∧ t.obs.ring = s.obs.ring := by
  refine (?_ : ∃ t, execTraceSyncWord s = _ ∧ _)
  unfold execTraceSyncWord
  rw [if_neg on]
  extract_lets tick u
  have reached : u.out = s.out ∧ u.obs = s.obs ∧ (512 ≤ s.obs.portWords → u.now = s.now) := by
    simp only [u]
    split
    · next early => exact ⟨rfl, rfl, fun whole => absurd early (Nat.not_lt.mpr whole)⟩
    · exact ⟨rfl, rfl, fun _ => rfl⟩
  clear_value u
  obtain ⟨out, obs, now⟩ := reached
  refine ⟨_, rfl, ?_, ?_, now, ?_, ?_⟩
  · rw [emit, ← out, syncWord]
  · rw [← obs, emit]
  · rw [← obs, emit]
  · rw [← obs, emit]

/-! ### The trace commands (R514, R517, R518, R523) -/

theorem execTagConfigure_sets (sender : c.pod = 0) (start : mayStart s c 0x1103 [] = true) (form : shaped req 8 [(6, 2)] = true)
    (one : rd req 0 2 < s.part.ports ∨ rd req 0 2 = 0xFFFF) (kinds : rd req 2 1 ≤ 15) (kf : rd req 3 1 ≤ 20) (ks : rd req 4 1 ≤ 24)
    (enable : rd req 5 1 ≤ 1) : ∃ u, exec (.tagConfigure c req) s = Answers c 0x1103 req St.ok (statusResp St.ok) u ∧ u.obs.tags = s.obs.tags ∧
      ∀ p, p < s.part.ports → tget {} u.obs.tagCfg p =
        if rd req 0 2 = 0xFFFF ∨ rd req 0 2 = p then
          { kinds := BitVec.ofNat 4 (rd req 2 1), kf := rd req 3 1, ks := rd req 4 1, enable := rd req 5 1 == 1 }
        else tget {} s.obs.tagCfg p := by
  let cfg : TagCfg := { kinds := BitVec.ofNat 4 (rd req 2 1), kf := rd req 3 1, ks := rd req 4 1, enable := rd req 5 1 == 1 }
  let ps := if rd req 0 2 = 0xFFFF then List.range s.part.ports else [rd req 0 2]
  have body : tagConfigureBody req s = answer St.ok { s with obs.tagCfg := ps.foldl (fun t p => tset t p cfg) s.obs.tagCfg } := by
    unfold tagConfigureBody
    dsimp only
    rw [if_neg]
    simp only [Bool.or_eq_true, Bool.and_eq_true, decide_eq_true_eq, bne_iff_ne]
    omega
  refine ⟨_, runCmd_answers start form (fun _ => sender) body, rfl, fun p has => ?_⟩
  by_cases all : rd req 0 2 = 0xFFFF
  · rw [if_pos (.inl all)]
    have every : ps = List.range s.part.ports := if_pos all
    exact tget_putAll _ _ _ (every ▸ List.mem_range.mpr has)
  · have sole : ps = [rd req 0 2] := if_neg all
    dsimp only
    rw [sole, List.foldl_cons, List.foldl_nil]
    by_cases same : p = rd req 0 2
    · rw [if_pos (.inr same.symm), same, tget_tset_self]
    · rw [if_neg (by simp [all, Ne.symm same]), tget_tset_other _ _ _ same]

/-- The port sink of a request without instruction trace (R517). -/
theorem portSources_hidden {q : Nat} (has : q ≤ 15) :
    BitVec.ofNat 4 (if bit q 2 = true then q - 4 else q) = BitVec.ofNat 4 q &&& 0xB := by
  have all : ∀ q < 16, BitVec.ofNat 4 (if bit q 2 = true then q - 4 else q) = BitVec.ofNat 4 q &&& 0xB := by decide
  exact all q (by omega)

/-- A first record in an empty ring of either mode (R518, R520). -/
theorem ddrAccept_first {type : Nat} {w : Word} (on : s.obs.ddrMode = 1 ∨ s.obs.ddrMode = 2) (empty : s.obs.ring = [])
    (open_ : s.obs.trcFull = false) : ∃ t, ddrAccept type [w] s = some t ∧
      t.obs.ring = [⟨[traceHeader s s.obs.ddrSink.seq.toNat 1 type, w]⟩] := by
  have cap : 16 ≤ 2 ^ s.obs.ddrM * 2 ^ 20 :=
    le_trans (by decide : 16 ≤ 1 * 2 ^ 20) (Nat.mul_le_mul_right _ (Nat.one_le_two_pow))
  rcases on with wrap | stop
  · have fits : ringTrim (2 ^ s.obs.ddrM * 2 ^ 20) ([] ++ [⟨[traceHeader s s.obs.ddrSink.seq.toNat 1 type, w]⟩]) =
        [⟨[traceHeader s s.obs.ddrSink.seq.toNat 1 type, w]⟩] := if_pos cap
    unfold ddrAccept
    dsimp only
    rw [if_pos wrap, empty]
    exact ⟨_, rfl, fits⟩
  · refine ⟨_, ddrAccept_room stop open_ (by rw [empty]; exact cap), ?_⟩
    rw [empty]
    rfl

/-- The first records of the sinks that start: the settings stay, and the DDR ring takes the record of its own sink alone (R518). -/
theorem enableTimes_keeps (ddr port_ : Bool) (s : State) : (enableTimes ddr port_ s).sinkSettings = s.sinkSettings ∧
    (enableTimes ddr port_ s).obs.ring = (if ddr = true then ddrFeed 4 6 [tmbNow s] s else s).obs.ring := by
  unfold enableTimes
  extract_lets fed
  have settings : fed.sinkSettings = s.sinkSettings := by
    simp only [fed]
    split
    · exact ddrFeed_sinkSettings ..
    · rfl
  change _ ∧ _ = fed.obs.ring
  clear_value fed
  have side : ∀ u : State, u.ddrSide = fed.ddrSide → u.sinkSettings = s.sinkSettings ∧ u.obs.ring = fed.obs.ring :=
    fun u same => ⟨((congrArg DdrSide.settings same :)).trans settings, (congrArg DdrSide.ring same :)⟩
  split
  · exact side _ ((portFeed_ddrSide ..).trans rfl)
  · exact side _ rfl

section
variable (sender : c.pod = 0) (start : mayStart s c 0x1104 [] = true) (form : shaped req 8 [(5, 3)] = true) (ddr : rd req 0 1 ≤ 15)
  (silent : bit (rd req 0 1) 2 = false) (port_ : rd req 1 1 ≤ 15) (mode : rd req 2 1 ≤ 2) (size : rd req 3 1 ≤ 8) (rate : rd req 4 1 ≤ 3)
include sender start form ddr silent port_ mode size rate

theorem execTrcConfigure_sets : ∃ u, exec (.trcConfigure c req) s = Answers c 0x1104 req St.ok (statusResp St.ok) u ∧
    u.obs.ddrSink.sources = BitVec.ofNat 4 (rd req 0 1) ∧ u.obs.ddrMode = BitVec.ofNat 2 (rd req 2 1) ∧ u.obs.ddrM = rd req 3 1 ∧
    u.obs.portRate = rd req 4 1 ∧
    u.obs.portSink.sources = (if s.sec.observeUntil.isSome ∨ s.sec.lifecycle = 0 then BitVec.ofNat 4 (rd req 1 1)
      else BitVec.ofNat 4 (rd req 1 1) &&& 0xB) ∧
    (rd req 2 1 = 0 → u.obs.ring = if rd req 3 1 = s.obs.ddrM ∧ s.obs.ddrMode = 0 then s.obs.ring else []) ∧
    (rd req 2 1 ≠ 0 → s.obs.ddrMode = 0 → s.obs.ddrSink.lossCount = 0 →
      u.obs.ring = [⟨[traceHeader s s.obs.ddrSink.seq.toNat 1 6, tmbNow s]⟩]) := by
  let q := if (bit (rd req 1 1) 2 && !(observing s || s.sec.lifecycle == 0)) = true then rd req 1 1 - 4 else rd req 1 1
  let empty := rd req 3 1 != s.obs.ddrM || rd req 2 1 != s.obs.ddrMode.toNat
  let on := rd req 2 1 != 0 && s.obs.ddrMode == 0
  let set : State := { s with
    obs.ddrSink.sources := BitVec.ofNat 4 (rd req 0 1), obs.portSink.sources := BitVec.ofNat 4 q
    obs.ddrMode := BitVec.ofNat 2 (rd req 2 1), obs.ddrM := rd req 3 1, obs.portRate := rd req 4 1
    obs.ring := if empty = true then [] else s.obs.ring, obs.trcFull := s.obs.trcFull && !empty }
  have body : trcConfigureBody req s = answer St.ok (enableTimes on (rd req 4 1 != 0 && s.obs.portRate == 0) set) := by
    unfold trcConfigureBody
    dsimp only
    rw [silent, guards_pass (by
      simp only [Bool.or_false, Bool.or_eq_false_iff, decide_eq_false_iff_not]
      omega)]
  obtain ⟨settings, ring⟩ := enableTimes_keeps on (rd req 4 1 != 0 && s.obs.portRate == 0) set
  have observes : (observing s || s.sec.lifecycle == 0) = true ↔ s.sec.observeUntil.isSome = true ∨ s.sec.lifecycle = 0 := by
    rw [Bool.or_eq_true, beq_iff_eq, observing]
  refine ⟨_, runCmd_answers start form (fun _ => sender) body, (congrArg SinkSettings.ddrSources settings :),
    (congrArg SinkSettings.ddrMode settings :), (congrArg SinkSettings.ddrM settings :), (congrArg SinkSettings.portRate settings :),
    (congrArg SinkSettings.portSources settings :).trans ?_, fun off => ring.trans ?_, fun turned idle lossless => ring.trans ?_⟩
  · change BitVec.ofNat 4 q = _
    split
    · next seen => rw [show q = rd req 1 1 from if_neg (by simp [observes.mpr seen])]
    · next hidden =>
      have blind : (observing s || s.sec.lifecycle == 0) = false := Bool.eq_false_iff.mpr (observes.not.mpr hidden)
      rw [← portSources_hidden port_]
      simp only [q, blind, Bool.not_false, Bool.and_true]
  · rw [show on = false by simp [on, off], if_neg (by decide)]
    change (if empty = true then [] else s.obs.ring) = _
    have kept : empty = false ↔ rd req 3 1 = s.obs.ddrM ∧ s.obs.ddrMode = 0 := by
      have zero : 0 = s.obs.ddrMode.toNat ↔ s.obs.ddrMode = 0 := by rw [eq_comm, BitVec.toNat_eq]; rfl
      simp only [empty, off, Bool.or_eq_false_iff, bne_eq_false_iff_eq, zero]
    by_cases same : rd req 3 1 = s.obs.ddrM ∧ s.obs.ddrMode = 0
    · rw [if_pos same, guards_pass (kept.mpr same)]
    · rw [if_neg same, if_pos (Bool.eq_true_of_not_eq_false (kept.not.mpr same))]
  · have full : empty = true := by simp [empty, idle, turned]
    have modes : set.obs.ddrMode = 1 ∨ set.obs.ddrMode = 2 := by
      rcases (by omega : rd req 2 1 = 1 ∨ rd req 2 1 = 2) with one | two
      · exact .inl (congrArg (BitVec.ofNat 2) one)
      · exact .inr (congrArg (BitVec.ofNat 2) two)
    have lone : on = true := by simp [on, turned, idle]
    rw [lone, if_pos rfl]
    obtain ⟨t, accepts, record⟩ := ddrAccept_first (s := set) (type := 6) (w := tmbNow set) modes (by simp [set, full]) (by simp [set, full])
    rw [ddrFeed_accepts (s := set) lossless accepts, record]
    rfl

end

/-- The records that fit are the first of the ring, and take no more bytes than there is room for (R523). -/
theorem fitting_splits (n : Nat) (rs : List TraceRec) : rs = fitting n rs ++ rs.drop (fitting n rs).length ∧
    ((fitting n rs).map traceBytes).sum ≤ n := by
  induction rs generalizing n with
  | nil => exact ⟨rfl, Nat.zero_le _⟩
  | cons r rs ih =>
    unfold fitting
    split
    · next fits =>
      obtain ⟨parts, bytes⟩ := ih (n - traceBytes r)
      exact ⟨congrArg (r :: ·) parts, by rw [List.map_cons, List.sum_cons]; omega⟩
    · exact ⟨rfl, Nat.zero_le _⟩

theorem execTrcRead_reads (sender : c.pod = 0) (start : mayStart s c 0x1105 [] = true) (form : shaped req 8 [(0, 8)] = true) :
    let rs := fitting (c.respMax - 8) s.obs.ring
    let data := (rs.flatMap (·.words)).flatMap (fun w => leBytes 8 w.toNat)
    ∃ u, exec (.trcRead c req) s = Answers c 0x1105 req St.ok (leBytes 2 St.ok.toNat ++ zeros 2 ++ leBytes 4 data.length ++ data) u ∧
      s.obs.ring = rs ++ u.obs.ring ∧ (rs.map traceBytes).sum ≤ c.respMax - 8 ∧
      u = { s with obs.ring := u.obs.ring, obs.trcFull := u.obs.trcFull } := by
  obtain ⟨parts, bytes⟩ := fitting_splits (c.respMax - 8) s.obs.ring
  exact ⟨_, runCmd_answers start form (fun _ => sender) rfl, parts, bytes, rfl⟩

end Sys2Proof.Machine
end

section
/-! The obligation of trace and tags (O49). -/

namespace Sys2Proof

open Machine

/-- Settles O49, row by row and command by command. -/
theorem traceAndTags : Obligations.TraceAndTags := by
  unfold Obligations.TraceAndTags
  exact ⟨fun s => ⟨execTraceTimeRecord_idle, fun stop quiet => ⟨execTraceTimeRecord_records stop quiet, execTraceTimeRecord_loses stop quiet⟩,
      execTraceSyncWord_sends⟩,
    fun s c req sender => ⟨execTagConfigure_sets sender, execTrcConfigure_sets sender, execTrcRead_reads sender⟩⟩

end Sys2Proof
end

section
/-! What the issue of an event record (R553 to R555) does to the fabric: the routing, the pending bits, the rings and the windows. -/

namespace Sys2Proof.Machine

variable {s t : State}

/-! ### Trace leaves the fabric and the programmable counters -/

/-- What trace leaves: the event fabric and the programmable counters. -/
structure Fabric where
  evt : Events
  ctrs : Table Pmc

def State.fabric (s : State) : Fabric := { evt := s.evt, ctrs := s.obs.ctrs }

theorem fabric_if {a b : State} {p : Prop} [Decidable p] (ha : a.fabric = s.fabric) (hb : b.fabric = s.fabric) :
    (if p then a else b).fabric = s.fabric := by split <;> assumption

theorem bump_fabric (id n : Nat) (s : State) : (bump id n s).fabric = s.fabric := fabric_if rfl rfl

theorem ddrAccept_fabric {type : Nat} {payload : List Word} (h : ddrAccept type payload s = some t) : t.fabric = s.fabric := by
  unfold ddrAccept at h
  dsimp only at h
  split at h
  · obtain rfl := Option.some.inj h
    rfl
  · split at h
    · split at h
      · exact nomatch h
      · obtain rfl := Option.some.inj h
        rfl
    · exact nomatch h

theorem ddrFeed_fabric (source type : Nat) (payload : List Word) (s : State) : (ddrFeed source type payload s).fabric = s.fabric := by
  unfold ddrFeed
  dsimp only
  split
  · next h =>
    obtain ⟨u, loss, accepted⟩ := Option.bind_eq_some_iff.mp h
    refine (ddrAccept_fabric accepted).trans ?_
    split at loss
    · obtain rfl := Option.some.inj loss
      rfl
    · obtain ⟨v, lossRecord, rfl⟩ := Option.map_eq_some_iff.mp loss
      exact .trans (b := v.fabric) rfl (ddrAccept_fabric lossRecord)
  · exact (bump_fabric ..).trans rfl

theorem portFeed_fabric (source type : Nat) (payload : List Word) (s : State) : (portFeed source type payload s).fabric = s.fabric :=
  fabric_if ((bump_fabric ..).trans rfl) (fabric_if rfl rfl)

theorem traceFeed_fabric (source type : Nat) (payload : List Word) (s : State) : (traceFeed source type payload s).fabric = s.fabric := by
  unfold traceFeed
  extract_lets fed
  have first : fed.fabric = s.fabric := fabric_if (ddrFeed_fabric ..) rfl
  exact .trans (fabric_if (portFeed_fabric ..) rfl) first

/-! ### A record reaches firmware and its pending bit (R553, R558) -/

/-- The pending bit of a record's source set (R558). -/
def Events.note (r : EventRec) (x : Events) : Events :=
  { x with pending := tset x.pending (r.source / 64) (tget 0 x.pending (r.source / 64) ||| BitVec.ofNat 64 (2 ^ (r.source % 64))) }

theorem noteRec_fabric (r : EventRec) (s : State) : (noteRec r s).fabric = { evt := s.evt.note r, ctrs := s.obs.ctrs } :=
  (traceFeed_fabric ..).trans rfl

theorem noteRec_evt (r : EventRec) (s : State) : (noteRec r s).evt = s.evt.note r := congrArg Fabric.evt (noteRec_fabric r s)

/-- What has left the device stays so. -/
theorem Quiet.mem {o : Output} (h : Quiet s t) (sent : o ∈ s.out) : o ∈ t.out := h.out.subset sent

theorem noteRec_copies (r : EventRec) (s : State) : .eventCopy r ∈ (noteRec r s).out :=
  (traceFeed_quiet ..).mem (by simp [emit])

/-- Whether a source's pending bit is set. -/
def Events.isPending (x : Events) (w b : Nat) : Bool := bit (tget 0 x.pending w).toNat b

theorem Events.isPending_note (r : EventRec) (x : Events) (w b : Nat) : (x.note r).isPending w b =
    (x.isPending w b || (w == r.source / 64 && b == r.source % 64)) := by
  unfold isPending note
  by_cases same : w = r.source / 64
  · subst same
    rw [tget_tset_self, bit_eq_testBit, bit_eq_testBit, BitVec.toNat_or, Nat.testBit_or, BitVec.toNat_ofNat, beq_self_eq_true, Bool.true_and,
      Nat.mod_eq_of_lt (Nat.pow_lt_pow_right (by decide) (Nat.mod_lt _ (by decide))), Nat.testBit_two_pow]
    congr 1
    exact decide_eq_decide.mpr eq_comm
  · rw [tget_tset_other _ _ _ same, beq_eq_false_iff_ne.mpr same, Bool.false_and, Bool.or_false]

/-! ### Routing (R554) -/

section
variable (fn : Nat) (f : EvtRing → EvtRing) (s : State)

@[simp] theorem evtRing_updEvtRing_self : evtRing (updEvtRing fn f s) fn = f (evtRing s fn) := tget_tset_self ..

end

theorem sendMsix_fabric (fn v : Nat) (s : State) : (sendMsix fn v s).fabric = s.fabric := fabric_if rfl (fabric_if rfl rfl)

theorem sendMsix_evt (fn v : Nat) (s : State) : (sendMsix fn v s).evt = s.evt := congrArg Fabric.evt (sendMsix_fabric fn v s)

section
variable {r : EventRec}

theorem routeRec_off (off : (evtCfg s r.source).enable = false ∨ bit (evtCfg s r.source).causeMask.toNat (r.cause - 1) = false) :
    routeRec r s = (s, false, []) := by
  unfold routeRec
  exact if_pos (by simpa using off)

section
variable {fn : Nat} (routed : (evtCfg s r.source).pod.toNat = fn) (on : (evtCfg s r.source).enable = true)
  (selected : bit (evtCfg s r.source).causeMask.toNat (r.cause - 1) = true)
include routed on selected

/-- A ring that takes no record drops it whole (R554 step 3). -/
theorem routeRec_drops (shut : (evtRing s fn).enable = false ∨ (evtRing s fn).fault = true ∨
      2 ^ (evtRing s fn).sizeLog2.toNat ≤ ((evtRing s fn).prod - (evtRing s fn).cons).toNat) :
    routeRec r s = (ringDrop fn s, false, []) := by
  subst routed
  unfold routeRec
  dsimp only
  rw [if_neg (by simp [on, selected]), if_pos]
  simpa [or_assoc] using shut

section
variable (enabled : (evtRing s fn).enable = true) (sound : (evtRing s fn).fault = false)
  (room : ((evtRing s fn).prod - (evtRing s fn).cons).toNat < 2 ^ (evtRing s fn).sizeLog2.toNat)
include enabled sound room

/-- A ring that cannot be written faults, and the record is dropped (R554 step 4). -/
theorem routeRec_faults (cut : hostOk s fn = false) :
    routeRec r s = (ringDrop fn (updEvtRing fn (fun g => { g with fault := true }) s), true, []) := by
  subst routed
  unfold routeRec
  dsimp only
  rw [if_neg (by simp [on, selected]), if_neg (by simpa [enabled, sound] using room), if_pos (by simp [cut])]

/-- A record is written at PROD, which advances (R554 steps 1 and 2). -/
theorem routeRec_writes (open_ : hostOk s fn = true) (uncounted : s.obs.ctrs = []) : ∃ u, routeRec r s = (u, false, []) ∧
    evtRing u fn = { evtRing s fn with prod := (evtRing s fn).prod + 1, dropped := false } ∧
    .hostWrite fn ((evtRing s fn).base.toNat * 4096 + 32 * ((evtRing s fn).prod.toNat % 2 ^ (evtRing s fn).sizeLog2.toNat))
      (evtBytes r (r.flags + if (evtRing s fn).dropped then 4 else 0)) ∈ u.out := by
  subst routed
  let fn := (evtCfg s r.source).pod.toNat
  let g := evtRing s fn
  let written := emit (.hostWrite fn (g.base.toNat * 4096 + 32 * (g.prod.toNat % 2 ^ g.sizeLog2.toNat))
    (evtBytes r (r.flags + if g.dropped then 4 else 0))) s
  let moved := updEvtRing fn (fun g => { g with prod := g.prod + 1, dropped := false }) written
  refine ⟨sendMsix fn (evtCfg s r.source).vector.toNat (pmcCount 0x0011 { pod := some fn } 32 moved).1, ?_, ?_, ?_⟩
  · have none_ : (pmcCount 0x0011 { pod := some fn } 32 moved).2 = [] := by
      rw [pmcCount, show moved.obs.ctrs = [] from uncounted]
      rfl
    unfold routeRec
    dsimp only
    rw [if_neg (by simp [on, selected]), if_neg (by simpa [enabled, sound] using room), if_neg (by simp [open_])]
    exact congrArg (fun l => (_, false, l)) none_
  · rw [evtRing, sendMsix_evt]
    exact evtRing_updEvtRing_self fn (fun g => { g with prod := g.prod + 1, dropped := false }) written
  · exact ((pmcCount_quiet ..).trans (sendMsix_quiet ..)).mem (s := moved)
      (List.mem_append_right s.out (List.mem_singleton_self _))

end
end

/-- Routing changes the fabric in its rings alone. -/
theorem routeRec_rings (r : EventRec) (s : State) : ∃ rings, (routeRec r s).1.evt = { s.evt with rings := rings } := by
  unfold routeRec
  dsimp only
  split
  · exact ⟨_, rfl⟩
  · split
    · exact ⟨_, rfl⟩
    · split
      · exact ⟨_, rfl⟩
      · exact ⟨_, (sendMsix_evt ..).trans rfl⟩

/-- The ring of a function has faulted, and its producer index stands (R554). -/
def RingFaulted (fn : Nat) (prod : BitVec 32) (s : State) : Prop := (evtRing s fn).fault = true ∧ (evtRing s fn).prod = prod

namespace RingFaulted

variable {fn : Nat} {prod : BitVec 32}

theorem of_rings (h : RingFaulted fn prod s) (rings : t.evt.rings = s.evt.rings) : RingFaulted fn prod t := by
  unfold RingFaulted evtRing at h ⊢
  rw [rings]
  exact h

theorem of_tset (h : RingFaulted fn prod s) {m : Nat} (other : fn ≠ m) (rings : ∃ x, t.evt.rings = tset s.evt.rings m x) :
    RingFaulted fn prod t := by
  obtain ⟨x, rings⟩ := rings
  unfold RingFaulted evtRing at h ⊢
  rw [rings, tget_tset_other _ _ _ other]
  exact h

theorem upd_other (h : RingFaulted fn prod s) {m : Nat} (other : fn ≠ m) (f : EvtRing → EvtRing) : RingFaulted fn prod (updEvtRing m f s) :=
  h.of_tset other ⟨_, rfl⟩

theorem drop (h : RingFaulted fn prod s) (m : Nat) : RingFaulted fn prod (ringDrop m s) := by
  by_cases same : fn = m
  · subst same
    unfold RingFaulted ringDrop
    rw [evtRing_updEvtRing_self]
    exact h
  · exact h.upd_other same _

theorem route (h : RingFaulted fn prod s) (r : EventRec) : RingFaulted fn prod (routeRec r s).1 := by
  obtain ⟨faulted, -⟩ := id h
  unfold routeRec
  dsimp only
  split
  · exact h
  · split
    · exact h.drop _
    · next takes =>
      have other : fn ≠ (evtCfg s r.source).pod.toNat := fun same => takes (by simp [← same, faulted])
      split
      · exact (h.upd_other other _).drop _
      · exact h.of_tset other ⟨_, (congrArg Events.rings (sendMsix_evt ..) :)⟩

end RingFaulted
end

/-! ### Issues (R553 to R555) -/

/-- What an issue brings about besides: a record of a system source, issued or accumulated (R505, R554). -/
def issueAgain (f src c a0 : Nat) (s : State) : State :=
  match openWindow s src c with
  | some _ => accumulate (newRec src c a0 0 s) s
  | none => startWindow src c (issueF f (newRec src c a0 0 s) s)

theorem issueF_succ (f : Nat) (r : EventRec) (s : State) : issueF (f + 1) r s =
    (routeRec r (noteRec r s)).2.2.foldl (fun s n => issueAgain f (sysSource 21) 1 n s)
      (if (routeRec r (noteRec r s)).2.1 = true then
        issueAgain f (sysSource 24) 1 (evtCfg (routeRec r (noteRec r s)).1 r.source).pod.toNat (routeRec r (noteRec r s)).1
       else (routeRec r (noteRec r s)).1) := rfl

theorem issueF_unfaulted {f : Nat} {r : EventRec} (routed : routeRec r (noteRec r s) = (t, false, [])) : issueF (f + 1) r s = t := by
  rw [issueF_succ, routed]
  rfl

/-- What the parts of an issue preserve, an issue preserves. -/
structure IssueKeeps (P : State → Prop) : Prop where
  note : ∀ r s, P s → P (noteRec r s)
  route : ∀ r s, P s → P (routeRec r s).1
  more : ∀ r s, P s → P (accumulate r s)
  opens : ∀ src c s, 1408 ≤ src → P s → P (startWindow src c s)

namespace IssueKeeps

variable {P : State → Prop} (h : IssueKeeps P)
include h

theorem again_of {f : Nat} (issues : ∀ r s, P s → P (issueF f r s)) {src : Nat} (system : 1408 ≤ src) (c a0 : Nat) {s : State} (holds : P s) :
    P (issueAgain f src c a0 s) := by
  unfold issueAgain
  split
  · exact h.more _ _ holds
  · exact h.opens _ _ _ system (issues _ _ holds)

theorem routed_of {f : Nat} (issues : ∀ r s, P s → P (issueF f r s)) {r : EventRec} {s : State} (holds : P (routeRec r (noteRec r s)).1) :
    P (issueF (f + 1) r s) := by
  rw [issueF_succ]
  have wraps (l : List Nat) (u : State) (holds : P u) : P (l.foldl (fun s n => issueAgain f (sysSource 21) 1 n s) u) := by
    induction l generalizing u with
    | nil => exact holds
    | cons n l ih => exact ih _ (h.again_of issues (by decide) 1 n holds)
  refine wraps _ _ ?_
  split
  · exact h.again_of issues (by decide) 1 _ holds
  · exact holds

theorem issueF (f : Nat) (r : EventRec) {s : State} (holds : P s) : P (issueF f r s) := by
  induction f generalizing r s with
  | zero => exact h.note r s holds
  | succ f ih => exact h.routed_of (fun r s => ih r) (h.route _ _ (h.note _ _ holds))

/-- What holds once the record is routed holds at the end of its issue. -/
theorem routed {f : Nat} {r : EventRec} {s : State} (holds : P (routeRec r (noteRec r s)).1) : P (Machine.issueF (f + 1) r s) :=
  h.routed_of (fun r _ => h.issueF f r) holds

end IssueKeeps

theorem startWindow_windows (src c : Nat) (s : State) : (startWindow src c s).evt = { s.evt with windows := s.evt.windows ++
    if (evtCfg s src).coalesceUs = 0 then [] else [{ source := src, cause := c, ends := s.now + us (evtCfg s src).coalesceUs.toNat, acc := none }] } := by
  unfold startWindow
  dsimp only
  by_cases off : (evtCfg s src).coalesceUs = 0
  · rw [if_pos off, if_pos (by rw [off]; rfl), List.append_nil]
  · rw [if_neg off, if_neg (show ¬ (evtCfg s src).coalesceUs.toNat = 0 from fun zero => off (BitVec.eq_of_toNat_eq zero))]

theorem cfgKept_issues (cfg : Table EvtCfg) : IssueKeeps (fun s => s.evt.cfg = cfg) where
  note r s kept := (congrArg Events.cfg (noteRec_evt r s)).trans kept
  route r s kept := by
    obtain ⟨rings, evt⟩ := routeRec_rings r s
    exact (congrArg Events.cfg evt).trans kept
  more _ _ kept := kept
  opens src c s _ kept := (congrArg Events.cfg (startWindow_windows src c s)).trans kept

theorem pendingKept_issues (w b : Nat) : IssueKeeps (fun s => s.evt.isPending w b = true) where
  note r s kept := by rw [noteRec_evt, Events.isPending_note, kept, Bool.true_or]
  route r s kept := by
    obtain ⟨rings, evt⟩ := routeRec_rings r s
    exact (congrArg (Events.isPending · w b) evt).trans kept
  more _ _ kept := kept
  opens src c s _ kept := (congrArg (Events.isPending · w b) (startWindow_windows src c s)).trans kept

theorem ringFaulted_issues (fn : Nat) (prod : BitVec 32) : IssueKeeps (RingFaulted fn prod) where
  note r s kept := kept.of_rings (congrArg Events.rings (noteRec_evt r s) :)
  route r _ kept := kept.route r
  more _ _ kept := kept.of_rings rfl
  opens src c s _ kept := kept.of_rings (congrArg Events.rings (startWindow_windows src c s) :)

/-- No window of a source is open. -/
def Unopened (i : Nat) (s : State) : Prop := ∀ w ∈ s.evt.windows, w.source ≠ i

theorem Unopened.openWindow {i : Nat} (h : Unopened i s) (c : Nat) : openWindow s i c = none :=
  List.find?_eq_none.mpr fun w listed => by simp [h w listed]

theorem unopened_issues {i : Nat} (resource : i < 1408) : IssueKeeps (Unopened i) where
  note r s kept := by unfold Unopened; rw [noteRec_evt]; exact kept
  route r s kept := by
    obtain ⟨rings, evt⟩ := routeRec_rings r s
    unfold Unopened
    rw [evt]
    exact kept
  more r s kept := by
    unfold Unopened accumulate replaceWhere
    intro w listed
    obtain ⟨x, old, rfl⟩ := List.mem_map.mp listed
    have same := kept x old
    dsimp only
    split
    · split <;> exact same
    · exact same
  opens src c s system kept := by
    unfold Unopened
    rw [startWindow_windows]
    intro w listed
    rcases List.mem_append.mp listed with old | new
    · exact kept w old
    · split at new
      · cases new
      · rw [List.mem_singleton.mp new]
        exact fun same => absurd resource (by simp only at same; omega)

end Sys2Proof.Machine
end

section
/-! EVENT_RECORD_ISSUE and COALESCE_WINDOW_CLOSE (R552 to R558). -/

namespace Sys2Proof.Machine

variable {s t : State} {r : EventRec}

/-! ### The issue of a record -/

@[simp] theorem evtCfg_noteRec (r : EventRec) (s : State) (i : Nat) : evtCfg (noteRec r s) i = evtCfg s i :=
  (congrArg (fun x : Events => tget ({} : EvtCfg) x.cfg i) (noteRec_evt r s) :)

@[simp] theorem evtRing_noteRec (r : EventRec) (s : State) (fn : Nat) : evtRing (noteRec r s) fn = evtRing s fn :=
  (congrArg (fun x : Events => tget ({} : EvtRing) x.rings fn) (noteRec_evt r s) :)

@[simp] theorem hostOk_noteRec (r : EventRec) (s : State) (fn : Nat) : hostOk (noteRec r s) fn = hostOk s fn := hostOk_of_calm (noteRec_calm ..) fn

theorem sentKept_issues (o : Output) : IssueKeeps (fun s => o ∈ s.out) where
  note _ _ sent := (noteRec_quiet ..).mem sent
  route _ _ sent := (routeRec_quiet ..).mem sent
  more _ _ sent := (accumulate_quiet ..).mem sent
  opens _ _ _ _ sent := (startWindow_quiet ..).mem sent

theorem issueRec_copies (r : EventRec) (s : State) : .eventCopy r ∈ (issueRec r s).out :=
  (sentKept_issues _).routed ((sentKept_issues _).route _ _ (noteRec_copies r s))

/-- An issue sets the pending bit of its source (R558). -/
theorem issueRec_pends (r : EventRec) (s : State) : (issueRec r s).evt.isPending (r.source / 64) (r.source % 64) = true := by
  refine (pendingKept_issues _ _).routed ((pendingKept_issues _ _).route _ _ ?_)
  rw [noteRec_evt, Events.isPending_note]
  simp

theorem issueRec_cfg (r : EventRec) (s : State) : (issueRec r s).evt.cfg = s.evt.cfg := (cfgKept_issues s.evt.cfg).issueF _ r rfl

/-- A record of a source that is off, or of a cause that is masked, is noted alone. -/
theorem issueRec_off (off : (evtCfg s r.source).enable = false ∨ bit (evtCfg s r.source).causeMask.toNat (r.cause - 1) = false) :
    issueRec r s = noteRec r s := issueF_unfaulted (routeRec_off (by simpa using off))

section
variable {fn : Nat} (routed : (evtCfg s r.source).pod.toNat = fn) (on : (evtCfg s r.source).enable = true)
  (selected : bit (evtCfg s r.source).causeMask.toNat (r.cause - 1) = true)
include routed on selected

theorem issueRec_drops (shut : (evtRing s fn).enable = false ∨ (evtRing s fn).fault = true ∨
      2 ^ (evtRing s fn).sizeLog2.toNat ≤ ((evtRing s fn).prod - (evtRing s fn).cons).toNat) :
    evtRing (issueRec r s) fn = { evtRing s fn with lost := satAdd (evtRing s fn).lost 1, lostSeen := true, dropped := true } := by
  rw [issueRec, issueF_unfaulted (routeRec_drops (by simpa using routed) (by simpa using on) (by simpa using selected) (by simpa using shut)),
    ringDrop, evtRing_updEvtRing_self, evtRing_noteRec]

section
variable (enabled : (evtRing s fn).enable = true) (sound : (evtRing s fn).fault = false)
  (room : ((evtRing s fn).prod - (evtRing s fn).cons).toNat < 2 ^ (evtRing s fn).sizeLog2.toNat)
include enabled sound room

theorem issueRec_writes (open_ : hostOk s fn = true) (uncounted : s.obs.ctrs = []) :
    evtRing (issueRec r s) fn = { evtRing s fn with prod := (evtRing s fn).prod + 1, dropped := false } ∧
    .hostWrite fn ((evtRing s fn).base.toNat * 4096 + 32 * ((evtRing s fn).prod.toNat % 2 ^ (evtRing s fn).sizeLog2.toNat))
      (evtBytes r (r.flags + if (evtRing s fn).dropped then 4 else 0)) ∈ (issueRec r s).out := by
  obtain ⟨u, routes, ring, sent⟩ := routeRec_writes (s := noteRec r s) (fn := fn) (by simpa using routed) (by simpa using on)
    (by simpa using selected) (by simpa using enabled) (by simpa using sound) (by simpa using room) (by simpa using open_)
    ((congrArg Fabric.ctrs (noteRec_fabric r s) :).trans uncounted)
  rw [evtRing_noteRec] at ring sent
  rw [issueRec, issueF_unfaulted routes]
  exact ⟨ring, sent⟩

theorem issueRec_faults (cut : hostOk s fn = false) : RingFaulted fn (evtRing s fn).prod (issueRec r s) := by
  have routes := routeRec_faults (s := noteRec r s) (fn := fn) (by simpa using routed) (by simpa using on)
    (by simpa using selected) (by simpa using enabled) (by simpa using sound) (by simpa using room) (by simpa using cut)
  refine (ringFaulted_issues fn _).routed ?_
  rw [routes]
  refine RingFaulted.drop ?_ fn
  unfold RingFaulted
  rw [evtRing_updEvtRing_self, evtRing_noteRec]
  exact ⟨rfl, rfl⟩

end
end

/-! ### EVENT_RECORD_ISSUE (R553 to R555) -/

section
variable {src c a0 a1 : Nat}

theorem execEventRecordIssue_ignored (off : s.pwr.phase ≠ .running ∨ causeOk src c = false) : exec (.eventRecordIssue src c a0 a1) s = .next s :=
  congrArg Host.Outcome.next (if_pos (by simpa using off))

section
variable (running : Running s) (issues : causeOk src c = true) (there : sourceExists s src = true)
include running issues there

theorem execEventRecordIssue_raises : exec (.eventRecordIssue src c a0 a1) s = .next
    (if openWindow s src c = none then startWindow src c (issueRec (newRec src c (a0 % 2 ^ 64) (a1 % 2 ^ 64) s) s)
     else accumulate (newRec src c (a0 % 2 ^ 64) (a1 % 2 ^ 64) s) s) := by
  refine (congrArg Host.Outcome.next (if_neg (by simp [running, issues])) : _ =
    Host.Outcome.next (raiseRec (newRec src c (a0 % 2 ^ 64) (a1 % 2 ^ 64) s) s)).trans (congrArg Host.Outcome.next ?_)
  unfold raiseRec
  rw [if_neg (by simp [newRec, there])]
  cases opened : openWindow s src c with
  | none => rw [if_pos rfl]; simp only [newRec, opened]
  | some w => rw [if_neg nofun]; simp only [newRec, opened]

theorem execEventRecordIssue_issues (closed : openWindow s src c = none) : exec (.eventRecordIssue src c a0 a1) s = .next
    (startWindow src c (issueRec (newRec src c (a0 % 2 ^ 64) (a1 % 2 ^ 64) s) s)) :=
  (execEventRecordIssue_raises running issues there).trans (congrArg Host.Outcome.next (if_pos closed))

theorem execEventRecordIssue_accumulates (opened : openWindow s src c ≠ none) : exec (.eventRecordIssue src c a0 a1) s = .next
    (accumulate (newRec src c (a0 % 2 ^ 64) (a1 % 2 ^ 64) s) s) :=
  (execEventRecordIssue_raises running issues there).trans (congrArg Host.Outcome.next (if_neg opened))

end
end

theorem evtRing_startWindow (src c : Nat) (s : State) (fn : Nat) : evtRing (startWindow src c s) fn = evtRing s fn :=
  (congrArg (fun x : Events => tget ({} : EvtRing) x.rings fn) (startWindow_windows src c s) :)

theorem startWindow_pends {src : Nat} (source : r.source = src) (c : Nat) (s : State) :
    bit (tget 0 (startWindow src c (issueRec r s)).evt.pending (src / 64)).toNat (src % 64) = true := by
  subst source
  rw [startWindow_windows]
  exact issueRec_pends r s

/-- The window that opens after a record that is noted alone. -/
theorem startWindow_noteRec (src c : Nat) (r : EventRec) (s : State) : (startWindow src c (noteRec r s)).evt =
    { s.evt.note r with windows := s.evt.windows ++
        if (evtCfg s src).coalesceUs = 0 then [] else [{ source := src, cause := c, ends := s.now + us (evtCfg s src).coalesceUs.toNat, acc := none }] } := by
  rw [startWindow_windows, evtCfg_noteRec, noteRec_evt, (noteRec_quiet r s).now]
  rfl

theorem startWindow_off {src c : Nat} (source : r.source = src) (cause : r.cause = c)
    (off : (evtCfg s src).enable = false ∨ bit (evtCfg s src).causeMask.toNat (c - 1) = false) :
    (startWindow src c (issueRec r s)).evt.rings = s.evt.rings ∧ (startWindow src c (issueRec r s)).evt.windows = s.evt.windows ++
      if (evtCfg s src).coalesceUs = 0 then [] else [{ source := src, cause := c, ends := s.now + us (evtCfg s src).coalesceUs.toNat, acc := none }] := by
  subst source cause
  rw [issueRec_off off, startWindow_noteRec]
  exact ⟨rfl, rfl⟩

/-! ### COALESCE_WINDOW_CLOSE (R555) -/

section
variable {src c : Nat}

theorem execCoalesceWindowClose_idle (closed : openWindow s src c = none) : exec (.coalesceWindowClose src c) s = .next s := by
  refine (?_ : execCoalesceWindowClose src c s = _)
  rw [execCoalesceWindowClose, closed]

variable {w : EvtWindow} (opened : openWindow s src c = some w)
include opened

theorem execCoalesceWindowClose_removes (empty : w.acc = none) : exec (.coalesceWindowClose src c) s = .next
    { s with now := max s.now w.ends, evt.windows := s.evt.windows.filter (fun x => !(x.source == src && x.cause == c)) } := by
  refine (?_ : execCoalesceWindowClose src c s = _)
  rw [execCoalesceWindowClose, opened]
  dsimp only
  rw [empty]
  rfl

theorem execCoalesceWindowClose_issues {r : EventRec} {n : Nat} (held : w.acc = some (r, n)) :
    ∃ t, exec (.coalesceWindowClose src c) s = .next t ∧ t.now = max s.now w.ends ∧
      .eventCopy { r with count := n, flags := r.flags + 8 } ∈ t.out := by
  let u : State := { s with now := max s.now w.ends, evt.windows := s.evt.windows.filter (fun x => !(x.source == src && x.cause == c)) }
  let counted : EventRec := { r with count := n, flags := r.flags + 8 }
  refine ⟨startWindow src c (issueRec counted u), ?_, ?_, (startWindow_quiet ..).mem (issueRec_copies counted u)⟩
  · refine (?_ : execCoalesceWindowClose src c s = _)
    rw [execCoalesceWindowClose, opened]
    dsimp only
    rw [held]
    rfl
  · exact (startWindow_quiet ..).now.trans (issueF_quiet ..).now

end

end Sys2Proof.Machine
end

section
/-! The obligation of the issue of events (O50). -/

namespace Sys2Proof

open Machine

/-- Settles O50: the record is issued, and the window that opens with it leaves the rings. -/
theorem eventsAreIssued : Obligations.EventsAreIssued := by
  unfold Obligations.EventsAreIssued
  refine ⟨fun s src c a0 a1 => execEventRecordIssue_ignored, fun s src c a0 a1 running issues there => ?_, fun s src c w =>
    ⟨execCoalesceWindowClose_idle, fun opened => ⟨execCoalesceWindowClose_removes opened, fun r n => execCoalesceWindowClose_issues opened⟩⟩⟩
  intro r cfg fn g
  refine ⟨execEventRecordIssue_accumulates running issues there, fun closed => ?_⟩
  have next : exec (.eventRecordIssue src c a0 a1) s = .next (startWindow src c (issueRec r s)) :=
    execEventRecordIssue_issues running issues there closed
  obtain ⟨source, cause, flags⟩ : r.source = src ∧ r.cause = c ∧ r.flags = quality s := ⟨rfl, rfl, rfl⟩
  clear_value r
  subst source cause
  have opens := startWindow_windows r.source r.cause (issueRec r s)
  have ring (m : Nat) : evtRing (startWindow r.source r.cause (issueRec r s)) m = evtRing (issueRec r s) m := evtRing_startWindow ..
  refine ⟨⟨_, next, (startWindow_quiet ..).mem (issueRec_copies r s), startWindow_pends rfl r.cause s, ?_⟩,
    fun off => ⟨_, next, startWindow_off rfl rfl off⟩, fun on selected =>
    ⟨fun shut => ⟨_, next, (ring fn).trans (issueRec_drops rfl on selected shut)⟩, fun enabled sound room => ⟨fun open_ uncounted => ?_,
      fun cut => ⟨_, next, ?_⟩⟩⟩⟩
  · exact (congrArg Events.cfg opens :).trans (issueRec_cfg r s)
  · obtain ⟨advanced, sent⟩ := issueRec_writes rfl on selected enabled sound room open_ uncounted
    rw [flags] at sent
    exact ⟨_, next, (ring fn).trans advanced, (startWindow_quiet ..).mem sent⟩
  · exact (issueRec_faults rfl on selected enabled sound room cut).of_rings (congrArg Events.rings opens :)

end Sys2Proof
end

section
/-! EVT_PENDING (R558). -/

namespace Sys2Proof.Machine

variable {s t : State} {w v : Nat}

theorem regAt_evtPending (has : w < 24) (s : State) : regAt s 0 (0x144000 + 8 * w) = some (.evtPending w) := by
  interval_cases w <;> rfl

section
variable (has : w < 24) (open_ : pageOpen s 0 = true)
include has open_

theorem execReadClear_evtPending : exec (.readClear 0 (0x144000 + 8 * w) 64) s =
    .next (emit (.regRead 0 (0x144000 + 8 * w) (tget 0 s.evt.pending w).toNat) s) :=
  read_word (by decide) open_ (by rw [barSize, if_pos rfl]; omega) (by omega) (regAt_evtPending has s) rfl

theorem execRegisterWrite_evtPending (fits : v < 2 ^ 64) : ∃ t, exec (.registerWrite 0 (0x144000 + 8 * w) 64 v) s = .next t ∧
    (∀ b, b < 64 → bit (tget 0 t.evt.pending w).toNat b = (bit (tget 0 s.evt.pending w).toNat b && !bit v b)) ∧
    (∀ x, x ≠ w → tget 0 t.evt.pending x = tget 0 s.evt.pending x) := by
  refine ⟨_, write_word (by decide) open_ (by rw [barSize, if_pos rfl]; omega) (by omega) (regAt_evtPending has s) rfl rfl v, ?_⟩
  rw [Nat.mod_eq_of_lt fits]
  refine ⟨fun b inWord => ?_, fun x other => tget_tset_other _ _ _ other⟩
  have cleared : tget 0 (writeReg (.evtPending w) v s).evt.pending w = tget 0 s.evt.pending w &&& ~~~(BitVec.ofNat 64 v) := tget_tset_self ..
  rw [cleared, bit_eq_testBit, BitVec.testBit_toNat, BitVec.getLsbD_and, BitVec.getLsbD_not, BitVec.getLsbD_ofNat, decide_eq_true inWord,
    Bool.true_and, Bool.true_and, bit_eq_testBit, BitVec.testBit_toNat, bit_eq_testBit]

end

/-- A record of a disabled source sets its pending bit and no other (R558). -/
theorem startWindow_pendsOnly {r : EventRec} {src : Nat} (source : r.source = src) (c : Nat) (off : (evtCfg s src).enable = false) {w b : Nat}
    (other : w ≠ src / 64 ∨ b ≠ src % 64) :
    bit (tget 0 (startWindow src c (issueRec r s)).evt.pending w).toNat b = bit (tget 0 s.evt.pending w).toNat b := by
  subst source
  rw [issueRec_off (.inl off), startWindow_noteRec]
  refine (Events.isPending_note r s.evt w b).trans ?_
  rw [show (w == r.source / 64 && b == r.source % 64) = false by simpa [imp_iff_not_or] using other, Bool.or_false, Events.isPending]

end Sys2Proof.Machine
end

section
/-! The obligation of the pending bits (O52). -/

namespace Sys2Proof

open Machine

/-- Settles O52, from the reads and writes of EVT_PENDING and from the issue of a record. -/
theorem pendingBitsRecordIssues : Obligations.PendingBitsRecordIssues := by
  unfold Obligations.PendingBitsRecordIssues
  refine ⟨fun w has => ⟨rfl, regAt_evtPending has⟩, fun s w v has open_ fits =>
    ⟨⟨_, execReadClear_evtPending has open_, rfl, rfl⟩, execRegisterWrite_evtPending has open_ fits⟩,
    fun s src c a0 a1 running issues there closed => ?_⟩
  exact ⟨_, execEventRecordIssue_issues running issues there closed, startWindow_pends rfl c s,
    fun off w b _ other => startWindow_pendsOnly rfl c off other⟩

end Sys2Proof
end

section
/-! Event routing, event rings and MSI-X vectors (R554 to R563). -/

namespace Sys2Proof.Machine

variable {s t : State} {c : Caller} {req : Bytes}

/-! ### EVT_SRCi_CFG (R555 to R557) -/

theorem flushWindows_unopened {i : Nat} (resource : i < 1408) (s : State) : Unopened i (flushWindows i s) := by
  have issues (ws : List EvtWindow) (u : State) (kept : Unopened i u) : Unopened i (ws.foldl (fun s w =>
      match w.acc with
      | none => s
      | some (r, n) => issueRec { r with count := n, flags := r.flags + 8 } s) u) := by
    induction ws generalizing u with
    | nil => exact kept
    | cons w ws ih =>
      refine ih _ ?_
      dsimp only
      split
      · exact kept
      · exact (unopened_issues resource).issueF _ _ kept
  refine issues _ _ fun w listed => ?_
  simpa using (List.mem_filter.mp listed).2

theorem putEvtCfg_sets (i : Nat) (x : EvtCfg) (s : State) : evtCfg (putEvtCfg i x s) i = x := tget_tset_self ..

theorem putEvtCfg_closes {i : Nat} (resource : i < 1408) (x : EvtCfg) (s : State) (c : Nat) : openWindow (putEvtCfg i x s) i c = none :=
  Unopened.openWindow (s := putEvtCfg i x s) (flushWindows_unopened resource s) c

/-- Whether EVT_SRCi_CFG takes the fields of a write (R556). -/
theorem evtCfgAllowed_of (s : State) (i v : Nat) : evtCfgAllowed s i (evtCfgOf v) = (decide (9 ≤ bits v 46 10) && (bits v 56 7 == 0 ||
    (decide (bits v 56 7 ≤ 64) && fnExists s (bits v 56 7) && sourceOwner s i == bits v 56 7 && decide (bits v 46 10 ≤ 15)))) := by
  have pod : (evtCfgOf v).pod.toNat = bits v 56 7 := Nat.mod_mod _ _
  have vector : (evtCfgOf v).vector.toNat = bits v 46 10 := Nat.mod_mod _ _
  rw [evtCfgAllowed, pod, vector]

section
variable {i v : Nat} (has : i < 1536) (open_ : pageOpen s 0 = true)
include has open_

theorem execEvtSrcCfgWrite_acts : exec (.evtSrcCfgWrite i v) s = .next (evtCfgWrite i v s) :=
  (if_neg (by omega)).trans (whileHost_acts open_ _)

theorem execEvtSrcCfgWrite_absent (absent : sourceExists s i = false) : exec (.evtSrcCfgWrite i v) s = .next s :=
  (execEvtSrcCfgWrite_acts has open_).trans (congrArg Host.Outcome.next (if_pos (by simp [absent])))

variable (there : sourceExists s i = true)
include there

theorem execEvtSrcCfgWrite_takes (allowed : evtCfgAllowed s i (evtCfgOf v) = true) : ∃ t, exec (.evtSrcCfgWrite i v) s = .next t ∧
    evtCfg t i = evtCfgOf v ∧ (i < 1408 → ∀ c, openWindow t i c = none) :=
  ⟨putEvtCfg i (evtCfgOf v) s, (execEvtSrcCfgWrite_acts has open_).trans
      (congrArg Host.Outcome.next ((if_neg (by simp [there])).trans (if_pos allowed))),
    putEvtCfg_sets .., fun resource => putEvtCfg_closes resource _ s⟩

theorem execEvtSrcCfgWrite_rejects (refused : evtCfgAllowed s i (evtCfgOf v) = false) :
    exec (.evtSrcCfgWrite i v) s = .next (raiseSys 0 3 0 (0x140000 + 8 * i) s) :=
  (execEvtSrcCfgWrite_acts has open_).trans (congrArg Host.Outcome.next ((if_neg (by simp [there])).trans (if_neg (by simp [refused]))))

end

/-! ### evt.route (R563) -/

section
variable (start : mayStart s c 0x1301 [] = true) (form : shaped req 8 [(7, 1)] = true)
include start form

theorem execEvtRoute_strays (tenant : c.pod ≠ 0) (far : 15 < rd req 3 1) :
    exec (.evtRoute c req) s = Answers c 0x1301 req St.badParam (statusResp St.badParam) s :=
  runCmd_answers start form (by simp) (if_pos (by simp [tenant, far]))

variable (there : sourceExists s (rd req 0 2) = true) (enable : rd req 2 1 ≤ 1) (free : 9 ≤ rd req 3 1)
include there enable free

theorem execEvtRoute_denies (tenant : c.pod ≠ 0) (near : rd req 3 1 ≤ 15) (other : sourceOwner s (rd req 0 2) ≠ c.pod) :
    exec (.evtRoute c req) s = Answers c 0x1301 req St.denied (statusResp St.denied) s := by
  refine runCmd_answers start form (by simp) (?_ : evtRouteBody c req s = _)
  unfold evtRouteBody
  dsimp only
  rw [if_neg (by
    simp only [there, Bool.not_true, Bool.or_eq_true, Bool.false_eq_true, Bool.and_eq_true, decide_eq_true_eq, false_or]
    omega), if_pos (by simp [tenant, other])]
  rfl

theorem execEvtRoute_routes (allowed : c.pod = 0 ∨ (rd req 3 1 ≤ 15 ∧ sourceOwner s (rd req 0 2) = c.pod)) :
    ∃ u, exec (.evtRoute c req) s = Answers c 0x1301 req St.ok (statusResp St.ok) u ∧ evtCfg u (rd req 0 2) =
      { enable := bit (rd req 2 1) 0, pod := BitVec.ofNat 7 c.pod, vector := BitVec.ofNat 10 (rd req 3 1),
        coalesceUs := BitVec.ofNat 16 (rd req 4 2), causeMask := BitVec.ofNat 8 (rd req 6 1) } := by
  have body : evtRouteBody c req s = answer St.ok (putEvtCfg (rd req 0 2)
      { enable := bit (rd req 2 1) 0, pod := BitVec.ofNat 7 c.pod, vector := BitVec.ofNat 10 (rd req 3 1),
        coalesceUs := BitVec.ofNat 16 (rd req 4 2), causeMask := BitVec.ofNat 8 (rd req 6 1) } s) := by
    unfold evtRouteBody
    dsimp only
    rw [if_neg, if_neg]
    · rcases allowed with host | ⟨-, mine⟩
      · simp [host]
      · simp [mine]
    · simp only [there, Bool.not_true, Bool.or_eq_true, Bool.false_eq_true, Bool.and_eq_true, decide_eq_true_eq, bne_iff_ne, false_or]
      omega
  exact ⟨_, runCmd_answers start form (by simp) body, putEvtCfg_sets ..⟩

end

/-! ### Event rings (R554, R559) -/

section
variable {fn : Nat} (page : fn ≤ 64) (open_ : pageOpen s fn = true)
include page open_

theorem onPage_acts (f : State → State) : onPage fn s f = .next (f s) :=
  (if_neg (by omega)).trans (congrArg Host.Outcome.next (if_pos open_))

theorem execEvtRingEnable_acts (on : Bool) : exec (.evtRingEnable fn on) s =
    .next { s with evt.rings := tset s.evt.rings fn (evtRingEnable on (evtRing s fn)) } := onPage_acts page open_ _

theorem execEvtRing_sets :
    let g := evtRing s fn
    let put := fun (x : EvtRing) => { s with evt.rings := tset s.evt.rings fn x }
    exec (.evtRingEnable fn false) s = .next (put { g with enable := false }) ∧
    (7 ≤ g.sizeLog2.toNat ∧ g.sizeLog2.toNat ≤ 16 → exec (.evtRingEnable fn true) s = .next (put { g with enable := true })) ∧
    (g.sizeLog2.toNat < 7 ∨ 16 < g.sizeLog2.toNat →
      exec (.evtRingEnable fn true) s = .next (put { g with enable := false, fault := true })) ∧
    exec (.evtRingFaultClear fn) s = .next (put { g with fault := false }) := by
  intro g put
  have sets {on : Bool} {x : EvtRing} (set : evtRingEnable on g = x) : exec (.evtRingEnable fn on) s = .next (put x) :=
    (execEvtRingEnable_acts page open_ on).trans (congrArg (fun x => Host.Outcome.next (put x)) set)
  refine ⟨sets rfl, fun legal => sets ?_, fun illegal => sets ?_, onPage_acts page open_ _⟩
  · exact (if_neg (by decide)).trans (if_neg (by simp only [Bool.or_eq_true, decide_eq_true_eq]; omega))
  · exact (if_neg (by decide)).trans (if_pos (by simp only [Bool.or_eq_true, decide_eq_true_eq]; omega))

end

/-! ### MSI-X vectors (R463, R560) -/

theorem sendMsix_sends {fn v : Nat} (open_ : hostOk s fn = true) (unmasked : bit (msixEntry s fn v).ctrl.toNat 0 = false) :
    sendMsix fn v s = emit (.msix fn v) s := (if_neg (by simp [open_])).trans (if_neg (by simp [unmasked]))

theorem bit_unmasked (x : BitVec 32) : bit (x &&& 0xFFFFFFFE).toNat 0 = false := by
  rw [bit_eq_testBit, BitVec.testBit_toNat, BitVec.getLsbD_and, show (0xFFFFFFFE : BitVec 32).getLsbD 0 = false by decide, Bool.and_false]

theorem execMsixVectorUnmask_unmasks {fn v : Nat} (page : fn ≤ 64) (has : v < (if fn = 0 then 1024 else 16)) (open_ : pageOpen s fn = true) :
    let k := 1024 * fn + v
    let e : MsixEntry := { msixEntry s fn v with ctrl := (msixEntry s fn v).ctrl &&& 0xFFFFFFFE }
    let u := { s with host.msix := tset s.host.msix k e, host.msixPending := s.host.msixPending.filter (· != k) }
    (s.host.msixPending.contains k = true → hostOk s fn = true →
      exec (.msixVectorUnmask fn v) s = .next { u with out := s.out ++ [.msix fn v] }) ∧
    (s.host.msixPending.contains k = false → exec (.msixVectorUnmask fn v) s = .next u) := by
  intro k e u
  have acts : exec (.msixVectorUnmask fn v) s = .next (if s.host.msixPending.contains k then sendMsix fn v u else u) :=
    (if_neg (by simp only [Bool.or_eq_true, decide_eq_true_eq]; omega)).trans (if_neg (by simp [open_]))
  have unmasked : bit (msixEntry u fn v).ctrl.toNat 0 = false := by
    rw [show msixEntry u fn v = e from tget_tset_self ..]
    exact bit_unmasked _
  refine ⟨fun pending host => acts.trans (congrArg Host.Outcome.next ((if_pos pending).trans ?_)),
    fun idle => acts.trans (congrArg Host.Outcome.next (if_neg (by simp only [idle]; decide)))⟩
  exact (sendMsix_sends (s := u) host unmasked).trans rfl

section
variable {fn a : Nat} (host : hostOk s fn = true)
include host

theorem execAdmitVectorDeferred_ends (at_ : (tget {} s.host.deferral fn).admitAt = some a) (due : (tget {} s.host.deferral fn).admitDue = true)
    (unmasked : bit (msixEntry s fn 7).ctrl.toNat 0 = false) :
    let d := tget {} s.host.deferral fn
    let t := max s.now (a + us 100)
    (podBlocked { s with now := t } fn = true → exec (.admitVectorDeferred fn) s = .next
      { s with
          now := t
          host.deferral := tset s.host.deferral fn { d with admitDue := false, admitAt := some t }
          out := s.out ++ [.msix fn 7] }) ∧
    (podBlocked { s with now := t } fn = false → exec (.admitVectorDeferred fn) s = .next
      { s with
          now := t
          host.deferral := tset s.host.deferral fn { d with admitDue := false } }) := by
  intro d t
  let u (go : Bool) : State := { s with
    now := t, host.deferral := tset s.host.deferral fn { d with admitDue := false, admitAt := if go = true then some t else some a } }
  have acts (go : Bool) (blocked : podBlocked { s with now := t } fn = go) :
      exec (.admitVectorDeferred fn) s = .next (if go = true then sendMsix fn 7 (u go) else u go) := by
    refine (?_ : execAdmitVectorDeferred fn s = _)
    subst blocked
    unfold execAdmitVectorDeferred
    dsimp only
    rw [at_]
    dsimp only
    rw [if_neg (by simp [due])]
    rfl
  have kept : ({ d with admitDue := false } : Deferral) = { d with admitDue := false, admitAt := some a } := by rw [← at_]
  refine ⟨fun blocked => (acts true blocked).trans (congrArg Host.Outcome.next (sendMsix_sends (s := u true) host unmasked)), fun free => ?_⟩
  rw [kept]
  exact acts false free

theorem execDeliveryVectorDeferred_ends (at_ : (tget {} s.host.deferral fn).deliverAt = some a)
    (due : (tget {} s.host.deferral fn).deliverDue = true) (unmasked : bit (msixEntry s fn 8).ctrl.toNat 0 = false) :
    let d := tget {} s.host.deferral fn
    let t := max s.now (a + us 50)
    exec (.deliveryVectorDeferred fn) s = .next
      { s with
          now := t
          host.deferral := tset s.host.deferral fn { d with deliverDue := false, deliverAt := some t }
          out := s.out ++ [.msix fn 8] } := by
  intro d t
  refine (?_ : execDeliveryVectorDeferred fn s = _)
  unfold execDeliveryVectorDeferred
  dsimp only
  rw [at_]
  dsimp only
  rw [if_neg (by simp [due]), sendMsix_sends (by exact host) (by exact unmasked)]
  rfl

end

end Sys2Proof.Machine
end

section
/-! The obligation of event routing and vectors (O51). -/

namespace Sys2Proof

open Machine

/-- Settles O51, write by write and vector by vector. -/
theorem eventRoutingAndVectors : Obligations.EventRoutingAndVectors := by
  unfold Obligations.EventRoutingAndVectors
  refine ⟨fun s i v has open_ => ⟨execEvtSrcCfgWrite_absent has open_, fun there => ?_⟩,
    fun s c req start form there enable free => ⟨execEvtRoute_routes start form there enable free,
      execEvtRoute_denies start form there enable free, execEvtRoute_strays start form⟩,
    fun s fn => execEvtRing_sets, fun s fn v => execMsixVectorUnmask_unmasks,
    fun s fn a host => ⟨execAdmitVectorDeferred_ends host, execDeliveryVectorDeferred_ends host⟩⟩
  intro p ok
  have same : evtCfgAllowed s i (evtCfgOf v) = ok := evtCfgAllowed_of s i v
  exact ⟨fun allowed => execEvtSrcCfgWrite_takes has open_ there (same.trans allowed),
    fun refused => execEvtSrcCfgWrite_rejects has open_ there (same.trans refused)⟩

end Sys2Proof
end
